-- ==== Sys2Proof/Word.lean ====
section
/-! DEFINITION. The word types and the small named sets that commands and state share. -/

namespace Sys2Proof

/-- One byte of a frame, an image or a record (R9). -/
abbrev Byte := BitVec 8
/-- A register word (Register tables: registers are 32 bits wide). -/
abbrev Word := BitVec 32
/-- A unit address: string number in the high byte, position in the low byte (R37). -/
abbrev UAddr := BitVec 16

/-- The two safety channels (R22): A on CDA, B on CDB. -/
inductive Ch where
  | a | b
  deriving DecidableEq, Repr

/-- The other channel. -/
def Ch.other : Ch → Ch
  | .a => .b
  | .b => .a

/-- The path on which a register access arrives (R120, R461). -/
inductive Path where
  | host | ring
  deriving DecidableEq, Repr

/-- The four ring ports (R49, R390). -/
inductive RPort where
  | n | s | e | w
  deriving DecidableEq, Repr

/-- Bit or list position of a ring port, in the order N, S, E, W (R426). -/
def RPort.ix : RPort → Nat
  | .n => 0
  | .s => 1
  | .e => 2
  | .w => 3

/-- The port on which a frame received on this port is forwarded (R392). -/
def RPort.opposite : RPort → RPort
  | .n => .s
  | .s => .n
  | .e => .w
  | .w => .e

/-- The two CAN ports (R427). -/
inductive CPort where
  | can1 | can2
  deriving DecidableEq, Repr

/-- The other CAN port. -/
def CPort.other : CPort → CPort
  | .can1 => .can2
  | .can2 => .can1

/-- One side of a contactor output (R315): OUTnH is channel A's, OUTnL channel B's. -/
inductive Side where
  | h | l
  deriving DecidableEq, Repr

/-- The level a coil-end readback reads (R335). -/
inductive Level where
  | high | low | middle
  deriving DecidableEq, Repr

/-- The three memories with a word code (R42). -/
inductive Mem where
  | sramA | sramB | mram
  deriving DecidableEq, Repr

/-- The 64-bit quantities whose low half, when read, latches the high half (R174, R278, R511). -/
inductive LatchReg where
  | q1 | q2 | qc | sn
  deriving DecidableEq, Repr

/-- What a link word carried that failed its check (R205). -/
inductive LinkItem where
  /-- window values of the window with this index -/
  | window (w : Fin 4)
  /-- one continuous raw sample of I1 (false) or I2 (true) -/
  | current (second : Bool)
  /-- one continuous raw sample of a cell -/
  | cell (n : Fin 96)
  deriving DecidableEq, Repr

/-- Blocks that a BLKRST holds in reset (R372). -/
inductive Blk where
  | link (seg : Fin 4) (ch : Ch)
  | segment (seg : Fin 4)
  | ratiometric
  | ringPort (p : RPort)
  | can (p : CPort)
  | hostRx
  deriving DecidableEq, Repr

/-- One delivered raw sample with its overload mark (R138, R144). -/
structure Raw where
  x : Int
  ovl : Bool := false
  deriving DecidableEq, Repr

/-- The raw samples one channel contributed to one window (R92). -/
structure WinRaw where
  xs : List Int
  ovl : Bool := false
  deriving DecidableEq, Repr

/-- What the segment dies and the input stages deliver at the end of one sub-beat (R82, R95, R103, R208, R316). -/
structure SubBeatIn where
  /-- continuous I1 and I2 samples; none when the sample is lost after its retry (R153) -/
  i1 : Option Raw
  i2 : Option Raw
  /-- continuous cell samples, cell 1 first; none where lost -/
  cells : List (Option Raw)
  /-- switch currents in µA, cell 1 first (R208) -/
  ib : List Int
  /-- raw contact levels, bit n-1 for input n, 1 closed -/
  inA : BitVec 8
  inB : BitVec 8
  /-- coil current of outputs 1 to 8 in mA as the OUTnH side, and as the OUTnL side measures it (R316) -/
  coil : List Nat
  coilL : List Nat
  /-- readback levels of the OUTnH ends and of the OUTnL ends (R335) -/
  rbH : List Level
  rbL : List Level
  /-- VS reading in mV (R70) -/
  vs : Nat
  /-- the hold-up store has reached its stop reserve (R527) -/
  reserve : Bool
  deriving DecidableEq, Repr

/-- What one closed window delivered (R92, R147, R156); none means the group is not in it or lost. -/
structure WindowIn where
  cells : List (Option WinRaw)
  /-- mean switch current of each cell over the window, in µA (R208) -/
  ib : List Int
  cur : List (Option WinRaw)
  hv : List (Option WinRaw)
  /-- check conversions of the 24 check converters, segment by segment; none when the retry failed too -/
  chk : List (Option Int)
  /-- bit i: check converter i needed its retry (R205) -/
  chkRetry : BitVec 24 := 0
  deriving DecidableEq, Repr

/-- What a beat boundary observes from outside (R62, R70, R74, R85, R152, R487). -/
structure BoundaryIn where
  /-- length of the beat just ended in CLK_A cycles (R108) -/
  period : Nat
  /-- boundary minus target in CLK_S cycles (R108) -/
  phaseErr : Int
  /-- calendar time that passed in the beat, in 1/65,536 s (R487) -/
  rtc : Nat
  /-- pin voltages of CRW1 and CRW2 in mV (R62) -/
  crw1 : Nat
  crw2 : Nat
  /-- VK reading in mV (R74) -/
  vk : Nat
  /-- the WAKE pin is above its threshold (R497) -/
  wake : Bool
  /-- the whole-beat raw samples of I1 and I2 of slow cadence (R152) -/
  slow1 : Option Raw
  slow2 : Option Raw
  deriving DecidableEq, Repr

/-- Who writes or reads a region (R29, R46): the planes, the split checker, and the engines outside the planes. -/
inductive Party where
  | control | data | management | checker | intake | loader | ringCan | receivers
  deriving DecidableEq, Repr

/-- What the self-tests of a start step observed (R142, R349, R350, R499). -/
structure StartIn where
  /-- a die whose boot failed: bit 0 CDA, bit 1 CDB (step 2) -/
  bootFail : BitVec 2
  /-- first missed comparator injection of each die: class and number (step 3) -/
  missA : Option (Fin 8 × Fin 64)
  missB : Option (Fin 8 × Fin 64)
  /-- class of the first flag in an interval without injection on each die (step 3, R351) -/
  flagA : Option (Fin 8) := none
  flagB : Option (Fin 8) := none
  /-- lasting memory faults found: bit 0 SRAM CDA, bit 1 SRAM CDB, bit 2 MRAM (step 4) -/
  memFail : BitVec 3
  /-- the working copies of both dies compare equal (step 5, R36) -/
  copiesEqual : Bool
  /-- deviations from nominal measured in the segment calibration (step 6): the reference and zero readings,
  in µV for cells and check converters, in 1e-6 of reading and nV for currents, 1e-6 and mV for HV -/
  calCell : List (Int × Int)
  calChk : List (Int × Int)
  calCur : List (Int × Int)
  calHv : List (Int × Int)
  deriving DecidableEq, Repr

/-- What the calibration of a restarted segment die measures, as in step 6 of the start: reference and zero deviations of cells,
check converters, currents and HV channels, in the units of StartIn (R142, R372). -/
structure CalIn where
  cell : List (Int × Int) := []
  chk : List (Int × Int) := []
  cur : List (Int × Int) := []
  hv : List (Int × Int) := []
  deriving DecidableEq, Repr

/-- A received CAN frame (R437). -/
structure CanFrame where
  ide : Bool
  id : BitVec 29
  fdf : Bool
  brs : Bool
  esi : Bool
  rtr : Bool
  dlc : BitVec 4
  data : List Byte
  /-- offset of the start-of-frame sample point in units of 25 ns (R451) -/
  ofs : BitVec 16
  deriving DecidableEq, Repr

/-- How a frame that this port put on the bus ended (R436). -/
inductive BusEnd where
  | complete | lostArbitration | error (code : Fin 8) (dataPhase : Bool)
  deriving DecidableEq, Repr

/-- What a port's wake decoder meets in Listen: a wake-up pattern, a decoded frame, or a frame with an error (R442). -/
inductive WakeSeen where
  | pattern | frame (f : CanFrame) | badFrame
  deriving DecidableEq, Repr

/-- What the wake decoder meets in Listen, in the order in which a command brings it. -/
def wakeSeen (pattern bad : Bool) (frame : Option CanFrame) : List WakeSeen :=
  (if pattern then [.pattern] else []) ++ (if bad then [.badFrame] else []) ++ (frame.map WakeSeen.frame).toList

/-- A halt of the debugger begins, or ends, at an offset of the beat in ns (R362). -/
structure HaltIn where
  halt : Bool
  ofsNs : Nat
  deriving DecidableEq, Repr

/-- What a debugger write meets: how many entries of the write log have reached the checker, and the plane in whose time slot the write
is made (R30, R361). -/
structure DbgAt where
  drained : Nat
  slot : Party
  deriving DecidableEq, Repr

/-- What a port's receiver reports within 1 µs: code violations, and a loss of signal (R391). -/
structure LineFail where
  violations : Nat
  loss : Bool
  deriving DecidableEq, Repr

/-- A burst read's word count, and how many of its words the host clocks before the next boundary and in each beat after it (R458). -/
structure BurstIn where
  n : Nat
  parts : List Nat
  deriving DecidableEq, Repr

/-- What a debugger write addresses (R361). -/
inductive DbgTarget where
  | coreReg | csr | memory
  deriving DecidableEq, Repr

end Sys2Proof
end

