-- ==== Sys2Proof/Syntax.lean ====
section
/-! DEFINITION. The commands of the block: one constructor per row of spec/opcode_table.json, in the table's order.
The table gives a row no bits, so the operands are the model's own (log entry 2): what the rule of the row says comes
from outside, and nothing that State holds. -/

namespace Sys2Proof

/-- One command, event or step of the NM96. -/
inductive Instr where
  /-- BEAT_BOUNDARY (R80): The beat timer completes 40,960 CLK_S cycles: BEAT_NUM increments, commanded outputs change and staged parameters become active. -/
  | beatBoundary (o : BoundaryIn)
  /-- SUB_BEAT (R82): A sub-beat ends and every converter delivers one continuous raw sample. -/
  | subBeat (o : SubBeatIn)
  /-- WINDOW_CLOSE (R92): A sample window ends and its raw samples are pooled into beat values and written to the measurement buffer within 20 µs. -/
  | windowClose (w : Fin 4) (o : WindowIn)
  /-- BALANCING_GATE (R198): In gated mode every balancing switch opens 50 µs before a cell or check window starts and stays open until that window ends. -/
  | balancingGate (w : Fin 4)
  /-- EVALUATION (R31): At 850 µs the measurement buffer freezes and the control plane evaluates the beat. -/
  | evaluation (usA usB : Nat)
  /-- BEAT_OVERRUN (R96): A channel has not completed its evaluation at 980 µs, so its evaluation is abandoned, the outputs hold and DET_VOID sets. -/
  | beatOverrun (ch : Ch)
  /-- CROSS_COMPARISON (R328): At 980 µs each channel compares the two posted records and raises FS5 when differences persist beyond tolerance. -/
  | crossComparison (recA recB : Bool)
  /-- SYNC_RISING_EDGE (R85): A rising SYNC edge is time-stamped and serves as a beat reference when it is valid. -/
  | syncRisingEdge (ofs interval : Nat) (dev : Int)
  /-- SYNC_FALLING_EDGE (R89): A falling SYNC edge opens the next waiting edge-mode window, or is ignored and counted in EXTRA. -/
  | syncFallingEdge (ofs : Nat)
  /-- ENTER_ACQUIRING (R85): Four consecutive valid reference intervals move the lock from Free to Acquiring. -/
  | enterAcquiring
  /-- ENTER_LOCKED (R85): The phase error stays within ±1 µs for 8 beats, or a reference returns in Holdover, so the lock enters Locked. -/
  | enterLocked
  /-- ENTER_HOLDOVER (R85): A Locked beat without a valid reference moves the lock to Holdover. -/
  | enterHoldover
  /-- BEAT_SOURCE_LOST (R86): HOLDOVER beats pass without a reference, so the lock enters Free, FS15 is raised and a record is written. -/
  | beatSourceLost
  /-- SRC_SEL_WRITE (R83): A write to BEAT_CTRL.SRC_SEL is staged, or is refused with SEL_REJ set when it writes 3. -/
  | srcSelWrite (path : Path) (v : BitVec 2)
  /-- SB_OFS_RESYNC (R81): SBN differs from the Master frame BEAT in 3 consecutive beats, so SB_OFS is set anew, impedance blocks are discarded and code 0x0702 is written. -/
  | sbOfsResync
  /-- RPL_START (R104): A write of RPL_CTRL.RPL_EN = 1 starts replay on the split checker cores when the preconditions hold. -/
  | rplStart (path : Path) (bank rawCell : Bool)
  /-- RPL_STOP (R107): A write of RPL_CTRL.RPL_EN = 0 stops replay with CAUSE 3. -/
  | rplStop (path : Path)
  /-- REPLAY_RECORD (R105): A complete replay record arrives through RPL_IN and is checked for CRC and sequence; a failure stops replay. -/
  | replayRecord (bytes : List Byte)
  /-- REPLAY_BEAT (R106): A replay beat runs on a complete record, no sooner than one beat after the previous replay beat, and its results go to RPL_OUT. -/
  | replayBeat
  /-- RPL_OUT_READ (R108): A read of RPL_OUT returns the next 4 bytes of replay results and removes them. -/
  | rplOutRead (path : Path)
  /-- CFG_OPEN (R119): The OPEN command opens a write session on the inactive bank when the crown switches and states permit. -/
  | cfgOpen (path : Path) (key : BitVec 8)
  /-- CFG_VERIFY (R125): The VERIFY command starts the ordered image checks and sets BUSY. -/
  | cfgVerify (path : Path) (key : BitVec 8)
  /-- VERIFY_COMPLETE (R126): VERIFY finishes: the bank becomes VERIFIED, or it stays WRITING with RESULT and CFG_ERR set. -/
  | verifyComplete
  /-- CFG_COMMIT (R129): The COMMIT command recomputes the digest of the VERIFIED bank. -/
  | cfgCommit (path : Path) (key : BitVec 8)
  /-- COMMIT_DIGEST_COMPLETE (R129): The COMMIT digest finishes: the bank becomes PENDING and a reset follows at the next boundary, or the bank becomes INVALID on a mismatch. -/
  | commitDigestComplete
  /-- CFG_CONFIRM (R129): The CONFIRM command moves the TRIAL bank to ACTIVE and ends the trial. -/
  | cfgConfirm (path : Path) (key : BitVec 8)
  /-- CFG_ROLLBACK (R132): The ROLLBACK command, with both crown switches closed, schedules a revert or swap that is written at the reset once Parked. -/
  | cfgRollback (path : Path) (key : BitVec 8)
  /-- CFG_ABORT (R129): The ABORT command marks the WRITING or VERIFIED bank INVALID and ends the session. -/
  | cfgAbort (path : Path) (key : BitVec 8)
  /-- OTP_KEY (R117): The OTP_KEY command programs the next free key slot with the hash of the VERIFIED signed bank's key. -/
  | otpKey (path : Path) (key : BitVec 8)
  /-- CFG_WDATA_WRITE (R124): A write to CFG_WDATA stores 4 image bytes at CFG_WADDR and advances it, or is refused with a result code. -/
  | cfgWdataWrite (path : Path) (data : Word)
  /-- CROWN_SWITCH_CHANGE (R62): A crown switch reads closed or open after 10 consecutive beats beyond its threshold. -/
  | crownSwitchChange (second : Bool)
  /-- CROWN_DISAGREEMENT (R123): CRW1 and CRW2 read differently for 50 beats, so FS13 is raised and both are treated as open. -/
  | crownDisagreement
  /-- TRIAL_CHECKPOINT (R131): Every 1,000 trial beats the elapsed count is checkpointed into the journal. -/
  | trialCheckpoint
  /-- TRIAL_EXPIRY (R133): The trial count reaches its limit, so a revert is scheduled, with an ordinary opening first when the plane is not Parked. -/
  | trialExpiry
  /-- REVERT_RESET (R133): Once Parked, a pending expiry or ROLLBACK writes its journal transition and resets the module. -/
  | revertReset
  /-- BANK_ERASE (R135): An INVALID bank is zeroed in the background, header first, and then written EMPTY. -/
  | bankErase (bank : Bool)
  /-- THERMISTOR_CONVERSION (R165): The scheduled ratiometric conversions of the beat, from 100 µs, convert thermistors, ID or the reference. -/
  | thermistorConversion (vals : List (Option (BitVec 16))) (retried : BitVec 4) (die : List (Option Int))
  /-- INSULATION_CYCLE_START (R159): At BEAT_NUM mod 2P = 0 an insulation cycle starts with S+ closed. -/
  | insulationCycleStart (peOhm : Nat)
  /-- INSULATION_PHASE_CHANGE (R158): At cycle beat P, S+ opens at the boundary. -/
  | insulationPhaseChange
  /-- REFERENCE_SWITCH_CLOSE (R158): 100 µs after a phase change the other reference switch closes. -/
  | referenceSwitchClose
  /-- INSULATION_RESULT (R161): At the end of the cycle the means are formed and iso_calc yields ISO_RP, ISO_RN and the warning and trip flags, or a cause. -/
  | insulationResult
  /-- MEAS_SNAP (R173): A write of MEAS_CTRL.SNAP freezes or releases the host-visible copy of the measurement blocks. -/
  | measSnap (path : Path) (on : Bool)
  /-- LO_READ_LATCH (R174): A read of the low half of Qc, EST_QC or SYS_SN latches the high half for the next read. -/
  | loReadLatch (path : Path) (r : LatchReg)
  /-- OPEN_WIRE_PASS (R181): At BEAT_NUM mod OW_PERIOD×1,000 = 0 a 100-beat pass starts, pausing balancing on the testing segments. -/
  | openWirePass
  /-- OPEN_WIRE_SLOT (R182): A 4-beat slot takes baseline windows, switches the pin's pull source on and then off, and holds the neighbouring cells. -/
  | openWireSlot (seg : Fin 4)
  /-- OPEN_WIRE_SUSPECT (R187): The opposite-deviation signature holds for 2 beats, so the pin becomes suspect and its cells are marked and bounded. -/
  | openWireSuspect (seg : Fin 4) (pin : Fin 25)
  /-- TARGETED_SLOT (R188): A targeted slot tests a suspect pin from the boundary after suspicion. -/
  | targetedSlot (seg : Fin 4)
  /-- OPEN_WIRE_GRACE_EXPIRY (R196): OW_GRACE expires with the pin still open, and OW_REACT applies. -/
  | openWireGraceExpiry (seg : Fin 4) (pin : Fin 25)
  /-- OPEN_WIRE_CLEAR (R197): After two consecutive INTACT judgements the cells lose INVALID at the boundary and a record is written. -/
  | openWireClear (seg : Fin 4) (pin : Fin 25)
  /-- CHECK_DISAGREEMENT (R189): Check and primary values differ beyond CHK_TOL at 2 consecutive conversions, so CHK_DIFF sets, FS32–35 is raised and targeted slots are requested. -/
  | checkDisagreement (cell : Fin 96)
  /-- SUM_MISMATCH (R190): After 10 formed beats over SUM_TOL the stack-sum mismatch sets, or after 10 within it releases. -/
  | sumMismatch
  /-- LINK_RETRY (R205): A link CRC error or missing word makes the die resend, and a failed resend makes the item missing and raises the link source. -/
  | linkRetry (seg : Fin 4) (ch : Ch) (item : LinkItem) (ok : Bool)
  /-- MEMORY_READ_RETRY (R43): An uncorrectable memory read is retried once, and is either written back as transient or poisoned as lasting. -/
  | memoryReadRetry (mem : Mem) (word : Nat) (ok : Bool)
  /-- SCRUB (R44): Background scrubbing reads, corrects and writes back the next memory word at its fixed rate. -/
  | scrub (mem : Mem) (symbols : Nat)
  /-- BAL_TIMEOUT (R213): No BAL_REQ write for BAL_TMO beats, so the requests are cleared, BAL_STAT.TMO sets and a record is written. -/
  | balTimeout
  /-- SWITCH_OVERCURRENT (R209): Switch current above 320 mA opens the switch for the beat, and in 2 consecutive beats locks it off and raises FS44–47. -/
  | switchOvercurrent (cell : Fin 96)
  /-- SWITCH_NO_CURRENT (R209): A switch commanded on draws below 5 mA for 4 beats, so SWFLT sets and FS44–47 is raised. -/
  | switchNoCurrent (cell : Fin 96)
  /-- SWITCH_CONDUCTS_OFF (R209): A switch commanded off conducts above 5 mA for 2 beats, so SWFLT sets, FS44–47 is raised and a record is written. -/
  | switchConductsOff (cell : Fin 96)
  /-- WIRE_CAL_START (R220): WIRE_CMD.START with the key starts wire calibration, or is refused with a cause. -/
  | wireCalStart (path : Path) (key : BitVec 8)
  /-- WIRE_CAL_ABORT (R220): WIRE_CMD.ABORT ends the calibration run with CAUSE 4. -/
  | wireCalAbort (path : Path) (key : BitVec 8)
  /-- WIRE_CAL_COMPLETE (R202): The calibration run completes and Rw values are stored, with failing pins marked. -/
  | wireCalComplete
  /-- EXCITATION_RUN_START (R237): A switch excitation run starts for the next rotation entry at its block start, or is refused under R218. -/
  | excitationRunStart
  /-- EXCITATION_TOGGLE (R217): The excitation switch toggles every H CLK_S cycles. -/
  | excitationToggle
  /-- EXCITATION_RUN_STOP (R219): A run stops at the boundary at which a blocking row of R210 applies, is counted as BROKEN and discarded. -/
  | excitationRunStop
  /-- IMPEDANCE_BLOCK_END (R235): A block of a slot ends, and it is validated and summed per cell. -/
  | impedanceBlockEnd (slot : Fin 4)
  /-- CURRENT_REQUEST (R238): The current request for an SRC 2 slot becomes active at its block start or is withdrawn. -/
  | currentRequest
  /-- SWEEP_START (R356): SWP_CTRL.START starts an impedance sweep on the split checker, or is refused. -/
  | sweepStart (path : Path) (nf : BitVec 4)
  /-- SWEEP_END (R356): The sweep completes, or ends with a cause when the analysis conditions lapse. -/
  | sweepEnd
  /-- FULL_ANCHOR (R257): The taper counter reaches T_TAPER, so QC is set to CAP_U after capacity learning. -/
  | fullAnchor
  /-- EMPTY_ANCHOR (R258): The empty counter reaches T_EMPTY, so QC is set to 0 after capacity learning. -/
  | emptyAnchor
  /-- VOLTAGE_ANCHOR (R259): The rest or confidence counter reaches its limit when an anchor is due, so QC is set from SOC_V. -/
  | voltageAnchor
  /-- ANCHOR_STARVATION (R266): The anchor age reaches T_STARVE, so ANCHOR_STARVED sets, FS54 is raised and a record is written. -/
  | anchorStarvation
  /-- HEALTH_WARNING_CLEAR (R293): A health figure has been within its threshold for 10,000 beats, so its warning clears. -/
  | healthWarningClear
  /-- CADENCE_CHANGE (R267): Slow cadence is entered after 10,000 quiet beats, or left, and the change takes effect two boundaries later, switching between Active and Idle. -/
  | cadenceChange
  /-- CYCLE_COUNT_STORE (R272): Every 1,000th evaluation the cycle count and remainder are stored in the record header. -/
  | cycleCountStore
  /-- SWAP_DETECTED (R273): A changed ID code or all thermistors open indicates a swap, so SWAP_PEND sets and counting is suspended. -/
  | swapDetected
  /-- RECORD_SELECT (R274): ID and a thermistor read valid again, so an identity record is selected and counting resumes. -/
  | recordSelect
  /-- PROT_CLOSE (R306): A close request becomes active at a boundary and is accepted into Precharging or refused with a cause. -/
  | protClose
  /-- PROT_OPEN (R305): An open or abort request becomes active and starts Opening with target Parked. -/
  | protOpen
  /-- SAFE_ACKNOWLEDGE (R304): An acknowledgement of Safe takes effect at the boundary and leaves Safe for Parked, or is refused with cause 6. -/
  | safeAcknowledge
  /-- CMD_TELEGRAM (R448): An accepted CMD safe telegram stages its close, open or acknowledge request for the next boundary. -/
  | cmdTelegram (tel : Fin 64)
  /-- PROTECTION_LEVEL_CHANGE (R299): A level function's debounce count reaches its limit and the limit request or trip sets or releases. -/
  | protectionLevelChange
  /-- PRE_CLOSE (R307): T_PULLIN after NEG closes, the PRE contactor closes. -/
  | preClose
  /-- COMMIT_POINT (R310): The POS close latches at the boundary and the state becomes Closed, unless an abort active by then suppresses it. -/
  | commitPoint
  /-- PRE_OPEN (R307): T_OVL after the commit point, PRE opens. -/
  | preOpen
  /-- FAILURE_TO_CLOSE_CHECK (R307): At its scheduled beat the PRE or POS voltage check is judged, and a failure sets failure to close. -/
  | failureToCloseCheck
  /-- PRECHARGE_TIMEOUT (R309): The criterion has not held by PC_TMAX, so PRE and NEG open and cooling or the timeout condition follows. -/
  | prechargeTimeout
  /-- PRECHARGE_COOL_END (R309): PC_COOL beats pass, so the pre-charge restarts at step 1. -/
  | prechargeCoolEnd
  /-- CURFREE_TIMEOUT (R311): T_CURFREE beats pass without current-free, so POS and PRE open at boundary o+T_CURFREE. -/
  | curfreeTimeout
  /-- NEG_OPEN (R311): T_NEG_DLY beats after POS, NEG opens and the weld check starts. -/
  | negOpen
  /-- WELD_TIMEOUT (R312): T_WELD passes without the weld check passing, so the weld condition sets and Opening ends. -/
  | weldTimeout
  /-- MIRROR_CHECK (R313): T_MIRROR beats after an output edge, and every beat after, the mirror contact is checked for failure to close or weld. -/
  | mirrorCheck (out : Fin 8)
  /-- UNREQUESTED_OPENING (R314): A closed contactor drops out, so every output opens and Opening begins. -/
  | unrequestedOpening
  /-- COIL_OVERCURRENT (R316): Coil current above 10 A switches off both sides within 5 µs and locks the output open. -/
  | coilOvercurrent (out : Fin 8)
  /-- PULLIN_END (R316): T_PULLIN ends, so the economizer takes over, and a coil current below 20 mA is a coil fault. -/
  | pullinEnd (out : Fin 8)
  /-- COIL_SUPPLY_LOW (R74): VK below 16.0 V raises FS48. -/
  | coilSupplyLow
  /-- INPUT_CHANGE (R317): A two-channel input contact changes its debounced state after IN_DEB beats. -/
  | inputChange (inp : Fin 8) (ch : Ch)
  /-- MONITOR_WORD_MISSING (R321): In the third consecutive beat without a Monitor condition word, measurement lost is set for that Monitor. -/
  | monitorWordMissing (pos : BitVec 8) (ch : Ch)
  /-- CHANNEL_LOSS (R329): At the third beat without a valid record a channel declares the other lost, with run-down or Opening following. -/
  | channelLoss (declarer : Ch)
  /-- MUTUAL_LOSS (R329): Both channels have declared each other lost, so any non-parked string enters Opening with target Safe. -/
  | mutualLoss
  /-- HOLD_LAPSE (R330): An undriven side whose hold has lapsed for 2 beats opens by itself. -/
  | holdLapse (out : Fin 8) (side : Side)
  /-- RUNDOWN_WARNING (R331): 60 s before run-down expiry the warning input sets and a record is written. -/
  | rundownWarning
  /-- RUNDOWN_EXPIRY (R331): RUNDOWN_MAX expires, so the string enters Opening with target Safe. -/
  | rundownExpiry
  /-- TEST_PULSE (R334): At beat b, 937.5 µs, an off-pulse or on-pulse starts on one side of a scheduled output. -/
  | testPulse
  /-- TEST_PULSE_END (R335): A pulse ends, the side is restored and the readbacks are judged, with a repeat or failure following. -/
  | testPulseEnd (during : List (Level × Level)) (coilMax : Nat) (restored : Bool)
  /-- INPUT_TEST_GAP (R337): A TP1 or TP2 gap sub-beat tests that every input of that channel reads open. -/
  | inputTestGap (ch : Ch) (levels : BitVec 8)
  /-- INPUT_DISCREPANCY (R338): INnA and INnB differ for IN_DISC beats, so FS51 is raised and the input reads open. -/
  | inputDiscrepancy (inp : Fin 8)
  /-- HOST_LOST (R323): With HOST_SUP set, three beats pass without a transaction addressed to the unit, so host lost sets. -/
  | hostLost
  /-- SAFE_TELEGRAM_SEND (R340): The two channels' copies of a send telegram are compared and queued on CAN1 and CAN2, or suppressed when they differ. -/
  | safeTelegramSend (tel : Fin 64)
  /-- SAFE_TELEGRAM_RECEIVE (R341): A received safe telegram copy is checked for frame, code, source, sequence and timestamp. -/
  | safeTelegramReceive (port : CPort) (f : CanFrame)
  /-- PAIR_JUDGEMENT (R342): A pair completes or T_PAIR expires, and the telegram is accepted or rejected. -/
  | pairJudgement (tel : Fin 64)
  /-- TELEGRAM_LOST (R342): T_RX beats pass without an acceptance, or T_RDRX passes for RD copies, so the telegram reads lost. -/
  | telegramLost (tel : Fin 64)
  /-- LOCKSTEP_MISMATCH (R348): A comparator difference halts the die within 1 cycle and latches the class in the supervisor. -/
  | lockstepMismatch (ch : Ch) (cls : Fin 8)
  /-- CORE_SPLIT (R352): A SPLIT_A or SPLIT_B request is accepted at its boundary, starting the checker in service mode, or refused. -/
  | coreSplit (ch : Ch)
  /-- CORE_JOIN (R357): A JOIN_A or JOIN_B request starts a join at its boundary, ending replay and sweep on that die. -/
  | coreJoin (ch : Ch)
  /-- JOIN_COPY (R358): After the evaluation completes the main core state is copied into the checker and tested, or the copy is deferred. -/
  | joinCopy (ch : Ch) (flagged : Bool) (missed : Fin 8)
  /-- DEBUG_SESSION_OPEN (R360): J13 opens a debug session on one die with both crown switches closed and Parked. -/
  | debugSessionOpen (ch : Ch)
  /-- DEBUGGER_WRITE (R361): A debugger write is logged and applied in step to the checker, and it sets DET_VOID. -/
  | debuggerWrite (target : DbgTarget) (addr value : Word) (met : DbgAt)
  /-- DEBUG_HALT (R362): A debugger halt stops both cores of the pair and sets DET_VOID. -/
  | debugHalt (edge : HaltIn)
  /-- FAULT_RAISE (R366): A fault source raise is stamped with its event beat, shared by both collectors, recorded and its reactions applied. -/
  | faultRaise (fs : Fin 128) (transient : Bool) (detail : Word) (ofsNs : Nat)
  /-- SEVERITY_EXPIRY (R369): At a boundary the oldest counted event falls out of the window W, so SEVP clears. -/
  | severityExpiry (fs : Fin 128)
  /-- BLOCK_RESET_END (R372): The hold time of a BLKRST ends and the block resumes. -/
  | blockResetEnd (blk : Blk) (cal : CalIn)
  /-- HANDLING_CLOSE (R375): FLT_HCTRL.CLOSE closes the handling sequence, writes its closing record and releases IRQ. -/
  | handlingClose (path : Path) (key : BitVec 8)
  /-- HANDLING_TIMEOUT (R375): FLT_HOLD beats pass without a merged raise, so the sequence closes. -/
  | handlingTimeout
  /-- RESET_LOOP_RELEASE (R373): FLT_HCTRL.RLS ends the reset-loop state. -/
  | resetLoopRelease (path : Path) (key : BitVec 8)
  /-- LATCH_CLEAR (R367): A staged W1C of FLT_LATCH or FLT_SEVL clears bits only where PRES or SEVP is 0. -/
  | latchClear
  /-- FLT_INJ (R376): FLT_INJ starts an injection on one checker, or is refused. -/
  | fltInj (path : Path) (key : BitVec 8) (full : Bool) (target : BitVec 5)
  /-- INJECTION_RESULT (R377): The injection acts on its read or frame and passes or fails. -/
  | injectionResult (flagged : Bool)
  /-- THERMAL_EVALUATION (R383): At its period the group temperatures are evaluated, with state flags, period selection and excursion tracking. -/
  | thermalEvaluation
  /-- EXCURSION_OUT_OF_RATING (R388): An excursion exceeds 600,000 beats or begins too soon, so FS67 is raised and OOR sets. -/
  | excursionOutOfRating
  /-- PORT_UP (R391): 128 valid aligned characters bring a ring port UP. -/
  | portUp (p : RPort)
  /-- PORT_DOWN (R391): Code violations or loss of signal take a ring port DOWN. -/
  | portDown (p : RPort) (fail : LineFail)
  /-- DELAY_EXCHANGE (R391): Every 1,000 beats each UP port exchanges a delay frame and updates its link delay. -/
  | delayExchange (p : RPort) (sentNs backNs : Nat)
  /-- RING_FRAME_RECEIVE (R392): A ring frame is stripped, delivered or forwarded, with CRC error marking. -/
  | ringFrameReceive (p : RPort) (bytes : List Byte) (markedBad : Bool)
  /-- MF_SEND (R398): The active Master sends its Master frame on both string ports 1 µs after its boundary. -/
  | mfSend
  /-- MF_RECEIVE (R398): A unit takes the beat marker and Master frame contents from the first arriving copy. -/
  | mfReceive (arrivalNs : Int) (phaseErr : Int)
  /-- CF_SEND (R407): The current unit sends its current frame after the Master frame. -/
  | cfSend
  /-- CF_RECEIVE (R248): A unit takes the published charge values and raw current samples from a current frame. -/
  | cfReceive
  /-- RF_SEND (R401): A unit sends its report frame to reach the Master at its slot start. -/
  | rfSend
  /-- RF_JUDGEMENT (R404): After a unit's later slot the Master judges its report frame and sends a resend request or marks it missing. -/
  | rfJudgement (unit : UAddr)
  /-- RR_RECEIVE (R404): A unit receiving a resend request sends its report frame again in the named resend slot. -/
  | rrReceive
  /-- ENUM (R411): RING_CTRL.ENUM with the key makes the active Master enumerate again. -/
  | enum (path : Path) (key : BitVec 8)
  /-- ENUMERATION (R411): The active Master sends EN, builds the roster and sends ER within 20 beats. -/
  | enumeration (arcN arcS : List (UAddr × BitVec 2 × Bool × BitVec 16 × RPort)) (serials : List (UAddr × BitVec 64))
  /-- ER_RECEIVE (R411): A unit checks the enumeration result for its address and begins reporting at the next boundary. -/
  | erReceive
  /-- MASTER_START_LISTEN (R413): A starting Master's listen period ends and it becomes active or standby. -/
  | masterStartListen
  /-- STANDBY_TAKEOVER (R414): After three beats without a Master frame the standby Master increments its epoch and becomes active. -/
  | standbyTakeover
  /-- MASTER_YIELD (R415): An active Master hearing another decides by rule which yields, and the loser becomes standby. -/
  | masterYield
  /-- RING_STATE_CHANGE (R417): The string ring state changes between Lost, Enumerating, Closed, Open and Split. -/
  | ringStateChange
  /-- RING_SILENCE (R418): A Monitor hears no intact frame for RING_SILENCE, so it opens its switches and enters Dormant. -/
  | ringSilence
  /-- TF_SEND (R419): Each active Master sends its trunk string frame at 950 µs. -/
  | tfSend
  /-- TF_RECEIVE (R422): A trunk string frame updates string presence, island and CEPOCH. -/
  | tfReceive
  /-- KF_SEND (R421): The Coordinator computes the weights and consist SOC and sends its KF fragments at 960 µs. -/
  | kfSend
  /-- KF_RECEIVE (R421): A Master takes weights, consist SOC, requests and relayed entries from a KF carrying its CEPOCH. -/
  | kfReceive
  /-- MAJORITY_CHANGE (R424): An island's majority changes, so a Master enters or leaves Local mode and a Coordinator gives up the role. -/
  | majorityChange
  /-- COORDINATOR_TAKEOVER (R423): After three beats without a KF a first-ranked Master of a majority island takes the Coordinator role. -/
  | coordinatorTakeover
  /-- CAN_PERIODIC_QUEUE (R435): A periodic transmit object is queued at its boundary, replacing an unsent frame. -/
  | canPeriodicQueue (port : CPort) (k : Fin 128)
  /-- OBJ_SEND (R435): OBJ_CMD.SEND queues a CONT 0 transmit object. -/
  | objSend (port : CPort) (k : Fin 128) (key : BitVec 8)
  /-- OBJ_CANCEL (R436): OBJ_CMD.CANCEL removes or stops a pending or on-bus frame. -/
  | objCancel (port : CPort) (k : Fin 128) (key : BitVec 8)
  /-- CAN_FRAME_END (R436): A frame on the bus completes, loses arbitration or meets an error, and TXS is set or the frame offered again. -/
  | canFrameEnd (port : CPort) (k : Fin 128) (how : BusEnd) (ofs : BitVec 16) (loopDelay : Nat)
  /-- CAN_FRAME_RECEIVE (R437): An intact received frame is routed to its object, to the channels, or through the filters to a FIFO. -/
  | canFrameReceive (port : CPort) (f : CanFrame) (endNs : Nat)
  /-- FIFO_POP (R438): CANn_FPOP moves the oldest frame of a FIFO into the read window. -/
  | fifoPop (path : Path) (port : CPort) (second : Bool)
  /-- FIFO_FLUSH (R438): CANn_CTRL.FLUSH0 or FLUSH1 empties a receive FIFO. -/
  | fifoFlush (path : Path) (port : CPort) (key : BitVec 8) (f0 f1 : Bool)
  /-- ODATA0_READ (R451): A read of CANn_ODATA0 of a receive object clears its NEW bit. -/
  | odata0Read (path : Path) (port : CPort)
  /-- CAN_ERROR_STATE (R439): A port enters error passive or bus-off and FS62 or FS63 is raised. -/
  | canErrorState (port : CPort) (tec rec : Nat) (err : Option (Fin 8 × Bool))
  /-- BUS_OFF_RECOVERY (R440): After 128 recessive sequences and BOFF_HOLD beats the port becomes error active. -/
  | busOffRecovery (port : CPort) (recessive : Bool)
  /-- CAN_WAKE (R442): A WUP, WUF or frame error count in Listen wakes the module and records the cause. -/
  | canWake (port : CPort) (pattern bad : Bool) (frame : Option CanFrame)
  /-- REFERENCE_SEND (R444): As time master the module sends its reference message at TM_OFS. -/
  | referenceSend (us cycles : Nat)
  /-- REFERENCE_RECEIVE (R445): A reference message is accepted as the beat reference, or makes a master yield. -/
  | referenceReceive (f : CanFrame) (interval : Nat) (dev : Int)
  /-- TT_MASTER_RESUME (R444): After 3 beats without a higher-priority reference a yielded time master resumes sending. -/
  | ttMasterResume
  /-- CAL_RECEIVE (R446): A valid CAL message steps or trims the calendar. -/
  | calReceive (f : CanFrame) (calSec : Nat) (calFrac : Nat)
  /-- HOST_READ (R458): An OP 0 host transaction reads one register, locally or relayed. -/
  | hostRead (rseq : BitVec 8) (unit : BitVec 8) (addr : BitVec 14)
  /-- HOST_WRITE (R458): An OP 1 host transaction writes one register, locally or relayed. -/
  | hostWrite (rseq : BitVec 8) (unit : BitVec 8) (addr : BitVec 14) (data : Word)
  /-- HOST_BURST_READ (R458): An OP 2 host transaction reads N words with one status. -/
  | hostBurstRead (rseq : BitVec 8) (unit : BitVec 8) (addr : BitVec 14) (fix : Bool) (burst : BurstIn)
  /-- HOST_BURST_WRITE (R459): An OP 3 host transaction writes N words, all accepted in one CLK_A cycle. -/
  | hostBurstWrite (rseq : BitVec 8) (unit : BitVec 8) (addr : BitVec 14) (fix : Bool) (words : List Word)
  /-- HOST_CRC_ERROR (R456): A request whose CRC fails is not executed and is answered with STATUS 6, raising FS64. -/
  | hostCrcError (bytes : List Byte)
  /-- HOST_FRAMING_ERROR (R456): HCS rises early or 40 ms pass before the request CRC completes, so nothing is executed and FS64 is raised. -/
  | hostFramingError
  /-- HOST_POP (R465): A HOST_POP write with the matching REPSEQ removes the oldest report. -/
  | hostPop (path : Path) (seq : BitVec 16)
  /-- REMOTE_ANSWER (R468): A relayed request's answer arrives and a type 1 report is queued, or the request is re-sent after a stale-role answer. -/
  | remoteAnswer (tag : BitVec 8) (status : BitVec 4) (addr : BitVec 14) (data : Word)
  /-- REMOTE_TIMEOUT (R469): No answer arrives in time, so the relayed request ends with STATUS 9. -/
  | remoteTimeout (tag : BitVec 8)
  /-- RECORDER_WRITE_SLOT (R479): In every fifth beat the recorder writes the head of the queue as a new record or repeat. -/
  | recorderWriteSlot
  /-- LOG_CLEAR (R486): LOG_CTRL.CLEAR queues a clear of the store when permitted. -/
  | logClear (path : Path) (key : BitVec 8)
  /-- LOG_CLEAR_COMPLETE (R486): The background clear has erased the slots and writes the 0x0002 record. -/
  | logClearComplete
  /-- LOG_RD0_READ (R488): A read of LOG_RD0 captures the selected record slot whole into the path's holding register. -/
  | logRd0Read (path : Path)
  /-- CALENDAR_SET (R487): A write of LOG_CAL_F sets the calendar through XS_AT and writes a 0x0003 record. -/
  | calendarSet (path : Path) (frac : Word)
  /-- SUPPLY_GOOD (R498): VS at or above 13.0 V for 1 ms starts the module from Off. -/
  | supplyGood (vs : Nat)
  /-- INTERRUPTION_BEGIN (R70): VS reads below 12.0 V, so an interruption begins and hold-up takes over. -/
  | interruptionBegin (vs : Nat)
  /-- INTERRUPTION_END (R71): VS reads at or above 13.0 V for two sub-beats within 10 beats, so a ride-through record is written. -/
  | interruptionEnd (vs : Nat)
  /-- POWER_FAIL_STOP (R72): The interruption outlasts 10 beats or the reserve is reached, so outputs de-energize, state is checkpointed and the module enters Off. -/
  | powerFailStop (reserve : Bool)
  /-- NRST_ASSERT (R505): nRST low for 10 µs resets the module, de-energizing outputs within 12 µs. -/
  | nrstAssert (lowUs : Nat)
  /-- NRST_RELEASE (R505): nRST rises and the start begins at step 2. -/
  | nrstRelease
  /-- NRST_STUCK (R506): nRST low for 4 s is declared stuck, so the module starts with cause 3 and NRST_IGN sets. -/
  | nrstStuck
  /-- NRST_IGN_CLEAR (R506): nRST high for 100 ms clears NRST_IGN. -/
  | nrstIgnClear
  /-- PWR_LISTEN (R495): PWR_CTRL.REQ = 1 requests Listen and the entry procedure runs, or the request is refused. -/
  | pwrListen
  /-- PWR_DORMANT (R495): PWR_CTRL.REQ = 2 requests Dormant and the entry procedure runs, or the request is refused. -/
  | pwrDormant
  /-- LISTEN_TIMEOUT (R496): LSN_TMO expires in Idle, so Listen is requested. -/
  | listenTimeout
  /-- DORMANT_TIMEOUT (R496): DORM_TMO expires in Listen, so the module moves to Dormant. -/
  | dormantTimeout
  /-- LISTEN_VS_LOW (R494): VS below 12.0 V for 10 ms in Listen moves the module to Dormant. -/
  | listenVsLow (vs : Nat)
  /-- DORMANT_STACK_LOW (R494): VSTK below 40 V for 1 s in Dormant moves the module to Off. -/
  | dormantStackLow (vstkMv : Nat)
  /-- WAKE (R497): An enabled wake source starts the module from Listen or Dormant. -/
  | wake (sources : BitVec 7)
  /-- START_SEQUENCE (R499): The start runs steps 1 to 8 with self-tests, image load, calibration, open-wire pass and enumeration. -/
  | startSequence (o : StartIn)
  /-- START_STEP_END (R501): Step 8 ends, so the sequencer takes Parked or Safe and the module becomes Active. -/
  | startStepEnd (ms : Nat)
  /-- MODULE_RESET (R504): A module reset writes the recorder queue, keeps persistent state and restarts from step 2. -/
  | moduleReset
  /-- PMC_SEL_WRITE (R514): A staged PMC_SEL write clears the counter at its boundary and selects a new source. -/
  | pmcSelWrite (path : Path) (i : Fin 16) (src : BitVec 6)
  /-- PMC_SNAP (R514): A write of PMC_CTRL.SNAP freezes or releases the host copy of the counters. -/
  | pmcSnap (path : Path) (on : Bool)
  /-- HIST_COPY (R518): The active Master reads up to 2 condensed table words per beat from string units into their history slots. -/
  | histCopy (unit : BitVec 8) (words : List (Nat × Word))
  /-- HIST_RESTORE (R519): HIST_CMD.RESTORE, or automatic detection of a replaced unit, writes the slot back into the unit. -/
  | histRestore (path : Path) (key : BitVec 8)
  /-- HIST_IMPORT (R520): HIST_CMD.IMPORT replaces a Master's records and history from an export. -/
  | histImport (path : Path) (key : BitVec 8)
  /-- HIST_WIN_ACCESS (R521): A HIST_WIN access transfers the next 4 bytes and auto-increments. -/
  | histWinAccess (path : Path) (wr : Option Word)
  /-- REGISTER_WRITE (R13): A write to a register without a row of its own sets, clears or stages its fields by access code. -/
  | registerWrite (path : Path) (addr : BitVec 14) (data : Word)
  /-- CROWN_AGREEMENT (R123): After a crown disagreement, CRW1 and CRW2 have agreed again for 10 beats, so the switches are no longer treated as open and FS13 is no longer present. -/
  | crownAgreement
  /-- CRYSTAL_FAILURE (R25): The CDA crystal fails, which stops channel A and the ring while CAN keeps running on CLK_BUS for channel B's safe telegrams. -/
  | crystalFailure (ch : Ch)
  deriving DecidableEq, Repr

end Sys2Proof
end

