-- ==== Sys2Proof/Config.lean ====
section
/-! DEFINITION. The parameters of the configuration image and the free values of the model. -/

namespace Sys2Proof

/-- The parameters of the image, named as the defining tables of the manual write them (R539); the names that no
parameter table gives are the model's (log entry 6). -/
inductive Param where
  | START | TIE | MASTERS | COORD | HIST_AUTO | CELL
  | THM_TAB | TAB | R_SH | HV | ID_EN | ISO_EN
  | ISO_PHASE | ISO_WARN | ISO_TRIP | HOLDOVER | SRC_SEL | SYNC_PHASE
  | CANT_PHASE | FALL_WIN | RISE_BEAT | EN | MODE | LEN
  | OFS | GROUP | NEXT | OW_PERIOD | OW_DEV | OW_MARGIN
  | OW_GRACE | OW_REACT | CHK_TOL | SUM_TOL | OV_LIM | OV_TRIP
  | UV_LIM | UV_TRIP | V_HYS | DEB_V | DEB_CHK | OT_LIM
  | OT_TRIP | UT_LIM | UT_TRIP | T_HYS | DEB_T | ICONT_CHG
  | ICONT_DIS | I2T_MAX | ITRIP_CHG | ITRIP_DIS | FT_VOTE | ISO_DEB
  | T_PULLIN | ECO_DUTY | PC_PCT | PC_TMIN | PC_TMAX | PC_RETRY
  | PC_COOL | T_OVL | T_FTC | I_OPEN | T_CURFREE | T_NEG_DLY
  | T_WELD | WELD_PCT | T_MIRROR | IN_DEB | REQ_SRC | ROLE
  | FAST | FUNC | IN_OUT | TW_g | TT_g | TS_g
  | HYS_g | GRP | BLOCK | OPEN_REQ | SAFE_REQ | CLOSE_PERMIT
  | FAST_TRIP | OUT1 | OUT2 | OUT3 | OUT4 | OUT5
  | OUT6 | OUT7 | OUT8 | NFLT | INH | ESC_DIVTOL
  | HOST_SUP | RUNDOWN_MAX | RD_CCL | RD_DCL | TP_PER | TP_OFF_LEN
  | TP_ON_LEN | IN_DISC | T_PAIR | T_SINGLE | T_RX | SEQ_WIN
  | TS_WIN | T_RDRX | FREQ | IMP_SRC | IMP_CYC | IMP_NAVG
  | IMP_COHMIN | IMP_IMIN | IMP_ALPHA | IMP_SOCUNC | IMP_REQ_AMP | E1
  | E2 | E3 | E4 | E5 | E6 | E7
  | CELL_THERMISTOR_MAP | DEFAULT_IMPEDANCE_TABLE | IMP_TSLOT | IMP_TAGE | TINT | EST_R_SH
  | IMP_EN | SW_EN | REQ_EN | CAP_NOM | V_FULL | I_TAPER
  | T_TAPER | V_EMPTY | T_EMPTY | I_QUIET | T_REST | VA_TIME
  | VA_CONF | OCV_SLOT | OCV_CURVE | CONF_DEF | DROP_REF | U_FULL
  | U_EMPTY | U_VA | U_RESTART | U_SWAP | UNC_GAIN | UNC_OFS
  | T_STARVE | CAP_ALPHA | IMAX_CHG | IMAX_DIS | V_CLIM | V_DLIM
  | V_CVL | KH2 | KH10 | KH30 | R_FB | TD_CHG
  | TD_DIS | TD_INV | THR_FACT | LR_FACT | OW_FACT | RD_FACT
  | LIM_RAMP | LIM_HOLD | SOH_C_WARN | SOH_R_WARN | BAL_MODE | EXC_EN
  | SRC | DUTY | BAL_VMIN | ON_DELTA | OFF_DELTA | BAL_THR_DUTY
  | BAL_TMO | RING_ORDER | DIV | RING_SILENCE | LOC_CCL | LOC_DCL
  | CAN_MODE | BRP | TSEG1 | TSEG2 | SJW | TRIPLE
  | DBRP | DTSEG1 | DTSEG2 | DSJW | TDC | TDCO
  | BOFF_HOLD | WAKE_MODE | WUF_RATE | WUF_ID | WUF_IDM | WUF_DLC
  | DMASK | WUF_D0 | WUF_D1 | TT_ROLE | TT_PORT | REF_ID
  | CYC_MAX | TM_OFS | REF_EXT | CAL_EN | CAL_STEP | DIR
  | IDE | ID | FMT | ONESHOT | DLC | CONT
  | PER | PHASE | TEL | ID1 | ID2 | L
  | SAFE_ID | SRC_ADDR | TCONT | FILT_IDE | TARGET | MATCH
  | MASK | N | W | TR_EV | REACT_EV | REACT_SEV
  | FLT_HOLD | REP_WIN | LSN_TMO | DORM_TMO | WAKE_EN
  deriving DecidableEq, Repr

/-- Results of a replay with the bytes of its bank, RAW_CELL and the stream so far: the manual names what they contain, not how their bytes are laid out
(R106); free value, log entry 7. -/
opaque Config.replayResult : List (Nat × Byte) → Bool → List (List Byte) → List Byte

/-- Whether an nRST low level between 2 and 10 µs resets the module: undetermined (R505); free value, log entry 9. -/
opaque Config.nrstShort : Nat → Bool

/-- Bits 31:8 of the address that an NMI interrupts in the firmware, which the manual does not give (R21, R378): free
value of the beat and the offset, log entry 11. -/
opaque Config.trapAddr : Word → Nat → BitVec 24

/-- Residence time of a forwarded Master frame in units of 8 ns, which the manual does not give (R398): free value of
the port and the frame, log entry 14. -/
opaque Config.residence : RPort → List Byte → Nat

/-- The number of units that another active Master hears, as its Master frame would show it: R406 gives the frame no such
field, though R415 compares it; free value of the frame, log entry 15. -/
opaque Config.rivalUnits : List Byte → Nat

/-- What PROT_STAT.REFUSE holds after a write of PROT_CTRL with a wrong key, from what it held: the write is "counted in
REFUSE", and no value is stated (R318); free value, log entry 19. -/
opaque Config.refuseKey : Nat → BitVec 4

/-- How many accesses of the host transaction under way at an NMI have been carried out, none when no transaction is under
way: the manual does not give the cycle of the NMI within a transaction (R372, R542); free value of the NMI's beat and
offset, log entry 20. -/
opaque Config.nmiDone : Word → Nat → Option Nat

/-- By how many ppm a CAL message that does not set the calendar trims its rate: R446 bounds the trim and gives no amount;
free value of the difference in units of 1/65,536 s, log entry 90. -/
opaque Config.calTrim : Int → Nat

/-- Whether the mapped thermistor of a cell of another unit is VALID, where the cell's pair does not show it: no frame carries it
(R254, R408); free value of the unit, the cell and the beat, log entry 30. -/
opaque Config.remoteTherm : BitVec 16 → Nat → Word → Bool

/-- The thermistors that another unit populates, bit i − 1 for Ti: its own image says so, and no frame carries it (R273, R408); free
value of the unit, log entry 92. -/
opaque Config.remoteThm : BitVec 16 → BitVec 32

/-- Whether another current unit populates the ID input: its own image says so (R274); free value, log entry 71. -/
opaque Config.remoteIdEn : BitVec 16 → Bool

/-- What the ID input of another current unit decodes at a conversion, none when not VALID: no frame carries it (R273); free value of
the beat, log entry 71. -/
opaque Config.remoteId : Word → Option Nat

/-- R432 calls a loop delay plus TDCO above 127 cycles a bit error and does not say whether the bit sent was 1 or 0: it is 1, from the
errors that the port has counted; free value, log entry 102. -/
opaque Config.tdcBit : Nat → Bool

/-- The request code that the Coordinator gives a string in a beat: R421 lays the codes out, and no rule says when the Coordinator
requests; free value, log entry 106. -/
opaque Config.kfCode : BitVec 32 → Nat → Nat

/-- The turnaround that a port reports in the answer to a delay frame, in 8 ns units (R391): free value of the port and the frame, log
entry 104. -/
opaque Config.turnaround : RPort → List (BitVec 8) → Nat

end Sys2Proof
end

