-- ==== Sys2Proof/Machine/ImageTable.lean ====
section
/-! DEFINITION. The defining tables of the image parameters: section, name, items, range and default (R112, R539). -/

namespace Sys2Proof.Machine

/-- How the value of a parameter is laid out in its record (R539). -/
inductive ParamKind where
  /-- one 4-byte two's complement number -/
  | num
  /-- one 8-byte number -/
  | wide
  /-- between lo and hi elements of the given number of columns, each a 4-byte number -/
  | list (cols lo hi : Nat)
  /-- a 16-byte escapement block record (R322) -/
  | block
  deriving DecidableEq, Repr

/-- One row of a defining table. The default is none where the Default column reads a dash. -/
structure ParamRow where
  par : Param
  name : String
  sect : Nat
  first : Nat := 0
  last : Nat := 0
  kind : ParamKind := .num
  lo : Int := 0
  hi : Int := 0
  dflt : Option (List Int) := none
  deriving DecidableEq, Repr

/-- The parameters of section IDENT (type 1). -/
def paramRowsIdent : List ParamRow := [
  { par := .START, name := "START", sect := 1, lo := 0, hi := 1, dflt := some [0] },
  { par := .TIE, name := "TIE", sect := 1, lo := 0, hi := 255, dflt := some [0] },
  { par := .MASTERS, name := "MASTERS", sect := 1, kind := .list 1 0 256, lo := 0, hi := 255, dflt := some [] },
  { par := .COORD, name := "COORD", sect := 1, lo := 0, hi := 255, dflt := some [0] },
  { par := .HIST_AUTO, name := "HIST_AUTO", sect := 1, lo := 0, hi := 1, dflt := some [0] }]

/-- The parameters of section POP (type 2). DESIGN CHOICE (log entry 83): ISO_WARN and ISO_TRIP, for which R162 gives no default, must
appear. -/
def paramRowsPop : List ParamRow := [
  { par := .CELL, name := "CELL", sect := 2, first := 1, last := 96, lo := 0, hi := 1, dflt := some [1] },
  { par := .THM_TAB, name := "THM_TAB", sect := 2, first := 1, last := 32, lo := 0, hi := 4, dflt := some [4] },
  { par := .TAB, name := "TAB", sect := 2, first := 0, last := 3, kind := .list 2 2 64, lo := (-32768), hi := 65535, dflt := some [] },
  { par := .R_SH, name := "R_SH", sect := 2, first := 1, last := 2, lo := 10000, hi := 10000000, dflt := some [0] },
  { par := .HV, name := "HV", sect := 2, first := 0, last := 3, lo := 0, hi := 1, dflt := some [0] },
  { par := .ID_EN, name := "ID_EN", sect := 2, lo := 0, hi := 1, dflt := some [0] },
  { par := .ISO_EN, name := "ISO_EN", sect := 2, lo := 0, hi := 1, dflt := some [0] },
  { par := .ISO_PHASE, name := "ISO_PHASE", sect := 2, lo := 1000, hi := 10000, dflt := some [1000] },
  { par := .ISO_WARN, name := "ISO_WARN", sect := 2, lo := 50, hi := 50000 },
  { par := .ISO_TRIP, name := "ISO_TRIP", sect := 2, lo := 50, hi := 50000 }]

/-- The parameters of section BEAT (type 3). -/
def paramRowsBeat : List ParamRow := [
  { par := .HOLDOVER, name := "HOLDOVER", sect := 3, lo := 1, hi := 255, dflt := some [16] },
  { par := .SRC_SEL, name := "SRC_SEL", sect := 3, lo := 0, hi := 2, dflt := some [0] },
  { par := .SYNC_PHASE, name := "SYNC_PHASE", sect := 3, lo := 0, hi := 999, dflt := some [0] },
  { par := .CANT_PHASE, name := "CANT_PHASE", sect := 3, lo := 0, hi := 999, dflt := some [0] },
  { par := .FALL_WIN, name := "FALL_WIN", sect := 3, lo := 0, hi := 1, dflt := some [0] },
  { par := .RISE_BEAT, name := "RISE_BEAT", sect := 3, lo := 0, hi := 1, dflt := some [0] },
  { par := .EN, name := "EN", sect := 3, first := 0, last := 3, lo := 0, hi := 1, dflt := some [0] },
  { par := .MODE, name := "MODE", sect := 3, first := 0, last := 3, lo := 0, hi := 2, dflt := some [0] },
  { par := .LEN, name := "LEN", sect := 3, first := 0, last := 3, lo := 1, hi := 8, dflt := some [1] },
  { par := .OFS, name := "OFS", sect := 3, first := 0, last := 3, lo := 0, hi := 900, dflt := some [0] },
  { par := .GROUP, name := "GROUP", sect := 3, first := 0, last := 3, lo := 1, hi := 15, dflt := some [1] },
  { par := .NEXT, name := "NEXT", sect := 3, first := 0, last := 3, lo := 0, hi := 1023, dflt := some [0] }]

/-- The parameters of section THRESH (type 4). -/
def paramRowsThresh0 : List ParamRow := [
  { par := .OW_PERIOD, name := "OW_PERIOD", sect := 4, lo := 1, hi := 600, dflt := some [10] },
  { par := .OW_DEV, name := "OW_DEV", sect := 4, lo := 20, hi := 500, dflt := some [100] },
  { par := .OW_MARGIN, name := "OW_MARGIN", sect := 4, lo := 10, hi := 500, dflt := some [100] },
  { par := .OW_GRACE, name := "OW_GRACE", sect := 4, lo := 0, hi := 3600, dflt := some [30] },
  { par := .OW_REACT, name := "OW_REACT", sect := 4, lo := 0, hi := 2, dflt := some [1] },
  { par := .CHK_TOL, name := "CHK_TOL", sect := 4, lo := 5, hi := 100, dflt := some [20] },
  { par := .SUM_TOL, name := "SUM_TOL", sect := 4, lo := 200, hi := 20000, dflt := some [1500] },
  { par := .OV_LIM, name := "OV_LIM", sect := 4, lo := 64000, hi := 131071 },
  { par := .OV_TRIP, name := "OV_TRIP", sect := 4, lo := 64000, hi := 131071 },
  { par := .UV_LIM, name := "UV_LIM", sect := 4, lo := 0, hi := 128000 },
  { par := .UV_TRIP, name := "UV_TRIP", sect := 4, lo := 0, hi := 128000 },
  { par := .V_HYS, name := "V_HYS", sect := 4, lo := 0, hi := 2560, dflt := some [256] },
  { par := .DEB_V, name := "DEB_V", sect := 4, lo := 1, hi := 255, dflt := some [3] },
  { par := .DEB_CHK, name := "DEB_CHK", sect := 4, lo := 1, hi := 8, dflt := some [2] },
  { par := .OT_LIM, name := "OT_LIM", sect := 4, lo := (-5000), hi := 15000 },
  { par := .OT_TRIP, name := "OT_TRIP", sect := 4, lo := (-5000), hi := 15000 },
  { par := .UT_LIM, name := "UT_LIM", sect := 4, lo := (-5000), hi := 15000 },
  { par := .UT_TRIP, name := "UT_TRIP", sect := 4, lo := (-5000), hi := 15000 },
  { par := .T_HYS, name := "T_HYS", sect := 4, lo := 0, hi := 1000, dflt := some [200] },
  { par := .DEB_T, name := "DEB_T", sect := 4, lo := 1, hi := 10, dflt := some [2] },
  { par := .ICONT_CHG, name := "ICONT_CHG", sect := 4, lo := 1, hi := 2000000 },
  { par := .ICONT_DIS, name := "ICONT_DIS", sect := 4, lo := 1, hi := 2000000 },
  { par := .I2T_MAX, name := "I2T_MAX", sect := 4, lo := 1, hi := 1000000000 },
  { par := .ITRIP_CHG, name := "ITRIP_CHG", sect := 4, lo := 1, hi := 524287 },
  { par := .ITRIP_DIS, name := "ITRIP_DIS", sect := 4, lo := 1, hi := 524287 }]

def paramRowsThresh1 : List ParamRow := [
  { par := .FT_VOTE, name := "FT_VOTE", sect := 4, lo := 0, hi := 1, dflt := some [0] },
  { par := .ISO_DEB, name := "ISO_DEB", sect := 4, lo := 1, hi := 10, dflt := some [1] },
  { par := .T_PULLIN, name := "T_PULLIN", sect := 4, lo := 10, hi := 100, dflt := some [50] },
  { par := .ECO_DUTY, name := "ECO_DUTY", sect := 4, lo := 10, hi := 100, dflt := some [35] },
  { par := .PC_PCT, name := "PC_PCT", sect := 4, lo := 500, hi := 990, dflt := some [950] },
  { par := .PC_TMIN, name := "PC_TMIN", sect := 4, lo := 0, hi := 10000, dflt := some [50] },
  { par := .PC_TMAX, name := "PC_TMAX", sect := 4, lo := 10, hi := 10000, dflt := some [2000] },
  { par := .PC_RETRY, name := "PC_RETRY", sect := 4, lo := 0, hi := 3, dflt := some [1] },
  { par := .PC_COOL, name := "PC_COOL", sect := 4, lo := 1000, hi := 600000, dflt := some [30000] },
  { par := .T_OVL, name := "T_OVL", sect := 4, lo := 5, hi := 500, dflt := some [20] },
  { par := .T_FTC, name := "T_FTC", sect := 4, lo := 10, hi := 1000, dflt := some [100] },
  { par := .I_OPEN, name := "I_OPEN", sect := 4, lo := 1, hi := 65535, dflt := some [5000] },
  { par := .T_CURFREE, name := "T_CURFREE", sect := 4, lo := 10, hi := 5000, dflt := some [200] },
  { par := .T_NEG_DLY, name := "T_NEG_DLY", sect := 4, lo := 1, hi := 100, dflt := some [10] },
  { par := .T_WELD, name := "T_WELD", sect := 4, lo := 10, hi := 10000, dflt := some [1000] },
  { par := .WELD_PCT, name := "WELD_PCT", sect := 4, lo := 50, hi := 900, dflt := some [200] },
  { par := .T_MIRROR, name := "T_MIRROR", sect := 4, lo := 10, hi := 500, dflt := some [100] },
  { par := .IN_DEB, name := "IN_DEB", sect := 4, lo := 1, hi := 50, dflt := some [5] },
  { par := .REQ_SRC, name := "REQ_SRC", sect := 4, lo := 0, hi := 7, dflt := some [1] },
  { par := .ROLE, name := "ROLE", sect := 4, first := 1, last := 8, lo := 0, hi := 4, dflt := some [0] },
  { par := .FAST, name := "FAST", sect := 4, first := 1, last := 8, lo := 0, hi := 1, dflt := some [0] },
  { par := .FUNC, name := "FUNC", sect := 4, first := 1, last := 8, lo := 0, hi := 4, dflt := some [0] },
  { par := .IN_OUT, name := "IN_OUT", sect := 4, first := 1, last := 8, lo := 1, hi := 8, dflt := some [1] },
  { par := .TW_g, name := "TW_g", sect := 4, first := 0, last := 5, lo := (-4000), hi := 17500, dflt := some [10000] },
  { par := .TT_g, name := "TT_g", sect := 4, first := 0, last := 5, lo := (-4000), hi := 17500, dflt := some [11000] }]

def paramRowsThresh2 : List ParamRow := [
  { par := .TS_g, name := "TS_g", sect := 4, first := 0, last := 5, lo := (-4000), hi := 17500, dflt := some [12500] },
  { par := .HYS_g, name := "HYS_g", sect := 4, first := 0, last := 5, lo := 50, hi := 2000, dflt := some [300] },
  { par := .GRP, name := "GRP", sect := 4, first := 1, last := 32, lo := 0, hi := 15, dflt := some [15] }]

/-- The parameters of section THRESH (type 4), all of them. -/
def paramRowsThresh : List ParamRow := paramRowsThresh0 ++ paramRowsThresh1 ++ paramRowsThresh2

/-- The parameters of section ESC (type 5). -/
def paramRowsEsc0 : List ParamRow := [
  { par := .BLOCK, name := "BLOCK", sect := 5, first := 0, last := 255, kind := .block, lo := 0, hi := 0, dflt := some [] },
  { par := .OPEN_REQ, name := "OPEN_REQ", sect := 5, lo := 0, hi := 65535 },
  { par := .SAFE_REQ, name := "SAFE_REQ", sect := 5, lo := 0, hi := 65535 },
  { par := .CLOSE_PERMIT, name := "CLOSE_PERMIT", sect := 5, lo := 0, hi := 65535 },
  { par := .FAST_TRIP, name := "FAST_TRIP", sect := 5, lo := 0, hi := 65535, dflt := some [32767] },
  { par := .OUT1, name := "OUT1", sect := 5, lo := 0, hi := 65535, dflt := some [32767] },
  { par := .OUT2, name := "OUT2", sect := 5, lo := 0, hi := 65535, dflt := some [32767] },
  { par := .OUT3, name := "OUT3", sect := 5, lo := 0, hi := 65535, dflt := some [32767] },
  { par := .OUT4, name := "OUT4", sect := 5, lo := 0, hi := 65535, dflt := some [32767] },
  { par := .OUT5, name := "OUT5", sect := 5, lo := 0, hi := 65535, dflt := some [32767] },
  { par := .OUT6, name := "OUT6", sect := 5, lo := 0, hi := 65535, dflt := some [32767] },
  { par := .OUT7, name := "OUT7", sect := 5, lo := 0, hi := 65535, dflt := some [32767] },
  { par := .OUT8, name := "OUT8", sect := 5, lo := 0, hi := 65535, dflt := some [32767] },
  { par := .NFLT, name := "NFLT", sect := 5, lo := 0, hi := 65535, dflt := some [32767] },
  { par := .INH, name := "INH", sect := 5, lo := 0, hi := 65535, dflt := some [32767] },
  { par := .ESC_DIVTOL, name := "ESC_DIVTOL", sect := 5, lo := 2, hi := 64, dflt := some [12] },
  { par := .HOST_SUP, name := "HOST_SUP", sect := 5, lo := 0, hi := 1, dflt := some [0] },
  { par := .RUNDOWN_MAX, name := "RUNDOWN_MAX", sect := 5, lo := 0, hi := 28800, dflt := some [0] },
  { par := .RD_CCL, name := "RD_CCL", sect := 5, lo := 0, hi := 2000000, dflt := some [0] },
  { par := .RD_DCL, name := "RD_DCL", sect := 5, lo := 0, hi := 2000000, dflt := some [0] },
  { par := .TP_PER, name := "TP_PER", sect := 5, lo := 1, hi := 60, dflt := some [10] },
  { par := .TP_OFF_LEN, name := "TP_OFF_LEN", sect := 5, lo := 100, hi := 500, dflt := some [300] },
  { par := .TP_ON_LEN, name := "TP_ON_LEN", sect := 5, lo := 20, hi := 200, dflt := some [100] },
  { par := .IN_DISC, name := "IN_DISC", sect := 5, lo := 1, hi := 1000, dflt := some [100] },
  { par := .T_PAIR, name := "T_PAIR", sect := 5, lo := 0, hi := 10, dflt := some [2] }]

def paramRowsEsc1 : List ParamRow := [
  { par := .T_SINGLE, name := "T_SINGLE", sect := 5, lo := 0, hi := 65535, dflt := some [1000] },
  { par := .T_RX, name := "T_RX", sect := 5, lo := 1, hi := 65535, dflt := some [100] },
  { par := .SEQ_WIN, name := "SEQ_WIN", sect := 5, lo := 1, hi := 16, dflt := some [4] },
  { par := .TS_WIN, name := "TS_WIN", sect := 5, lo := 1, hi := 65535, dflt := some [1000] },
  { par := .T_RDRX, name := "T_RDRX", sect := 5, lo := 0, hi := 28800, dflt := some [0] }]

/-- The parameters of section ESC (type 5), all of them. -/
def paramRowsEsc : List ParamRow := paramRowsEsc0 ++ paramRowsEsc1

/-- The parameters of section EST (type 6). -/
def paramRowsEst0 : List ParamRow := [
  { par := .FREQ, name := "FREQ", sect := 6, first := 0, last := 3, lo := 0, hi := 2000000, dflt := some [0] },
  { par := .IMP_SRC, name := "SRC", sect := 6, first := 0, last := 3, lo := 0, hi := 2, dflt := some [0] },
  { par := .IMP_CYC, name := "IMP_CYC", sect := 6, lo := 2, hi := 32, dflt := some [4] },
  { par := .IMP_NAVG, name := "IMP_NAVG", sect := 6, lo := 1, hi := 64, dflt := some [8] },
  { par := .IMP_COHMIN, name := "IMP_COHMIN", sect := 6, lo := 0, hi := 10000, dflt := some [8100] },
  { par := .IMP_IMIN, name := "IMP_IMIN", sect := 6, lo := 1, hi := 65535, dflt := some [100] },
  { par := .IMP_ALPHA, name := "IMP_ALPHA", sect := 6, lo := 1, hi := 255, dflt := some [32] },
  { par := .IMP_SOCUNC, name := "IMP_SOCUNC", sect := 6, lo := 0, hi := 100000, dflt := some [5000] },
  { par := .IMP_REQ_AMP, name := "IMP_REQ_AMP", sect := 6, lo := 0, hi := 65535, dflt := some [0] },
  { par := .E1, name := "E1", sect := 6, lo := (-5000), hi := 15000, dflt := some [-2000] },
  { par := .E2, name := "E2", sect := 6, lo := (-5000), hi := 15000, dflt := some [-1000] },
  { par := .E3, name := "E3", sect := 6, lo := (-5000), hi := 15000, dflt := some [0] },
  { par := .E4, name := "E4", sect := 6, lo := (-5000), hi := 15000, dflt := some [1000] },
  { par := .E5, name := "E5", sect := 6, lo := (-5000), hi := 15000, dflt := some [2000] },
  { par := .E6, name := "E6", sect := 6, lo := (-5000), hi := 15000, dflt := some [3000] },
  { par := .E7, name := "E7", sect := 6, lo := (-5000), hi := 15000, dflt := some [4000] },
  { par := .CELL_THERMISTOR_MAP, name := "Cell_thermistor_map", sect := 6, kind := .list 1 96 96, lo := 0, hi := 32 },
  { par := .DEFAULT_IMPEDANCE_TABLE, name := "Default_impedance_table", sect := 6, kind := .list 2 320 320, lo := (-18000), hi := 16777215 },
  { par := .IMP_TSLOT, name := "IMP_TSLOT", sect := 6, lo := 0, hi := 4, dflt := some [4] },
  { par := .IMP_TAGE, name := "IMP_TAGE", sect := 6, lo := 1000, hi := 3600000, dflt := some [60000] },
  { par := .TINT, name := "TINT", sect := 6, kind := .list 2 2 16, lo := (-32768), hi := 32767, dflt := some [] },
  { par := .EST_R_SH, name := "R_SH", sect := 6, lo := 10000, hi := 10000000, dflt := some [0] },
  { par := .IMP_EN, name := "IMP_EN", sect := 6, lo := 0, hi := 1, dflt := some [0] },
  { par := .SW_EN, name := "SW_EN", sect := 6, lo := 0, hi := 1, dflt := some [0] },
  { par := .REQ_EN, name := "REQ_EN", sect := 6, lo := 0, hi := 1, dflt := some [0] }]

def paramRowsEst1 : List ParamRow := [
  { par := .CAP_NOM, name := "CAP_NOM", sect := 6, lo := 1000, hi := 2000000 },
  { par := .V_FULL, name := "V_FULL", sect := 6, lo := 64000, hi := 128000 },
  { par := .I_TAPER, name := "I_TAPER", sect := 6, lo := 1, hi := 65535 },
  { par := .T_TAPER, name := "T_TAPER", sect := 6, lo := 1, hi := 3600, dflt := some [300] },
  { par := .V_EMPTY, name := "V_EMPTY", sect := 6, lo := 0, hi := 127999 },
  { par := .T_EMPTY, name := "T_EMPTY", sect := 6, lo := 1, hi := 600, dflt := some [5] },
  { par := .I_QUIET, name := "I_QUIET", sect := 6, lo := 1, hi := 65535, dflt := some [1000] },
  { par := .T_REST, name := "T_REST", sect := 6, lo := 60, hi := 7200, dflt := some [600] },
  { par := .VA_TIME, name := "VA_TIME", sect := 6, lo := 10, hi := 3600, dflt := some [60] },
  { par := .VA_CONF, name := "VA_CONF", sect := 6, lo := 0, hi := 9999, dflt := some [9000] },
  { par := .OCV_SLOT, name := "OCV_SLOT", sect := 6, lo := 0, hi := 3 },
  { par := .OCV_CURVE, name := "OCV_curve", sect := 6, kind := .list 2 2 32, lo := (-131072), hi := 131071 },
  { par := .CONF_DEF, name := "CONF_DEF", sect := 6, lo := 0, hi := 10000, dflt := some [5000] },
  { par := .DROP_REF, name := "DROP_REF", sect := 6, lo := 256, hi := 25600, dflt := some [12800] },
  { par := .U_FULL, name := "U_FULL", sect := 6, lo := 0, hi := 100000, dflt := some [500] },
  { par := .U_EMPTY, name := "U_EMPTY", sect := 6, lo := 0, hi := 100000, dflt := some [1000] },
  { par := .U_VA, name := "U_VA", sect := 6, lo := 0, hi := 100000, dflt := some [3000] },
  { par := .U_RESTART, name := "U_RESTART", sect := 6, lo := 0, hi := 100000, dflt := some [500] },
  { par := .U_SWAP, name := "U_SWAP", sect := 6, lo := 0, hi := 100000, dflt := some [5000] },
  { par := .UNC_GAIN, name := "UNC_GAIN", sect := 6, lo := 0, hi := 10000, dflt := some [1500] },
  { par := .UNC_OFS, name := "UNC_OFS", sect := 6, lo := 0, hi := 1000, dflt := some [50] },
  { par := .T_STARVE, name := "T_STARVE", sect := 6, lo := 1, hi := 8760, dflt := some [72] },
  { par := .CAP_ALPHA, name := "CAP_ALPHA", sect := 6, lo := 0, hi := 255, dflt := some [64] },
  { par := .IMAX_CHG, name := "IMAX_CHG", sect := 6, lo := 1, hi := 2000000 },
  { par := .IMAX_DIS, name := "IMAX_DIS", sect := 6, lo := 1, hi := 2000000 }]

def paramRowsEst2 : List ParamRow := [
  { par := .V_CLIM, name := "V_CLIM", sect := 6, lo := 64000, hi := 128000 },
  { par := .V_DLIM, name := "V_DLIM", sect := 6, lo := 0, hi := 127999 },
  { par := .V_CVL, name := "V_CVL", sect := 6, lo := 64000, hi := 128000 },
  { par := .KH2, name := "KH2", sect := 6, lo := 256, hi := 4095, dflt := some [384] },
  { par := .KH10, name := "KH10", sect := 6, lo := 256, hi := 4095, dflt := some [640] },
  { par := .KH30, name := "KH30", sect := 6, lo := 256, hi := 4095, dflt := some [1024] },
  { par := .R_FB, name := "R_FB", sect := 6, lo := 1, hi := 65535 },
  { par := .TD_CHG, name := "TD_CHG", sect := 6, kind := .list 2 2 16, lo := (-32768), hi := 32767 },
  { par := .TD_DIS, name := "TD_DIS", sect := 6, kind := .list 2 2 16, lo := (-32768), hi := 32767 },
  { par := .TD_INV, name := "TD_INV", sect := 6, lo := 0, hi := 1000, dflt := some [500] },
  { par := .THR_FACT, name := "THR_FACT", sect := 6, lo := 0, hi := 1000, dflt := some [500] },
  { par := .LR_FACT, name := "LR_FACT", sect := 6, lo := 0, hi := 1000, dflt := some [0] },
  { par := .OW_FACT, name := "OW_FACT", sect := 6, lo := 0, hi := 1000, dflt := some [250] },
  { par := .RD_FACT, name := "RD_FACT", sect := 6, lo := 0, hi := 1000, dflt := some [500] },
  { par := .LIM_RAMP, name := "LIM_RAMP", sect := 6, lo := 1, hi := 1000000, dflt := some [1000] },
  { par := .LIM_HOLD, name := "LIM_HOLD", sect := 6, lo := 1, hi := 100, dflt := some [3] },
  { par := .SOH_C_WARN, name := "SOH_C_WARN", sect := 6, lo := 0, hi := 10000, dflt := some [8000] },
  { par := .SOH_R_WARN, name := "SOH_R_WARN", sect := 6, lo := 10000, hi := 65535, dflt := some [20000] }]

/-- The parameters of section EST (type 6), all of them. -/
def paramRowsEst : List ParamRow := paramRowsEst0 ++ paramRowsEst1 ++ paramRowsEst2

/-- The parameters of section BAL (type 7). -/
def paramRowsBal : List ParamRow := [
  { par := .BAL_MODE, name := "BAL_MODE", sect := 7, lo := 0, hi := 1, dflt := some [0] },
  { par := .EXC_EN, name := "EXC_EN", sect := 7, lo := 0, hi := 1, dflt := some [0] },
  { par := .SRC, name := "SRC", sect := 7, lo := 0, hi := 2, dflt := some [0] },
  { par := .DUTY, name := "DUTY", sect := 7, lo := 0, hi := 16, dflt := some [16] },
  { par := .BAL_VMIN, name := "BAL_VMIN", sect := 7, lo := 0, hi := 128000 },
  { par := .ON_DELTA, name := "ON_DELTA", sect := 7, lo := 64, hi := 12800, dflt := some [256] },
  { par := .OFF_DELTA, name := "OFF_DELTA", sect := 7, lo := 0, hi := 12799, dflt := some [77] },
  { par := .BAL_THR_DUTY, name := "BAL_THR_DUTY", sect := 7, lo := 0, hi := 15, dflt := some [8] },
  { par := .BAL_TMO, name := "BAL_TMO", sect := 7, lo := 1, hi := 65535, dflt := some [5000] }]

/-- The parameters of section RING (type 8). -/
def paramRowsRing : List ParamRow := [
  { par := .RING_ORDER, name := "RING_ORDER", sect := 8, kind := .list 1 1 256, lo := 0, hi := 65535 },
  { par := .DIV, name := "DIV", sect := 8, first := 0, last := 255, lo := 1, hi := 64, dflt := some [1] },
  { par := .RING_SILENCE, name := "RING_SILENCE", sect := 8, lo := 100, hi := 600000, dflt := some [2000] },
  { par := .LOC_CCL, name := "LOC_CCL", sect := 8, lo := 0, hi := 2000000, dflt := some [0] },
  { par := .LOC_DCL, name := "LOC_DCL", sect := 8, lo := 0, hi := 2000000, dflt := some [0] }]

/-- The parameters of section CAN (type 9). DESIGN CHOICE (log entry 83): where a defining text has no Default column, as that of the bit
timing in R431, the parameter has a default here. -/
def paramRowsCan0 : List ParamRow := [
  { par := .CAN_MODE, name := "MODE", sect := 9, first := 1, last := 2, lo := 0, hi := 2, dflt := some [0] },
  { par := .BRP, name := "BRP", sect := 9, first := 1, last := 2, lo := 1, hi := 256, dflt := some [8] },
  { par := .TSEG1, name := "TSEG1", sect := 9, first := 1, last := 2, lo := 2, hi := 256, dflt := some [15] },
  { par := .TSEG2, name := "TSEG2", sect := 9, first := 1, last := 2, lo := 1, hi := 128, dflt := some [4] },
  { par := .SJW, name := "SJW", sect := 9, first := 1, last := 2, lo := 1, hi := 128, dflt := some [4] },
  { par := .TRIPLE, name := "TRIPLE", sect := 9, first := 1, last := 2, lo := 0, hi := 1, dflt := some [0] },
  { par := .DBRP, name := "DBRP", sect := 9, first := 1, last := 2, lo := 1, hi := 32, dflt := some [1] },
  { par := .DTSEG1, name := "DTSEG1", sect := 9, first := 1, last := 2, lo := 1, hi := 32, dflt := some [14] },
  { par := .DTSEG2, name := "DTSEG2", sect := 9, first := 1, last := 2, lo := 1, hi := 16, dflt := some [5] },
  { par := .DSJW, name := "DSJW", sect := 9, first := 1, last := 2, lo := 1, hi := 16, dflt := some [5] },
  { par := .TDC, name := "TDC", sect := 9, first := 1, last := 2, lo := 0, hi := 1, dflt := some [0] },
  { par := .TDCO, name := "TDCO", sect := 9, first := 1, last := 2, lo := 0, hi := 127, dflt := some [0] },
  { par := .BOFF_HOLD, name := "BOFF_HOLD", sect := 9, first := 1, last := 2, lo := 0, hi := 1000, dflt := some [0] },
  { par := .WAKE_MODE, name := "WAKE_MODE", sect := 9, first := 1, last := 2, lo := 0, hi := 3, dflt := some [0] },
  { par := .WUF_RATE, name := "WUF_RATE", sect := 9, first := 1, last := 2, lo := 0, hi := 3, dflt := some [0] },
  { par := .WUF_ID, name := "WUF_ID", sect := 9, first := 1, last := 2, lo := (-2147483648), hi := 2147483647, dflt := some [0] },
  { par := .WUF_IDM, name := "WUF_IDM", sect := 9, first := 1, last := 2, lo := 0, hi := 536870911, dflt := some [0] },
  { par := .WUF_DLC, name := "WUF_DLC", sect := 9, first := 1, last := 2, lo := 0, hi := 15, dflt := some [0] },
  { par := .DMASK, name := "DMASK", sect := 9, first := 1, last := 2, lo := 0, hi := 255, dflt := some [0] },
  { par := .WUF_D0, name := "WUF_D0", sect := 9, first := 1, last := 2, lo := (-2147483648), hi := 2147483647, dflt := some [0] },
  { par := .WUF_D1, name := "WUF_D1", sect := 9, first := 1, last := 2, lo := (-2147483648), hi := 2147483647, dflt := some [0] },
  { par := .TT_ROLE, name := "TT_ROLE", sect := 9, lo := 0, hi := 2, dflt := some [0] },
  { par := .TT_PORT, name := "TT_PORT", sect := 9, lo := 1, hi := 2, dflt := some [1] },
  { par := .REF_ID, name := "REF_ID", sect := 9, lo := 0, hi := 2047 },
  { par := .CYC_MAX, name := "CYC_MAX", sect := 9, lo := 0, hi := 63, dflt := some [0] }]

/-- The parameters of section CAN, the second part. DESIGN CHOICE (log entry 6): the IDE of a filter, which R451 calls IDE as it does an
object's, has the name FILT_IDE. -/
def paramRowsCan1 : List ParamRow := [
  { par := .TM_OFS, name := "TM_OFS", sect := 9, lo := 0, hi := 999, dflt := some [0] },
  { par := .REF_EXT, name := "REF_EXT", sect := 9, lo := 0, hi := 1, dflt := some [1] },
  { par := .CAL_EN, name := "CAL_EN", sect := 9, lo := 0, hi := 1, dflt := some [0] },
  { par := .CAL_STEP, name := "CAL_STEP", sect := 9, lo := 1, hi := 1000, dflt := some [10] },
  { par := .DIR, name := "DIR", sect := 9, first := 0, last := 255, lo := 0, hi := 1, dflt := some [0] },
  { par := .IDE, name := "IDE", sect := 9, first := 0, last := 255, lo := 0, hi := 1, dflt := some [0] },
  { par := .ID, name := "ID", sect := 9, first := 0, last := 255, lo := 0, hi := 536870911, dflt := some [-1] },
  { par := .FMT, name := "FMT", sect := 9, first := 0, last := 255, lo := 0, hi := 2, dflt := some [0] },
  { par := .ONESHOT, name := "ONESHOT", sect := 9, first := 0, last := 255, lo := 0, hi := 1, dflt := some [0] },
  { par := .DLC, name := "DLC", sect := 9, first := 0, last := 255, lo := 0, hi := 15, dflt := some [0] },
  { par := .CONT, name := "CONT", sect := 9, first := 0, last := 255, lo := 0, hi := 7, dflt := some [0] },
  { par := .PER, name := "PER", sect := 9, first := 0, last := 255, lo := 0, hi := 65535, dflt := some [0] },
  { par := .PHASE, name := "PHASE", sect := 9, first := 0, last := 255, lo := 0, hi := 65534, dflt := some [0] },
  { par := .TEL, name := "TEL", sect := 9, first := 0, last := 255, lo := 0, hi := 63, dflt := some [0] },
  { par := .ID1, name := "ID1", sect := 9, first := 0, last := 127, lo := 0, hi := 536870911, dflt := some [-1] },
  { par := .ID2, name := "ID2", sect := 9, first := 0, last := 127, lo := 0, hi := 536870911, dflt := some [-1] },
  { par := .L, name := "L", sect := 9, first := 0, last := 127, lo := 16, hi := 64, dflt := some [0] },
  { par := .SAFE_ID, name := "SAFE_ID", sect := 9, first := 0, last := 127, lo := (-2147483648), hi := 2147483647, dflt := some [0] },
  { par := .SRC_ADDR, name := "SRC_ADDR", sect := 9, first := 0, last := 127, lo := 0, hi := 65535, dflt := some [0] },
  { par := .TCONT, name := "TCONT", sect := 9, first := 0, last := 127, lo := 0, hi := 2, dflt := some [0] },
  { par := .FILT_IDE, name := "FILT_IDE", sect := 9, first := 0, last := 63, lo := 0, hi := 1, dflt := some [0] },
  { par := .TARGET, name := "TARGET", sect := 9, first := 0, last := 63, lo := 0, hi := 3, dflt := some [0] },
  { par := .MATCH, name := "MATCH", sect := 9, first := 0, last := 63, lo := 0, hi := 536870911, dflt := some [0] },
  { par := .MASK, name := "MASK", sect := 9, first := 0, last := 63, lo := 0, hi := 536870911, dflt := some [0] }]

/-- The parameters of section CAN (type 9), all of them. -/
def paramRowsCan : List ParamRow := paramRowsCan0 ++ paramRowsCan1

/-- The parameters of section FLT (type 10). -/
def paramRowsFlt : List ParamRow := [
  { par := .N, name := "N", sect := 10, first := 0, last := 127, lo := 1, hi := 255, dflt := some [1] },
  { par := .W, name := "W", sect := 10, first := 0, last := 127, lo := 1, hi := 65535, dflt := some [1] },
  { par := .TR_EV, name := "TR_EV", sect := 10, first := 0, last := 127, lo := 0, hi := 1, dflt := some [0] },
  { par := .REACT_EV, name := "REACT_EV", sect := 10, first := 0, last := 127, lo := 0, hi := 63, dflt := some [0] },
  { par := .REACT_SEV, name := "REACT_SEV", sect := 10, first := 0, last := 127, lo := 0, hi := 63, dflt := some [0] },
  { par := .FLT_HOLD, name := "FLT_HOLD", sect := 10, lo := 1, hi := 65535, dflt := some [10000] }]

/-- The parameters of section SVC (type 11). -/
def paramRowsSvc : List ParamRow := [
  { par := .REP_WIN, name := "REP_WIN", sect := 11, lo := 0, hi := 3600, dflt := some [10] },
  { par := .LSN_TMO, name := "LSN_TMO", sect := 11, lo := 0, hi := 65535, dflt := some [0] },
  { par := .DORM_TMO, name := "DORM_TMO", sect := 11, lo := 0, hi := 8760, dflt := some [0] },
  { par := .WAKE_EN, name := "WAKE_EN", sect := 11, lo := 0, hi := 127, dflt := some [0] }]

/-- Every parameter of the image (R539). -/
def paramRows : List ParamRow :=
  paramRowsIdent ++ paramRowsPop ++ paramRowsBeat ++ paramRowsThresh ++ paramRowsEsc ++ paramRowsEst ++ paramRowsBal ++ paramRowsRing ++ paramRowsCan ++ paramRowsFlt ++ paramRowsSvc

end Sys2Proof.Machine
end

