-- ==== Sys2Proof/Machine/Parts/Bal.lean ====
section
/-! DEFINITION. State of balancing, excitation and the impedance measurement (chapters 07 and 08). -/

namespace Sys2Proof.Machine

/-- One balancing switch (R207-R212). -/
structure SwS where
  /-- locked off until module reset (R209) -/
  lock : Bool := false
  /-- opened by the die for the rest of the beat, and consecutive such beats (R209) -/
  cut : Bool := false
  cutRun : Nat := 0
  /-- consecutive beats commanded on without current, and commanded off with current (R209) -/
  noRun : Nat := 0
  offRun : Nat := 0
  /-- the command of R210 for this beat: the duty pattern, the excitation pattern or open -/
  duty : Bool := false
  exc : Bool := false
  /-- the excitation or calibration level of the switch -/
  level : Bool := false
  want : Bool := false
  /-- conducted in some sub-beat of this beat, and in the last beat (R222) -/
  ran : Bool := false
  on : Bool := false
  /-- current above 5 mA, and below 5 mA while commanded on for a full sub-beat, in this beat (R209) -/
  sawOff : Bool := false
  sawNo : Bool := false
  /-- sum of the interval currents of this beat and the mean of the last beat, in µA (R208) -/
  sum : Int := 0
  ua : Int := 0
  deriving DecidableEq, Repr

/-- An excitation run (R217, R237). -/
structure ExcRun where
  slot : Nat
  group : Nat
  cells : List Nat
  half : Nat
  start : Word
  /-- boundary at which the run ends -/
  stop : Word
  level : Bool := true
  deriving DecidableEq, Repr

/-- Wire calibration (R202, R220). -/
structure WireCal where
  /-- position 1 to 24 in progress and beat 0 to 4 of it -/
  pos : Nat := 1
  beat : Nat := 0
  /-- position whose fourth beat was the beat before; 0 when that beat completed none -/
  prevPos : Nat := 0
  /-- cell codes of the baseline beat -/
  base : List Int := []
  repeats : Nat := 0
  /-- the cell in progress starts, or starts again, at the next boundary without a pass -/
  suspended : Bool := false
  /-- current was too high: the cell repeats from the next boundary -/
  again : Bool := false
  /-- Rw found so far: cell number and mΩ -/
  found : List (Nat × Nat) := []
  deriving DecidableEq, Repr

/-- Balancing (R207-R222, R540). -/
structure BalS where
  /-- windows for which every gated switch is forced open now, and whether one was at the start of this sub-beat (R198, R199) -/
  gate : List Bool := List.replicate 4 false
  /-- windows for which the switches have opened at the end of this beat already (R198, R199) -/
  gateNext : List Bool := List.replicate 4 false
  gateSub : Bool := false
  /-- the exciting switches toggled in this sub-beat (R217) -/
  tog : Bool := false
  tmo : BitVec 16 := 0
  duty : BitVec 5 := 0
  src : BitVec 2 := 0
  sw : List SwS := List.replicate 96 {}
  req : List Word := [0, 0, 0]
  /-- beats since a BAL_REQ register was written (R213) -/
  reqAge : Nat := 0
  /-- the timeout of R213 has acted since that write -/
  reqDone : Bool := false
  tmoFlag : Bool := false
  strMin : Int := 0
  strAge : Nat := 255
  /-- SBN of the beat for which STR_MIN was computed; none before the first (R406) -/
  strBeat : Option Word := none
  swFlt : List Bool := List.replicate 4 false
  /-- channel B inhibits per segment (R23) -/
  inhB : List Bool := List.replicate 4 false
  /-- Rw of pin below cell n and its validity, in MRAM (R202) -/
  rw : List (Bool × Nat) := List.replicate 96 (false, 0)
  run : Option ExcRun := none
  /-- the run of this beat stopped under R219 in this beat -/
  stopped : Bool := false
  /-- next entry of the rotation: slot and group (R237) -/
  next : Nat × Nat := (0, 0)
  broken : Nat := 0
  runs : Nat := 0
  cal : Option WireCal := none
  calCause : Nat := 0
  calState : Nat := 0
  calPos : Nat := 0
  calFail : List Bool := List.replicate 4 false
  deriving DecidableEq, Repr

/-- One interval of the continuous streams (R82, R208, R227, R228): cells, their switch currents, I1. -/
structure Interval where
  cells : List (Option Raw) := []
  ib : List Int := []
  i1 : Option Raw := none
  deriving DecidableEq, Repr

/-- The transforms of one cell in the current block (R230). -/
structure Bins where
  vre : Int := 0
  vim : Int := 0
  rre : Int := 0
  rim : Int := 0
  ok : Bool := true
  /-- in every beat so far Rw was valid for the cell's wires, or neither switch n nor n+1 conducted (R231) -/
  wires : Bool := true
  /-- the slot analysed the cell in some beat of the block (R236) -/
  any : Bool := false
  deriving DecidableEq, Repr

/-- The sums of one cell and slot, with the bins of their first valid block (R230, R232). -/
structure Sums where
  re : Int := 0
  im : Int := 0
  rr : Int := 0
  vv : Int := 0
  n : Nat := 0
  tbin : Nat := 0
  sbin : Nat := 0
  /-- blocks of the slot that have ended since the first valid block -/
  blocks : Nat := 0
  deriving DecidableEq, Repr

/-- A result of one cell and slot (R233, R234). -/
structure ImpRes where
  mag : Nat := 0
  ph : Int := 0
  coh : Nat := 0
  valid : Bool := false
  /-- last beat of the block, and the beat from which the result is visible (R235) -/
  beat : Word := 0
  blocks : Nat := 0
  any : Bool := false
  deriving DecidableEq, Repr

/-- Analysis of one slot (R224, R230, R236). -/
structure SlotS where
  /-- beats of the current block summed so far; none while no block runs -/
  beats : Option Nat := none
  bins : List Bins := List.replicate 96 {}
  sums : List Sums := List.replicate 96 {}
  res : List ImpRes := List.replicate 96 {}
  /-- results formed in this beat: visible at the next boundary (R235) -/
  hold : List (Nat × ImpRes) := []
  /-- a block has ended and waits for IMPEDANCE_BLOCK_END -/
  ended : Bool := false
  deriving DecidableEq, Repr

/-- One measured entry of an impedance table: cell, tbin, sbin, slot, and its fields (R240, R242). -/
structure TabEnt where
  cell : Nat
  tbin : Nat
  sbin : Nat
  slot : Nat
  mag : Nat
  ph : Int
  coh : Nat
  n : Nat
  deriving DecidableEq, Repr

/-- The current request (R238). -/
structure CurReq where
  slot : Nat
  freq : Nat
  amp : Nat
  /-- boundary that ends its last block -/
  stop : Word
  deriving DecidableEq, Repr

/-- Impedance (R223-R246) and the sweep (R356). -/
structure ImpS where
  en : Bool := false
  swEn : Bool := false
  reqEn : Bool := false
  slots : List SlotS := List.replicate 4 {}
  /-- intervals of this beat and of the beat before, oldest first; the reference of the beat before as received -/
  cur : List Interval := []
  prev : List Interval := []
  prevRef : Option (List (Option Raw)) := none
  /-- the reference of this beat, received before its end (R235) -/
  curRef : Option (List (Option Raw)) := none
  /-- cells that met the beat conditions of R231 in the beat before -/
  prevOk : List Nat := []
  /-- cells under excitation by slot k in the beat before -/
  prevExc : List (Nat × Nat) := []
  prevBeat : Option Word := none
  /-- the string's displayed SOC and bound in the beat before, when it was reported (R241, R242) -/
  prevSoc : Option (Nat × Nat) := none
  /-- analysis was permitted in the beat before (R226) -/
  prevOn : Bool := false
  /-- SBN of the beat before -/
  prevSbn : Word := 0
  inv : Nat := 0
  val : Nat := 0
  /-- IMP_SEL (R246) -/
  selSrc : Bool := false
  selRec : BitVec 3 := 0
  selCell : BitVec 7 := 1
  selSlot : BitVec 2 := 0
  selT : BitVec 3 := 0
  selS : BitVec 4 := 0
  req : Option CurReq := none
  /-- next SRC 2 slot of the request rotation (R238) -/
  reqNext : Nat := 0
  deriving DecidableEq, Repr

end Sys2Proof.Machine
end

