-- ==== Sys2Proof/Machine/Parts/Beat.lean ====
section
/-! DEFINITION. State of the beat, the windows, replay, the memories and the planes (chapters 01 and 03). -/

namespace Sys2Proof.Machine

/-- The lock states of the beat source (R85). -/
inductive Lock where
  | free | acquiring | locked | holdover
  deriving DecidableEq, Repr

/-- One sample window during a beat (R88-R92). Positions are in hundredths of a CLK_S cycle, so that 1 µs is 4,096. -/
structure WinS where
  /-- WINw_NEXT.OFS in force, in µs (R89) -/
  next : Nat := 0
  /-- the window's position in this beat is fixed (R89) -/
  placed : Bool := false
  start : Nat := 0
  fallback : Bool := false
  rejected : Bool := false
  /-- WINDOW_CLOSE has run for it in this beat (R92) -/
  closed : Bool := false
  /-- evaluated in the next beat (R90) -/
  late : Bool := false
  deriving DecidableEq, Repr

/-- States of replay (R108, RPL_STAT.STATE). -/
inductive RplState where
  | idle | waiting | running | stopped
  deriving DecidableEq, Repr

/-- Replay (R104-R108). -/
structure RplS where
  bank : Bool := false
  rawCell : Bool := false
  en : Bool := false
  state : RplState := .idle
  /-- RPL_STAT.CAUSE: 0 none, 1 CRC, 2 sequence, 3 stopped by host, 4 preconditions -/
  cause : Nat := 0
  lastBeat : Word := 0
  /-- BEAT_NUM that the next record must carry (R107) -/
  expect : Word := 0
  /-- bytes written to RPL_IN that no record has taken yet -/
  inBuf : List Byte := []
  /-- every record accepted since the start record, oldest first -/
  stream : List (List Byte) := []
  /-- complete beat records that wait for their replay beat (R106) -/
  ready : List (List Byte) := []
  /-- BEAT_NUM at the previous replay beat (R106) -/
  lastRun : Option Word := none
  /-- results not yet read (R106) -/
  out : List Byte := []
  deriving DecidableEq, Repr

/-- One unit of the beat table's parameter segment: a host write waiting for its boundary (R33). -/
structure Staged where
  path : Path
  addr : BitVec 14
  data : Word
  deriving DecidableEq, Repr

/-- The beat and its sources (R80-R99, R108). -/
structure BeatS where
  /-- BEAT_NUM (R80) -/
  num : Word := 0
  /-- BEAT_NUM 0 has begun: the image loader has completed since the last reset (R80) -/
  running : Bool := false
  /-- instant of the latest command of the beat, in ns after the boundary (R12) -/
  offNs : Nat := 0
  srcSel : BitVec 2 := 0
  holdover : BitVec 8 := 0
  lock : Lock := .free
  /-- consecutive valid reference intervals (R85) -/
  validRefs : Nat := 0
  /-- the last four valid intervals in CLK_A cycles, newest first (R85) -/
  intervals : List Nat := []
  /-- a valid reference fell in this beat, and in the beat before (R85) -/
  refSeen : Bool := false
  /-- valid references and intervals before the reference of this beat, which one of a lower identifier replaces (R445) -/
  refBase : Option (Nat × List Nat) := none
  refLast : Bool := false
  /-- consecutive beats with the phase error within 1 µs (R85) -/
  phaseOk : Nat := 0
  /-- consecutive beats of Holdover without a reference (R85) -/
  holdBeats : Nat := 0
  phaseErr : Int := 0
  /-- BEAT_PERIOD and the length commanded for the beat, in CLK_A cycles (R84, R108) -/
  period : Nat := 0
  length : Nat := 200000
  selRej : Bool := false
  detVoid : Bool := false
  ovr : Bool := false
  ovrCnt : Nat := 0
  worst : Nat := 0
  /-- a channel has overrun in this beat: OVR_CNT has counted it (R96) -/
  ovrThis : Bool := false
  /-- the beat before had an overrun: this boundary leaves every output in its state (R96) -/
  hold : Bool := false
  syncPhase : BitVec 10 := 0
  cantPhase : BitVec 10 := 0
  fallWin : Bool := false
  riseBeat : Bool := false
  missed : Nat := 0
  extra : Nat := 0
  lastEdge : Nat := 0
  wins : List WinS := List.replicate 4 {}
  winStat : BitVec 16 := 0
  /-- SB_OFS; none before the first lock of a unit that has no string beat number yet (R81) -/
  sbOfs : Option Word := none
  /-- SB_OFS has been set by a lock to the ring marker since the unit last had a beat of its own (R81) -/
  sbMarked : Bool := false
  /-- consecutive beats in which SBN differed from the BEAT field of the Master frame, and the latest such field (R81) -/
  sbnDiff : Nat := 0
  sbnSeen : Option Word := none
  /-- next sub-beat that SUB_BEAT delivers, 0 to 15; 16 when all have come (R82) -/
  sub : Nat := 0
  /-- next stage of the boundary and of the evaluation to run in this beat (R305, R262; log entry 8) -/
  bStage : Nat := 0
  eStage : Nat := 0
  /-- an evaluation that waits for a halted core: the completion times it would have had (R362) -/
  evalWait : Option (Nat × Nat) := none
  /-- time from 850 µs on, in ns, for which the debugger has held a channel's cores in this beat (R362) -/
  haltA : Nat := 0
  haltB : Nat := 0
  /-- completion of each channel's evaluation in µs after the boundary; none before EVALUATION (R96) -/
  doneA : Option Nat := none
  doneB : Option Nat := none
  staged : List Staged := []
  deriving DecidableEq, Repr

/-- The memories behind the word code and the planes (R30, R42-R46). -/
structure MemS where
  /-- poisoned words of the three memories (R43) -/
  poisoned : List (Mem × Nat) := []
  /-- corrected reads counted per memory: SRAM A, SRAM B, MRAM (R43) -/
  transient : List Nat := [0, 0, 0]
  /-- the next word that scrubbing reads: SRAM A, SRAM B, MRAM (R44) -/
  scrub : List Nat := [0, 0, 0]
  /-- the parties that have received an error from a word that could not be read (R43, R46) -/
  errors : List Party := []
  deriving DecidableEq, Repr

end Sys2Proof.Machine
end

