-- ==== Sys2Proof/Machine/Parts/Can.lean ====
section
/-! DEFINITION. State of the CAN ports (chapter 17). -/

namespace Sys2Proof.Machine

/-- States of a CAN controller, in the order of CANn_STAT.STATE (R451). -/
inductive CanState where
  | active | passive | recovery | hold | integrating | off | listen
  deriving DecidableEq, Repr

/-- Code of a controller state (R451). -/
def CanState.code : CanState → Nat
  | .active => 0
  | .passive => 1
  | .recovery => 2
  | .hold => 3
  | .integrating => 4
  | .off => 5
  | .listen => 6

/-- TXS of a transmit object, in the order of its codes (R452). -/
inductive Txs where
  | idle | pending | onBus | sent | cancelled | late | error | discarded
  deriving DecidableEq, Repr

/-- Code of a TXS value (R452). -/
def Txs.code : Txs → Nat
  | .idle => 0
  | .pending => 1
  | .onBus => 2
  | .sent => 3
  | .cancelled => 4
  | .late => 5
  | .error => 6
  | .discarded => 7

/-- One message object (R434-R437, R452). -/
structure ObjS where
  data : List Byte := []
  txs : Txs := .idle
  /-- CANCEL arrived while the frame was on the bus (R436) -/
  cancel : Bool := false
  /-- the frame that was queued while its predecessor was on the bus (R435) -/
  next : Option (List Byte) := none
  cnt : Nat := 0
  drop : Nat := 0
  fresh : Bool := false
  beat : Word := 0
  ofs : BitVec 16 := 0
  /-- ESI of the frame that was put on the bus last: an FD frame of a port in error passive (R427) -/
  esi : Bool := false
  deriving DecidableEq, Repr

/-- A frame in a receive FIFO or the read window (R437, R438, R451). -/
structure FifoFrame where
  frame : CanFrame
  filt : Nat
  beat : Word
  second : Bool
  deriving DecidableEq, Repr

/-- One CAN port (R427-R452). -/
structure CanS where
  state : CanState := .off
  rxErr : Nat := 0
  txErr : Nat := 0
  tdc : Nat := 0
  boff : Nat := 0
  pasv : Nat := 0
  errs : Nat := 0
  lecCode : Nat := 0
  lecData : Bool := false
  left : Nat := 0
  /-- the hold beats are counted: the first boundary has come (R440) -/
  holdRun : Bool := false
  wakeCause : BitVec 3 := 0
  /-- frame error counter of the wake decoder (R442) -/
  wakeErrs : Nat := 0
  /-- time-triggered state: 0 inactive, 1 sending, 2 yielded, 3 slave (R451) -/
  ttState : Nat := 0
  cyc : Nat := 0
  ttMissed : Nat := 0
  refExt : BitVec 16 := 0
  refOfs : BitVec 16 := 0
  /-- identifier and cycle count of the valid reference of this beat; cycle count of that of the beat before (R445) -/
  refId : Option Nat := none
  refCyc : Nat := 0
  refPrev : Option Nat := none
  /-- target instant after Ref_Mark, in CLK_A cycles, of the valid reference of this beat and of the one before it (R445) -/
  refLag : Int := 0
  lagPrev : Int := 0
  /-- cycle counts of references received (R446) -/
  refCycs : List Nat := []
  /-- a higher-priority reference was received in this beat; beats without one (R444) -/
  higher : Bool := false
  higherMissed : Nat := 0
  /-- the cycle count that the time master sends next (R444) -/
  txCyc : Nat := 0
  /-- reference and calendar frames that wait in XS_CA, frames that wait in XS_AC (R26) -/
  ca : Nat := 0
  ac : Nat := 0
  fifo0 : List FifoFrame := []
  fifo1 : List FifoFrame := []
  ovr0 : Nat := 0
  ovr1 : Nat := 0
  noMatch : Nat := 0
  window : Option FifoFrame := none
  osel : BitVec 7 := 0
  obj : List ObjS := List.replicate 128 {}
  /-- periodic and event objects queued at this boundary that CAN_PERIODIC_QUEUE has not taken: object and data (R435) -/
  due : List (Nat × List Byte) := []
  deriving DecidableEq, Repr

end Sys2Proof.Machine
end

