-- ==== Sys2Proof/Machine/Parts/Charge.lean ====
section
/-! DEFINITION. State of charge accounting, of the limits and of the identity records (chapters 09 and 10). -/

namespace Sys2Proof.Machine

/-- The published charge values of a boundary (R248). -/
structure Published where
  q1 : Int := 0
  q2 : Int := 0
  f1 : Int := 0
  f2 : Int := 0
  beat : Word := 0
  v1 : Bool := false
  v2 : Bool := false
  deriving DecidableEq, Repr

/-- The lowest compensated cell of the string (R255). -/
structure VMin where
  code : Int := 0
  unit : UAddr := 0
  cell : Nat := 0
  deriving DecidableEq, Repr

/-- The accounting state of the Master (R252-R266, R271-R275). -/
structure Acc where
  qc : Int := 0
  uqc : Int := 0
  qref1 : Int := 0
  qref2 : Int := 0
  pbeat : Word := 0
  capU : Int := 0
  ua : Int := 0
  cyc : Nat := 0
  cycRem : Int := 0
  age : Nat := 0
  conflict : Bool := false
  starved : Bool := false
  unanch : Bool := false
  /-- QC waits for the first SOC_V (R275) -/
  needQc : Bool := false
  learn : Bool := false
  /-- LEARN refers to a full anchor -/
  learnFull : Bool := false
  /-- last anchor: 0 none, 1 full, 2 empty, 3 voltage -/
  anchType : Nat := 0
  taper : Nat := 0
  empty : Nat := 0
  rest : Nat := 0
  confCnt : Nat := 0
  /-- src of R252 as the last count left it: 1 I1, 2 I2, 3 substituted; 0 before the first -/
  src : Nat := 0
  /-- count source of the last beat: 0 when nothing was counted (R278) -/
  srcNow : Nat := 0
  vmin : VMin := {}
  conf : Int := 0
  socV : Int := 0
  /-- SOC_V has had a value (R275) -/
  haveSocV : Bool := false
  stale : Bool := false
  /-- consecutive beats whose values were held (R256, R286) -/
  heldBeats : Nat := 0
  soc : Int := 0
  u : Int := 0
  deriving DecidableEq, Repr

/-- One checkpoint slot of a record (R269). -/
structure Ckpt where
  qc : Int
  uqc : Int
  qref1 : Int
  qref2 : Int
  ua : Int
  age : Nat
  pbeat : Word
  conflict : Bool
  starved : Bool
  unanch : Bool
  learn : Bool
  learnFull : Bool
  anchType : Nat
  seq : Word
  deriving DecidableEq, Repr

/-- One battery identity record in MRAM (R240, R243, R269, R276). -/
structure IdRec where
  used : Bool := false
  /-- ID code, 255 when not populated -/
  code : Nat := 255
  useSeq : Nat := 0
  capU : Int := 0
  lsb1 : Int := 0
  learnCnt : Nat := 0
  cyc : Nat := 0
  cycRem : Int := 0
  slotA : Option Ckpt := none
  slotB : Option Ckpt := none
  /-- measured entries of the impedance table (R242) -/
  table : List TabEnt := []
  /-- the default table that the record was started with: MAG and PH, slot fastest, then SOC bin, then temperature bin -/
  dflt : List (Int × Int) := []
  deriving DecidableEq, Repr

/-- What the EST block shows beside the accounting state, from the boundary after the evaluation (R262, R278). -/
structure EstPub where
  valid : Bool := false
  slow : Bool := false
  swap : Bool := false
  record : Option Nat := none
  used : List Bool := List.replicate 8 false
  code : Nat := 255
  deriving DecidableEq, Repr

/-- Charge accounting (R247-R278). -/
structure ChgS where
  acc : Acc := {}
  /-- as shown in the EST block from the boundary after the evaluation (R262) -/
  shown : Acc := {}
  est : EstPub := {}
  /-- the latest published values present, and those before them (R248, R252, R255) -/
  pub : Option Published := none
  pubPrev : Option Published := none
  /-- the publications since the last count, or since the copy that a takeover would go on from: beat and the VALID flags of I1 and
  I2 (R249, R252; log entry 65) -/
  cov : List (Word × Bool × Bool) := []
  recs : List IdRec := List.replicate 8 {}
  /-- the records as of the latest boundary: the working copy of R235 and what IMP_SEL shows (R246); whether a record was put in
  force since then -/
  recsShown : List IdRec := List.replicate 8 {}
  recNew : Bool := false
  /-- record in force (R276) -/
  inForce : Option Nat := none
  swapPend : Bool := false
  /-- consecutive conversions with a different ID code, beats with every thermistor OPEN (R273) -/
  idDiff : Nat := 0
  openBeats : Nat := 0
  /-- conversions with ID VALID and a thermistor not OPEN since the detection (R274) -/
  okConv : Nat := 0
  /-- the code of the latest VALID conversion of the current unit's ID input (R273, R274) -/
  idCode : Nat := 0
  /-- a new ID conversion entered this beat -/
  idFresh : Bool := false
  /-- EST_ANCNT and CNT_STAT.SUBST as shown, and the counts of this beat that the boundary adds: voltage, empty, full anchors,
  capacity updates, substituted beats (R262, R278) -/
  anVolt : Nat := 0
  anEmpty : Nat := 0
  anFull : Nat := 0
  anLearn : Nat := 0
  substBeats : Nat := 0
  hold : List Nat := List.replicate 5 0
  /-- high half of QC latched by a read of the low half (R278) -/
  qcHi : Option Word := none
  /-- consecutive quiet beats (R267) -/
  quiet : Nat := 0
  /-- slow cadence decided for the string, and in force in the unit (R267, R268) -/
  slowDecided : Bool := false
  slow : Bool := false
  /-- decisions that wait, each with the boundary at which it takes effect (R267) -/
  slowPend : List (Word × Bool) := []
  /-- accounting copies received from the Master by a standby: the two checkpoint words (R249) -/
  copy : Option Ckpt := none
  /-- evaluations since the cycle count was stored (R272) -/
  cycEval : Nat := 0
  /-- an anchor has been taken in this beat (R261) -/
  anchored : Bool := false
  deriving DecidableEq, Repr

/-- The limit publication (R294) with the figures that the LIM and SOH registers add (R295). -/
structure LimPub where
  beat : Word := 0
  /-- magnitudes: charge 2, 10 and 30 s, then discharge, in mA -/
  chg : List Int := [0, 0, 0]
  dis : List Int := [0, 0, 0]
  cvl : Int := 0
  erem : Int := 0
  soc : Int := 0
  u : Int := 0
  sohC : Int := 0
  sohRMax : Int := 0
  sohRMean : Int := 0
  /-- LIM_STAT bits 15:0 and VALID -/
  stat : BitVec 16 := 0
  valid : Bool := false
  reqFreq : Nat := 0
  reqAmp : Nat := 0
  fChg : Int := 0
  fDis : Int := 0
  worstUnit : UAddr := 0
  worstCell : Nat := 0
  ownGrowth : Nat := 0
  growth : Nat := 0
  cellC : UAddr × Nat := (0, 0)
  cellD : UAddr × Nat := (0, 0)
  deriving DecidableEq, Repr

/-- A cell of the string that has a value in the evaluated beat, as the Master sees it (R255, R281-R283): its code, its
bounds, its pair, and the temperatures that stand for its thermistor; none when that is not VALID. -/
structure StrCell where
  unit : UAddr
  cell : Nat
  code : Int
  lo : Int
  hi : Int
  rre : Int
  base : Int
  growth : Nat
  temps : Option (List Int)
  deriving DecidableEq, Repr

/-- Limits and health (R279-R295). -/
structure LimS where
  pub : LimPub := {}
  /-- as the registers show it from the following boundary (R279) -/
  shown : LimPub := {}
  /-- cells and current of the latest beat in which every expected cell had a value (R286) -/
  cells : List StrCell := []
  ima : Int := 0
  /-- LIM_CNT.ZERO_CNT as shown, and the evaluated beat's part of it (R279, R295) -/
  zeroCnt : Nat := 0
  zeroHold : Bool := false
  sohCWarn : Bool := false
  sohRWarn : Bool := false
  /-- consecutive beats with the figure back within its threshold (R293) -/
  sohCOk : Nat := 0
  sohROk : Nat := 0
  /-- this unit's next cell of the pair rotation, and the growth of each own cell (R254, R292) -/
  pairCell : Nat := 0
  deriving DecidableEq, Repr

end Sys2Proof.Machine
end

