-- ==== Sys2Proof/Machine/Parts/Config.lean ====
section
/-! DEFINITION. State of the configuration image, its banks and the commit journal (chapter 04). -/

namespace Sys2Proof.Machine

/-- The states of a bank, in the order of their codes (R127). -/
inductive BankState where
  | empty | writing | verified | pending | trial | active | previous | invalid
  deriving DecidableEq, Repr

/-- Code of a bank state (R127). -/
def BankState.code : BankState → Nat
  | .empty => 0
  | .writing => 1
  | .verified => 2
  | .pending => 3
  | .trial => 4
  | .active => 5
  | .previous => 6
  | .invalid => 7

/-- One parameter record of an image (R539). -/
structure ImgRec where
  par : Param
  index : Nat
  vals : List Int
  deriving DecidableEq, Repr

/-- The working copy of the loaded image (R36): the header fields that the part uses and the parameter records. -/
structure Image where
  fmt : Nat := 0
  bcl : Nat := 0
  ver : Nat := 0
  addr : UAddr := 0
  role : BitVec 2 := 0
  trialS : Nat := 0
  sysTag : List Byte := []
  digest : List Byte := []
  recs : List ImgRec := []
  deriving DecidableEq, Repr

/-- One bank: its bytes, as rising addresses with no listed zero, and the journal's fields for it (R109, R128, R135). -/
structure Bank where
  cells : List Host.Cell := []
  state : BankState := .empty
  /-- key slot under which the bank was accepted; none when unsigned (R118) -/
  slot : Option Nat := none
  ver : Nat := 0
  deriving DecidableEq, Repr

/-- The owner of a write session (R120). -/
inductive Owner where
  | none | host | ring
  deriving DecidableEq, Repr

/-- What keeps BUSY set (R126, R135). -/
inductive CfgWork where
  | none | verify | commit | erase
  deriving DecidableEq, Repr

/-- A pending reset that ends a trial or swaps the banks (R133). -/
inductive RevPend where
  | none | expiry | rollback
  deriving DecidableEq, Repr

/-- A valid word of the commit journal (R128): its number, and per bank state, key slot and version, the trial's counts. -/
structure JWord where
  seq : Nat := 0
  st0 : BankState := .empty
  st1 : BankState := .empty
  slot0 : Option Nat := none
  slot1 : Option Nat := none
  ver0 : Nat := 0
  ver1 : Nat := 0
  elapsed : Nat := 0
  limit : Nat := 0
  deriving DecidableEq, Repr

/-- Banks, journal, session and registers of chapter 04 (R109-R137). -/
structure CfgS where
  bank0 : Bank := {}
  bank1 : Bank := {}
  /-- the journal's words J0 and J1; none where the 32 bytes are no valid word (R128) -/
  j0 : Option JWord := some {}
  j1 : Option JWord := none
  trialElapsed : Nat := 0
  trialLimit : Nat := 0
  /-- the loaded image; none while the module runs without one (R134) -/
  image : Option Image := none
  owner : Owner := .none
  work : CfgWork := .none
  /-- bank that the work in progress or the session concerns -/
  workBank : Bool := false
  result : Nat := 0
  lastCmd : Nat := 0
  waddr : Nat := 0
  /-- 32-byte words written since OPEN (R124) -/
  written : List Nat := []
  /-- version that R114 compares with: that of the image in force when the session opened -/
  openVer : Nat := 0
  errSect : Nat := 0
  errOfs : Nat := 0
  rev : RevPend := .none
  /-- programmed key slots KS0 to KS3, lowest first: SHA-256 of the key (R116) -/
  keys : List (List Byte) := []
  revertCnt : Nat := 0
  actCnt : Nat := 0
  /-- bank and version of the image last loaded (MRAM): another one is an activation (R490 code 0x0200) -/
  loaded : Option (Bool × Nat) := none
  /-- the working copies of both dies compared equal (R36) -/
  copiesOk : Bool := true
  /-- debounced crown switches and their counters (R62) -/
  crw1 : Bool := false
  crw2 : Bool := false
  crw1Cnt : Nat := 0
  crw2Cnt : Nat := 0
  /-- consecutive beats of disagreement and of agreement, and whether both count as open (R123) -/
  crwDiff : Nat := 0
  crwAgree : Nat := 0
  crwOpen : Bool := false
  /-- a reset that waits for the next boundary, with its cause (R129, R133, R370) -/
  resetDue : Option Nat := none
  deriving DecidableEq, Repr

end Sys2Proof.Machine
end

