-- ==== Sys2Proof/Machine/Parts/Core.lean ====
section
/-! DEFINITION. State of the core pairs, of thermal management, and of identity, counters and history (chapters 13, 15, 21). -/

namespace Sys2Proof.Machine

/-- State of a core pair (R363). -/
inductive Pair where
  | joined | split | joining | failed
  deriving DecidableEq, Repr

/-- Task of a split checker (R355). -/
inductive Task where
  | none | verification | replay | sweep
  deriving DecidableEq, Repr

/-- A request of CORE_CTRL that became active at the latest boundary (R352, R357). -/
structure CoreReq where
  splitA : Bool := false
  splitB : Bool := false
  joinA : Bool := false
  joinB : Bool := false
  deriving DecidableEq, Repr

/-- One core pair and its die (R347-R362). -/
structure PairS where
  pair : Pair := .joined
  task : Task := .none
  /-- halted by a lockstep mismatch until module reset (R348) -/
  halted : Bool := false
  /-- a self-test failed: class and number of the first missed injection (R351) -/
  testFail : Option (Nat × Nat) := none
  /-- mismatch class latched in the supervisor (R348) -/
  mm : Option Nat := none
  /-- consecutive deferrals of the join copy, and whether the copy of this beat is done (R358, R359) -/
  defer : Nat := 0
  copied : Bool := false
  /-- the copy has been made: comparison resumes at the next boundary -/
  copyDone : Bool := false
  /-- the join failed in the copy: FAILED from the boundary -/
  copyBad : Bool := false
  deriving DecidableEq, Repr

/-- The sweep (R356). -/
structure SwpS where
  nf : BitVec 4 := 0
  freqs : List (BitVec 21) := List.replicate 16 0
  selIdx : BitVec 4 := 0
  selCell : BitVec 7 := 1
  cause : Nat := 0
  /-- 0 idle, 1 running, 2 done, 3 ended -/
  state : Nat := 0
  /-- frequency in progress and its accumulation -/
  idx : Nat := 0
  slot : SlotS := {}
  /-- a sum was cleared under R232 before its result: cells without a result at this frequency -/
  cleared : List Nat := []
  /-- results: frequency index, cell, result -/
  res : List (Nat × Nat × ImpRes) := []
  deriving DecidableEq, Repr

/-- An entry of the debugger's write log (R361). -/
structure DbgEnt where
  target : DbgTarget
  addr : Word
  value : Word
  deriving DecidableEq, Repr

/-- Cores and debug (R347-R363). -/
structure CoreS where
  a : PairS := {}
  b : PairS := {}
  cause : Nat := 0
  req : Option CoreReq := none
  /-- die of the debug session (R360) -/
  dbg : Option Ch := none
  dbgHalt : Bool := false
  /-- offset in the beat, in ns, from which the halt has lasted; 0 for a halt of an earlier beat -/
  dbgFrom : Nat := 0
  log : List DbgEnt := []
  /-- latest debugger write, applied to the main core -/
  dbgLast : Option DbgEnt := none
  dbgWr : Nat := 0
  joins : Nat := 0
  splits : Nat := 0
  swp : SwpS := {}
  rpl : RplS := {}
  /-- mismatch of a die at the last reset: its record is written at the next start (R349) -/
  mmRecord : List (Ch × Nat) := []
  deriving DecidableEq, Repr

/-- One sensor group (R379-R382). -/
structure GrpS where
  tw : Bool := false
  tt : Bool := false
  ts : Bool := false
  state : Nat := 0
  noSens : Bool := false
  sens : Nat := 0
  temp : Int := -32768
  /-- the state in force for switches and caps from the latest boundary (R386) -/
  eff : Nat := 0
  deriving DecidableEq, Repr

/-- Thermal management (R379-R389). -/
structure ThmS where
  grp : List GrpS := List.replicate 6 {}
  fast : Bool := false
  strWorst : Nat := 0
  chg : Nat := 0
  /-- an excursion in progress: beats since its start and highest LX reading (R387) -/
  exc : Option (Nat × Int) := none
  oor : Bool := false
  /-- this excursion has been declared out of rating -/
  oorThis : Bool := false
  excCnt : Nat := 0
  excLen : Nat := 0
  /-- beats since the end of the previous excursion; none before the first (R388) -/
  sinceEnd : Option Nat := none
  deriving DecidableEq, Repr

/-- One unit slot of the string history (R517). -/
structure HistSlot where
  serial : BitVec 64 := 0
  addr : UAddr := 0
  record : Nat := 0
  code : Nat := 255
  seq : Nat := 0
  used : Bool := false
  /-- condensed words by number 1 to 960 and word index 0 to 7 within: rising keys 8·w + j -/
  words : List (Nat × Word) := []
  deriving DecidableEq, Repr

/-- Identity, performance counters, history (R510-R522). -/
structure SysS where
  serial : BitVec 64 := 0
  snHi : Option Word := none
  dsel : BitVec 3 := 0
  /-- 96-bit identities in the order SG0-SG3, CDA, CDB, LX, MM -/
  did : List (BitVec 96) := List.replicate 8 0
  order : Nat := 0
  sirev : Nat := 0
  pmcEn : BitVec 16 := 0
  pmcSnap : Bool := false
  pmcSel : List (BitVec 6) := List.replicate 16 0
  pmc : List Word := List.replicate 16 0
  pmcFrozen : List Word := List.replicate 16 0
  pmcOvf : BitVec 16 := 0
  /-- staged PMC_SEL writes that became active at the latest boundary (R514) -/
  pmcDue : List (Nat × BitVec 6) := []
  hist : List HistSlot := List.replicate 256 {}
  histUnit : BitVec 16 := 0
  histArea : Bool := false
  /-- word pointer of HIST_WIN, in 4-byte words -/
  histPtr : Nat := 0
  /-- position of the unit that this Master restores, and the next 4-byte word to send (R519) -/
  restore : Option (BitVec 8) := none
  restorePtr : Nat := 0
  /-- this unit's own window is open for a restore from its Master (R519) -/
  restoreIn : Bool := false
  importing : Bool := false
  /-- 4-byte words written through the window that their table or checkpoint word still waits for (R519, R520) -/
  winBuf : List Word := []
  deriving DecidableEq, Repr

end Sys2Proof.Machine
end

