-- ==== Sys2Proof/Machine/Parts/Fault.lean ====
section
/-! DEFINITION. State of the fault collectors (chapter 14). -/

namespace Sys2Proof.Machine

/-- Status of one fault source (R365, R367, R369). -/
structure FsSrc where
  /-- the condition of the source holds (R365) -/
  cond : Bool := false
  /-- a single occurrence is present through this beat (R365) -/
  till : Option Word := none
  /-- a counted transient raise with NFLT or SAFE holds through this beat (R370) -/
  transTill : Option Word := none
  latch : Bool := false
  sevp : Bool := false
  sevl : Bool := false
  events : Nat := 0
  trans : Nat := 0
  first : Word := 0
  last : Word := 0
  /-- event beats of the last N counted events, newest first (R369) -/
  ev : List Word := []
  /-- event beat from which the FSAFE input of this source reads 1 (R370) -/
  safeFrom : Word := 0
  deriving DecidableEq, Repr

/-- An injection in progress (R376, R377). -/
structure InjRun where
  target : Nat
  full : Bool
  /-- it has acted on its one read or frame -/
  hit : Bool := false
  /-- the source and the type of the ring frame that it spoiled -/
  frame : Option (UAddr × Nat) := none
  /-- what the checker or the retry has shown; none until then -/
  seen : Option Bool := none
  /-- beats in which it may still act -/
  left : Nat := 2
  deriving DecidableEq, Repr

/-- Fault collection (R364-R378, R541). -/
structure FltS where
  src : List FsSrc := List.replicate 128 {}
  /-- a handling sequence is open (R374) -/
  hopen : Bool := false
  hkind : Nat := 0
  hsrc : Nat := 0
  hbeat : Word := 0
  hreact : BitVec 6 := 0
  hcnt : Nat := 0
  hmerge : List Nat := []
  /-- beat of the last merged raise or of the opening (R375) -/
  hlast : Word := 0
  sel : BitVec 7 := 0
  trapAddr : BitVec 24 := 0
  trapDie : Bool := false
  trapSrc : BitVec 7 := 0
  /-- MODRST resets since supply was applied (supervisor), and the reset-loop state (R373) -/
  rstCnt : Nat := 0
  rloop : Bool := false
  /-- supervisor time in beats of the latest MODRST resets, newest first (R373) -/
  rstTimes : List Nat := []
  injRun : Option InjRun := none
  /-- an injection written and staged for the next boundary (R376) -/
  injDue : Option InjRun := none
  injTarget : Nat := 0
  injCause : Nat := 0
  /-- FLT_INJ_STAT.STATE: 0 idle, 1 running, 2 passed, 3 failed -/
  injState : Nat := 0
  /-- W1C of LATCH and SEVL that became active at the latest boundary and waits for LATCH_CLEAR (R367) -/
  w1cLatch : List Nat := []
  w1cSevl : List Nat := []
  /-- blocks in reset and the beats that remain (R372) -/
  blk : List (Blk × Nat) := []
  /-- block resets that take effect at the next boundary (R370) -/
  blkDue : List (Blk × Nat) := []
  /-- beat and offset in ns of the last NMI, until a host transaction under way meets it (R372, R542) -/
  nmi : Option (Word × Nat) := none
  /-- a CAN event message waits for the next boundary: source and kind (R370) -/
  canEvent : Option (Nat × Nat) := none
  /-- nFLT is asserted under R134 -/
  nfltLoad : Bool := false
  deriving DecidableEq, Repr

/-- What the FLT registers show once channel A is lost (R366): its collector, nFLT and the beat as they were then. -/
structure FltShown where
  flt : FltS
  nflt : Bool
  beat : Word
  deriving DecidableEq, Repr

end Sys2Proof.Machine
end

