-- ==== Sys2Proof/Machine/Parts/Host.lean ====
section
/-! DEFINITION. State of the host port, the report queue, the relayed requests, power and the pins (chapters 18 and 20). -/

namespace Sys2Proof.Machine

/-- A request to another unit that has not been answered (R467-R469). -/
structure Relay where
  tag : BitVec 8
  unit : UAddr
  write : Bool
  addr : BitVec 14
  data : Word := 0
  /-- it has been sent once more after a stale-role answer (R469) -/
  resent : Bool := false
  /-- beat of the MF or KF that carried its entry; none while it waits (R469) -/
  sentAt : Option Word := none
  /-- relayed over the trunk by a Coordinator (R467) -/
  trunk : Bool := false
  deriving DecidableEq, Repr

/-- A reply as the module drives it: STATUS and the data words (R454). -/
structure Reply where
  rseq : BitVec 8 := 0
  status : Nat := 0
  repseq : BitVec 16 := 0
  /-- bits 4 and 5 of byte 1 of the reply head: IRQ asserted, a report held -/
  irq : Bool := false
  held : Bool := false
  data : List Word := []
  /-- CRC over head and data (R454, R456) -/
  crc : Nat := 0
  deriving DecidableEq, Repr

/-- A burst read whose later words fall due on HSDO after a boundary: their addresses, and how many the host clocks in each beat that
follows (R458). -/
structure BurstRead where
  addrs : List Nat
  parts : List Nat
  deriving DecidableEq, Repr

/-- The last executed request, byte for byte, with its reply (R460). -/
structure LastReq where
  bytes : List Byte
  reply : Reply
  deriving DecidableEq, Repr

/-- Host port and SYS host registers (R453-R473, R542). -/
structure HostS where
  /-- the latest reply driven on HSDO (R454); none when nothing is replied (R456) -/
  reply : Option Reply := none
  lastReq : Option LastReq := none
  /-- the burst read under way (R458) -/
  burst : Option BurstRead := none
  seqLast : BitVec 8 := 0
  seqStatus : Nat := 0
  newest : BitVec 16 := 0
  /-- reports held, oldest first: words 0 to 3 (R464) -/
  reports : List (List Word) := []
  repLost : Nat := 0
  hstr : BitVec 8 := 0
  enRep : Bool := false
  errCrc : Nat := 0
  errFrame : Nat := 0
  rmtTmo : Nat := 0
  relays : List Relay := []
  nextTag : BitVec 8 := 0
  /-- a transaction was addressed to the unit in this beat (R462) -/
  addressed : Bool := false
  /-- beats since the last transaction addressed to the unit (R323) -/
  silent : Nat := 0
  deriving DecidableEq, Repr

/-- The power states of R492, with the start sequence, the entry procedure and the held reset between them. -/
inductive Power where
  | off | dormant | listen
  /-- start step 1 to 8 in progress (R499) -/
  | start (step : Nat)
  | active | idle
  /-- nRST low: held in reset (R505) -/
  | held
  deriving DecidableEq, Repr

/-- The wake-up frame that a port's wake decoder takes: identifier with IDE in bit 31, its mask, DLC, the data bytes that are compared
and their values (R442, R451). -/
structure Wuf where
  id : Word := 0
  idMask : Word := 0
  dlc : Nat := 0
  dmask : Nat := 0
  d0 : Word := 0
  d1 : Word := 0
  deriving DecidableEq, Repr

/-- Power, supply and reset (R70-R74, R492-R509). -/
structure PwrS where
  state : Power := .start 2
  nrstIgn : Bool := false
  nrstLow : Bool := false
  vsGood : Bool := true
  cause : Nat := 1
  rcause : Nat := 0
  wakeCause : BitVec 7 := 0
  /-- a wake latched until supply good (R497) -/
  wakeLatch : BitVec 7 := 0
  alarm : Word := 0
  vs : Nat := 0
  vk : Nat := 0
  xt : BitVec 3 := 0
  ms : Nat := 0
  wakes : Nat := 0
  starts : Nat := 0
  /-- a request that became active at the latest boundary: REQ and whether KEY was right (R495) -/
  req : Option (BitVec 2 × Bool) := none
  /-- consecutive beats of Idle that count towards LSN_TMO (R496) -/
  idleBeats : Nat := 0
  /-- an interruption: lowest VS so far, beat of its start and sub-beats of that beat delivered by then (R70-R72) -/
  intr : Option (Nat × Word × Nat) := none
  /-- consecutive sub-beats at or above 13.0 V (R70) -/
  vsOk : Nat := 0
  /-- a power-fail stop has begun and completes whatever VS does (R73) -/
  stopping : Bool := false
  /-- beats of the start step in progress (R499) -/
  startBeats : Nat := 0
  /-- WAKE pin level (R497) -/
  wakePin : Bool := false
  /-- supervisor beats counted since supply was applied (R373) -/
  uptime : Nat := 0
  /-- the entry procedure runs, to Dormant rather than Listen, with its trigger (R496) -/
  entry : Option (Bool × Nat) := none
  /-- what the supervisor arms in Listen and Dormant: WAKE_EN, WAKE_MODE of both ports, DORM_TMO in hours (R441, R496, R497) -/
  wakeEn : BitVec 7 := 0
  canModes : List Nat := [0, 0]
  /-- wake-up frames of both ports: WUF_ID, WUF_IDM, WUF_DLC, DMASK, WUF_D0 and WUF_D1 (R442) -/
  canWufs : List Wuf := [{}, {}]
  dormTmo : Nat := 0
  /-- low levels of nRST between 2 and 10 µs so far: each takes a new free value (R505) -/
  shorts : Nat := 0
  /-- fault sources found in steps 2 to 4, with their details, to be raised at step 5 (R538) -/
  startFaults : List (Nat × Word) := []
  deriving DecidableEq, Repr

end Sys2Proof.Machine
end

