-- ==== Sys2Proof/Machine/Parts/Log.lean ====
section
/-! DEFINITION. State of the event recorder and the calendar (chapter 19). -/

namespace Sys2Proof.Machine

/-- The planes whose events the intake orders (R29, R35). -/
inductive Plane where
  | control | data | management
  deriving DecidableEq, Repr

/-- An event of the current beat on its way to the recorder (R35). -/
structure Ev where
  plane : Plane
  /-- event code of R490 -/
  code : Nat
  p : List Word
  deriving DecidableEq, Repr

/-- One record of the store; its CRC is that of R475 over the fields (R474). -/
structure LogRec where
  code : Nat
  rep : Nat := 0
  sec : Word := 0
  frac : BitVec 16 := 0
  seq : Word := 0
  p : List Word := []
  mark : Byte := 0xA5
  deriving DecidableEq, Repr

/-- What a queue entry becomes when it is written (R482-R484). -/
inductive QKind where
  | new
  /-- a repeat operation for the record with this number -/
  | repeatOf (seq : Word)
  | marker
  deriving DecidableEq, Repr

/-- One entry of the staging queue (R483). -/
structure QEnt where
  kind : QKind
  code : Nat
  p : List Word
  rep : Nat := 0
  sec : Word := 0
  frac : BitVec 16 := 0
  /-- beat of the first occurrence (R481) -/
  beat : Word := 0
  deriving DecidableEq, Repr

/-- A record written since the last module reset that may still take a merge (R481). -/
structure Recent where
  seq : Word
  code : Nat
  p : List Word
  beat : Word
  deriving DecidableEq, Repr

/-- The recorder (R474-R491, R538). -/
structure LogS where
  /-- slots that hold a record, rising slot numbers (R477) -/
  store : List (Nat × LogRec) := []
  /-- SEQ of the newest record, kept in MRAM (R480) -/
  newest : Word := 0
  /-- events of the current beat, in the order in which they were raised (R35) -/
  intake : List Ev := []
  /-- events raised before BEAT_NUM 0 begins, in the order in which they were raised (R538) -/
  early : List Ev := []
  queue : List QEnt := []
  /-- lost events not yet in a marker: count, first beat, last beat (R484) -/
  lost : Option (Nat × Word × Word) := none
  recent : List Recent := []
  lostCnt : Nat := 0
  merged : Nat := 0
  /-- the calendar and its snapshot at the latest boundary (R28, R487) -/
  calSec : Word := 0
  calFrac : BitVec 16 := 0
  snapSec : Word := 0
  snapFrac : BitVec 16 := 0
  calValid : Bool := false
  /-- trim of the calendar's rate in ppm, and what it has gathered in millionths of a unit (R446) -/
  calTrim : Int := 0
  calTrimAcc : Int := 0
  /-- calendar saved at the last power-fail stop, in MRAM (R487) -/
  savedSec : Word := 0
  savedFrac : BitVec 16 := 0
  /-- LOG_CAL_S as written, waiting for LOG_CAL_F (R487) -/
  calS : Word := 0
  rsel : Word := 0
  /-- holding registers of the host port and of the ring: eight words each (R488) -/
  holdHost : List Word := List.replicate 8 0
  holdRing : List Word := List.replicate 8 0
  /-- a clear is pending or running: the kept SEQ, in MRAM (R486) -/
  clear : Option Word := none
  /-- the clear is erasing: the next slot (R486) -/
  clearPtr : Option Nat := none
  /-- the write slot of this beat has not been used (R479) -/
  slotDue : Bool := false
  deriving DecidableEq, Repr

end Sys2Proof.Machine
end

