-- ==== Sys2Proof/Machine/Parts/Meas.lean ====
section
/-! DEFINITION. State of measurement and of its integrity checks (chapters 05 and 06). -/

namespace Sys2Proof.Machine

/-- A shown cell, current or HV value with its flags (R144, R172, R175). -/
structure Val where
  code : Int := 0
  valid : Bool := false
  stale : Bool := false
  range : Bool := false
  ovl : Bool := false
  /-- marked for an open wire (R193), compensated (R200), disagreeing with its check value (R189), unpopulated (R145) -/
  invalid : Bool := false
  balAff : Bool := false
  chkDiff : Bool := false
  unpop : Bool := false
  deriving DecidableEq, Repr

/-- Raw samples pooled for one channel and one evaluation beat (R92). -/
structure Pool where
  sum : Int := 0
  n : Nat := 0
  ovl : Bool := false
  /-- switch current of the cell summed over the same raw samples, in µA (R208) -/
  ib : Int := 0
  /-- the part of it that counts for the correction of R200, R201 -/
  ibc : Int := 0
  deriving DecidableEq, Repr

/-- The pools of one evaluation beat: cells, I1 and I2, the four HV channels; B's own copies, as its links deliver them (R19, R22,
R206). -/
structure Pools where
  cell : List Pool := List.replicate 96 {}
  cur : List Pool := List.replicate 2 {}
  hv : List Pool := List.replicate 4 {}
  cellB : List Pool := List.replicate 96 {}
  curB : List Pool := List.replicate 2 {}
  hvB : List Pool := List.replicate 4 {}
  /-- check conversions: cell and code, corrected under R200, as A and as B received them -/
  chk : List (Nat × Int) := []
  chkB : List (Nat × Int) := []
  /-- step of the check rotation converted for this evaluation beat (R146), and whether a window of the cell group was taken -/
  chkJ : Option Nat := none
  cellWin : Bool := false
  /-- beat in which those check conversions were made (R147) -/
  chkBeat : Word := 0
  deriving DecidableEq, Repr

/-- A measured cell code with its marks: overload, compensated (R143, R144, R200). -/
structure CellCode where
  code : Int
  ovl : Bool := false
  aff : Bool := false
  /-- mean switch current over the windows, in µA (R208) -/
  ib : Int := 0
  deriving DecidableEq, Repr

/-- Check value of a cell (R147). -/
structure ChkVal where
  code : Int := 0
  age : Nat := 255
  /-- consecutive conversions beyond and within CHK_TOL (R189) -/
  overCnt : Nat := 0
  withinCnt : Nat := 0
  deriving DecidableEq, Repr

/-- A thermistor (R166, R167). -/
structure Therm where
  a : Nat := 0
  temp : Int := -32768
  valid : Bool := false
  opn : Bool := false
  short : Bool := false
  range : Bool := false
  /-- not populated, as the freeze shows it (R16, R177) -/
  unpop : Bool := false
  age : Nat := 0
  deriving DecidableEq, Repr

/-- The identity input (R169). -/
structure IdVal where
  valid : Bool := false
  code : Nat := 0
  ohm : Nat := 0
  deriving DecidableEq, Repr

/-- An insulation cycle in progress (R159): sums of VISO and VSTK and their count, for settling P, result P, settling N,
result N. -/
structure IsoCycle where
  start : Word := 0
  sums : List (Int × Int × Nat) := List.replicate 4 (0, 0, 0)
  /-- the same of channel B's own VISO and VSTK (R22) -/
  sumsB : List (Int × Int × Nat) := List.replicate 4 (0, 0, 0)
  peOpen : Bool := false
  deriving DecidableEq, Repr

/-- The insulation result of channel B, from its own VISO and VSTK (R22, R162). -/
structure IsoB where
  min : Nat := 0
  trip : Bool := false
  warn : Bool := false
  valid : Bool := false
  deriving DecidableEq, Repr

/-- The insulation measurement (R158-R164). -/
structure IsoS where
  cycle : Option IsoCycle := none
  sPlus : Bool := false
  sMinus : Bool := false
  /-- the switch that closes 100 µs after the change of phase (R158) -/
  closeDue : Option Bool := none
  rp : Nat := 0
  rn : Nat := 0
  rpLow : Bool := false
  rpHigh : Bool := false
  rnLow : Bool := false
  rnHigh : Bool := false
  min : Nat := 0
  cause : Nat := 0
  phaseN : Bool := false
  trip : Bool := false
  warn : Bool := false
  valid : Bool := false
  b : IsoB := {}
  /-- a cycle result entered the beat table for this evaluation (R159) -/
  fresh : Bool := false
  deriving DecidableEq, Repr

/-- The copy that the CELL, CUR/HV/ISO and THM registers show (R172, R173). -/
structure Shown where
  beat : Word := 0
  cell : List Val := List.replicate 96 {}
  chk : List ChkVal := List.replicate 96 {}
  cur : List Val := List.replicate 2 {}
  hv : List Val := List.replicate 4 {}
  thm : List Therm := List.replicate 32 {}
  id : IdVal := {}
  die : List Int := List.replicate 8 0
  /-- Q1, Q2 and their fractions as of the latest boundary (R174) -/
  q : List (Int × Int) := [(0, 0), (0, 0)]
  /-- CHK_CNT, SUBST and the cadence as the copy was frozen (R146, R153, R173) -/
  chkCnt : Word := 0
  subst : Nat := 0
  slow : Bool := false
  /-- the insulation registers as of the freeze (R172) -/
  iso : IsoS := {}
  deriving DecidableEq, Repr

/-- Measurement (R138-R177). -/
structure MeasS where
  pool : Pools := {}
  /-- words that wait in XS_SA and XS_SB, per segment (R26) -/
  xsA : List Nat := [0, 0, 0, 0]
  xsB : List Nat := [0, 0, 0, 0]
  /-- pools of windows that are evaluated in the next beat (R31, R90) -/
  poolNext : Pools := {}
  shown : Shown := {}
  /-- the host-visible copy while SNAP holds it, with the thermal registers of its block (R173, R389) -/
  snap : Option (Shown × ThmS) := none
  /-- B's copies of the cell, check, current and HV values (R19, R22) -/
  cellB : List Val := List.replicate 96 {}
  chkB : List ChkVal := List.replicate 96 {}
  curB : List Val := List.replicate 2 {}
  hvB : List Val := List.replicate 4 {}
  /-- failed converters until module reset: cells, check converters, currents, HV (R142) -/
  failCell : List Nat := []
  failChk : List Nat := []
  failCur : List Nat := []
  failHv : List Nat := []
  /-- link items missing in this beat: segment, channel, window (R205) -/
  dropped : List (Nat × Ch × Nat) := []
  /-- lost continuous samples of this sub-beat: channel, then current 1, 2 or cell (R153, R205) -/
  lostCur : List (Ch × Bool) := []
  lostCell : List (Ch × Nat) := []
  /-- the accumulators of channels A and B: Q and F of I1, then of I2 (R151, R154) -/
  qA : List (Int × Int) := [(0, 0), (0, 0)]
  qB : List (Int × Int) := [(0, 0), (0, 0)]
  /-- the accumulators in MRAM, as of the latest boundary (R248) -/
  qSaved : List (Int × Int) := [(0, 0), (0, 0)]
  /-- last good raw sample of I1 and I2 (R153) -/
  goodA : List Int := [0, 0]
  goodB : List Int := [0, 0]
  /-- the two copies differed at the latest boundary (R154) -/
  qDiffer : Bool := false
  subst : Nat := 0
  /-- high halves latched by a read of the low half (R174) -/
  q1Hi : Option Word := none
  q2Hi : Option Word := none
  chkCnt : Word := 0
  /-- a check conversion was taken in this beat (R146, R147) -/
  chkTaken : Bool := false
  /-- cells whose check value is fresh in the evaluated beat, as A and as B see it -/
  freshA : List Nat := []
  freshB : List Nat := []
  /-- check step due, and a window of the cell group taken, in the evaluated beat (R299) -/
  chkJ : Option Nat := none
  cellWin : Bool := false
  /-- codes of the cells measured in the evaluated beat as each channel receives them, none without a value (R22, R143) -/
  codes : List (Option CellCode) := List.replicate 96 none
  codesB : List (Option CellCode) := List.replicate 96 none
  /-- cells with a value for the accounting: in the beat of the latest cell window in slow cadence, else in this beat (R256, R268) -/
  cellHas : List Bool := List.replicate 96 false
  /-- codes of every position of the evaluated beat, populated or not, for the check of R55 -/
  posCodes : List (Option Int) := List.replicate 96 none
  /-- current channels with a substituted sample in this beat (R153, R248) -/
  substCur : List Nat := []
  /-- conversions of the beat before they are shown (R165) -/
  thm : List Therm := List.replicate 32 {}
  id : IdVal := {}
  /-- thermistors (1 to 32) and ID (33) whose scheduled slot fell in this beat, with a new VALID value or without -/
  thmSlots : List (Nat × Bool) := []
  die : List Int := List.replicate 8 0
  /-- the last reference conversion passed (R168) -/
  refOk : Bool := true
  iso : IsoS := {}
  deriving DecidableEq, Repr

/-- State of one tap pin (R187, R188, R193, R196, R197). -/
structure PinS where
  opn : Bool := false
  suspect : Bool := false
  /-- consecutive passes that judged the OPEN pin INTACT (R197) -/
  intactRun : Nat := 0
  /-- the pin clears at the next boundary (R197) -/
  clearDue : Bool := false
  /-- beats since the marking, while OPEN (R196) -/
  graceBeats : Nat := 0
  expired : Bool := false
  /-- consecutive beats with the signature of R187 and without it -/
  sign : Nat := 0
  absent : Nat := 10
  /-- judged INTACT by a targeted slot: no suspicion until the signature was absent (R188) -/
  barred : Bool := false
  /-- a targeted slot is requested (R188-R190) -/
  want : Bool := false
  deriving DecidableEq, Repr

/-- A slot in progress (R182). -/
structure OwSlot where
  pin : Nat
  /-- 0 to 3: beats b to b+3 -/
  beat : Nat := 0
  targeted : Bool := false
  again : Bool := false
  /-- codes of the segment's cells in the baseline windows, full scale where OVL; none without a value (R185) -/
  base : List (Option Int) := []
  judged : Bool := false
  deriving DecidableEq, Repr

/-- Open-wire testing of one segment (R181-R188). -/
structure OwSeg where
  pins : List PinS := List.replicate 25 {}
  /-- beats since the pass began; none when no pass runs (R181) -/
  pass : Option Nat := none
  /-- slots to repeat after the last slot of the pass (R186) -/
  again : List Nat := []
  /-- a slot begins at this boundary and waits for OPEN_WIRE_SLOT or TARGETED_SLOT -/
  due : Option Nat := none
  slot : Option OwSlot := none
  /-- the pin whose source is on (R182) -/
  pull : Option Nat := none
  deriving DecidableEq, Repr

/-- How one channel sees the cells that the primary values alone judge (R22, R184, R194-R196, R296). -/
structure ChView where
  /-- bounds of each cell for protection: lower and upper code, where a group or a lone cell is bounded (R194, R195) -/
  bounds : List (Option (Int × Int)) := List.replicate 96 none
  /-- mean value of a held pair or value of a held cell, for protection (R184) -/
  held : List (Option Int) := List.replicate 96 none
  /-- the cell counts as beyond both trip thresholds in this beat (R195) -/
  beyond : List Bool := List.replicate 96 false
  deriving DecidableEq, Repr

/-- The stack-sum mismatch of a channel, with its counts of formed beats (R190). -/
structure SumS where
  overs : Nat := 0
  withins : Nat := 0
  mis : Bool := false
  deriving DecidableEq, Repr

/-- Measurement integrity (R178-R206). -/
structure IntegS where
  seg : List OwSeg := List.replicate 4 {}
  /-- the stack-sum mismatch as each channel judges it (R190, R296) -/
  sumA : SumS := {}
  sumB : SumS := {}
  /-- the cells as channels A and B see them (R22, R296) -/
  viewA : ChView := {}
  viewB : ChView := {}
  /-- end-pin slots requested by another unit's stack-sum mismatch are done: the units whose mismatch was seen (R190) -/
  sumSeen : List UAddr := []
  /-- retries that succeeded, per link: segment 0 to 3, channel A then B (R206) -/
  linkRetries : List Nat := List.replicate 8 0
  deriving DecidableEq, Repr

end Sys2Proof.Machine
end

