-- ==== Sys2Proof/Machine/Parts/Prot.lean ====
section
/-! DEFINITION. State of the two safety channels: protection, sequencer, escapement; outputs, inputs, test pulses and safe
telegrams (chapters 11 and 12). -/

namespace Sys2Proof.Machine

/-- A level function (R299). -/
structure Lv where
  cnt : Nat := 0
  st : Bool := false
  deriving DecidableEq, Repr

/-- The level functions of one cell in one channel (R296, R299). -/
structure CellLv where
  ovLim : Lv := {}
  ovTrip : Lv := {}
  uvLim : Lv := {}
  uvTrip : Lv := {}
  /-- consecutive beats or conversions without a value, and the measurement-lost condition -/
  none : Nat := 0
  lost : Bool := false
  deriving DecidableEq, Repr

/-- The level functions of a lone cell of another unit, in the unit that measures VSTK (R195, R296). -/
structure RemoteLv where
  unit : UAddr
  cell : Nat
  /-- The bounds last formed; none: beyond both trip thresholds (R195). -/
  bounds : Option (Int × Int) := none
  lv : CellLv := {}
  deriving DecidableEq, Repr

/-- The level functions of one thermistor in one channel (R299). -/
structure ThmLv where
  otLim : Lv := {}
  otTrip : Lv := {}
  utLim : Lv := {}
  utTrip : Lv := {}
  none : Nat := 0
  lost : Bool := false
  deriving DecidableEq, Repr

/-- The control states (R303). -/
inductive Ctl where
  | parked | precharging | closed | opening | rundown | safe
  deriving DecidableEq, Repr

/-- Codes of the control states (R303). -/
def Ctl.code : Ctl → Nat
  | .parked => 0
  | .precharging => 1
  | .closed => 2
  | .opening => 3
  | .rundown => 4
  | .safe => 5

/-- A staged request that became active at the latest boundary (R305, R306). -/
inductive ReqKind where
  | close | openReq | ack
  deriving DecidableEq, Repr

/-- Where a request came from: PROT_STAT.SRC 1 to 4 (R318). -/
inductive ReqSrc where
  | host | can | ring | esc
  deriving DecidableEq, Repr

/-- A request. -/
structure Req where
  kind : ReqKind
  src : ReqSrc
  deriving DecidableEq, Repr

/-- The contactor sequencer of one channel (R303-R314). -/
structure Seq where
  state : Ctl := .parked
  /-- opening target Safe rather than Parked -/
  toSafe : Bool := false
  /-- pre-charge step 1 to 5, 6 cooling, 0 otherwise (R307, R309) -/
  step : Nat := 0
  retry : Nat := 0
  /-- beats since the acceptance boundary c, since p, since POS closed (R307) -/
  c : Nat := 0
  /-- elapsed pre-charge beats e (R308) -/
  e : Nat := 0
  /-- the pre-charge criterion has held in this attempt (R308) -/
  crit : Bool := false
  /-- POS has been commanded by the evaluation: it closes at the next boundary (R308) -/
  posCmd : Bool := false
  /-- beats since the commit point, until the POS check (R307) -/
  m : Nat := 0
  /-- beats of cooling (R309) -/
  cool : Nat := 0
  /-- the attempt timed out in the evaluation: PRE and NEG open at the next boundary (R309) -/
  timedOut : Bool := false
  /-- the sequence ends in Opening at the next boundary, with this RESULT -/
  fail : Bool := false
  failRes : Nat := 0
  /-- beats since entry into Opening, whether POS and PRE have opened, since when, whether NEG has opened (R311) -/
  o : Nat := 0
  /-- the current-free criterion was met: POS and PRE open at the next boundary -/
  free : Bool := false
  posOpen : Bool := false
  k : Nat := 0
  /-- beats since the weld check began; none before it (R312) -/
  w : Option Nat := none
  weldDone : Bool := false
  /-- a fast trip since the latest boundary: the state becomes Safe at the next one (R305 rank 1) -/
  tripped : Bool := false
  /-- the commands that the drivers follow: those of the latest boundary without an overrun (R96) -/
  app : List Bool := List.replicate 8 false
  /-- run-down: beats since its first boundary (R331) -/
  rd : Nat := 0
  rdWarned : Bool := false
  rdExpired : Bool := false
  /-- commands to this channel's side of outputs 1 to 8 -/
  cmd : List Bool := List.replicate 8 false
  /-- outputs that an operation of the latest boundary demands open, whatever their command was (R336) -/
  opens : List Bool := List.replicate 8 false
  deriving DecidableEq, Repr

/-- Timers of one escapement block (R324). -/
structure BlkS where
  out : Bool := false
  /-- output at the end of the previous evaluation, or sub-beat (R323) -/
  prev : Bool := false
  /-- run of IN0 for DEB, step for SEQ -/
  cnt : Nat := 0
  /-- evaluations since the step was entered -/
  age : Nat := 0
  /-- the output as it stood at the end of sub-beat 12, of this beat and of the beat before (R325) -/
  at12 : Bool := false
  at12Prev : Bool := false
  deriving DecidableEq, Repr

/-- The escapement outputs of a channel (R326). -/
structure EscOut where
  openReq : Bool := false
  safeReq : Bool := false
  closePermit : Bool := false
  fastTrip : Bool := false
  outs : List Bool := List.replicate 8 false
  nflt : Bool := false
  inh : Bool := false
  deriving DecidableEq, Repr

/-- The record that a channel posts for comparison (R328). -/
structure XRec where
  beat : Word
  blocks : List Bool
  out : EscOut
  state : Ctl
  cmd : List Bool
  deriving DecidableEq, Repr

/-- A valid copy of a received safe telegram that waits for its pair, and beats since it entered the beat table (R342). -/
structure TelCopy where
  port : CPort
  seq : BitVec 16
  stamp : Word
  rd : Bool
  bytes : List Byte
  wait : Nat := 0
  deriving DecidableEq, Repr

/-- A frame of a telegram on its way into the beat table: telegram, port, bytes and the beat whose table it enters (R437). -/
structure TelIn where
  tel : Nat
  port : CPort
  bytes : List Byte
  beat : Word
  deriving DecidableEq, Repr

/-- One receive safe telegram in one channel (R341, R342). -/
structure TelRx where
  lost : Bool := true
  /-- last accepted sequence number and time stamp; none before the first acceptance -/
  last : Option (BitVec 16 × Word) := none
  copies : List TelCopy := []
  /-- beats since the last acceptance -/
  silent : Nat := 0
  /-- beats since the first acceptance of the single-copy run; none when no run -/
  single : Option Nat := none
  singleCnt : Nat := 0
  diff : Nat := 0
  bad : Nat := 0
  /-- beats since the first accepted RD copy; whether the last accepted copy carried RD -/
  rd : Option Nat := none
  rdLast : Bool := false
  payload : List Byte := []
  /-- accepted in the latest evaluation and not yet taken by CMD_TELEGRAM (R448) -/
  cmd : Bool := false
  deriving DecidableEq, Repr

/-- One safety channel (R22, R319). -/
structure ChanS where
  cells : List CellLv := List.replicate 96 {}
  /-- lone cells of other units that this channel judges (R195) -/
  remote : List RemoteLv := []
  thms : List ThmLv := List.replicate 32 {}
  isoWarn : Lv := {}
  isoTrip : Lv := {}
  acc : Nat := 0
  i2t : Bool := false
  noCur : Bool := false
  fast : Bool := false
  /-- an instant-trip hit or FAST_TRIP in a sub-beat of this beat, and of the beat before (R304) -/
  hit : Bool := false
  hitLast : Bool := false
  /-- hits on I1 and I2 in the latest sub-beat (class 11) -/
  hit1 : Bool := false
  hit2 : Bool := false
  weld : Bool := false
  ftc : Bool := false
  shorted : Bool := false
  timeout : Bool := false
  unreq : Bool := false
  /-- a coil fault at the latest boundary: the evaluation sets failure to close (R316) -/
  coilFtc : Bool := false
  /-- outputs that the latest failure to close and the latest weld name; 0 where the check names none (R313) -/
  ftcOut : Nat := 0
  weldOut : Nat := 0
  /-- a mirror contact is observed against its output: failure to close, weld (R313) -/
  mirFtc : Bool := false
  mirWeld : Bool := false
  /-- own PROT_COND bits, own PROT_LREQ bits and the string-wide ones of the last evaluation -/
  condOwn : BitVec 15 := 0
  /-- the string-wide conditions of the last evaluation but for the sequencer's own -/
  condRest : BitVec 15 := 0
  lreqOwn : BitVec 4 := 0
  cond : BitVec 15 := 0
  lreq : BitVec 4 := 0
  seq : Seq := {}
  esc : List BlkS := List.replicate 256 {}
  out : EscOut := {}
  /-- debounced inputs, their counters and whether this channel reads them open for good or for discrepancy -/
  inp : List Bool := List.replicate 8 false
  inCnt : List Nat := List.replicate 8 0
  /-- raw levels of the latest sub-beat, and those of the sub-beat before; in a gap sub-beat the first stays and the second
  is the reading in the gap (R337) -/
  raw : BitVec 8 := 0
  rawPrev : BitVec 8 := 0
  /-- consecutive failures of each contact: of its own source's gap, of the other gap, of either; and the contacts that have
  failed, whose inputs read open until reset (R337) -/
  tstFail : List Nat := List.replicate 24 0
  tstBad : List Bool := List.replicate 8 false
  /-- received safe telegrams, and their frames on the way into the beat table (R341, R342) -/
  tel : List TelRx := List.replicate 64 {}
  telIn : List TelIn := []
  post : Option XRec := none
  /-- consecutive beats without a valid record of the other channel, and the declaration (R329) -/
  missing : Nat := 0
  declared : Bool := false
  /-- the declaration took effect (R329) -/
  applied : Bool := false
  /-- the die runs: not halted, crystal good -/
  alive : Bool := true
  deriving DecidableEq, Repr

/-- One contactor output (R315, R316, R330). -/
structure OutS where
  /-- states of the two sides: OUTnH and OUTnL conduct -/
  h : Bool := false
  l : Bool := false
  locked : Bool := false
  coilFault : Bool := false
  /-- beats since the output closed, while in pull-in or held -/
  since : Nat := 0
  closed : Bool := false
  /-- pull-in has ended: the economizer holds it (R316) -/
  eco : Bool := false
  pullDue : Bool := false
  /-- mean coil current of the last beat and its sum, as the OUTnH side and as the OUTnL side measure it (R316) -/
  coil : Nat := 0
  coilSum : Nat := 0
  coilB : Nat := 0
  coilSumB : Nat := 0
  ops : Nat := 0
  /-- beats below 50 mA while held, on either side (R314, R316) -/
  lowBeats : Nat := 0
  lowBeatsB : Nat := 0
  /-- beats since the last edge of the output, and consecutive beats of an unexpected mirror on channel A and on channel B (R313, R314) -/
  edge : Nat := 0
  mirrorBad : Nat := 0
  mirrorBadB : Nat := 0
  rbH : Level := .middle
  rbL : Level := .middle
  /-- beats for which the hold of an undriven side has lapsed (R330) -/
  lapseH : Nat := 0
  lapseL : Nat := 0
  /-- the second failure of a pulse (R335) -/
  tpFail : Bool := false
  deriving DecidableEq, Repr

/-- A test pulse under way (R334-R336). -/
structure Pulse where
  out : Nat
  side : Side
  /-- an on-pulse of an open output; otherwise an off-pulse -/
  on : Bool
  again : Bool := false
  absorbed : Bool := false
  deriving DecidableEq, Repr

/-- Test pulses (R334-R336). -/
structure TpS where
  pulse : Option Pulse := none
  /-- this beat's start of a pulse has been decided (R334) -/
  taken : Bool := false
  /-- a failed pulse to repeat in the next beat -/
  again : Option Pulse := none
  /-- a close deferred by an on-pulse (R336) -/
  defer : List Nat := []
  out : Nat := 0
  kind : Bool := false
  side : Bool := false
  pass : Nat := 0
  abs : Nat := 0
  deriving DecidableEq, Repr

/-- Cross-comparison (R328). -/
structure XcmpS where
  /-- consecutive compared beats of difference as channel A compares: 256 blocks, 14 outputs, state, commands -/
  cnt : List Nat := List.replicate 272 0
  /-- the same counts as channel B compares (R328) -/
  cntB : List Nat := List.replicate 272 0
  /-- an item lies beyond its tolerance in channel A's comparison, in channel B's, in either: FS5 is present -/
  beyA : Bool := false
  beyB : Bool := false
  present : Bool := false
  xflt : Bool := false
  /-- the comparison of this beat has been made -/
  done : Bool := false
  first : Nat := 0
  diffCnt : Nat := 0
  /-- an injection inverts a block output of A's record for this many compared beats (R376, R377) -/
  invert : Nat := 0
  deriving DecidableEq, Repr

/-- Protection and safety outside the two channels. -/
structure SafeS where
  out : List OutS := List.replicate 8 {}
  tp : TpS := {}
  x : XcmpS := {}
  /-- Safe latched in persistent unit state (R304) -/
  latched : Bool := false
  /-- persistent latches of the escapement: block and held value, channel A's and channel B's (R325) -/
  persistA : List (Nat × Bool) := []
  persistB : List (Nat × Bool) := []
  latch : BitVec 15 := 0
  result : Nat := 0
  refuse : Nat := 0
  lastSrc : Nat := 0
  pct : Nat := 0
  cbeat : Word := 0
  worstUnit : UAddr := 0
  worstCell : Nat := 0
  /-- the cell of this unit behind its latest cell trip, as its condition words carry it (R409) -/
  tripCell : Nat := 0
  /-- request that became active at the latest boundary (R305) -/
  req : Option Req := none
  /-- a request staged by CAN or the ring, beside the host's staged write (R305) -/
  reqStaged : Option Req := none
  /-- CLOSE_PERMIT, SAFE_REQ and hits as they stood before the boundary (R306, R353) -/
  disc : List Bool := List.replicate 8 false
  discCnt : List Nat := List.replicate 8 0
  /-- beats for which both contacts have read open together since the discrepancy (R338) -/
  discOpen : List Nat := List.replicate 8 0
  hostLost : Bool := false
  /-- each channel has declared the other lost, and it has taken effect (R329) -/
  bothLost : Bool := false
  /-- the input test of this beat's gap has been made (R337) -/
  gapDone : Bool := false
  bsel : BitVec 8 := 0
  txSeq : List (BitVec 16) := List.replicate 64 0
  txDiff : Nat := 0
  telSel : BitVec 6 := 0
  /-- receive telegrams whose copies have been judged, and whose timers have run, in this evaluation (R342) -/
  telJudged : List Nat := []
  telTimed : List Nat := []
  /-- VK reads below 16.0 V (R74) -/
  vkLow : Bool := false
  /-- LV coil supply fault raised for the present dip -/
  vkRaised : Bool := false
  deriving DecidableEq, Repr

end Sys2Proof.Machine
end

