-- ==== Sys2Proof/Machine/Parts/Pre.lean ====
section
/-! DEFINITION. What the judgements at a boundary see of the state before it (R306, R353, R495). -/

namespace Sys2Proof.Machine

/-- Facts about the state before the latest boundary (R353). -/
structure PreS where
  ctlA : Ctl := .parked
  ctlB : Ctl := .parked
  session : Bool := false
  joinedA : Bool := true
  joinedB : Bool := true
  permitA : Bool := false
  permitB : Bool := false
  safeReqA : Bool := false
  safeReqB : Bool := false
  openReqA : Bool := false
  openReqB : Bool := false
  debug : Bool := false
  /-- Safe is latched, and a fast trip fell in the ended beat (R305, R306) -/
  latched : Bool := false
  trip : Bool := false
  /-- a loss of a channel takes effect at the latest boundary (R305) -/
  loss : Bool := false
  /-- a close request was staged for the latest boundary (R495) -/
  closeStaged : Bool := false
  /-- image session, VERIFY, COMMIT digest, erase, replay, wire calibration or sweep under way (R495) -/
  busy : Bool := false
  deriving DecidableEq, Repr

end Sys2Proof.Machine
end

