-- ==== Sys2Proof/Machine/Parts/Ring.lean ====
section
/-! DEFINITION. State of the string ring and the trunk ring (chapter 16). -/

namespace Sys2Proof.Machine

/-- One ring port (R390-R392). -/
structure PortS where
  up : Bool := false
  delay : Nat := 0
  cv : Nat := 0
  crc : Nat := 0
  /-- a delay frame has been sent and its answer has not come; the neighbour's turnaround in 8 ns units once it has (R391) -/
  asked : Bool := false
  turn : Option Nat := none
  /-- bytes in XS_AQ as of an instant, in ns after the boundary (R26) -/
  aq : Nat := 0
  aqAt : Nat := 0
  deriving DecidableEq, Repr

/-- String ring states, in the order of their codes (R417). -/
inductive StrState where
  | lost | enumerating | closed | opn | split
  deriving DecidableEq, Repr

/-- Code of a string ring state (R417). -/
def StrState.code : StrState → Nat
  | .lost => 0
  | .enumerating => 1
  | .closed => 2
  | .opn => 3
  | .split => 4

/-- Trunk states, in the order of RING_STAT.TRK (R426). -/
inductive TrkState where
  | unused | closed | opn | split | lost
  deriving DecidableEq, Repr

/-- Code of a trunk state (R426). -/
def TrkState.code : TrkState → Nat
  | .unused => 0
  | .closed => 1
  | .opn => 2
  | .split => 3
  | .lost => 4

/-- What the Master keeps of one unit of its string (R254, R297, R321, R385, R403, R412). -/
structure UnitS where
  addr : UAddr
  expect : Bool := true
  pres : Bool := false
  wasPres : Bool := false
  role : BitVec 2 := 0
  active : Bool := false
  epoch : BitVec 16 := 0
  hopsN : Nat := 0
  hopsS : Nat := 0
  age : Nat := 255
  /-- found out of its position, or not listed: no slot (R412) -/
  noSlot : Bool := false
  serial : BitVec 64 := 0
  serialNow : BitVec 64 := 0
  replaced : Bool := false
  /-- report frame of this beat: intact on port N, on port S; judged; resent -/
  gotN : Bool := false
  gotS : Bool := false
  judged : Bool := false
  asked : Bool := false
  /-- condition words of channels A and B as last received, and whether one came in this beat -/
  condA : BitVec 15 := 0
  condB : BitVec 15 := 0
  lreqA : BitVec 4 := 0
  lreqB : BitVec 4 := 0
  freshA : Bool := false
  freshB : Bool := false
  missA : Nat := 0
  missB : Nat := 0
  lostA : Bool := false
  lostB : Bool := false
  tripCell : Nat := 0
  /-- highest and lowest cell codes, none when the word names no cell, and thermistors as each channel reports them (R323, R409) -/
  hiA : Option Int := none
  loA : Option Int := none
  hiB : Option Int := none
  loB : Option Int := none
  hotA : Int := -32768
  coldA : Int := -32768
  hotB : Int := -32768
  coldB : Int := -32768
  /-- cell sum of the beat, and whether the values of the beat are complete (R190, R408) -/
  cellSum : Int := 0
  /-- what channel B receives of the check values: their sum, and the check set: code, VALID, taken in this beat, j (R405, R408) -/
  chkSum : Int := 0
  chkSet : List (Int × Bool × Bool × Nat) := []
  complete : Bool := false
  thmOpen : BitVec 32 := 0
  worst : Nat := 0
  worstSeg : Nat := 0
  /-- latest cell set and beats since (R403) -/
  cells : List Val := []
  setAge : Nat := 255
  /-- estimator pairs per cell: rre, base, growth (R254, R292) -/
  pairs : List (Int × Int × Nat) := List.replicate 96 (0, 0, 0)
  /-- cells that the unit has shown to be populated: by a pair, by VALID or by INVALID (log entry 68) -/
  pop : List Bool := List.replicate 96 false
  deriving DecidableEq, Repr

/-- A register entry carried by an MF or a KF (R406, R421). -/
structure RingEnt where
  dst : UAddr
  dstRole : Nat := 0
  /-- 1 read, 2 write, 3 stale-role notice -/
  op : Nat
  dstEpoch : BitVec 16 := 0
  rseq : BitVec 8 := 0
  addr : BitVec 14 := 0
  data : Word := 0
  deriving DecidableEq, Repr

/-- A request of a KF that this Master relays to a unit of its string (R395, R421). -/
structure KfRelay where
  ent : RingEnt
  resent : Bool := false
  deriving DecidableEq, Repr

/-- The reply field of a report frame or string frame (R408). -/
structure RingReply where
  rseq : BitVec 8
  status : Nat
  addr : BitVec 14
  data : Word
  deriving DecidableEq, Repr

/-- A received frame that passed its CRC and was delivered, waiting in XS_QA (R26, R392). -/
structure RxFrame where
  port : RPort
  bytes : List Byte
  deriving DecidableEq, Repr

/-- The latest string frame of another string (R420-R422). -/
structure StrS where
  str : BitVec 8
  addr : UAddr := 0
  epoch : BitVec 16 := 0
  age : Nat := 255
  cepoch : BitVec 16 := 0
  soc : Int := 0
  cap : Int := 0
  ccl10 : Int := 0
  dcl10 : Int := 0
  state : Nat := 0
  isLocal : Bool := false
  /-- role code of the sender's header -/
  role : BitVec 2 := 0
  /-- heard on port E, on port W in this beat -/
  onE : Bool := false
  onW : Bool := false
  deriving DecidableEq, Repr

/-- The rings (R390-R426). -/
structure RingS where
  ports : List PortS := List.replicate 4 {}
  str : StrState := .lost
  trk : TrkState := .unused
  /-- role, epoch (MRAM) and whether the unit is the active Master (R39, R40) -/
  role : BitVec 2 := 0
  epoch : BitVec 16 := 0
  active : Bool := false
  /-- unit address under which role and epoch were kept (MRAM, R40) -/
  lastAddr : UAddr := 0
  master : UAddr := 0
  masterEpoch : BitVec 16 := 0
  masterRole : Nat := 0
  /-- the string's control state as the latest Master frame carries it (R303, R406) -/
  masterCtl : Nat := 0
  rp : Nat := 0
  dn : Nat := 0
  ds : Nat := 0
  quiet : Nat := 0
  /-- an intact string-ring frame, and an intact Master frame, arrived in this beat -/
  heard : Bool := false
  mfSeen : Bool := false
  mfMissed : Nat := 0
  /-- beats in which no Master frame came at all (R417) -/
  noMf : Nat := 0
  /-- string ports on which an intact Master frame of the beat has come, and those on which the current frame has left (R399) -/
  mfOn : List RPort := []
  cfOn : List RPort := []
  /-- ports on which copies of the own Master frame returned in the beat before (R411) -/
  backLast : List RPort := []
  /-- MF copies that returned on N and S in this beat (R417) -/
  mfBackN : Bool := false
  mfBackS : Bool := false
  rsndMiss : Nat := 0
  rsndOk : Nat := 0
  staleRx : Nat := 0
  staleTx : Nat := 0
  take : Nat := 0
  yielded : Nat := 0
  uselTrunk : Bool := false
  uselIdx : BitVec 8 := 0
  /-- roster: the units of RING_ORDER in order, the own unit among them, then units found that it does not list (R412) -/
  roster : List UnitS := []
  /-- this unit has been listed by an ER and reports (R411) -/
  listed : Bool := false
  reporting : Bool := false
  /-- enumeration requested or under way (R411) -/
  enumDue : Bool := false
  /-- EN has been sent and the result has not; the EN frames that have returned, with the port (R411) -/
  enumRun : Bool := false
  enBack : List (RPort × List Byte) := []
  addrConflict : Bool := false
  /-- beats since the ports came up, for R413; none once decided -/
  listen : Option Nat := none
  /-- another active Master's frame heard in this beat: address, control state, units present, epoch (R415) -/
  rival : Option (UAddr × Nat × Nat × BitVec 16) := none
  /-- beats in which no RF of any expected unit came; in which some came on one port only (R417) -/
  noRf : Nat := 0
  oneSide : Nat := 0
  cepoch : BitVec 16 := 0
  coord : BitVec 8 := 0
  /-- beats since the last KF with the CEPOCH held (R423) -/
  kfMissed : Nat := 0
  strings : List StrS := []
  majority : Bool := true
  /-- strings in the island as the latest evaluation of the trunk found them; 0 before it and in a Monitor (R422, R426) -/
  isle : Nat := 0
  localBeats : Option Nat := none
  /-- magnitudes of the last publication before Local mode: charge, discharge (R424) -/
  v0Chg : List Int := [0, 0, 0]
  v0Dis : List Int := [0, 0, 0]
  wChg : Nat := 0
  wDis : Nat := 0
  csoc : Nat := 0
  csocValid : Bool := false
  /-- entries to be carried by the next MF, beside the relayed requests (R395, R406) -/
  entries : List RingEnt := []
  /-- reply fields waiting for this unit's next RF or TF (R408, R420) -/
  replies : List RingReply := []
  /-- frames received and not yet consumed (XS_QA) -/
  rx : List RxFrame := []
  /-- frames sent in this beat: port, bytes, error delimiter (R392) -/
  sent : List (RPort × List Byte × Bool) := []
  /-- the unit's own frames of this beat have left (R399, R419) -/
  mfSent : Bool := false
  rfSent : Bool := false
  tfSent : Bool := false
  kfSent : Bool := false
  /-- when the copies of the report frame of this beat leave, in ns after the boundary (R401, R404) -/
  rfAt : List (RPort × Nat) := []
  /-- the next free byte time for a resend at ports N and S in this beat (R404) -/
  freeN : Nat := 0
  freeS : Nat := 0
  /-- bytes in XS_QB (R26) -/
  qb : Nat := 0
  /-- the last report frame, for a resend (R404) -/
  lastRf : List Byte := []
  /-- boundary of the beat and position of the last marker in ns after it (R398) -/
  lastMark : Option (Word × Int) := none
  /-- the Master frame of the beat arrived by 200 µs (R414) -/
  mfEarly : Bool := false
  /-- the last Master frame shows the ring closed (R406) -/
  mfClosed : Bool := false
  /-- takeover, yield, handing back of the consist role and taking of it, judged for the next boundary (R414, R415, R423, R425) -/
  takeDue : Bool := false
  yieldDue : Bool := false
  coordDrop : Bool := false
  coordTake : Bool := false
  /-- state that the ring's boundary judgement gives (R417) -/
  strNext : StrState := .lost
  /-- majority as the latest evaluation judged it (R422) -/
  majNow : Bool := true
  /-- beats in which no TF of another string came; in which some came on one port only (R422) -/
  noTf : Nat := 0
  oneSideT : Nat := 0
  /-- requests of a KF that this Master relays (R421) -/
  kfRelays : List KfRelay := []
  /-- replies waiting for this Master's next TF (R420) -/
  trunkReplies : List RingReply := []
  /-- a stale-role notice for the next trunk frame (R395) -/
  staleTrunk : Bool := false
  /-- WINw_NEXT offsets carried in the MF (R410) -/
  nextOfs : List Nat := [0, 0, 0, 0]
  deriving DecidableEq, Repr

end Sys2Proof.Machine
end

