-- ==== Sys2Proof/Machine/State.lean ====
section
/-! DEFINITION. The state of the block, the way a step can stop, and the state after reset. -/

namespace Sys2Proof.Machine

/-- Reasons for a fault. The manual gives every command an effect, so no command of this block faults: what the manual
calls a fault source is state (chapter 14). -/
inductive Fault where
  deriving DecidableEq, Repr

/-- Reasons for a refusal. -/
inductive Refusal where
  /-- raised by the arms of exec whose command has no meaning yet; safe, because the machine stops -/
  | notModelled (mnemonic : String)
  deriving DecidableEq, Repr

/-- Everything the manual gives the module, one field per chapter, and the queue of commands that wait. -/
structure State where
  beat : BeatS := {}
  mem : MemS := {}
  cfg : CfgS := {}
  meas : MeasS := {}
  integ : IntegS := {}
  bal : BalS := {}
  imp : ImpS := {}
  chg : ChgS := {}
  lim : LimS := {}
  cha : ChanS := {}
  chb : ChanS := {}
  safe : SafeS := {}
  core : CoreS := {}
  flt : FltS := {}
  /-- what the FLT registers show after the loss of channel A (R366) -/
  fltShown : Option FltShown := none
  thm : ThmS := {}
  ring : RingS := {}
  can1 : CanS := {}
  can2 : CanS := {}
  host : HostS := {}
  log : LogS := {}
  pwr : PwrS := {}
  sys : SysS := {}
  /-- crystals of CDA and CDB run (R25) -/
  xtalA : Bool := true
  xtalB : Bool := true
  /-- control-plane facts as they stood before the latest boundary (R306, R353, R495) -/
  pre : PreS := {}
  /-- the command queue, first in, first out -/
  pending : List Instr := []
  deriving DecidableEq, Repr

/-- The machine right after a module reset: the start sequence stands at step 2 (R499, R504, Reset columns). -/
def State.reset : State := {}

end Sys2Proof.Machine
end

