-- ==== Sys2Proof/Machine/Ops.lean ====
section
/-! DEFINITION. Named operations: the fixed-point helpers of R98, operations on lists, planes' events, time. -/

namespace Sys2Proof.Machine

/-- Division rounded down, for a positive divisor (R98 floor_div). -/
def floorDiv (a b : Int) : Int := a / b

/-- Right shift with rounding half toward +infinity (R98 RSH). -/
def rsh (x : Int) (k : Nat) : Int := (x + 2 ^ (k - 1)) / 2 ^ k

/-- Division rounded half toward +infinity, for a positive divisor (R98 DIV_RND). -/
def divRnd (a b : Int) : Int := floorDiv (2 * a + b) (2 * b)

/-- Clamp between two bounds. -/
def clamp (lo hi x : Int) : Int := if x < lo then lo else if hi < x then hi else x

/-- Clamp to the signed w-bit range (R98 SAT). -/
def sat (x : Int) (w : Nat) : Int := clamp (-(2 ^ (w - 1))) (2 ^ (w - 1) - 1) x

/-- Linear interpolation between two points, clamped (R98 INTERP). -/
def interp (x x0 y0 x1 y1 : Int) : Int :=
  if x ≤ x0 then y0 else if x1 ≤ x then y1 else y0 + divRnd ((y1 - y0) * (x - x0)) (x1 - x0)

/-- INTERP over a table of points with rising x: the segment that holds x, clamped at the ends (R98, R100). -/
def interpTab : List (Int × Int) → Int → Int
  | [], _ => 0
  | [p], _ => p.2
  | p :: q :: r, x => if x ≤ q.1 then interp x p.1 p.2 q.1 q.2 else interpTab (q :: r) x

/-- INTERP over a table of points with falling x. -/
def interpTabDown (t : List (Int × Int)) (x : Int) : Int := interpTab t.reverse x

/-- Rounded-up quotient of naturals. -/
def ceilDiv (a b : Nat) : Nat := (a + b - 1) / b

/-- Integer square root, by digits: the largest r with r² at most n. -/
def isqrtGo : Nat → Nat → Nat → Nat
  | 0, _, r => r
  | k + 1, n, r => isqrtGo k n (if (r + 2 ^ k) * (r + 2 ^ k) ≤ n then r + 2 ^ k else r)

/-- Integer square root rounded down, for arguments below 2^128. -/
def isqrt (n : Nat) : Nat := isqrtGo 64 n 0

/-- Add one, saturating. -/
def incSat (m n : Nat) : Nat := if n < m then n + 1 else m

/-- Seconds, milliseconds and hours in beats (R11: one beat is 1 ms). -/
def beatsOfSec (n : Nat) : Nat := 1000 * n

/-- The sum of a list of integers, first to last (R100). -/
def sumI (l : List Int) : Int := l.foldl (· + ·) 0

/-- The greatest and the least element; none of an empty list. -/
def maxI : List Int → Option Int
  | [] => none
  | x :: l => some (l.foldl max x)

/-- The least element; none of an empty list. -/
def minI : List Int → Option Int
  | [] => none
  | x :: l => some (l.foldl min x)

/-- Greatest element of naturals, 0 of none. -/
def maxN (l : List Nat) : Nat := l.foldl max 0

/-- The members of l with their positions. -/
def indexed {α : Type} (l : List α) : List (Nat × α) := (List.range l.length).zip l

/-- The positions at which p holds. -/
def positions {α : Type} (p : α → Bool) (l : List α) : List Nat := ((indexed l).filter fun x => p x.2).map (·.1)

/-- Keep the first n. -/
def keep {α : Type} (n : Nat) (l : List α) : List α := l.take n

/-- Put x into l after every element that is not greater by key (stable insertion). -/
def insertBy {α : Type} (le : α → α → Bool) (x : α) : List α → List α
  | [] => [x]
  | y :: l => if le y x then y :: insertBy le x l else x :: y :: l

/-- Stable insertion sort. -/
def sortBy {α : Type} (le : α → α → Bool) (l : List α) : List α := l.foldl (fun acc x => insertBy le x acc) []

/-- Apply operations one after another. -/
def runAll {α σ : Type} (f : α → σ → σ) (l : List α) (s : σ) : σ := l.foldl (fun s x => f x s) s

/-- The channel's state (R22). -/
def State.chan (s : State) : Ch → ChanS
  | .a => s.cha
  | .b => s.chb

/-- Replace the channel's state. -/
def State.setChan (s : State) (c : Ch) (f : ChanS → ChanS) : State :=
  { s with cha := if c = .a then f s.cha else s.cha, chb := if c = .b then f s.chb else s.chb }

/-- The core pair of a die (R347). -/
def CoreS.pair (c : CoreS) : Ch → PairS
  | .a => c.a
  | .b => c.b

/-- Replace the core pair of a die. -/
def CoreS.setPair (c : CoreS) (ch : Ch) (f : PairS → PairS) : CoreS :=
  { c with a := if ch = .a then f c.a else c.a, b := if ch = .b then f c.b else c.b }

/-- The CAN port. -/
def State.can (s : State) : CPort → CanS
  | .can1 => s.can1
  | .can2 => s.can2

/-- Replace a CAN port. -/
def State.setCan (s : State) (p : CPort) (f : CanS → CanS) : State :=
  { s with can1 := if p = .can1 then f s.can1 else s.can1, can2 := if p = .can2 then f s.can2 else s.can2 }

/-- The channel evaluates: its die runs and its crystal is good (R25, R329, R348). -/
def State.runs (s : State) (c : Ch) : Bool :=
  (s.chan c).alive && !(s.core.pair c).halted && (match c with | .a => s.xtalA | .b => s.xtalB)

/-- The main core of the channel is halted by the debugger (R362). -/
def State.debugHalted (s : State) (ch : Ch) : Bool := s.core.dbg == some ch && s.core.dbgHalt

/-- The cores of the channel's die execute: the die runs, and no debugger holds them (R29, R348, R362). -/
def State.works (s : State) (ch : Ch) : Bool := s.runs ch && !s.debugHalted ch

/-- Change the beat's state. -/
def State.setBeat (s : State) (f : BeatS → BeatS) : State := { s with beat := f s.beat }

/-- Work of the data plane, which CDA's cores carry out (R22, R29). -/
def State.dataA (f : State → State) (s : State) : State := if s.works .a then f s else s

/-- The control state as the registers show it: channel A's (R318), or B's after the loss of A (R366). -/
def State.ctl (s : State) : Ctl := if s.runs .a then s.cha.seq.state else s.chb.seq.state

/-- The control state is Parked. -/
def State.parked (s : State) : Bool := s.ctl == .parked

/-- The module measures and evaluates: Active or Idle, or start steps 6 to 8 in which beats run (R499). -/
def State.powered (s : State) : Bool :=
  match s.pwr.state with
  | .active | .idle => true
  | .start k => decide (2 ≤ k)
  | _ => false

/-- The event beat of something that happens now: events before BEAT_NUM 0 begins belong to beat 0, events from
800 µs on to the next beat (R366, R538). -/
def State.evBeat (s : State) : Word :=
  if s.beat.running then (if s.beat.offNs < 800000 then s.beat.num else s.beat.num + 1) else 0

/-- The offset in the current beat becomes at least ns (R12): commands arrive in the order of their instants. -/
def State.at (ns : Nat) (s : State) : State := { s with beat := { s.beat with offNs := max s.beat.offNs ns } }

/-- Hand an event to the recorder intake (R35); before BEAT_NUM 0 begins it is kept for beat 0 (R538). The intake runs on
CDA: nothing is recorded once channel A is lost (R366). -/
def State.event (p : Plane) (code : Nat) (ps : List Word) (s : State) : State :=
  { s with log :=
      if s.fltShown.isSome then s.log
      else if s.beat.running then { s.log with intake := s.log.intake ++ [⟨p, code, ps⟩] }
      else { s.log with early := s.log.early ++ [⟨p, code, ps⟩] } }

/-- One performance counter after n counts: it wraps to 0 (R513). -/
def SysS.count (y : SysS) (src n i : Nat) (x : Word) : Word :=
  if y.pmcEn.toNat.testBit i && (y.pmcSel[i]?.getD 0).toNat == src then x + BitVec.ofNat 32 n else x

/-- Count n of a source in every enabled counter that selects it; a wrap sets the counter's bit in PMC_OVF (R513). -/
def SysS.tally (y : SysS) (src n : Nat) : SysS :=
  { y with
    pmc := (indexed y.pmc).map fun x => y.count src n x.1 x.2
    pmcOvf := y.pmcOvf ||| (indexed y.pmc).foldl (fun a x =>
      if 4294967296 ≤ x.2.toNat + (y.count src n x.1 0).toNat then a ||| BitVec.ofNat 16 (2 ^ x.1) else a) 0 }

/-- Count n of a source (R513). -/
def State.tally (src n : Nat) (s : State) : State := { s with sys := s.sys.tally src n }

/-- Replay under way. -/
def RplS.live (r : RplS) : Bool := r.state == .waiting || r.state == .running

/-- Both crown switches read closed (R62, R123). -/
def State.crowns (s : State) : Bool := s.cfg.crw1 && s.cfg.crw2 && !s.cfg.crwOpen

/-- Run f when the flag holds. -/
def onlyIf (c : Bool) (f : State → State) (s : State) : State := if c then f s else s

end Sys2Proof.Machine
end

