-- ==== Sys2Proof/Machine/Operands.lean ====
section
/-! DEFINITION. Operands: bit fields, byte order, two's complement, and the parameters of the loaded image. -/

namespace Sys2Proof.Machine

/-- Bits lo+w-1 to lo of a word as a number (R10). -/
def bits (x : Word) (lo w : Nat) : Nat := x.toNat / 2 ^ lo % 2 ^ w

/-- One bit of a word (R10). -/
def bit (x : Word) (i : Nat) : Bool := x.toNat.testBit i

/-- A number placed at bit lo, cut to w bits (R10). -/
def place (n lo w : Nat) : Word := BitVec.ofNat 32 (n % 2 ^ w * 2 ^ lo)

/-- A flag placed at bit lo. -/
def flag (b : Bool) (lo : Nat) : Word := if b then BitVec.ofNat 32 (2 ^ lo) else 0

/-- A signed number in two's complement in w bits at bit lo (R8). -/
def splace (x : Int) (lo w : Nat) : Word := place (x % 2 ^ w).toNat lo w

/-- A signed number as a whole word, sign-extended to bit 31 (R8). -/
def sword (x : Int) : Word := BitVec.ofInt 32 x

/-- A natural number as a word. -/
def nword (n : Nat) : Word := BitVec.ofNat 32 n

/-- The signed value of the w-bit field at bit lo (R8). -/
def sbits (x : Word) (lo w : Nat) : Int :=
  if bits x lo w < 2 ^ (w - 1) then (bits x lo w : Int) else (bits x lo w : Int) - 2 ^ w

/-- The set of list positions as a vector word: position 32k+i is bit i of word k (R378). -/
def vecWord (p : Nat → Bool) (k : Nat) : Word :=
  (List.range 32).foldl (fun w i => w ||| flag (p (32 * k + i)) i) 0

/-- The or of several placed fields. -/
def orAll (l : List Word) : Word := l.foldl (· ||| ·) 0

/-- A number as n bytes, most significant first (R9). -/
def bytesOf : Nat → Nat → List Byte
  | 0, _ => []
  | k + 1, x => BitVec.ofNat 8 (x / 256 ^ k) :: bytesOf k x

/-- A signed number as n bytes, most significant first (R8, R9). -/
def sbytes (n : Nat) (x : Int) : List Byte := bytesOf n (x % 256 ^ n).toNat

/-- The number that bytes spell, most significant first (R9). -/
def numOf (l : List Byte) : Nat := l.foldl (fun a b => a * 256 + b.toNat) 0

/-- The signed number that bytes spell (R8, R9). -/
def snumOf (l : List Byte) : Int :=
  let v := numOf l
  if 2 * v < 256 ^ l.length then (v : Int) else (v : Int) - 256 ^ l.length

/-- n bytes of l from offset o on; zeros where l ends. -/
def slice (o n : Nat) (l : List Byte) : List Byte := (l.drop o ++ List.replicate n 0).take n

/-- The n-byte number at offset o. -/
def numAt (l : List Byte) (o n : Nat) : Nat := numOf (slice o n l)

/-- The signed n-byte number at offset o. -/
def snumAt (l : List Byte) (o n : Nat) : Int := snumOf (slice o n l)

/-- A word as four bytes, most significant first (R9). -/
def wordBytes (w : Word) : List Byte := bytesOf 4 w.toNat

/-- Group l into words of four bytes, the last padded with zeros. -/
def wordsOf : List Byte → List Word
  | a :: b :: c :: d :: r => nword (numOf [a, b, c, d]) :: wordsOf r
  | [] => []
  | [a] => [nword (numOf [a, 0, 0, 0])]
  | [a, b] => [nword (numOf [a, b, 0, 0])]
  | [a, b, c] => [nword (numOf [a, b, c, 0])]

/-- String number of a unit address (R37). -/
def uStr (u : UAddr) : Nat := u.toNat / 256

/-- Position of a unit address (R37). -/
def uPos (u : UAddr) : Nat := u.toNat % 256

/-- A unit address from its parts (R37). -/
def uAddr (str pos : Nat) : UAddr := BitVec.ofNat 16 (str * 256 + pos)

/-- The table row of a parameter (R112, R539). -/
def paramRow (p : Param) : Option ParamRow := paramRows.find? fun r => r.par = p

/-- Defaults that differ from item to item: the group thresholds of R381. -/
def itemDefault (p : Param) (i : Nat) : Option (List Int) :=
  match p, i with
  | .TW_g, 4 => some [10500]
  | .TT_g, 4 => some [11500]
  | .TS_g, 4 => some [12500]
  | .TW_g, 5 => some [10000]
  | .TT_g, 5 => some [11000]
  | .TS_g, 5 => some [12000]
  | _, _ => none

/-- The values of a parameter item: the record's, else the default of its table (R112), else nothing. -/
def Image.list (g : Image) (p : Param) (i : Nat := 0) : List Int :=
  match g.recs.find? fun r => r.par = p ∧ r.index = i with
  | some r => r.vals
  | none => (itemDefault p i).getD (((paramRow p).bind (·.dflt)).getD [])

/-- The number of a parameter item. -/
def Image.num (g : Image) (p : Param) (i : Nat := 0) : Int := (g.list p i).headD 0

/-- The item has a record of its own. -/
def Image.has (g : Image) (p : Param) (i : Nat := 0) : Bool := g.recs.any fun r => r.par = p && r.index = i

/-! Message objects and the telegrams that some carry (R434, R447, R539; log entry 6) -/

/-- Index of message object k of port n (R539). -/
def objIndex (port k : Nat) : Nat := 128 * (port - 1) + k

/-- The index of the telegram that an object carries: its TEL, receive telegrams from 64 on (R447, R539). -/
def Image.objTel (g : Image) (port k : Nat) : Option Nat :=
  let i := objIndex port k
  if g.num .CONT i = 1 then some ((g.num .TEL i).toNat + if g.num .DIR i = 0 then 64 else 0) else none

/-- The identifier of an object: its telegram's for that port where the image gives one, else its own; negative where neither is
given, and the object is unused (R447). -/
def Image.objId (g : Image) (port k : Nat) : Int :=
  match (g.objTel port k).map fun t => g.num (if port = 1 then .ID1 else .ID2) t with
  | some x => if 0 ≤ x then x else g.num .ID (objIndex port k)
  | none => g.num .ID (objIndex port k)

/-- The object is used. -/
def Image.objUsed (g : Image) (port k : Nat) : Bool := decide (0 ≤ g.objId port k)

/-- A telegram has a record of its own of a parameter that message objects have too: R539 gives telegram t and object t of CAN1 the
same NAME and INDEX, and the record is the object's where that object is used (log entry 6). -/
def Image.telHas (g : Image) (p : Param) (t : Nat) : Bool := g.has p t && !g.objUsed 1 t

/-- FMT, PER or PHASE of an object: the telegram's where the image gives it, else its own (R434, R447). -/
def Image.objPar (g : Image) (p : Param) (port k : Nat) : Nat :=
  (match g.objTel port k with
   | some t => if g.telHas p t then g.num p t else g.num p (objIndex port k)
   | none => g.num p (objIndex port k)).toNat

/-- DLC code of a telegram of L bytes (R447). -/
def lenDlc (l : Nat) : Option Nat := [(16, 10), (20, 11), (24, 12), (32, 13), (48, 14), (64, 15)].lookup l

/-- DLC of an object: its telegram's length gives it (R447), else its own. -/
def Image.objDlc (g : Image) (port k : Nat) : Nat :=
  ((g.objTel port k).bind fun t => lenDlc (g.num .L t).toNat).getD (g.num .DLC (objIndex port k)).toNat

/-- Group a list of values into rows of two. -/
def pairsOf : List Int → List (Int × Int)
  | a :: b :: r => (a, b) :: pairsOf r
  | _ => []

/-- A table parameter as points. -/
def Image.points (g : Image) (p : Param) (i : Nat := 0) : List (Int × Int) := pairsOf (g.list p i)

/-- The loaded image; every parameter at its default where none is loaded (R134; log entry 3). -/
def State.img (s : State) : Image := s.cfg.image.getD {}

/-- A parameter of the loaded image. -/
def State.par (s : State) (p : Param) (i : Nat := 0) : Int := s.img.num p i

/-- A parameter of the loaded image as a natural number. -/
def State.nat (s : State) (p : Param) (i : Nat := 0) : Nat := (s.img.num p i).toNat

/-- A flag of the loaded image. -/
def State.on (s : State) (p : Param) (i : Nat := 0) : Bool := s.img.num p i != 0

/-- SBN, the string beat number of the current beat; 0 before the first lock (R81, R108). -/
def State.sbn (s : State) : Word :=
  match s.beat.sbOfs with
  | some o => s.beat.num + o
  | none => 0

/-- An active Master counts its own string beats; one that takes over keeps its offset (R81). -/
def State.ownNumbers (s : State) : State := { s with beat := { s.beat with sbOfs := some (s.beat.sbOfs.getD 0) } }

/-- The unit's own address (R37). -/
def State.addr (s : State) : UAddr := s.img.addr

end Sys2Proof.Machine
end

