-- ==== Sys2Proof/Machine/Crc.lean ====
section
/-! DEFINITION. The check codes that the manual names: CRC-8 (R475), CRC-16 (R456), CRC-32 (R105, R128), CRC-32C
(the safe telegrams of chapter 12). -/

namespace Sys2Proof.Machine

/-- One bit of a CRC with w bits, most significant bit first. -/
def crcBit (w poly crc : Nat) : Nat :=
  if crc.testBit (w - 1) then ((crc * 2) % 2 ^ w) ^^^ poly else crc * 2

/-- One byte into a CRC of w bits without reflection. -/
def crcByte (w poly crc : Nat) (b : Byte) : Nat :=
  (List.range 8).foldl (fun c _ => crcBit w poly c) (crc ^^^ (b.toNat * 2 ^ (w - 8)))

/-- CRC-8 of recorder records: polynomial 0x07, initial value 0 (R475). -/
def crc8 (l : List Byte) : Nat := l.foldl (crcByte 8 0x07) 0

/-- CRC-16-CCITT of host frames: polynomial 0x1021, initial value 0xFFFF (R456). -/
def crc16 (l : List Byte) : Nat := l.foldl (crcByte 16 0x1021) 0xFFFF

/-- One bit of a reflected 32-bit CRC. -/
def crcBitR (poly crc : Nat) : Nat := if crc % 2 = 1 then (crc / 2) ^^^ poly else crc / 2

/-- One byte into a reflected CRC. -/
def crcByteR (poly crc : Nat) (b : Byte) : Nat :=
  (List.range 8).foldl (fun c _ => crcBitR poly c) (crc ^^^ b.toNat)

/-- CRC-32 of IEEE 802.3 (R105, R128, R269). -/
def crc32 (l : List Byte) : Nat := l.foldl (crcByteR 0xEDB88320) 0xFFFFFFFF ^^^ 0xFFFFFFFF

/-- CRC-32C, Castagnoli, polynomial 0x1EDC6F41 reflected. -/
def crc32c (l : List Byte) : Nat := l.foldl (crcByteR 0x82F63B78) 0xFFFFFFFF ^^^ 0xFFFFFFFF

end Sys2Proof.Machine
end

