-- ==== Sys2Proof/Machine/Flags.lean ====
section
/-! DEFINITION. Status flags: the sticky status of the fault sources, severity, reactions, the handling sequence and the
report queue of the host (R364-R378, R464). -/

namespace Sys2Proof.Machine

/-- Reaction bits of R370. -/
def reactInt : Nat := 0
/-- NMI. -/
def reactNmi : Nat := 1
/-- BLKRST. -/
def reactBlk : Nat := 2
/-- MODRST. -/
def reactRst : Nat := 3
/-- NFLT. -/
def reactNflt : Nat := 4
/-- SAFE. -/
def reactSafe : Nat := 5

/-- A reaction set as it applies: in the reset-loop state SAFE and NFLT replace MODRST (R373). -/
def effReact (rloop : Bool) (r : Nat) : Nat :=
  if rloop && r.testBit reactRst then (r - 8) ||| 48 else r

/-- REACT_EV and REACT_SEV of a source, as they apply (R370, R373). -/
def State.reactEv (s : State) (fs : Nat) : Nat := effReact s.flt.rloop (s.nat .REACT_EV fs)
/-- REACT_SEV of a source, as it applies. -/
def State.reactSev (s : State) (fs : Nat) : Nat := effReact s.flt.rloop (s.nat .REACT_SEV fs)

/-- PRES (R365, R367). -/
def FsSrc.pres (x : FsSrc) : Bool := x.cond || x.till.isSome

/-- fs_severe of R369 over the event list, newest first. -/
def severe (n w : Nat) (b : Word) (ev : List Word) : Bool :=
  ev.length == n && (match ev.getLast? with
    | some l => decide ((b - l).toNat < w)
    | none => false)

/-- fs_count of R369: at most one counted event a beat, the last n kept. -/
def countEvent (n : Nat) (b : Word) (ev : List Word) : List Word :=
  if ev.head? = some b then ev else (b :: ev).take n

/-- A reaction of this source that lasts with its status: by REACT_EV while present or through a counted transient's beat,
by REACT_SEV while SEVL (R370). -/
def State.lasts (s : State) (k fs : Nat) : Bool :=
  let x := s.flt.src[fs]?.getD {}
  ((s.reactEv fs).testBit k && (x.pres || x.transTill.isSome)) || ((s.reactSev fs).testBit k && x.sevl)

/-- The FSAFE input of a source: from the evaluation of the event beat (R370, R371). -/
def State.fsafe (s : State) (fs : Nat) : Bool :=
  s.lasts reactSafe fs && (s.flt.src[fs]?.getD {}).safeFrom != s.beat.num + 1

/-- Fault collection, the escapement on either channel, or R134 asserts nFLT (R370, R326). -/
def State.nfltCause (s : State) : Bool :=
  (List.range 128).any (s.lasts reactNflt) || s.cha.out.nflt || s.chb.out.nflt || s.flt.nfltLoad

/-- The pin nFLT by phase (R508): asserted in reset, in start steps 1 to 5 and in a power-fail stop, not driven without power. -/
def State.nflt (s : State) : Bool :=
  match s.pwr.state with
  | .off | .dormant | .listen => false
  | .held => true
  | .start k => decide (k ≤ 5) || s.pwr.stopping || s.nfltCause
  | .active | .idle => s.pwr.stopping || s.nfltCause

/-- Queue a report for the host: REPSEQ one greater than the last; the oldest falls out of a full queue (R464). -/
def HostS.report (h : HostS) (type tag : Nat) (w1 w2 w3 : Word) : HostS :=
  let seq := h.newest + 1
  let w0 := place seq.toNat 16 16 ||| place type 8 8 ||| place tag 0 8
  { h with
    newest := seq
    reports := (if h.reports.length < 64 then h.reports else h.reports.drop 1) ++ [[w0, w1, w2, w3]]
    repLost := if h.reports.length < 64 then h.repLost else incSat 255 h.repLost }

/-- Queue a report. -/
def State.report (type tag : Nat) (w1 w2 w3 : Word) (s : State) : State :=
  { s with host := s.host.report type tag w1 w2 w3 }

/-- The blocks that BLKRST of a source resets and the beats for which it holds them (R372). -/
def blocksOf (fs : Nat) (detail : Word) : List (Blk × Nat) :=
  let seg (k : Nat) : List (Blk × Nat) := [(.segment (Fin.ofNat 4 k), 50)]
  if 16 ≤ fs ∧ fs ≤ 23 then [(.link (Fin.ofNat 4 ((fs - 16) / 2)) (if fs % 2 = 0 then .a else .b), 2)]
  else if 24 ≤ fs ∧ fs ≤ 27 then seg (fs - 24)
  else if 32 ≤ fs ∧ fs ≤ 35 then seg (fs - 32)
  else if 44 ≤ fs ∧ fs ≤ 47 then seg (fs - 44)
  else if fs = 74 then seg ((detail.toNat - 1) / 24)
  else if fs = 30 then [(.ratiometric, 10)]
  else if fs = 55 then [(.ringPort .n, 10)]
  else if fs = 56 then [(.ringPort .s, 10)]
  else if fs = 57 then [(.ringPort .e, 10)]
  else if fs = 58 then [(.ringPort .w, 10)]
  else if fs = 62 then [(.can .can1, 1)]
  else if fs = 63 then [(.can .can2, 1)]
  else if fs = 64 then [(.hostRx, 1)]
  else []

/-- The lower of two pending reset causes (R503). -/
def mergeCause (a : Option Nat) (b : Nat) : Option Nat :=
  match a with
  | none => some b
  | some x => some (min x b)

/-- Reset cause of a MODRST (R503). -/
def modrstCause (fs : Nat) : Nat := if fs = 0 ∨ fs = 1 then 5 else 4

/-- How a source is raised. -/
inductive RaiseKind where
  | transient | lasting | injected
  deriving DecidableEq, Repr

/-- Kind code of a recorder entry (R368). -/
def RaiseKind.code : RaiseKind → Nat
  | .transient => 0
  | .lasting => 1
  | .injected => 3

/-- The status of a source after a raise of event beat b: LATCH, counts, FIRST and LAST, presence, the counted event
(R365, R367, R369). Where no SAFE reaction of the source was in effect before the raise (`held`), its FSAFE input reads 1 from
the event beat on (R370). -/
def FsSrc.raised (x : FsSrc) (tr single counted held : Bool) (n : Nat) (b : Word) : FsSrc :=
  { x with
    latch := true
    events := if tr then x.events else incSat 65535 x.events
    trans := if tr then incSat 65535 x.trans else x.trans
    first := if x.latch then x.first else b
    last := b
    till := if single && !tr then some b else x.till
    transTill := if tr && counted then some b else x.transTill
    ev := if counted then countEvent n b x.ev else x.ev
    safeFrom := if held then x.safeFrom else b }

/-- The source becomes severe (R367). -/
def FsSrc.onset (x : FsSrc) : FsSrc := { x with sevp := true, sevl := true }

/-- Open, or merge into, the handling sequence: what the raise adds (R374). -/
def FltS.handle (f : FltS) (fs kind : Nat) (b now : Word) (react : Nat) : FltS :=
  if f.hopen then
    { f with
      hcnt := incSat 65535 f.hcnt
      hmerge := if f.hmerge.contains fs then f.hmerge else f.hmerge ++ [fs]
      hreact := f.hreact ||| BitVec.ofNat 6 (react &&& 60)
      hlast := now }
  else if react.testBit reactInt then
    { f with hopen := true, hkind := kind, hsrc := fs, hbeat := b, hreact := BitVec.ofNat 6 react, hcnt := 0,
             hmerge := [], hlast := now, canEvent := some (fs, kind) }
  else f

/-- The immediate and next-boundary effects of reactions other than INT: NMI, BLKRST, MODRST (R370, R372). -/
def State.react (react fs : Nat) (detail : Word) (merged : Bool) (s : State) : State :=
  { s with
    flt :=
      let nmi := react.testBit reactNmi && !merged
      { s.flt with
        nmi := if nmi then some (s.beat.num, s.beat.offNs) else s.flt.nmi
        trapSrc := if nmi then BitVec.ofNat 7 fs else s.flt.trapSrc
        trapDie := if nmi then !s.runs .a else s.flt.trapDie
        trapAddr := if nmi then Config.trapAddr s.beat.num s.beat.offNs else s.flt.trapAddr
        blkDue := if react.testBit reactBlk then s.flt.blkDue ++ blocksOf fs detail else s.flt.blkDue }
    cfg := if react.testBit reactRst then { s.cfg with resetDue := mergeCause s.cfg.resetDue (modrstCause fs) } else s.cfg }

/-- The two words P2 and P3 and the code of a fault entry (R368, R490). -/
def State.fsEntry (fs kind : Nat) (detail b : Word) (s : State) : State :=
  s.event .control (0x300 + fs) [nword kind, detail, b, nword (s.flt.src[fs]?.getD {}).events]

/-- A handling sequence that has just opened queues a report for the host (R464 type 2). -/
def State.openReport (was : Bool) (fs kind : Nat) (b : Word) (s : State) : State :=
  if !was && s.flt.hopen then s.report 2 0 (place fs 0 7 ||| place kind 16 2) b 0 else s

/-- Severity judged at a boundary: SEVP clears, SEVL stays (R367, R369). -/
def State.sevDue (s : State) (fs : Nat) : Bool :=
  let x := s.flt.src[fs]?.getD {}
  x.sevp && !severe (s.nat .N fs) (s.nat .W fs) s.beat.num x.ev

/-- SEVP clears. -/
def State.sevClear (fs : Nat) (s : State) : State :=
  { s with flt := { s.flt with src := s.flt.src.modify fs fun x => { x with sevp := false } } }

/-- W1C of LATCH on a source: clears the bit and the counts only while PRES is 0 (R367). -/
def FsSrc.clearLatch (x : FsSrc) : FsSrc :=
  if x.pres then x else { x with latch := false, events := 0, trans := 0 }

/-- W1C of SEVL: clears only while SEVP is 0 (R367). -/
def FsSrc.clearSevl (x : FsSrc) : FsSrc := if x.sevp then x else { x with sevl := false }

/-- The W1C writes of one source that became active at the boundary take effect now; a severity that the boundary ended is
judged first (R367, R369). -/
def State.w1cNow (fs : Nat) (s : State) : State :=
  if s.flt.w1cLatch.contains fs || s.flt.w1cSevl.contains fs then
    let t := if s.sevDue fs then s.sevClear fs else s
    let sevl (x : FsSrc) : FsSrc := if s.flt.w1cSevl.contains fs then x.clearSevl else x
    let latch (x : FsSrc) : FsSrc := if s.flt.w1cLatch.contains fs then x.clearLatch else x
    { t with flt := { t.flt with
        src := t.flt.src.modify fs fun x => latch (sevl x)
        w1cLatch := t.flt.w1cLatch.filter (· != fs)
        w1cSevl := t.flt.w1cSevl.filter (· != fs) } }
  else s

/-- A raise (R366-R374): status, count and severity under event beat b; the entries unless merged; the reactions. A W1C write
that became active before it acts before it, so that the setting prevails (R14). -/
def State.raiseAt (kind : RaiseKind) (single : Bool) (fs : Nat) (detail b : Word) (s0 : State) : State :=
  let s := s0.w1cNow fs
  let tr := kind == .transient
  let x := s.flt.src[fs]?.getD {}
  let counted := !tr || (s.on .TR_EV fs && x.ev.head? != some b)
  let y := x.raised tr single counted (s.lasts reactSafe fs) (s.nat .N fs) b
  let onset := counted && !x.sevp && severe (s.nat .N fs) (s.nat .W fs) b y.ev
  let merged := s.flt.hopen
  let r := (if counted then s.reactEv fs else 0) ||| (if onset then s.reactSev fs else 0)
  let k := if onset && !(counted && (s.reactEv fs).testBit reactInt) then 2 else kind.code
  let s1 := { s.tally (if tr then 35 else 34) 1 with flt := { s.flt with src := s.flt.src.set fs (if onset then y.onset else y) } }
  let s2 := if merged then s1 else State.fsEntry fs kind.code detail b s1
  let s3 := if merged || !onset then s2 else State.fsEntry fs 2 detail b s2
  let s4 := { s3 with flt := s3.flt.handle fs k b s.beat.num r }
  (s4.openReport merged fs k b).react r fs detail merged

/-- A single lasting occurrence now (R365). -/
def State.raise (fs : Nat) (detail : Word) (s : State) : State := s.raiseAt .lasting true fs detail s.evBeat

/-- A transient raise now (R365). -/
def State.raiseTransient (fs : Nat) (detail : Word) (s : State) : State :=
  s.raiseAt .transient true fs detail s.evBeat

/-- The condition of a source begins with a raise of the kind given: present until it ends (R365, R368). -/
def State.raiseCondAs (kind : RaiseKind) (fs : Nat) (detail : Word) (s : State) : State :=
  let t := s.raiseAt kind false fs detail s.evBeat
  { t with flt := { t.flt with src := t.flt.src.modify fs fun x => { x with cond := true } } }

/-- The condition of a source begins, or is raised again while it holds (R365, R541). -/
def State.raiseCond (fs : Nat) (detail : Word) (s : State) : State := s.raiseCondAs .lasting fs detail

/-- The condition of a source ends (R365). -/
def State.endCond (fs : Nat) (s : State) : State :=
  { s with flt := { s.flt with src := s.flt.src.modify fs fun x => { x with cond := false } } }

/-- Raise at the onset of a condition, end it when it no longer holds (R365). -/
def State.follow (fs : Nat) (detail : Word) (now : Bool) (s : State) : State :=
  let was := (s.flt.src[fs]?.getD {}).cond
  if now && !was then s.raiseCond fs detail else if !now && was then s.endCond fs else s

/-- A boundary to beat n ends single occurrences and transient effects of earlier beats (R365, R370). -/
def FsSrc.atBoundary (n : Word) (x : FsSrc) : FsSrc :=
  { x with till := if x.till = some n then x.till else none
           transTill := if x.transTill = some n then x.transTill else none }

/-- The staged W1C writes take effect (R367). -/
def State.latchClear (s : State) : State :=
  { s with flt := { s.flt with
      src := runAll (fun i l => l.modify i FsSrc.clearSevl) s.flt.w1cSevl
        (runAll (fun i l => l.modify i FsSrc.clearLatch) s.flt.w1cLatch s.flt.src)
      w1cLatch := []
      w1cSevl := [] } }

/-- Close the handling sequence: one entry with the first source, the merge count, the lowest and highest merged source
and the cause; IRQ is released and HMERGE clears (R375). -/
def State.closeHandling (cause : Nat) (s : State) : State :=
  let f := s.flt
  let lo := f.hmerge.foldl min 127
  let hi := f.hmerge.foldl max 0
  let s1 := s.event .control 0x380 [nword f.hsrc, nword f.hcnt,
    if f.hmerge.isEmpty then 0 else place lo 8 8 ||| place hi 0 8, nword cause]
  { s1 with flt := { s1.flt with hopen := false, hmerge := [] } }

/-- IRQ (R470): a handling sequence, or a report held while enabled; low during reset and steps 1 to 5 (R508). -/
def State.irq (s : State) : Bool :=
  (match s.pwr.state with
    | .active | .idle => true
    | .start k => decide (6 ≤ k)
    | _ => false) && (s.flt.hopen || (s.host.enRep && !s.host.reports.isEmpty))

/-! Injection -/

/-- What the decoder of the word code makes of a received word with errors in n of its 40 symbols (R42): nothing to do, corrected, or
uncorrectable. A word that lies within four symbols of another code word decodes as that one: to the reader it is one with that
many errors. -/
inductive Decoded where
  | clean | corrected | uncorrectable
  deriving DecidableEq, Repr

/-- The decoder corrects up to four symbols (R42). -/
def rsDecode (n : Nat) : Decoded := if n = 0 then .clean else if n ≤ 4 then .corrected else .uncorrectable

/-- The source of an injection's checker (R376); none for an unused target. -/
def injSource (t : Nat) : Option Nat :=
  if t = 1 ∨ t = 2 then some 9
  else if t = 3 ∨ t = 4 then some 10
  else if t = 5 ∨ t = 6 then some 11
  else if 8 ≤ t ∧ t ≤ 15 then some (16 + (t - 8))
  else if 24 ≤ t ∧ t ≤ 27 then some (55 + (t - 24))
  else if t = 28 then some 64
  else if t = 29 then some 5
  else none

/-- What the word code makes of the inverted test word of targets 1 to 6 (R42, R376): one symbol is corrected, the fixed pattern of
five is uncorrectable. -/
def InjRun.shows (i : InjRun) : Bool :=
  if 1 ≤ i.target ∧ i.target ≤ 6 then
    (if i.target % 2 = 1 then rsDecode 1 == .corrected else rsDecode 5 == .uncorrectable)
  else true

/-- A running injection passes or fails (R377): by what has been seen of it, else by what its checker reports. A passing one writes
its entry, and with FULL raises its source (that of target 29 is raised by the comparison itself); one that is not flagged raises its
source as lasting. -/
def State.injResult (flagged : Bool) (s : State) : State :=
  match s.flt.injRun with
  | none => s
  | some i =>
    let pass := i.seen.getD (flagged && i.shows)
    let t := { s with flt := { s.flt with injRun := none, injState := if pass then 2 else 3 } }
    let fs := (injSource i.target).getD 0
    if pass then
      let u := t.event .control 0x381 [nword i.target, if i.full then 1 else 0]
      if i.full && i.target != 29 then u.raiseAt .injected true fs 0 u.evBeat else u
    else t.raise fs 0

/-- An injection of this target is under way and has not acted yet (R376). -/
def State.injects (s : State) (t : Nat) : Bool := s.flt.injRun.any fun i => i.target == t && !i.hit

/-- The injection under way raises a real event (R377). -/
def State.injFull (s : State) : Bool := s.flt.injRun.any (·.full)

/-- The frame that an injection spoiled: the copy received now is it (R376). -/
def State.injFrame (s : State) (src : UAddr) (type : Nat) : Bool := s.flt.injRun.any fun i => i.frame == some (src, type)

/-- The injection under way has been seen to work, or not to. -/
def State.injSeen (ok : Bool) (s : State) : State :=
  { s with flt := { s.flt with injRun := s.flt.injRun.map fun i => { i with seen := some ok } } }

end Sys2Proof.Machine
end

