-- ==== Sys2Proof/Machine/Recorder.lean ====
section
/-! DEFINITION. The event recorder: intake, merging, the staging queue, the store, clearing, reading and the calendar
(chapter 19). -/

namespace Sys2Proof.Machine

/-- Slots of the store (R477). -/
def logSlots : Nat := 131072

/-- Parameters of a code that are not compared (R490, marked *). -/
def varParams (code : Nat) : List Nat :=
  if 0x300 ≤ code ∧ code ≤ 0x37F then [2, 3]
  else match code with
  | 0x0003 => [0, 1]
  | 0x0004 => [0]
  | 0x0100 => [1]
  | 0x0101 => [0, 1]
  | 0x0102 => [0, 1]
  | 0x0380 => [1]
  | 0x0400 => [1, 2, 3]
  | 0x0401 => [0]
  | 0x0402 => [0, 1, 2]
  | 0x0403 => [0]
  | 0x0406 => [1]
  | 0x0501 => [0, 1]
  | 0x0504 => [0]
  | 0x0600 => [2]
  | 0x0601 => [0]
  | 0x0602 => [0, 1]
  | 0x0700 => [1]
  | 0x0702 => [0, 1]
  | _ => []

/-- The four parameters; an unused one reads 0 (R490). -/
def pad4 (p : List Word) : List Word := (p ++ [0, 0, 0, 0]).take 4

/-- Equal key parameters (R481). -/
def sameKey (code : Nat) (p q : List Word) : Bool :=
  (List.range 4).all fun i => (varParams code).contains i || (pad4 p)[i]? == (pad4 q)[i]?

/-- Index of the newest queued new entry with this code. -/
def queuedWith (code : Nat) (q : List QEnt) : Option Nat :=
  (positions (fun e => e.kind == .new && e.code == code) q).getLast?

/-- The newest of the recent records with this code (R481). -/
def recentWith (code : Nat) (l : List Recent) : Option Recent := (l.filter fun r => r.code == code).getLast?

/-- An event of beat b lies within the window of an entry that began in beat b0 (R481). -/
def inWindow (win : Nat) (b b0 : Word) : Bool := decide ((b - b0).toNat < win)

/-- What an event does to the queue (R481-R484). -/
inductive Intake where
  | mergeQueued (i : Nat)
  | mergeWaiting (i : Nat)
  | repeatOp (seq : Word)
  | append
  | lose
  deriving DecidableEq, Repr

/-- The choice for one event of beat b, with a repeat window of win beats. -/
def LogS.choose (l : LogS) (win : Nat) (b : Word) (code : Nat) (p : List Word) : Intake :=
  let room := decide (l.queue.length < 64)
  let fresh := if room then Intake.append else .lose
  if win = 0 ∨ code = 1 ∨ code = 2 then fresh
  else match queuedWith code l.queue with
    | some i =>
      match l.queue[i]? with
      | some e => if sameKey code e.p p && inWindow win b e.beat then .mergeQueued i else fresh
      | none => fresh
    | none =>
      match recentWith code l.recent with
      | some r =>
        if sameKey code r.p p && inWindow win b r.beat then
          match (positions (fun e => e.kind == .repeatOf r.seq) l.queue).head? with
          | some i => .mergeWaiting i
          | none => if room then .repeatOp r.seq else .lose
        else fresh
      | none => fresh

/-- One more repeat of queue entry i. -/
def LogS.bump (l : LogS) (i : Nat) : LogS :=
  { l with queue := l.queue.modify i fun e => { e with rep := incSat 65535 e.rep }, merged := incSat 65535 l.merged }

/-- Take one event of beat b into the queue (R481-R484). -/
def LogS.intakeOne (l : LogS) (win : Nat) (b : Word) (code : Nat) (p : List Word) : LogS :=
  match l.choose win b code p with
  | .mergeQueued i => l.bump i
  | .mergeWaiting i => l.bump i
  | .repeatOp q =>
    { l with queue := l.queue ++ [{ kind := .repeatOf q, code := code, p := p, rep := 1, beat := b }],
             merged := incSat 65535 l.merged }
  | .append =>
    { l with queue := l.queue ++ [{ kind := .new, code := code, p := p, sec := l.snapSec, frac := l.snapFrac, beat := b }] }
  | .lose =>
    { l with lostCnt := incSat 65535 l.lostCnt
             lost := match l.lost with
               | none => some (1, b, b)
               | some (n, f, _) => some (n + 1, f, b) }

/-- Rank of a plane in the order of the intake (R35). -/
def Plane.rank : Plane → Nat
  | .control => 0
  | .data => 1
  | .management => 2

/-- Order of the intake: plane, then code; equal keys keep the order in which they were raised (R35). -/
def Ev.le (a b : Ev) : Bool :=
  a.plane.rank < b.plane.rank || (a.plane.rank == b.plane.rank && decide (a.code ≤ b.code))

/-- Order of the events kept for beat 0: the start record, the mismatch record, the others as raised (R538). -/
def earlyOrder (l : List Ev) : List Ev :=
  l.filter (fun e => e.code == 0x100) ++ l.filter (fun e => e.code == 0x103) ++
    l.filter (fun e => e.code != 0x100 && e.code != 0x103)

/-- The events of the beat just ended in intake order (R35, R538). -/
def LogS.ordered (l : LogS) : List Ev := earlyOrder l.early ++ sortBy Ev.le l.intake

/-- At a boundary the events of beat b just ended are appended to the queue (R483). -/
def LogS.append (l : LogS) (win : Nat) (b : Word) : LogS :=
  let l1 := l.ordered.foldl (fun l e => l.intakeOne win b e.code (pad4 e.p)) l
  { l1 with intake := [], early := [] }

/-- A free entry takes the overflow marker (R484). -/
def LogS.marker (l : LogS) : LogS :=
  match l.lost with
  | some (n, f, g) =>
    if l.queue.length < 64 then
      { l with queue := l.queue ++ [{ kind := .marker, code := 1, p := pad4 [nword n, f, g], sec := l.snapSec,
                                       frac := l.snapFrac, beat := g }],
               lost := none }
    else l
  | none => l

/-- Put a record into its slot, rising slot numbers (R477). -/
def storePut (slot : Nat) (r : LogRec) : List (Nat × LogRec) → List (Nat × LogRec)
  | [] => [(slot, r)]
  | (k, x) :: l => if k < slot then (k, x) :: storePut slot r l else if k = slot then (slot, r) :: l else (slot, r) :: (k, x) :: l

/-- The record in a slot. -/
def storeGet (slot : Nat) (l : List (Nat × LogRec)) : Option LogRec := (l.find? fun x => x.1 == slot).map (·.2)

/-- Write a new record with the next number (R477, R478). -/
def LogS.writeNew (l : LogS) (code : Nat) (p : List Word) (rep : Nat) (sec : Word) (frac : BitVec 16) (beat : Word) : LogS :=
  let q := l.newest + 1
  { l with
    newest := q
    store := storePut (q.toNat % logSlots) { code := code, rep := rep, sec := sec, frac := frac, seq := q, p := pad4 p } l.store
    recent := (l.recent ++ [({ seq := q, code := code, p := pad4 p, beat := beat } : Recent)]).drop (l.recent.length + 1 - 64) }

/-- Add repeats to the stored record with this number (R482). -/
def LogS.writeRepeat (l : LogS) (q : Word) (n : Nat) : LogS :=
  { l with store := l.store.map fun x =>
      if x.1 == q.toNat % logSlots && x.2.seq == q then (x.1, { x.2 with rep := min 65535 (x.2.rep + n) }) else x }

/-- Write one queue entry (R479). -/
def LogS.writeEnt (l : LogS) (e : QEnt) : LogS :=
  match e.kind with
  | .repeatOf q => l.writeRepeat q e.rep
  | _ => l.writeNew e.code e.p e.rep e.sec e.frac e.beat

/-- Write the head of the queue and let an overflow marker take the free entry (R479, R484). -/
def LogS.writeHead (l : LogS) : LogS :=
  match l.queue with
  | [] => l.marker
  | e :: r => (LogS.writeEnt { l with queue := r } e).marker

/-- Write every queued entry, and a marker that they make room for (R485). -/
def LogS.flush (l : LogS) : LogS :=
  let l0 : LogS := { l with queue := [] }
  let l1 := l.queue.foldl LogS.writeEnt l0
  let l2 := l1.marker
  let l3 : LogS := { l2 with queue := [] }
  l2.queue.foldl LogS.writeEnt l3

/-- SEQ a is newer than SEQ b (R480). -/
def seqNewer (a b : Word) : Bool := decide (1 ≤ (a - b).toNat ∧ (a - b).toNat < 2 ^ 31)

/-- Newest valid SEQ of the store (R480). -/
def LogS.scan (l : LogS) : Option Word :=
  (l.store.filter fun x => x.2.mark == 0xA5).foldl
    (fun acc x => match acc with
      | none => some x.2.seq
      | some q => if seqNewer x.2.seq q then some x.2.seq else some q) none

/-- SEQ of the oldest valid record; 0 when there is none (R491). -/
def LogS.oldest (l : LogS) : Word :=
  ((l.store.filter fun x => x.2.mark == 0xA5).foldl
    (fun acc x => match acc with
      | none => some x.2.seq
      | some q => if seqNewer q x.2.seq then some x.2.seq else some q) none).getD 0

/-- Erase the slots from lo to hi - 1 whose valid record is not newer than the kept SEQ (R486). -/
def LogS.erase (l : LogS) (lo hi : Nat) (kept : Word) : LogS :=
  { l with store := l.store.map fun x =>
      if decide (lo ≤ x.1) && decide (x.1 < hi) && !(x.2.mark == 0xA5 && seqNewer x.2.seq kept)
      then (x.1, { x.2 with mark := 0 }) else x }

/-- 250 slots a beat: one slot each 4 µs (R486). -/
def LogS.eraseBeat (l : LogS) : LogS :=
  match l.clearPtr, l.clear with
  | some p, some k =>
    if p < logSlots then { l.erase p (min logSlots (p + 250)) k with clearPtr := some (min logSlots (p + 250)) } else l
  | _, _ => l

/-- The 32 bytes of a record (R474, R475). -/
def LogRec.bytes (r : LogRec) : List Byte :=
  let body := bytesOf 2 r.code ++ bytesOf 2 r.rep ++ wordBytes r.sec ++ bytesOf 2 r.frac.toNat ++ wordBytes r.seq ++
    (pad4 r.p).flatMap wordBytes
  body ++ [BitVec.ofNat 8 (crc8 body), r.mark]

/-- The capture of the slot that LOG_RSEL selects; an unwritten slot reads zeros (R488). -/
def LogS.capture (l : LogS) : List Word :=
  match storeGet (l.rsel.toNat % logSlots) l.store with
  | some r => wordsOf r.bytes
  | none => List.replicate 8 0

/-- The repeat window in beats (R481). -/
def State.repWin (s : State) : Nat := beatsOfSec (s.nat .REP_WIN)

/-- The calendar advances by n units of 1/65,536 s of its crystal, with the trim of its rate (R446). -/
def LogS.tick (l : LogS) (n : Nat) : LogS :=
  let gathered := l.calTrimAcc + n * l.calTrim
  let whole := floorDiv gathered 1000000
  let t := ((l.calSec.toNat * 65536 + l.calFrac.toNat + n : Nat) + whole : Int).toNat
  { l with calSec := nword (t / 65536), calFrac := BitVec.ofNat 16 t, calTrimAcc := gathered - whole * 1000000 }

/-- The trim that a difference from the bus time calls for: at most 100 ppm toward it (R446; log entry 90). -/
def calTrimOf (d : Int) : Int := d.sign * ((min 100 (Config.calTrim d) : Nat) : Int)

/-- The calendar's rate is trimmed toward the bus time (R446). -/
def State.trimCalendar (d : Int) (s : State) : State := { s with log := { s.log with calTrim := calTrimOf d } }

/-- The snapshot that XS_TA captures at a boundary (R26, R28). -/
def LogS.snap (l : LogS) : LogS := { l with snapSec := l.calSec, snapFrac := l.calFrac }

/-- Set the calendar, with its record (R487): who is 1 for the host, 2 for CAN. -/
def State.setCalendar (sec : Word) (frac : BitVec 16) (who : Nat) (s : State) : State :=
  let s1 := s.event .management 3 [s.log.calSec, sec, nword who]
  { s1 with log := { s1.log with calSec := sec, calFrac := frac, calValid := true } }

/-- The recorder's part of a boundary: intake of the beat just ended, then the calendar snapshot, the background clear and
the new write slot (R479, R483, R486). -/
def State.recorderBoundary (ended : Word) (next : Word) (s : State) : State :=
  let a := s.log.append s.repWin ended
  { (s.tally 22 (a.merged - s.log.merged)).tally 23 (a.lostCnt - s.log.lostCnt) with log :=
      let l := a.eraseBeat.snap
      { l with slotDue := decide (next.toNat % 5 = 0) } }

/-- The first loss of a count raises FS69 (R484). -/
def State.overflowRaise (hadLoss : Bool) (s : State) : State :=
  if !hadLoss && s.log.lost.isSome then s.raise 69 0 else s

/-- One write operation in the write slot; a pending clear takes the slot and starts (R479, R486). -/
def State.writeSlot (s : State) : State :=
  { (s.tally 27 (if s.log.queue.isEmpty || s.log.clear.isSome then 0 else 1)).tally 21
      (if s.log.clear.isNone && (s.log.queue.head?.any fun e => match e.kind with | .repeatOf _ => false | _ => true) then 1 else 0) with log :=
      if s.log.clearPtr.isSome then { s.log with slotDue := false }
      else if s.log.clear.isSome then { s.log with slotDue := false, clearPtr := some 0 }
      else { s.log.writeHead with slotDue := false } }

/-- RECORDER_WRITE_SLOT (R479): in a beat with BEAT_NUM mod 5 = 0, one write operation. -/
def execRecorderWriteSlot (s : State) : Host.Outcome State Fault Refusal :=
  .next (if s.log.slotDue then s.writeSlot else s)

/-- The conditions of a clear (R486). -/
def State.clearOk (s : State) (key : BitVec 8) : Bool :=
  key == 0xC3 && s.crowns && s.parked && s.log.clear.isNone

/-- LOG_CLEAR (R486): queue a clear with the newest SEQ, or ignore the write. -/
def execLogClear (path : Path) (key : BitVec 8) (s : State) : Host.Outcome State Fault Refusal :=
  let _ := path
  .next { s with log := if s.clearOk key then { s.log with clear := some s.log.newest } else s.log }

/-- A background erase that has ended writes the record of code 0x0002 (R486). -/
def State.logCleared (s : State) : State :=
  { s with log :=
    match s.log.clearPtr, s.log.clear with
    | some p, some k =>
      if p = logSlots then
        { s.log.writeNew 2 [k] 0 s.log.snapSec s.log.snapFrac s.beat.num with clear := none, clearPtr := none }
      else s.log
    | _, _ => s.log }

/-- LOG_CLEAR_COMPLETE (R486). -/
def execLogClearComplete (s : State) : Host.Outcome State Fault Refusal := .next s.logCleared

/-- LOG_RD0_READ (R488): capture the selected slot whole into the path's holding register. -/
def execLogRd0Read (path : Path) (s : State) : Host.Outcome State Fault Refusal :=
  .next { s with log :=
    { s.log with holdHost := if path = .host then s.log.capture else s.log.holdHost
                 holdRing := if path = .ring then s.log.capture else s.log.holdRing } }

/-- CALENDAR_SET (R487): a write of LOG_CAL_F sets the calendar to LOG_CAL_S and LOG_CAL_F. -/
def execCalendarSet (path : Path) (frac : Word) (s : State) : Host.Outcome State Fault Refusal :=
  let _ := path
  .next (s.setCalendar s.log.calS (BitVec.ofNat 16 frac.toNat) 1)

end Sys2Proof.Machine
end

