-- ==== Sys2Proof/Machine/Measure.lean ====
section
/-! DEFINITION. Measurement: windows, pools, shown values, charge accumulators, insulation, thermistors (chapter 05). -/

namespace Sys2Proof.Machine

/-- Window w is in use (R88). -/
def State.winEn (s : State) (w : Nat) : Bool := s.on .EN w
/-- Its mode: 0 static, 1 per-beat, 2 edge (R88). -/
def State.winMode (s : State) (w : Nat) : Nat := s.nat .MODE w
/-- Its length in raw samples (R88). -/
def State.winLen (s : State) (w : Nat) : Nat := s.nat .LEN w
/-- Its offset in µs (R88). -/
def State.winOfs (s : State) (w : Nat) : Nat := s.nat .OFS w
/-- Its group holds the cells (0), the current (1), HV (2) or check (3) channels (R88). -/
def State.winHas (s : State) (w g : Nat) : Bool := (s.nat .GROUP w).testBit g
/-- Two windows share a group (R89-R91). -/
def State.winShare (s : State) (v w : Nat) : Bool := (s.nat .GROUP v) &&& (s.nat .GROUP w) != 0
/-- Window length in hundredths of CLK_S cycles: 2,560 cycles a raw sample. -/
def State.winSpan (s : State) (w : Nat) : Nat := 256000 * s.winLen w
/-- Microseconds in hundredths of CLK_S cycles. -/
def usTicks (us : Nat) : Nat := 4096 * us
/-- Class of the window: evaluated in the next beat when its end by OFS lies after 750 µs (R90). -/
def State.winLate (s : State) (w : Nat) : Bool := decide (usTicks 750 < usTicks (s.winOfs w) + s.winSpan w)

/-- Cell n (1 to 96) is populated (R54). -/
def State.cellPop (s : State) (n : Nat) : Bool := s.on .CELL n
/-- The populated cells in ascending order. -/
def State.popCells (s : State) : List Nat := ((List.range 96).map (· + 1)).filter s.cellPop
/-- Segment of cell n. -/
def segOf (n : Nat) : Nat := (n - 1) / 24
/-- Current channel c (0 for I1, 1 for I2) is populated (R148). -/
def State.curPop (s : State) (c : Nat) : Bool := s.on .R_SH (c + 1)
/-- HV channel h (0 VSTK, 1 VLNK, 2 VPCH, 3 VISO) is populated (R156). -/
def State.hvPop (s : State) (h : Nat) : Bool := s.on .HV h
/-- Thermistor t (1 to 32) is populated (R166). -/
def State.thmPop (s : State) (t : Nat) : Bool := decide (s.par .THM_TAB t < 4)

/-- The segment die is held in reset (R372). -/
def State.segHeld (s : State) (seg : Nat) : Bool := s.flt.blk.any fun b => b.1 == .segment (Fin.ofNat 4 seg)

/-- The segment and its link to the channel deliver values and carry commands: neither is held in reset (R19, R372). -/
def State.linkUp (s : State) (seg : Nat) (ch : Ch) : Bool :=
  !(s.segHeld seg || s.flt.blk.any fun b => b.1 == .link (Fin.ofNat 4 seg) ch)

/-- Words that wait in the segments' FIFOs to a channel (R26). -/
def State.segWords (s : State) (ch : Ch) : List Nat := match ch with | .a => s.meas.xsA | .b => s.meas.xsB

/-- Words of every segment enter the FIFO to a channel (R26, R27): cores that work take them at once, held ones leave them, and what
does not fit into 64 words is dropped with FS70. One word carries one value or strobe (log entry 73). -/
def State.segPush (words : Nat) (ch : Ch) (s : State) : State :=
  if !s.runs ch then s
  else
    let come := (indexed (s.segWords ch)).map fun x => if s.works ch then 0 else if s.linkUp x.1 ch then x.2 + words else x.2
    let full := come.map (min 64)
    let t := { s with meas := match ch with
      | .a => { s.meas with xsA := full }
      | .b => { s.meas with xsB := full } }
    if come == full then t else t.raise 70 0

/-- Words of a sub-beat for a segment: the strobe, and the cells' raw streams while impedance is measured (R26, R227). -/
def State.subWords (s : State) : Nat := if s.imp.slots.any fun x => x.beats.isSome then 25 else 1

/-- An open-wire pass runs on some segment (R181). -/
def State.passRuns (s : State) : Bool := s.integ.seg.any fun x => x.pass.isSome

/-- Cell and check windows are taken in the beat with this string beat number, while cadence and pass are as they stand (R268, R183). -/
def State.takenAt (s : State) (sbn : Word) : Bool := !s.chg.slow || sbn.toNat % 64 == 0 || s.passRuns

/-- Cell and check windows are taken in this beat (R268, R183). -/
def State.cellsTaken (s : State) : Bool := s.takenAt s.sbn

/-- Window w is taken in that beat for at least one of its groups: HV always, current outside slow cadence, cells and checks as R268
has them (R152, R268). -/
def State.winTaken (s : State) (w : Nat) (sbn : Word) : Bool :=
  s.winEn w && (s.winHas w 2 || (s.winHas w 1 && !s.chg.slow) || ((s.winHas w 0 || s.winHas w 3) && s.takenAt sbn))

/-- LSB of a current channel in nA; 0 when unpopulated (R148, R176). -/
def State.curLsb (s : State) (c : Nat) : Int :=
  if s.curPop c then divRnd 500000000000 (s.par .R_SH (c + 1)) else 0

/-- A current code in mA (R148). -/
def State.curMa (s : State) (c : Nat) (code : Int) : Int :=
  if s.curPop c then divRnd (code * 500000) (s.par .R_SH (c + 1)) else 0

/-- One step of R151: the accumulator and its fraction take t = F + x, saturated to 64 bits (R99). -/
def accum (q : Int × Int) (x : Int) : Int × Int :=
  let t := q.2 + x
  let w := floorDiv t 16
  (sat (q.1 + w) 64, t - 16 * w)

/-- The step of R151 would leave 64 bits (R99). -/
def accumOver (q : Int × Int) (x : Int) : Bool := sat (q.1 + floorDiv (q.2 + x) 16) 64 != q.1 + floorDiv (q.2 + x) 16

/-- The sample of current channel c that reaches a channel's accumulator: delivered, or none when lost (R153, R372). -/
def State.curSample (s : State) (ch : Ch) (c : Nat) (x : Option Raw) : Option Raw :=
  if s.linkUp 0 ch && !(s.meas.lostCur.contains (ch, c == 1)) then x else none

/-- A channel's accumulators after one continuous sample pair: delivered samples, the last good one for a lost sample, nothing
for a failed or absent converter (R151, R153). -/
def State.accumCh (s : State) (q : List (Int × Int)) (good : List Int) (xs : List (Option Raw)) (k : Int) :
    List (Int × Int) :=
  (List.range 2).map fun c =>
    let old := q[c]?.getD (0, 0)
    if s.curPop c && !s.meas.failCur.contains c then
      accum old (k * (((xs[c]?.getD none).map (·.x)).getD (good[c]?.getD 0)))
    else old

/-- The last good samples after a pair of samples (R153). -/
def goodAfter (good : List Int) (xs : List (Option Raw)) : List Int :=
  (List.range 2).map fun c => ((xs[c]?.getD none).map (·.x)).getD (good[c]?.getD 0)

/-- Current channels whose sample is substituted in channel A (R153). -/
def State.substituted (s : State) (xs : List (Option Raw)) : List Nat :=
  [0, 1].filter fun c => s.curPop c && !s.meas.failCur.contains c && (xs[c]?.getD none).isNone

/-- Channel A's accumulators take one pair of samples, while its cores execute (R29, R151-R153). -/
def State.accumulateA (k : Int) (i1 i2 : Option Raw) (s : State) : State :=
  let x := [s.curSample .a 0 i1, s.curSample .a 1 i2]
  s.dataA fun s => { s with meas := { s.meas with
    qA := s.accumCh s.meas.qA s.meas.goodA x k
    goodA := goodAfter s.meas.goodA x
    subst := min 65535 (s.meas.subst + (s.substituted x).length)
    substCur := (s.meas.substCur ++ s.substituted x).eraseDups } }

/-- Channel B's accumulators take one pair of samples, while its cores execute (R151-R154). -/
def State.accumulateB (k : Int) (i1 i2 : Option Raw) (s : State) : State :=
  let x := [s.curSample .b 0 i1, s.curSample .b 1 i2]
  if s.works .b then
    { s with meas := { s.meas with qB := s.accumCh s.meas.qB s.meas.goodB x k, goodB := goodAfter s.meas.goodB x } }
  else s

/-- Both channels' accumulators take one pair of samples, k = 1 for a sub-beat, 16 for a whole beat (R151-R154). -/
def State.accumulate (k : Int) (i1 i2 : Option Raw) (s : State) : State := (s.accumulateA k i1 i2).accumulateB k i1 i2

/-- Some accumulator step of a channel saturates (R99). -/
def State.accumOverCh (s : State) (q : List (Int × Int)) (good : List Int) (xs : List (Option Raw)) (k : Int) : Bool :=
  (List.range 2).any fun c =>
    s.curPop c && !s.meas.failCur.contains c &&
      accumOver (q[c]?.getD (0, 0)) (k * (((xs[c]?.getD none).map (·.x)).getD (good[c]?.getD 0)))

/-- Some accumulator step of either channel saturates (R99). -/
def State.accumOverflows (k : Int) (i1 i2 : Option Raw) (s : State) : Bool :=
  (s.works .a && s.accumOverCh s.meas.qA s.meas.goodA [s.curSample .a 0 i1, s.curSample .a 1 i2] k) ||
    (s.works .b && s.accumOverCh s.meas.qB s.meas.goodB [s.curSample .b 0 i1, s.curSample .b 1 i2] k)

/-- R99: FS8 and DET_VOID. -/
def State.saturated (s : State) : State :=
  let t := s.raise 8 0
  { t with beat := { t.beat with detVoid := true } }

/-- Charge accumulation with its saturation rule (R99, R151). -/
def State.charge (k : Int) (i1 i2 : Option Raw) (s : State) : State :=
  onlyIf (s.accumOverflows k i1 i2) State.saturated (s.accumulate k i1 i2)

/-- Add raw samples to a pool (R92). -/
def Pool.add (p : Pool) (r : Option WinRaw) (ib ibc : Int) : Pool :=
  match r with
  | none => p
  | some w => { sum := p.sum + sumI w.xs, n := p.n + w.xs.length, ovl := p.ovl || w.ovl,
                ib := p.ib + ib * w.xs.length, ibc := p.ibc + ibc * w.xs.length }

/-- Add a window's delivered groups to pools. -/
def addPools (l : List Pool) (rs : List (Option WinRaw)) (ib ibc : Nat → Int) (ok : Nat → Bool) : List Pool :=
  (indexed l).map fun x => if ok x.1 then x.2.add (rs[x.1]?.getD none) (ib x.1) (ibc x.1) else x.2

/-- A window item was dropped on a link (R205). -/
def State.dropped (s : State) (seg : Nat) (ch : Ch) (w : Nat) : Bool :=
  !s.linkUp seg ch || s.meas.dropped.contains (seg, ch, w)

/-- Wire resistance of the pin below cell n (R202); the highest pin of a segment has none of its own. -/
def State.rwBelow (s : State) (n : Nat) : Int := ((s.bal.rw[n - 1]?.getD (false, 0)).2 : Int)

/-- Every current-carrying pin of the segment has a valid Rw (R203). -/
def State.rwReady (s : State) (seg : Nat) : Bool :=
  (List.range 24).all fun i => (s.bal.rw[24 * seg + i]?.getD (false, 0)).1

/-- Continuous balancing applies on the segment (R198, R203). -/
def State.continuous (s : State) (seg : Nat) : Bool := s.on .BAL_MODE && s.rwReady seg

/-- The switch current of cell n enters the correction of R200: continuous mode, or an exciting switch (R201); the wire
calibration measures without it (R202). -/
def State.corrects (s : State) (n : Nat) : Bool :=
  s.cellPop n && s.bal.cal.isNone && (s.continuous (segOf n) || (s.bal.sw[n - 1]?.getD {}).exc)

/-- The correction of R200 in codes of scale k (2 for cell codes, 32 for raw samples): minus up plus down. -/
def State.wireCorr (s : State) (k : Int) (n : Nat) (ib ibNext : Int) : Int :=
  (if n % 24 = 0 then 0 else - divRnd (k * ibNext * s.rwBelow (n + 1)) 78125) + divRnd (k * ib * s.rwBelow n) 78125

/-- Switch current of cell n that counts for the correction. -/
def State.corrIb (s : State) (ib : List Int) (n : Nat) : Int := if s.corrects n then ib[n - 1]?.getD 0 else 0

/-- The cell that check converter k of the segment converts (R146). -/
def checkCell (seg k j : Nat) : Nat := 24 * seg + 4 * k + j + 1

/-- The check conversions of a window: cell and corrected code, for the converters that are in order (R146, R147, R200). -/
def State.checkResults (s : State) (w : Nat) (o : WindowIn) (ch : Ch) : List (Nat × Int) :=
  (List.range 24).filterMap fun i =>
    let seg := i / 6
    let n := checkCell seg (i % 6) (s.meas.chkCnt.toNat % 4)
    match o.chk[i]?.getD none with
    | some code =>
      if s.cellPop n && !s.meas.failChk.contains i && !s.dropped seg ch w then
        some (n, sat (code + s.wireCorr 2 n (s.corrIb o.ib n) (s.corrIb o.ib (n + 1))) 18)
      else none
    | none => none

/-- Cells whose check conversion failed with its retry (R205). -/
def State.checkFailures (s : State) (o : WindowIn) : List Nat :=
  (List.range 24).filterMap fun i =>
    let n := checkCell (i / 6) (i % 6) (s.meas.chkCnt.toNat % 4)
    if (o.chk[i]?.getD none).isNone && s.cellPop n && !s.meas.failChk.contains i then some n else none

/-- Cells whose check conversion failed once and succeeded in its retry (R204, R205). -/
def State.checkRetries (s : State) (o : WindowIn) : List Nat :=
  (List.range 24).filterMap fun i =>
    let n := checkCell (i / 6) (i % 6) (s.meas.chkCnt.toNat % 4)
    if o.chkRetry.toNat.testBit i && (o.chk[i]?.getD none).isSome && s.cellPop n && !s.meas.failChk.contains i then some n else none

/-- Pools with the values of window w added (R92, R147, R206). -/
def State.pooled (s : State) (w : Nat) (o : WindowIn) (p : Pools) (chkNow : Bool) : Pools :=
  let cells := s.winHas w 0 && s.cellsTaken
  let cur := s.winHas w 1 && !s.chg.slow
  let cell (l : List Pool) (ch : Ch) : List Pool :=
    addPools l o.cells (fun i => o.ib[i]?.getD 0) (fun i => s.corrIb o.ib (i + 1)) fun i => cells && !s.dropped (i / 24) ch w
  let curs (l : List Pool) (ch : Ch) : List Pool :=
    addPools l o.cur (fun _ => 0) (fun _ => 0) fun c => cur && s.curPop c && !s.dropped 0 ch w
  let hvs (l : List Pool) (ch : Ch) : List Pool :=
    addPools l o.hv (fun _ => 0) (fun _ => 0) fun h => s.winHas w 2 && s.hvPop h && !s.dropped 0 ch w
  { cell := cell p.cell .a, cur := curs p.cur .a, hv := hvs p.hv .a
    cellB := cell p.cellB .b, curB := curs p.curB .b, hvB := hvs p.hvB .b
    chk := if chkNow then s.checkResults w o .a else p.chk
    chkB := if chkNow then s.checkResults w o .b else p.chkB
    chkJ := if chkNow then some (s.meas.chkCnt.toNat % 4) else p.chkJ
    chkBeat := if chkNow then s.beat.num else p.chkBeat
    cellWin := p.cellWin || cells }

/-- The window waits to close in this beat: in use, placed, neither rejected nor closed (R88-R92). -/
def State.winOpen (s : State) (w : Nat) : Bool :=
  let x := s.beat.wins[w]?.getD {}
  s.winEn w && x.placed && !x.rejected && !x.closed

/-- A check conversion is taken with this window (R147). -/
def State.chkWithWindow (s : State) (w : Nat) : Bool := s.winHas w 3 && s.cellsTaken && !s.meas.chkTaken

/-- Words that a window delivers for a segment: its cells and check converters, and the segment's status (R26, R88). -/
def State.winWords (s : State) (w : Nat) : Nat :=
  (if s.winHas w 0 && s.cellsTaken then 24 else 0) + (if s.chkWithWindow w then 6 else 0) + 1

/-- The buffer of this beat has frozen: the freeze is stage 2 of the evaluation (R31). -/
def State.frozen (s : State) : Bool := decide (2 < s.beat.eStage)

/-- A window closes: its values enter the buffer of its evaluation beat; after the freeze of this beat that of the next beat
is the open one (R31, R90, R92). -/
def State.windowClose (w : Nat) (o : WindowIn) (s : State) : State :=
  let chkNow := s.chkWithWindow w
  let toNext := s.winLate w && !s.frozen
  let lost := !s.winLate w && s.frozen
  { s.tally 29 (if chkNow then (o.chk.filter (·.isSome)).length else 0) with
    meas := { s.meas with
      pool := if toNext || lost then s.meas.pool else s.pooled w o s.meas.pool chkNow
      poolNext := if toNext then s.pooled w o s.meas.poolNext chkNow else s.meas.poolNext
      chkTaken := s.meas.chkTaken || chkNow }
    beat := { s.beat with wins := s.beat.wins.modify w fun x => { x with closed := true } } }

/-- A sample window that waits ends: its values are pooled; a failed check conversion raises FS74, one whose retry succeeded is
counted as transient (R92, R204, R205). -/
def State.closeWindow (w : Nat) (o : WindowIn) (s : State) : State :=
  if s.winOpen w then
    let chk := s.chkWithWindow w
    runAll (fun n t => State.raise 74 (nword n) t) (if chk then s.checkFailures o else [])
      (runAll (fun n t => State.raiseTransient 74 (nword n) t) (if chk then s.checkRetries o else []) (s.windowClose w o))
  else s

/-- The code of a pool before narrowing (R92). -/
def Pool.code (p : Pool) : Int := divRnd p.sum (16 * p.n)

/-- A current or HV value after the freeze (R148, R156, R157, R172). -/
def Val.ofPool (old : Val) (pop failed : Bool) (p : Pool) (lo hi : Int) : Val :=
  if !pop then { old with valid := false }
  else if p.n = 0 then { old with valid := old.valid && !failed, stale := true }
  else
    let c := sat p.code 20
    { old with code := c, valid := !failed, stale := false, range := decide (c < lo ∨ hi < c), ovl := p.ovl || c != p.code }

/-- The measured code of a cell in the evaluated beat from a channel's pools; none without a value (R143, R144, R200, R201). -/
def State.cellCode (s : State) (p : List Pool) (n : Nat) : Option CellCode :=
  let x := p[n - 1]?.getD {}
  if x.n = 0 then none
  else
    let y := p[n]?.getD {}
    let c := sat x.code 18
    let k := s.wireCorr 2 n (divRnd x.ibc x.n) (if y.n = 0 then 0 else divRnd y.ibc y.n)
    some { code := sat (c + k) 18, ovl := x.ovl || c != x.code, aff := k != 0, ib := divRnd x.ib x.n }

/-- The measured codes of the populated cells from a channel's pools. -/
def State.cellCodes (s : State) (p : List Pool) : List (Option CellCode) :=
  (List.range 96).map fun i => if s.cellPop (i + 1) then s.cellCode p (i + 1) else none

/-- RANGE of a cell code (R144). -/
def cellRange (c : Int) : Bool := decide (c < -12800 ∨ 128000 < c)

/-- The value shows another code (R184, R194). -/
def Val.shows (v : Val) (c : Int) : Val := { v with code := c, range := cellRange c }

/-- A cell's shown value from its measured code (R144, R145, R172). -/
def Val.ofCell (old : Val) (pop failed : Bool) (m : Option CellCode) : Val :=
  if !pop then { unpop := true }
  else match m with
  | none => { old with valid := old.valid && !failed, stale := true, unpop := false, invalid := false }
  | some c =>
    { old.shows c.code with valid := !failed, stale := false, ovl := c.ovl, invalid := false, balAff := c.aff, unpop := false }

/-- Check values after the freeze: a fresh code whose age counts from its conversion, otherwise the age runs on (R147). -/
def checkAfter (l : List ChkVal) (fresh : List (Nat × Int)) (age : Nat) : List ChkVal :=
  (indexed l).map fun x =>
    match fresh.find? fun f => f.1 == x.1 + 1 with
    | some f => { x.2 with code := f.2, age := age }
    | none => { x.2 with age := incSat 255 x.2.age }

/-- Current or HV values of a channel after the freeze, from its pools (R148, R156, R172). -/
def freezeVals (old : List Val) (pools : List Pool) (pop failed : Nat → Bool) (lo hi : Int) : List Val :=
  (indexed old).map fun x => x.2.ofPool (pop x.1) (failed x.1) (pools[x.1]?.getD {}) lo hi

/-- The freeze at 850 µs in channel A: measured cell codes of the beat, current and HV values, check values, thermistors and die
temperatures enter the shown copy (R31, R172); a thermistor that is not VALID reads -32,768 (R177). -/
def State.freezeA (s : State) : State :=
  let p := s.meas.pool
  let m := s.meas
  { s with meas := { m with
      codes := s.cellCodes p.cell
      posCodes := (List.range 96).map fun i => (s.cellCode p.cell (i + 1)).map (·.code)
      freshA := p.chk.map (·.1)
      shown := { m.shown with
        beat := s.beat.num
        cur := freezeVals m.shown.cur p.cur s.curPop m.failCur.contains (-500000) 500000
        hv := freezeVals m.shown.hv p.hv s.hvPop m.failHv.contains (-3200) 480000
        chk := checkAfter m.shown.chk p.chk (s.beat.num - p.chkBeat).toNat
        thm := (indexed m.thm).map fun x =>
          let ok := x.2.valid && m.refOk
          { x.2 with valid := ok, temp := if ok then x.2.temp else -32768, unpop := !s.thmPop (x.1 + 1) }
        id := { m.id with valid := m.id.valid && m.refOk }
        die := m.die
        iso := m.iso } } }

/-- The freeze in channel B: its copies of the values that it receives (R19, R22, R31). -/
def State.freezeB (s : State) : State :=
  let p := s.meas.pool
  let m := s.meas
  { s with meas := { m with
      codesB := s.cellCodes p.cellB
      freshB := p.chkB.map (·.1)
      curB := freezeVals m.curB p.curB s.curPop m.failCur.contains (-500000) 500000
      hvB := freezeVals m.hvB p.hvB s.hvPop m.failHv.contains (-3200) 480000
      chkB := checkAfter m.chkB p.chkB (s.beat.num - p.chkBeat).toNat } }

/-- The freeze at 850 µs: each channel whose cores execute takes its values, and the buffer of the next beat opens (R31, R172). -/
def State.freeze (s : State) : State :=
  let t := s.dataA State.freezeA
  let u := if t.works .b then t.freezeB else t
  { u with meas := { u.meas with
      chkJ := u.meas.pool.chkJ, cellWin := u.meas.pool.cellWin, pool := u.meas.poolNext, poolNext := {} } }

/-- A value of this evaluation beat that counts: VALID and not STALE (R32). -/
def Val.now (v : Val) : Bool := v.valid && !v.stale

/-- I1 and I2, VSTK, VLNK, VPCH and VISO as channel A sees them. -/
def State.cur (s : State) (c : Nat) : Val := s.meas.shown.cur[c]?.getD {}
/-- An HV value as channel A sees it. -/
def State.hv (s : State) (h : Nat) : Val := s.meas.shown.hv[h]?.getD {}
/-- A current value as the channel sees it. -/
def State.curOf (s : State) (ch : Ch) (c : Nat) : Val :=
  match ch with
  | .a => s.cur c
  | .b => s.meas.curB[c]?.getD {}
/-- An HV value as the channel sees it. -/
def State.hvOf (s : State) (ch : Ch) (h : Nat) : Val :=
  match ch with
  | .a => s.hv h
  | .b => s.meas.hvB[h]?.getD {}
/-- The shown value of cell n. -/
def State.cell (s : State) (n : Nat) : Val := s.meas.shown.cell[n - 1]?.getD {}
/-- The primary value of cell n as the channel sees it (R22). -/
def State.cellOf (s : State) (ch : Ch) (n : Nat) : Val :=
  match ch with
  | .a => s.cell n
  | .b => s.meas.cellB[n - 1]?.getD {}
/-- The measured codes as the channel receives them (R22). -/
def State.codesOf (s : State) : Ch → List (Option CellCode)
  | .a => s.meas.codes
  | .b => s.meas.codesB
/-- The check values as the channel receives them (R22). -/
def State.chkOf (s : State) : Ch → List ChkVal
  | .a => s.meas.shown.chk
  | .b => s.meas.chkB
/-- Cells with a fresh check code in the channel. -/
def State.freshOf (s : State) : Ch → List Nat
  | .a => s.meas.freshA
  | .b => s.meas.freshB

/-- Sum, highest and lowest code of the populated VALID cells (R145). -/
def Shown.validCells (h : Shown) : List (Nat × Int) :=
  (indexed h.cell).filterMap fun x => if x.2.valid && !x.2.unpop then some (x.1 + 1, x.2.code) else none

/-- CELL_SUM (R145). -/
def Shown.cellSum (h : Shown) : Int := sumI (h.validCells.map (·.2))

/-- The first of the best elements by a strict comparison. -/
def bestBy {α : Type} (better : α → α → Bool) : List α → Option α
  | [] => none
  | x :: l => some (l.foldl (fun a b => if better b a then b else a) x)

/-- CELL_MAX with its cell (R145). -/
def Shown.cellMax (h : Shown) : Nat × Int := (bestBy (fun a b => decide (b.2 < a.2)) h.validCells).getD (0, 0)
/-- CELL_MIN with its cell (R145). -/
def Shown.cellMin (h : Shown) : Nat × Int := (bestBy (fun a b => decide (a.2 < b.2)) h.validCells).getD (0, 0)

/-- The measurement blocks as they stand (R172, R173). -/
def State.live (s : State) : Shown :=
  { s.meas.shown with chkCnt := s.meas.chkCnt, subst := s.meas.subst, slow := s.chg.slow }

/-- MEAS_SNAP (R173): freeze or release the host-visible copy. -/
def execMeasSnap (path : Path) (on : Bool) (s : State) : Host.Outcome State Fault Refusal :=
  let _ := path
  .next { s with meas := { s.meas with
    snap := if on then (if s.meas.snap.isSome then s.meas.snap else some (s.live, s.thm)) else none } }

/-- The copy that reads of the three blocks return (R173). -/
def State.visible (s : State) : Shown := (s.meas.snap.map (·.1)).getD s.live
/-- The thermal registers that reads return (R173, R389). -/
def State.visibleThm (s : State) : ThmS := (s.meas.snap.map (·.2)).getD s.thm

/-- The high half of a signed 64-bit value. -/
def hi64 (x : Int) : Word := sword (x / 2 ^ 32)

/-- LO_READ_LATCH (R174, R278, R511): a read of a low half latches the high half of the same value. -/
def State.latchHi (r : LatchReg) (s : State) : State :=
  { s with
    meas := { s.meas with
      q1Hi := if r = .q1 then some (hi64 (s.visible.q[0]?.getD (0, 0)).1) else s.meas.q1Hi
      q2Hi := if r = .q2 then some (hi64 (s.visible.q[1]?.getD (0, 0)).1) else s.meas.q2Hi }
    chg := { s.chg with qcHi := if r = .qc then some (hi64 s.chg.shown.qc) else s.chg.qcHi }
    sys := { s.sys with snHi := if r = .sn then some (nword (s.sys.serial.toNat / 2 ^ 32)) else s.sys.snHi } }

/-- LO_READ_LATCH (R174). -/
def execLoReadLatch (path : Path) (r : LatchReg) (s : State) : Host.Outcome State Fault Refusal :=
  let _ := path
  .next (s.latchHi r)

/-! Insulation -/

/-- iso_calc of R161: cause 2 or 4, or Rp and Rn in ohms. -/
def isoCalc (un1 u1 un2 u2 : Int) : Nat ⊕ (Int × Int) :=
  if u1 < 16000 ∨ u2 < 16000 then .inl 2
  else
    let up1 := u1 - un1
    let up2 := u2 - un2
    let d := up2 * un1 - un2 * up1
    if d ≤ 0 then .inl 4
    else
      let rmax : Int := 1000000000
      let p := min rmax (if un2 ≤ 0 then rmax else divRnd (250000 * d) (un2 * u1))
      let nm := min rmax (if up1 ≤ 0 then rmax else divRnd (250000 * d) (up1 * u2))
      let n := min rmax (if 20000000 ≤ nm then rmax else divRnd (nm * 20000000) (20000000 - nm))
      .inr (p, n)

/-- Phase length P (R159). -/
def State.isoP (s : State) : Nat := s.nat .ISO_PHASE

/-- The interval of R159 that cycle beat c falls in: 0 and 1 in phase P, 2 and 3 in phase N. -/
def isoInterval (p c : Nat) : Option Nat :=
  if p - 200 ≤ c ∧ c ≤ p - 101 then some 0
  else if p - 100 ≤ c ∧ c ≤ p - 1 then some 1
  else if 2 * p - 200 ≤ c ∧ c ≤ 2 * p - 101 then some 2
  else if 2 * p - 100 ≤ c ∧ c ≤ 2 * p - 1 then some 3
  else none

/-- VISO and VSTK of a beat join the sums of interval k when both have a VALID value (R160). -/
def isoAdd (works : Bool) (viso vstk : Val) (k : Nat) (l : List (Int × Int × Nat)) : List (Int × Int × Nat) :=
  if works && viso.now && vstk.now then l.modify k fun x => (x.1 + viso.code, x.2.1 + vstk.code, x.2.2 + 1) else l

/-- The evaluation adds a beat's VISO and VSTK to the mean of its interval, as each channel has them (R22, R160). -/
def State.isoCollect (s : State) : State :=
  { s with meas := { s.meas with iso := { s.meas.iso with
      cycle := s.meas.iso.cycle.map fun c =>
        match isoInterval s.isoP (s.beat.num - c.start).toNat with
        | some k =>
          { c with sums := isoAdd (s.works .a) (s.hvOf .a 3) (s.hvOf .a 0) k c.sums
                   sumsB := isoAdd (s.works .b) (s.hvOf .b 3) (s.hvOf .b 0) k c.sumsB }
        | none => c } } }

/-- Mean of an interval (R160): VISO and VSTK. -/
def isoMean (x : Int × Int × Nat) : Int × Int := (divRnd x.1 x.2.2, divRnd x.2.1 x.2.2)

/-- The outcome of a cycle: a cause of R160 in its order, or Rp and Rn. -/
def IsoCycle.outcome (c : IsoCycle) : Nat ⊕ (Int × Int) :=
  let m (k : Nat) := isoMean (c.sums[k]?.getD (0, 0, 0))
  let off (a b : Nat) : Bool := decide ((divRnd (m b).2 100) < ((m a).1 - (m b).1).natAbs)
  if c.peOpen then .inl 5
  else if c.sums.any fun x => decide (x.2.2 < 50) then .inl 6
  else if off 0 1 || off 2 3 then .inl 3
  else isoCalc (m 1).1 (m 1).2 (m 3).1 (m 3).2

/-- Channel B's result of a cycle (R22, R160, R162). -/
def IsoB.afterCycle (i : IsoB) (c : IsoCycle) (warn trip : Nat) : IsoB :=
  match IsoCycle.outcome { c with sums := c.sumsB } with
  | .inl _ => { i with valid := false }
  | .inr (p, n) =>
    let mn := Nat.min (Nat.max 50 (Nat.min 50000 (divRnd p 1000).toNat)) (Nat.max 50 (Nat.min 50000 (divRnd n 1000).toNat))
    { min := mn, valid := true, warn := decide (mn < warn), trip := decide (mn < trip) }

/-- The registers after a cycle (R160, R162). -/
def IsoS.afterCycle (i : IsoS) (c : IsoCycle) (warn trip : Nat) : IsoS :=
  match c.outcome with
  | .inl k => { i with valid := false, cause := k, cycle := none, fresh := true, b := i.b.afterCycle c warn trip }
  | .inr (p, n) =>
    let kp := (divRnd p 1000).toNat
    let kn := (divRnd n 1000).toNat
    let cl (x : Nat) : Nat := Nat.max 50 (Nat.min 50000 x)
    let mn := Nat.min (cl kp) (cl kn)
    { i with
      valid := true, cause := 0, rp := cl kp, rn := cl kn, min := mn
      rpLow := decide (kp < 50), rpHigh := decide (50000 < kp), rnLow := decide (kn < 50), rnHigh := decide (50000 < kn)
      warn := decide (mn < warn), trip := decide (mn < trip), cycle := none, fresh := true
      b := i.b.afterCycle c warn trip }

/-- A cycle has run its 2P beats (R159). -/
def State.isoResultDue (s : State) : Bool :=
  match s.meas.iso.cycle with
  | some c => decide (2 * s.isoP ≤ (s.beat.num - c.start).toNat)
  | none => false

/-- The result of the cycle that ends at this boundary (R159-R162). -/
def State.isoResult (s : State) : State :=
  { s with meas := { s.meas with iso :=
      match s.meas.iso.cycle with
      | some c => s.meas.iso.afterCycle c (s.nat .ISO_WARN) (s.nat .ISO_TRIP)
      | none => s.meas.iso } }

/-- A cycle starts in this beat and has not started yet (R159). -/
def State.isoStartDue (s : State) : Bool :=
  s.on .ISO_EN && decide (s.beat.num.toNat % (2 * s.isoP) = 0) && s.beat.running && s.works .a &&
    (match s.meas.iso.cycle with
      | some c => c.start != s.beat.num
      | none => true)

/-- A cycle starts: S− opens when it was closed, and S+ closes, after 100 µs on a change of phase (R158, R159). -/
def State.isoStart (peOpen : Bool) (s : State) : State :=
  { s with meas := { s.meas with iso := { s.meas.iso with
      cycle := some { start := s.beat.num, peOpen := peOpen }
      sMinus := false
      sPlus := !s.meas.iso.sMinus
      closeDue := if s.meas.iso.sMinus then some true else none
      phaseN := false } } }

/-- INSULATION_CYCLE_START (R159, R163): the PE loop test, then the cycle. -/
def execInsulationCycleStart (peOhm : Nat) (s : State) : Host.Outcome State Fault Refusal :=
  let s1 := if s.isoResultDue then s.isoResult else s
  .next (if s1.isoStartDue then
    let opn := decide (1000 < peOhm)
    (if opn then (s1.isoStart opn).raiseCond 31 0 else (s1.isoStart opn).endCond 31)
  else s1)

/-- Cycle beat P is reached with S+ still closed (R158, R159). -/
def State.isoPhaseDue (s : State) : Bool :=
  match s.meas.iso.cycle with
  | some c => decide ((s.beat.num - c.start).toNat = s.isoP) && !s.meas.iso.phaseN && s.works .a
  | none => false

/-- S+ opens at the boundary; S− closes 100 µs later (R158). -/
def State.isoPhase (s : State) : State :=
  { s with meas := { s.meas with iso := { s.meas.iso with
      sPlus := false, closeDue := some false, phaseN := true } } }

/-- INSULATION_PHASE_CHANGE (R158). -/
def execInsulationPhaseChange (s : State) : Host.Outcome State Fault Refusal :=
  .next (if s.isoPhaseDue then s.isoPhase else s)

/-- The other switch closes (R158): true is S+. -/
def State.isoClose (s : State) : State :=
  { s with meas := { s.meas with iso := { s.meas.iso with
      sPlus := s.meas.iso.sPlus || s.meas.iso.closeDue == some true
      sMinus := s.meas.iso.sMinus || s.meas.iso.closeDue == some false
      closeDue := none } } }

/-- REFERENCE_SWITCH_CLOSE (R158): 100 µs after a phase change the other reference switch closes. -/
def execReferenceSwitchClose (s : State) : Host.Outcome State Fault Refusal := .next ((s.at 100000).isoClose)

/-- INSULATION_RESULT (R161). -/
def execInsulationResult (s : State) : Host.Outcome State Fault Refusal :=
  .next (if s.isoResultDue then s.isoResult else s)

/-! Thermistors and the identity input -/

/-- The segment of thm_conv (R166): the last segment whose upper point lies above a. -/
def thmSegment : List (Int × Int) → Int → Int
  | p :: q :: r :: l, a => if q.1 ≤ a then thmSegment (q :: r :: l) a else interp a p.1 p.2 q.1 q.2
  | [p, q], a => interp a p.1 p.2 q.1 q.2
  | [p], _ => p.2
  | [], _ => 0

/-- thm_conv of R166 with the flags and validity of R167. -/
def thmConv (t : List (Int × Int)) (a : Nat) : Therm :=
  if 64888 ≤ a then { a := a, opn := true }
  else if a ≤ 326 then { a := a, short := true }
  else
    let v := thmSegment t a
    let out := decide ((a : Int) < (t.headD (0, 0)).1) || decide ((t.getLastD (0, 0)).1 < (a : Int))
    { a := a, temp := clamp (-5000) 15000 v, valid := true, range := out || decide (15000 < v) || decide (v < -5000) }

/-- Nominal resistance of code k: 1,000 × 1.08^k rounded to the nearest ohm (R169). -/
def idOhm (k : Nat) : Nat := (2 * 1000 * 108 ^ k + 100 ^ k) / (2 * 100 ^ k)

/-- Decode of the identity input (R169). DESIGN CHOICE (log entry 85): for a resistance in no code's band R169 says VALID = 0 and
not what CODE reads; here it reads 0. -/
def idDecode (a : Nat) : IdVal :=
  let r := divRnd (10000 * a) (65536 - a)
  match (List.range 64).find? fun k => decide (100 * (r - idOhm k).natAbs ≤ 3 * idOhm k) with
  | some k => { valid := true, code := k, ohm := (min r 262143).toNat }
  | none => { valid := false, code := 0, ohm := (min r 262143).toNat }

/-- The ratiometric converter delivers: neither it nor SG0, which carries it, nor the link to channel A is held in reset (R165,
R372). -/
def State.ratioUp (s : State) : Bool := s.linkUp 0 .a && !(s.flt.blk.any fun b => b.1 == .ratiometric)

/-- Thermistors that the beat's slot converts (R165). -/
def State.thmSlot (s : State) : List Nat :=
  let k := s.beat.num.toNat % 10
  if k < 8 then [4 * k + 1, 4 * k + 2, 4 * k + 3, 4 * k + 4].filter s.thmPop else []

/-- The value of thermistor t among the conversions of the beat. -/
def State.thmVal (s : State) (vals : List (Option (BitVec 16))) (t : Nat) : Option Nat :=
  if s.ratioUp then (vals[(t - 1) % 4]?.getD none).map (·.toNat) else none

/-- One thermistor after its conversion (R166, R167). -/
def State.thmAfter (s : State) (vals : List (Option (BitVec 16))) (t : Nat) (x : Therm) : Therm :=
  match s.thmVal vals t with
  | some a => thmConv (s.img.points .TAB (s.nat .THM_TAB t)) a
  | none => x

/-- The conversions of thermistors enter the data plane's state (R165, R205). -/
def State.thmConvert (vals : List (Option (BitVec 16))) (s : State) : State :=
  { s with meas := { s.meas with
      thm := (indexed s.meas.thm).map fun x =>
        if s.thmSlot.contains (x.1 + 1) then s.thmAfter vals (x.1 + 1) x.2 else x.2
      thmSlots := s.thmSlot.map fun t =>
        (t, match s.thmVal vals t with
          | some a => (thmConv (s.img.points .TAB (s.nat .THM_TAB t)) a).valid && s.meas.refOk
          | none => false) } }

/-- The ID conversion (R169, R273). -/
def State.idConvert (vals : List (Option (BitVec 16))) (s : State) : State :=
  match (if s.ratioUp then vals.headD none else none) with
  | some a => { s with meas := { s.meas with id := idDecode a.toNat }, chg := { s.chg with idFresh := true } }
  | none => s

/-- The reference conversion (R168): FS30 with detail 34, present while the latest one has failed, with its retry or by its value
(R541). -/
def State.refConvert (vals : List (Option (BitVec 16))) (s : State) : State :=
  if !s.ratioUp then s
  else
    let ok := (vals.headD none).any fun a => decide (32704 ≤ a.toNat ∧ a.toNat ≤ 32832)
    let t := { s with meas := { s.meas with refOk := ok } }
    if ok then t.endCond 30 else t.raiseCond 30 34

/-- Conversions of thermistors and ID that failed with their retry: FS30 with the number as detail (R168, R205, R541). -/
def State.ratioFailures (s : State) (vals : List (Option (BitVec 16))) : List Nat :=
  if !s.ratioUp then []
  else if s.beat.num.toNat % 10 < 8 then s.thmSlot.filter fun t => (vals[(t - 1) % 4]?.getD none).isNone
  else if s.beat.num.toNat % 10 = 8 then (if s.on .ID_EN && (vals.headD none).isNone then [33] else [])
  else []

/-- Die temperatures are read in every tenth beat, that of the reference conversion (R177; log entry 61); one without a reading
keeps its value (R379). -/
def State.dieRead (die : List (Option Int)) (s : State) : State :=
  if s.beat.num.toNat % 10 = 9 then
    { s with meas := { s.meas with die := (indexed s.meas.die).map fun x => (die[x.1]?.getD none).getD x.2 } }
  else s

/-- Conversions of the beat whose retry succeeded, by their FS30 details (R168, R204). -/
def State.ratioRetries (s : State) (vals : List (Option (BitVec 16))) (retried : BitVec 4) : List Nat :=
  let k := s.beat.num.toNat % 10
  if !s.ratioUp then []
  else if k < 8 then s.thmSlot.filter fun t => retried.toNat.testBit ((t - 1) % 4) && (vals[(t - 1) % 4]?.getD none).isSome
  else if retried.toNat.testBit 0 && (vals.headD none).isSome && (k == 9 || s.on .ID_EN) then [k + 25] else []

/-- THERMISTOR_CONVERSION (R165): the conversions that BEAT_NUM mod 10 selects, with the retries that succeeded (bit i for the
i-th conversion of the beat; R205), and the die sensors. -/
def execThermistorConversion (vals : List (Option (BitVec 16))) (retried : BitVec 4) (die : List (Option Int)) (s : State) :
    Host.Outcome State Fault Refusal :=
  let k := s.beat.num.toNat % 10
  let s1 := (s.at 100000).dieRead die
  let s2 := if k < 8 then s1.thmConvert vals
    else if k = 8 then (if s.on .ID_EN then s1.idConvert vals else s1)
    else s1.refConvert vals
  let s3 := runAll (fun n t => State.raise 30 (nword n) t) (s.ratioFailures vals) s2
  .next (runAll (fun n t => State.raiseTransient 30 (nword n) t) (s.ratioRetries vals retried) s3)

end Sys2Proof.Machine
end

