-- ==== Sys2Proof/Machine/Memory.lean ====
section
/-! DEFINITION. The memories: the word code's outcomes, the maps of SRAM and MRAM, the planes' rights to write (R29, R30, R42-R47). -/

namespace Sys2Proof.Machine

/-! Words -/

/-- Index of a memory in the lists of MemS, and the source of its faults (R43, R364). -/
def memIx : Mem → Nat
  | .sramA => 0
  | .sramB => 1
  | .mram => 2

/-- Words of a memory: 32 data bytes each (R42, R44). -/
def memWords : Mem → Nat
  | .mram => 524288
  | _ => 131072

/-! The SRAM map -/

/-- A region of the SRAM: first byte, size, writers, readers (R46). -/
structure Region where
  base : Nat
  size : Nat
  writers : List Party
  readers : List Party
  deriving DecidableEq, Repr

/-- The SRAM map of a controller die (R46). -/
def sramMap : Ch → List Region
  | ch =>
    [⟨0x00000000, 0x10000, [.data, .management], [.control]⟩,
      ⟨0x00010000, 0x10000, [.control], [.ringCan]⟩,
      ⟨0x00020000, 0x10000, [.intake], [.management]⟩,
      ⟨0x00030000, 0x40000, [.loader], [.control, .data, .management]⟩,
      ⟨0x00070000, 0x40000, [.control], [.control]⟩,
      ⟨0x000B0000, 0x180000, [if ch = .a then .data else .receivers], [.data]⟩,
      ⟨0x00230000, 0x80000, [.ringCan], [.data, .management]⟩,
      ⟨0x002B0000, 0x150000, if ch = .a then [.management, .checker] else [.checker], [.management]⟩]

/-- The region that holds an address. -/
def regionAt (ch : Ch) (a : Nat) : Option Region := (sramMap ch).find? fun r => decide (r.base ≤ a) && decide (a < r.base + r.size)

/-- The memory protection unit of a die lets this party write at an address: the single-writer rule (R30, R46, R354). -/
def mayWrite (ch : Ch) (p : Party) (a : Nat) : Bool := (regionAt ch a).any fun r => r.writers.contains p

/-- The planes whose work a die's main core runs (R29). -/
def planesOf : Ch → List Party
  | .a => [.control, .data, .management]
  | .b => [.control]

/-- A write of a plane through the main core's data path: blocked, with the plane-violation source raised, where the plane does not own
the address or does not run on that die (R30, R361; log entry 74). -/
def State.planeWrite (ch : Ch) (p : Party) (a : Nat) (s : State) : State :=
  if (planesOf ch).contains p && mayWrite ch p a then s else s.raise 7 0

/-- Who reads a word of a memory: the readers of its SRAM region, for the MRAM the management plane (R46, R47). -/
def wordUsers (m : Mem) (w : Nat) : List Party :=
  match m with
  | .mram => [.management]
  | .sramA => match regionAt .a (32 * w) with | some r => r.readers | none => []
  | .sramB => match regionAt .b (32 * w) with | some r => r.readers | none => []

/-! The MRAM map -/

/-- The regions of the MRAM (R47). -/
inductive MramArea where
  | bank0 | bank1 | journal | unit | records | store | history
  deriving DecidableEq, Repr

/-- First word of a region, and its words (R47). -/
def MramArea.words : MramArea → Nat × Nat
  | .bank0 => (0, 8192)
  | .bank1 => (8192, 8192)
  | .journal => (16384, 2048)
  | .unit => (18432, 14336)
  | .records => (32768, 65536)
  | .store => (98304, 131072)
  | .history => (229376, 262144)

/-- Word i of a region. -/
def mramWord (r : MramArea) (i : Nat) : Nat := r.words.1 + i

/-- A word of the MRAM is poisoned: a read of it answers an error (R43). -/
def State.mramBad (s : State) (w : Nat) : Bool := s.mem.poisoned.contains (.mram, w)

/-- Some word of a region's first n words is poisoned. -/
def State.areaBad (s : State) (r : MramArea) (n : Nat) : Bool :=
  s.mem.poisoned.any fun p => p.1 == Mem.mram && decide (r.words.1 ≤ p.2) && decide (p.2 < r.words.1 + n)

/-- MRAM words that are written whole are poisoned no longer (R43; log entry 70). -/
def State.rewritten (ws : List Nat) (s : State) : State :=
  { s with mem := { s.mem with poisoned := s.mem.poisoned.filter fun p => !(p.1 == Mem.mram && ws.contains p.2) } }

/-- Every word of a region is written whole. -/
def State.areaRewritten (r : MramArea) (s : State) : State :=
  { s with mem := { s.mem with poisoned := s.mem.poisoned.filter fun p =>
      !(p.1 == Mem.mram && decide (r.words.1 ≤ p.2) && decide (p.2 < r.words.1 + r.words.2)) } }

/-! Commands -/

/-- A journal word that cannot be read is no valid word (R43, R128). -/
def CfgS.journalLost (c : CfgS) (m : Mem) (w : Nat) : CfgS :=
  { c with
    j0 := if m = .mram ∧ w = mramWord .journal 0 then none else c.j0
    j1 := if m = .mram ∧ w = mramWord .journal 1 then none else c.j1 }

/-- A word that the retry could not read either: marked poisoned, its readers receive an error, and its memory's source is raised (R43). -/
def State.poison (m : Mem) (w : Nat) (s : State) : State :=
  State.raise (9 + memIx m) 0
    { s with
      mem := { s.mem with
        poisoned := if s.mem.poisoned.contains (m, w) then s.mem.poisoned else s.mem.poisoned ++ [(m, w)]
        errors := s.mem.errors ++ (wordUsers m w).filter fun p => !s.mem.errors.contains p }
      cfg := s.cfg.journalLost m w }

/-- The fixed test word of the word code injections (R376): the first word of the management plane's region of the SRAM, and of
persistent unit state. DESIGN CHOICE (log entry 100): the manual fixes no address. -/
def injWord : Mem → Nat
  | .mram => mramWord .unit 0
  | _ => 0x002B0000 / 32

/-- The uncorrectable injection of a memory is read now: it is read once, so there is no retry and no poison (R376). -/
def State.injRead (s : State) (m : Mem) (w : Nat) : Bool := s.injects (2 + 2 * memIx m) && w == injWord m

/-- MEMORY_READ_RETRY (R43): transient and written back, or lasting and poisoned; the read of an injection's test word is detected
instead (R376, R377). -/
def execMemoryReadRetry (mem : Mem) (word : Nat) (ok : Bool) (s : State) : Host.Outcome State Fault Refusal :=
  if s.injRead mem word then .next (s.injResult true)
  else if ok then
    .next (State.raiseTransient (9 + memIx mem) 0 <| State.tally (24 + memIx mem) 1
      { s with mem := { s.mem with transient := s.mem.transient.modify (memIx mem) (· + 1) } })
  else .next (s.poison mem word)

/-- SCRUB (R44): the next word is read, corrected up to four symbols (R42) and written back; the pass goes on. An
uncorrectable word is the matter of MEMORY_READ_RETRY. -/
def execScrub (mem : Mem) (symbols : Nat) (s : State) : Host.Outcome State Fault Refusal :=
  .next { s.tally (24 + memIx mem) (if rsDecode symbols = .corrected then 1 else 0) with mem := { s.mem with
    scrub := s.mem.scrub.modify (memIx mem) fun w => (w + 1) % memWords mem } }

end Sys2Proof.Machine
end

