-- ==== Sys2Proof/Machine/Integrity.lean ====
section
/-! DEFINITION. Measurement integrity: open-wire passes and slots, suspicion, marking and bounds, cross-checks, link and
memory retries (chapter 06, R42-R45). -/

namespace Sys2Proof.Machine

/-! The string -/

/-- The unit is the active Master of its string (R39, R247). -/
def State.master (s : State) : Bool := s.ring.active

/-- RING_ORDER of the image (R397). -/
def State.ringOrder (s : State) : List UAddr := (s.img.list .RING_ORDER).map fun x => BitVec.ofInt 16 x

/-- Index of a unit in RING_ORDER (R397). -/
def State.ringIndex (s : State) (u : UAddr) : Option Nat := (positions (· == u) s.ringOrder).head?

/-- More than 192 units force every divider of 1 to 2 (R402). -/
def State.divForced (s : State) : Bool := decide (192 < s.ringOrder.length)

/-- Divider in force of the unit at index q (R402). -/
def State.divOf (s : State) (q : Nat) : Nat :=
  if s.divForced && decide (s.nat .DIV q ≤ 1) then 2 else max 1 (s.nat .DIV q)

/-- Divider of a unit. -/
def State.divUnit (s : State) (u : UAddr) : Nat := s.divOf ((s.ringIndex u).getD 0)

/-- The other units of the string that are expected. -/
def State.otherUnits (s : State) : List UnitS := s.ring.roster.filter fun u => u.expect && u.addr != s.addr

/-- The unit of the string with other units in RING_ORDER (R410). -/
def State.multiUnit (s : State) : Bool := s.ringOrder.any fun u => u != s.addr

/-! Open wires -/

/-- How a pin is tested (R178, R179). -/
inductive PinKind where
  | interior | lowest | highest
  deriving DecidableEq, Repr

/-- Local cell c (1 to 24) of the segment exists and is populated. -/
def State.segPop (s : State) (seg c : Nat) : Bool := decide (1 ≤ c ∧ c ≤ 24) && s.cellPop (24 * seg + c)

/-- Kind of pin j (0 to 24) of a segment; none when it is not tested (R178, R179). -/
def State.pinKind (s : State) (seg j : Nat) : Option PinKind :=
  match s.segPop seg j, s.segPop seg (j + 1) with
  | true, true => some .interior
  | false, true => some .lowest
  | true, false => some .highest
  | false, false => none

/-- Millivolts in cell codes (39.0625 µV). -/
def mvCodes (mv : Int) : Int := divRnd (mv * 256) 10

/-- Open-wire state of a segment. -/
def State.owSeg (s : State) (seg : Nat) : OwSeg := s.integ.seg[seg]?.getD {}

/-- State of a pin. -/
def State.pin (s : State) (seg j : Nat) : PinS := (s.owSeg seg).pins[j]?.getD {}

/-- Change a segment's open-wire state. -/
def State.setSeg (seg : Nat) (f : OwSeg → OwSeg) (s : State) : State :=
  { s with integ := { s.integ with
    seg := s.integ.seg.modify seg f } }

/-- Change a pin's state. -/
def State.setPin (seg j : Nat) (f : PinS → PinS) (s : State) : State :=
  s.setSeg seg fun x => { x with pins := x.pins.modify j f }

/-- The segment has a populated cell (R179). -/
def State.segUsed (s : State) (seg : Nat) : Bool := (List.range 24).any fun i => s.segPop seg (i + 1)

/-- A pass begins in the beat with number n when none runs then (R181). -/
def State.passAt (s : State) (n : Word) : Bool :=
  s.beat.running && s.works .a && decide (n.toNat % (s.nat .OW_PERIOD * 1000) = 0) &&
    (List.range 4).any s.segUsed && (match s.pwr.state with | .active | .idle => true | _ => false)

/-- A pass begins in this beat and has not begun (R181). -/
def State.passDue (s : State) : Bool := s.passAt s.beat.num && !s.passRuns

/-- A pass begins on every segment with a cell; targeted slots under way give way to it (R181, R188). -/
def State.startPass (s : State) : State :=
  { s with integ := { s.integ with
    seg := (indexed s.integ.seg).map fun x =>
      if s.segUsed x.1 then { x.2 with pass := some 0, again := [], due := some 0, slot := none, pull := none } else x.2 } }

/-- OPEN_WIRE_PASS (R181). -/
def execOpenWirePass (s : State) : Host.Outcome State Fault Refusal :=
  .next (if s.passDue then s.startPass else s)

/-- The slot of the segment advances by a beat: the source is on in beats b+1 and b+2 (R182). -/
def OwSeg.slotTick (x : OwSeg) : OwSeg :=
  match x.slot with
  | none => x
  | some t =>
    if t.beat = 3 then { x with slot := none, pull := none }
    else { x with slot := some { t with beat := t.beat + 1 }
                  pull := if t.beat = 0 ∨ t.beat = 1 then some t.pin else none }

/-- The pin whose targeted slot comes next: a repeat first, then ascending pin order (R186, R188). -/
def OwSeg.nextTarget (x : OwSeg) : Option Nat :=
  match x.again with
  | j :: _ => some j
  | [] => (positions (fun p => p.want) x.pins).head?

/-- A boundary: passes and slots advance, and the slot that begins here is due (R181, R186, R188). -/
def OwSeg.tick (x : OwSeg) : OwSeg :=
  let y := { x.slotTick with due := none, pass := x.pass.map (· + 1) }
  match y.pass with
  | some p =>
    if p < 100 then { y with due := if p % 4 = 0 then some (p / 4) else none }
    else match y.slot, y.again with
      | none, j :: _ => { y with due := some j }
      | none, [] => { y with pass := none, due := ({ y with pass := none } : OwSeg).nextTarget }
      | some _, _ => y
  | none => if y.slot.isNone then { y with due := y.nextTarget } else y

/-- The slot that is due begins; an untested pin leaves its slot empty (R179, R182). -/
def State.startSlot (seg : Nat) (s : State) : State :=
  s.setSeg seg fun x =>
    match x.due with
    | none => x
    | some j =>
      let rep := x.again.contains j && (x.pass.isNone || x.pass.any fun p => decide (100 ≤ p))
      let y := { x with due := none, again := if rep then x.again.erase j else x.again }
      if (s.pinKind seg j).isNone then y
      else { y with slot := some { pin := j, targeted := x.pass.isNone, again := rep } }

/-- OPEN_WIRE_SLOT (R182): the slot of the running pass that begins at this boundary. -/
def execOpenWireSlot (seg : Fin 4) (s : State) : Host.Outcome State Fault Refusal :=
  .next (if (s.owSeg seg).due.isSome && (s.owSeg seg).pass.isSome then s.startSlot seg else s)

/-- TARGETED_SLOT (R188): a slot for a suspect or requested pin, outside a pass. -/
def execTargetedSlot (seg : Fin 4) (s : State) : Host.Outcome State Fault Refusal :=
  .next (if (s.owSeg seg).due.isSome && (s.owSeg seg).pass.isNone then s.startSlot seg else s)

/-- Judgements of R185. -/
inductive OwJudge where
  | opn | intact | inconclusive
  deriving DecidableEq, Repr

/-- ow_judge of R185: shifts of the cell below and above, less the reference shift. -/
def owJudge (k : PinKind) (dlo dhi dref : Int) : OwJudge :=
  let elo := dlo - dref
  let ehi := dhi - dref
  match k with
  | .interior =>
    if elo ≤ -7680 ∧ 7680 ≤ ehi then .opn else if -3840 < elo ∧ ehi < 3840 then .intact else .inconclusive
  | .lowest => if ehi ≤ -7680 then .opn else if -3840 < ehi then .intact else .inconclusive
  | .highest => if elo ≤ -7680 then .opn else if -3840 < elo then .intact else .inconclusive

/-- A measured code as the judgement takes it: full scale by its sign when OVL (R144, R185). -/
def CellCode.eff (c : CellCode) : Int := if c.ovl then (if c.code < 0 then -131072 else 131072) else c.code

/-- Codes of a segment's cells in the evaluated beat, for the judgement. -/
def State.segCodes (s : State) (seg : Nat) : List (Option Int) :=
  (List.range 24).map fun i => (s.meas.codes[24 * seg + i]?.getD none).map CellCode.eff

/-- The judgement of a slot from its baseline and test codes (R183, R185). -/
def State.judge (s : State) (seg : Nat) (t : OwSlot) : OwJudge :=
  let test := s.segCodes seg
  let d (c : Nat) : Option Int :=
    if c = 0 then none else
    match t.base[c - 1]?.getD none, test[c - 1]?.getD none with
    | some b, some v => some (v - b)
    | _, _ => none
  match s.pinKind seg t.pin with
  | none => .intact
  | some k =>
    let needs := match k with
      | .interior => [t.pin, t.pin + 1]
      | .lowest => [t.pin + 1]
      | .highest => [t.pin]
    if needs.any fun c => (d c).isNone then .inconclusive
    else
      let others := ((List.range 24).map (· + 1)).filterMap fun c =>
        if needs.contains c || !(s.cell (24 * seg + c)).valid then none else d c
      let dref := if others.length < 4 then 0 else divRnd (sumI others) others.length
      owJudge k ((d t.pin).getD 0) ((d (t.pin + 1)).getD 0) dref

/-- The record of R192 and R193: connector, pin and tap. -/
def State.wireEvent (what seg j : Nat) (s : State) : State :=
  s.event .data 0x503 [nword what, nword (seg + 1), nword (j + 1), nword (24 * seg + j)]

/-- A pin is judged OPEN: marked, with its record when it was not, and the source raised each time (R193, R541). -/
def State.markOpen (seg j : Nat) (s : State) : State :=
  let was := (s.pin seg j).opn
  let t := s.setPin seg j fun p =>
    { p with opn := true, suspect := false, want := false, intactRun := 0, clearDue := false,
             graceBeats := if was then p.graceBeats else 0 }
  (if was then t else t.wireEvent 1 seg j).raiseCond (36 + seg) 0

/-- A pin is judged INTACT: suspicion ends; an OPEN pin clears after two consecutive passes (R188, R197). -/
def State.markIntact (seg j : Nat) (targeted : Bool) (s : State) : State :=
  s.setPin seg j fun p =>
    { p with suspect := false, want := false
             barred := if targeted then true else p.barred
             intactRun := if p.opn && !targeted then p.intactRun + 1 else p.intactRun
             clearDue := p.clearDue || (p.opn && !targeted && decide (1 ≤ p.intactRun)) }

/-- What a judgement does (R186, R193, R197). -/
def State.judged (seg : Nat) (t : OwSlot) (j : OwJudge) (s : State) : State :=
  let s1 := s.setSeg seg fun x => { x with slot := x.slot.map fun u => { u with judged := true } }
  match j with
  | .opn => s1.markOpen seg t.pin
  | .intact => s1.markIntact seg t.pin t.targeted
  | .inconclusive =>
    if t.again then s1.markOpen seg t.pin else s1.setSeg seg fun x => { x with again := x.again ++ [t.pin] }

/-- Some enabled cell window has its evaluation in the next beat (R90). -/
def State.cellLate (s : State) : Bool := (List.range 4).any fun w => s.winEn w && s.winHas w 0 && s.winLate w

/-- The evaluation's work on a segment's slot: baseline codes, then the judgement (R182, R185). -/
def State.owEvalSeg (seg : Nat) (s : State) : State :=
  match (s.owSeg seg).slot with
  | none => s
  | some t =>
    let d := if s.cellLate then 1 else 0
    if t.beat = d then s.setSeg seg fun x => { x with slot := x.slot.map fun u => { u with base := s.segCodes seg } }
    else if t.beat = d + 2 && !t.judged then s.judged seg t (s.judge seg t)
    else s

/-- OPEN_WIRE_JUDGEMENT, within EVALUATION (R185). -/
def State.owEval (s : State) : State := runAll State.owEvalSeg [0, 1, 2, 3] s

/-- The pin counts as open for marking: judged OPEN, or suspect until its judgement (R188, R193). -/
def PinS.marked (p : PinS) : Bool := p.opn || p.suspect

/-- Local cell c of the segment is INVALID (R193). -/
def State.cellMarked (s : State) (seg c : Nat) : Bool :=
  s.segPop seg c && ((s.pin seg (c - 1)).marked || (s.pin seg c).marked)

/-- The group of local cell c reaches down to this cell (R193): walk down across marked pins. -/
def State.groupLo (s : State) (seg : Nat) : Nat → Nat
  | 0 => 0
  | c + 1 => if decide (0 < c) && (s.pin seg c).marked && s.cellMarked seg c then s.groupLo seg c else c + 1

/-- The group of local cell c reaches up to this cell, within k further steps. -/
def State.groupHi (s : State) (seg : Nat) : Nat → Nat → Nat
  | 0, c => c
  | k + 1, c => if decide (c < 24) && (s.pin seg c).marked && s.cellMarked seg (c + 1) then s.groupHi seg k (c + 1) else c

/-- The group is bounded by its sum: both of its outer pins are intact (R193). -/
def State.groupSummed (s : State) (seg lo hi : Nat) : Bool := !(s.pin seg (lo - 1)).marked && !(s.pin seg hi).marked

/-- Codes of a run of local cells; none when one has no value. -/
def runCodes (codes : List (Option CellCode)) (seg lo hi : Nat) : Option (List Int) :=
  ((List.range (hi + 1 - lo)).map fun i => (codes[24 * seg + lo + i - 1]?.getD none).map (·.code)).foldr
    (fun x acc => match x, acc with
      | some a, some l => some (a :: l)
      | _, _ => none) (some [])

/-- The slot of the segment that holds neighbouring cells in this beat (R184). -/
def State.holdPin (s : State) (seg : Nat) : Option Nat :=
  match (s.owSeg seg).slot with
  | some t => if 1 ≤ t.beat then some t.pin else none
  | none => none

/-- Shown value, bounds and held value of a cell. -/
structure CellView where
  val : Val
  bounds : Option (Int × Int) := none
  held : Option Int := none
  /-- the cell belongs to a group that is bounded from the stack (R195) -/
  lone : Bool := false
  deriving DecidableEq, Repr

/-- A marked cell: bounded by its group's sum, or lone (R194, R195). -/
def State.viewMarked (s : State) (codes : List (Option CellCode)) (seg c : Nat) (v : Val) : CellView :=
  let lo := s.groupLo seg c
  let hi := s.groupHi seg 24 c
  let g := hi + 1 - lo
  if s.groupSummed seg lo hi then
    match runCodes codes seg lo hi with
    | some l =>
      let t := sumI l
      let m := divRnd t g
      { val := { v.shows (floorDiv (t + (c - lo : Nat)) g) with invalid := true }
        bounds := some (m - mvCodes (s.par .OW_MARGIN), m + mvCodes (s.par .OW_MARGIN)) }
    | none => { val := { v with invalid := true, stale := true } }
  else { val := { v with invalid := true, valid := false }, lone := true }

/-- Beyond every threshold (R144, R195, R299). -/
def farOut : Int := 1000000000000

/-- What a value enters the level functions as: its code, or beyond every threshold by its sign when OVL (R144, R299). -/
def Val.level (v : Val) : Int := if v.ovl then (if v.code < 0 then -farOut else farOut) else v.code

/-- A cell beside a pulled pin: half the pair's sum, or the value of beat b for a single cell (R184), while its converter has not
failed (R142). -/
def State.viewHeld (s : State) (codes : List (Option CellCode)) (seg c j : Nat) (old v : Val) : CellView :=
  match s.pinKind seg j with
  | some .interior =>
    match runCodes codes seg j (j + 1) with
    | some l =>
      let t := sumI l
      { val := v.shows (floorDiv (t + (c - j : Nat)) 2), held := some (divRnd t 2) }
    | none => { val := v }
  | some _ =>
    let ok := old.valid && !s.meas.failCell.contains (24 * seg + c)
    { val := { old with valid := ok, stale := true }, held := if ok then some old.level else none }
  | none => { val := v }

/-- How a channel shows and judges cell n (1 to 96) in this beat, from the primary values it receives (R22, R172, R184,
R193-R195, R296). DESIGN CHOICE (log entry 95): where a marked cell stands beside a pulled pin, it stays in its marked group and its
unmarked neighbour shows half of the pair's measured sum. -/
def State.cellView (s : State) (ch : Ch) (n : Nat) : CellView :=
  let seg := segOf n
  let c := n - 24 * seg
  let old := s.cellOf ch n
  let codes := s.codesOf ch
  let v := old.ofCell (s.cellPop n) (s.meas.failCell.contains n) (codes[n - 1]?.getD none)
  if !s.cellPop n then { val := v }
  else if s.cellMarked seg c then s.viewMarked codes seg c v
  else match s.holdPin seg with
    | some j => if c = j ∨ c = j + 1 then s.viewHeld codes seg c j old v else { val := v }
    | none => { val := v }

/-- The cell has a value of this beat for the accounting: a measured one, or one that stands for it (R184, R194, R195). -/
def CellView.now (x : CellView) : Bool := x.held.isSome || (!x.val.stale && (x.val.valid || x.lone))

/-- Every populated cell outside the list has a value in this beat, and their codes' sum (R190, R195). -/
def sumOthers (views : List CellView) (skip : List Nat) : Option Int :=
  (indexed views).foldl
    (fun acc x => match acc with
      | none => none
      | some t =>
        if skip.contains (x.1 + 1) || x.2.val.unpop then some t
        else if (x.2.val.valid || x.2.lone) && (!x.2.val.stale || x.2.held.isSome) then some (t + x.2.val.code) else none)
    (some 0)

/-- What another unit contributes to the stack sum in a channel: its cell sum; in channel B, which judges on its own inputs, the sum of
its check values, where it came under the channel-B CRC (R190, R296, R405, R408; log entry 64). -/
def UnitS.sumIn (u : UnitS) (ch : Ch) : Option Int :=
  match ch with
  | .a => if u.complete then some u.cellSum else none
  | .b => if u.freshB then some u.chkSum else none

/-- Cell sums of the other expected units of the string; none when one has no complete values (R190). -/
def State.unitsSum (s : State) (ch : Ch) : Option Int :=
  s.ring.roster.foldl
    (fun acc u => match acc with
      | none => none
      | some t => if u.addr = s.addr ∨ !u.expect then some t else (u.sumIn ch).map (t + ·))
    (some 0)

/-- Cells of the group of cell n. -/
def State.groupOf (s : State) (n : Nat) : List Nat :=
  let seg := segOf n
  let c := n - 24 * seg
  (List.range (s.groupHi seg 24 c + 1 - s.groupLo seg c)).map fun i => 24 * seg + s.groupLo seg c + i

/-- VSTK as a channel takes it in this beat, in cell codes; none while it has no value of the beat (R190, R195). -/
def State.stackCodes (s : State) (ch : Ch) : Option Int := if (s.hvOf ch 0).now then some (80 * (s.hvOf ch 0).code) else none

/-- The bounds of R195 about the mean of a group of g cells whose sum is x. -/
def State.stackBounds (s : State) (x : Int) (g : Nat) : Int × Int :=
  let w := mvCodes (s.par .OW_MARGIN + s.par .SUM_TOL)
  (divRnd x g - w, divRnd x g + w)

/-- Bounds of a lone cell or an outer-open group of this unit from the stack; none when they cannot be formed (R195). -/
def State.loneBounds (s : State) (ch : Ch) (views : List CellView) (n : Nat) : Option (Int × Int) :=
  let g := s.groupOf n
  match s.stackCodes ch, sumOthers views g, s.unitsSum ch with
  | some v, some a, some b => some (s.stackBounds (v - a - b) g.length)
  | _, _, _ => none

/-- This unit judges its lone cells: it measures VSTK, or no other unit of the string could (R195; log entry 62). -/
def State.judgesLone (s : State) : Bool := s.hvPop 0 || !s.multiUnit

/-- The cells of the beat in a channel: bounds, held values, cells beyond both thresholds (R184, R193-R195). A beat without a
cell window keeps the bounds of a marked cell, because its held value is judged as before (R299). -/
def State.chView (s : State) (ch : Ch) (old : ChView) (views : List CellView) : ChView :=
  { bounds := (indexed views).map fun x =>
      if x.2.val.invalid && !s.meas.cellWin then old.bounds[x.1]?.getD none
      else if x.2.lone then s.loneBounds ch views (x.1 + 1) else x.2.bounds
    held := views.map (·.held)
    beyond := (indexed views).map fun x =>
      if x.2.val.invalid && !s.meas.cellWin then old.beyond[x.1]?.getD false
      else x.2.lone && s.judgesLone && (s.loneBounds ch views (x.1 + 1)).isNone }

/-- The shown cells, bounds and held values of the beat in channel A (R172, R184, R193-R195). -/
def State.formA (s : State) : State :=
  let a := (List.range 96).map fun i => s.cellView .a (i + 1)
  { s with
    meas := { s.meas with
      shown := { s.meas.shown with cell := a.map (·.val) }
      cellHas := if s.chg.slow && !s.meas.cellWin then s.meas.cellHas else a.map CellView.now }
    integ := { s.integ with viewA := s.chView .a s.integ.viewA a } }

/-- The cells, bounds and held values of the beat in channel B (R22, R296). -/
def State.formB (s : State) : State :=
  let b := (List.range 96).map fun i => s.cellView .b (i + 1)
  { s with
    meas := { s.meas with cellB := b.map (·.val) }
    integ := { s.integ with viewB := s.chView .b s.integ.viewB b } }

/-- Both channels form their cells, each while its cores execute (R22, R29, R296). -/
def State.formCells (s : State) : State :=
  let t := s.dataA State.formA
  if t.works .b then t.formB else t

/-- The cells as a channel sees them. -/
def State.view (s : State) : Ch → ChView
  | .a => s.integ.viewA
  | .b => s.integ.viewB

/-! Marked cells of the other units -/

/-- A value continues a group of marked cells that began with value f: group members show codes that differ by at most one and
do not fall (R194; log entry 63). -/
def Val.joins (f v : Val) : Bool :=
  f.invalid && v.invalid && f.valid == v.valid && (!v.valid || decide (f.code ≤ v.code ∧ v.code ≤ f.code + 1))

/-- The groups of marked cells in a list of numbered values, lowest first; a segment's end ends a group (R193). -/
def markedRuns : List (Nat × Val) → List (List (Nat × Val))
  | [] => []
  | x :: l =>
    if !x.2.invalid then markedRuns l
    else match markedRuns l with
      | (y :: r) :: rest =>
        if y.1 == x.1 + 1 && x.1 % 24 != 0 && ((y :: r).all fun z => x.2.joins z.2) then (x :: y :: r) :: rest
        else [x] :: (y :: r) :: rest
      | rest => [x] :: rest

/-- The groups of marked cells of another unit, from a cell set that still counts (R193, R403). -/
def State.unitRuns (s : State) (u : UnitS) : List (List (Nat × Val)) :=
  if s.divUnit u.addr ≤ u.setAge then [] else markedRuns ((indexed u.cells).map fun x => (x.1 + 1, x.2))

/-- Bounds of a group of another unit: by its sum while it stays VALID (R194), from this unit's stack value otherwise (R195). -/
def State.runBounds (s : State) (ch : Ch) (r : List (Nat × Val)) : Option (Int × Int) :=
  let t := sumI (r.map (·.2.code))
  if r.all fun x => x.2.valid then
    let m := divRnd t r.length
    some (m - mvCodes (s.par .OW_MARGIN), m + mvCodes (s.par .OW_MARGIN))
  else
    let views := (List.range 96).map fun i =>
      let v := s.cellOf ch (i + 1)
      ({ val := v, held := (s.view ch).held[i]?.getD none, lone := v.invalid && !v.valid && !v.stale } : CellView)
    match s.stackCodes ch, sumOthers views [], s.unitsSum ch with
    | some v, some a, some b => some (s.stackBounds (v - a - (b - t)) r.length)
    | _, _, _ => none

/-- A cell of another unit that no group sum bounds, which the unit that measures VSTK judges (R195). -/
structure RemoteCell where
  unit : UAddr
  cell : Nat
  /-- none: beyond both trip thresholds -/
  bounds : Option (Int × Int)
  deriving DecidableEq, Repr

/-- Every such cell of the string (R195). -/
def State.remoteLone (s : State) (ch : Ch) : List RemoteCell :=
  if !s.hvPop 0 then []
  else s.otherUnits.flatMap fun u =>
    ((s.unitRuns u).filter fun r => !(r.all fun x => x.2.valid)).flatMap fun r =>
      r.map fun x => ({ unit := u.addr, cell := x.1, bounds := s.runBounds ch r } : RemoteCell)

/-- Mean of the other VALID populated cells of a segment and their count (R187). -/
def State.segMean (s : State) (seg : Nat) (skip : List Nat) : Int × Nat :=
  let l := ((List.range 24).map (· + 1)).filterMap fun c =>
    if skip.contains c || !s.segPop seg c || !(s.cell (24 * seg + c)).valid then none
    else (s.meas.codes[24 * seg + c - 1]?.getD none).map (·.code)
  (if l.isEmpty then 0 else divRnd (sumI l) l.length, l.length)

/-- The signature of an open interior pin in this beat; none when a value is missing (R187). -/
def State.signature (s : State) (seg j : Nat) : Option Bool :=
  match s.meas.codes[24 * seg + j - 1]?.getD none, s.meas.codes[24 * seg + j]?.getD none with
  | some a, some b =>
    let m := s.segMean seg [j, j + 1]
    let d1 := a.code - m.1
    let d2 := b.code - m.1
    let dev := mvCodes (s.par .OW_DEV)
    some (decide (4 ≤ m.2) && decide ((d1 < 0 ∧ 0 < d2) ∨ (d2 < 0 ∧ 0 < d1)) && decide (dev ≤ d1.natAbs) &&
      decide (dev ≤ d2.natAbs) && decide ((a.code + b.code - 2 * m.1).natAbs < dev))
  | _, _ => none

/-- Counts of beats with and without the signature (R187, R188). DESIGN CHOICE (log entry 86): the manual does not say what a
beat does in which a cell of the pair has no value; here it neither counts nor resets. -/
def PinS.sense (p : PinS) : Option Bool → PinS
  | none => p
  | some true => { p with sign := p.sign + 1, absent := 0 }
  | some false => { p with sign := 0, absent := incSat 10 p.absent, barred := p.barred && decide (incSat 10 p.absent < 10) }

/-- The evaluation senses every interior pin (R187). -/
def State.senseAll (s : State) : State :=
  { s with integ := { s.integ with
    seg := (indexed s.integ.seg).map fun x =>
      { x.2 with pins := (indexed x.2.pins).map fun p =>
          if s.pinKind x.1 p.1 = some .interior then p.2.sense (s.signature x.1 p.1) else p.2 } } }

/-- A pin becomes suspect (R187, R188). -/
def State.suspectDue (s : State) (seg j : Nat) : Bool :=
  let p := s.pin seg j
  s.pinKind seg j == some .interior && decide (2 ≤ p.sign) && !p.suspect && !p.opn && !p.barred

/-- Suspicion: marked from the next boundary, with a targeted slot requested (R188). -/
def State.suspect (seg j : Nat) (s : State) : State :=
  s.setPin seg j fun p => { p with suspect := true, want := true, sign := 0 }

/-- The check comparison of a cell (R189): a fresh check code beside a primary code of the same beat. -/
def ChkVal.compare (x : ChkVal) (m : Option CellCode) (tol : Int) : ChkVal :=
  match m with
  | none => x
  | some c =>
    if tol < (x.code - c.code).natAbs then { x with overCnt := x.overCnt + 1, withinCnt := 0 }
    else { x with overCnt := 0, withinCnt := x.withinCnt + 1 }

/-- The fresh check codes of a channel beside the primary codes it receives (R22, R189). -/
def State.chkCompared (s : State) (ch : Ch) : List ChkVal :=
  (indexed (s.chkOf ch)).map fun x =>
    if s.works ch && (s.freshOf ch).contains (x.1 + 1) then
      x.2.compare ((s.codesOf ch)[x.1]?.getD none) (mvCodes (s.par .CHK_TOL))
    else x.2

/-- Two conversions agree in a channel, and none disagrees in the other (R189). -/
def chkAgree (a b : ChkVal) : Bool := (decide (2 ≤ a.withinCnt) || decide (2 ≤ b.withinCnt)) && a.overCnt == 0 && b.overCnt == 0

/-- The evaluation compares every fresh check code in both channels; two agreeing conversions clear CHK_DIFF (R22, R189). -/
def State.checkCompare (s : State) : State :=
  let a := s.chkCompared .a
  let b := s.chkCompared .b
  { s with meas := { s.meas with
      chkB := b
      shown := { s.meas.shown with
        chk := a
        cell := (indexed s.meas.shown.cell).map fun x =>
          { x.2 with chkDiff := x.2.chkDiff && !chkAgree (a[x.1]?.getD {}) (b[x.1]?.getD {}) } } } }

/-- A cell of the segment carries CHK_DIFF (R541). -/
def State.segDiff (s : State) (seg : Nat) : Bool := (List.range 24).any fun i => (s.cell (24 * seg + i + 1)).chkDiff

/-- FS32-35 follow CHK_DIFF (R541). -/
def State.checkFollow (s : State) : State :=
  runAll (fun seg t => if (t.flt.src[32 + seg]?.getD {}).cond && !t.segDiff seg then t.endCond (32 + seg) else t)
    [0, 1, 2, 3] s

/-- CHK_DIFF is due on a cell (R189). -/
def State.checkDue (s : State) (n : Nat) : Bool :=
  (decide (2 ≤ ((s.chkOf .a)[n - 1]?.getD {}).overCnt) || decide (2 ≤ ((s.chkOf .b)[n - 1]?.getD {}).overCnt)) &&
    !(s.cell n).chkDiff && s.cellPop n

/-- A targeted slot is requested for a pin (R188-R190). -/
def State.wantPin (seg j : Nat) (s : State) : State := s.setPin seg j fun p => { p with want := true }

/-- CHK_DIFF sets on a cell: the source is raised, targeted slots for its two pins are requested (R189). -/
def State.checkDiff (n : Nat) (s : State) : State :=
  let seg := segOf n
  let c := n - 24 * seg
  let t := { s with meas := { s.meas with shown := { s.meas.shown with
    cell := s.meas.shown.cell.modify (n - 1) fun v => { v with chkDiff := true } } } }
  ((t.wantPin seg (c - 1)).wantPin seg c).raiseCond (32 + seg) 0

/-- The stack-sum difference of this beat in a channel, from its own VSTK and the primary values it receives; none when it is not
formed (R190, R296). -/
def State.sumDelta (s : State) (ch : Ch) : Option Int :=
  let views := (List.range 96).map fun i =>
    let v := s.cellOf ch (i + 1)
    ({ val := v, held := (s.view ch).held[i]?.getD none, lone := v.invalid && !v.valid && !v.stale } : CellView)
  if s.hvPop 0 && (s.hvOf ch 0).now then
    match sumOthers views [], s.unitsSum ch with
    | some a, some b => some (80 * (s.hvOf ch 0).code - a - b)
    | _, _ => none
  else none

/-- The stack-sum mismatch of a channel (R190, R296). -/
def IntegS.sumOf (x : IntegS) : Ch → SumS
  | .a => x.sumA
  | .b => x.sumB

/-- The stack-sum count of a beat with difference d (R190). -/
def SumS.count (x : SumS) (d : Option Int) (tol : Int) : SumS :=
  match d with
  | none => x
  | some d =>
    if tol < d.natAbs then { x with overs := incSat 10 x.overs, withins := 0 }
    else { x with overs := 0, withins := incSat 10 x.withins }

/-- The stack-sum count of the beat in both channels (R190, R296). -/
def State.sumCount (s : State) : State :=
  let tol := mvCodes (s.par .SUM_TOL)
  let next (ch : Ch) : SumS := if s.works ch then (s.integ.sumOf ch).count (s.sumDelta ch) tol else s.integ.sumOf ch
  { s with integ := { s.integ with sumA := next .a, sumB := next .b } }

/-- The mismatch of a channel sets or releases (R190). -/
def SumS.due (x : SumS) : Bool := (x.overs == 10 && !x.mis) || (x.withins == 10 && x.mis)

/-- The mismatch of some channel sets or releases (R190). -/
def State.sumDue (s : State) : Bool := s.integ.sumA.due || s.integ.sumB.due

/-- The first and the last tested pin of a segment. -/
def State.endPins (s : State) (seg : Nat) : List Nat :=
  (List.range 25).filter fun j => s.pinKind seg j == some .lowest || s.pinKind seg j == some .highest

/-- Targeted slots for the end pins of every segment of this unit (R190). -/
def State.wantEnds (s : State) : State :=
  runAll (fun seg u => runAll (State.wantPin seg) (s.endPins seg) u) [0, 1, 2, 3] s

/-- The mismatch changes in the channels in which it is due; when channel A's sets, the end pins of every segment get targeted slots,
because only channel A commands open-wire sources (R22, R190). -/
def State.sumChange (s : State) : State :=
  let flip (x : SumS) : SumS := if x.due then { x with mis := !x.mis } else x
  let t := { s with integ := { s.integ with sumA := flip s.integ.sumA, sumB := flip s.integ.sumB } }
  if s.integ.sumA.due && !s.integ.sumA.mis then t.wantEnds else t

/-- Another unit's condition word carries the stack-sum mismatch, or no longer does: its onset requests the end-pin slots of
this unit too (R190, R409; log entry 64). -/
def State.sumHeard (u : UAddr) (mis : Bool) (s : State) : State :=
  let was := s.integ.sumSeen.contains u
  let t := { s with integ := { s.integ with
    sumSeen := if mis then (if was then s.integ.sumSeen else s.integ.sumSeen ++ [u]) else s.integ.sumSeen.erase u } }
  if mis && !was then t.wantEnds else t

/-- OW_GRACE has expired with the pin open (R196). -/
def State.graceDue (s : State) (seg j : Nat) : Bool :=
  let p := s.pin seg j
  p.opn && !p.expired && decide (beatsOfSec (s.nat .OW_GRACE) ≤ p.graceBeats)

/-- The grace time has expired: OW_REACT applies from this evaluation (R196). -/
def State.graceExpire (seg j : Nat) (s : State) : State := s.setPin seg j fun p => { p with expired := true }

/-- Some open pin's grace has expired (R196). -/
def State.wireExpired (s : State) : Bool := s.integ.seg.any fun x => x.pins.any fun p => p.opn && p.expired

/-- A pin clears at this boundary (R197). -/
def State.wireClearDue (s : State) (seg j : Nat) : Bool := (s.pin seg j).clearDue

/-- Some pin of the segment is OPEN. -/
def State.segOpen (s : State) (seg : Nat) : Bool := (s.owSeg seg).pins.any fun p => p.opn

/-- The pin clears: its cells lose INVALID, the grace timer stops, with a record (R197). -/
def State.wireClear (seg j : Nat) (s : State) : State :=
  let t := (s.setPin seg j fun p =>
    { p with opn := false, intactRun := 0, clearDue := false, graceBeats := 0, expired := false }).wireEvent 2 seg j
  if t.segOpen seg then t else t.endCond (36 + seg)

/-- OPEN_WIRE_CLEAR (R197). -/
def execOpenWireClear (seg : Fin 4) (pin : Fin 25) (s : State) : Host.Outcome State Fault Refusal :=
  .next (if s.wireClearDue seg pin then s.wireClear seg pin else s)

/-- A segment without open-wire work: its source is off (R181). -/
def OwSeg.idle (x : OwSeg) : OwSeg := { x with pass := none, again := [], due := none, slot := none, pull := none }

/-- A boundary on one segment: the pass, the slot and the grace times advance; the source follows the slot, unless channel B inhibits
it (R23), its die is held in reset, or the link that carries the selection is (R19; log entry 96). -/
def State.owSegNext (s : State) (seg : Nat) (x : OwSeg) : OwSeg :=
  let y := x.tick
  { y with
    pull := if (s.bal.inhB[seg]?.getD false) || s.segHeld seg then none else if s.linkUp seg .a then y.pull else x.pull
    pins := y.pins.map fun p => if p.opn then { p with graceBeats := p.graceBeats + 1 } else p }

/-- A boundary: open-wire work goes on while channel A's cores execute, and ends with them (R22, R23, R181, R196). -/
def State.owBoundary (s : State) : State :=
  { s with integ := { s.integ with
    seg := (indexed s.integ.seg).map fun x => if s.works .a then s.owSegNext x.1 x.2 else x.2.idle } }

/-- LINK_RETRY (R205): a resend that succeeds is transient; one that fails makes the item missing and raises the link. DESIGN CHOICE
(log entry 97): the values of a window and the samples of a sub-beat are pooled by WINDOW_CLOSE and SUB_BEAT, so the failed resend of
one of their items stands before that command in the queue. The word that an injection on this link inverted is detected here: the
injection passes with the resend, and counts only with FULL (R376, R377). -/
def execLinkRetry (seg : Fin 4) (ch : Ch) (item : LinkItem) (ok : Bool) (s : State) : Host.Outcome State Fault Refusal :=
  let c := match ch with | .a => 0 | .b => 1
  let fs := 16 + 2 * seg.val + c
  if ok then
    let t := { s with integ := { s.integ with linkRetries := s.integ.linkRetries.modify (2 * seg.val + c) (· + 1) } }
    if s.injects (8 + 2 * seg.val + c) then .next (State.injResult true (if s.injFull then t.tally 28 1 else s))
    else .next ((t.tally 28 1).raiseTransient fs 0)
  else
    let t := { s with meas := match item with
      | .window w => { s.meas with dropped := s.meas.dropped ++ [(seg.val, ch, w.val)] }
      | .current second => { s.meas with lostCur := s.meas.lostCur ++ [(ch, second)] }
      | .cell n => { s.meas with lostCell := s.meas.lostCell ++ [(ch, n.val + 1)] } }
    if s.injects (8 + 2 * seg.val + c) then .next (t.injResult false) else .next (t.raise fs 0)

end Sys2Proof.Machine
end

