-- ==== Sys2Proof/Machine/Thermal.lean ====
section
/-! DEFINITION. Thermal management: sensor groups, states, period, effects and excursions (chapter 15). -/

namespace Sys2Proof.Machine

/-- Die sensors of a group, in the order of the DIE_T registers (R379). -/
def groupDies (g : Nat) : List Nat := if g < 4 then [g] else if g = 4 then [4, 5, 7] else [6]

/-- A die sensor is VALID while it reads in range (R379). -/
def dieValid (t : Int) : Bool := decide (-5500 ≤ t ∧ t ≤ 17500)

/-- VALID sensors of a group with their readings: thermistors as 0 to 31, dies as 32 to 39 (R379, R389). -/
def State.sensors (s : State) (g : Nat) : List (Nat × Int) :=
  ((List.range 32).filterMap fun i =>
    let t := s.meas.shown.thm[i]?.getD {}
    if decide (g < 4) && s.thmPop (i + 1) && s.nat .GRP (i + 1) == g && t.valid then some (i, t.temp) else none) ++
  (groupDies g).filterMap fun d =>
    let t := s.meas.shown.die[d]?.getD 0
    if dieValid t then some (32 + d, t) else none

/-- The group temperature: the highest reading, of the lowest sensor that reads it (R379). -/
def State.groupTemp (s : State) (g : Nat) : Option (Nat × Int) :=
  bestBy (fun a b => decide (b.2 < a.2)) (s.sensors g)

/-- A level flag of R382. -/
def levelFlag (was : Bool) (t l hys : Int) : Bool := if l ≤ t then true else if t < l - hys then false else was

/-- State code of a group's flags (R382). -/
def groupState (tw tt ts : Bool) : Nat := if ts then 3 else if tt then 2 else if tw then 1 else 0

/-- A group after a thermal evaluation (R380, R382). -/
def GrpS.eval (x : GrpS) (t : Option (Nat × Int)) (tw tt ts hys : Int) : GrpS :=
  match t with
  | none => { x with noSens := true, state := 2, temp := -32768 }
  | some (k, v) =>
    let a := levelFlag x.tw v tw hys
    let b := levelFlag x.tt v tt hys
    let c := levelFlag x.ts v ts hys
    { x with tw := a, tt := b, ts := c, state := groupState a b c, noSens := false, sens := k, temp := v }

/-- Group g after this evaluation. -/
def State.groupNext (s : State) (g : Nat) (x : GrpS) : GrpS :=
  x.eval (s.groupTemp g) (s.par .TW_g g) (s.par .TT_g g) (s.par .TS_g g) (s.par .HYS_g g)

/-- A temperature within 5 K of a set or release level of the group (R384). -/
def State.nearLevel (s : State) (g : Nat) : Bool :=
  match s.groupTemp g with
  | none => false
  | some (_, t) => [s.par .TW_g g, s.par .TT_g g, s.par .TS_g g].any fun l =>
      decide ((t - l).natAbs ≤ 500) || decide ((t - (l - s.par .HYS_g g)).natAbs ≤ 500)

/-- The thermal function runs in this beat (R383). -/
def State.thermalDue (s : State) : Bool :=
  decide (s.beat.num.toNat % 10 = 9) && (s.thm.fast || decide (s.beat.num.toNat % 100 = 99))

/-- The groups after the evaluation, the period and the count of changes (R382, R384, R389). -/
def State.thermalGroups (s : State) : State :=
  let g' := (indexed s.thm.grp).map fun x => s.groupNext x.1 x.2
  { s with thm := { s.thm with
      grp := g'
      fast := (List.range 6).any s.nearLevel
      chg := min 255 (s.thm.chg + (positions (fun p : GrpS × GrpS => p.1.state != p.2.state) (s.thm.grp.zip g')).length) } }

/-- The record and the raises of one group's change (R385, R386): old is the state before the evaluation. -/
def State.groupChange (g : Nat) (old : GrpS) (s : State) : State :=
  let x := s.thm.grp[g]?.getD {}
  if x.state = old.state then s
  else
    let s1 := if x.state = 0 then s
      else s.event .control 0x600 [nword g, place old.state 8 8 ||| place x.state 0 8, sword x.temp, nword x.sens]
    let s2 := if (x.state = 1 ∨ x.state = 2) ∧ (old.state = 0 ∨ old.state = 3) then s1.raiseCond 67 0 else s1
    if x.state = 3 then s2.raiseCond 68 0 else s2

/-- An excursion that is out of rating is in progress (R388). -/
def ThmS.oorNow (t : ThmS) : Bool := t.exc.isSome && t.oorThis

/-- FS67 and FS68 end when no group is in their states, FS67 not while an excursion out of rating lasts (R365, R385, R388). -/
def State.thermalEnd (s : State) : State :=
  let s1 := if s.thm.oorNow || s.thm.grp.any fun x => x.state == 1 || x.state == 2 then s else s.endCond 67
  if s1.thm.grp.any fun x => x.state == 3 then s1 else s1.endCond 68

/-- LX reading (R387). -/
def State.lx (s : State) : Int := s.meas.shown.die[6]?.getD 0

/-- Excursion start and end, with their records (R387). -/
def State.excursion (s : State) : State :=
  match s.thm.exc with
  | none =>
    if 8500 < s.lx then
      State.event .control 0x601 [sword s.lx]
        { s with thm := { s.thm with exc := some (0, s.lx), excCnt := incSat 65535 s.thm.excCnt, excLen := 0,
                                      oorThis := false } }
    else s
  | some (n, hi) =>
    if s.lx ≤ 8200 then
      State.event .control 0x602 [nword n, sword hi]
        { s with thm := { s.thm with exc := none, excLen := n, sinceEnd := some 0 } }
    else { s with thm := { s.thm with exc := some (n, max hi s.lx) } }

/-- The thermal evaluation: groups, records and sources, excursion (R383-R387). -/
def State.thermal (s : State) : State :=
  let old := s.thm.grp
  ((runAll (fun x t => State.groupChange x.1 x.2 t) (indexed old) s.thermalGroups).excursion).thermalEnd

/-- Why an excursion is out of rating: 1 too long, 2 too soon; an NM96-TA permits none (R388). -/
def State.oorCause (s : State) : Option Nat :=
  match s.thm.exc with
  | none => none
  | some (n, _) =>
    if s.thm.oorThis then none
    else if s.sys.order = 0 ∨ 600000 < n then some 1
    else if s.thm.sinceEnd.any fun k => decide (k < 3600000) then some 2
    else none

/-- The excursion becomes out of rating: FS67, present while it lasts, OOR and a record (R365, R388). -/
def State.outOfRating (s : State) : State :=
  match s.oorCause with
  | none => s
  | some c =>
    (State.event .control 0x603 [nword c] { s with thm := { s.thm with oor := true, oorThis := true } }).raiseCond 67 0

/-- Thermal state at a boundary: the states take effect on switches, excursion times advance (R386, R388). -/
def State.thermalBoundary (s : State) : State :=
  { s with thm := { s.thm with
      grp := s.thm.grp.map fun x => { x with eff := x.state }
      exc := s.thm.exc.map fun x => (x.1 + 1, x.2)
      excLen := if s.thm.exc.isSome then s.thm.excLen + 1 else s.thm.excLen
      sinceEnd := if s.thm.exc.isSome then s.thm.sinceEnd else s.thm.sinceEnd.map fun k => k + 1 } }

/-- Worst state of any group, and of the segment groups (R385). -/
def ThmS.worst (t : ThmS) : Nat := maxN (t.grp.map (·.state))
/-- Worst state of G0 to G3. -/
def ThmS.worstSeg (t : ThmS) : Nat := maxN ((t.grp.take 4).map (·.state))

/-- The state of a group in force since the latest boundary (R386). -/
def State.grpEff (s : State) (g : Nat) : Nat := (s.thm.grp[g]?.getD {}).eff

/-- Shutdown in force on a segment: its own group, or G4 or G5 (R385). -/
def State.segShut (s : State) (seg : Nat) : Bool :=
  s.grpEff seg == 3 || s.grpEff 4 == 3 || s.grpEff 5 == 3

/-- The thermal duty cap of a segment (R216, R385). -/
def State.dutyCap (s : State) (seg : Nat) : Nat :=
  if s.grpEff seg == 2 then s.nat .BAL_THR_DUTY else 16

end Sys2Proof.Machine
end

