-- ==== Sys2Proof/Machine/Balance.lean ====
section
/-! DEFINITION. Balancing, gating, switch checks, excitation runs and wire calibration (chapter 07, R198-R203). -/

namespace Sys2Proof.Machine

/-- The switch of cell n. -/
def State.sw (s : State) (n : Nat) : SwS := s.bal.sw[n - 1]?.getD {}

/-- Change the switch of cell n. -/
def State.setSw (n : Nat) (f : SwS → SwS) (s : State) : State :=
  { s with bal := { s.bal with sw := s.bal.sw.modify (n - 1) f } }

/-- The power state is Active or Idle (R492). -/
def State.upAndRunning (s : State) : Bool :=
  match s.pwr.state with
  | .active | .idle => true
  | _ => false

/-- The control state of the string: this unit's own where it is the active Master or unlisted, else that which the latest
Master frame carries (R303, R406). -/
def State.strCtl (s : State) : Nat := if s.master || s.ring.masterEpoch == 0 then s.ctl.code else s.ring.masterCtl

/-- The unit falls silent and enters Dormant after ring silence (R221, R418). -/
def State.fallsSilent (s : State) : Bool := s.pwr.entry.any fun e => e.2 == 3

/-- Rows 1 to 4 of R210 on a segment as a whole: Safe is control state 5, Run-down 4. A die held in reset has its switches open, and
ring silence opens them (R221, R372). -/
def State.segBlocked (s : State) (seg : Nat) : Bool :=
  (s.bal.inhB[seg]?.getD false) || s.segHeld seg || s.fallsSilent || !s.upAndRunning || s.strCtl == 5 || s.strCtl == 4 || s.segShut seg ||
    (s.owSeg seg).pass.isSome || !s.runs .a

/-- A targeted slot runs on a pin beside local cell c (R188, R210 row 4). -/
def State.besideTargeted (s : State) (seg c : Nat) : Bool :=
  match (s.owSeg seg).slot with
  | some t => t.targeted && (t.pin == c || t.pin + 1 == c)
  | none => false

/-- Rows 1 to 4 of R210 for cell n. -/
def State.cellBlocked (s : State) (n : Nat) : Bool :=
  s.segBlocked (segOf n) || (s.sw n).lock || s.besideTargeted (segOf n) (n - 24 * segOf n)

/-- Cell n is under excitation (R217). -/
def State.excited (s : State) (n : Nat) : Bool := s.bal.run.any fun r => r.cells.contains n

/-- The calibration closes the switch of cell n in this beat: beats 1 to 4 of its position (R202, R220). -/
def State.calOn (s : State) (n : Nat) : Bool :=
  s.bal.cal.any fun c => c.pos == n - 24 * segOf n && decide (1 ≤ c.beat) && !c.suspended && s.cellPop n

/-- Row 7 of R210: the cell may not balance. -/
def State.cellUnfit (s : State) (n : Nat) : Bool :=
  let v := s.cell n
  !s.cellPop n || v.invalid || !v.valid || decide (v.code < s.par .BAL_VMIN)

/-- A bit of the host's request registers (R213). -/
def State.hostReq (s : State) (n : Nat) : Bool := bit (s.bal.req[(n - 1) / 32]?.getD 0) ((n - 1) % 32)

/-- Balancing is wanted by the source selected (R211). -/
def State.wanted (s : State) (n : Nat) : Bool :=
  match s.bal.src.toNat with
  | 1 => (s.sw n).want
  | 2 => s.hostReq n
  | _ => false

/-- The command of R210 to the switch of cell n: duty pattern, excitation pattern, calibration level. While the link that carries the
commands is held in reset, the die keeps the last one (R19; log entry 96); what opens a switch at the die itself acts all the same. -/
def State.swCommand (s : State) (n : Nat) (x : SwS) : SwS :=
  if (s.bal.inhB[segOf n]?.getD false) || s.segHeld (segOf n) || x.lock then { x with duty := false, exc := false, level := false }
  else if !s.linkUp (segOf n) .a then x
  else if s.cellBlocked n then { x with duty := false, exc := false, level := false }
  else if s.bal.cal.isSome then { x with duty := false, exc := false, level := s.calOn n }
  else if s.excited n then { x with duty := false, exc := true, level := s.bal.run.any (·.level) }
  else { x with duty := !s.cellUnfit n && s.wanted n, exc := false, level := false }

/-- D of R214 on a segment: the smaller of DUTY and the thermal cap. -/
def State.dutyOn (s : State) (seg : Nat) : Nat := min (min s.bal.duty.toNat 16) (s.dutyCap seg)

/-- A wanted cell conducts in sub-beat j when (j - n) mod 16 < D (R214). -/
def dutyPattern (n j d : Nat) : Bool := decide ((j + 16 * n - n) % 16 < d)

/-- The switch of cell n is commanded to conduct in sub-beat j, gating apart (R210, R214, R217). -/
def State.swAsked (s : State) (n j : Nat) : Bool :=
  (s.sw n).level || ((s.sw n).duty && dutyPattern n j (s.dutyOn (segOf n)))

/-- The switch of cell n conducts in sub-beat j, gating apart: commanded on, and not opened by its die (R209, R210). -/
def State.swPattern (s : State) (n j : Nat) : Bool := !(s.sw n).lock && !(s.sw n).cut && s.swAsked n j

/-- The excitation pattern of switch n changed in this sub-beat (R217). -/
def State.swToggled (s : State) (n : Nat) : Bool := s.bal.tog && (s.sw n).exc

/-- Gating applies to the switch of cell n: gated mode, and neither excitation nor calibration (R198, R201, R202). -/
def State.gates (s : State) (n : Nat) : Bool := !s.continuous (segOf n) && !(s.sw n).level

/-- The gated switches stand forced open for some window (R198, R199). -/
def BalS.gated (b : BalS) : Bool := b.gate.any id || b.gateNext.any id

/-- The switch of cell n is commanded on for the whole of sub-beat j (R209, R215). -/
def State.swFull (s : State) (n j : Nat) : Bool :=
  s.swPattern n j && !s.swToggled n && !(s.gates n && (s.bal.gated || s.bal.gateSub))

/-- The switch conducts for some of sub-beat j: it is not gated from the start of the sub-beat to its end. -/
def State.swSome (s : State) (n j : Nat) : Bool :=
  (s.swPattern n j && !(s.gates n && s.bal.gated && s.bal.gateSub)) || s.swToggled n

/-- The switch of cell n is commanded off for the whole of sub-beat j (R209, R215). -/
def State.swOff (s : State) (n j : Nat) : Bool :=
  (!s.swAsked n j || (s.gates n && s.bal.gated && s.bal.gateSub)) && !s.swToggled n

/-- BALANCING_SWITCH_COMMAND, within BEAT_BOUNDARY (R210): every command of the beat, with the last beat's figures (R208,
R209, R222). -/
def State.switchBoundary (s : State) : State :=
  { s with bal := { s.bal with
      sw := (indexed s.bal.sw).map fun x =>
        let y := { x.2 with
          on := x.2.ran, ran := false
          ua := divRnd x.2.sum 16, sum := 0
          cutRun := if x.2.cut then x.2.cutRun + 1 else 0
          cut := false
          noRun := if x.2.sawNo then (if x.2.noRun < 4 then x.2.noRun + 1 else x.2.noRun) else 0
          offRun := if x.2.sawOff then (if x.2.offRun < 2 then x.2.offRun + 1 else x.2.offRun) else 0
          sawNo := false, sawOff := false }
        s.swCommand (x.1 + 1) y } }

/-- Every switch takes its command for the beat (R210). -/
def State.swCommands (s : State) : State :=
  { s with bal := { s.bal with sw := (indexed s.bal.sw).map fun x => s.swCommand (x.1 + 1) x.2 } }

/-- Currents of one sub-beat j on the switches (R208, R209). -/
def State.switchSubBeat (ib : List Int) (j : Nat) (s : State) : State :=
  { s.tally 30 ((List.range 96).filter fun i => s.swSome (i + 1) j).length with bal := { s.bal with
      gateSub := s.bal.gated
      tog := false
      sw := (indexed s.bal.sw).map fun x =>
        let n := x.1 + 1
        let i := ib[x.1]?.getD 0
        let v := s.cell n
        { x.2 with
          sum := x.2.sum + i
          ran := x.2.ran || s.swSome n j || (s.swOff n j && decide (5000 < i))
          sawNo := x.2.sawNo || (s.swFull n j && v.valid && decide (25600 ≤ v.code) && decide (i < 5000))
          sawOff := x.2.sawOff || (s.swOff n j && decide (5000 < i)) } } }

/-- The die opens a switch above 320 mA for the rest of the beat; in the second consecutive beat it locks off and the
source is raised (R209). -/
def State.overcurrent (n : Nat) (s : State) : State :=
  let x := s.sw n
  if x.cut || x.lock then s
  else if 1 ≤ x.cutRun then (s.setSw n fun x => { x with cut := true, lock := true, ran := true }).raise (44 + segOf n) 0
  else s.setSw n fun x => { x with cut := true, ran := true }

/-- SWITCH_OVERCURRENT (R209). -/
def execSwitchOvercurrent (cell : Fin 96) (s : State) : Host.Outcome State Fault Refusal :=
  .next (s.overcurrent (cell.val + 1))

/-- SWFLT sets for a segment and the source is raised (R209). -/
def State.switchFault (n : Nat) (detail : Word) (s : State) : State :=
  State.raise (44 + segOf n) detail { s with bal := { s.bal with swFlt := s.bal.swFlt.set (segOf n) true } }

/-- Four consecutive beats commanded on without current; a run that has been reported counts 5 (R209). -/
def State.noCurrentDue (s : State) (n : Nat) : Bool := (s.sw n).noRun == 4

/-- The report of R209. -/
def State.noCurrent (n : Nat) (s : State) : State := (s.setSw n fun x => { x with noRun := 5 }).switchFault n 0

/-- SWITCH_NO_CURRENT (R209). -/
def execSwitchNoCurrent (cell : Fin 96) (s : State) : Host.Outcome State Fault Refusal :=
  .next (if s.noCurrentDue (cell.val + 1) then s.noCurrent (cell.val + 1) else s)

/-- Two consecutive beats conducting while commanded off; a run that has been reported counts 3 (R209). -/
def State.conductsDue (s : State) (n : Nat) : Bool := (s.sw n).offRun == 2

/-- The report of R209: the entry gives the cell. -/
def State.conducts (n : Nat) (s : State) : State := (s.setSw n fun x => { x with offRun := 3 }).switchFault n (nword n)

/-- SWITCH_CONDUCTS_OFF (R209). -/
def execSwitchConductsOff (cell : Fin 96) (s : State) : Host.Outcome State Fault Refusal :=
  .next (if s.conductsDue (cell.val + 1) then s.conducts (cell.val + 1) else s)

/-- Window w has the cell or check group and is in use (R198). -/
def State.winCellChk (s : State) (w : Nat) : Bool := s.winEn w && (s.winHas w 0 || s.winHas w 3)

/-- Cadence of the beat with number n, as decided so far (R267). -/
def State.slowAt (s : State) (n : Word) : Bool := ((s.chg.slowPend.find? fun p => p.1 == n).map (·.2)).getD s.chg.slow

/-- Cell and check windows are taken in the beat with these numbers (R181, R183, R268). -/
def State.takesAt (s : State) (n sbn : Word) : Bool :=
  !s.slowAt n || sbn.toNat % 64 == 0 || s.passRuns || s.passAt n

/-- The gate of window w serves this beat: the window is taken in it for its cells or checks and has not ended (R198). DESIGN CHOICE
(log entry 98): in slow cadence a window that is taken for its HV or current group only is not gated. -/
def State.gatesNow (s : State) (w : Nat) : Bool :=
  s.winCellChk w && s.cellsTaken && !(s.beat.wins[w]?.getD {}).rejected && !(s.beat.wins[w]?.getD {}).closed

/-- The gate of window w serves the next beat already: a taken static window starts below 50 µs (R198), or a mode-1 or mode-2 window is
enabled, for which the switches open at 950 µs of every beat (R199). -/
def State.gatesNext (s : State) (w : Nat) : Bool :=
  s.winCellChk w && (s.winMode w != 0 || (decide (s.winOfs w < 50) && s.takesAt (s.beat.num + 1) (s.sbn + 1)))

/-- The windows whose gates go with that of window w: all edge-mode windows are gated as one until the last has ended (R199). -/
def State.gateMates (s : State) (w v : Nat) : Bool := v == w || (s.winMode w == 2 && s.winMode v == 2 && s.winCellChk v)

/-- The gates of the windows that p selects close. -/
def BalS.gateSet (b : BalS) (p : Nat → Bool) : BalS := { b with gate := (indexed b.gate).map fun x => x.2 || p x.1 }

/-- The gates of the windows that p selects close for the next beat. -/
def BalS.gateSetNext (b : BalS) (p : Nat → Bool) : BalS :=
  { b with gateNext := (indexed b.gateNext).map fun x => x.2 || p x.1 }

/-- BALANCING_GATE (R198, R199): every gated switch opens before the window, in this beat or at the end of the beat before; the opening
at 950 µs of a window whose gate still stands for this beat serves the next one. -/
def execBalancingGate (w : Fin 4) (s : State) : Host.Outcome State Fault Refusal :=
  .next { s with bal :=
    if s.gatesNow w && !(s.bal.gate[w.val]?.getD false) then s.bal.gateSet fun v => s.gateMates w v && s.gatesNow v
    else if s.gatesNext w then s.bal.gateSetNext fun v => s.gateMates w v && s.gatesNext v
    else s.bal }

/-- The gate of a window opens when it has ended; the gates of other windows hold on (R198, R199). -/
def State.gateEnd (w : Nat) (s : State) : State := { s with bal := { s.bal with gate := s.bal.gate.set w false } }

/-- The gate of window w, closed in the beat before, holds on over the boundary: the window is taken in the new beat and starts
below 50 µs, or it is an edge-mode window (R198, R199). -/
def State.gateHolds (s : State) (w : Nat) : Bool :=
  let x := s.beat.wins[w]?.getD {}
  s.winCellChk w && s.takesAt s.beat.num s.sbn &&
    (s.winMode w == 2 || (x.placed && !x.rejected && decide (x.start < usTicks 50)))

/-- At a boundary the gates of the beat before hold on, or their switches close again (R198, R199). -/
def State.gateBoundary (s : State) : State :=
  let g := (indexed s.bal.gate).map fun x => (x.2 || (s.bal.gateNext[x.1]?.getD false)) && s.gateHolds x.1
  { s with bal := { s.bal with gateSub := g.any id, gate := g, gateNext := List.replicate 4 false } }

/-- bal_want of R212. -/
def State.balWant (s : State) (n : Nat) (was : Bool) : Bool :=
  let v := (s.cell n).code
  if 4 < s.bal.strAge then false
  else if v < s.par .BAL_VMIN then false
  else if was then decide (s.par .OFF_DELTA < v - s.bal.strMin)
  else decide (s.par .ON_DELTA ≤ v - s.bal.strMin)

/-- The evaluation judges every cell; in slow cadence between cell windows the last result holds (R212). -/
def State.balWantAll (s : State) : State :=
  { s with bal := { s.bal with
      sw := (indexed s.bal.sw).map fun x =>
        if s.chg.slow && !s.meas.cellWin && decide (s.bal.strAge ≤ 4) then x.2
        else { x.2 with want := s.balWant (x.1 + 1) x.2.want } } }

/-- The lowest shown code of this unit's VALID populated cells without INVALID (R212). -/
def State.ownMin (s : State) : Option Int :=
  minI (s.meas.shown.cell.filterMap fun v => if v.valid && !v.unpop && !v.invalid then some v.code else none)

/-- The host balancing requests have not been written for BAL_TMO beats; the timeout acts once for each such stretch (R213). -/
def State.balTimeoutDue (s : State) : Bool :=
  s.bal.src == 2 && decide (s.bal.tmo.toNat ≤ s.bal.reqAge) && !s.bal.reqDone

/-- The requests are cleared, TMO sets, and a record is written (R213). -/
def State.balTimeout (s : State) : State :=
  State.event .management 0x505 [] { s with bal := { s.bal with req := [0, 0, 0], tmoFlag := true, reqDone := true } }

/-- BAL_TIMEOUT (R213). -/
def execBalTimeout (s : State) : Host.Outcome State Fault Refusal :=
  .next (if s.balTimeoutDue then s.balTimeout else s)

/-! Wire calibration -/

/-- I1 in mA in the evaluated beat: this unit's own value, else the mean of the reference samples that the I1 unit sent;
none when there is no value (R202, R220, R255). -/
def State.i1Ma (s : State) : Option Int :=
  if s.curPop 0 then (if (s.cur 0).now then some (s.curMa 0 (s.cur 0).code) else none)
  else match s.imp.prevRef with
    | none => none
    | some l =>
      let xs := l.filterMap fun r => r.map (·.x)
      if xs.isEmpty || s.par .EST_R_SH = 0 then none
      else some (divRnd (sumI xs * 500000) (16 * xs.length * s.par .EST_R_SH))

/-- |I1| lies below I_QUIET (R202, R220, R267). DESIGN CHOICE (log entry 99): R220 does not say what a current without a value is;
here it is not quiet, so that a START is refused with CAUSE 3 and a cell repeats. -/
def State.i1Quiet (s : State) : Bool := s.i1Ma.any fun i => decide ((i.natAbs : Int) < s.par .I_QUIET)

/-- FS40-43 are present while a pin of the segment lacks Rw (R203). -/
def State.rwFollow (s : State) : State :=
  runAll (fun seg t => t.follow (40 + seg) 0 (!t.rwReady seg)) [0, 1, 2, 3] s

/-- WIRE_STAT as a word (R222). -/
def BalS.wireStat (b : BalS) : Word :=
  orAll ([place b.calPos 16 8, place b.calCause 4 4, place b.calState 0 2] ++
    (indexed b.calFail).map fun x => flag x.2 (12 + x.1))

/-- Some segment has a populated cell at position p (R220). -/
def State.calPop (s : State) (p : Nat) : Bool := (List.range 4).any fun seg => s.cellPop (24 * seg + p)

/-- The next position from p on with a populated cell; 25 past the last (R220). -/
def State.calSeek (s : State) (p : Nat) : Nat := (((List.range' p (25 - p)).find? s.calPop).getD 25)

/-- The pins of the positions from p on that a run skips take Rw = 0 (R220). -/
def State.calSkipped (s : State) (p : Nat) : List (Nat × Nat) :=
  (List.range' p (s.calSeek p - p)).flatMap fun q => (List.range 4).map fun seg => (24 * seg + q, 0)

/-- WIRE_CAL_START (R220): start, or refuse with a cause. DESIGN CHOICE (log entry 88): R220 is silent on a START during a run;
here it is ignored and CAUSE stays. -/
def execWireCalStart (path : Path) (key : BitVec 8) (s : State) : Host.Outcome State Fault Refusal :=
  let _ := path
  .next { s with bal :=
    if key != 0xC3 then { s.bal with calCause := 1 }
    else if s.bal.cal.isSome then s.bal
    else if !s.parked then { s.bal with calCause := 2 }
    else if !s.i1Quiet then { s.bal with calCause := 3 }
    else { s.bal with
      cal := some { pos := s.calSeek 1, suspended := true, found := s.calSkipped 1 }
      calCause := 0, calState := 1, calPos := min 24 (s.calSeek 1), calFail := [false, false, false, false] } }

/-- The pins completed so far take their Rw (R202, R220). -/
def storeRw (rw : List (Bool × Nat)) (found : List (Nat × Nat)) : List (Bool × Nat) :=
  found.foldl (fun l x => l.set (x.1 - 1) (true, x.2)) rw

/-- The run ends: completed pins are stored, state and cause are set, and the host gets its report (R220, R464); its switch opens at the
next boundary (R210). DESIGN CHOICE
(log entry 88): a run that has passed its last position with some pins failed shows STATE 2 with their FAIL bits. -/
def State.calEnd (state cause : Nat) (s : State) : State :=
  match s.bal.cal with
  | none => s
  | some c =>
    let b := { s.bal with
      cal := none, calState := state, calCause := cause, rw := storeRw s.bal.rw c.found }
    State.rwFollow (State.report 3 0 0x71D b.wireStat 0 { s with bal := b })

/-- WIRE_CAL_ABORT (R220): the run ends with CAUSE 4. -/
def execWireCalAbort (path : Path) (key : BitVec 8) (s : State) : Host.Outcome State Fault Refusal :=
  let _ := path
  .next (if key != 0xC3 then { s with bal := { s.bal with calCause := 1 } } else s.calEnd 3 4)

/-- A run is under way and the control plane is no longer Parked (R220). -/
def State.calLeft (s : State) : Bool := s.bal.cal.isSome && !s.parked

/-- The calibration has passed its last position (R220). -/
def State.calDone (s : State) : Bool :=
  s.bal.cal.any fun c => decide (25 ≤ c.pos) && (decide (1 ≤ c.beat) || !s.cellLate)

/-- WIRE_CAL_COMPLETE (R202). -/
def execWireCalComplete (s : State) : Host.Outcome State Fault Refusal :=
  .next (if s.calDone then s.calEnd 2 0 else s)

/-- Rw of the pin below cell n from the shift Δ and the switch current (R202). DESIGN CHOICE (log entry 87): R202 stores 0 to
2,000 mΩ and names only a value above 2,000 mΩ as a failure; here a negative result and a switch current of 0 or less, for which
no value of that range results, fail the pin too. -/
def rwOf (delta i : Int) : Option Nat :=
  if i ≤ 0 then none
  else
    let r := divRnd (delta * 390625) (10 * i)
    if r < 0 ∨ 2000 < r then none else some r.toNat

/-- The result of position p on a segment from baseline and fourth-beat codes (R202): none while a value is missing (log entry
93). -/
def State.calMeasure (s : State) (base : List Int) (seg p : Nat) : Option Nat :=
  let n := 24 * seg + p
  match s.meas.codes[n - 1]?.getD none with
  | none => none
  | some own =>
    let lowest := decide (p = 1) || !s.cellPop (n - 1)
    let delta := if lowest then (base[n - 1]?.getD 0) - own.code
      else (((s.meas.codes[n - 2]?.getD none).map (·.code)).getD 0) - (base[n - 2]?.getD 0)
    rwOf delta own.ib

/-- Position and beat whose windows this evaluation sees. -/
def State.calLag (s : State) (c : WireCal) : Nat × Nat :=
  if !s.cellLate then (c.pos, c.beat) else if 1 ≤ c.beat then (c.pos, c.beat - 1) else (c.prevPos, 4)

/-- The evaluation's part of a running calibration: baseline, result of a position, repeats on current (R202, R220). -/
def State.calEval (s : State) : State :=
  match s.bal.cal with
  | none => s
  | some c =>
    if c.suspended then s
    else
      let (p, b) := s.calLag c
      if !s.i1Quiet && decide (c.pos ≤ 24) then
        if 2 ≤ c.repeats then s.calEnd 3 3
        else { s with bal := { s.bal with cal := some { c with repeats := c.repeats + 1, again := true } } }
      else if b = 0 then
        { s with bal := { s.bal with cal := some { c with base := s.meas.codes.map fun x => ((x.map (·.code)).getD 0) } } }
      else if b = 4 ∧ 1 ≤ p then
        let res := (List.range 4).map fun seg =>
          (seg, if s.cellPop (24 * seg + p) then s.calMeasure c.base seg p else some 0)
        { s with bal := { s.bal with
            cal := some { c with found := c.found ++ res.filterMap fun x => x.2.map fun r => (24 * x.1 + p, r) }
            calFail := (indexed s.bal.calFail).map fun x => x.2 || res.any fun r => r.1 == x.1 && r.2.isNone } }
      else s

/-- A boundary: the calibration advances, is suspended by a pass, restarts the interrupted cell, repeats a cell (R220). -/
def State.calBoundary (s : State) : State :=
  { s with bal :=
    match s.bal.cal with
    | none => s.bal
    | some c =>
      if s.passRuns || s.passDue then { s.bal with cal := some { c with suspended := true } }
      else if c.suspended then { s.bal with cal := some { c with suspended := false, beat := 0, prevPos := 0 } }
      else if c.again then { s.bal with cal := some { c with again := false, beat := 0, prevPos := 0 } }
      else if c.beat = 4 then
        { s.bal with
          cal := some { c with
            pos := s.calSeek (c.pos + 1), beat := 0, repeats := 0, prevPos := c.pos
            found := c.found ++ s.calSkipped (c.pos + 1) }
          calPos := min 24 (s.calSeek (c.pos + 1)) }
      else { s.bal with cal := some { c with beat := c.beat + 1 } } }

/-! Excitation -/

/-- H of a frequency in mHz (R217, R224). -/
def halfPeriod (f : Nat) : Nat := (divRnd 20480000000 f).toNat

/-- Slot k is used, and its half period, phase step and block length (R223, R224). -/
def State.slotUsed (s : State) (k : Nat) : Bool := s.on .FREQ k
/-- H of slot k. -/
def State.slotH (s : State) (k : Nat) : Nat := if s.slotUsed k then halfPeriod (s.nat .FREQ k) else 0
/-- PHI of R224. -/
def phiOf (h : Nat) : Nat := (divRnd 5497558138880 h).toNat
/-- NB of R224. -/
def State.blockBeats (s : State) (h : Nat) : Nat := (s.nat .IMP_CYC * 2 * h + 40959) / 40960
/-- NB of slot k. -/
def State.slotNB (s : State) (k : Nat) : Nat := if s.slotUsed k then s.blockBeats (s.slotH k) else 0

/-- A block of slot k starts at this boundary (R81, R224). -/
def State.blockStarts (s : State) (k : Nat) : Bool := s.slotUsed k && decide (s.sbn.toNat % s.slotNB k = 0)

/-- Excitation and impedance analysis may run: Active, and no slow cadence (R218, R226). -/
def State.fullCadence (s : State) : Bool := s.pwr.state == .active && !s.chg.slow

/-- The entries of the rotation: SRC 1 slots ascending, groups 0 to 2 in each (R237). -/
def State.rotation (s : State) : List (Nat × Nat) :=
  ((List.range 4).filter fun k => s.slotUsed k && s.nat .IMP_SRC k == 1).flatMap fun k => [(k, 0), (k, 1), (k, 2)]

/-- The entry that the rotation stands at, and the one after an entry. -/
def rotationAt (l : List (Nat × Nat)) (e : Nat × Nat) : Option (Nat × Nat) := if l.contains e then some e else l.head?

/-- The entry after e. -/
def rotationNext (l : List (Nat × Nat)) (e : Nat × Nat) : Nat × Nat :=
  match l.dropWhile (· != e) with
  | _ :: f :: _ => f
  | _ => l.headD (0, 0)

/-- Cells that a run of group g excites (R237, R218). -/
def State.excCells (s : State) (g : Nat) : List Nat :=
  ((List.range 96).map (· + 1)).filter fun n =>
    (n - 1) % 3 == g && s.cellPop n && (s.cell n).valid && !(s.cell n).invalid && s.rwReady (segOf n) && !s.cellBlocked n

/-- A run is due at this boundary (R237). -/
def State.runDue (s : State) : Bool :=
  s.imp.swEn && s.bal.run.isNone && !s.bal.stopped &&
    (match rotationAt s.rotation s.bal.next with
      | some e => s.blockStarts e.1
      | none => false)

/-- The run starts, or is refused under R218 and passes its turn on (R218, R237). -/
def State.runStart (s : State) : State :=
  match rotationAt s.rotation s.bal.next with
  | none => s
  | some e =>
    let cells := s.excCells e.2
    let ok := s.on .EXC_EN && s.fullCadence && !cells.isEmpty
    let t := s.tally 31 (if ok then 1 else 0)
    State.swCommands { t with bal :=
      if ok then
        { s.bal with
          run := some { slot := e.1, group := e.2, cells := cells, half := s.slotH e.1, start := s.beat.num,
                        stop := s.beat.num + nword (s.nat .IMP_NAVG * s.slotNB e.1) }
          runs := incSat 65535 s.bal.runs
          next := e }
      else { s.bal with next := rotationNext s.rotation e, stopped := true } }

/-- EXCITATION_RUN_START (R237). -/
def execExcitationRunStart (s : State) : Host.Outcome State Fault Refusal :=
  .next (if s.runDue then s.runStart else s)

/-- EXCITATION_TOGGLE (R217): the exciting switches toggle. -/
def execExcitationToggle (s : State) : Host.Outcome State Fault Refusal :=
  .next { s with bal := { s.bal with
    run := s.bal.run.map fun r => { r with level := !r.level }
    tog := s.bal.tog || s.bal.run.isSome
    sw := s.bal.sw.map fun x => if x.exc && s.bal.run.isSome then { x with level := !x.level } else x } }

/-- A run is under way and rows 1 to 4 of R210, or the conditions of R218, no longer let it run (R219). -/
def State.runStopDue (s : State) : Bool :=
  s.bal.run.any fun r => r.cells.any s.cellBlocked || !s.fullCadence

/-- The run ends with its switches open; balancing resumes under row 8 (R217, R219). -/
def State.runEnd (s : State) : State :=
  State.swCommands { s with bal := { s.bal with
    next := match s.bal.run with
      | some r => rotationNext s.rotation (r.slot, r.group)
      | none => s.bal.next
    run := none } }

/-- The run stops, counts as BROKEN and passes its turn on (R219, R237). -/
def State.runStop (s : State) : State :=
  let t := s.runEnd
  { t with bal := { t.bal with broken := incSat 65535 t.bal.broken, stopped := true } }

/-- EXCITATION_RUN_STOP (R219). -/
def execExcitationRunStop (s : State) : Host.Outcome State Fault Refusal :=
  .next (if s.runStopDue then s.runStop else s)

/-- A run that has reached its last boundary ends there (R237). -/
def State.runBoundary (s : State) : State :=
  let t := { s with bal := { s.bal with stopped := false } }
  if t.bal.run.any fun r => r.stop == t.beat.num then t.runEnd else t

end Sys2Proof.Machine
end

