-- ==== Sys2Proof/Machine/Impedance.lean ====
section
/-! DEFINITION. Per-cell impedance: exact functions, block transforms, results, table, internal temperature, current requests
(chapter 08). -/

namespace Sys2Proof.Machine

/-- One in the scale of the exact functions: 2^640 (log entry 12). -/
def fxOne : Int := 2 ^ 640

/-- π in that scale, rounded down. -/
def fxPi : Int :=
  0x3243f6a8885a308d313198a2e03707344a4093822299f31d0082efa98ec4e6c89452821e638d01377be5466cf34e90c6cc0ac29b7c97c50dd3f84d5b5b54709179216d5d98979fb1bd1310ba698dfb5ac

/-- Terms of the cosine series from term 2i on: x2 is the square of the angle. -/
def fxCosGo : Nat → Nat → Int → Int → Int → Int
  | 0, _, _, _, acc => acc
  | k + 1, i, x2, t, acc =>
    let t' := -(t * x2 / fxOne / ((2 * i + 1) * (2 * i + 2)))
    fxCosGo k (i + 1) x2 t' (acc + t')

/-- Cosine of a scaled angle between 0 and π/2. -/
def fxCos (x : Int) : Int := fxCosGo 80 0 (x * x / fxOne) fxOne fxOne

/-- Sine of a scaled angle between 0 and π/2. -/
def fxSin (x : Int) : Int := fxCos (fxPi / 2 - x)

/-- COS[k]: the integer nearest to 32,767·cos(2πk/4,096) (R229). -/
def cosTab (k : Nat) : Int :=
  let q (j : Nat) : Int := (2 * 32767 * fxCos (fxPi * j / 2048) + fxOne) / (2 * fxOne)
  let k := k % 4096
  if k ≤ 1024 then q k else if k ≤ 2048 then - q (2048 - k) else if k ≤ 3072 then - q (k - 2048) else q (4096 - k)

/-- Digits of ISQRT_RND from bit k down. -/
def isqrtRndGo (a b : Nat) : Nat → Nat → Nat
  | 0, m => m
  | k + 1, m => isqrtRndGo a b k (if (2 * (m + 2 ^ k) - 1) * (2 * (m + 2 ^ k) - 1) * b ≤ 4 * a then m + 2 ^ k else m)

/-- ISQRT_RND(a, b): the smallest m with (2m+1)²·b > 4a, for results below 2^32 (R229). -/
def isqrtRnd (a b : Nat) : Nat := isqrtRndGo a b 32 0

/-- The vector (x, y), both non-negative, lies at or beyond the angle of j - 1/2 hundredths of a degree. -/
def beyondHalf (x y : Nat) (j : Nat) : Bool :=
  let h := fxPi * (2 * j - 1 : Nat) / 36000
  decide ((x : Int) * fxSin h ≤ (y : Int) * fxCos h)

/-- Digits of the angle in hundredths of a degree, 0 to 9,000. -/
def phaseGo (x y : Nat) : Nat → Nat → Nat
  | 0, p => p
  | k + 1, p => phaseGo x y k (if p + 2 ^ k ≤ 9000 ∧ beyondHalf x y (p + 2 ^ k) then p + 2 ^ k else p)

/-- PHASE(y, x) in hundredths of a degree, -17,999 to 18,000 (R229; precision: log entry 12). -/
def phaseOf (y x : Int) : Int :=
  if x = 0 ∧ y = 0 then 0
  else
    let p : Int := phaseGo x.natAbs y.natAbs 14 0
    let q := if x < 0 then 18000 - p else p
    if 0 ≤ y then q else if q = 18000 then -17999 else -q

/-- Analysis may run (R226, R385). -/
def State.analysisOn (s : State) : Bool :=
  s.imp.en && s.fullCadence && !((List.range 6).any fun g => s.grpEff g == 3)

/-- R_SH of the reference (R228). -/
def State.refShunt (s : State) : Int := if s.curPop 0 then s.par .R_SH 1 else s.par .EST_R_SH

/-- The reference samples of the beat before (R228). -/
def State.refSamples (s : State) : List (Option Raw) :=
  if s.curPop 0 then s.imp.prev.map (·.i1) else s.imp.prevRef.getD []

/-- One raw sample of the voltage stream of cell n (R227). -/
def State.vStream (s : State) (iv : Interval) (n : Nat) : Option Int :=
  match iv.cells[n - 1]?.getD none with
  | some r =>
    if r.ovl then none
    else some (r.x + s.wireCorr 32 n (iv.ib[n - 1]?.getD 0) (iv.ib[n]?.getD 0))
  | none => none

/-- One raw sample of the reference stream of cell n (R228). -/
def State.rStream (s : State) (iv : Interval) (i : Option Raw) (n : Nat) : Option Int :=
  match i with
  | some r => if r.ovl then none else some (r.x - divRnd ((iv.ib[n - 1]?.getD 0) * s.refShunt) 31250000)
  | none => none

/-- The windowed weights of sample m: cosine and sine (R230). -/
def weights (phi b m : Nat) : Int × Int :=
  let idx := phi * m % 2 ^ 32 / 2 ^ 20
  let w := (32767 - cosTab (m * 4096 / b)) / 2
  (rsh (w * cosTab idx) 15, rsh (w * cosTab ((idx + 3072) % 4096)) 15)

/-- A sample enters the transforms; a missing one spoils the block (R230, R231). -/
def Bins.add (x : Bins) (w : Int × Int) (v r : Option Int) : Bins :=
  match v, r with
  | some v, some r =>
    { x with vre := x.vre + v * w.1, vim := x.vim - v * w.2, rre := x.rre + r * w.1, rim := x.rim - r * w.2 }
  | _, _ => { x with ok := false }

/-- Rw is valid for the wires that carry the currents of switches n and n+1 (R231). -/
def State.rwValid (s : State) (n : Nat) : Bool :=
  (s.bal.rw[n - 1]?.getD (false, 0)).1 && (decide (n % 24 = 0) || (s.bal.rw[n]?.getD (false, 0)).1)

/-- The samples of the beat before enter the transforms of cell n: k beats of the block lie before (R230). -/
def State.binBeat (s : State) (h k n : Nat) (x : Bins) : Bins :=
  let b := 16 * s.blockBeats h
  let ref := s.refSamples
  let y := (indexed s.imp.prev).foldl
    (fun a iv => a.add (weights (phiOf h) b (16 * k + iv.1)) (s.vStream iv.2 n) (s.rStream iv.2 (ref[iv.1]?.getD none) n)) x
  { y with ok := y.ok && s.imp.prev.length == 16 && s.imp.prevOk.contains n
           wires := y.wires && (s.rwValid n || (!(s.sw n).on && !(s.sw (n + 1)).on)) }

/-- One cell's transforms of slot k after the beat before; an SRC 1 slot needs the cell under its excitation (R231, R236). -/
def State.slotBin (s : State) (slot : Option Nat) (src h k n : Nat) (x : Bins) : Bins :=
  let ex := src != 1 || s.imp.prevExc.contains (slot.getD 4, n)
  let y := s.binBeat h k n x
  { y with ok := y.ok && ex, any := x.any || (ex && s.cellPop n) }

/-- A slot takes in the beat before: a block starts, continues, ends, or is discarded (R224, R226, R230). -/
def State.slotBeat (s : State) (slot : Option Nat) (src h : Nat) (x : SlotS) : SlotS :=
  let nb := s.blockBeats h
  let cont := if s.imp.prevSbn.toNat % nb = 0 then some 0 else x.beats
  if !s.imp.prevOn || s.imp.prevBeat.isNone then { x with beats := none, ended := false }
  else match cont with
  | none => { x with ended := false }
  | some k =>
    let start := if k = 0 then List.replicate 96 ({} : Bins) else x.bins
    let bins := (indexed start).map fun y => s.slotBin slot src h k (y.1 + 1) y.2
    { x with bins := bins, beats := if k + 1 = nb then none else some (k + 1), ended := decide (k + 1 = nb) }

/-- Every used slot takes in the beat before. -/
def State.impBeat (s : State) : State :=
  { s with imp := { s.imp with
      slots := (indexed s.imp.slots).map fun x =>
        if s.slotUsed x.1 then s.slotBeat (some x.1) (s.nat .IMP_SRC x.1) (s.slotH x.1) x.2 else x.2
      prevBeat := none } }

/-- Thermistor of cell n; 0 none (R223). -/
def State.mapped (s : State) (n : Nat) : Nat := ((s.img.list .CELL_THERMISTOR_MAP).getD (n - 1) 0).toNat

/-- The thermistor that gives the temperature of cell n. -/
def State.cellThm (s : State) (n : Nat) : Therm :=
  let t := s.mapped n
  if t = 0 then {} else s.meas.shown.thm[t - 1]?.getD {}

/-- The mapped thermistor's shown value; none when not VALID. -/
def State.cellTemp (s : State) (n : Nat) : Option Int := if (s.cellThm n).valid then some (s.cellThm n).temp else none

/-- tbin: edges at or below the temperature (R241). -/
def State.tbin (s : State) (t : Int) : Nat :=
  ([Param.E1, .E2, .E3, .E4, .E5, .E6, .E7].filter fun e => decide (s.par e ≤ t)).length

/-- sbin of an SOC (R241). -/
def sbin (soc : Nat) : Nat := min 9 (soc / 10000)

/-- Reference amplitude test of R231 for blocks of b samples. -/
def State.amplitude (s : State) (b : Nat) (x : Bins) : Bool :=
  let m := divRnd (s.par .IMP_IMIN * s.refShunt) 31250 * b * 8192
  decide (m * m ≤ x.rre * x.rre + x.rim * x.rim)

/-- The block of cell n counts (R231); the thermistor is that of the block's last beat. -/
def State.blockValid (s : State) (h n : Nat) (x : Bins) : Bool :=
  x.ok && s.amplitude (16 * s.blockBeats h) x && x.wires && (s.cellTemp n).isSome

/-- The sums after a block's products (R230). -/
def Sums.add (x : Sums) (b : Bins) : Sums :=
  { x with re := x.re + (b.vre * b.rre + b.vim * b.rim), im := x.im + (b.vim * b.rre - b.vre * b.rim),
           rr := x.rr + (b.rre * b.rre + b.rim * b.rim), vv := x.vv + (b.vre * b.vre + b.vim * b.vim), n := x.n + 1 }

/-- The sums of a cell after a block of the slot (R232). -/
def Sums.afterBlock (x : Sums) (navg : Nat) (valid : Bool) (tb sb : Nat) (b : Bins) : Sums :=
  let y := if x.n = 0 then x else { x with blocks := x.blocks + 1 }
  let z := if 4 * navg < y.blocks then ({} : Sums) else y
  if !valid then z
  else
    let u := if z.n != 0 && (z.tbin != tb || z.sbin != sb) then ({} : Sums) else z
    (if u.n = 0 then { u with tbin := tb, sbin := sb, blocks := 0 } else u).add b

/-- A sum was cleared by the block before a result (R232, R356). -/
def Sums.cleared (x : Sums) (navg : Nat) (valid : Bool) (tb sb : Nat) : Bool :=
  x.n != 0 && (decide (4 * navg < x.blocks + 1) || (valid && (x.tbin != tb || x.sbin != sb)))

/-- The result of full sums (R233, R234). -/
def State.result (s : State) (x : Sums) (beat : Word) : ImpRes :=
  let a := (x.re * x.re + x.im * x.im).toNat
  let rs := s.refShunt.toNat
  let m := isqrtRnd (a * 25 * rs * rs) ((64 * x.rr.toNat) * (64 * x.rr.toNat))
  let coh := if x.vv = 0 ∨ x.rr = 0 then 0 else (divRnd (10000 * a) (x.vv * x.rr)).toNat
  { mag := min m 16777215, ph := phaseOf x.im x.re, coh := coh,
    valid := decide (s.nat .IMP_COHMIN ≤ coh) && decide (m ≤ 16777215), beat := beat, blocks := x.n, any := true }

/-- The identity record in force. -/
def State.record (s : State) : Option IdRec := s.chg.inForce.bind fun r => s.chg.recs[r]?

/-- The working copy of the record in force (R235): as of the latest boundary, unless it was put in force since. -/
def State.workRecord (s : State) : Option IdRec :=
  if s.chg.recNew then s.record else s.chg.inForce.bind fun r => s.chg.recsShown[r]?

/-- Bytes of an entry in the record (R240): MAG, PH, STATE 1 with COH, N. -/
def TabEnt.bytes (e : TabEnt) : List Byte :=
  bytesOf 3 e.mag ++ sbytes 2 e.ph ++ bytesOf 2 ((if e.n = 0 then 0 else 16384) + e.coh) ++ bytesOf 1 e.n

/-- Index of the 32-byte word of a cell and bins in the record's table (R240). -/
def tableIndex (cell tb sb : Nat) : Nat := ((cell - 1) * 8 + tb) * 10 + sb

/-- MRAM word that holds a word of the table of record r (R47, R240). -/
def tableWordAt (r cell tb sb : Nat) : Nat := mramWord .records (8192 * r + tableIndex cell tb sb)

/-- The entry of the table for a cell, bins and slot (R240). -/
def IdRec.entry (r : IdRec) (cell tb sb slot : Nat) : Option TabEnt :=
  r.table.find? fun e => e.cell == cell && e.tbin == tb && e.sbin == sb && e.slot == slot

/-- MAG and PH of bins and slot in a default table (R243). -/
def defaultAt (l : List (Int × Int)) (tb sb slot : Nat) : Int × Int := l[(tb * 10 + sb) * 4 + slot]?.getD (0, 0)

/-- Default MAG and PH of the bins and slot in a record (R243). -/
def IdRec.default (r : IdRec) (tb sb slot : Nat) : Int × Int := defaultAt r.dflt tb sb slot

/-- The table word of a cell and bins: slots 0 to 3, each 8 bytes (R240). -/
def IdRec.tableWord (r : IdRec) (cell tb sb : Nat) : List Byte :=
  (List.range 4).flatMap fun k => match r.entry cell tb sb k with
    | some e => e.bytes
    | none => bytesOf 3 (r.default tb sb k).1.toNat ++ sbytes 2 (r.default tb sb k).2 ++ List.replicate 3 0

/-- The entry after an update (R242). -/
def updateEntry (alpha : Int) (old : Option TabEnt) (cell tb sb slot : Nat) (r : ImpRes) : TabEnt :=
  match old with
  | none => { cell := cell, tbin := tb, sbin := sb, slot := slot, mag := r.mag, ph := r.ph, coh := r.coh, n := 1 }
  | some e =>
    if e.n = 0 then { e with mag := r.mag, ph := r.ph, coh := r.coh, n := 1 } else
    let d0 := r.ph - e.ph
    let d := if 18000 < d0 then d0 - 36000 else if d0 ≤ -18000 then d0 + 36000 else d0
    let p := e.ph + divRnd (d * alpha) 256
    { e with mag := ((e.mag : Int) + divRnd ((r.mag - e.mag : Int) * alpha) 256).toNat
             ph := if 18000 < p then p - 36000 else if p ≤ -18000 then p + 36000 else p
             coh := r.coh, n := if e.n < 255 then e.n + 1 else e.n }

/-- Put an entry in place of that of its cell, bins and slot. -/
def putEntry (l : List TabEnt) (e : TabEnt) : List TabEnt :=
  if l.any fun x => x.cell == e.cell && x.tbin == e.tbin && x.sbin == e.sbin && x.slot == e.slot then
    l.map fun x => if x.cell == e.cell && x.tbin == e.tbin && x.sbin == e.sbin && x.slot == e.slot then e else x
  else l ++ [e]

/-- The bound u of R253. -/
def boundOf (ua uqc capU : Int) : Int := min 100000 (ua + divRnd (uqc * 1000) capU)

/-- SOC of R253. -/
def socOf (qc capU : Int) : Int := clamp 0 100000 (divRnd (qc * 100000) capU)

/-- The string's displayed SOC with its bound; none when not reported: in the active Master its own, in another unit as the
checkpoint words of the Master frame give it for the record in force (R241, R242, R249; log entry 67). -/
def State.strSoc (s : State) : Option (Nat × Nat) :=
  if s.master then (if s.chg.est.valid then some (s.chg.shown.soc.toNat, s.chg.shown.u.toNat) else none)
  else match s.chg.copy, s.record with
    | some c, some r => some ((socOf c.qc r.capU).toNat, (boundOf c.ua c.uqc r.capU).toNat)
    | _, _ => none

/-- The string's displayed SOC in the block's last beat; 0 when none was reported. -/
def State.blockSoc (s : State) : Nat := (s.imp.prevSoc.map (·.1)).getD 0

/-- SOC was reported with a bound at or below IMP_SOCUNC in the block's last beat (R242). -/
def State.socSure (s : State) : Bool := s.imp.prevSoc.any fun x => decide (x.2 ≤ s.nat .IMP_SOCUNC)

/-- What a block end does to cell n: its sums and, when due, its result (R232, R233). -/
def State.cellBlock (s : State) (h n : Nat) (beat : Word) (b : Bins) (x : Sums) : Sums × Option (ImpRes × Nat × Nat) :=
  if !b.any then (x.afterBlock (s.nat .IMP_NAVG) false 0 0 b, none)
  else
    let tb := s.tbin (s.cellThm n).temp
    let sb := sbin s.blockSoc
    let y := x.afterBlock (s.nat .IMP_NAVG) (s.blockValid h n b) tb sb b
    if y.n = s.nat .IMP_NAVG ∧ y.n ≠ 0 ∧ s.blockValid h n b then ({}, some (s.result y beat, y.tbin, y.sbin)) else (y, none)

/-- The table entries that the results of a block give (R242). -/
def State.tableUpdates (s : State) (slot : Nat) (rs : List (Nat × ImpRes × Nat × Nat)) : List TabEnt :=
  match s.record with
  | none => []
  | some r =>
    if !s.socSure then []
    else rs.filterMap fun x =>
      if x.2.1.valid then
        some (updateEntry (s.par .IMP_ALPHA) (r.entry x.1 x.2.2.1 x.2.2.2 slot) x.1 x.2.2.1 x.2.2.2 slot x.2.1)
      else none

/-- A block of slot k ends: every analysed cell is validated and summed; the table words are written, the results are held for
the next boundary (R231-R235, R242). -/
def State.blockEnd (k : Nat) (s : State) : State :=
  let x := s.imp.slots[k]?.getD {}
  let h := s.slotH k
  let beat := s.beat.num - 1
  let each := (indexed x.bins).map fun b =>
    (b.1 + 1, b.2.any, s.blockValid h (b.1 + 1) b.2, s.cellBlock h (b.1 + 1) beat b.2 (x.sums[b.1]?.getD {}))
  let rs := each.filterMap fun e => e.2.2.2.2.map fun r => (e.1, r)
  { s.tally 32 (each.filter fun e => e.2.1 && e.2.2.1).length with
    chg := { s.chg with recs := match s.chg.inForce with
      | some r => s.chg.recs.modify r fun y => { y with table := (s.tableUpdates k rs).foldl putEntry y.table }
      | none => s.chg.recs }
    imp := { s.imp with
      slots := s.imp.slots.set k
        { x with ended := false, sums := each.map fun e => e.2.2.2.1, hold := rs.map fun r => (r.1, r.2.1) }
      val := min 65535 (s.imp.val + (each.filter fun e => e.2.1 && e.2.2.1).length)
      inv := min 65535 (s.imp.inv + (each.filter fun e => e.2.1 && !e.2.2.1).length) } }

/-- A block of the slot has ended and waits. -/
def State.blockDue (s : State) (k : Nat) : Bool := (s.imp.slots[k]?.getD {}).ended

/-- Results of a slot become visible (R235). -/
def SlotS.show (x : SlotS) : SlotS :=
  { x with res := x.hold.foldl (fun l r => l.set (r.1 - 1) r.2) x.res, hold := [] }

/-- The cells that meet the beat conditions of R231 in the beat that ends. -/
def State.cellsOk (s : State) : List Nat :=
  ((List.range 96).map (· + 1)).filter fun n =>
    let v := s.cell n
    s.cellPop n && v.valid && !v.invalid && !s.meas.failCell.contains n && (s.owSeg (segOf n)).pass.isNone &&
      !s.besideTargeted (segOf n) (n - 24 * segOf n)

/-- A boundary: the intervals of the beat become those of the beat before; results and table entries become visible (R235,
R246). -/
def State.impBoundary (s : State) : State :=
  { s with
    imp := { s.imp with
      prev := s.imp.cur, cur := [], prevRef := s.imp.curRef, curRef := none, prevBeat := some s.beat.num, prevSbn := s.sbn, prevOn := s.analysisOn
      prevOk := s.cellsOk
      prevExc := match s.bal.run with
        | some r => r.cells.map fun n => (r.slot, n)
        | none => []
      prevSoc := s.strSoc
      slots := s.imp.slots.map SlotS.show }
    chg := { s.chg with recsShown := s.chg.recs, recNew := false } }

/-- The lookup of R244 in the evaluated beat: MAG, PH, COH and STATE of cell n at slot k. -/
def State.lookup (s : State) (n k : Nat) : Int × Int × Int × Bool :=
  match s.workRecord with
  | none => (0, 0, 0, false)
  | some r =>
    let tb := s.tbin (s.cellThm n).temp
    let sb := sbin ((s.strSoc.map (·.1)).getD 0)
    match (if s.mramBad (tableWordAt (s.chg.inForce.getD 0) n tb sb) then none else r.entry n tb sb k) with
    | some e => (e.mag, e.ph, e.coh, e.n != 0)
    | none => ((r.default tb sb k).1, (r.default tb sb k).2, 0, false)

/-- TINT of cell n: VALID while the slot's latest result is VALID and young enough (R245). -/
def State.tint (s : State) (n : Nat) : Option Int :=
  let k := s.nat .IMP_TSLOT
  if 4 ≤ k then none
  else
    let r := (s.imp.slots[k]?.getD {}).res[n - 1]?.getD {}
    if r.any && r.valid && decide ((s.beat.num - r.beat).toNat ≤ s.nat .IMP_TAGE) then
      some (thmSegment (s.img.points .TINT) r.ph)
    else none

/-- SRC 2 slots of the request rotation (R238). -/
def State.reqSlots (s : State) : List Nat := (List.range 4).filter fun k => s.slotUsed k && s.nat .IMP_SRC k == 2

/-- The conditions of a current request (R238): the control state of the string is Closed. -/
def State.reqAllowed (s : State) : Bool := s.imp.reqEn && s.strCtl == Ctl.closed.code && s.analysisOn && s.curPop 0

/-- The slot that the request names next. -/
def State.reqSlot (s : State) : Option Nat :=
  if s.reqSlots.contains s.imp.reqNext then some s.imp.reqNext else s.reqSlots.head?

/-- The slot after k in the rotation of requests. -/
def nextSlot (l : List Nat) (k : Nat) : Nat :=
  match l.dropWhile (· != k) with
  | _ :: f :: _ => f
  | _ => l.headD 0

/-- The request is withdrawn at this boundary (R238). -/
def State.reqWithdraw (s : State) : State :=
  { s with imp :=
    match s.imp.req with
    | none => s.imp
    | some r =>
      if r.stop = s.beat.num then { s.imp with req := none, reqNext := nextSlot s.reqSlots r.slot }
      else if s.reqAllowed then s.imp else { s.imp with req := none, reqNext := r.slot } }

/-- A request becomes active at its block start (R238). -/
def State.reqStart (s : State) : State :=
  { s with imp :=
    match s.imp.req, s.reqSlot with
    | none, some k =>
      if s.reqAllowed && s.blockStarts k then
        { s.imp with
          req := some { slot := k, freq := (divRnd 20480000000 (s.slotH k)).toNat, amp := s.nat .IMP_REQ_AMP,
                        stop := s.beat.num + nword (s.nat .IMP_NAVG * s.slotNB k) }
          reqNext := k }
      else s.imp
    | _, _ => s.imp }

/-- CURRENT_REQUEST (R238): withdrawn when due, active at its block start. -/
def execCurrentRequest (s : State) : Host.Outcome State Fault Refusal := .next s.reqWithdraw.reqStart

end Sys2Proof.Machine
end

