-- ==== Sys2Proof/Machine/Charge.lean ====
section
/-! DEFINITION. Charge accounting of the active Master: count, compensation, anchors, learning, cadence, checkpoints, swap
(chapter 09). -/

namespace Sys2Proof.Machine

/-- The unit measures the string's current (R247, R296). -/
def State.currentUnit (s : State) : Bool := s.curPop 0

/-- LSB1 in nA: of this unit's I1, else of the current unit as the EST section gives it (R223, R250). -/
def State.lsb1 (s : State) : Int := if s.refShunt = 0 then 0 else divRnd 500000000000 s.refShunt

/-- LSB2 in nA; that of I1 where this unit has no I2 (R252). -/
def State.lsb2 (s : State) : Int := if s.curPop 1 then s.curLsb 1 else s.lsb1

/-- CAP_NOM in accumulator units (R251). -/
def State.capNomU (s : State) : Int := divRnd (s.par .CAP_NOM * 57600000000000) s.lsb1

/-- Accumulator units in mAh (R278). -/
def State.mAh (s : State) (x : Int) : Int := divRnd (x * s.lsb1) 57600000000000

/-- The resistance of an entry in µΩ (R254). -/
def rreOf (mag ph : Int) : Int := rsh (mag * cosTab ((divRnd (ph * 4096) 36000 + 4096) % 4096).toNat) 15

/-- The default impedance table of the image (R243). -/
def State.defaultTable (s : State) : List (Int × Int) := s.img.points .DEFAULT_IMPEDANCE_TABLE

/-- rre, base and growth of own cell n (R254, R292). -/
def State.ownPair (s : State) (n : Nat) : Int × Int × Nat :=
  let k := s.nat .OCV_SLOT
  let (mag, ph, coh, measured) := s.lookup n k
  let rre := rreOf mag ph
  let therm := (s.cellTemp n).isSome
  let dflt := defaultAt s.defaultTable (s.tbin (s.cellThm n).temp) (sbin ((s.strSoc.map (·.1)).getD 0)) k
  let rd := rreOf dflt.1 dflt.2
  (rre, if !therm || decide (rre < 0) then 0 else if measured then coh else s.par .CONF_DEF,
    if measured && therm && decide (0 < rre) && decide (0 < rd) then (min (divRnd (rre * 10000) rd) 65535).toNat else 0)

/-- Own cell n with a value: its code or its bounds (R194, R195, R255); in slow cadence the values of the latest cell window
hold (R256, R268). -/
def State.ownCell (s : State) (n : Nat) : Option StrCell :=
  let v := s.cell n
  let p := s.ownPair n
  let mk (lo hi : Int) : StrCell :=
    { unit := s.addr, cell := n, code := v.code, lo := lo, hi := hi, rre := p.1, base := p.2.1, growth := p.2.2,
      temps := (s.cellTemp n).map fun t => [t] }
  if !s.cellPop n || !(s.meas.cellHas[n - 1]?.getD false) then none
  else if v.invalid then (s.integ.viewA.bounds[n - 1]?.getD none).map fun b => mk b.1 b.2
  else some (mk v.code v.code)

/-- The mapped thermistor of cell n of another unit is VALID, as the cell's latest pair shows it (R254, R292, R408): a base or a
growth above 0 needs a VALID thermistor; a base of 0 with a resistance of 0 or more shows that it is not, unless COH or CONF_DEF can
itself be 0; what neither shows is a free value (log entry 30). -/
def State.thermSeen (s : State) (u : UnitS) (n : Nat) : Bool :=
  let p := u.pairs[n - 1]?.getD (0, 0, 0)
  if u.hotA = -32768 then false
  else if 0 < p.2.1 ∨ 0 < p.2.2 then true
  else if p.1 = 0 ∨ (0 < p.1 ∧ 0 < s.nat .CONF_DEF ∧ 0 < s.nat .IMP_COHMIN) then false
  else Config.remoteTherm u.addr n s.beat.num

/-- Cell n of another unit, with its bounds and its latest pair (R254, R408): the unit's highest and lowest thermistors stand for
the cell's while that is VALID (log entry 30). -/
def State.strCell (s : State) (u : UnitS) (n : Nat) (code lo hi : Int) : StrCell :=
  let p := u.pairs[n - 1]?.getD (0, 0, 0)
  { unit := u.addr, cell := n, code := code, lo := lo, hi := hi, rre := p.1, base := p.2.1, growth := p.2.2,
    temps := if s.thermSeen u n then some [u.coldA, u.hotA] else none }

/-- The bounds of cell n of another unit when it is INVALID; none when they cannot be formed (R194, R195). -/
def State.unitBounds (s : State) (u : UnitS) (n : Nat) : Option (Int × Int) :=
  match (s.unitRuns u).find? fun r => r.any fun x => x.1 == n with
  | some r => s.runBounds .a r
  | none => none

/-- Cells of another unit with a value, from its latest cell set (R403, R408): a cell set counts for D beats. -/
def State.unitCells (s : State) (u : UnitS) : List StrCell :=
  if s.divUnit u.addr ≤ u.setAge then []
  else
    (indexed u.cells).filterMap fun x =>
      if x.2.invalid then (s.unitBounds u (x.1 + 1)).map fun b => s.strCell u (x.1 + 1) x.2.code b.1 b.2
      else if x.2.valid then some (s.strCell u (x.1 + 1) x.2.code x.2.code x.2.code)
      else none

/-- Every INVALID cell of another unit's cell set has bounds. -/
def State.unitBounded (s : State) (u : UnitS) : Bool :=
  (indexed u.cells).all fun x => !x.2.invalid || (s.unitBounds u (x.1 + 1)).isSome

/-- Every cell of the string with a value, in the order of R285. -/
def State.stringCells (s : State) : List StrCell :=
  let own := (s.addr, (List.range 96).filterMap fun i => s.ownCell (i + 1))
  let others := s.otherUnits.map fun u => (u.addr, s.unitCells u)
  (sortBy (fun a b => decide (a.1.toNat ≤ b.1.toNat)) (own :: others)).flatMap (·.2)

/-- Every expected cell of the string has a value (R256). -/
def State.allValued (s : State) : Bool :=
  (List.range 96).all (fun i => !s.cellPop (i + 1) || (s.ownCell (i + 1)).isSome) &&
    s.otherUnits.all fun u => u.pres && u.complete && decide (u.setAge < s.divUnit u.addr) && s.unitBounded u

/-- A current of another current unit in mA: the mean of the beat's samples, as the change of its accumulator and fraction over the
beat gives it (R151, R248, R255; log entry 69). -/
def State.curRemote (s : State) (q f : Published → Int) (lsb : Int) : Option Int :=
  match s.chg.pub, s.chg.pubPrev with
  | some p, some o =>
    if p.beat = o.beat + 1 then some (divRnd ((16 * (q p - q o) + (f p - f o)) * lsb) 256000000) else none
  | _, _ => none

/-- I1 of another current unit: from the samples that it sent, else from Q1 and F1 (log entry 69). -/
def State.i1Remote (s : State) : Option Int := s.i1Ma.or (s.curRemote Published.q1 Published.f1 s.lsb1)

/-- I2 of another current unit, from Q2 and F2 (log entry 69). -/
def State.i2Remote (s : State) : Option Int := s.curRemote Published.q2 Published.f2 s.lsb2

/-- I1_MA as the Master takes it: this unit's shown value while VALID, else that of the current unit while VALID. -/
def State.i1Shown (s : State) : Option Int :=
  if s.curPop 0 then (if (s.cur 0).valid then some (s.curMa 0 (s.cur 0).code) else none)
  else if s.chg.pub.any (·.v1) then s.i1Remote else s.i1Ma

/-- IMA of R255: I1_MA, or I2_MA when the count uses I2. DESIGN CHOICE (log entry 69): in a beat without a current frame the latest
IMA stands. -/
def State.ima (s : State) : Int :=
  if s.chg.acc.src = 2 then (if s.currentUnit then s.curMa 1 (s.cur 1).code else (s.i2Remote.or s.i1Remote).getD s.lim.ima)
  else if s.currentUnit then s.curMa 0 (s.cur 0).code
  else s.i1Remote.getD s.lim.ima

/-- Change the accounting state. -/
def State.setAcc (s : State) (f : Acc → Acc) : State := { s with chg := { s.chg with acc := f s.chg.acc } }

/-- The accounting runs: active Master, a record in force, no swap pending (R247, R273). -/
def State.accounting (s : State) : Bool := s.master && s.chg.inForce.isSome && !s.chg.swapPend

/-- The charge that the count adds, before it is narrowed: v1 and v2 say that I1 and I2 were VALID in every beat covered (R252);
products are formed in 128 bits (R251). -/
def Acc.deltaWide (a : Acc) (p : Published) (v1 v2 : Bool) (lsb1 lsb2 : Int) : Int :=
  if v1 then p.q1 - a.qref1 else if v2 then divRnd (sat (p.q2 - a.qref2) 64 * lsb2) lsb1 else p.q1 - a.qref1

/-- The charge that the count adds, saturated to 64 bits (R99, R252). -/
def Acc.delta (a : Acc) (p : Published) (v1 v2 : Bool) (lsb1 lsb2 : Int) : Int := sat (a.deltaWide p v1 v2 lsb1 lsb2) 64

/-- UQC after a count of dq over nb beats, before it is narrowed (R252). -/
def Acc.uqcNext (a : Acc) (dq nb : Int) (v1 v2 : Bool) (gain ofs : Int) : Int :=
  let d : Int := dq.natAbs
  a.uqc + (divRnd (d * gain) 10000 + 32 * ofs * nb) + (if v1 || v2 then 0 else 100 * d)

/-- The count of R252, each result saturated to 64 bits (R99). -/
def Acc.count (a : Acc) (p : Published) (v1 v2 : Bool) (lsb1 lsb2 gain ofs capNom : Int) : Acc :=
  let nb : Int := (p.beat - a.pbeat).toNat
  if nb = 0 then { a with srcNow := 0 }
  else
    let dq := a.delta p v1 v2 lsb1 lsb2
    let src := if v1 then 1 else if v2 then 2 else 3
    let d : Int := dq.natAbs
    let r := a.cycRem + (if dq < 0 then d * 1000 else 0)
    { a with
      qref1 := p.q1, qref2 := p.q2, pbeat := p.beat
      qc := sat (a.qc + dq) 64
      uqc := sat (a.uqcNext dq nb v1 v2 gain ofs) 64
      src := src, srcNow := src
      learn := a.learn && src == 1
      cyc := if dq < 0 then (min 4294967295 ((a.cyc : Int) + floorDiv r capNom)).toNat else a.cyc
      cycRem := if dq < 0 then r - floorDiv r capNom * capNom else a.cycRem }

/-- A value leaves its w signed bits (R99). -/
def wide (x : Int) (w : Nat) : Bool := sat x w != x

/-- A difference, the delta, QC or UQC would leave 64 bits (R99); the products are formed in 128 bits (R251). -/
def Acc.countOver (a : Acc) (p : Published) (v1 v2 : Bool) (lsb1 lsb2 gain ofs : Int) : Bool :=
  let nb : Int := (p.beat - a.pbeat).toNat
  let dq := a.delta p v1 v2 lsb1 lsb2
  nb != 0 && (wide (a.deltaWide p v1 v2 lsb1 lsb2) 64 || (!v1 && v2 && wide (p.q2 - a.qref2) 64) || wide (a.qc + dq) 64 ||
    wide (a.uqcNext dq nb v1 v2 gain ofs) 64)

/-- Count k of EST_ANCNT and CNT_STAT rises by n; the registers show it from the boundary on (R262, R278). -/
def State.addHold (k n : Nat) (s : State) : State := { s with chg := { s.chg with hold := s.chg.hold.modify k (· + n) } }

/-- The VALID flags of I1 in every publication since the last count (R252; log entry 65). -/
def ChgS.cov1 (c : ChgS) : Bool := c.cov.all fun x => x.2.1
/-- The VALID flags of I2 in every publication since the last count. -/
def ChgS.cov2 (c : ChgS) : Bool := c.cov.all fun x => x.2.2

/-- A unit that does not count keeps the flags of the publications that the last copy received does not cover, since a takeover counts
from there (R249, R252). -/
def ChgS.covered (c : ChgS) : ChgS :=
  { c with cov := match c.copy with
      | some k => c.cov.filter fun x => decide (0 < (x.1 - k.pbeat).toNat ∧ (x.1 - k.pbeat).toNat < 2 ^ 31)
      | none => [] }

/-- Step 1 of R262: count, and the anchor age advances (R252, R266). -/
def State.accCount (s : State) : State :=
  if !s.accounting then
    { s with chg := { (if s.master then s.chg else s.chg.covered) with anchored := false, acc := { s.chg.acc with srcNow := 0 } } }
  else
    match s.chg.pub with
    | none => { s with chg := { s.chg with anchored := false, acc := { s.chg.acc with srcNow := 0, age := incSat 4294967295 s.chg.acc.age } } }
    | some p =>
      let v1 := p.v1 && s.chg.cov1
      let v2 := p.v2 && s.chg.cov2
      let a := s.chg.acc.count p v1 v2 s.lsb1 s.lsb2 (s.par .UNC_GAIN) (s.par .UNC_OFS) s.capNomU
      onlyIf (s.chg.acc.countOver p v1 v2 s.lsb1 s.lsb2 (s.par .UNC_GAIN) (s.par .UNC_OFS)) State.saturated
        (State.addHold 4 (if a.srcNow = 3 then 1 else 0) { s with chg := { s.chg with
          anchored := false, cov := []
          acc := { a with age := incSat 4294967295 a.age } } })

/-- The drop of a cell at the string's current (R255). -/
def StrCell.drop (c : StrCell) (ima : Int) : Int := divRnd (2 * ima * c.rre) 78125

/-- The confidence of a cell (R255). -/
def StrCell.conf (c : StrCell) (ima quiet ref : Int) : Int :=
  let d : Int := (c.drop ima).natAbs
  if ima.natAbs ≤ quiet then 10000 else if ref ≤ d then 0 else divRnd (c.base * (ref - d)) ref

/-- The cell with the lowest compensated code: the first in order on a tie (R255). -/
def lowest (ima : Int) (l : List StrCell) : Option StrCell :=
  bestBy (fun a b => decide (a.lo - a.drop ima < b.lo - b.drop ima)) l

/-- Step 2 of R262: VMINC, CONF and SOC_V, held in a beat without all values (R255, R256); a record that waits for SOC_V takes
its QC (R275). -/
def State.accCompensate (s : State) : State :=
  if !s.master then s
  else
    match (if s.allValued then lowest s.ima s.stringCells else none) with
    | none => s.setAcc fun a => { a with stale := true, heldBeats := a.heldBeats + 1 }
    | some c =>
      let v := c.lo - c.drop s.ima
      let soc := thmSegment (s.img.points .OCV_CURVE) v
      s.setAcc fun a => { a with
        stale := false, heldBeats := 0
        vmin := { code := v, unit := c.unit, cell := c.cell }
        conf := c.conf s.ima (s.par .I_QUIET) (s.par .DROP_REF)
        socV := soc, haveSocV := true
        qc := if a.needQc && s.chg.inForce.isSome && !s.chg.swapPend then divRnd (soc * a.capU) 100000 else a.qc
        needQc := a.needQc && !(s.chg.inForce.isSome && !s.chg.swapPend) }

/-- The counters advance in this beat (R256, R268). -/
def State.countersRun (s : State) : Bool := s.accounting && s.chg.acc.haveSocV && !s.chg.acc.stale

/-- A counter of beats up to its limit. -/
def runUp (on : Bool) (limit n : Nat) : Nat := if on then min limit (n + 1) else 0

/-- The highest cell of the string, INVALID cells at their upper bound (R257, R289). -/
def State.highCell (s : State) : Option Int := maxI (s.stringCells.map (·.hi))

/-- Step 3 of R262: the counters of R257-R259. -/
def State.accCounters (s : State) : State :=
  if !s.countersRun then s
  else
    let i := s.i1Shown
    s.setAcc fun a => { a with
      taper := runUp ((s.highCell.any fun v => decide (s.par .V_FULL ≤ v)) && i.any fun x => decide (0 ≤ x ∧ x ≤ s.par .I_TAPER))
        (beatsOfSec (s.nat .T_TAPER)) a.taper
      empty := runUp (decide (a.vmin.code ≤ s.par .V_EMPTY)) (beatsOfSec (s.nat .T_EMPTY)) a.empty
      rest := runUp (i.any fun x => decide ((x.natAbs : Int) ≤ s.par .I_QUIET)) (beatsOfSec (s.nat .T_REST)) a.rest
      confCnt := runUp (decide (s.par .VA_CONF < a.conf)) (beatsOfSec (s.nat .VA_TIME)) a.confCnt }

/-- The bound u of R253. -/
def Acc.bound (a : Acc) : Int := boundOf a.ua a.uqc a.capU

/-- SOC of R253. -/
def Acc.socOf (a : Acc) : Int := Sys2Proof.Machine.socOf a.qc a.capU

/-- The empty anchor is due (R258, R261). -/
def State.emptyDue (s : State) : Bool :=
  s.countersRun && !s.chg.anchored && decide (beatsOfSec (s.nat .T_EMPTY) ≤ s.chg.acc.empty)

/-- The full anchor is due (R257, R261). -/
def State.fullDue (s : State) : Bool :=
  s.countersRun && !s.chg.anchored && decide (beatsOfSec (s.nat .T_TAPER) ≤ s.chg.acc.taper)

/-- The voltage anchor is due (R259, R261). -/
def State.voltageDue (s : State) : Bool :=
  let a := s.chg.acc
  s.countersRun && !s.chg.anchored &&
    (decide (beatsOfSec (s.nat .T_REST) ≤ a.rest) || decide (beatsOfSec (s.nat .VA_TIME) ≤ a.confCnt)) &&
    (a.conflict || decide (s.par .U_VA < a.bound))

/-- The record in force takes a change. -/
def State.setRecord (s : State) (f : IdRec → IdRec) : State :=
  { s with chg := { s.chg with recs := match s.chg.inForce with
      | some r => s.chg.recs.modify r f
      | none => s.chg.recs } }

/-- Capacity learning at a full or empty anchor with measured capacity c (R264). -/
def State.learnCap (c : Int) (s : State) : State :=
  let n := s.capNomU
  if divRnd n 2 ≤ c ∧ c ≤ divRnd (n * 6) 5 then
    let cap := s.chg.acc.capU + divRnd ((c - s.chg.acc.capU) * s.par .CAP_ALPHA) 256
    let t := (s.setAcc fun a => { a with capU := cap }).setRecord fun r =>
      { r with capU := cap, lsb1 := s.lsb1, learnCnt := incSat 65535 r.learnCnt }
    t.addHold 3 1
  else s.event .data 0x401 [sword (s.mAh c)]

/-- What every anchor does: state, flags, counts and record (R260). -/
def State.anchor (type : Nat) (qc ua : Int) (s : State) : State :=
  let a := s.chg.acc
  let t := s.event .data 0x400 [nword type, sword (s.mAh a.qc), sword (s.mAh qc), sword a.bound]
  let t := { t with chg := { t.chg with
    anchored := true
    acc := { t.chg.acc with
      qc := qc, ua := ua, uqc := 0, conflict := false, starved := false, unanch := false, needQc := false, age := 0
      anchType := type
      learn := type != 3, learnFull := type == 1
      taper := if type = 1 then 0 else a.taper
      rest := if type = 3 then 0 else a.rest
      confCnt := if type = 3 then 0 else a.confCnt } } }
  ((t.addHold (3 - type) 1).endCond 53).endCond 54

/-- The full anchor (R257, R260, R263, R264). -/
def State.anchorFull (s : State) : State :=
  let t := if s.chg.acc.learn && !s.chg.acc.learnFull then s.learnCap s.chg.acc.qc else s
  t.anchor 1 t.chg.acc.capU (s.par .U_FULL)

/-- The empty anchor (R258, R260, R263, R264). -/
def State.anchorEmpty (s : State) : State :=
  let t := if s.chg.acc.learn && s.chg.acc.learnFull then s.learnCap (s.chg.acc.capU - s.chg.acc.qc) else s
  t.anchor 2 0 (s.par .U_EMPTY)

/-- The voltage anchor (R259, R260). -/
def State.anchorVoltage (s : State) : State :=
  s.anchor 3 (divRnd (s.chg.acc.socV * s.chg.acc.capU) 100000) (s.par .U_VA)

/-- Step 5 of R262: the conflict test (R265). -/
def State.accConflict (s : State) : State :=
  let a := s.chg.acc
  if s.accounting && a.haveSocV && !a.needQc && !a.conflict && decide (a.qc ≤ 0 ∧ 5000 < a.socV) then
    State.raiseCond 53 0 ((s.setAcc fun a => { a with conflict := true }).event .data 0x402
      [sword (s.mAh a.qc), sword a.socV, sword a.conf])
  else s

/-- The anchor age has reached T_STARVE (R266). -/
def State.starveDue (s : State) : Bool :=
  s.accounting && !s.chg.acc.starved && decide (3600000 * s.nat .T_STARVE ≤ s.chg.acc.age)

/-- Anchor starvation (R266). -/
def State.starve (s : State) : State :=
  State.raiseCond 54 0 ((s.setAcc fun a => { a with starved := true }).event .data 0x403 [nword s.chg.acc.age])

/-- SEQ of a slot is higher. -/
def Ckpt.above (a b : Ckpt) : Bool := seqNewer a.seq b.seq

/-- The governing checkpoint of a record (R269). -/
def IdRec.governing (r : IdRec) : Option Ckpt :=
  match r.slotA, r.slotB with
  | some a, some b => if b.above a then some b else some a
  | some a, none => some a
  | none, b => b

/-- The checkpoint words of the accounting state (R269). -/
def Acc.ckpt (a : Acc) (seq : Word) : Ckpt :=
  { qc := a.qc, uqc := a.uqc, qref1 := a.qref1, qref2 := a.qref2, ua := a.ua, age := a.age, pbeat := a.pbeat,
    conflict := a.conflict, starved := a.starved, unanch := a.unanch, learn := a.learn, learnFull := a.learnFull,
    anchType := a.anchType, seq := seq }

/-- The next checkpoint goes to slot B: slot A holds the higher sequence (R269). -/
def IdRec.nextB (r : IdRec) : Bool :=
  match r.governing with
  | none => false
  | some g => r.slotA.any fun x => x.seq == g.seq

/-- A checkpoint into the slot without the higher sequence (R269). -/
def IdRec.put (r : IdRec) (c : Ckpt) : IdRec := if r.nextB then { r with slotB := some c } else { r with slotA := some c }

/-- The sequence that the next checkpoint takes (R269). -/
def IdRec.nextSeq (r : IdRec) : Word := match r.governing with | none => 1 | some g => g.seq + 1

/-- MRAM word i of the accounting part of record k (R47, R240, R276). -/
def recWord (k i : Nat) : Nat := mramWord .records (8192 * k + 7680 + i)

/-- MRAM word i of the accounting part of record k is poisoned (R43). -/
def State.recPoisoned (s : State) (k i : Nat) : Bool := s.mramBad (recWord k i)

/-- Record k as it can be read: a slot with a poisoned word is not valid, a record with a poisoned header is not in use (R43,
R269, R276). -/
def State.sound (s : State) (k : Nat) (r : IdRec) : IdRec :=
  { r with
    used := r.used && !(s.recPoisoned k 0 || s.recPoisoned k 1 || s.recPoisoned k 2)
    slotA := if s.recPoisoned k 3 || s.recPoisoned k 4 then none else r.slotA
    slotB := if s.recPoisoned k 5 || s.recPoisoned k 6 then none else r.slotB }

/-- Record k as it can be read. -/
def State.recAt (s : State) (k : Nat) : IdRec := s.sound k (s.chg.recs[k]?.getD {})

/-- A checkpoint enters record k (R269). -/
def State.putCkpt (k : Nat) (c : Word → Ckpt) (s : State) : State :=
  let r := s.recAt k
  State.rewritten (if r.nextB then [recWord k 5, recWord k 6] else [recWord k 3, recWord k 4])
    { s with chg := { s.chg with
        recs := s.chg.recs.modify k fun x => IdRec.put { x with slotA := r.slotA, slotB := r.slotB } (c r.nextSeq) } }

/-- Write the checkpoint of the accounting state (R269). -/
def State.checkpoint (s : State) : State :=
  match s.chg.inForce with
  | some k => (s.tally 27 2).putCkpt k s.chg.acc.ckpt
  | none => s.tally 27 2

/-- Steps 7 and 8 of R262: SOC, bound, checkpoint. -/
def State.accFinish (s : State) : State :=
  if !s.accounting then s
  else
    let t := s.setAcc fun a => { a with soc := a.socOf, u := a.bound }
    { t.checkpoint with chg := { t.checkpoint.chg with cycEval := t.checkpoint.chg.cycEval + 1 } }

/-- The cycle count is due for its record (R272). -/
def State.cycDue (s : State) : Bool := s.accounting && decide (1000 ≤ s.chg.cycEval)

/-- The cycle count and its remainder go to the record header (R272, R276). -/
def State.cycStore (s : State) : State :=
  let t := s.setRecord fun r => { r with cyc := s.chg.acc.cyc, cycRem := s.chg.acc.cycRem }
  { t with chg := { t.chg with cycEval := 0 } }

/-! Cadence -/

/-- A close request is pending: staged, active at the latest boundary, or in pre-charge (R267). -/
def State.closePending (s : State) : Bool :=
  (s.beat.staged.any fun w => w.addr == 0x0C00 && bits w.data 8 8 == 0xC3 && bits w.data 0 2 == 1) ||
    (s.safe.reqStaged.any fun r => r.kind == .close) || (s.safe.req.any fun r => r.kind == .close) ||
    s.ctl == .precharging

/-- The cadence decision of the evaluation (R267): quiet beats, entry after 10,000, leaving at once; it takes effect two
boundaries later. -/
def State.cadence (s : State) : State :=
  if !s.master then s
  else
    let quiet := s.i1Shown.any fun i => decide ((i.natAbs : Int) < s.par .I_QUIET)
    let stay := quiet && !s.closePending && s.imp.req.isNone
    let n := if quiet then incSat 10000 s.chg.quiet else 0
    let now := if s.chg.slowDecided then stay else stay && n == 10000
    { s with chg := { s.chg with
      quiet := n
      slowDecided := now
      slowPend := if now == s.chg.slowDecided then s.chg.slowPend else s.chg.slowPend ++ [(s.beat.num + 2, now)] } }

/-- A cadence change takes effect at this boundary (R267). -/
def State.cadenceDue (s : State) : Bool := s.chg.slowPend.head?.any fun p => decide ((s.beat.num - p.1).toNat < 2 ^ 31)

/-- The change takes effect: slow cadence is Idle, full cadence Active (R267, R493). -/
def State.cadenceChange (s : State) : State :=
  match s.chg.slowPend with
  | [] => s
  | (_, v) :: l =>
    { s with
      chg := { s.chg with slowPend := l, slow := v }
      pwr := { s.pwr with
        idleBeats := 0
        state := match s.pwr.state with
          | .active => if v then .idle else .active
          | .idle => if v then .idle else .active
          | x => x } }

/-- CADENCE_CHANGE (R267). -/
def execCadenceChange (s : State) : Host.Outcome State Fault Refusal :=
  .next (if s.cadenceDue then s.cadenceChange else s)

/-! Swap -/

/-- Every populated thermistor of the unit reads OPEN, and there is one (R273). -/
def State.ownThmOpen (s : State) : Bool :=
  let l := (List.range 32).filter fun i => s.thmPop (i + 1)
  !l.isEmpty && l.all fun i => (s.meas.shown.thm[i]?.getD {}).opn

/-- Some expected unit's thermistor flags are missing in this beat (R273). -/
def State.thmFlagsMissing (s : State) : Bool := s.otherUnits.any fun u => u.age != 0

/-- Every populated thermistor of the string reads OPEN (R273): which thermistors another unit populates its own image says (log
entry 92). -/
def State.allThmOpen (s : State) : Bool :=
  (s.ownThmOpen || ((List.range 32).all fun i => !s.thmPop (i + 1)) && !s.otherUnits.isEmpty) &&
    s.otherUnits.all fun u => (List.range 32).all fun i => !(Config.remoteThm u.addr).toNat.testBit i || u.thmOpen.toNat.testBit i

/-- The current unit populates the ID input (R273, R274): this unit, or another whose own image says so (log entry 71). -/
def State.idHere (s : State) : Bool := if s.currentUnit then s.on .ID_EN else Config.remoteIdEn s.addr

/-- A conversion of the ID input enters this evaluation: VALID, and the code decoded; one of another current unit every 10 beats, its
code a free value, because no frame carries it (R169, R273; log entry 71). -/
def State.idSeen (s : State) : Option (Bool × Nat) :=
  if s.currentUnit then (if s.chg.idFresh then some (s.meas.shown.id.valid, s.meas.shown.id.code) else none)
  else if s.beat.num.toNat % 10 = 8 then some (match Config.remoteId s.beat.num with | some c => (true, c % 64) | none => (false, 0))
  else none

/-- The evaluation counts towards a swap and towards the selection after it (R273, R274). -/
def State.swapCount (s : State) : State :=
  if !s.master then s
  else
    let other (x : Bool × Nat) : Bool := x.1 && s.record.any fun r => r.code != x.2
    let okId := !s.idHere || s.idSeen.any (·.1)
    { s with chg := { s.chg with
      idCode := match s.idSeen with | some (true, c) => c | _ => s.chg.idCode
      idDiff := match s.idSeen with
        | some x => if other x then s.chg.idDiff + 1 else 0
        | none => s.chg.idDiff
      openBeats := if s.thmFlagsMissing then s.chg.openBeats else if s.allThmOpen then s.chg.openBeats + 1 else 0
      okConv := if s.beat.num.toNat % 10 = 8 then (if okId && !s.allThmOpen then s.chg.okConv + 1 else 0) else s.chg.okConv
      idFresh := false } }

/-- A swap is detected: 1 by the identity input, 2 by the thermistors (R273). -/
def State.swapCause (s : State) : Option Nat :=
  if !s.accounting then none
  else if s.idHere && decide (3 ≤ s.chg.idDiff) then some 1
  else if 2000 ≤ s.chg.openBeats then some 2
  else none

/-- Detection: final checkpoint, record, counting suspended (R273). -/
def State.swap (s : State) : State :=
  match s.swapCause with
  | none => s
  | some c =>
    let t := s.checkpoint.event .data 0x404 [nword c, nword ((s.record.map (·.code)).getD 255)]
    { t with chg := { t.chg with swapPend := true, idDiff := 0, openBeats := 0, okConv := 0 } }

/-- A record is to be selected: after a swap, or when none is in force (R274, R276). -/
def State.selectDue (s : State) : Bool :=
  s.master && (s.chg.swapPend || s.chg.inForce.isNone) && decide (3 ≤ s.chg.okConv)

/-- The case of R274 and the record it names. -/
def State.selectCase (s : State) : Nat × Nat :=
  let rs := (List.range 8).map fun k => (k, s.recAt k)
  if !s.idHere then (4, 0)
  else match (rs.find? fun r => r.2.used && r.2.code == s.chg.idCode) with
    | some r => (1, r.1)
    | none => match rs.find? fun r => !r.2.used with
      | some r => (2, r.1)
      | none => (3, ((bestBy (fun a b => decide (a.2.useSeq < b.2.useSeq)) rs).map (·.1)).getD 0)

/-- The next last-use sequence (R276). -/
def State.nextUse (s : State) : Nat := maxN (s.chg.recs.map (·.useSeq)) + 1

/-- A quantity stored at another LSB1 (R277). -/
def State.convert (s : State) (r : IdRec) (x : Int) : Int :=
  if r.lsb1 = s.lsb1 ∨ s.lsb1 = 0 then x else divRnd (x * r.lsb1) s.lsb1

/-- A record restored under an image with another LSB1: CAP_U, cyc_rem and the QC and UQC of its slots convert, a QREF does
not (R277). -/
def State.restored (s : State) (r : IdRec) : IdRec :=
  let slot (c : Ckpt) : Ckpt := { c with qc := s.convert r c.qc, uqc := s.convert r c.uqc }
  { r with
    capU := s.convert r r.capU, cycRem := s.convert r r.cycRem, slotA := r.slotA.map slot, slotB := r.slotB.map slot
    lsb1 := if s.lsb1 = 0 then r.lsb1 else s.lsb1 }

/-- The accounting state that a restored record gives: from its governing checkpoint, or unanchored (R274, R275). -/
def State.accOf (s : State) (r : IdRec) (add : Int) (anchored : Bool) : Acc :=
  let base : Acc := { capU := r.capU, cyc := r.cyc, cycRem := r.cycRem, src := 0,
                      vmin := s.chg.acc.vmin, conf := s.chg.acc.conf, socV := s.chg.acc.socV,
                      haveSocV := s.chg.acc.haveSocV, stale := s.chg.acc.stale, heldBeats := s.chg.acc.heldBeats }
  match (if anchored then r.governing else none) with
  | some c =>
    { base with qc := c.qc, uqc := c.uqc, qref1 := c.qref1, qref2 := c.qref2, ua := c.ua + add,
                age := c.age, pbeat := c.pbeat, conflict := c.conflict, starved := c.starved, unanch := c.unanch,
                learn := false, learnFull := c.learnFull, anchType := c.anchType }
  | none => { base with unanch := true, ua := 100000, needQc := true }

/-- A new record (R275). -/
def State.newRecord (s : State) (code : Nat) : IdRec :=
  { used := true, code := code, useSeq := s.nextUse, capU := s.capNomU, lsb1 := s.lsb1, dflt := s.defaultTable }

/-- QREF and PBEAT at the current published values (R274). -/
def Acc.refer (a : Acc) (p : Option Published) : Acc :=
  match p with
  | some p => { a with qref1 := p.q1, qref2 := p.q2, pbeat := p.beat }
  | none => a

/-- RECORD_SELECT (R274): select the record, take its state, resume counting. -/
def State.selectRecord (s : State) : State :=
  let (k, i) := s.selectCase
  let old := s.recAt i
  let code := if k = 4 then 255 else s.chg.idCode
  let fresh := k == 2 || k == 3 || !old.used
  let r := if fresh then s.newRecord code else { s.restored old with useSeq := s.nextUse }
  let a := (s.accOf r (s.par .U_SWAP) (k == 1)).refer s.chg.pub
  let t := s.event .data 0x405 [nword i, nword code, nword k, nword (if k = 3 then old.code else 255)]
  let t := { t with chg := { t.chg with
    recs := t.chg.recs.set i r, inForce := some i, swapPend := false, okConv := 0, idDiff := 0, openBeats := 0, acc := a
    recNew := true, cov := [] } }
  onlyIf a.starved (State.raiseCond 54 0) (onlyIf a.conflict (State.raiseCond 53 0) ((t.endCond 53).endCond 54))

/-- What the EST block shows of the records (R278). -/
def State.estPub (s : State) : EstPub :=
  { valid := s.accounting, slow := s.chg.slowDecided, swap := s.chg.swapPend, record := s.chg.inForce
    used := s.chg.recs.map (·.used), code := (s.record.map (·.code)).getD 255 }

/-- The registers of the EST block that a start sets from MRAM (R16, R278): records, cycle count, anchor age. -/
def State.estStart (s : State) : State :=
  { s with chg := { s.chg with
      est := { s.estPub with valid := false }
      shown := { s.chg.shown with cyc := s.chg.acc.cyc, age := s.chg.acc.age }
      recsShown := s.chg.recs } }

/-- The accounting state at a start: that of the record last used, with U_RESTART added and LEARN cleared (R271, R276, R277); the
first delta counts one beat. -/
def State.accRestart (s : State) : State :=
  let used := ((List.range 8).map fun k => (k, s.recAt k)).filter fun r => r.2.used
  match bestBy (fun a b => decide (b.2.useSeq < a.2.useSeq)) used with
  | none => State.estStart { s with chg := { s.chg with inForce := none } }
  | some (i, r) =>
    let q := s.restored r
    let a := s.accOf q (s.par .U_RESTART) true
    State.estStart { s with chg := { s.chg with
      inForce := some i, recs := s.chg.recs.set i q, acc := { a with pbeat := 0 - 1 }, cov := [] } }

/-- A standby Master that takes over goes on from the last copy that it received (R249). -/
def State.accTakeover (s : State) : State :=
  match s.chg.copy, s.record with
  | some c, some old =>
    let r := s.restored old
    (s.setRecord s.restored).setAcc fun a => { a with
      capU := r.capU, cyc := r.cyc, cycRem := r.cycRem, qc := c.qc, uqc := c.uqc, qref1 := c.qref1, qref2 := c.qref2,
      ua := c.ua, age := c.age, pbeat := c.pbeat, conflict := c.conflict, starved := c.starved, unanch := c.unanch,
      learn := c.learn, learnFull := c.learnFull, anchType := c.anchType, needQc := false }
  | _, _ => s

end Sys2Proof.Machine
end

