-- ==== Sys2Proof/Machine/Protect.lean ====
section
/-! DEFINITION. Protection: level functions, overcurrent, instant trip, conditions of the unit and of the string
(R296-R302, R320, R321). -/

namespace Sys2Proof.Machine

/-- One run of a level function whose value crosses, or not, toward the other state (R299). -/
def Lv.step (l : Lv) (cross : Bool) (deb : Nat) : Lv :=
  if cross then (if deb ≤ l.cnt + 1 then { cnt := 0, st := !l.st } else { l with cnt := l.cnt + 1 }) else { l with cnt := 0 }

/-- level_hi of R299. -/
def Lv.hi (l : Lv) (x thr hys : Int) (deb : Nat) : Lv := l.step (if l.st then decide (x < thr - hys) else decide (thr ≤ x)) deb

/-- The mirror form for low levels (R299). -/
def Lv.lo (l : Lv) (x thr hys : Int) (deb : Nat) : Lv := l.step (if l.st then decide (thr + hys < x) else decide (x ≤ thr)) deb

/-- What a cell enters a channel's level functions as: the value for overvoltage and the value for undervoltage; none when it is
not judged (R296, R299). -/
def State.cellInput (s : State) (ch : Ch) (n : Nat) : Option (Int × Int) :=
  let v := s.cellOf ch n
  let w := s.view ch
  if w.beyond[n - 1]?.getD false then some (farOut, -farOut)
  else if v.invalid then (w.bounds[n - 1]?.getD none).map fun b => (b.2, b.1)
  else match w.held[n - 1]?.getD none with
    | some h => some (h, h)
    | none =>
      match ch with
      | .a => if v.valid && (!v.stale || !s.meas.cellWin) then some (v.level, v.level) else none
      | .b =>
        if s.meas.freshB.contains n then
          let c := (s.meas.chkB[n - 1]?.getD {}).code
          some (c, c)
        else none

/-- The check conversion of cell n was due in the evaluated beat (R146). -/
def State.chkDue (s : State) (n : Nat) : Bool := s.meas.chkJ.any fun j => (n - 1) % 4 == j

/-- The channel judges the cell on what the primary values give: it is INVALID, or held beside a pulled pin (R296). -/
def State.cellSpecial (s : State) (ch : Ch) (n : Nat) : Bool :=
  (s.cellOf ch n).invalid || ((s.view ch).held[n - 1]?.getD none).isSome || ((s.view ch).beyond[n - 1]?.getD false)

/-- A lone cell that the unit measuring VSTK judges is not judged here (R195, R299; log entry 62). -/
def State.cellElsewhere (s : State) (ch : Ch) (n : Nat) : Bool :=
  (s.cellOf ch n).invalid && !(s.cellOf ch n).valid && !s.judgesLone

/-- One cell's four voltage levels on a value for each direction (R299). -/
def State.cellStep (s : State) (deb : Nat) (hi lo : Int) (x : CellLv) : CellLv :=
  let h := s.par .V_HYS
  { x with
    ovLim := x.ovLim.hi hi (s.par .OV_LIM) h deb, ovTrip := x.ovTrip.hi hi (s.par .OV_TRIP) h deb
    uvLim := x.uvLim.lo lo (s.par .UV_LIM) h deb, uvTrip := x.uvTrip.lo lo (s.par .UV_TRIP) h deb }

/-- One cell's level functions in one channel (R296, R299): per beat on channel A and for a cell that a channel judges on
primary values, else per check conversion. A beat without a window of the cell group, or without a conversion due, judges the
held value as before and does not count toward measurement lost (R299). -/
def State.cellLevels (s : State) (ch : Ch) (n : Nat) (x : CellLv) : CellLv :=
  let due := match ch with
    | .a => true
    | .b => s.chkDue n || s.cellSpecial ch n
  let counts := match ch with
    | .a => s.meas.cellWin
    | .b => s.chkDue n
  let deb := match ch with
    | .a => s.nat .DEB_V
    | .b => s.nat .DEB_CHK
  if !s.cellPop n || !due || s.cellElsewhere ch n then x
  else match s.cellInput ch n with
    | none => if !counts then x else { x with none := incSat 255 x.none, lost := decide (deb ≤ x.none + 1) }
    | some (hi, lo) =>
      let y := s.cellStep deb hi lo x
      if counts || (s.cellSpecial ch n && s.meas.cellWin) then { y with none := 0, lost := false } else y

/-- The levels of another unit's lone cell so far. -/
def levelOf (l : List RemoteLv) (unit : UAddr) (cell : Nat) : CellLv :=
  match l.find? fun r => r.unit == unit && r.cell == cell with
  | some r => r.lv
  | none => {}

/-- The level functions of the lone cells of other units in the unit that measures VSTK (R195, R296). Without a window of the cell
group the bounds last formed are judged as before (R299). -/
def State.remoteLevels (s : State) (ch : Ch) (l : List RemoteLv) : List RemoteLv :=
  let deb := match ch with
    | .a => s.nat .DEB_V
    | .b => s.nat .DEB_CHK
  let judge (unit : UAddr) (cell : Nat) (b : Option (Int × Int)) (x : CellLv) : RemoteLv :=
    let (lo, hi) := b.getD (-farOut, farOut)
    { unit := unit, cell := cell, bounds := b, lv := s.cellStep deb hi lo x }
  if s.meas.cellWin then
    (s.remoteLone ch).map fun c =>
      judge c.unit c.cell c.bounds (levelOf l c.unit c.cell)
  else l.map fun r => judge r.unit r.cell r.bounds r.lv

/-- The conversion slots of the beat: the thermistor and whether it has a new VALID value (R165, R299). -/
def State.slotResults (s : State) : List (Nat × Bool) :=
  if s.meas.thmSlots.isEmpty then s.thmSlot.map fun t => (t, false) else s.meas.thmSlots

/-- One thermistor's level functions (R299). -/
def State.thmLevels (s : State) (t : Nat) (x : ThmLv) : ThmLv :=
  match s.slotResults.find? fun r => r.1 == t with
  | none => x
  | some (_, false) => { x with none := incSat 3 x.none, lost := decide (2 ≤ x.none) }
  | some (_, true) =>
    let v := (s.meas.shown.thm[t - 1]?.getD {}).temp
    let h := s.par .T_HYS
    let d := s.nat .DEB_T
    { otLim := x.otLim.hi v (s.par .OT_LIM) h d, otTrip := x.otTrip.hi v (s.par .OT_TRIP) h d,
      utLim := x.utLim.lo v (s.par .UT_LIM) h d, utTrip := x.utTrip.lo v (s.par .UT_TRIP) h d, none := 0, lost := false }

/-- The insulation result as a channel has it (R22, R162). -/
def State.isoOf (s : State) : Ch → IsoB
  | .a => { min := s.meas.iso.min, trip := s.meas.iso.trip, warn := s.meas.iso.warn, valid := s.meas.iso.valid }
  | .b => s.meas.iso.b

/-- The insulation level functions on the flags of a fresh valid cycle (R162, R298). -/
def State.isoLevel (s : State) (valid below : Bool) (l : Lv) : Lv :=
  if s.meas.iso.fresh && valid then l.step (l.st != below) (s.nat .ISO_DEB) else l

/-- A cell's trip sets (R299). -/
def CellLv.trips (old new : CellLv) : Bool := (new.ovTrip.st && !old.ovTrip.st) || (new.uvTrip.st && !old.uvTrip.st)

/-- Some cell level of a channel changes its trip to set: the first in ascending order (R299). -/
def newTrip (old new : List CellLv) : Option Nat :=
  ((positions (fun p : CellLv × CellLv => p.1.trips p.2) (old.zip new)).head?).map (· + 1)

/-- The same of the lone cells of other units that a channel judges (R195, R299): unit and cell. -/
def newRemoteTrip (old new : List RemoteLv) : Option (UAddr × Nat) :=
  (new.find? fun r => (levelOf old r.unit r.cell).trips r.lv).map fun r => (r.unit, r.cell)

/-- The channel evaluates this beat: its cores execute and its evaluation completes in time (R32, R96, R362). -/
def State.evals (s : State) (ch : Ch) : Bool :=
  s.works ch && !((match ch with | .a => s.beat.doneA | .b => s.beat.doneB).any fun us => decide (980 < us))

/-- The level functions of one channel (R299). -/
def State.levels (ch : Ch) (s : State) : State :=
  if !s.evals ch then s
  else s.setChan ch fun c =>
    { c with
      cells := (indexed c.cells).map fun x => s.cellLevels ch (x.1 + 1) x.2
      remote := s.remoteLevels ch c.remote
      thms := (indexed c.thms).map fun x => if s.thmPop (x.1 + 1) then s.thmLevels (x.1 + 1) x.2 else x.2
      isoWarn := s.isoLevel (s.isoOf ch).valid (s.isoOf ch).warn c.isoWarn
      isoTrip := s.isoLevel (s.isoOf ch).valid (s.isoOf ch).trip c.isoTrip }

/-- The first of two outcomes. -/
def orElse {α : Type} (a b : Option α) : Option α := match a with
  | some x => some x
  | none => b

/-- PROT_WORST names the cell behind the latest cell trip: an own one, which the condition word carries, else the first lone cell of
another unit that is judged here (R195, R299). -/
def SafeS.named (x : SafeS) (unit : UAddr) (own : Option Nat) (far : Option (UAddr × Nat)) : SafeS :=
  match own, far with
  | some n, _ => { x with worstUnit := unit, worstCell := n, tripCell := n }
  | none, some (u, n) => { x with worstUnit := u, worstCell := n }
  | none, none => x

/-- Every level function of the beat in both channels, and the cell behind the latest trip (R299). -/
def State.protectionLevels (s : State) : State :=
  let t := (s.levels .a).levels .b
  { t with
    meas := { t.meas with iso := { t.meas.iso with fresh := false }, thmSlots := [] }
    safe := t.safe.named s.addr (orElse (newTrip s.cha.cells t.cha.cells) (newTrip s.chb.cells t.chb.cells))
      (orElse (newRemoteTrip s.cha.remote t.cha.remote) (newRemoteTrip s.chb.remote t.chb.remote)) }

/-- The current of R296 in mA as a channel sees it. -/
def State.chanCurrent (s : State) (ch : Ch) : Option Int :=
  if s.curPop 0 && (s.curOf ch 0).now then some (s.curMa 0 (s.curOf ch 0).code)
  else if s.curPop 1 && (s.curOf ch 1).now then some (s.curMa 1 (s.curOf ch 1).code)
  else none

/-- I²t of one channel (R300): I2T_TRIP within EVALUATION. -/
def State.i2tStep (ch : Ch) (s : State) : State :=
  if !s.evals ch || !s.currentUnit then s
  else match s.chanCurrent ch with
    | none => s.setChan ch fun c => { c with noCur := true }
    | some i =>
      let ic := if 0 ≤ i then s.par .ICONT_CHG else s.par .ICONT_DIS
      let lim : Int := s.par .I2T_MAX * 1000000000
      s.setChan ch fun c =>
        let acc := clamp 0 lim ((c.acc : Int) + (i * i - ic * ic))
        { c with noCur := false, acc := acc.toNat
                 i2t := if lim ≤ acc then true else if 2 * acc < lim then false else c.i2t }

/-- A hit of the instant trip (R301). -/
def State.hitOf (s : State) (r : Option Raw) : Bool :=
  match r with
  | none => false
  | some x => x.ovl || decide (16 * s.par .ITRIP_CHG ≤ x.x) || decide (x.x ≤ -(16 * s.par .ITRIP_DIS))

/-- The instant trip decides (R301). -/
def State.tripOf (s : State) (h1 h2 : Bool) : Bool :=
  if s.par .FT_VOTE = 0 then h1 || h2 else if s.curPop 1 then h1 && h2 else h1

/-- Some populated cell holds a level. -/
def ChanS.anyCell (c : ChanS) (f : CellLv → Bool) : Bool := c.cells.any f || c.remote.any fun r => f r.lv

/-- A word of flags, bit i for element i. -/
def packBits (l : List Bool) : Nat := (positions id l).foldl (fun a i => a + 2 ^ i) 0

/-- The conditions that the channel's sequencer has set (R307-R314): PROT_COND bits 8 to 11 and 14. -/
def ChanS.seqWord (c : ChanS) : BitVec 15 :=
  BitVec.ofNat 15 (256 * packBits [c.weld || c.mirWeld, c.ftc || c.mirFtc, c.shorted, c.timeout, false, false, c.unreq])

/-- The conditions of the last evaluation as PROT_COND shows them, the sequencer's of its later stages included (R318). -/
def ChanS.shownCond (c : ChanS) : BitVec 15 := c.condRest ||| c.seqWord

/-- The unit's own conditions in a channel but for the sequencer's (R296, PROT_COND). -/
def State.ownCond (s : State) (ch : Ch) : BitVec 15 :=
  let c := s.chan ch
  BitVec.ofNat 15 (packBits [
    c.anyCell fun x => x.ovTrip.st, c.anyCell fun x => x.uvTrip.st,
    c.thms.any fun x => x.otTrip.st, c.thms.any fun x => x.utTrip.st,
    c.i2t, c.fast, c.isoTrip.st, c.isoWarn.st, false, false, false, false,
    (s.integ.sumOf ch).mis, s.wireExpired && s.par .OW_REACT = 2,
    (c.cells.any fun x => x.lost) || (c.thms.any fun x => x.lost) || c.noCur])

/-- The unit's own limit requests in a channel (PROT_LREQ). -/
def ChanS.ownLreq (c : ChanS) : BitVec 4 :=
  BitVec.ofNat 4 (packBits [c.anyCell fun x => x.ovLim.st, c.anyCell fun x => x.uvLim.st,
    c.thms.any fun x => x.otLim.st, c.thms.any fun x => x.utLim.st])

/-- What a unit's condition word gives a channel of the Master: its last word for at most two beats without one, then
measurement lost (R321). -/
def UnitS.condFor (u : UnitS) : Ch → BitVec 15 × BitVec 4
  | .a => if u.lostA then (0x4000, 0) else (u.condA, u.lreqA)
  | .b => if u.lostB then (0x4000, 0) else (u.condB, u.lreqB)

/-- Conditions of the beat in one channel: own and, in the Master, string-wide (R297, R299, R321). -/
def State.conditions (ch : Ch) (s : State) : State :=
  if !s.evals ch then s
  else
    let own := s.ownCond ch
    let lr := (s.chan ch).ownLreq
    let words := if s.master then s.otherUnits.map (fun u => u.condFor ch) else []
    s.setChan ch fun c =>
      { c with condOwn := own ||| c.seqWord, lreqOwn := lr
               condRest := words.foldl (fun a w => a ||| w.1) own
               cond := words.foldl (fun a w => a ||| w.1) own ||| c.seqWord
               lreq := words.foldl (fun a w => a ||| w.2) lr }

/-- PROT_LATCH takes the conditions that the registers show (R318). -/
def State.latchCond (s : State) : State :=
  { s with safe := { s.safe with latch := s.safe.latch ||| (if s.runs .a then s.cha.shownCond else s.chb.shownCond) } }

/-- I²t and conditions of both channels. -/
def State.conditionStage (s : State) : State :=
  ((((s.i2tStep .a).i2tStep .b).conditions .a).conditions .b).latchCond

/-- MONITOR_WORD_MISSING (R321): in the third consecutive beat without a word the channel sets measurement lost. -/
def UnitS.wordMissing (u : UnitS) : Ch → UnitS
  | .a => { u with lostA := true }
  | .b => { u with lostB := true }

/-- A Monitor's word has been missing in three consecutive beats (R321). -/
def UnitS.wordDue (u : UnitS) : Ch → Bool
  | .a => decide (3 ≤ u.missA) && !u.lostA
  | .b => decide (3 ≤ u.missB) && !u.lostB

/-- Measurement lost for the unit at a position (R321). -/
def State.wordMissing (pos : BitVec 8) (ch : Ch) (s : State) : State :=
  { s with ring := { s.ring with
    roster := s.ring.roster.map fun u =>
      if u.addr == uAddr (uStr s.addr) pos.toNat && u.wordDue ch then u.wordMissing ch else u } }

/-- MONITOR_WORD_MISSING (R321). -/
def execMonitorWordMissing (pos : BitVec 8) (ch : Ch) (s : State) : Host.Outcome State Fault Refusal :=
  .next (s.wordMissing pos ch)

/-- Every word that is due sets measurement lost (R321). -/
def State.wordsMissing (s : State) : State :=
  { s with ring := { s.ring with
    roster := s.ring.roster.map fun u =>
      let v := if u.wordDue .a then u.wordMissing .a else u
      if v.wordDue .b then v.wordMissing .b else v } }

end Sys2Proof.Machine
end

