-- ==== Sys2Proof/Machine/Escape.lean ====
section
/-! DEFINITION. The escapement graph: selectors, blocks, outputs (R322-R326). -/

namespace Sys2Proof.Machine

/-- One block record of the graph (R322). -/
structure EscBlk where
  type : Nat := 0
  fast : Bool := false
  inv : Bool := false
  low : Bool := false
  persist : Bool := false
  diverse : Bool := false
  pa : Nat := 0
  ins : List Nat := []
  pb : Int := 0
  deriving DecidableEq, Repr

/-- A block record from its 16 bytes (R322). -/
def EscBlk.parse (v : List Int) : EscBlk :=
  let b (i : Nat) : Nat := (v[i]?.getD 0).toNat
  let h (i : Nat) : Nat := 256 * b i + b (i + 1)
  let w : Int := 65536 * h 12 + h 14
  { type := b 0, fast := (b 1).testBit 0, inv := (b 1).testBit 1, low := (b 1).testBit 2, persist := (b 1).testBit 3,
    diverse := (b 1).testBit 4, pa := h 2, ins := [h 4, h 6, h 8, h 10],
    pb := if w < 2147483648 then w else w - 4294967296 }

/-- The blocks of the image with their indices, ascending (R322). -/
def State.blocks (s : State) : List (Nat × EscBlk) :=
  sortBy (fun a b => decide (a.1 ≤ b.1))
    ((s.img.recs.filter fun r => r.par = .BLOCK).map fun r => (r.index, EscBlk.parse r.vals))

/-- The block at an index (R322). -/
def State.block (s : State) (i : Nat) : EscBlk := (((s.blocks).find? fun x => x.1 == i).map (·.2)).getD {}

/-- Class of a selector (R323). -/
def selClass (x : Nat) : Nat := x / 256 % 128
/-- Index of a selector. -/
def selIndex (x : Nat) : Nat := x % 256
/-- The selector marks an unused input. -/
def selUnused (x : Nat) : Bool := x % 32768 == 32767
/-- The selector inverts. -/
def selInv (x : Nat) : Bool := x.testBit 15

/-- The highest or lowest of a list, with the units' figures. -/
def State.extreme (s : State) (hi : Bool) (own : List Int) (others : UnitS → Option Int) : Option Int :=
  let l := own ++ (if s.master then s.otherUnits.filterMap fun u => if u.pres then others u else none else [])
  if hi then maxI l else minI l

/-- The highest and the lowest thermistor of a unit as its condition word gives them to a channel; none while none is VALID
(R323, R409). -/
def UnitS.temps (u : UnitS) : Ch → Option (Int × Int)
  | .a => if u.hotA = -32768 then none else some (u.hotA, u.coldA)
  | .b => if u.hotB = -32768 then none else some (u.hotB, u.coldB)

/-- Check values of the populated cells as channel B has them (R22, R147). -/
def State.checkValues (s : State) : List Int :=
  (indexed s.meas.chkB).filterMap fun x => if s.cellPop (x.1 + 1) && decide (x.2.age < 255) then some x.2.code else none

/-- A numeric source of class 10; none while it has no VALID value (R323). -/
def State.numSource (s : State) (ch : Ch) (i : Nat) : Option Int :=
  let cells := match ch with
    | .a => s.meas.shown.validCells.map (·.2)
    | .b => s.checkValues
  let temps := s.meas.shown.thm.filterMap fun t => if t.valid then some t.temp else none
  let ok (v : Val) (x : Int) : Option Int := if v.now then some x else none
  match i with
  | 0 => s.extreme true cells fun u => match ch with | .a => u.hiA | .b => u.hiB
  | 1 => s.extreme false cells fun u => match ch with | .a => u.loA | .b => u.loB
  | 2 => if (s.hvOf ch 0).now then some (s.hvOf ch 0).code else none
  | 3 => if (s.hvOf ch 1).now then some (s.hvOf ch 1).code else none
  | 4 => if (s.hvOf ch 2).now then some (s.hvOf ch 2).code else none
  | 5 => ok (s.curOf ch 0) (s.curMa 0 (s.curOf ch 0).code)
  | 6 => ok (s.curOf ch 1) (s.curMa 1 (s.curOf ch 1).code)
  | 7 => if (s.isoOf ch).valid then some (s.isoOf ch).min else none
  | 8 => s.extreme true temps fun u => (u.temps ch).map (·.1)
  | 9 => s.extreme false temps fun u => (u.temps ch).map (·.2)
  | 10 => some s.pwr.vk
  | _ => none

/-- Input n (0 to 7) reads open on both channels: a contact of it has failed its test, or its contacts differ (R337, R338). -/
def State.inputBad (s : State) (n : Nat) : Bool :=
  (s.cha.tstBad[n]?.getD false) || (s.chb.tstBad[n]?.getD false) || (s.safe.disc[n]?.getD false)

/-- Input n (0 to 7) as the escapement and the sequencer read it: debounced, after its test and without discrepancy (R317,
R337, R338). -/
def State.inputOf (s : State) (ch : Ch) (n : Nat) : Bool := ((s.chan ch).inp[n]?.getD false) && !s.inputBad n

/-- Unit of this string at a position is lost to the channel (R321, R323). -/
def State.unitLost (s : State) (ch : Ch) (pos : Nat) : Bool :=
  s.ring.roster.any fun u => u.addr == uAddr (uStr s.addr) pos && u.expect && u.addr != s.addr &&
    (!u.pres || (match ch with | .a => u.lostA | .b => u.lostB))

/-- A string ring that reads Lost (R417, R323). -/
def State.ringLost (s : State) : Bool := s.ring.str == .lost && !s.otherUnits.isEmpty

/-- A trunk that reads lost (R422). -/
def State.trunkLost (s : State) : Bool := s.ring.trk == .lost

/-- A selector's value outside classes 1, 2, 10 (R323). -/
def State.source (s : State) (ch : Ch) (cls i : Nat) : Bool :=
  let c := s.chan ch
  match cls with
  | 0 => i == 1
  | 3 => c.cond.toNat.testBit i
  | 4 => c.lreq.toNat.testBit i
  | 5 => decide (i < 8) && s.inputOf ch i
  | 6 => c.seq.state.code == i
  | 7 => decide (i < 128) && s.fsafe i
  | 8 => match i with
    | 0 => !c.declared
    | 1 => s.safe.x.present
    | 2 => s.ringLost
    | 3 => s.trunkLost
    | 4 => s.safe.hostLost
    | 5 => c.seq.rdWarned
    | 6 => s.crowns
    | 7 => s.pwr.wakePin
    | _ => false
  | 9 => (c.tel[i]?.getD {}).lost
  | 11 => match i with
    | 0 => c.hit1
    | 1 => c.hit2
    | _ => if i < 10 then c.raw.toNat.testBit (i - 2) && !s.inputBad (i - 2) else decide (i < 18) && (s.safe.out[i - 10]?.getD {}).tpFail
  | 12 => s.unitLost ch i
  | _ => false

/-- A selector's value while blocks are evaluated: none when unused (R323, R325). l is the state of the blocks so far. -/
def State.selVal (s : State) (ch : Ch) (fastMode : Bool) (blks : List (Nat × EscBlk)) (l : List BlkS) (x : Nat) : Option Bool :=
  if selUnused x then none
  else
    let i := selIndex x
    let b := l[i]?.getD {}
    let f := blks.any fun y => y.1 == i && y.2.fast
    let v := match selClass x with
      | 1 => if f && !fastMode then b.at12 else b.out
      | 2 => if f && !fastMode then b.at12Prev else b.prev
      | c => s.source ch c i
    some (v != selInv x)

/-- The SEQ block (R324). -/
def BlkS.seqStep (x : BlkS) (in0 in1 : Bool) (pa pb : Nat) : BlkS :=
  if in1 then { x with cnt := 0, age := 0 }
  else if 0 < pb ∧ x.cnt ≠ 0 ∧ pb ≤ x.age + 1 then { x with cnt := 0, age := 0 }
  else if x.cnt < pa ∧ in0 then { x with cnt := x.cnt + 1, age := 0 }
  else { x with age := x.age + 1 }

/-- A debounced bit: cnt is the run toward the other state, age holds the state (R324). -/
def BlkS.debStep (x : BlkS) (in0 : Bool) (pa pb : Nat) : BlkS :=
  let st := x.age == 1
  if in0 == st then { x with cnt := 0 }
  else
    let lim := max 1 (if in0 then pa else pb)
    if lim ≤ x.cnt + 1 then { x with cnt := 0, age := if in0 then 1 else 0 } else { x with cnt := x.cnt + 1 }

/-- CMP: the held state after a value (R324). -/
def cmpStep (low st : Bool) (pa : Nat) (pb x : Int) : Bool :=
  if low then (if x ≤ pb then true else if pb + pa < x then false else st)
  else (if pb ≤ x then true else if x < pb - pa then false else st)

/-- A block's state after an evaluation with its input values, before INV is applied to the output (R324). -/
def EscBlk.run (b : EscBlk) (ins : List (Option Bool)) (num : Option Int) (x : BlkS) : BlkS :=
  let used := ins.filterMap id
  let i0 := (ins[0]?.getD none).getD false
  let i1 := (ins[1]?.getD none).getD false
  let y := match b.type with
    | 1 => { x with out := used.all id }
    | 2 => { x with out := used.any id }
    | 3 => { x with out := decide (b.pa ≤ (used.filter id).length) }
    | 4 => match num with
      | none => { x with out := x.cnt == 1 }
      | some v => let st := cmpStep b.low (x.cnt == 1) b.pa b.pb v
                  { x with cnt := if st then 1 else 0, out := st }
    | 5 => let z := x.debStep i0 b.pa b.pb.toNat
           { z with out := z.age == 1 }
    | 6 => let st := i0 || (x.cnt == 1 && !i1)
           { x with cnt := if st then 1 else 0, out := st }
    | 7 => let z := x.seqStep i0 i1 b.pa b.pb.toNat
           { z with out := z.cnt == b.pa }
    | _ => { x with out := false }
  { y with out := y.out != b.inv }

/-- One block in the order of evaluation (R325). -/
def State.blockStep (s : State) (ch : Ch) (fastMode : Bool) (blks : List (Nat × EscBlk)) (l : List BlkS)
    (ib : Nat × EscBlk) : List BlkS :=
  let b := ib.2
  if b.fast != fastMode then l
  else
    let num := match b.ins.head? with
      | some x => if selClass x = 10 && !selUnused x then s.numSource ch (selIndex x) else none
      | none => none
    l.modify ib.1 (b.run (b.ins.map (s.selVal ch fastMode blks l)) num)

/-- All blocks of one kind, in ascending index, after their previous outputs are kept (R325). -/
def State.runBlocks (s : State) (ch : Ch) (fastMode : Bool) : List BlkS :=
  let blks := s.blocks
  let l := (indexed (s.chan ch).esc).map fun x =>
    if blks.any (fun y => y.1 == x.1 && y.2.fast == fastMode) then { x.2 with prev := x.2.out } else x.2
  blks.foldl (s.blockStep ch fastMode blks) l

/-- A mapped output (R326): unmapped reads 0. -/
def State.mappedOut (s : State) (ch : Ch) (fastMode : Bool) (l : List BlkS) (p : Param) : Bool :=
  (s.selVal ch fastMode s.blocks l (s.nat p)).getD false

/-- A mapped output is driven by a fast block (R326). -/
def State.fastDriven (s : State) (p : Param) : Bool :=
  let x := s.nat p
  !selUnused x && selClass x == 1 && (s.block (selIndex x)).fast

/-- The parameters that map OUT1 to OUT8. -/
def outParams : List Param := [.OUT1, .OUT2, .OUT3, .OUT4, .OUT5, .OUT6, .OUT7, .OUT8]

/-- ESCAPEMENT_EVALUATION, within EVALUATION (R325, R326): beat blocks, then the outputs they drive. -/
def State.escapement (ch : Ch) (s : State) : State :=
  if !s.evals ch then s
  else
    let l := s.runBlocks ch false
    s.setChan ch fun c =>
      { c with
        esc := l
        out := { c.out with
          openReq := s.mappedOut ch false l .OPEN_REQ
          safeReq := s.mappedOut ch false l .SAFE_REQ
          closePermit := s.mappedOut ch false l .CLOSE_PERMIT
          outs := (indexed outParams).map fun x =>
            if s.fastDriven x.2 then c.out.outs[x.1]?.getD false else s.mappedOut ch false l x.2
          nflt := s.mappedOut ch false l .NFLT
          inh := (ch == .b) && s.mappedOut ch false l .INH } }

/-- The block is a LATCH with PERSIST (R325). -/
def EscBlk.persists (b : EscBlk) : Bool := b.type == 6 && b.persist

/-- The persistent latches with the values they hold (R325). -/
def State.persistents (s : State) (ch : Ch) : List (Nat × Bool) :=
  (s.blocks.filter fun b => b.2.persists).map fun b => (b.1, ((s.chan ch).esc[b.1]?.getD {}).cnt == 1)

/-- The persistent latches go to persistent unit state (R325). -/
def State.keepPersistents (s : State) : State :=
  { s with safe := { s.safe with persistA := s.persistents .a, persistB := s.persistents .b } }

/-- The persistent latches are kept, and channel B's inhibit goes to the segments over their links (R19, R23, R325, R326). -/
def State.escapementEnd (s : State) : State :=
  { s.keepPersistents with
    bal := { s.bal with inhB := (indexed s.bal.inhB).map fun x => if s.linkUp x.1 .b then s.chb.out.inh else x.2 } }

/-- FAST_BLOCK_EVALUATION, within SUB_BEAT (R325, R326): fast blocks of sub-beat j, FAST_TRIP and the outputs they drive. -/
def State.fastBlocks (ch : Ch) (j : Nat) (s : State) : State :=
  if !s.runs ch then s
  else
    let l := s.runBlocks ch true
    let m := if j = 12 then l.map fun x => { x with at12Prev := x.at12, at12 := x.out } else l
    s.setChan ch fun c =>
      { c with
        esc := m
        out := { c.out with
          fastTrip := s.mappedOut ch true m .FAST_TRIP
          outs := (indexed outParams).map fun x =>
            if s.fastDriven x.2 then s.mappedOut ch true m x.2 else c.out.outs[x.1]?.getD false } }

/-- A block after a module reset: everything 0, but a LATCH with PERSIST that was kept has its held value and its output (R325). -/
def EscBlk.restored (b : EscBlk) : Option Bool → BlkS
  | none => {}
  | some held =>
    if b.persists then
      { cnt := if held then 1 else 0, out := held != b.inv, prev := held != b.inv, at12 := held != b.inv, at12Prev := held != b.inv }
    else {}

/-- The escapement after a module reset: everything 0 but the persistent latches of the loaded graph (R325). -/
def State.escapementReset (s : State) : State :=
  let fresh (kept : List (Nat × Bool)) : List BlkS :=
    (List.range 256).map fun i => (s.block i).restored ((kept.find? fun x => x.1 == i).map (·.2))
  (s.setChan .a fun c => { c with esc := fresh s.safe.persistA, out := {} }).setChan .b
    fun c => { c with esc := fresh s.safe.persistB, out := {} }

end Sys2Proof.Machine
end

