-- ==== Sys2Proof/Machine/Sequencer.lean ====
section
/-! DEFINITION. The contactor sequencer of each channel, the outputs it drives and the requests (R303-R316, R329-R331). -/

namespace Sys2Proof.Machine

/-- Role of output n, 1 to 8 (R318). -/
def State.outRole (s : State) (n : Nat) : Nat := s.nat .ROLE n
/-- Output n is opened by the fast trip (R301). -/
def State.outFast (s : State) (n : Nat) : Bool := s.on .FAST n
/-- The unit drives contactors: the active Master, started (R303, R416, R508). -/
def State.drives (s : State) : Bool := s.master && s.upAndRunning

/-- Command every output of a role in a channel; a command to open is a demand, whatever the output's state (R336). -/
def State.setRole (s : State) (role : Nat) (v : Bool) (q : Seq) : Seq :=
  { q with
    cmd := (indexed q.cmd).map fun x => if s.outRole (x.1 + 1) = role then v else x.2
    opens := (indexed q.opens).map fun x => if s.outRole (x.1 + 1) = role then !v else x.2 }

/-- Change the sequencer of a channel. -/
def State.setSeq (s : State) (ch : Ch) (f : Seq → Seq) : State := s.setChan ch fun c => { c with seq := f c.seq }

/-- The channel that reports: A while it runs (R366, R318). -/
def State.reports (s : State) (ch : Ch) : Bool := ch == (if s.runs .a then .a else .b)

/-- RESULT of a sequence, with its record (R310, R318, R490 code 0x0502). -/
def State.seqResult (ch : Ch) (r : Nat) (left entered : Ctl) (s : State) : State :=
  if s.reports ch then
    State.event .control 0x502 [nword r, nword left.code, nword entered.code] { s with safe := { s.safe with result := r } }
  else s

/-- A coil side after its command: none leaves an undriven side as it is latched (R330). -/
def sideAfter (locked was : Bool) (cmd : Option Bool) : Bool := !locked && cmd.getD was

/-- An output after its two sides' commands (R315, R316): the pull-in begins when it closes. -/
def OutS.drive (x : OutS) (h l : Option Bool) : OutS :=
  let h' := sideAfter x.locked x.h h
  let l' := sideAfter x.locked x.l l
  let now := h' && l'
  if now && !x.closed then
    { x with h := h', l := l', closed := true, since := 0, eco := false, pullDue := true, edge := 0, lowBeats := 0,
             lowBeatsB := 0,
             ops := incSat 4294967295 x.ops }
  else if !now && x.closed then
    { x with h := h', l := l', closed := false, since := 0, eco := false, pullDue := false, edge := 0 }
  else { x with h := h', l := l' }

/-- What a channel commands to its side of output i (0 to 7): nothing when it does not drive (R315, R330); a close that an
on-pulse deferred stays open (R336). -/
def State.sideCmd (s : State) (ch : Ch) (i : Nat) : Option Bool :=
  if !s.runs ch then none
  else if !s.drives then some false
  else some (((s.chan ch).seq.cmd[i]?.getD false) && !s.safe.tp.defer.contains (i + 1))

/-- Both sides of the outputs that f selects follow their channels (R315). -/
def State.driveSet (f : Nat → Bool) (s : State) : State :=
  { s with safe := { s.safe with
      out := (indexed s.safe.out).map fun x => if f x.1 then x.2.drive (s.sideCmd .a x.1) (s.sideCmd .b x.1) else x.2 } }

/-- Both channels command output i closed; one that runs decides alone. -/
def State.cmdClosed (s : State) (i : Nat) : Bool :=
  (!s.runs .a || (s.cha.seq.app[i]?.getD false)) && (!s.runs .b || (s.chb.seq.app[i]?.getD false)) &&
    (s.runs .a || s.runs .b)

/-- Both channels will command output i closed from this boundary on. -/
def State.cmdNext (s : State) (i : Nat) : Bool :=
  (!s.runs .a || (s.cha.seq.cmd[i]?.getD false)) && (!s.runs .b || (s.chb.seq.cmd[i]?.getD false)) &&
    (s.runs .a || s.runs .b)

/-- An operation of this boundary demands output i (0 to 7) open (R336). -/
def State.demandsOpen (s : State) (i : Nat) : Bool :=
  (s.runs .a && (s.cha.seq.opens[i]?.getD false)) || (s.runs .b && (s.chb.seq.opens[i]?.getD false))

/-- A pulse under way meets the commands of the boundary: off and open is absorbed; on and open ends it; on and close defers
the close (R336). -/
def State.pulseMeets (s : State) : State :=
  match s.safe.tp.pulse with
  | none => s
  | some p =>
    let closed := s.drives && s.cmdNext (p.out - 1)
    let was := (s.safe.out[p.out - 1]?.getD {}).closed
    if !p.on && was && !closed && !p.absorbed then
      { s with safe := { s.safe with tp := { s.safe.tp with
        pulse := some { p with absorbed := true }, abs := incSat 255 s.safe.tp.abs } } }
    else if p.on && !was && closed then
      { s with safe := { s.safe with tp := { s.safe.tp with defer := [p.out] } } }
    else if p.on && s.demandsOpen (p.out - 1) then { s with safe := { s.safe with tp := { s.safe.tp with pulse := none } } }
    else s

/-- Both sides of every output follow their channels, after a pulse under way has met the commands (R94, R315, R336); at the
boundary after a beat overrun every output keeps its state (R96). -/
def State.drive (s0 : State) : State :=
  if s0.beat.hold && s0.beat.bStage == 0 then s0
  else
    let s := s0.pulseMeets
    { s.driveSet fun _ => true with
      cha := { s.cha with seq := { s.cha.seq with app := s.cha.seq.cmd } }
      chb := { s.chb with seq := { s.chb.seq with app := s.chb.seq.cmd } } }

/-- Entry into Opening (R311): pos and pre open at once unless a current-free wait applies; all opens every output. -/
def State.enterOpening (ch : Ch) (toSafe wait all : Bool) (s : State) : State :=
  s.setSeq ch fun q =>
    let q1 := if wait then q else s.setRole 2 false (s.setRole 3 false q)
    let q2 := if all then s.setRole 1 false q1 else q1
    { q2 with state := .opening, toSafe := toSafe, step := 0, fail := false, timedOut := false, posCmd := false, o := 0,
              free := false, posOpen := !wait, k := 0, w := if all then some 0 else none, weldDone := false }

/-- The RESULT of leaving a state for Opening: aborted from Precharging, else completed then opened (R310). -/
def leaveResult (c : Ctl) : Nat := if c = .precharging then 2 else 3

/-- VLNK for the record of an attempt. -/
def State.attempt (ch : Ch) (s : State) : State :=
  if s.reports ch then
    let q := (s.chan ch).seq
    State.event .control 0x501 [nword q.e, sword (s.hvOf ch 1).code, nword q.retry]
      { s with safe := { s.safe with pct := q.e } }
  else s

/-- An attempt under way ends: its record and PROT_PCT (R308, R309). One that has ended by its criterion or its timeout has its
record. -/
def State.attemptEnd (ch : Ch) (s : State) : State :=
  let q := (s.chan ch).seq
  if q.state == .precharging && (q.step == 2 || q.step == 3) && !q.posCmd && !q.timedOut && !q.fail then s.attempt ch else s

/-- Open from the channel's present state with target Parked, or Safe from Run-down (R303, R310, R311). -/
def State.openNow (ch : Ch) (toSafe : Bool) (s : State) : State :=
  let q := (s.chan ch).seq
  match q.state with
  | .precharging =>
    (State.enterOpening ch toSafe false false (s.attemptEnd ch)).seqResult ch 2 .precharging .opening
  | .closed => (s.enterOpening ch toSafe true false).seqResult ch 3 .closed .opening
  | .rundown => (s.enterOpening ch true true false).seqResult ch 3 .rundown .opening
  | .opening => s.setSeq ch fun q => { q with toSafe := q.toSafe || toSafe }
  | _ => s

/-- A state is under way that an open request ends. -/
def Ctl.live : Ctl → Bool
  | .precharging | .closed | .rundown => true
  | _ => false

/-- The escapement's SAFE_REQ became active at this boundary (R302, R305 rank 2). -/
def State.safeReqStep (ch : Ch) (s : State) : State :=
  if s.runs ch && (s.chan ch).out.safeReq then s.openNow ch true else s

/-- A request of the escapement to a string that is closing, closed or opening is the last request (R302, PROT_STAT.SRC); an
open request of another source at the same boundary stands before its OPEN_REQ. -/
def State.escSource (ch : Ch) (s : State) : State :=
  let o := (s.chan ch).out
  let q := (s.chan ch).seq.state
  if s.runs ch && (o.safeReq || o.openReq && !s.safe.req.any fun r => r.kind == .openReq) && (q.live || q == .opening) then
    { s with safe := { s.safe with lastSrc := 4 } }
  else s

/-- The loss of the other channel takes effect (R305 rank 3, R329). -/
def State.lossStep (ch : Ch) (s : State) : State :=
  let c := s.chan ch
  if s.runs ch && c.declared && !c.applied then
    let t := s.setChan ch fun c => { c with applied := true }
    match c.seq.state with
    | .closed =>
      if s.on .RUNDOWN_MAX && !(s.chan ch.other).declared then
        t.setSeq ch fun q => { q with state := .rundown, rd := 0, rdWarned := false, rdExpired := false }
      else t.openNow ch true
    | _ => t.openNow ch true
  else s

/-- Each channel has declared the other lost, and it has not taken effect (R329). -/
def State.mutualDue (s : State) : Bool :=
  s.cha.declared && s.chb.declared && s.cha.applied && s.chb.applied && !s.safe.bothLost

/-- Every other state enters Opening with target Safe (R329). -/
def State.mutualLoss (s : State) : State :=
  let t := (s.openNow .a true).openNow .b true
  { t with safe := { t.safe with bothLost := true } }.drive

/-- An input with function 2 reads open (R317). -/
def State.inputOpens (s : State) (ch : Ch) : Bool :=
  (List.range 8).any fun i => s.nat .FUNC (i + 1) == 2 && !s.inputOf ch i

/-- An ordinary open applies to the channel at this boundary: a request, OPEN_REQ or an input (R302, R305 rank 4). -/
def State.openWanted (s : State) (ch : Ch) : Bool :=
  (s.safe.req.any fun r => r.kind == .openReq) || (s.chan ch).out.openReq || s.inputOpens ch || s.cfg.rev != .none

/-- The loss of a channel takes effect at this boundary: an open of rank 4 is discarded (R305). -/
def State.outranked (s : State) : Bool := s.pre.loss

/-- PROT_OPEN is due. -/
def State.openDue (s : State) : Bool :=
  (s.safe.req.any fun r => r.kind == .openReq) ||
    (s.runs .a && s.openWanted .a && s.cha.seq.state.live) || (s.runs .b && s.openWanted .b && s.chb.seq.state.live)

/-- PROT_STAT.SRC of a request. -/
def ReqSrc.code : ReqSrc → Nat
  | .host => 1
  | .can => 2
  | .ring => 3
  | .esc => 4

/-- Opening with target Parked on every channel to which an open applies (R305, R310, R311). -/
def State.openOp (s : State) : State :=
  let src := match s.safe.req with
    | some (r : Req) => if r.kind = ReqKind.openReq then r.src.code else 4
    | none => 4
  if s.outranked then { s with safe := { s.safe with req := if s.safe.req.any (fun r => r.kind == .openReq) then none else s.safe.req } }
  else
  let t : State := if s.runs .a && s.openWanted .a then s.openNow .a false else s
  let t : State := if s.runs .b && s.openWanted .b then t.openNow .b false else t
  State.drive { t with safe := { t.safe with
    lastSrc := src
    req := if t.safe.req.any (fun r => r.kind == .openReq) then none else t.safe.req } }

/-- A request arrived from a source enabled in REQ_SRC (R298, R306 cause 8). -/
def State.srcEnabled (s : State) : ReqSrc → Bool
  | .host => (s.nat .REQ_SRC).testBit 0
  | .can => (s.nat .REQ_SRC).testBit 1
  | .ring => (s.nat .REQ_SRC).testBit 2
  | .esc => true

/-- A start is under way (R499, R501). -/
def State.starting (s : State) : Bool :=
  match s.pwr.state with
  | .start _ => true
  | _ => false

/-- A split is accepted at this boundary: asked for and not yet made, or made already (R353). The other conditions of R352 hold
where this is asked: both channels Parked before the boundary, both pairs joined, no debug session. -/
def State.splitNow (s : State) : Bool :=
  (s.core.req.any fun r => r.splitA || r.splitB) || s.core.a.pair != .joined || s.core.b.pair != .joined

/-- Why a close request is refused; none when it is accepted (R36, R38, R305, R306, R353, R360, R373, R501). -/
def State.closeCause (s : State) (src : ReqSrc) : Option Nat :=
  let p := s.pre
  let v := s.hv 0
  if p.ctlA != .parked || p.ctlB != .parked || s.starting then some 1
  else if p.session then some 2
  else if !p.joinedA || !p.joinedB || p.debug || s.splitNow then some 3
  else if !p.permitA || !p.permitB || !s.drives || s.ring.addrConflict || s.flt.rloop || s.cfg.image.isNone ||
      !s.cfg.copiesOk || s.flt.src[28]?.any (fun (x : FsSrc) => x.cond) then some 4
  else if s.pwr.vk < 16000 then some 5
  else if p.latched then some 6
  else if !(v.valid && decide (16000 ≤ v.code)) then some 7
  else if !s.srcEnabled src then some 8
  else if p.safeReqA || p.safeReqB || p.openReqA || p.openReqB || p.loss || p.trip || s.inputOpens .a ||
      s.inputOpens .b then some 9
  else none

/-- An accepted close request: Precharging, step 1 (R306, R307); a weld check still under way after a fast trip and its
acknowledgement ends (log entry 77). -/
def Seq.startClose (q : Seq) : Seq :=
  { q with state := .precharging, step := 1, retry := 0, c := 0, e := 0, crit := false, posCmd := false, timedOut := false,
           fail := false, w := none, weldDone := false }

/-- PROT_CLOSE is due. -/
def State.closeDue (s : State) : Bool := s.safe.req.any fun r => r.kind == .close

/-- The close request is accepted, ignored in Precharging, or refused with its cause and a record; any close command with VK below
16.0 V raises FS48 (R74, R305, R306). -/
def State.closeOp (s : State) : State :=
  match s.safe.req with
  | none => s
  | some r =>
    let t := { s with safe := { s.safe with req := none, lastSrc := r.src.code } }
    let u := if s.pwr.vk < 16000 then t.raise 48 0 else t
    if s.pre.ctlA = .precharging ∨ s.pre.ctlB = .precharging then u
    else match s.closeCause r.src with
      | some k => State.event .control 0x500 [nword k, nword r.src.code] { u with safe := { u.safe with refuse := k } }
      | none => (u.setSeq .a Seq.startClose).setSeq .b Seq.startClose

/-- Trip conditions of R296 other than the fast condition: every bit of PROT_COND but 5 and 7 (R304). -/
def tripMask : BitVec 15 := 0x7F5F

/-- An acknowledgement of Safe succeeds (R304). -/
def State.ackOk (s : State) : Bool :=
  ((s.cha.shownCond ||| s.chb.shownCond) &&& tripMask) == 0 && !s.cha.out.safeReq && !s.chb.out.safeReq &&
    !s.cha.hitLast && !s.chb.hitLast

/-- SAFE_ACKNOWLEDGE is due. -/
def State.ackDue (s : State) : Bool := s.safe.req.any fun r => r.kind == .ack

/-- An accepted acknowledgement clears the fast condition and leaves Safe, and a weld check under way goes on (R312); otherwise it is
refused with cause 6; outside Safe it has no effect but to clear the fast condition of a unit that holds Parked (R303, R304; log
entry 76). -/
def State.ackOp (s : State) : State :=
  match s.safe.req with
  | none => s
  | some r =>
    let t := { s with safe := { s.safe with req := none, lastSrc := r.src.code } }
    if s.cha.seq.state != .safe && s.chb.seq.state != .safe && s.master then t
    else if !(r.src == .host || r.src == .ring) || !s.ackOk then { t with safe := { t.safe with refuse := 6 } }
    else
      let leave (c : ChanS) : ChanS :=
        { c with fast := false
                 seq := if c.seq.state = .safe then { c.seq with state := .parked } else c.seq }
      { (t.setChan .a leave).setChan .b leave with safe := { t.safe with latched := false } }

/-! Boundary timers -/

/-- The counts of a sequencer advance at a boundary. -/
def Seq.tick (q : Seq) : Seq :=
  { q with
    c := q.c + 1
    e := if q.state = .precharging ∧ (q.step = 2 ∨ q.step = 3) then q.e + 1 else q.e
    m := q.m + 1
    cool := if q.step = 6 then q.cool + 1 else 0
    o := q.o + 1
    k := if q.posOpen then q.k + 1 else 0
    opens := List.replicate 8 false
    w := q.w.map (· + 1)
    rd := if q.state = .rundown then q.rd + 1 else q.rd }

/-- PRE and NEG open after a timeout, and the resistor cools (R309). -/
def State.timedOutStep (ch : Ch) (s : State) : State :=
  if (s.chan ch).seq.timedOut && (s.chan ch).seq.state == .precharging then
    s.setSeq ch fun q => { s.setRole 1 false (s.setRole 2 false q) with step := 6, cool := 0, timedOut := false }
  else s

/-- The sequence ends in Opening after a failure (R308, R309, R313). -/
def State.failStep (ch : Ch) (s : State) : State :=
  let q := (s.chan ch).seq
  if q.fail && q.state == .precharging then
    (s.enterOpening ch false false false).seqResult ch q.failRes .precharging .opening
  else s.setSeq ch fun q => { q with fail := false }

/-- POS and PRE open at the boundary after a current-free evaluation (R311). -/
def State.freeStep (ch : Ch) (s : State) : State :=
  s.setSeq ch fun q =>
    if q.state = .opening ∧ q.free ∧ !q.posOpen then
      { s.setRole 2 false (s.setRole 3 false q) with posOpen := true, k := 0 }
    else q

/-- An unrequested opening opens every output, with target Parked; a SAFE_REQ at the same boundary changes it to Safe (R305, R314). -/
def State.unreqStep (ch : Ch) (s : State) : State :=
  let c := s.chan ch
  if c.unreq && (c.seq.state == .closed || c.seq.state == .rundown) then
    (s.enterOpening ch false false true).seqResult ch 3 c.seq.state .opening
  else s

/-- Opening ends once the weld check has passed or failed (R312); Safe is latched (R304). -/
def State.weldedStep (ch : Ch) (s : State) : State :=
  let q := (s.chan ch).seq
  if q.weldDone && q.state == .opening then
    let dest := if q.toSafe then Ctl.safe else .parked
    let t := s.setSeq ch fun q => { q with state := dest, w := none, weldDone := false, posOpen := false, o := 0 }
    { t with safe := { t.safe with latched := t.safe.latched || q.toSafe } }
  else if q.weldDone then s.setSeq ch fun q => { q with w := none, weldDone := false }
  else s

/-- NEG closes at c+1 (R307 step 1). -/
def State.negStep (ch : Ch) (s : State) : State :=
  s.setSeq ch fun q => if q.state = .precharging ∧ q.step = 1 ∧ q.c = 1 then s.setRole 1 true q else q

/-- Every output of the main path opens. -/
def State.openMain (s : State) (q : Seq) : Seq := s.setRole 1 false (s.setRole 2 false (s.setRole 3 false q))

/-- The control plane cannot leave Parked: an image session is open, a replay runs, the working copies have not compared equal, another
unit carries this address, or a debug session is open (R36, R38, R104, R121, R360; log entry 75). -/
def State.heldParked (s : State) : Bool :=
  s.cfg.owner != .none || s.core.rpl.live || !s.cfg.copiesOk || s.ring.addrConflict || s.core.dbg.isSome

/-- A fast trip of the ended beat (R305 rank 1): the state becomes Safe with all outputs open, Safe is latched (R303, R304), and
the weld check starts at this boundary (R312). Monitors and standby Masters hold Parked (R303), and so does a control plane that cannot
leave it. -/
def State.safeTripStep (ch : Ch) (s : State) : State :=
  if !(s.chan ch).seq.tripped then s
  else if !s.master || (s.heldParked && (s.chan ch).seq.state == .parked) then
    s.setSeq ch fun q => { q with tripped := false }
  else
    let t := (s.attemptEnd ch).setSeq ch fun q =>
      { s.openMain q with
        state := .safe, tripped := false, step := 0, fail := false, posCmd := false, timedOut := false, posOpen := false
        free := false, weldDone := false, w := if q.state = .safe then some (q.w.getD 0) else some 0 }
    { t with safe := { t.safe with latched := true } }

/-- An unrequested opening takes effect at this boundary: every output opens (R314). -/
def State.opensAll (s : State) (ch : Ch) : Bool :=
  (s.chan ch).unreq && (s.chan ch).seq.state == .opening && (s.chan ch).seq.w == some 0

/-- A ROLE 4 output follows the escapement at a boundary (R326); it stays de-energized while a replay runs (R104), and opens with every
other output at an unrequested opening (R314). -/
def State.roleFour (ch : Ch) (s : State) : State :=
  s.setSeq ch fun q =>
    { q with
      cmd := (indexed q.cmd).map fun x =>
        if s.outRole (x.1 + 1) = 4 then (s.chan ch).out.outs[x.1]?.getD false && !s.core.rpl.live && !s.opensAll ch else x.2 }

/-- The sequencer's part of a boundary in one channel: counts, ends of steps, then the events of R305 by rank. -/
def State.seqBoundary (ch : Ch) (s : State) : State :=
  if !s.runs ch then s
  else
    let s1 := s.setSeq ch Seq.tick
    let s0 := (s1.escSource ch).safeTripStep ch
    let s2 := ((((s0.weldedStep ch).timedOutStep ch).failStep ch).freeStep ch).unreqStep ch
    (((s2.negStep ch).safeReqStep ch).lossStep ch).roleFour ch

/-- PRE closes T_PULLIN after NEG (R307 step 2). -/
def State.preCloseDue (s : State) (ch : Ch) : Bool :=
  let q := (s.chan ch).seq
  s.runs ch && q.state == .precharging && q.step == 1 && decide (1 + s.nat .T_PULLIN ≤ q.c) && !q.fail

/-- PRE closes. -/
def State.preClose (ch : Ch) (s : State) : State := s.setSeq ch fun q => { s.setRole 2 true q with step := 2, e := 0, crit := false }

/-- A boundary operation of the sequencers on each channel for which it is due; the drivers follow. -/
def State.onChans (due : State → Ch → Bool) (op : Ch → State → State) (s : State) : State :=
  let t := if due s .a then op .a s else s
  let u := if due s .b then op .b t else t
  if due s .a || due s .b then u.drive else s

/-- The commit point: POS was commanded, and no abort is active (R307, R310). -/
def State.commitDue (s : State) (ch : Ch) : Bool :=
  let q := (s.chan ch).seq
  s.runs ch && q.state == .precharging && q.posCmd && !s.openWanted ch

/-- POS closes; the state becomes Closed (R310). -/
def State.commit (ch : Ch) (s : State) : State :=
  let t := (s.setSeq ch fun q =>
    { s.setRole 3 true q with state := .closed, step := 4, m := 0, posCmd := false }).seqResult ch 1 .precharging .closed
  if s.reports ch then { t with safe := { t.safe with cbeat := s.beat.num } } else t

/-- PRE opens T_OVL after the commit point (R307 step 5). -/
def State.preOpenDue (s : State) (ch : Ch) : Bool :=
  let q := (s.chan ch).seq
  s.runs ch && q.step == 4 && decide (s.nat .T_OVL ≤ q.m) && (q.state == .closed || q.state == .rundown)

/-- PRE opens; step 5 lasts until its check (R307). -/
def State.preOpen (ch : Ch) (s : State) : State := s.setSeq ch fun q => { s.setRole 2 false q with step := 5 }

/-- PC_COOL has passed (R309). -/
def State.coolDue (s : State) (ch : Ch) : Bool :=
  let q := (s.chan ch).seq
  s.runs ch && q.state == .precharging && q.step == 6 && decide (s.nat .PC_COOL ≤ q.cool)

/-- The pre-charge restarts at step 1 (R309). -/
def State.coolEnd (ch : Ch) (s : State) : State := s.setSeq ch fun q => { q with step := 1, c := 0, e := 0, cool := 0 }

/-- T_CURFREE has passed without a current-free evaluation (R311). -/
def State.curfreeDue (s : State) (ch : Ch) : Bool :=
  let q := (s.chan ch).seq
  s.runs ch && q.state == .opening && !q.posOpen && decide (s.nat .T_CURFREE ≤ q.o)

/-- POS and PRE open (R311). -/
def State.curfree (ch : Ch) (s : State) : State :=
  s.setSeq ch fun q => { s.setRole 2 false (s.setRole 3 false q) with posOpen := true, k := 0 }

/-- NEG opens T_NEG_DLY after POS (R311). -/
def State.negDue (s : State) (ch : Ch) : Bool :=
  let q := (s.chan ch).seq
  s.runs ch && q.state == .opening && q.posOpen && q.w.isNone && decide (s.nat .T_NEG_DLY ≤ q.k)

/-- NEG opens, and the weld check starts (R311, R312). -/
def State.negOpen (ch : Ch) (s : State) : State := s.setSeq ch fun q => { s.setRole 1 false q with w := some 0 }

/-- Channel lost by the survivor ch, as R490 codes it. -/
def lostCode (ch : Ch) : Nat := if ch = .a then 2 else 1

/-- 60 s before expiry of a run-down (R331). -/
def State.rdWarnDue (s : State) (ch : Ch) : Bool :=
  let q := (s.chan ch).seq
  s.runs ch && q.state == .rundown && !q.rdWarned && decide (beatsOfSec (s.nat .RUNDOWN_MAX) - 60000 ≤ q.rd)

/-- The warning input sets, with its record (R331). -/
def State.rdWarn (ch : Ch) (s : State) : State :=
  let q := (s.chan ch).seq
  State.event .control 0x504 [nword (ceilDiv (beatsOfSec (s.nat .RUNDOWN_MAX) - q.rd) 1000), nword (lostCode ch)]
    (s.setSeq ch fun q => { q with rdWarned := true })

/-- RUNDOWN_MAX has passed (R331). -/
def State.rdExpireDue (s : State) (ch : Ch) : Bool :=
  let q := (s.chan ch).seq
  s.runs ch && q.state == .rundown && decide (beatsOfSec (s.nat .RUNDOWN_MAX) ≤ q.rd)

/-- The string enters Opening with target Safe (R331). -/
def State.rdExpire (ch : Ch) (s : State) : State := (s.setSeq ch fun q => { q with rdExpired := true }).openNow ch true

/-! Judgements of the evaluation -/

/-- An HV value of this beat as a channel sees it, none when missing. -/
def State.hvNow (s : State) (ch : Ch) (h : Nat) : Option Int :=
  if (s.hvOf ch h).now then some (s.hvOf ch h).code else none

/-- k·x ≥ p·VSTK with both values present (R307, R308). -/
def State.share (s : State) (ch : Ch) (h : Nat) (p : Int) : Bool :=
  match s.hvNow ch h, s.hvNow ch 0 with
  | some x, some v => decide (p * v ≤ 1000 * x)
  | _, _ => false

/-- Conditions of one-off judgements last for one evaluation (R313); that of a coil fault at the boundary begins (R316). -/
def State.clearOneOffs (ch : Ch) (s : State) : State :=
  if !s.evals ch then s
  else s.setChan ch fun c => 
    { c with weld := false, ftc := c.coilFtc, coilFtc := false, shorted := false, timeout := false, unreq := false }

/-- A failure of the pre-charge: Opening follows at the boundary (R308, R309, R313). -/
def Seq.fails (q : Seq) (r : Nat) : Seq := { q with fail := true, failRes := r, posCmd := false }

/-- The output with a role; 0 when none has it (R307, R313). -/
def State.outOfRole (s : State) (role : Nat) : Nat := (((List.range 8).find? fun i => s.outRole (i + 1) == role).map (· + 1)).getD 0

/-- The PRE check of this evaluation is due (R307). -/
def State.preCheckDue (s : State) (ch : Ch) : Bool :=
  let q := (s.chan ch).seq
  s.evals ch && q.state == .precharging && q.step == 2 && decide (s.nat .T_PULLIN ≤ q.e) && !q.fail

/-- The PRE check (R307, R313). -/
def State.preCheck (ch : Ch) (s : State) : State :=
  if s.share ch 2 900 then s.setSeq ch fun q => { q with step := 3 }
  else (s.attempt ch).setChan ch fun c => { c with ftc := true, ftcOut := s.outOfRole 2, seq := c.seq.fails 4 }

/-- The POS check of this evaluation is due (R307). -/
def State.posCheckDue (s : State) (ch : Ch) : Bool :=
  let q := (s.chan ch).seq
  s.evals ch && (q.state == .closed || q.state == .rundown) && q.m == s.nat .T_OVL + s.nat .T_FTC

/-- The POS check (R307, R313). -/
def State.posCheck (ch : Ch) (s : State) : State :=
  let bad := !s.share ch 1 (s.par .PC_PCT)
  s.setChan ch fun c =>
    { c with ftc := c.ftc || bad, ftcOut := if bad then s.outOfRole 3 else c.ftcOut, seq := { c.seq with step := 0 } }

/-- FAILURE_TO_CLOSE_CHECK is due. -/
def State.ftcDue (s : State) : Bool :=
  s.preCheckDue .a || s.preCheckDue .b || s.posCheckDue .a || s.posCheckDue .b

/-- Both channels' checks of R307. -/
def State.ftcChecks (s : State) : State :=
  let f (ch : Ch) (s : State) : State :=
    if s.preCheckDue ch then s.preCheck ch else if s.posCheckDue ch then s.posCheck ch else s
  f .b (f .a s)

/-- RESISTOR_SHORTED and the criterion, within EVALUATION (R308). -/
def State.criterion (ch : Ch) (s : State) : State :=
  let q := (s.chan ch).seq
  if !(s.evals ch && q.state == .precharging && (q.step == 2 || q.step == 3) && !q.fail) then s
  else
    if !s.share ch 1 (s.par .PC_PCT) then s
    else if q.e < s.nat .PC_TMIN then (s.attempt ch).setChan ch fun c => { c with shorted := true, seq := c.seq.fails 5 }
    else if q.step = 3 then (s.attempt ch).setSeq ch fun q => { q with posCmd := true, crit := true }
    else s.setSeq ch fun q => { q with crit := true }

/-- The pre-charge has not met its criterion by PC_TMAX (R308, R309). -/
def State.pcTimeoutDue (s : State) (ch : Ch) : Bool :=
  let q := (s.chan ch).seq
  s.evals ch && q.state == .precharging && (q.step == 2 || q.step == 3) && !q.fail && !q.timedOut &&
    !q.posCmd && !q.crit && decide (s.nat .PC_TMAX ≤ q.e)

/-- The attempt times out: a retry after cooling, or the timeout condition (R309). -/
def State.pcTimeout (ch : Ch) (s : State) : State :=
  (s.attempt ch).setChan ch fun c =>
    if c.seq.retry < s.nat .PC_RETRY then { c with seq := { c.seq with timedOut := true, retry := c.seq.retry + 1 } }
    else { c with timeout := true, seq := c.seq.fails 6 }

/-- Both channels' timeouts. -/
def State.pcTimeouts (s : State) : State :=
  let f (ch : Ch) (s : State) : State := if s.pcTimeoutDue ch then s.pcTimeout ch else s
  f .b (f .a s)

/-- The string's current in a channel (R296, R311): the channel's own in the current unit, else what the current unit sends, which both
channels of the Master take (log entry 78). -/
def State.strCurrent (s : State) (ch : Ch) : Option Int :=
  if s.curPop 0 || s.curPop 1 then s.chanCurrent ch else s.i1Ma.or s.i2Remote

/-- CURRENT_FREE, within EVALUATION (R311). -/
def State.currentFree (ch : Ch) (s : State) : State :=
  let q := (s.chan ch).seq
  if s.evals ch && q.state == .opening && !q.posOpen &&
      (s.strCurrent ch).any (fun i => decide ((i.natAbs : Int) ≤ s.par .I_OPEN)) then
    s.setSeq ch fun q => { q with free := true }
  else s

/-- WELD_CHECK_PASS, within EVALUATION (R312). -/
def State.weldPass (ch : Ch) (s : State) : State :=
  let q := (s.chan ch).seq
  let low := (s.hvNow ch 0).any fun v => decide (v < 16000)
  let decayed := match s.hvNow ch 1, s.hvNow ch 0 with
    | some l, some v => decide (1000 * l < s.par .WELD_PCT * v)
    | _, _ => false
  if s.evals ch && q.w.isSome && !q.weldDone && (low || decayed) then s.setSeq ch fun q => { q with weldDone := true } else s

/-- The weld check has not passed by w+T_WELD (R312). -/
def State.weldDue (s : State) (ch : Ch) : Bool :=
  let q := (s.chan ch).seq
  s.evals ch && (q.w.any fun w => decide (s.nat .T_WELD ≤ w)) && !q.weldDone

/-- The weld condition sets without naming an output, and Opening ends at the next boundary (R312). -/
def State.weldTimeout (ch : Ch) (s : State) : State :=
  s.setChan ch fun c => { c with weld := true, weldOut := 0, seq := { c.seq with weldDone := true } }

/-- Both channels' weld timeouts. -/
def State.weldTimeouts (s : State) : State :=
  let f (ch : Ch) (s : State) : State := if s.weldDue ch then s.weldTimeout ch else s
  f .b (f .a s)

/-- Mirror inputs of output n (1 to 8): indices of inputs with function 1 assigned to it (R313, R317). -/
def State.mirrors (s : State) (n : Nat) : List Nat :=
  (List.range 8).filter fun i => s.nat .FUNC (i + 1) == 1 && s.nat .IN_OUT (i + 1) == n

/-- Output n's mirror is judged: T_MIRROR after its latest edge (R313). -/
def State.mirrorJudged (s : State) (n : Nat) : Bool := decide (s.nat .T_MIRROR ≤ (s.safe.out[n - 1]?.getD {}).edge)

/-- A mirror of output n still reads closed while the channel commands it closed (R313). -/
def State.mirrorFtc (s : State) (ch : Ch) (n : Nat) : Bool :=
  ((s.chan ch).seq.app[n - 1]?.getD false) && s.mirrorJudged n && (s.mirrors n).any fun i => s.inputOf ch i

/-- A mirror of output n still reads open while the channel commands it open (R313). -/
def State.mirrorWeld (s : State) (ch : Ch) (n : Nat) : Bool :=
  !((s.chan ch).seq.app[n - 1]?.getD false) && s.mirrorJudged n && (s.mirrors n).any fun i => !s.inputOf ch i

/-- The outputs. -/
def outNums : List Nat := [1, 2, 3, 4, 5, 6, 7, 8]

/-- MIRROR_CHECK in one channel: the conditions hold while the observation does; a failure during Precharging ends the
sequence (R313). -/
def State.mirrorCheck (ch : Ch) (s : State) : State :=
  if !s.evals ch || !s.drives then s
  else
    let f := outNums.any (s.mirrorFtc ch)
    let t := if f then s.attemptEnd ch else s
    t.setChan ch fun c =>
      { c with mirFtc := f, mirWeld := outNums.any (s.mirrorWeld ch)
               ftcOut := (outNums.find? (s.mirrorFtc ch)).getD c.ftcOut, weldOut := (outNums.find? (s.mirrorWeld ch)).getD c.weldOut
               seq := if f && c.seq.state == .precharging && !c.seq.fail then c.seq.fails 4 else c.seq }

/-- Output n is NEG or POS and commanded closed in the channel (R314). -/
def State.mainClosed (s : State) (ch : Ch) (n : Nat) : Bool :=
  (s.outRole n == 1 || s.outRole n == 3) && ((s.chan ch).seq.app[n - 1]?.getD false)

/-- A mirror contact of output n reads closed on the channel (R313, R319). -/
def State.mirrorClosed (s : State) (ch : Ch) (n : Nat) : Bool := (s.mirrors n).any fun i => s.inputOf ch i

/-- Consecutive beats in which a mirror contact of a closed output has read closed on the channel (R314). -/
def OutS.mirrorOn (x : OutS) : Ch → Nat
  | .a => x.mirrorBad
  | .b => x.mirrorBadB

/-- Beats of low coil current while held, as the channel's side measures it (R316). -/
def OutS.lowOn (x : OutS) : Ch → Nat
  | .a => x.lowBeats
  | .b => x.lowBeatsB

/-- Coil current of the last beat as the channel's side measures it (R316). -/
def OutS.coilOn (x : OutS) : Ch → Nat
  | .a => x.coil
  | .b => x.coilB

/-- A closed contactor has dropped out: the mirror contact has read closed in T_MIRROR beats with the present one, the coil
current has been low in 3 beats, or VK is low (R314). -/
def State.unreqDue (s : State) (ch : Ch) : Bool :=
  let q := (s.chan ch).seq
  s.evals ch && (q.state == .closed || q.state == .rundown) && !(s.chan ch).unreq &&
    outNums.any fun n => s.mainClosed ch n &&
      (decide (s.nat .T_MIRROR ≤ (s.safe.out[n - 1]?.getD {}).mirrorOn ch + 1) && s.mirrorClosed ch n ||
        decide (3 ≤ (s.safe.out[n - 1]?.getD {}).lowOn ch) || decide (s.pwr.vk < 16000))

/-- The unrequested-opening condition sets (R314). -/
def State.unrequested (s : State) : State :=
  let f (ch : Ch) (s : State) : State := if s.unreqDue ch then s.setChan ch fun c => { c with unreq := true } else s
  f .b (f .a s)

/-! Outputs -/

/-- An output's counts at a boundary: pull-in time, edges, mean coil current, low current while held, mirror (R313-R316). -/
def State.outTick (s : State) (n : Nat) (x : OutS) : OutS :=
  let mean := x.coilSum / 16
  let meanB := x.coilSumB / 16
  let held := (x.eco || x.locked) && s.cmdClosed (n - 1)
  { x with
    coil := mean, coilSum := 0, coilB := meanB, coilSumB := 0
    since := if x.closed then x.since + 1 else x.since
    edge := x.edge + 1
    lowBeats := if held && decide (mean < 50) then x.lowBeats + 1 else 0
    lowBeatsB := if held && decide (meanB < 50) then x.lowBeatsB + 1 else 0
    mirrorBad := if s.cmdClosed (n - 1) && s.mirrorClosed .a n then x.mirrorBad + 1 else 0
    mirrorBadB := if s.cmdClosed (n - 1) && s.mirrorClosed .b n then x.mirrorBadB + 1 else 0 }

/-- The holds of undriven sides: a side whose channel has stopped driving lapses while the other does not hold it (R330). -/
def State.holdTick (s : State) (i : Nat) (x : OutS) : OutS :=
  let held (ch : Ch) : Bool := s.runs ch && s.drives && ((s.chan ch).seq.app[i]?.getD false)
  { x with
    lapseH := if s.runs .a || held .b || !x.h then 0 else x.lapseH + 1
    lapseL := if s.runs .b || held .a || !x.l then 0 else x.lapseL + 1 }

/-- The outputs' part of a boundary. -/
def State.outBoundary (s : State) : State :=
  { s with safe := { s.safe with
      out := (indexed s.safe.out).map fun x => s.holdTick x.1 (s.outTick (x.1 + 1) x.2)
      tp := { s.safe.tp with defer := [] } } }

/-- The hold of an undriven side has lapsed for 2 beats (R330). -/
def State.lapseDue (s : State) (n : Nat) (side : Side) : Bool :=
  let x := s.safe.out[n - 1]?.getD {}
  match side with
  | .h => x.h && !s.runs .a && decide (2 ≤ x.lapseH)
  | .l => x.l && !s.runs .b && decide (2 ≤ x.lapseL)

/-- The side opens by itself (R330). -/
def State.lapse (n : Nat) (side : Side) (s : State) : State :=
  { s with safe := { s.safe with
      out := s.safe.out.modify (n - 1) fun x =>
        match side with
        | .h => { x.drive (some false) (some x.l) with lapseH := 0 }
        | .l => { x.drive (some x.h) (some false) with lapseL := 0 } } }

/-- Pull-in of output n ends at this boundary (R316). -/
def State.pullinDue (s : State) (n : Nat) : Bool :=
  let x := s.safe.out[n - 1]?.getD {}
  x.pullDue && x.closed && decide (s.nat .T_PULLIN ≤ x.since)

/-- A coil fault of output n is handled as failure to close (R316, R313): the condition sets in the evaluation that follows, and a
pre-charge ends. -/
def State.coilFails (ch : Ch) (n : Nat) (s : State) : State :=
  (s.attemptEnd ch).setChan ch fun c =>
    { c with coilFtc := true, ftcOut := n
             seq := if c.seq.state = .precharging ∧ !c.seq.fail then c.seq.fails 4 else c.seq }

/-- The economizer takes over; a coil below 20 mA on a side is a coil fault, and fails its channel's closing (R316). -/
def State.pullinEnd (n : Nat) (s : State) : State :=
  let x := s.safe.out[n - 1]?.getD {}
  let low (ch : Ch) : Bool := decide (x.coilOn ch < 20)
  let bad := low .a || low .b
  let t := { s with safe := { s.safe with
    out := s.safe.out.modify (n - 1) fun x => { x with pullDue := false, eco := true, coilFault := x.coilFault || bad } } }
  let f (ch : Ch) (t : State) : State := if low ch then t.coilFails ch n else t
  if bad then ((t |> f .a) |> f .b).raiseCond 73 0 else t

/-- COIL_OVERCURRENT (R316): both sides off, the output locked open until module reset, FS73. -/
def execCoilOvercurrent (out : Fin 8) (s : State) : Host.Outcome State Fault Refusal :=
  .next (State.raiseCond 73 0 { s with safe := { s.safe with
    out := s.safe.out.modify out.val fun x =>
      { x with locked := true, coilFault := true }.drive (some false) (some false) } })

/-- A fast opening of output i in a channel: its command drops at once, and a pulse on it ends (R301, R326, R336). -/
def State.fastOpen (ch : Ch) (is : List Nat) (s : State) : State :=
  let drop (l : List Bool) : List Bool := (indexed l).map fun x => if is.contains x.1 then false else x.2
  let t := s.setSeq ch fun q => { q with cmd := drop q.cmd, app := drop q.app }
  let tp := match s.safe.tp.pulse with
    | some p =>
      if !is.contains (p.out - 1) then s.safe.tp
      else if p.on then { s.safe.tp with pulse := none }
      else if p.absorbed then s.safe.tp
      else { s.safe.tp with pulse := some { p with absorbed := true }, abs := incSat 255 s.safe.tp.abs }
    | none => s.safe.tp
  State.driveSet is.contains { t with safe := { t.safe with tp := tp } }

/-- The fast outputs (R301). -/
def State.fastOuts (s : State) : List Nat := (List.range 8).filter fun i => s.outFast (i + 1)

/-- INSTANT_TRIP, within SUB_BEAT: a trip in a channel opens every FAST output on both sides and sets the fast condition; the
state becomes Safe at the boundary (R301, R303, R305). -/
def State.fastTrip (ch : Ch) (s : State) : State :=
  ((s.fastOpen .a s.fastOuts).fastOpen .b s.fastOuts).setChan ch fun c =>
    { c with fast := true, hit := true, seq := { c.seq with tripped := true } }

/-- The channel's hits and trip of one sub-beat (R301, R326); a hit that does not trip alone counts for R304 too. -/
def State.instantTrip (ch : Ch) (i1 i2 : Option Raw) (s : State) : State :=
  if !s.runs ch || !s.currentUnit then s
  else
    let h1 := s.curPop 0 && !s.meas.failCur.contains 0 && s.hitOf (s.curSample ch 0 i1)
    let h2 := s.curPop 1 && !s.meas.failCur.contains 1 && s.hitOf (s.curSample ch 1 i2)
    let t := s.setChan ch fun c => { c with hit1 := h1, hit2 := h2, hit := c.hit || h1 || h2 }
    if s.tripOf h1 h2 then t.fastTrip ch else t

/-- FAST_TRIP and the fast openings of a channel after its fast blocks (R326); a Monitor's escapement governs neither (R320). -/
def State.fastOutputs (ch : Ch) (was : EscOut) (s : State) : State :=
  if !s.runs ch || !s.master then s
  else
    let c := s.chan ch
    let opens := (List.range 8).filter fun i =>
      s.outRole (i + 1) == 4 && (was.outs[i]?.getD false) && !(c.out.outs[i]?.getD false) &&
        (match outParams[i]? with | some p => s.fastDriven p | none => false)
    let t := if opens.isEmpty then s else s.fastOpen ch opens
    if c.out.fastTrip then
      (if was.fastTrip then t.setChan ch fun c => { c with hit := true } else t.fastTrip ch)
    else t

end Sys2Proof.Machine
end

