-- ==== Sys2Proof/Machine/Channels.lean ====
section
/-! DEFINITION. Inputs and their tests, test pulses, cross-comparison, the loss of a channel, run-down and the host's
supervision (chapter 12). -/

namespace Sys2Proof.Machine

/-! The sequencer's commands at a boundary. A row acts only at its boundary, before anything of the beat has happened. -/

/-- The boundary's own operations may still act (R305). -/
def State.atBoundary (s : State) : Bool := s.beat.bStage == 0

/-- A boundary row: the operation when it is due. -/
def State.boundaryRow (due : State → Bool) (op : State → State) (s : State) : State :=
  if s.atBoundary && due s then op s else s

/-- Due on either channel. -/
def State.either (due : State → Ch → Bool) (s : State) : Bool := due s .a || due s .b

/-- PROT_CLOSE (R306). -/
def execProtClose (s : State) : Host.Outcome State Fault Refusal := .next (s.boundaryRow State.closeDue State.closeOp)
/-- PROT_OPEN (R305). -/
def execProtOpen (s : State) : Host.Outcome State Fault Refusal := .next (s.boundaryRow State.openDue State.openOp)
/-- SAFE_ACKNOWLEDGE (R304). -/
def execSafeAcknowledge (s : State) : Host.Outcome State Fault Refusal := .next (s.boundaryRow State.ackDue State.ackOp)
/-- PRE_CLOSE (R307). -/
def execPreClose (s : State) : Host.Outcome State Fault Refusal :=
  .next (s.boundaryRow (State.either State.preCloseDue) (State.onChans State.preCloseDue State.preClose))
/-- COMMIT_POINT (R310). -/
def execCommitPoint (s : State) : Host.Outcome State Fault Refusal :=
  .next (s.boundaryRow (State.either State.commitDue) (State.onChans State.commitDue State.commit))
/-- PRE_OPEN (R307). -/
def execPreOpen (s : State) : Host.Outcome State Fault Refusal :=
  .next (s.boundaryRow (State.either State.preOpenDue) (State.onChans State.preOpenDue State.preOpen))
/-- PRECHARGE_COOL_END (R309). -/
def execPrechargeCoolEnd (s : State) : Host.Outcome State Fault Refusal :=
  .next (s.boundaryRow (State.either State.coolDue) (State.onChans State.coolDue State.coolEnd))
/-- CURFREE_TIMEOUT (R311). -/
def execCurfreeTimeout (s : State) : Host.Outcome State Fault Refusal :=
  .next (s.boundaryRow (State.either State.curfreeDue) (State.onChans State.curfreeDue State.curfree))
/-- NEG_OPEN (R311). -/
def execNegOpen (s : State) : Host.Outcome State Fault Refusal :=
  .next (s.boundaryRow (State.either State.negDue) (State.onChans State.negDue State.negOpen))
/-- MUTUAL_LOSS (R329). -/
def execMutualLoss (s : State) : Host.Outcome State Fault Refusal := .next (s.boundaryRow State.mutualDue State.mutualLoss)
/-- HOLD_LAPSE (R330). -/
def execHoldLapse (out : Fin 8) (side : Side) (s : State) : Host.Outcome State Fault Refusal :=
  .next (s.boundaryRow (fun t => t.lapseDue (out.val + 1) side) (State.lapse (out.val + 1) side))
/-- PULLIN_END (R316). -/
def execPullinEnd (out : Fin 8) (s : State) : Host.Outcome State Fault Refusal :=
  .next (s.boundaryRow (fun t => t.pullinDue (out.val + 1)) (State.pullinEnd (out.val + 1)))
/-- RUNDOWN_WARNING (R331). -/
def execRundownWarning (s : State) : Host.Outcome State Fault Refusal :=
  .next (s.boundaryRow (State.either State.rdWarnDue) (State.onChans State.rdWarnDue State.rdWarn))
/-- RUNDOWN_EXPIRY (R331). -/
def execRundownExpiry (s : State) : Host.Outcome State Fault Refusal :=
  .next (s.boundaryRow (State.either State.rdExpireDue) (State.onChans State.rdExpireDue State.rdExpire))

/-! Coil supply -/

/-- VK lies below 16.0 V while an output is closed (R74). -/
def State.coilLowDue (s : State) : Bool :=
  decide (s.pwr.vk < 16000) && s.safe.out.any (·.closed) && !s.safe.vkRaised

/-- FS48 is raised; no output is commanded (R74). -/
def State.coilLow (s : State) : State :=
  State.raise 48 0 { s with safe := { s.safe with vkLow := true, vkRaised := true } }

/-- COIL_SUPPLY_LOW (R74). -/
def execCoilSupplyLow (s : State) : Host.Outcome State Fault Refusal := .next (if s.coilLowDue then s.coilLow else s)

/-- The reading of VK at a boundary (R74): a later fall below 16.0 V is a fault of its own. -/
def State.vkBoundary (vk : Nat) (s : State) : State :=
  { s with
    pwr := { s.pwr with vk := vk }
    safe := { s.safe with vkLow := decide (vk < 16000), vkRaised := s.safe.vkRaised && decide (vk < 16000) } }

/-! Inputs -/

/-- Function of input i (0 to 7) (R317). -/
def State.inFunc (s : State) (i : Nat) : Nat := s.nat .FUNC (i + 1)
/-- IN_DEB, at least 1 (R317). -/
def State.inDeb (s : State) (_i : Nat) : Nat := Nat.max 1 (s.nat .IN_DEB)

/-- The gap of TP1 (a) or TP2 (b) falls in this beat (R337). -/
def State.gapBeat (s : State) (ch : Ch) : Bool :=
  s.beat.num.toNat % 100 == (match ch with | .a => 0 | .b => 50)

/-- A gap sub-beat of either source (R337). -/
def State.gapSub (s : State) (j : Nat) : Bool := j == 4 && (s.gapBeat .a || s.gapBeat .b)

/-- The contacts at the end of sub-beat j (R317, R337). -/
def State.takeInputs (j : Nat) (inA inB : BitVec 8) (s : State) : State :=
  let take (v : BitVec 8) (c : ChanS) : ChanS :=
    if s.gapSub j then { c with rawPrev := v } else { c with rawPrev := c.raw, raw := v }
  (s.setChan .a (take inA)).setChan .b (take inB)

/-- The debounce of a channel's contacts in an evaluation (R317): counts of beats of difference. -/
def ChanS.debounce (c : ChanS) : ChanS :=
  { c with inCnt := (indexed c.inCnt).map fun x =>
      if c.raw.toNat.testBit x.1 != (c.inp[x.1]?.getD false) then x.2 + 1 else 0 }

/-- A contact changes its debounced state (R317). -/
def State.inputDue (s : State) (i : Nat) (ch : Ch) : Bool :=
  decide (s.inDeb i ≤ ((s.chan ch).inCnt[i]?.getD 0))

/-- The debounced state follows the contact (R317). -/
def State.inputChange (i : Nat) (ch : Ch) (s : State) : State :=
  s.setChan ch fun c => { c with inp := c.inp.set i (c.raw.toNat.testBit i), inCnt := c.inCnt.set i 0 }

/-- Every contact that is due changes (R317). -/
def State.inputChanges (s : State) : State :=
  runAll (fun i s =>
    let t := if s.inputDue i .a then s.inputChange i .a else s
    if t.inputDue i .b then t.inputChange i .b else t) (List.range 8) s

/-- Both channels count (R317). -/
def State.debounceAll (s : State) : State := { s with cha := s.cha.debounce, chb := s.chb.debounce }

/-- Counts of R338 in an evaluation: beats of difference of the debounced states, and beats in which both contacts read open. -/
def State.discCounts (s : State) : State :=
  { s with safe := { s.safe with
      discCnt := (indexed s.safe.discCnt).map fun x =>
        if s.inFunc x.1 != 0 && (s.cha.inp[x.1]?.getD false) != (s.chb.inp[x.1]?.getD false) then x.2 + 1 else 0
      discOpen := (indexed s.safe.discOpen).map fun x =>
        if (s.safe.disc[x.1]?.getD false) && !s.cha.raw.toNat.testBit x.1 && !s.chb.raw.toNat.testBit x.1 then x.2 + 1 else 0 } }

/-- Inputs whose contacts have read open together for IN_DEB beats lose DISC; FS51 ends with the last (R338). -/
def State.discClear (s : State) : State :=
  let disc := (indexed s.safe.disc).map fun x => x.2 && decide ((s.safe.discOpen[x.1]?.getD 0) < s.inDeb x.1)
  let t := { s with safe := { s.safe with disc := disc } }
  if s.safe.disc.any id && !disc.any id then t.endCond 51 else t

/-- The contacts of input i have differed for IN_DISC beats (R338). -/
def State.discDue (s : State) (i : Nat) : Bool :=
  decide (s.nat .IN_DISC ≤ (s.safe.discCnt[i]?.getD 0)) && decide (0 < (s.safe.discCnt[i]?.getD 0)) &&
    !(s.safe.disc[i]?.getD false)

/-- FS51 is raised and the input reads open (R338). -/
def State.discrepancy (i : Nat) (s : State) : State :=
  State.raiseCond 51 0 { s with safe := { s.safe with
    disc := s.safe.disc.set i true, discOpen := s.safe.discOpen.set i 0 } }

/-- Every discrepancy that is due (R338). -/
def State.discrepancies (s : State) : State :=
  runAll (fun i s => if s.discDue i then s.discrepancy i else s) (List.range 8) s

/-- One count of failures after a test that failed or passed. -/
def failCount (fail : Bool) (n : Nat) : Nat := if fail then n + 1 else 0

/-- The counts of a contact after a test of its own source's gap or of the other gap (R337). -/
def ChanS.tested (c : ChanS) (i : Nat) (own fail : Bool) : ChanS :=
  let k := if own then i else 8 + i
  { c with tstFail := (c.tstFail.modify k (failCount fail)).modify (16 + i) (failCount fail) }

/-- The contact has failed twice in succession (R337). -/
def ChanS.testBad (c : ChanS) (i : Nat) : Bool :=
  [i, 8 + i, 16 + i].any fun k => decide (2 ≤ (c.tstFail[k]?.getD 0))

/-- The test of contact i of channel c in the gap of the source of channel g: its reading in the gap (R337). -/
def State.testContact (g c : Ch) (read : Nat → Bool) (i : Nat) (s : State) : State :=
  if s.inFunc i = 0 ∨ !s.runs c then s
  else
    let before := (s.chan c).raw.toNat.testBit i
    let t := if g = c then s.setChan c fun x => x.tested i true (read i)
      else if before then s.setChan c fun x => x.tested i false (!read i)
      else s
    if (t.chan c).testBad i && !((t.chan c).tstBad[i]?.getD false) then
      State.raise 50 0 (t.setChan c fun x => { x with tstBad := x.tstBad.set i true })
    else t

/-- A gap of channel g's source: every contact of both channels is tested (R337). -/
def State.inputTest (g : Ch) (levels : BitVec 8) (s : State) : State :=
  let own (i : Nat) : Bool := levels.toNat.testBit i
  let oth (i : Nat) : Bool := (s.chan g.other).rawPrev.toNat.testBit i
  let t := runAll (State.testContact g g own) (List.range 8) s
  let u := runAll (State.testContact g g.other oth) (List.range 8) t
  { u with safe := { u.safe with gapDone := true } }

/-- The gap of channel g's source has just passed and its test is outstanding (R337). -/
def State.gapDue (s : State) (g : Ch) : Bool := s.gapBeat g && s.beat.sub == 5 && !s.safe.gapDone

/-- INPUT_TEST_GAP (R337). -/
def execInputTestGap (ch : Ch) (levels : BitVec 8) (s : State) : Host.Outcome State Fault Refusal :=
  .next (if s.gapDue ch then s.inputTest ch levels else s)

/-- A gap's test that no command has made uses the readings that the sub-beat delivered (R337). -/
def State.gapSettle (s : State) : State :=
  if s.gapDue .a then s.inputTest .a s.cha.rawPrev
  else if s.gapDue .b then s.inputTest .b s.chb.rawPrev
  else s

/-! Test pulses -/

/-- P of R334 in beats. -/
def State.tpPeriod (s : State) : Nat := beatsOfSec (s.nat .TP_PER)

/-- The output whose pulse falls in this beat, with its side, and whether it repeats a failed pulse (R334, R335). -/
def State.pulseSlot (s : State) : Option (Nat × Side × Bool) :=
  match s.safe.tp.again with
  | some p => some (p.out, p.side, true)
  | none =>
    let b := s.beat.num.toNat
    (outNums.find? fun n => b % s.tpPeriod == 2 * (n - 1)).map fun n =>
      (n, if b / s.tpPeriod % 2 = 0 then Side.h else .l, false)

/-- Both sides of an output read the state: closed at both rails, open at neither (R334, R335). -/
def OutS.reads (x : OutS) (closed : Bool) : Bool :=
  if closed then x.rbH == .high && x.rbL == .low else x.rbH != .high && x.rbL != .low

/-- Both channels command output n into the same state (R334). -/
def State.sameCmd (s : State) (n : Nat) : Bool :=
  s.runs .a && s.runs .b && (s.cha.seq.app[n - 1]?.getD false) == (s.chb.seq.app[n - 1]?.getD false)

/-- Output n may be pulsed (R334). -/
def State.pulseOk (s : State) (n : Nat) : Bool :=
  let x := s.safe.out[n - 1]?.getD {}
  s.upAndRunning && s.outRole n != 0 && !x.locked && !x.pullDue && s.sameCmd n && x.reads (s.cmdClosed (n - 1))

/-- A pulse starts in this beat unless one has been decided: sub-beat 15 begins (R334). -/
def State.pulseDue (s : State) : Bool := s.beat.running && s.beat.sub == 15 && !s.safe.tp.taken && s.safe.tp.pulse.isNone

/-- The pulse of the beat starts, or none does (R334). -/
def State.startPulse (s : State) : State :=
  { s with safe := { s.safe with tp :=
      match s.pulseSlot with
      | some (n, side, rep) =>
        if s.pulseOk n then
          let on := !s.cmdClosed (n - 1)
          { s.safe.tp with
            taken := true, again := none, out := n - 1, kind := on, side := side == .l
            pulse := some { out := n, side := side, on := on, again := rep } }
        else { s.safe.tp with taken := true, again := none }
      | none => { s.safe.tp with taken := true, again := none } } }

/-- TEST_PULSE (R334). -/
def execTestPulse (s : State) : Host.Outcome State Fault Refusal :=
  .next (if s.pulseDue then (s.at 937500).startPulse else s)

/-- The readbacks of a pulse from 50 µs after its start: one is taken every 2 µs, the first at the start (R335). -/
def judgedReads (during : List (Level × Level)) : List (Level × Level) := during.drop 25

/-- The readbacks of a pulse pass (R335): each reading is the OUTnH end and the OUTnL end, every 2 µs from the start to the end;
the end that is not pulsed off reads driven throughout; coil is the greatest coil current in mA. -/
def Pulse.passes (p : Pulse) (during : List (Level × Level)) (coil : Nat) : Bool :=
  let late := judgedReads during
  match p.on, p.side with
  | false, .h => (late.all fun r => r.1 != .high) && during.all fun r => r.2 == .low
  | false, .l => (late.all fun r => r.2 != .low) && during.all fun r => r.1 == .high
  | true, .h => (late.all fun r => r.1 == .high && r.2 == .high) && decide (coil < 50)
  | true, .l => (late.all fun r => r.1 == .low && r.2 == .low) && decide (coil < 50)

/-- The end of a judged pulse: it passes, is repeated in the next beat, or fails for good and raises FS49 (R335). -/
def State.judgePulse (p : Pulse) (ok : Bool) (s : State) : State :=
  let tp := { s.safe.tp with pulse := none }
  if ok then { s with safe := { s.safe with tp := { tp with pass := incSat 255 tp.pass } } }
  else if !p.again then { s with safe := { s.safe with tp := { tp with again := some p } } }
  else
    State.raise 49 0 { s with safe := { s.safe with
      tp := tp, out := s.safe.out.modify (p.out - 1) fun x => { x with tpFail := true } } }

/-- A pulse ends: an absorbed one is not judged (R335, R336). -/
def State.endPulse (during : List (Level × Level)) (coil : Nat) (restored : Bool) (s : State) : State :=
  match s.safe.tp.pulse with
  | none => s
  | some p =>
    if p.absorbed then { s with safe := { s.safe with tp := { s.safe.tp with pulse := none } } }
    else (s.tally 33 1).judgePulse p (p.passes during coil && restored)

/-- TEST_PULSE_END (R335): during are the readings of both ends every 2 µs from the start of the pulse, coilMax the greatest coil
current, restored whether the output read its commanded state again within 50 µs. -/
def execTestPulseEnd (during : List (Level × Level)) (coilMax : Nat) (restored : Bool) (s : State) :
    Host.Outcome State Fault Refusal := .next (s.endPulse during coilMax restored)

/-- A side of an output conducts now: its latch, with a pulse on it (R330, R334, R336). -/
def State.sideConducts (s : State) (n : Nat) (side : Side) : Bool :=
  let x := s.safe.out[n - 1]?.getD {}
  let latch := match side with | .h => x.h | .l => x.l
  match s.safe.tp.pulse with
  | some p => if p.out = n ∧ p.side = side then p.on else latch
  | none => latch

/-! Cross-comparison -/

/-- The block whose output an injection inverts in A's record (R376). DESIGN CHOICE (log entry 100): the manual leaves the choice
open; it is the first without DIVERSE, so that two beats reach its tolerance (R328, R377). -/
def State.xTarget (s : State) : Nat :=
  let blks := s.blocks
  ((List.range 256).find? fun i => !blks.any fun b => b.1 == i && b.2.diverse).getD 0

/-- The block that an injection inverts in the record compared now (R376). -/
def State.xInverted (s : State) : Option Nat := if 0 < s.safe.x.invert ∧ (s.flt.injRun.any fun i => i.target == 29) = true then some s.xTarget else none

/-- Items of the comparison: 256 blocks, the escapement outputs that both channels compute, the control state, the output
commands (R328); an injection inverts one block of A's record (R376). -/
def State.xItems (s : State) (a b : XRec) : List Bool :=
  let inv := s.xInverted
  let blk := (List.range 256).map fun i => ((a.blocks[i]?.getD false) != (inv == some i)) != (b.blocks[i]?.getD false)
  let out := [a.out.openReq != b.out.openReq, a.out.safeReq != b.out.safeReq, a.out.closePermit != b.out.closePermit,
    a.out.fastTrip != b.out.fastTrip] ++ (List.range 8).map (fun i => (a.out.outs[i]?.getD false) != (b.out.outs[i]?.getD false)) ++
    [a.out.nflt != b.out.nflt, false]
  blk ++ out ++ [a.state != b.state, a.cmd != b.cmd]

/-- The parameters of the outputs in the order of the comparison. -/
def xParams : List Param := [.OPEN_REQ, .SAFE_REQ, .CLOSE_PERMIT, .FAST_TRIP] ++ outParams ++ [.NFLT, .INH]

/-- An output is driven by a DIVERSE block (R328). -/
def State.drivenDiverse (s : State) (blks : List (Nat × EscBlk)) (p : Param) : Bool :=
  let x := s.nat p
  !selUnused x && selClass x == 1 && blks.any fun b => b.1 == selIndex x && b.2.diverse

/-- Item i has the tolerance ESC_DIVTOL (R328). -/
def State.xDiverse (s : State) (blks : List (Nat × EscBlk)) (i : Nat) : Bool :=
  if i < 256 then blks.any fun b => b.1 == i && b.2.diverse
  else if i < 270 then (match xParams[i - 256]? with | some p => s.drivenDiverse blks p | none => false)
  else (xParams.take 12).any (s.drivenDiverse blks)

/-- The counts of consecutive compared beats of difference (R328); an injection without FULL counts nowhere (R377). -/
def xCounts (skip : Option Nat) (cnt : List Nat) (diff : List Bool) : List Nat :=
  (indexed cnt).map fun x => if skip == some x.1 then x.2 else if diff[x.1]?.getD false then x.2 + 1 else 0

/-- The tolerance of item i in consecutive compared beats (R328). -/
def State.xTolerance (s : State) (blks : List (Nat × EscBlk)) (i : Nat) : Nat :=
  if s.xDiverse blks i then s.nat .ESC_DIVTOL else 2

/-- Some item has differed for its tolerance, on the counts of one channel (R328). -/
def State.xBeyond (s : State) (blks : List (Nat × EscBlk)) (cnt : List Nat) : Bool :=
  (indexed cnt).any fun x => decide (0 < x.2) && decide (s.xTolerance blks x.1 ≤ x.2)

/-- Some item reaches its tolerance in this beat, on the counts of one channel (R328). -/
def State.xReached (s : State) (blks : List (Nat × EscBlk)) (cnt : List Nat) : Bool :=
  (indexed cnt).any fun x => decide (0 < x.2) && decide (x.2 = s.xTolerance blks x.1)

/-- The channels that hold both records compare them, each on its own counts (R328): FS5 is raised when an item reaches its
tolerance, and ends with the first compared beat in which no item lies beyond it in either channel's comparison. An injection is seen in
the difference of its block; with FULL, FS5 is raised as injected, also where every block is DIVERSE (R368, R376, R377). -/
def State.compare (a b : XRec) (byA byB : Bool) (s : State) : State :=
  let diff := s.xItems a b
  let blks := s.blocks
  let inv := s.xInverted
  let skip := if s.injFull then none else inv
  let cntA := if byA then xCounts skip s.safe.x.cnt diff else s.safe.x.cnt
  let cntB := if byB then xCounts skip s.safe.x.cntB diff else s.safe.x.cntB
  let beyA := if byA then s.xBeyond blks cntA else s.safe.x.beyA && !s.cha.declared
  let beyB := if byB then s.xBeyond blks cntB else s.safe.x.beyB && !s.chb.declared
  let reached := (byA && s.xReached blks cntA) || (byB && s.xReached blks cntB)
  let any := diff.any id
  let counts := (positions id diff).any fun i => skip != some i
  let shows := inv.any fun i => diff[i]?.getD false
  let blk := (positions id (diff.take 256)).head?
  let t := { s.tally 36 (if counts then 1 else 0) with safe := { s.safe with x := { s.safe.x with
    cnt := cntA, cntB := cntB, beyA := beyA, beyB := beyB, present := beyA || beyB
    xflt := s.safe.x.xflt || reached
    first := blk.getD s.safe.x.first
    diffCnt := if any then incSat 65535 s.safe.x.diffCnt else s.safe.x.diffCnt
    invert := s.safe.x.invert - 1 } } }
  let u := if inv.isSome then t.injSeen shows else t
  let kind : RaiseKind := if inv.isSome && s.injFull && shows then .injected else .lasting
  if reached then u.raiseCondAs kind 5 0
  else if s.injFull && shows && s.safe.x.invert == 1 && !(beyA || beyB) then u.raiseAt .injected true 5 0 u.evBeat
  else if beyA || beyB then u else u.endCond 5

/-- The record of channel c of this beat, as the other channel has it at 980 µs (R328). -/
def State.posted (s : State) (c : Ch) (arrived : Bool) : Option XRec :=
  if arrived && s.evals c then (s.chan c).post.bind fun r => if r.beat = s.beat.num then some r else none else none

/-- The count of beats without a valid record of the other channel (R329). -/
def State.countMissing (s : State) (c : Ch) (other : Option XRec) : State :=
  if s.runs c then s.setChan c fun x => { x with missing := if other.isSome then 0 else incSat 3 x.missing } else s

/-- CROSS_COMPARISON (R328): recA and recB tell whether each channel's record reached the other; a channel that has both
compares, also where the other channel has only its own, and makes no comparison once it has declared the other lost (R329). -/
def State.crossCompare (recA recB : Bool) (s : State) : State :=
  let t := (s.countMissing .a (s.posted .b recB)).countMissing .b (s.posted .a recA)
  let byA := recB && !s.cha.declared
  let byB := recA && !s.chb.declared
  match s.posted .a true, s.posted .b true with
  | some x, some y => if byA || byB then t.compare x y byA byB else t
  | _, _ => t

/-- A beat's comparison has not been made yet: the evaluation has run (R328). -/
def State.compareDue (s : State) : Bool := s.beat.running && decide (0 < s.beat.eStage) && !s.safe.x.done

/-- CROSS_COMPARISON (R328). -/
def execCrossComparison (recA recB : Bool) (s : State) : Host.Outcome State Fault Refusal :=
  .next (if s.compareDue then
    let t := (s.at 980000).crossCompare recA recB
    { t with safe := { t.safe with x := { t.safe.x with done := true } } }
  else s)

/-! Loss of a channel -/

/-- A channel declares the other lost (R329). -/
def State.lossDue (s : State) (c : Ch) : Bool :=
  s.runs c && decide (3 ≤ (s.chan c).missing) && !(s.chan c).declared

/-- The FLT registers stand still from the loss of channel A on (R366). -/
def State.freezeFlt (s : State) : State :=
  { s with fltShown := some (s.fltShown.getD { flt := s.flt, nflt := s.nflt, beat := s.beat.num }) }

/-- The declaration: class 8 index 0 clears, FS6 is raised; its effects follow at the next boundary (R329). The registers of
channel A's collector stand still from its loss on (R366), but not when each channel has declared the other lost, because
neither then counts as the survivor (R329). -/
def State.declareLoss (c : Ch) (s : State) : State :=
  let t := s.setChan c fun x => { x with declared := true }
  let u : State := if t.cha.declared && t.chb.declared then { t with fltShown := none } else t
  State.raiseCond 6 0 (if c = .b && !t.cha.declared then u.freezeFlt else u)

/-- CHANNEL_LOSS (R329). -/
def execChannelLoss (declarer : Ch) (s : State) : Host.Outcome State Fault Refusal :=
  .next (if s.lossDue declarer then s.declareLoss declarer else s)

/-! Host supervision -/

/-- Three beats have passed without a transaction addressed to the unit (R323). -/
def State.hostLostDue (s : State) : Bool := s.on .HOST_SUP && decide (3 ≤ s.host.silent) && !s.safe.hostLost

/-- The host-lost input sets (R323). -/
def State.setHostLost (s : State) : State := { s with safe := { s.safe with hostLost := true } }

/-- HOST_LOST (R323). -/
def execHostLost (s : State) : Host.Outcome State Fault Refusal := .next (if s.hostLostDue then s.setHostLost else s)

/-- Beats without a transaction, counted at the boundary (R323). -/
def State.hostBoundary (s : State) : State :=
  { s with
    host := { s.host with silent := if s.host.addressed then 0 else incSat 3 s.host.silent, addressed := false }
    safe := { s.safe with hostLost := s.safe.hostLost && !s.host.addressed } }

/-- A transaction addressed to the unit arrived with a valid CRC (R323, R462). -/
def State.hostHeard (s : State) : State :=
  { s with host := { s.host with addressed := true } }

end Sys2Proof.Machine
end

