-- ==== Sys2Proof/Machine/Cores.lean ====
section
/-! DEFINITION. Core pairs: lockstep, splitting, joining, debug access, the sweep and replay (chapters 13 and 03). -/

namespace Sys2Proof.Machine

/-- Change the core pair of a die. -/
def State.setPair (s : State) (ch : Ch) (f : PairS → PairS) : State := { s with core := s.core.setPair ch f }

/-- Set CORE_STAT.CAUSE. -/
def State.coreCause (k : Nat) (s : State) : State := { s with core := { s.core with cause := k } }

/-- Code of a pair state (R363). -/
def Pair.code : Pair → Nat
  | .joined => 0
  | .split => 1
  | .joining => 2
  | .failed => 3

/-- Code of a task (R363). -/
def Task.code : Task → Nat
  | .none => 0
  | .verification => 1
  | .replay => 2
  | .sweep => 3

/-! Lockstep -/

/-- The die halts: its comparator is active while the pair is joined (R348, R352). -/
def State.mismatchDue (s : State) (ch : Ch) : Bool := s.runs ch && (s.core.pair ch).pair == .joined

/-- A lockstep mismatch (R348, R349): the die halts, the supervisor latches the class, FS0 or FS1 is raised by the collectors
that still run; the entry of the mismatch follows at the next start. -/
def State.mismatch (ch : Ch) (cls : Nat) (s : State) : State :=
  let t := s.setPair ch fun p => { p with halted := true, mm := some cls }
  let u := if ch = .a then t.freezeFlt else t
  State.raise (if ch = .a then 0 else 1) (nword cls)
    { u with core := { u.core with mmRecord := u.core.mmRecord ++ [(ch, cls)] } }

/-- LOCKSTEP_MISMATCH (R348). -/
def execLockstepMismatch (ch : Ch) (cls : Fin 8) (s : State) : Host.Outcome State Fault Refusal :=
  .next (if s.mismatchDue ch then s.mismatch ch cls.val else s)

/-- A failed comparator self-test: the pair is FAILED and FS2 is raised (R351). -/
def State.testFailed (ch : Ch) (cls inj : Nat) (s : State) : State :=
  State.raiseCond 2 (nword cls) (s.setPair ch fun p => { p with testFail := some (cls, inj) })

/-! Splitting and joining -/

/-- A split request for the die became active at this boundary. -/
def State.splitReq (s : State) (ch : Ch) : Bool :=
  s.core.req.any fun r => match ch with | .a => r.splitA | .b => r.splitB

/-- A join request for the die became active at this boundary. -/
def State.joinReq (s : State) (ch : Ch) : Bool :=
  s.core.req.any fun r => match ch with | .a => r.joinA | .b => r.joinB

/-- The request has been judged. -/
def State.splitTaken (ch : Ch) (s : State) : State :=
  { s with core := { s.core with req := s.core.req.map fun r =>
      match ch with | .a => { r with splitA := false } | .b => { r with splitB := false } } }

/-- The request has been judged. -/
def State.joinTaken (ch : Ch) (s : State) : State :=
  { s with core := { s.core with req := s.core.req.map fun r =>
      match ch with | .a => { r with joinA := false } | .b => { r with joinB := false } } }

/-- Why a split is refused, against the state before the boundary (R352, R353, R363). -/
def State.splitCause (s : State) (ch : Ch) : Option Nat :=
  if s.pre.ctlA != .parked || s.pre.ctlB != .parked then some 2
  else if s.pre.debug then some 3
  else if (s.core.pair ch).pair != .joined then some 6
  else none

/-- An accepted split: the checker starts in service mode; results of the service before are gone (R352, R357). -/
def State.splitPair (ch : Ch) (s : State) : State :=
  let t := s.setPair ch fun p => { p with pair := .split, task := .none }
  { t with core := { t.core with
    splits := incSat 255 t.core.splits
    swp := if ch = .a then { t.core.swp with res := [], state := 0, cause := 0 } else t.core.swp
    rpl := { t.core.rpl with out := [] } } }

/-- A split request at its boundary (R352, R353). -/
def State.splitOp (ch : Ch) (s : State) : State :=
  match s.splitCause ch with
  | some k => State.splitTaken ch (s.coreCause k)
  | none => State.splitTaken ch (s.splitPair ch)

/-- CORE_SPLIT (R352). -/
def execCoreSplit (ch : Ch) (s : State) : Host.Outcome State Fault Refusal :=
  .next (s.boundaryRow (fun t => t.splitReq ch) (State.splitOp ch))

/-- RPL_STAT (R108). -/
def RplS.stat (r : RplS) : Word :=
  place r.lastBeat.toNat 8 24 ||| place r.cause 4 4 |||
    place (match r.state with | .idle => 0 | .waiting => 1 | .running => 2 | .stopped => 3) 0 2

/-- The image of RPL_STAT and SWP_STAT is reported when their command completes (R464 type 3). -/
def State.completion (addr : Nat) (value : Word) (s : State) : State := s.report 3 0 (nword addr) value 0

/-- Replay stops with a cause; both checkers are free (R105, R107, R357). -/
def State.rplStop (cause : Nat) (s : State) : State :=
  if !s.core.rpl.live then s
  else
    let free (p : PairS) : PairS := { p with task := if p.task = .replay then .none else p.task }
    let t := (s.setPair .a free).setPair .b free
    let r := { t.core.rpl with state := .stopped, cause := cause, ready := [] }
    State.completion 0x0119 r.stat { t with core := { t.core with rpl := r } }

/-- SWP_STAT (R363). -/
def SwpS.stat (w : SwpS) : Word := place w.cause 4 4 ||| place w.state 2 2

/-- The sweep ends: done (2) or ended (3), with a cause (R356, R357). -/
def State.sweepStop (st cause : Nat) (s : State) : State :=
  if s.core.swp.state != 1 then s
  else
    let t := s.setPair .a fun p => { p with task := if p.task = .sweep then .none else p.task }
    let w := { t.core.swp with state := st, cause := cause, slot := {}, cleared := [] }
    State.completion 0x1C09 w.stat { t with core := { t.core with swp := w } }

/-- Why a join is refused (R357, R363). -/
def State.joinCause (s : State) (ch : Ch) : Option Nat :=
  if (s.core.pair ch).task == .verification then some 4
  else if (s.core.pair ch).pair == .failed then some 6
  else none

/-- A join request at its boundary (R357): service work on the die ends, and the copy is due; a pair that is not split keeps
its state. -/
def State.joinOp (ch : Ch) (s : State) : State :=
  match s.joinCause ch with
  | some k => State.joinTaken ch (s.coreCause k)
  | none =>
    if (s.core.pair ch).pair != .split then s.joinTaken ch
    else
      let t := if (s.core.pair ch).task = .replay then s.rplStop 3 else s
      let u := if ch = .a then t.sweepStop 3 3 else t
      State.joinTaken ch (u.setPair ch fun p =>
        { p with pair := .joining, task := .none, defer := 0, copied := false, copyDone := false, copyBad := false })

/-- CORE_JOIN (R357). -/
def execCoreJoin (ch : Ch) (s : State) : Host.Outcome State Fault Refusal :=
  .next (s.boundaryRow (fun t => t.joinReq ch) (State.joinOp ch))

/-- When the channel completed its evaluation of the beat, in µs; none before (R358). -/
def State.doneAt (s : State) : Ch → Option Nat
  | .a => s.beat.doneA
  | .b => s.beat.doneB

/-- The copy of the beat is outstanding: the channel has completed its evaluation (R358). -/
def State.copyDue (s : State) (ch : Ch) : Bool :=
  (s.core.pair ch).pair == .joining && !(s.core.pair ch).copied && (s.doneAt ch).isSome

/-- The copy runs, or is deferred when the evaluation ended after 959 µs (R358, R359); missed is the first input class whose
injection was not flagged. -/
def State.joinCopy (ch : Ch) (missed : Option (Fin 8)) (s : State) : State :=
  if 959 < (s.doneAt ch).getD 0 then
    if 2 < (s.core.pair ch).defer + 1 then
      State.coreCause 5 (s.setPair ch fun p => { p with pair := .split, defer := 0 })
    else s.setPair ch fun p => { p with defer := p.defer + 1, copied := true }
  else match missed with
    | some c => State.testFailed ch c.val c.val (s.setPair ch fun p => { p with copied := true, copyBad := true, copyDone := true })
    | none => s.setPair ch fun p => { p with copied := true, copyDone := true }

/-- JOIN_COPY (R358): every injected difference was flagged, or missed is the first class whose was not. -/
def execJoinCopy (ch : Ch) (flagged : Bool) (missed : Fin 8) (s : State) : Host.Outcome State Fault Refusal :=
  .next (if s.copyDue ch then s.joinCopy ch (if flagged then none else some missed) else s)

/-- The boundary after a copy: comparison resumes, or the pair is FAILED; a deferred copy runs in the new beat (R358, R359). -/
def PairS.atBoundary (p : PairS) : PairS :=
  if p.pair = .joining && p.copied then
    if p.copyDone then { p with pair := if p.copyBad then .failed else .joined, copied := false, copyDone := false, defer := 0 }
    else { p with copied := false }
  else p

/-- A join completes at this boundary (R363 JOINS). -/
def PairS.joins (p : PairS) : Bool := p.pair == .joining && p.copyDone && !p.copyBad

/-- The core pairs' part of a boundary. -/
def State.coreBoundary (s : State) : State :=
  let n := (if s.core.a.joins then 1 else 0) + (if s.core.b.joins then 1 else 0)
  { s with core := { s.core with
      dbgFrom := 0, a := s.core.a.atBoundary, b := s.core.b.atBoundary, joins := min 255 (s.core.joins + n) } }

/-! Debug access -/

/-- Every channel that runs is Parked. -/
def State.allParked (s : State) : Bool :=
  (!s.runs .a || s.cha.seq.state == .parked) && (!s.runs .b || s.chb.seq.state == .parked)

/-- The conditions of a debug session (R360). -/
def State.debugOk (s : State) : Bool := s.crowns && s.allParked && s.core.dbg.isNone

/-- DEBUG_SESSION_OPEN (R360). -/
def execDebugSessionOpen (ch : Ch) (s : State) : Host.Outcome State Fault Refusal :=
  .next { s with core := { s.core with dbg := if s.debugOk then some ch else s.core.dbg } }

/-- The completion time of a channel's evaluation is set to one past the deadline where the evaluation has run (R362). -/
def BeatS.late (b : BeatS) : Ch → BeatS
  | .a => { b with doneA := b.doneA.map fun _ => 1000, haltA := 1000000 }
  | .b => { b with doneB := b.doneB.map fun _ => 1000, haltB := 1000000 }

/-- A halt of this length from 850 µs on delays the channel's evaluation (R362). -/
def BeatS.delay (b : BeatS) (ns : Nat) : Ch → BeatS
  | .a => { b with haltA := b.haltA + ns }
  | .b => { b with haltB := b.haltB + ns }

/-- A halted core resumes at this instant of the beat (R362): a halt that has spanned 980 µs is a beat overrun, a shorter one has delayed
an evaluation under way. -/
def State.resumeCore (s : State) : State :=
  match s.core.dbg with
  | none => s
  | some ch =>
    if !s.core.dbgHalt then s
    else
      let spans := decide (s.core.dbgFrom ≤ 980000) && decide (980000 < s.beat.offNs)
      let t := s.setBeat fun b => if spans then b.late ch else b.delay (b.offNs - max s.core.dbgFrom 850000) ch
      { t with core := { t.core with dbgHalt := false } }

/-- The session ends: the port disconnects, a halted core resumes (R360). -/
def State.debugEnd (s : State) : State :=
  let t := s.resumeCore
  { t with core := { t.core with dbg := none, dbgHalt := false, log := [] } }

/-- A halt that lasts into the boundary has spanned 980 µs, unless it began later (R362). -/
def State.haltSpans (s : State) : State :=
  match s.core.dbg with
  | none => s
  | some ch =>
    if s.core.dbgHalt && decide (s.core.dbgFrom ≤ 980000) then
      s.setBeat fun b => match ch with | .a => { b with doneA := some 1000 } | .b => { b with doneB := some 1000 }
    else s

/-- A debugger write (R361): drained entries of the log have reached the checker; while the log of a joined pair is full the port
refuses it. A write to memory goes through the main core's data path in the time slot of a plane, and passes the memory protection unit
of the die as a write of that plane (R29, R30). The checker cannot be reached (R360). -/
def State.dbgWrite (t : DbgTarget) (addr value : Word) (drained : Nat) (slot : Party) (s : State) : State :=
  let l := s.core.log.drop drained
  let e : DbgEnt := { target := t, addr := addr, value := value }
  let joined := match s.core.dbg with
    | some ch => (s.core.pair ch).pair == .joined
    | none => false
  let logged := joined && t != .memory
  if s.core.dbg.isNone || slot == .checker then s
  else if joined && decide (64 ≤ l.length) then { s with core := { s.core with log := l } }
  else
    (if t = .memory then State.planeWrite (s.core.dbg.getD .a) slot addr.toNat else id) { s with
      core := { s.core with
        log := if logged then l ++ [e] else l
        dbgLast := some e
        dbgWr := incSat 65535 s.core.dbgWr }
      beat := { s.beat with detVoid := true } }

/-- DEBUGGER_WRITE (R361). -/
def execDebuggerWrite (target : DbgTarget) (addr value : Word) (met : DbgAt) (s : State) :
    Host.Outcome State Fault Refusal := .next (s.dbgWrite target addr value met.drained met.slot)

/-! The sweep -/

/-- A sweep frequency is usable (R363). -/
def sweepFreqOk (f : BitVec 21) : Bool := decide (500 ≤ f.toNat ∧ f.toNat ≤ 2000000)

/-- The sweep may start (R355, R356, R363). -/
def State.sweepOk (s : State) (nf : BitVec 4) : Bool :=
  s.core.a.pair == .split && s.core.a.task == .none && (s.core.swp.freqs.take (nf.toNat + 1)).all sweepFreqOk

/-- SWP_CTRL.START (R356). -/
def State.sweepStart (nf : BitVec 4) (s : State) : State :=
  let w := { s.core.swp with nf := nf }
  if s.sweepOk nf then
    let t := s.setPair .a fun p => { p with task := .sweep }
    { t with core := { t.core with swp := { w with state := 1, cause := 0, idx := 0, slot := {}, cleared := [], res := [] } } }
  else { s with core := { s.core with swp := { w with cause := 1 } } }

/-- SWEEP_START (R356). -/
def execSweepStart (path : Path) (nf : BitVec 4) (s : State) : Host.Outcome State Fault Refusal :=
  let _ := path
  .next (s.sweepStart nf)

/-- H of the frequency in progress (R224, R356). -/
def State.sweepH (s : State) : Nat := halfPeriod ((s.core.swp.freqs[s.core.swp.idx]?.getD 0).toNat)

/-- The sweep takes in the beat before, as a slot without excitation (R356). -/
def State.sweepBeat (s : State) : State :=
  if s.core.swp.state != 1 || decide (s.core.swp.nf.toNat < s.core.swp.idx) then s
  else { s with core := { s.core with swp := { s.core.swp with slot := s.slotBeat none 0 s.sweepH s.core.swp.slot } } }

/-- The result of a cell at the frequency in progress exists. -/
def SwpS.has (w : SwpS) (n : Nat) : Bool := w.res.any fun r => r.1 == w.idx && r.2.1 == n

/-- What a block end gives cell n in the sweep: its sums and, when it is formed or cleared, its result (R232, R356). -/
def State.sweepCell (s : State) (h n : Nat) (beat : Word) (b : Bins) (x : Sums) : Sums × Option ImpRes :=
  let y := s.cellBlock h n beat b x
  match y.2 with
  | some r => (y.1, some r.1)
  | none =>
    if b.any && x.cleared (s.nat .IMP_NAVG) (s.blockValid h n b) (s.tbin (s.cellThm n).temp) (sbin s.blockSoc) then
      (y.1, some { beat := beat, any := true })
    else (y.1, none)

/-- A block of the sweep ends (R356): results of the cells; the next frequency once every populated cell has one. -/
def State.sweepBlock (s : State) : State :=
  let w := s.core.swp
  if !(w.state == 1 && w.slot.ended) then s
  else
    let each := (indexed w.slot.bins).map fun b =>
      (b.1 + 1, s.sweepCell s.sweepH (b.1 + 1) (s.beat.num - 1) b.2 (w.slot.sums[b.1]?.getD {}))
    let new := each.filterMap fun e =>
      if s.cellPop e.1 && !w.has e.1 then e.2.2.map fun r => (w.idx, e.1, r) else none
    let v := { w with res := w.res ++ new, slot := { w.slot with ended := false, sums := each.map fun e => e.2.1 } }
    let done := (List.range 96).all fun i => !s.cellPop (i + 1) || v.has (i + 1)
    { s with core := { s.core with swp := if done then { v with idx := v.idx + 1, slot := {} } else v } }

/-- The sweep has finished, or the analysis conditions have lapsed (R226, R356). -/
def State.sweepDue (s : State) : Bool :=
  s.core.swp.state == 1 && (decide (s.core.swp.nf.toNat < s.core.swp.idx) || !s.analysisOn)

/-- The end of the sweep (R356). -/
def State.sweepEnd (s : State) : State :=
  if s.core.swp.nf.toNat < s.core.swp.idx then s.sweepStop 2 0 else s.sweepStop 3 2

/-- SWEEP_END (R356). -/
def execSweepEnd (s : State) : Host.Outcome State Fault Refusal := .next (if s.sweepDue then s.sweepEnd else s)

/-! Replay -/

/-- The preconditions of replay (R104, R355). -/
def State.rplOk (s : State) : Bool :=
  s.parked && s.core.a.pair == .split && s.core.b.pair == .split && s.core.a.task == .none && s.core.b.task == .none

/-- A write of RPL_CTRL with RPL_EN = 1 (R104). DESIGN CHOICE (log entry 79): a refused start leaves RPL_EN as it was, so that it reads 0
after a written 1; while a replay is live the write sets CAUSE 4, and BANK and RAW_CELL keep the values of the replay that goes on. -/
def State.rplStart (bank raw : Bool) (s : State) : State :=
  let r := if s.core.rpl.live then s.core.rpl else { s.core.rpl with bank := bank, rawCell := raw }
  if s.rplOk then
    let t := (s.setPair .a fun p => { p with task := .replay }).setPair .b fun p => { p with task := .replay }
    { t with core := { t.core with rpl := { r with
      en := true, state := .waiting, cause := 0, lastBeat := 0, inBuf := [], stream := [], ready := [], lastRun := none, out := [] } } }
  else { s with core := { s.core with rpl := { r with cause := 4 } } }

/-- RPL_START (R104). -/
def execRplStart (path : Path) (bank rawCell : Bool) (s : State) : Host.Outcome State Fault Refusal :=
  let _ := path
  .next (s.rplStart bank rawCell)

/-- RPL_STOP (R107): CAUSE 3. -/
def execRplStop (path : Path) (s : State) : Host.Outcome State Fault Refusal :=
  let _ := path
  let t := s.rplStop 3
  .next { t with core := { t.core with rpl := { t.core.rpl with en := false } } }

/-- The CRC of a record is right (R105). -/
def rplCrcOk (l : List Byte) : Bool :=
  decide (20 ≤ l.length) && crc32 (l.take (l.length - 4)) == numAt l (l.length - 4) 4

/-- BEAT_NUM of a record's header (R105; layout: log entry 13). -/
def rplBeatOf (l : List Byte) : Word := nword (numAt l 1 4)

/-- A complete record (R105, R107). The start record gives the beat number from which the sequence goes on; what its state block and
the sections of a beat record hold has no byte layout in the manual and enters the results whole (log entries 7, 13). -/
def State.rplRecord (l : List Byte) (s : State) : State :=
  let r := s.core.rpl
  if !r.live then s
  else if !rplCrcOk l then s.rplStop 1
  else match r.state with
    | .waiting => { s with core := { s.core with rpl :=
        { r with state := .running, stream := [l], expect := rplBeatOf l + 1 } } }
    | _ =>
      if rplBeatOf l = r.expect then
        { s with core := { s.core with rpl := { r with stream := r.stream ++ [l], ready := r.ready ++ [l], expect := r.expect + 1 } } }
      else s.rplStop 2

/-- REPLAY_RECORD (R105). -/
def execReplayRecord (bytes : List Byte) (s : State) : Host.Outcome State Fault Refusal := .next (s.rplRecord bytes)

/-- Length of the record that the buffer begins with, as its header gives it (R105). DESIGN CHOICE (log entry 13): it counts the whole
record, with header and CRC. -/
def rplLength (l : List Byte) : Nat := Nat.max 20 (numAt l 12 4)

/-- RPL_IN takes 4 bytes of the stream; a record that they complete is taken in (R105, R108). DESIGN CHOICE (log entry 13): a record ends
in its last word, and the bytes of that word after its length are padding and are dropped. -/
def State.rplIn (data : Word) (s : State) : State :=
  if !s.core.rpl.live then s
  else
    let b := s.core.rpl.inBuf ++ wordBytes data
    if 16 ≤ b.length ∧ rplLength b ≤ b.length then
      State.rplRecord (b.take (rplLength b)) { s with core := { s.core with rpl := { s.core.rpl with inBuf := [] } } }
    else { s with core := { s.core with rpl := { s.core.rpl with inBuf := b } } }

/-- A replay beat may run (R106). -/
def State.rplBeatDue (s : State) : Bool :=
  s.core.rpl.state == .running && !s.core.rpl.ready.isEmpty && s.core.rpl.lastRun != some s.beat.num

/-- A replay beat (R106): its results come from the image in the bank that BANK selects and from the stream so far (R102, R104); their
bytes are free (log entry 7). -/
def State.rplBeat (s : State) : State :=
  let r := s.core.rpl
  match r.ready with
  | [] => s
  | l :: rest =>
    { s with core := { s.core with rpl := { r with
        ready := rest, lastBeat := rplBeatOf l, lastRun := some s.beat.num
        out := r.out ++ Config.replayResult (if r.bank then s.cfg.bank1 else s.cfg.bank0).cells r.rawCell
          (r.stream.take (r.stream.length - rest.length)) } } }

/-- REPLAY_BEAT (R106). -/
def execReplayBeat (s : State) : Host.Outcome State Fault Refusal := .next (if s.rplBeatDue then s.rplBeat else s)

/-- A read of RPL_OUT takes 4 bytes (R108). -/
def State.rplOutTake (s : State) : State :=
  { s with core := { s.core with rpl := { s.core.rpl with out := s.core.rpl.out.drop 4 } } }

/-- RPL_OUT_READ (R108). -/
def execRplOutRead (path : Path) (s : State) : Host.Outcome State Fault Refusal :=
  let _ := path
  .next s.rplOutTake

end Sys2Proof.Machine
end

