-- ==== Sys2Proof/Machine/Faults.lean ====
section
/-! DEFINITION. Fault collection: the commands of chapter 14 (R364-R378). -/

namespace Sys2Proof.Machine

/-- FAULT_RAISE (R366): a raise at an instant of the beat, transient or a single lasting occurrence; sources 75 to 127 are
never raised (R364). -/
def execFaultRaise (fs : Fin 128) (transient : Bool) (detail : Word) (ofsNs : Nat) (s : State) :
    Host.Outcome State Fault Refusal :=
  .next (if fs.val < 75 then
    (if transient then (s.at ofsNs).raiseTransient fs.val detail else (s.at ofsNs).raise fs.val detail)
  else s)

/-- SEVERITY_EXPIRY (R369). -/
def execSeverityExpiry (fs : Fin 128) (s : State) : Host.Outcome State Fault Refusal :=
  .next (if s.sevDue fs.val then s.sevClear fs.val else s)

/-- Every expiry that is due (R369). -/
def State.expiries (s : State) : State := runAll State.sevClear ((List.range 128).filter s.sevDue) s

/-- Positions whose corrected reading lies too far from nominal: reference deviation, zero deviation (R142). -/
def calFails (l : List (Int × Int)) (refLim zeroLim : Nat) : List Nat :=
  positions (fun (d : Int × Int) => decide (refLim < d.1.natAbs) || decide (zeroLim < d.2.natAbs)) l

/-- A restarted segment die is calibrated as at the start (R142, R372): its converters out of limits are marked failed beside those
marked before, and the segment's source is raised. -/
def State.calSegment (seg : Nat) (o : CalIn) (s : State) : State :=
  let cells := ((calFails o.cell 1000 200).map (· + 1)).filter fun n => segOf n == seg
  let chks := (calFails o.chk 4000 1000).filter fun k => k / 6 == seg
  let curs := if seg = 0 then calFails o.cur 2000 2000 else []
  let hvs := if seg = 0 then calFails o.hv 3000 500 else []
  let t := { s with meas := { s.meas with
    failCell := s.meas.failCell ++ cells.filter fun n => !s.meas.failCell.contains n
    failChk := s.meas.failChk ++ chks.filter fun n => !s.meas.failChk.contains n
    failCur := s.meas.failCur ++ curs.filter fun n => !s.meas.failCur.contains n
    failHv := s.meas.failHv ++ hvs.filter fun n => !s.meas.failHv.contains n } }
  if cells.isEmpty && chks.isEmpty && curs.isEmpty && hvs.isEmpty then t else t.raiseCond (24 + seg) 0

/-- The reset of the block can end: its hold time has passed, or it is a segment die, whose restart takes at most 50 beats
(R372). -/
def blkOver (b : Blk) (x : Blk × Nat) : Bool :=
  x.1 == b && (x.2 == 0 || (match b with | .segment _ => decide (x.2 < 50) | _ => false))

/-- The block's reset ends now (R372). -/
def State.blkEnds (s : State) (b : Blk) : Bool := s.flt.blk.any (blkOver b)

/-- Fault source of a CAN port (R439). -/
def canFs (p : CPort) : Nat := if p = .can1 then 62 else 63

/-- A frame that was on the bus stays pending when its controller leaves the bus (R440). -/
def ObjS.offBus (o : ObjS) : ObjS := if o.txs = .onBus then { o with txs := .pending } else o

/-- A CAN controller that leaves its reset rejoins after bus integration (R440), a segment die is calibrated (R142). -/
def State.blkResume (b : Blk) (cal : CalIn) (s : State) : State :=
  match b with
  | .can p =>
    (s.setCan p fun c =>
      { c with state := if c.state = .off then .off else .integrating, left := 0, holdRun := false, rxErr := 0, txErr := 0
               obj := c.obj.map ObjS.offBus }).endCond (canFs p)
  | .segment g => s.calSegment g.val cal
  | _ => s

/-- The block resumes (R372). -/
def State.blkEnd (cal : CalIn) (b : Blk) (s : State) : State :=
  let t := { s with flt := { s.flt with blk := s.flt.blk.filter fun x => !blkOver b x } }
  t.blkResume b cal

/-- BLOCK_RESET_END (R372). -/
def execBlockResetEnd (blk : Blk) (cal : CalIn) (s : State) : Host.Outcome State Fault Refusal :=
  .next (if s.blkEnds blk then s.blkEnd cal blk else s)

/-- Every block whose hold time has ended. -/
def State.blkSettle (s : State) : State :=
  runAll (State.blkEnd {}) ((s.flt.blk.filter fun x => x.2 == 0).map (·.1)) s

/-- The blocks in reset at a boundary: those due begin, the others count down (R370, R372). -/
def State.blkBoundary (s : State) : State :=
  { s with flt := { s.flt with
      blk := (s.flt.blk.map fun x => (x.1, x.2 - 1)).filter (fun x => !s.flt.blkDue.any fun y => y.1 == x.1) ++ s.flt.blkDue
      blkDue := [] } }

/-- HANDLING_CLOSE (R375): FLT_HCTRL.CLOSE with the key. -/
def execHandlingClose (path : Path) (key : BitVec 8) (s : State) : Host.Outcome State Fault Refusal :=
  let _ := path
  .next (if key == 0xC3 && s.flt.hopen then s.closeHandling 1 else s)

/-- FLT_HOLD beats have passed without a merged raise (R375). -/
def State.holdDue (s : State) : Bool := s.flt.hopen && decide (s.nat .FLT_HOLD ≤ (s.beat.num - s.flt.hlast).toNat)

/-- HANDLING_TIMEOUT (R375). -/
def execHandlingTimeout (s : State) : Host.Outcome State Fault Refusal := .next (if s.holdDue then s.closeHandling 2 else s)

/-- The reset-loop state ends (R373). -/
def State.releaseLoop (s : State) : State := { s with flt := { s.flt with rloop := false, rstTimes := [] } }

/-- RESET_LOOP_RELEASE (R373): FLT_HCTRL.RLS with the key. -/
def execResetLoopRelease (path : Path) (key : BitVec 8) (s : State) : Host.Outcome State Fault Refusal :=
  let _ := path
  .next (if key == 0xC3 then s.releaseLoop else s)

/-- LATCH_CLEAR (R367). -/
def execLatchClear (s : State) : Host.Outcome State Fault Refusal := .next s.latchClear

/-! Injection -/

/-- An injection is staged or running (R377). -/
def State.injBusy (s : State) : Bool := s.flt.injRun.isSome || s.flt.injDue.isSome

/-- A write of FLT_INJ: staged, or refused with a cause (R376-R378). -/
def State.inject (key : BitVec 8) (full : Bool) (target : Nat) (s : State) : State :=
  let cause := if key != 0xC3 then 1 else if s.injBusy then 3 else if (injSource target).isNone then 4
    else if full && !s.parked then 2 else 0
  { s with flt := { s.flt with
      injCause := cause
      injTarget := if cause = 0 then target else s.flt.injTarget
      injDue := if cause = 0 then some { target := target, full := full } else s.flt.injDue } }

/-- FLT_INJ (R376). -/
def execFltInj (path : Path) (key : BitVec 8) (full : Bool) (target : BitVec 5) (s : State) : Host.Outcome State Fault Refusal :=
  let _ := path
  .next (s.inject key full target.toNat)

/-- An injection that has acted for its 2 beats ends (R376): what has been seen decides; a word code injection shows what the decoder
returns, a link word is detected and sent again, a spoiled frame that was not judged missing was recovered. DESIGN CHOICE (log entry
100): an injection on a port that no frame or transaction has met ends idle, without a result. -/
def State.injExpire (i : InjRun) (s : State) : State :=
  if i.target < 24 || i.hit || i.seen.isSome then s.injResult true
  else { s with flt := { s.flt with injRun := none, injState := 0 } }

/-- A beat of the injection under way ends (R376). -/
def State.injAge (s : State) : State :=
  match s.flt.injRun with
  | none => s
  | some i =>
    if i.left ≤ 1 then s.injExpire i else { s with flt := { s.flt with injRun := some { i with left := i.left - 1 } } }

/-- A staged injection starts at the boundary; with FULL only while Parked (R33, R376, R377). -/
def State.injBoundary (s : State) : State :=
  match s.flt.injDue with
  | none => s
  | some i =>
    if i.full && !s.parked then { s with flt := { s.flt with injDue := none, injCause := 2 } }
    else
      { s with
        flt := { s.flt with injDue := none, injRun := some i, injState := 1 }
        safe := { s.safe with x := if i.target = 29 then { s.safe.x with invert := if i.full then 2 else 1 } else s.safe.x } }

/-- INJECTION_RESULT (R377): flagged tells what the checker reported, where nothing else has shown it. -/
def execInjectionResult (flagged : Bool) (s : State) : Host.Outcome State Fault Refusal := .next (s.injResult flagged)

/-- The sources' part of a boundary: single occurrences of earlier beats end (R365, R370). -/
def State.srcBoundary (s : State) : State :=
  { s with flt := { s.flt with src := s.flt.src.map (FsSrc.atBoundary s.beat.num) } }

end Sys2Proof.Machine
end

