-- ==== Sys2Proof/Machine/Limits.lean ====
section
/-! DEFINITION. Current limits, charge voltage limit, remaining energy and health (chapter 10). -/

namespace Sys2Proof.Machine

/-- The cells and the current that the limits are formed from: held in a beat in which R256 holds (R281, R286). -/
def State.limHold (s : State) : State :=
  { s with lim :=
      if !s.chg.acc.stale && s.chg.acc.haveSocV then { s.lim with cells := s.stringCells, ima := s.ima } else s.lim }

/-- r of R282. -/
def State.cellRes (s : State) (c : StrCell) : Int := if 0 < c.rre ∧ c.temps.isSome then c.rre else s.par .R_FB

/-- The limit of one cell for a headroom in codes, in mA (R282). -/
def cellLimit (head r kh : Int) : Int := if head ≤ 0 then 0 else floorDiv (head * 78125) (2 * divRnd (r * kh) 256)

/-- lchg of R282. -/
def State.lchg (s : State) (kh : Int) (c : StrCell) : Int :=
  cellLimit (s.par .V_CLIM - (c.hi - c.drop s.lim.ima)) (s.cellRes c) kh

/-- ldis of R282. -/
def State.ldis (s : State) (kh : Int) (c : StrCell) : Int :=
  cellLimit ((c.lo - c.drop s.lim.ima) - s.par .V_DLIM) (s.cellRes c) kh

/-- A temperature curve at t, clamped to its end points (R283). -/
def curveAt (l : List (Int × Int)) (t : Int) : Int :=
  match l.head?, l.getLast? with
  | some a, some b => if t ≤ a.1 then a.2 else if b.1 ≤ t then b.2 else thmSegment l t
  | _, _ => 0

/-- The smallest factor of a curve between the temperatures that stand for a cell: its thermistor's, or the lowest and the
highest of its unit (log entry 30). -/
def curveMin (l : List (Int × Int)) (ts : List Int) : Int :=
  match minI ts, maxI ts with
  | some a, some b =>
    ((l.filter fun p => decide (a ≤ p.1 ∧ p.1 ≤ b)).map (·.2)).foldl min (min (curveAt l a) (curveAt l b))
  | _, _ => 0

/-- ftemp of R283 in charge (true) or discharge. -/
def State.ftemp (s : State) (chg : Bool) : Int :=
  (s.lim.cells.map fun c => match c.temps with
    | some ts => curveMin (s.img.points (if chg then .TD_CHG else .TD_DIS)) ts
    | none => if chg then 0 else s.par .TD_INV).foldl min 1000

/-- The worst thermal state of the string (R284, R385). -/
def State.thermalWorst (s : State) : Nat := (s.otherUnits.map (·.worst)).foldl max s.thm.worst

/-- The state that gates the publication. -/
def State.limState (s : State) : Ctl := s.ctl

/-- fder of R284 in charge (true) or discharge. -/
def State.fder (s : State) (chg : Bool) : Int :=
  let w := s.thermalWorst
  let lr := s.cha.lreq.toNat
  let req := if chg then lr.testBit 0 || lr.testBit 2 else lr.testBit 1 || lr.testBit 3
  [if w = 2 then s.par .THR_FACT else 1000, if w = 3 then 0 else 1000, if req then s.par .LR_FACT else 1000,
    if s.wireExpired && decide (s.par .OW_REACT = 1) then s.par .OW_FACT else 1000,
    if s.limState = .rundown then s.par .RD_FACT else 1000].foldl min 1000

/-- The applied factor of a direction. -/
def State.limFactor (s : State) (chg : Bool) : Int := min (s.ftemp chg) (s.fder chg)

/-- EST_SOC.VALID (R278). -/
def State.socValid (s : State) : Bool := s.accounting

/-- Held beyond LIM_HOLD (R286). -/
def State.limZeroed (s : State) : Bool := decide (s.nat .LIM_HOLD < s.chg.acc.heldBeats)

/-- Zero by control state (R286). -/
def State.limGated (s : State) : Bool := s.limState != .closed && s.limState != .rundown

/-- The horizon factors (R282). -/
def State.horizons (s : State) : List Int := [s.par .KH2, s.par .KH10, s.par .KH30]

/-- The limit of a horizon before factors, with the cell that set it: the first in order, none when IMAX did (R285). -/
def State.cellMin (s : State) (chg : Bool) (kh : Int) : Int × Option StrCell :=
  s.lim.cells.foldl
    (fun a c => let x := if chg then s.lchg kh c else s.ldis kh c
                if x < a.1 then (x, some c) else a)
    (s.par (if chg then .IMAX_CHG else .IMAX_DIS), none)

/-- The decaying value of Local mode (R424). -/
def decay (v0 dflt : Int) (t : Nat) : Int :=
  if v0 ≤ dflt ∨ 30000 ≤ t then dflt else v0 - divRnd ((v0 - dflt) * t) 30000

/-- One limit after factor, horizon order, zero, ramp and Local mode, and whether the ramp held it back (R285-R287). -/
def limStep (f ramp prev : Int) (zero : Bool) (loc : Option Int) (below : Option Int) (raw : Int) : Int × Bool :=
  let l := divRnd (raw * f) 1000
  let l := match below with | some b => min l b | none => l
  let l := if zero then 0 else l
  let held := decide (prev + ramp < l)
  let l := if held then prev + ramp else l
  (match loc with | some d => min l d | none => l, held)

/-- The three limits of a direction, shortest horizon first. -/
def State.limits3 (s : State) (chg : Bool) : List (Int × Bool) :=
  let f := s.limFactor chg
  let zero := s.limGated || s.limZeroed || !s.socValid
  let prev := if chg then s.lim.pub.chg else s.lim.pub.dis
  let v0 := if chg then s.ring.v0Chg else s.ring.v0Dis
  (indexed s.horizons).foldl (fun acc x =>
    let loc := s.ring.localBeats.map fun t => decay (v0[x.1]?.getD 0) (s.par (if chg then .LOC_CCL else .LOC_DCL)) t
    acc ++ [limStep f (s.par .LIM_RAMP) (prev[x.1]?.getD 0) zero loc (acc.getLast?.map (·.1)) (s.cellMin chg x.2).1]) []

/-- N: the populated cells of the string (R289; log entry 68). -/
def State.stringPop (s : State) : Nat :=
  s.popCells.length + ((s.otherUnits.map fun u => (u.pop.filter id).length).foldl (· + ·) 0)

/-- CVL in mV for a string of n populated cells (R289). -/
def cvlOf (cells : List StrCell) (n vcvl : Int) : Int :=
  let sum := sumI (cells.map (·.code))
  let vmax := (maxI (cells.map (·.hi))).getD 0
  max 0 (divRnd ((sum + n * (vcvl - vmax)) * 5) 128)

/-- Twice the area under the OCV curve up to an SOC (R290). -/
def ocvArea (soc : Int) : List (Int × Int) → Int
  | p :: q :: r =>
    let s0 := max p.2 0
    let s1 := min q.2 soc
    (if s1 ≤ s0 then 0 else (interp s0 p.2 p.1 q.2 q.1 + interp s1 p.2 p.1 q.2 q.1) * (s1 - s0)) + ocvArea soc (q :: r)
  | _ => 0

/-- EREM in Wh (R290). -/
def State.erem (s : State) (soc : Int) : Int :=
  divRnd (ocvArea soc (s.img.points .OCV_CURVE) * s.mAh s.chg.acc.capU * s.stringPop * 5) 25600000000000

/-- Growth figures of the string in the order of R285: unit, cell, growth (R292). -/
def State.growths (s : State) : List (UAddr × Nat × Nat) :=
  let own := (s.addr, ((List.range 96).filter fun i => s.cellPop (i + 1)).map fun i => (s.addr, i + 1, (s.ownPair (i + 1)).2.2))
  let others := s.otherUnits.map fun u => (u.addr, (indexed u.pairs).map fun x => (u.addr, x.1 + 1, x.2.2.2))
  ((sortBy (fun a b => decide (a.1.toNat ≤ b.1.toNat)) (own :: others)).flatMap (·.2)).filter fun x => x.2.2 != 0

/-- SOH_C (R291); 0 while no record is in force. -/
def State.sohC (s : State) : Int := if s.chg.inForce.isSome then min 65535 (divRnd (s.chg.acc.capU * 10000) s.capNomU) else 0

/-- Some sensor group of the string is in throttle, as this beat's evaluation decided it (R284, R385, R386). -/
def State.anyThrottle (s : State) : Bool :=
  (s.thm.grp.any fun x => x.state == 2) || s.otherUnits.any fun u => u.worst == 2 || u.worstSeg == 2

/-- LIM_STAT bits 15:0 of the publication (R295). -/
def State.limStat (s : State) (c d : List (Int × Bool)) : BitVec 16 :=
  let w := s.thermalWorst
  let lr := s.cha.lreq.toNat
  let a := s.chg.acc
  BitVec.ofNat 16 (packBits [
    ((s.cellMin false (s.par .KH2)).2).isSome, ((s.cellMin true (s.par .KH2)).2).isSome,
    decide (0 < a.heldBeats) && !s.limZeroed, s.limGated, s.limZeroed, s.anyThrottle, w == 3,
    lr.testBit 0 || lr.testBit 2, lr.testBit 1 || lr.testBit 3,
    s.wireExpired && decide (s.par .OW_REACT = 1), s.limState == .rundown, s.ring.localBeats.isSome,
    s.lim.cells.any fun x => x.temps.isNone, (c ++ d).any (·.2), s.lim.sohCWarn, s.lim.sohRWarn])

/-- A cell as the LIM registers name it. -/
def cellName (c : Option StrCell) : UAddr × Nat := (c.map fun x => (x.unit, x.cell)).getD (0, 0)

/-- The health figures, their warnings and the counts back within the thresholds (R291-R293). -/
def State.health (s : State) : State :=
  let c := s.sohC
  let g := s.growths
  let worst := bestBy (fun a b => decide (b.2.2 < a.2.2)) g
  let r : Int := (worst.map fun x => (x.2.2 : Int)).getD 0
  let cBad := s.chg.inForce.isSome && decide (c < s.par .SOH_C_WARN)
  let rBad := decide (s.par .SOH_R_WARN < r)
  let t := { s with lim := { s.lim with
    sohCWarn := s.lim.sohCWarn || cBad, sohRWarn := s.lim.sohRWarn || rBad
    sohCOk := if cBad then 0 else incSat 10000 s.lim.sohCOk
    sohROk := if rBad then 0 else incSat 10000 s.lim.sohROk } }
  let u := if cBad && !s.lim.sohCWarn then State.event .control 0x406 [1, sword c, 0, 0] t else t
  if rBad && !s.lim.sohRWarn then
    State.event .control 0x406 [2, sword r, nword ((worst.map fun x => x.1.toNat).getD 0), nword ((worst.map fun x => x.2.1).getD 0)] u
  else u

/-- The publication of the evaluated beat (R285-R294). -/
def State.publication (s : State) : LimPub :=
  let c := s.limits3 true
  let d := s.limits3 false
  let g := s.growths
  let worst := bestBy (fun a b => decide (b.2.2 < a.2.2)) g
  let a := s.chg.acc
  { beat := s.beat.num
    chg := c.map (·.1), dis := d.map (·.1)
    cvl := if a.stale then s.lim.pub.cvl else cvlOf s.lim.cells s.stringPop (s.par .V_CVL)
    erem := s.erem a.soc, soc := a.soc, u := a.u
    sohC := s.sohC
    sohRMax := (worst.map fun x => (x.2.2 : Int)).getD 0
    sohRMean := if g.isEmpty then 0 else divRnd (sumI (g.map fun x => (x.2.2 : Int))) g.length
    stat := s.limStat c d, valid := true
    reqFreq := (s.imp.req.map (·.freq)).getD 0, reqAmp := (s.imp.req.map (·.amp)).getD 0
    fChg := s.limFactor true, fDis := s.limFactor false
    worstUnit := (worst.map (·.1)).getD 0, worstCell := (worst.map (·.2.1)).getD 0
    ownGrowth := (g.filter fun x => x.1 == s.addr).length, growth := g.length
    cellC := cellName (s.cellMin true (s.par .KH2)).2, cellD := cellName (s.cellMin false (s.par .KH2)).2 }

/-- Channel B is the survivor: channel A does not run, or B alone has declared the other channel lost, and it has taken effect
(R329, R332). -/
def State.survivorB (s : State) : Bool := !s.runs .a || (s.chb.applied && !s.cha.declared)

/-- The publication of channel B as the survivor: its own limits in run-down, zero with GATED in every other state but Closed, in
which the loss has not taken effect yet; the rest as last published (R286, R329, R332). -/
def State.survivorPub (s : State) : LimPub :=
  match s.chb.seq.state with
  | .closed => { s.lim.pub with beat := s.beat.num }
  | .rundown =>
    { s.lim.pub with
      beat := s.beat.num
      chg := List.replicate 3 (s.par .RD_CCL), dis := List.replicate 3 (s.par .RD_DCL) }
  | _ =>
    { s.lim.pub with
      beat := s.beat.num, chg := List.replicate 3 0, dis := List.replicate 3 0, stat := s.lim.pub.stat ||| 8 }

/-- A channel that runs does not complete its evaluation in time (R96). -/
def State.overruns (s : State) : Bool := (s.runs .a && !s.evals .a) || (s.runs .b && !s.evals .b)

/-- LIMIT_PUBLICATION, within EVALUATION (R34, R279, R332): the figures of the active Master; any other unit reads VALID 0. In a
beat overrun of either channel the previous publication stays in force (R34, R96). -/
def State.publish (s : State) : State :=
  if s.survivorB then
    (if s.evals .b && s.master then { s with lim := { s.lim with pub := s.survivorPub } } else s)
  else if !s.evals .a then s
  else if !s.master then { s with lim := { s.lim with pub := {} }, thm := { s.thm with strWorst := 0 } }
  else
    let u := s.limHold.health
    let t := { u with thm := { u.thm with strWorst := u.thermalWorst } }
    if s.overruns then t
    else { t with lim := { t.lim with
        pub := t.publication
        zeroHold := t.limZeroed } }

/-- A warning's figure has been within its threshold for 10,000 beats (R293). -/
def State.healthDue (s : State) : Bool :=
  (s.lim.sohCWarn && s.lim.sohCOk == 10000) || (s.lim.sohRWarn && s.lim.sohROk == 10000)

/-- The warnings clear (R293). -/
def State.healthClear (s : State) : State :=
  { s with lim := { s.lim with
      sohCWarn := s.lim.sohCWarn && s.lim.sohCOk != 10000
      sohRWarn := s.lim.sohRWarn && s.lim.sohROk != 10000 } }

/-- Local mode counts its beats at a boundary, and the registers show the last publication (R279, R424). -/
def State.limBoundary (s : State) : State :=
  { s with
    lim := { s.lim with
      shown := s.lim.pub, zeroHold := false
      zeroCnt := if s.lim.zeroHold then incSat 65535 s.lim.zeroCnt else s.lim.zeroCnt }
    ring := { s.ring with localBeats := s.ring.localBeats.map (incSat 4294967295) } }

end Sys2Proof.Machine
end

