-- ==== Sys2Proof/Machine/Sync.lean ====
section
/-! DEFINITION. The beat source, the lock, the string beat number, the placing of windows, overruns (chapter 03). -/

namespace Sys2Proof.Machine

/-- The unit's beat follows its own SRC_SEL: it is the active Master of its string, or has no string (R398). -/
def State.ownBeat (s : State) : Bool := s.master || s.ring.role == 0

/-- A reference interval is valid (R85). -/
def intervalOk (interval : Nat) : Bool := decide (196000 ≤ interval ∧ interval ≤ 204000)

/-- A reference arrives: a valid interval counts, an invalid one breaks the run (R85). -/
def BeatS.reference (b : BeatS) (ok : Bool) (interval : Nat) : BeatS :=
  if ok then
    { b with validRefs := incSat 4 b.validRefs, intervals := (interval :: b.intervals).take 4, refSeen := true }
  else { b with validRefs := 0 }

/-- A bus reference arrives: among those of a beat the one with the lowest identifier counts, so that a later one replaces what
an earlier one did (R85, R445). -/
def BeatS.busReference (b : BeatS) (ok : Bool) (interval : Nat) : BeatS :=
  let base := b.refBase.getD (b.validRefs, b.intervals)
  { ({ b with validRefs := base.1, intervals := base.2, refSeen := false }).reference ok interval with refBase := some base }

/-- A rising edge (R85, R108): LAST_EDGE shows it whatever SRC_SEL holds; dev is its distance from the predicted instant in CLK_A
cycles. -/
def State.risingEdge (ofs interval : Nat) (dev : Int) (s : State) : State :=
  let b := { s.beat with lastEdge := ofs % 65536 }
  let ok := intervalOk interval && (b.lock != .locked || decide (dev.natAbs ≤ 5000))
  { s with beat := if s.ownBeat && b.srcSel == 1 && b.riseBeat then b.reference ok interval else b }

/-- SYNC_RISING_EDGE (R85). -/
def execSyncRisingEdge (ofs interval : Nat) (dev : Int) (s : State) : Host.Outcome State Fault Refusal :=
  .next (s.risingEdge ofs interval dev)

/-! Beat length -/

/-- A number of CLK_S cycles in CLK_A cycles. -/
def clkA (x : Int) : Int := divRnd (x * 200000) 40960

/-- A length kept between 980 and 1,020 µs (R84). -/
def lengthClamp (x : Int) : Nat := (clamp 196000 204000 x).toNat

/-- The length commanded for a beat in its lock state, from the beat before it (R85): a Locked beat that ends without a
reference leaves its own length to Holdover. -/
def BeatS.nextLength (b : BeatS) : Nat :=
  let corr (lim : Int) : Int := clamp (-lim) lim (clkA b.phaseErr)
  match b.lock with
  | .free => lengthClamp (if b.length < 200000 then min 200000 (b.length + 400) else max 200000 ((b.length : Int) - 400))
  | .acquiring =>
    if b.intervals.isEmpty then b.length
    else lengthClamp (divRnd (sumI (b.intervals.map fun (x : Nat) => (x : Int))) b.intervals.length - corr 4000)
  | .locked => if !b.refLast then b.length else lengthClamp (((b.intervals.head?.getD 200000 : Nat) : Int) - corr 200)
  | .holdover => b.length

/-- A lock state entered at a boundary governs the beat that begins there (R85). -/
def State.relength (s : State) : State := if s.atBoundary then s.setBeat fun b => { b with length := b.nextLength } else s

/-! Lock -/

/-- Four consecutive valid intervals have been seen in Free (R85). -/
def State.acquireDue (s : State) : Bool :=
  s.beat.lock == .free && (s.beat.srcSel != 0 || !s.ownBeat) && s.beat.validRefs == 4

/-- Acquiring. -/
def State.acquire (s : State) : State := (s.setBeat fun b => { b with lock := .acquiring, phaseOk := 0 }).relength

/-- ENTER_ACQUIRING (R85). -/
def execEnterAcquiring (s : State) : Host.Outcome State Fault Refusal := .next (if s.acquireDue then s.acquire else s)

/-- Eight beats within 1 µs, or a reference in Holdover (R85). -/
def State.lockDue (s : State) : Bool :=
  (s.beat.lock == .acquiring && decide (8 ≤ s.beat.phaseOk)) ||
    (s.beat.lock == .holdover && (s.beat.refSeen || s.beat.refLast))

/-- Locked; a unit that follows the marker takes the string beat number of the Master at its first lock to it (R81). -/
def State.lockOn (s : State) : State :=
  let take := !s.ownBeat && !s.beat.sbMarked && s.beat.sbnSeen.isSome
  (s.setBeat fun b =>
    { b with
      lock := .locked, holdBeats := 0
      sbMarked := b.sbMarked || take
      sbOfs := if take then b.sbnSeen.map fun x => x - b.num else b.sbOfs }).relength

/-- ENTER_LOCKED (R85). -/
def execEnterLocked (s : State) : Host.Outcome State Fault Refusal := .next (if s.lockDue then s.lockOn else s)

/-- A Locked beat ended without a valid reference (R85). -/
def State.holdoverDue (s : State) : Bool := s.beat.lock == .locked && !s.beat.refLast && !s.beat.refSeen && s.atBoundary

/-- Holdover: its first beat begins (R85). DESIGN CHOICE (log entry 80): the missed beat that ends Locked is not one of the HOLDOVER
beats. -/
def State.holdover (s : State) : State := (s.setBeat fun b => { b with lock := .holdover, holdBeats := 0 }).relength

/-- ENTER_HOLDOVER (R85). -/
def execEnterHoldover (s : State) : Host.Outcome State Fault Refusal := .next (if s.holdoverDue then s.holdover else s)

/-- HOLDOVER consecutive beats have passed without a reference (R85, R86). -/
def State.sourceLostDue (s : State) : Bool :=
  s.beat.lock == .holdover && !s.beat.refSeen && decide (s.beat.holdover.toNat ≤ s.beat.holdBeats) && s.atBoundary

/-- Free: FS15 and a record with SRC_SEL and the beats of Holdover (R86). -/
def State.sourceLost (s : State) : State :=
  let t := (s.setBeat fun b => { b with lock := .free, validRefs := 0, holdBeats := 0 }).relength
  (t.event .control 0x700 [nword s.beat.srcSel.toNat, nword s.beat.holdBeats]).raise 15 0

/-- BEAT_SOURCE_LOST (R86). -/
def execBeatSourceLost (s : State) : Host.Outcome State Fault Refusal := .next (if s.sourceLostDue then s.sourceLost else s)

/-- A host write of a staged parameter waits for its boundary (R33). -/
def State.stage (path : Path) (addr : Nat) (data : Word) (s : State) : State :=
  s.setBeat fun b => { b with staged := b.staged ++ [{ path := path, addr := BitVec.ofNat 14 addr, data := data }] }

/-- A write of SRC_SEL (R83). -/
def State.srcSelWrite (path : Path) (v : BitVec 2) (s : State) : State :=
  if v = 3 then s.setBeat fun b => { b with selRej := true } else s.stage path 0x0100 (nword v.toNat)

/-- SRC_SEL_WRITE (R83). -/
def execSrcSelWrite (path : Path) (v : BitVec 2) (s : State) : Host.Outcome State Fault Refusal := .next (s.srcSelWrite path v)

/-- A write of SRC_SEL takes effect: the module enters Free and acquires the new source (R86). -/
def State.srcSelActive (v : BitVec 2) (s : State) : State :=
  s.setBeat fun b => { b with srcSel := v, lock := .free, validRefs := 0, intervals := [], phaseOk := 0, holdBeats := 0 }

/-- SBN has differed from the Master frame's BEAT in three consecutive beats (R81). -/
def State.resyncDue (s : State) : Bool := decide (3 ≤ s.beat.sbnDiff) && s.beat.sbnSeen.isSome && !s.ownBeat && s.atBoundary

/-- Every impedance block under way is discarded (R81, R226). -/
def ImpS.discard (i : ImpS) : ImpS :=
  { i with slots := i.slots.map fun x => { x with beats := none, ended := false }, prevBeat := none }

/-- SB_OFS is set anew (R81): sbnSeen is the BEAT field carried on to this beat. -/
def State.resync (s : State) : State :=
  match s.beat.sbnSeen with
  | none => s
  | some x =>
    let t := { s.setBeat fun b => { b with sbOfs := some (x - b.num), sbnDiff := 0 } with imp := s.imp.discard }
    t.event .control 0x702 [s.sbn, x, nword s.ring.master.toNat]

/-- SB_OFS_RESYNC (R81). -/
def execSbOfsResync (s : State) : Host.Outcome State Fault Refusal := .next (if s.resyncDue then s.resync else s)

/-- The references of the beat just ended, Holdover, MISSED, all by the source that was in use in it (R85, R108). DESIGN CHOICE (log
entry 80): a unit that follows the ring marker counts nothing in MISSED, because the marker replaces the source that SRC_SEL selects
(R398). -/
def State.lockEnd (s : State) : State :=
  s.setBeat fun b =>
    { b with
      refLast := b.refSeen, refSeen := false, refBase := none
      holdBeats := if b.lock = .holdover && !b.refSeen then b.holdBeats + 1 else b.holdBeats
      missed := if s.ownBeat && (b.srcSel == 1 || b.srcSel == 2) && !b.refSeen then incSat 255 b.missed else b.missed }

/-- The lock's part of a boundary: period, phase and the length of the new beat (R84, R85, R108). -/
def State.lockBoundary (period : Nat) (err : Int) (s : State) : State :=
  s.setBeat fun b =>
    { b with
      period := period, phaseErr := err
      phaseOk := if b.lock = .acquiring then (if err.natAbs ≤ 40 then b.phaseOk + 1 else 0) else 0
      sbnSeen := b.sbnSeen.map (· + 1)
      length := BeatS.nextLength { b with phaseErr := err } }

/-! Windows -/

/-- Two intervals in window ticks meet. -/
def meets (a la b lb : Nat) : Bool := decide (a < b + lb ∧ b < a + la)

/-- Place mode 0 windows, and edge-mode windows that no edge can open, at OFS (R89). -/
def State.placeStatic (s : State) (w : Nat) (x : WinS) : WinS :=
  let y : WinS := { next := x.next, late := s.winLate w }
  if !s.winEn w then y
  else match s.winMode w with
    | 0 => { y with placed := true, start := usTicks (s.winOfs w) }
    | 2 => if s.beat.fallWin then y else { y with placed := true, start := usTicks (s.winOfs w), fallback := true }
    | _ => y

/-- The mode 1 window w, at its offset in use, meets no window that shares a group and is placed in the beat (R91). -/
def State.windowFits (s : State) (l : List WinS) (w : Nat) : Bool :=
  let st := usTicks ((l[w]?.getD {}).next)
  (List.range 4).all fun v =>
    let x := l[v]?.getD {}
    let pos := if s.winMode v = 2 then some (usTicks (s.winOfs v)) else if x.placed && !x.rejected then some x.start else none
    v == w || !s.winEn v || !s.winShare v w ||
      (match pos with
        | some p => !meets st (s.winSpan w) p (s.winSpan v)
        | none => true)

/-- R91 for a mode 1 window. -/
def State.windowOk (s : State) (l : List WinS) (w : Nat) : Bool :=
  let x := l[w]?.getD {}
  let e := usTicks x.next + s.winSpan w
  decide (x.next ≤ 900) && decide (e ≤ usTicks 1000) && s.windowFits l w && (x.late || decide (e ≤ usTicks 750))

/-- WINDOW_ACCEPTANCE of window w, within BEAT_BOUNDARY (R91). -/
def State.acceptWindow (s : State) (l : List WinS) (w : Nat) : List WinS :=
  if s.winEn w && s.winMode w == 1 then
    l.modify w fun x => { x with placed := true, start := usTicks x.next, rejected := !s.windowOk l w }
  else l

/-- WIN_STAT of the beat just ended, whose string beat number was sbn (R108, R268): the marks of a window that was taken, and the
rejection of one that was not. -/
def State.winStatOf (s : State) (sbn : Word) : BitVec 16 :=
  BitVec.ofNat 16 (packBits ((indexed s.beat.wins).flatMap fun x =>
    let took := x.2.placed && !x.2.rejected && s.winTaken x.1 sbn
    [took, took && x.2.fallback, x.2.rejected, took && x.2.late]))

/-- The windows of the new beat (R89, R91). -/
def State.windowsBoundary (s : State) : State :=
  s.setBeat fun b =>
    { b with
      winStat := s.winStatOf (s.sbn - 1)
      wins := (List.range 4).foldl (State.acceptWindow s) ((indexed b.wins).map fun x => s.placeStatic x.1 x.2) }

/-- An edge-mode window that still waits for its edge. -/
def State.edgeWaits (s : State) (w : Nat) : Bool :=
  s.winEn w && s.winMode w == 2 && !(s.beat.wins[w]?.getD {}).placed

/-- Edge-mode windows whose OFS has come before an instant start at OFS, marked fallback (R89). -/
def State.fallBack (before : Nat) (s : State) : State :=
  s.setBeat fun b =>
    { b with
      wins := (indexed b.wins).map fun x =>
        if s.edgeWaits x.1 && decide (usTicks (s.winOfs x.1) < before) then
          { x.2 with placed := true, start := usTicks (s.winOfs x.1), fallback := true }
        else x.2 }

/-- The edge would open window w onto a placed window that shares a group (R89): a taken mode-0 window, an accepted mode-1 window or
an edge-mode window already opened. -/
def State.edgeMeets (s : State) (w st : Nat) : Bool :=
  (List.range 4).any fun v =>
    let x := s.beat.wins[v]?.getD {}
    v != w && x.placed && !x.rejected && (s.winMode v != 0 || s.winTaken v s.sbn) && s.winShare v w && meets st (s.winSpan w) x.start (s.winSpan v)

/-- A falling edge at ofs CLK_S cycles after the boundary (R89). -/
def State.fallingEdge (ofs : Nat) (s : State) : State :=
  if !s.beat.fallWin then s
  else
    let t := s.fallBack (100 * ofs)
    let st := 100 * ofs + 300
    let ignore := t.setBeat fun b => { b with extra := incSat 255 b.extra }
    match (List.range 4).find? t.edgeWaits with
    | none => ignore
    | some w =>
      if t.edgeMeets w st then ignore
      else t.setBeat fun b => { b with wins := b.wins.modify w fun x => { x with placed := true, start := st } }

/-- SYNC_FALLING_EDGE (R89). -/
def execSyncFallingEdge (ofs : Nat) (s : State) : Host.Outcome State Fault Refusal := .next (s.fallingEdge ofs)

/-! Overrun -/

/-- The channel has not completed its evaluation at 980 µs (R96). -/
def State.overrun (s : State) (ch : Ch) : Bool :=
  s.runs ch && (match ch with | .a => s.beat.doneA | .b => s.beat.doneB).any fun us => decide (980 < us)

/-- Fault source of a channel's overrun (R364). -/
def overrunFs (ch : Ch) : Nat := if ch = .a then 3 else 4

/-- The overrun of a channel has not been taken in yet. -/
def State.overrunDue (s : State) (ch : Ch) : Bool :=
  s.overrun ch && (s.flt.src[overrunFs ch]?.getD {}).till != some (s.beat.num + 1)

/-- A beat overrun (R96): FS3 or FS4, DET_VOID and OVR, OVR_CNT once a beat; the outputs hold at the next boundary. -/
def State.overrunOp (ch : Ch) (s : State) : State :=
  let t := (s.at 980000).setBeat fun b =>
    { b with detVoid := true, ovr := true, ovrThis := true, ovrCnt := if b.ovrThis then b.ovrCnt else incSat 65535 b.ovrCnt }
  (if s.beat.ovrThis then t else t.tally 4 1).raise (overrunFs ch) 0

/-- BEAT_OVERRUN (R96). -/
def execBeatOverrun (ch : Ch) (s : State) : Host.Outcome State Fault Refusal :=
  .next (if s.overrunDue ch then s.overrunOp ch else s)

end Sys2Proof.Machine
end

