-- ==== Sys2Proof/Machine/Frames.lean ====
section
/-! DEFINITION. Ring frames as bytes: header, bodies, checkpoint words and publication (R269, R294, R393-R409, R420, R421). -/

namespace Sys2Proof.Machine

/-- The 16-byte header (R393). -/
structure RHdr where
  type : Nat
  flags : Nat := 0
  dst : UAddr := 0
  dstRole : Nat := 255
  srcRole : Nat := 0
  dstEpoch : BitVec 16 := 0
  src : UAddr := 0
  srcEpoch : BitVec 16 := 0
  beat : Word := 0
  deriving DecidableEq, Repr

/-- Header bytes (R393). -/
def RHdr.bytes (h : RHdr) : List Byte :=
  bytesOf 1 h.type ++ bytesOf 1 h.flags ++ bytesOf 2 h.dst.toNat ++ bytesOf 1 h.dstRole ++ bytesOf 1 h.srcRole ++
    bytesOf 2 h.dstEpoch.toNat ++ bytesOf 2 h.src.toNat ++ bytesOf 2 h.srcEpoch.toNat ++ wordBytes h.beat

/-- The header that bytes spell (R393). -/
def hdrOf (l : List Byte) : RHdr :=
  { type := numAt l 0 1, flags := numAt l 1 1, dst := BitVec.ofNat 16 (numAt l 2 2), dstRole := numAt l 4 1,
    srcRole := numAt l 5 1, dstEpoch := BitVec.ofNat 16 (numAt l 6 2), src := BitVec.ofNat 16 (numAt l 8 2),
    srcEpoch := BitVec.ofNat 16 (numAt l 10 2), beat := nword (numAt l 12 4) }

/-- Delivery of a frame: 0 unicast, 1 string group, 2 broadcast (R393). -/
def RHdr.delivery (h : RHdr) : Nat := h.flags % 4

/-- Role byte: role code and, in bit 2, active (R393). -/
def State.roleByte (s : State) : Nat := s.ring.role.toNat + (if s.ring.active then 4 else 0)

/-- A frame with its CRC-32 (R393). -/
def sealFrame (l : List Byte) : List Byte := l ++ bytesOf 4 (crc32 l)

/-- The CRC of a frame is right (R393). -/
def frameOk (l : List Byte) : Bool :=
  decide (20 ≤ l.length) && numAt l (l.length - 4) 4 == crc32 (l.take (l.length - 4))

/-- FLAGS bit 4: sent on port S or W (R393). -/
def portFlag (p : RPort) : Nat :=
  match p with
  | .n | .e => 0
  | .s | .w => 16

/-- A frame of this unit with its body (R393). -/
def State.frame (s : State) (p : RPort) (h : RHdr) (body : List Byte) : List Byte :=
  let h' := { h with flags := h.flags + portFlag p, srcRole := s.roleByte, src := s.addr, srcEpoch := s.ring.epoch, beat := s.sbn }
  sealFrame (h'.bytes ++ body)

/-- The port serves the role: E and W only a Master or the Coordinator (R41). -/
def State.portUsed (s : State) (p : RPort) : Bool := p == .n || p == .s || decide (2 ≤ s.ring.role.toNat)

/-- The port is UP, serves the role, and its block and channel A's die run: the ring is lost with channel A (R41, R332, R348,
R372, R391). -/
def State.portUp (s : State) (p : RPort) : Bool :=
  s.portUsed p && (s.ring.ports[p.ix]?.getD {}).up && !(s.flt.blk.any fun b => b.1 == .ringPort p) && s.runs .a

/-- Change the rings' state. -/
def State.setRing (s : State) (f : RingS → RingS) : State := { s with ring := f s.ring }

/-- Bytes of a port's XS_AQ that the line, a byte in 8 ns, has not taken by now (R26, R390). -/
def State.aqLeft (s : State) (p : RPort) : Nat :=
  let x := s.ring.ports[p.ix]?.getD {}
  x.aq - (s.beat.offNs - x.aqAt) / 8

/-- A frame of this unit enters a port's XS_AQ; one that does not fit is dropped, and FS71 is raised (R26, R27). -/
def State.aqPush (p : RPort) (l : List Byte) (s : State) : State × Bool :=
  if 4096 < s.aqLeft p + l.length then (s.raise 71 0, false)
  else (s.setRing fun r => { r with ports := r.ports.modify p.ix fun x => { x with aq := s.aqLeft p + l.length, aqAt := s.beat.offNs } }, true)

/-- Put a frame on a port (R392): nothing leaves a port that is not UP. -/
def State.sendRaw (p : RPort) (l : List Byte) (bad : Bool) (s : State) : State :=
  if s.portUp p then (s.tally 5 1).setRing fun r => { r with sent := r.sent ++ [(p, l, bad)] } else s

/-- Send a frame of this unit on the ports given. -/
def State.sendFrame (ps : List RPort) (h : RHdr) (body : List Byte) (s : State) : State :=
  ps.foldl (fun t p =>
    if !t.portUp p then t
    else
      let x := t.aqPush p (s.frame p h body)
      if x.2 then x.1.sendRaw p (s.frame p h body) false else x.1) s

/-! Report phase -/

/-- Byte times that the unit at index q costs in the report phase of this beat (R401). -/
def State.slotCost (s : State) (q : Nat) : Nat := if (s.sbn.toNat + q) % s.divOf q = 0 then 452 else 164

/-- Units in the string's RING_ORDER; a string of one unit when the image names none. -/
def State.ringH (s : State) : Nat := max 1 s.ringOrder.length

/-- The slot order at a port of the active Master at index m: the other units, nearest first along the path that ends at that port
(R397, R401). -/
def State.slotOrder (s : State) (m : Nat) (p : RPort) : List Nat :=
  (List.range (s.ringH - 1)).map fun i => if p = .n then (m + 1 + i) % s.ringH else (m + s.ringH - 1 - i) % s.ringH

/-- L: the cost of all slots, in byte times (R401). -/
def State.slotsLen (s : State) (m : Nat) : Nat := ((s.slotOrder m .n).map s.slotCost).sum

/-- Slot start of the unit at index q at a port of the active Master at index m, in byte times after the boundary (R401). -/
def State.slotStart (s : State) (m : Nat) (p : RPort) (q : Nat) : Nat :=
  125 * s.ring.rp + (((s.slotOrder m p).takeWhile fun x => x != q).map s.slotCost).sum

/-- Both slots of the unit at index q have ended, in byte times after the boundary (R404). -/
def State.slotsEnd (s : State) (m q : Nat) : Nat := max (s.slotStart m .n q) (s.slotStart m .s q) + s.slotCost q

/-- The own accumulated delay from the Master on the copy that arrives at a port, in 8 ns units (R401, R426). -/
def State.ownDelay (s : State) (p : RPort) : Nat := if p = .n then s.ring.dn else s.ring.ds

/-- When this unit's copy on a port leaves to reach the Master at a slot, in ns after the boundary (R401). -/
def State.leaveAt (s : State) (p : RPort) (slot : Nat) : Nat := 8 * (slot - s.ownDelay p)

/-! Checkpoint words -/

/-- Word 0 of a checkpoint slot (R269). -/
def Ckpt.word0 (c : Ckpt) : List Byte :=
  sealFrame (sbytes 8 c.qc ++ sbytes 8 c.uqc ++ sbytes 8 c.qref1 ++ wordBytes c.seq)

/-- Flags of word 1 (R269). -/
def Ckpt.flags (c : Ckpt) : Nat := packBits [c.conflict, c.starved, c.unanch, c.learn, c.learnFull] + 32 * (c.anchType % 4)

/-- Word 1 of a checkpoint slot (R269). -/
def Ckpt.word1 (c : Ckpt) : List Byte :=
  sealFrame (sbytes 8 c.qref2 ++ sbytes 4 c.ua ++ bytesOf 4 c.age ++ wordBytes c.pbeat ++ bytesOf 2 c.flags ++ [0, 0] ++
    wordBytes c.seq)

/-- The checkpoint that two words spell; none when they are not valid (R269). -/
def ckptOf (w0 w1 : List Byte) : Option Ckpt :=
  if frameOk w0 && frameOk w1 && numAt w0 24 4 == numAt w1 24 4 then
    let f := numAt w1 20 2
    some { qc := snumAt w0 0 8, uqc := snumAt w0 8 8, qref1 := snumAt w0 16 8, qref2 := snumAt w1 0 8, ua := snumAt w1 8 4,
           age := numAt w1 12 4, pbeat := nword (numAt w1 16 4), conflict := f.testBit 0, starved := f.testBit 1,
           unanch := f.testBit 2, learn := f.testBit 3, learnFull := f.testBit 4, anchType := f / 32 % 4,
           seq := nword (numAt w0 24 4) }
  else none

/-- The two checkpoint words of the record in force; zeros without one (R249, R406). -/
def State.ckptWords (s : State) : List Byte :=
  match s.chg.inForce.bind fun k => (s.recAt k).governing with
  | some c => c.word0 ++ c.word1
  | none => List.replicate 64 0

/-! Publication -/

/-- The limit publication record (R294). -/
def LimPub.bytes (p : LimPub) : List Byte :=
  wordBytes p.beat ++ p.chg.flatMap (sbytes 4) ++ p.dis.flatMap (fun x => sbytes 4 (-x)) ++ sbytes 4 p.cvl ++ sbytes 4 p.erem ++
    sbytes 4 p.soc ++ sbytes 4 p.u ++ sbytes 2 p.sohC ++ sbytes 2 p.sohRMax ++ bytesOf 2 p.stat.toNat ++ bytesOf 4 p.reqFreq ++
    bytesOf 2 p.reqAmp

/-! Master frame -/

/-- D_READY in µs: the latest end, plus 20 µs, of the windows of the evaluation beat (R400). -/
def State.dReady (s : State) : Nat :=
  maxN ((List.range 4).map fun w =>
    if !s.winEn w then 0
    else if s.winLate w then 20
    else (if s.winMode w = 0 then s.winOfs w + ceilDiv (125 * s.winLen w) 2 else 750) + 20)

/-- RP in µs (R400): tenths of H are rounded up. -/
def State.reportStart (s : State) : Nat := max 150 (max (ceilDiv (6 * s.ringH + 60) 10) (s.dReady + 1))

/-- An entry of an MF or KF (R406). -/
def RingEnt.bytes (e : RingEnt) : List Byte :=
  bytesOf 2 e.dst.toNat ++ bytesOf 1 e.dstRole ++ bytesOf 1 e.op ++ bytesOf 2 e.dstEpoch.toNat ++ bytesOf 1 e.rseq.toNat ++ [0] ++
    bytesOf 2 e.addr.toNat ++ [0, 0] ++ wordBytes e.data

/-- The entry at an offset (R406). -/
def entAt (l : List Byte) (o : Nat) : RingEnt :=
  { dst := BitVec.ofNat 16 (numAt l o 2), dstRole := numAt l (o + 2) 1, op := numAt l (o + 3) 1,
    dstEpoch := BitVec.ofNat 16 (numAt l (o + 4) 2), rseq := BitVec.ofNat 8 (numAt l (o + 6) 1),
    addr := BitVec.ofNat 14 (numAt l (o + 8) 2), data := nword (numAt l (o + 12) 4) }

/-- Zeros up to a length. -/
def padTo (n : Nat) (l : List Byte) : List Byte := (l ++ List.replicate n 0).take n

/-- Body of the Master frame (R406) with its entries. -/
def State.mfBody (s : State) (es : List RingEnt) : List Byte :=
  bytesOf 4 (65536 * s.reportStart) ++
    bytesOf 1 (packBits [s.chg.slowDecided, s.chg.swapPend, s.ring.localBeats.isSome] + 8 * s.ctl.code +
      (if s.ring.str = .closed then 64 else 0)) ++
    bytesOf 3 (65536 * ((s.chg.inForce.map (· % 8)).getD 128)) ++
    wordBytes (s.sbn - 1) ++ wordBytes (splace s.bal.strMin 14 18) ++ wordBytes (s.bal.strBeat.getD (s.sbn - 255)) ++
    (List.range 4).flatMap (fun w => bytesOf 2 (s.ring.nextOfs[w]?.getD 0)) ++ s.ckptWords ++
    bytesOf 4 (16777216 * es.length) ++ padTo 128 (es.flatMap RingEnt.bytes)

/-! Current frame -/

/-- The 16 raw samples of I1 of the beat that the boundary ended, when all are present and none carries OVL, which the frame has no
place for (R231, R407; log entry 66). -/
def State.cfSamples (s : State) : Option (List Int) :=
  let l := s.imp.prev.filterMap fun x => x.i1.bind fun r => if r.ovl then none else some r.x
  if l.length = 16 then some l else none

/-- Body of the current frame (R407). -/
def State.cfBody (s : State) : List Byte :=
  let p := s.chg.pub.getD {}
  bytesOf 4 (s.sbn - 1).toNat ++ sbytes 8 p.q1 ++ sbytes 8 p.q2 ++ bytesOf 1 (p.f1.toNat % 16 + 16 * (p.f2.toNat % 16)) ++
    bytesOf 1 (packBits [p.v1, p.v2, s.cfSamples.isSome]) ++ [0, 0] ++
    ((s.cfSamples.getD (List.replicate 16 0)).flatMap (sbytes 3))

/-! Report frame -/

/-- A cell code with its number in a condition word (R409). -/
def extremeBytes (x : Nat × Int) : List Byte := wordBytes (splace x.2 14 18 ||| place x.1 7 7)

/-- The check values of the populated cells with their numbers, as channel B receives them (R22, R147). -/
def State.checkCells (s : State) : List (Nat × Int) :=
  ((indexed s.meas.chkB).filter fun x => s.cellPop (x.1 + 1) && decide (x.2.age < 255)).map fun x => (x.1 + 1, x.2.code)

/-- The condition word of a channel (R409): channel B fills its cell fields from check values. -/
def State.condBytes (s : State) (ch : Ch) : List Byte :=
  let c := s.chan ch
  let cells := match ch with
    | .a => s.meas.shown.validCells
    | .b => s.checkCells
  let hi := (bestBy (fun a b => decide (b.2 < a.2)) cells).getD (0, 0)
  let lo := (bestBy (fun a b => decide (a.2 < b.2)) cells).getD (0, 0)
  let temps := s.meas.shown.thm.filterMap fun t => if t.valid then some t.temp else none
  bytesOf 2 (c.condOwn.toNat + (if s.evals ch then 32768 else 0)) ++ bytesOf 1 c.lreqOwn.toNat ++
    bytesOf 1 s.safe.tripCell ++ extremeBytes hi ++ extremeBytes lo ++
    sbytes 2 ((maxI temps).getD (-32768)) ++ sbytes 2 ((minI temps).getD (-32768))

/-- The sum of the unit's cells as R190 counts them: a lone INVALID cell contributes its measured code (R408). -/
def State.ringCellSum (s : State) : Int :=
  sumI ((indexed s.meas.shown.cell).map fun x => if s.cellPop (x.1 + 1) && (x.2.valid || x.2.invalid) then x.2.code else 0)

/-- Every populated cell has a value of this beat (R408). -/
def State.ownComplete (s : State) : Bool := (List.range 96).all fun i => !s.cellPop (i + 1) || (s.ownCell (i + 1)).isSome

/-- A fault source is present (R408). -/
def State.anyPresent (s : State) : Bool := s.flt.src.any FsSrc.pres

/-- A check converter's entry (R408): segment seg, converter k. -/
def State.checkEntry (s : State) (seg k : Nat) : List Byte :=
  let j := s.meas.chkJ.getD ((s.meas.chkCnt.toNat + 3) % 4)
  let n := checkCell seg k j
  let v := s.meas.shown.chk[n - 1]?.getD {}
  bytesOf 3 ((splace v.code 6 18).toNat + (if v.age < 255 then 8 else 0) + (if s.meas.freshA.contains n then 4 else 0) + j)

/-- A cell's entry (R408). -/
def cellEntry (v : Val) : List Byte :=
  bytesOf 3 ((splace v.code 6 18).toNat + packBits [v.chkDiff, v.balAff, v.invalid, v.ovl, v.range, v.valid])

/-- The unit reports its cell set in this beat (R402). -/
def State.cellSetDue (s : State) : Bool :=
  match s.ringIndex s.addr with
  | some q => decide ((s.sbn.toNat + q) % s.divOf q = 0)
  | none => false

/-- The cell whose pair the frame carries: the populated cells in ascending order (R254); 1 when there is none. -/
def State.pairOf (s : State) : Nat := s.popCells[s.lim.pairCell % max 1 s.popCells.length]?.getD 1

/-- The estimator pair that the frame carries (R254, R408). -/
def State.pairBytes (s : State) : List Byte :=
  let n := s.pairOf
  let p := s.ownPair n
  bytesOf 1 n ++ sbytes 3 (sat p.1 24) ++ sbytes 2 p.2.1 ++ bytesOf 2 p.2.2

/-- A reply field (R408). -/
def replyBytes (r : Option RingReply) : List Byte :=
  match r with
  | some r => bytesOf 1 r.rseq.toNat ++ bytesOf 1 r.status ++ bytesOf 2 r.addr.toNat ++ wordBytes r.data
  | none => List.replicate 8 0

/-- Body of the report frame (R408): v is the state in which the values of this beat have been evaluated. -/
def State.rfBody (s v : State) : List Byte :=
  let condB := v.condBytes .b
  let chkSum := sbytes 4 (sumI (v.checkCells.map (·.2)))
  v.condBytes .a ++ condB ++ sbytes 4 v.ringCellSum ++ chkSum ++
    bytesOf 4 (packBits (v.meas.shown.thm.map (·.opn))) ++
    bytesOf 1 (v.thm.worst % 4 + 4 * (v.thm.worstSeg % 4) +
      16 * packBits [v.anyPresent, v.nflt, v.ownComplete, v.chg.slow]) ++
    bytesOf 1 (v.meas.chkCnt.toNat % 4) ++ bytesOf 2 (crc16 (condB ++ chkSum ++ wordBytes s.sbn)) ++
    s.pairBytes ++ replyBytes s.ring.replies.head? ++
    ((List.range 24).flatMap fun i => v.checkEntry (i / 6) (i % 6)) ++
    (if s.cellSetDue then v.meas.shown.cell.flatMap cellEntry else [])

/-! Trunk frames -/

/-- Strings of the IDENT section (R422). -/
def State.masters (s : State) : List Nat := (s.img.list .MASTERS).map Int.toNat

/-- Configured Masters C (R422). -/
def State.confMasters (s : State) : Nat := s.masters.length

/-- The strings heard: an intact TF in one of the last three beats (R422). -/
def State.stringsPresent (s : State) : List StrS := s.ring.strings.filter fun x => decide (x.age < 3)

/-- The island: strings present with the own one (R422). -/
def State.island (s : State) : List Nat := uStr s.addr :: (s.stringsPresent.map fun x => x.str.toNat)

/-- Body of the string frame (R420). -/
def State.tfBody (s : State) : List Byte :=
  s.lim.pub.bytes ++ sbytes 4 (s.mAh s.chg.acc.capU) ++ bytesOf 2 s.ring.cepoch.toNat ++
    bytesOf 1 (s.ctl.code + 8 * packBits [s.ring.localBeats.isSome, s.ring.majority, s.ring.staleTrunk]) ++
    bytesOf 1 (s.island.length - 1) ++ replyBytes s.ring.trunkReplies.head?

/-- One string as the Coordinator weighs it (R421). -/
structure Weigh where
  str : Nat
  soc : Int
  cap : Int
  ccl : Int
  dcl : Int
  deriving DecidableEq, Repr

/-- The strings that take part: those present, the own one among them, in Closed or Run-down (R421). -/
def State.weighed (s : State) : List Weigh :=
  let p := s.lim.pub
  let own : List Weigh :=
    if s.ctl = .closed ∨ s.ctl = .rundown then
      [⟨uStr s.addr, p.soc, s.mAh s.chg.acc.capU, p.chg[1]?.getD 0, -(p.dis[1]?.getD 0)⟩] else []
  own ++ s.stringsPresent.filterMap fun x =>
    if x.state = 2 ∨ x.state = 4 then some ⟨x.str.toNat, x.soc, x.cap, x.ccl10, x.dcl10⟩ else none

/-- Numerators of R421. -/
def Weigh.nc (w : Weigh) : Int := w.ccl * (101000 - w.soc)
/-- Numerators of R421. -/
def Weigh.nd (w : Weigh) : Int := -w.dcl * (w.soc + 1000)

/-- The weights of a string: charge and discharge, per mille (R421). -/
def weightsOf (l : List Weigh) (str : Nat) : Int × Int :=
  let sc := sumI (l.map Weigh.nc)
  let sd := sumI (l.map Weigh.nd)
  match l.find? fun w => w.str == str with
  | some w => (if sc = 0 then 0 else divRnd (1000 * w.nc) sc, if sd = 0 then 0 else divRnd (1000 * w.nd) sd)
  | none => (0, 0)

/-- The consist SOC (R421). -/
def consistSoc (l : List Weigh) : Int :=
  let sp := sumI (l.map (·.cap))
  if sp = 0 then 0 else divRnd (sumI (l.map fun w => w.soc * w.cap)) sp

/-- The request code for a string: no rule says when the Coordinator asks a string to close or to open, so the code is a free value of
the beat and the string (R421; log entry 106). -/
def State.kfCode (s : State) (i : Nat) : Nat := Config.kfCode s.beat.num i % 3

/-- Body of fragment k (R421) with the register entries given. -/
def State.kfBody (s : State) (k : Nat) (es : List RingEnt) : List Byte :=
  let l := s.weighed
  bytesOf 2 s.ring.cepoch.toNat ++ bytesOf 1 k ++ [0] ++ sbytes 4 (consistSoc l) ++
    ((List.range 8).flatMap fun b => bytesOf 1 ((List.range 4).foldl (fun a j => a + s.kfCode (32 * k + 4 * b + j) * 4 ^ j) 0)) ++
    ((List.range 32).flatMap fun j =>
      let w := weightsOf l (32 * k + j)
      sbytes 2 w.1 ++ sbytes 2 w.2) ++
    padTo 64 (es.flatMap RingEnt.bytes)

end Sys2Proof.Machine
end

