-- ==== Sys2Proof/Machine/Ring.lean ====
section
/-! DEFINITION. Ring ports, reception, the roster, enumeration, roles, ring states and the trunk (chapter 16). -/

namespace Sys2Proof.Machine

/-! Ports -/

/-- Change one port. -/
def State.setPort (p : RPort) (f : PortS → PortS) (s : State) : State :=
  s.setRing fun r => { r with ports := r.ports.modify p.ix f }

/-- The ring ports run: from start step 8 on, with an image and channel A's die (R24, R134, R332, R508). -/
def State.ringOn (s : State) : Bool :=
  s.cfg.image.isSome && s.runs .a && (match s.pwr.state with
    | .active | .idle => true
    | .start k => k == 8
    | _ => false)

/-- A port comes up; a string port starts the listen period of a Master that has heard no Master yet (R391, R413). -/
def State.portComesUp (p : RPort) (s : State) : State :=
  (s.setPort p fun x => { x with up := true }).setRing fun r =>
    { r with listen :=
        if (p = .n ∨ p = .s) && r.listen.isNone && !r.active && decide (2 ≤ r.role.toNat) && r.masterEpoch == 0 then some 0
        else r.listen }

/-- PORT_UP (R391): a port that runs finds 128 valid characters; E and W of a Monitor are unused (R41). -/
def execPortUp (p : RPort) (s : State) : Host.Outcome State Fault Refusal :=
  .next (if s.ringOn && s.portUsed p then s.portComesUp p else s)

/-- PORT_DOWN (R391, R426): code violations within 1 µs are counted, 16 of them or a loss of signal take the port down. -/
def execPortDown (p : RPort) (fail : LineFail) (s : State) : Host.Outcome State Fault Refusal :=
  .next (s.setPort p fun x =>
    { x with up := x.up && !(fail.loss || decide (16 ≤ fail.violations)), cv := min 65535 (x.cv + fail.violations) })

/-- Body of a delay frame: an answer or a request, and the turnaround in 8 ns units (R391, R396; log entry 104). -/
def dlBody (answer : Bool) (turn : Nat) : List Byte := bytesOf 1 (packBits [answer]) ++ [0, 0, 0] ++ bytesOf 4 turn

/-- Ports that are UP send a delay frame to their neighbours (R391). -/
def State.dlAsk (ps : List RPort) (s : State) : State :=
  (ps.filter s.portUp).foldl (fun t p =>
    (t.sendFrame [p] { type := 7, flags := 2 } (dlBody false 0)).setPort p fun x => { x with asked := true, turn := none }) s

/-- A delay frame arrives: a request is answered on its port, the answer to an own request gives the turnaround (R391). -/
def State.dlTake (p : RPort) (l : List Byte) (s : State) : State :=
  if (numAt l 16 1).testBit 0 then
    s.setPort p fun x => if x.asked then { x with asked := false, turn := some (numAt l 20 4) } else x
  else s.sendFrame [p] { type := 7, flags := 2 } (dlBody true (Config.turnaround p l))

/-- Every 1,000 beats each port that is UP asks its neighbour (R391). -/
def State.dlBoundary (s : State) : State := if s.beat.num.toNat % 1000 = 0 then s.dlAsk [.n, .s, .e, .w] else s

/-- An exchange ends: the link delay is half the round trip, in ns, less the neighbour's reported turnaround, in units of 8 ns
(R391). -/
def PortS.exchanged (x : PortS) (roundTrip : Nat) : PortS :=
  match x.turn with
  | some t => if x.up then { x with delay := (roundTrip - 8 * t) / 16, turn := none } else x
  | none => x

/-- DELAY_EXCHANGE (R391): the request left and its answer came back at these instants, in ns. -/
def execDelayExchange (p : RPort) (sentNs backNs : Nat) (s : State) : Host.Outcome State Fault Refusal :=
  .next (s.setPort p fun x => x.exchanged (backNs - sentNs))

/-! Roles -/

/-- The next role epoch (R40). -/
def nextEpoch (e : BitVec 16) : BitVec 16 := if e = 0xFFFF then 1 else e + 1

/-- Epoch a is newer than b (R423). -/
def epochNewer (a b : BitVec 16) : Bool := decide (1 ≤ (a - b).toNat ∧ (a - b).toNat ≤ 32767)

/-! Roster -/

/-- Change the roster entry of a unit. -/
def State.setUnit (u : UAddr) (f : UnitS → UnitS) (s : State) : State :=
  s.setRing fun r => { r with roster := r.roster.map fun x => if x.addr == u then f x else x }

/-- The roster entry of a unit. -/
def State.unit? (s : State) (u : UAddr) : Option UnitS := s.ring.roster.find? fun x => x.addr == u

/-- An intact frame with this header keeps the roster (R412). -/
def State.heardFrom (h : RHdr) (s : State) : State :=
  s.setUnit h.src fun u =>
    { u with pres := true, wasPres := true, age := 0, epoch := h.srcEpoch, role := BitVec.ofNat 2 h.srcRole,
             active := h.srcRole.testBit 2 }

/-! Report frames at the Master -/

/-- The shown code and flags of a cell entry (R408). -/
def cellOf (x : Nat) : Val :=
  { code := snumAt (bytesOf 3 x) 0 3 / 64, valid := x.testBit 5, range := x.testBit 4, ovl := x.testBit 3,
    invalid := x.testBit 2, balAff := x.testBit 1, chkDiff := x.testBit 0 }

/-- The code of a word of R409; none when it names no cell (log entry 72). -/
def extremeOf (x : Nat) : Option Int := if x / 128 % 128 = 0 then none else some (snumOf (bytesOf 4 x) / 16384)

/-- Channel B takes its section only when the channel-B CRC matches (R405). -/
def sectionBOk (l : List Byte) : Bool := crc16 (slice 32 16 l ++ slice 52 4 l ++ slice 12 4 l) == numAt l 62 2

/-- The check set of a report frame: 24 converters (R408). -/
def chkSetOf (l : List Byte) : List (Int × Bool × Bool × Nat) :=
  (List.range 24).map fun i =>
    let x := numAt l (80 + 3 * i) 3
    (snumAt (bytesOf 3 x) 0 3 / 64, x.testBit 3, x.testBit 2, x % 4)

/-- What an intact report frame says of its unit; offsets count from the header (R403, R408, R409). -/
def UnitS.report (u : UnitS) (l : List Byte) : UnitS :=
  let okA := (numAt l 16 2).testBit 15
  let okB := (numAt l 32 2).testBit 15 && sectionBOk l
  let v : UnitS :=
    { u with
      condA := if okA then BitVec.ofNat 15 (numAt l 16 2) else u.condA
      lreqA := if okA then BitVec.ofNat 4 (numAt l 18 1) else u.lreqA
      tripCell := numAt l 19 1
      hiA := extremeOf (numAt l 20 4), loA := extremeOf (numAt l 24 4), hotA := snumAt l 28 2, coldA := snumAt l 30 2
      freshA := u.freshA || okA, missA := if okA then 0 else u.missA, lostA := u.lostA && !okA
      condB := if okB then BitVec.ofNat 15 (numAt l 32 2) else u.condB
      lreqB := if okB then BitVec.ofNat 4 (numAt l 34 1) else u.lreqB
      hiB := if okB then extremeOf (numAt l 36 4) else u.hiB
      loB := if okB then extremeOf (numAt l 40 4) else u.loB
      hotB := if okB then snumAt l 44 2 else u.hotB
      coldB := if okB then snumAt l 46 2 else u.coldB
      freshB := u.freshB || okB, missB := if okB then 0 else u.missB, lostB := u.lostB && !okB }
  let w : UnitS :=
    { v with
      cellSum := snumAt l 48 4, chkSum := if okB then snumAt l 52 4 else u.chkSum, chkSet := chkSetOf l, thmOpen := BitVec.ofNat 32 (numAt l 56 4)
      worst := numAt l 60 1 % 4, worstSeg := numAt l 60 1 / 4 % 4, complete := (numAt l 60 1).testBit 6
      pairs := u.pairs.set (numAt l 64 1 - 1) (snumAt l 65 3, snumAt l 68 2, numAt l 70 2)
      pop := u.pop.set (numAt l 64 1 - 1) true }
  if (numAt l 1 1).testBit 3 then
    let cells := (List.range 96).map fun i => cellOf (numAt l (152 + 3 * i) 3)
    { w with
      cells := cells, setAge := 0
      pop := (indexed w.pop).map fun x => x.2 || (cells[x.1]?.getD {}).valid || (cells[x.1]?.getD {}).invalid }
  else w

/-- The port on which an intact copy came (R404). -/
def UnitS.got (u : UnitS) (p : RPort) : UnitS := { u with gotN := u.gotN || p == .n, gotS := u.gotS || p == .s }

/-- Status of a remote answer as a report carries it: R464 type 1 (R468). -/
def State.relayOf (s : State) (tag : BitVec 8) : Option Relay := s.host.relays.find? fun r => r.tag == tag && r.sentAt.isSome

/-- An answer to a relayed request (R468, R469): a type 1 report; the first stale-role answer sends the request again, a
second ends it with STATUS 4. -/
def State.remoteAnswer (tag : BitVec 8) (status : Nat) (addr : BitVec 14) (data : Word) (s : State) : State :=
  match s.relayOf tag with
  | none => s
  | some r =>
    let t := s
    if status == 4 && !r.resent then
      let u := t.setUnit r.unit fun x => { x with epoch := BitVec.ofNat 16 data.toNat, role := BitVec.ofNat 2 (data.toNat / 2 ^ 24),
                                                  active := data.toNat.testBit 26 }
      { u with host := { u.host with
          relays := u.host.relays.map fun x => if x.tag == tag then { x with resent := true, sentAt := none } else x } }
    else
      State.report 1 tag.toNat (place status 0 4 ||| place r.unit.toNat 16 16) (nword addr.toNat)
        (if status = 1 ∧ !r.write then data else 0)
        { t with host := { t.host with relays := t.host.relays.filter fun x => x.tag != tag } }

/-- A stale-role reply is counted, and the roster takes the role and epoch that it carries (R395). -/
def State.staleHeard (u : UAddr) (data : Word) (s : State) : State :=
  ((s.tally 10 1).setRing fun x => { x with staleRx := incSat 65535 x.staleRx }).setUnit u fun x =>
    { x with epoch := BitVec.ofNat 16 data.toNat, role := BitVec.ofNat 2 (data.toNat / 2 ^ 24), active := data.toNat.testBit 26 }

/-- An entry with the role and epoch that the roster has of its unit (R395, R412). -/
def State.resolved (s : State) (e : RingEnt) : RingEnt :=
  let u := (s.unit? e.dst).getD { addr := e.dst }
  { e with dstRole := u.role.toNat + (if u.active then 4 else 0), dstEpoch := u.epoch }

/-- The answer to a request that a KF brought: the first stale-role answer sends it again, any other goes into the TF (R395, R420,
R421). -/
def State.kfAnswer (x : KfRelay) (reply : RingReply) (s : State) : State :=
  if reply.status == 4 && !x.resent then
    s.setRing fun r =>
      { r with kfRelays := r.kfRelays.map (fun y => if y == x then { y with resent := true } else y)
               entries := r.entries ++ [s.resolved x.ent] }
  else s.setRing fun r => { r with kfRelays := r.kfRelays.erase x, trunkReplies := r.trunkReplies ++ [reply] }

/-- A reply field of a unit of the string: the answer to a relayed request, or to one that a KF brought (R408, R421). -/
def State.replyField (u : UAddr) (l : List Byte) (s : State) : State :=
  let st := numAt l 1 1
  let tag : BitVec 8 := BitVec.ofNat 8 (numAt l 0 1)
  let addr : BitVec 14 := BitVec.ofNat 14 (numAt l 2 2)
  let data := nword (numAt l 4 4)
  if st = 0 then s
  else
    let t := if st = 4 then s.staleHeard u data else s
    match t.ring.kfRelays.find? fun x => x.ent.rseq == tag && x.ent.dst == u with
    | some x => t.kfAnswer x ⟨tag, st, addr, data⟩
    | none => t.remoteAnswer tag st addr data

/-- The stack-sum mismatch in the condition word of another unit is heard (R190, R409). -/
def State.reportSum (u : UAddr) (s : State) : State :=
  match s.unit? u with
  | some x => s.sumHeard u ((x.condA ||| x.condB).toNat.testBit 12)
  | none => s

/-- A condition word brings a cell trip that the last one did not bring: an overvoltage or undervoltage bit rises, or another
cell stands behind it (R299, R409; DEDUCED, log entry 89). -/
def UnitS.newTrip (old new : UnitS) : Bool :=
  let held (x : BitVec 15) : Bool := x.toNat.testBit 0 || x.toNat.testBit 1
  let rises (a b : BitVec 15) : Bool := (b &&& ~~~a).toNat.testBit 0 || (b &&& ~~~a).toNat.testBit 1
  new.tripCell != 0 && (rises old.condA new.condA || rises old.condB new.condB ||
    (new.tripCell != old.tripCell && (held new.condA || held new.condB)))

/-- PROT_WORST names the cell of another unit that set the latest cell trip (R299, R318). -/
def State.reportTrip (old : UnitS) (s : State) : State :=
  match s.unit? old.addr with
  | some u => if old.newTrip u then { s with safe := { s.safe with worstUnit := u.addr, worstCell := u.tripCell } } else s
  | none => s

/-- What LX passes of a report frame to channel B through XS_QB: header, Cond B, status and check set, 120 bytes (R405, R408). -/
def qbBytes : Nat := 120

/-- The B part of a report enters XS_QB: a channel that works takes it at once, before one that does not it waits; what does not fit is
dropped, and FS71 is raised (R26, R27; log entry 73). -/
def State.qbPush (s : State) : State :=
  if s.works .b then s.setRing fun r => { r with qb := 0 }
  else if !s.runs .b then s
  else if s.ring.qb + qbBytes ≤ 2048 then s.setRing fun r => { r with qb := r.qb + qbBytes }
  else s.raise 71 0

/-- A report whose B part channel B does not take (R405). -/
def UnitS.withoutB (new old : UnitS) : UnitS :=
  { new with
    condB := old.condB, lreqB := old.lreqB, hiB := old.hiB, loB := old.loB, hotB := old.hotB, coldB := old.coldB
    freshB := old.freshB, missB := old.missB, lostB := old.lostB, chkSum := old.chkSum, chkSet := old.chkSet }

/-- The Master takes an intact report frame (R403-R405): one of this beat, the first copy. -/
def State.takeReport (p : RPort) (l : List Byte) (s : State) : State :=
  let h := hdrOf l
  match s.unit? h.src with
  | none => s
  | some u =>
    if h.beat != s.sbn || u.noSlot || (u.judged && !u.gotN && !u.gotS) then s
    else if u.gotN || u.gotS then s.setUnit h.src fun u => u.got p
    else
      let taken := s.qbPush.setUnit h.src fun u => (if s.works .b then u.report l else (u.report l).withoutB u).got p
      let t := ((taken.replyField h.src (slice 72 8 l)).reportSum h.src).reportTrip u
      if u.asked && h.flags.testBit 2 then
        if s.injFrame h.src 3 && !s.injFull then t
        else if s.injFrame h.src 3 then (t.tally 8 1).setRing fun r => { r with rsndOk := incSat 65535 r.rsndOk }
        else (((t.tally 8 1).setRing fun r => { r with rsndOk := incSat 65535 r.rsndOk }).raiseTransient 55 0).raiseTransient 56 0
      else t

/-! Reception -/

/-- Bytes that a port's XS_QA holds (R26). -/
def State.rxBytes (s : State) (p : RPort) : Nat := ((s.ring.rx.filter fun f => f.port == p).map (·.bytes.length)).foldl (· + ·) 0

/-- A frame enters XS_QA; one that does not fit is dropped whole (R27). -/
def State.rxPush (p : RPort) (l : List Byte) (s : State) : State :=
  if s.rxBytes p + l.length ≤ 4096 then s.setRing fun r => { r with rx := r.rx ++ [{ port := p, bytes := l }] }
  else s.raise 71 0

/-- The oldest frame of a type, and the state without it; a halted die takes none (R332, R348). -/
def State.rxPop (s : State) (type : Nat) : Option (RxFrame × State) :=
  match s.ring.rx.find? fun f => s.runs .a && numAt f.bytes 0 1 == type with
  | none => none
  | some f => some (f, s.setRing fun r => { r with rx := r.rx.erase f })

/-- A frame that is not the unit's to strip is forwarded; a Master frame with its delay field (R392, R398), an enumeration
frame with this unit's entry (R411). -/
def State.forwarded (s : State) (p : RPort) (l : List Byte) (bad : Bool) : List Byte :=
  if bad then l
  else match numAt l 0 1 with
    | 1 => sealFrame (l.take 18 ++ bytesOf 2 (numAt l 18 2 + (s.ring.ports[p.ix]?.getD {}).delay + Config.residence p l) ++
        (l.take (l.length - 4)).drop 20)
    | 5 => sealFrame (l.take (l.length - 4) ++ bytesOf 2 s.addr.toNat ++ bytesOf 1 s.roleByte ++ bytesOf 1 p.ix ++
        bytesOf 2 s.ring.epoch.toNat ++ [0, 0])
    | _ => l

/-- A stale-role reply to a frame of a wrong role or epoch (R394, R395). -/
def State.staleReply (h : RHdr) (s : State) : State :=
  let mine := place s.roleByte 24 8 ||| place s.ring.epoch.toNat 0 16
  (s.tally 10 1).setRing fun r =>
    { r with
      staleTx := incSat 65535 r.staleTx
      entries := if r.active then
          r.entries ++ [{ dst := h.src, dstRole := h.srcRole, op := 3, dstEpoch := h.srcEpoch, data := mine }] else r.entries
      replies := if r.active then r.replies else r.replies ++ [⟨0, 4, 0, mine⟩] }

/-- The frame is for this unit by its delivery and address (R393, R394). -/
def State.isFor (s : State) (h : RHdr) : Bool :=
  match h.delivery with
  | 0 => h.dst == s.addr
  | 1 => uStr h.dst == uStr s.addr
  | 2 => true
  | _ => false

/-- The role check of a unicast frame (R394). -/
def State.roleMatches (s : State) (h : RHdr) : Bool := h.dstRole == s.roleByte && h.dstEpoch == s.ring.epoch

/-- Another active Master of the own string is heard (R415): address, control state, units, epoch. -/
def State.hearRival (l : List Byte) (s : State) : State :=
  let h := hdrOf l
  s.setRing fun r => { r with rival := some (h.src, numAt l 20 1 / 8 % 8, Config.rivalUnits l, h.srcEpoch) }

/-- Deliver an intact frame by its type (R396, R405). -/
def State.deliver (p : RPort) (l : List Byte) (s : State) : State :=
  let h := hdrOf l
  let str := p == .n || p == .s
  match h.type with
  | 1 => if !str || uStr h.src != uStr s.addr then s else if s.ring.active then s.hearRival l else s.rxPush p l
  | 2 => if str then s.rxPush p l else s
  | 3 => if str && s.ring.active then s.takeReport p l else s
  | 4 => if str then s.rxPush p l else s
  | 5 => s.dlAsk (if str then [.n, .s] else [.e, .w])
  | 6 => s.rxPush p l
  | 7 => s.dlTake p l
  | 16 => if str || s.ring.role.toNat < 2 then s else s.rxPush p l
  | 17 => if str || s.ring.role.toNat < 2 then s else s.rxPush p l
  | _ => s

/-- A copy of an own frame has come round (R392, R417). -/
def State.stripOwn (p : RPort) (l : List Byte) (intact : Bool) (s : State) : State :=
  if intact && numAt l 0 1 == 1 then
    s.setRing fun r => { r with mfBackN := r.mfBackN || p == .n, mfBackS := r.mfBackS || p == .s }
  else if intact && numAt l 0 1 == 5 && s.ring.enumRun then s.setRing fun r => { r with enBack := r.enBack ++ [(p, l)] }
  else s

/-- An injection inverts the CRC of the next frame received on the port (R376, targets 24 to 27). -/
def State.injectsPort (s : State) (p : RPort) : Bool := s.injects (24 + p.ix)

/-- The injection has acted on its one frame (R376). -/
def State.portInjected (p : RPort) (h : RHdr) (s : State) : State :=
  if s.injectsPort p then
    { s with flt := { s.flt with injRun := s.flt.injRun.map fun i => { i with hit := true, frame := some (h.src, h.type) } } }
  else s

/-- An intact copy of the spoiled frame recovers it: the injection passes (R376). -/
def State.injRecovered (h : RHdr) (intact : Bool) (s : State) : State :=
  if intact && s.injFrame h.src h.type then s.injResult true else s

/-- A frame found bad here counts, but not one that an injection without FULL made bad (R377, R392). -/
def State.countsCrc (s : State) (p : RPort) : Bool := !s.injectsPort p || s.injFull

/-- Reception of a frame (R392-R395): count the CRC error once, strip, deliver or answer, forward; an injection makes it bad
(R376). -/
def State.receive (p : RPort) (l : List Byte) (marked : Bool) (s0 : State) : State :=
  if !s0.portUp p || l.length < 20 then s0
  else
    let s := s0.portInjected p (hdrOf l)
    let good := frameOk l && !s0.injectsPort p
    let intact := good && !marked
    let h := hdrOf l
    let t := if !good && !marked && s0.countsCrc p then (s.tally 7 1).setPort p fun x => { x with crc := incSat 65535 x.crc }
      else s.tally 6 (if intact then 1 else 0)
    if h.src = s.addr then
      (t.stripOwn p l intact).setRing fun r => { r with heard := r.heard || (intact && (p == .n || p == .s)) }
    else
      let v := if intact then (t.heardFrom h).setRing fun r =>
          { r with heard := r.heard || p == .n || p == .s, mfOn := if h.type == 1 && (p == .n || p == .s) then r.mfOn ++ [p] else r.mfOn }
        else t
      let mine := h.delivery == 0 && h.dst == s.addr
      let w := if !intact || !s.isFor h then v
        else if h.delivery == 0 && !s.roleMatches h then v.staleReply h
        else (v.deliver p l).injRecovered h intact
      if mine || h.type == 7 then w else w.sendRaw p.opposite (s.forwarded p l (!intact)) (!intact)

/-- RING_FRAME_RECEIVE (R392). -/
def execRingFrameReceive (p : RPort) (bytes : List Byte) (markedBad : Bool) (s : State) : Host.Outcome State Fault Refusal :=
  .next (s.receive p bytes markedBad)

/-! Master frame, current frame -/

/-- The entry of a relayed request (R395, R406, R468): role and epoch from the roster. -/
def State.relayEnt (s : State) (r : Relay) : RingEnt :=
  let u := (s.unit? r.unit).getD { addr := r.unit }
  { dst := r.unit, dstRole := u.role.toNat + (if u.active then 4 else 0), op := if r.write then 2 else 1, dstEpoch := u.epoch,
    rseq := r.tag, addr := r.addr, data := r.data }

/-- Requests that wait for a frame, oldest first (R468). -/
def State.waiting (s : State) (trunk : Bool) : List Relay := s.host.relays.filter fun r => r.sentAt.isNone && r.trunk == trunk

/-- The requests with these tags have left in this beat (R469). -/
def State.markSent (tags : List (BitVec 8)) (s : State) : State :=
  { s with host := { s.host with
      relays := s.host.relays.map fun r =>
        if tags.contains r.tag && r.sentAt.isNone then { r with sentAt := some s.beat.num } else r } }

/-- The Master frame is due (R398). -/
def State.mfDue (s : State) : Bool := s.ring.active && s.powered && s.beat.running && !s.ring.mfSent && s.runs .a

/-- Send the Master frame with up to eight entries: notices and requests of a KF first, then own requests, then `more` (R398,
R406). -/
def State.mfSend (more : List RingEnt) (s : State) : State :=
  let own := (s.waiting false).take (8 - s.ring.entries.length)
  let es := (s.ring.entries ++ own.map s.relayEnt ++ more).take 8
  let t := (s.at 1000).sendFrame [.n, .s] { type := 1, flags := 2 } (s.mfBody es)
  (t.setRing fun r => { r with mfSent := true, rp := s.reportStart, entries := r.entries.drop 8 }).markSent (own.map (·.tag))

/-- Entries that the next Master frame has free beside notices and requests (R406, R518). -/
def State.mfRoom (s : State) : Nat := 8 - s.ring.entries.length - (s.waiting false).length

/-- The unit sends current frames: it has I1 and knows the string beat number (R247, R407). -/
def State.cfUnit (s : State) : Bool :=
  s.curPop 0 && s.ring.role != 0 && s.multiUnit && s.powered && s.beat.running && s.beat.sbOfs.isSome && s.runs .a

/-- The ports on which the current frame is due: those on which a copy of the Master frame of the beat has left, a forwarded one or the
own (R399). -/
def State.cfPorts (s : State) : List RPort :=
  [RPort.n, .s].filter fun q => (if s.ring.active then s.ring.mfSent else s.ring.mfOn.contains q.opposite) && !s.ring.cfOn.contains q

/-- The current frame is due on some port. -/
def State.cfDue (s : State) : Bool := s.cfUnit && !s.cfPorts.isEmpty

/-- CF_SEND (R399, R407). -/
def execCfSend (s : State) : Host.Outcome State Fault Refusal :=
  .next (if s.cfDue then
    (s.sendFrame s.cfPorts { type := 2, flags := 2 } s.cfBody).setRing fun r => { r with cfOn := r.cfOn ++ s.cfPorts }
  else s)

/-- The published values that a current frame carries (R248, R407). -/
def cfPublished (l : List Byte) : Published :=
  { beat := nword (numAt l 16 4), q1 := snumAt l 20 8, q2 := snumAt l 28 8, f1 := ((numAt l 36 1 % 16 : Nat) : Int),
    f2 := ((numAt l 36 1 / 16 : Nat) : Int), v1 := (numAt l 37 1).testBit 0, v2 := (numAt l 37 1).testBit 1 }

/-- The raw reference samples that a current frame carries (R228, R407). -/
def cfRaw (l : List Byte) : Option (List (Option Raw)) :=
  if (numAt l 37 1).testBit 2 then some ((List.range 16).map fun i => some { x := snumAt l (40 + 3 * i) 3 }) else none

/-- New published values take their place, with the flags that the next count covers (R248, R252). -/
def ChgS.publish (c : ChgS) (p : Published) : ChgS :=
  { c with pub := some p, pubPrev := c.pub, cov := c.cov ++ [(p.beat, p.v1, p.v2)] }

/-- A unit takes a current frame (R228, R235, R248): the reference of the beat just ended, or of this beat before its end. -/
def State.cfTake (l : List Byte) (s : State) : State :=
  let p := cfPublished l
  { s with
    chg := s.chg.publish p
    imp := if p.beat = s.sbn - 1 then { s.imp with prevRef := cfRaw l }
      else if p.beat = s.sbn then { s.imp with curRef := cfRaw l } else s.imp }

/-- CF_RECEIVE (R248). -/
def execCfReceive (s : State) : Host.Outcome State Fault Refusal :=
  .next (match s.rxPop 2 with
    | none => s
    | some (f, t) => if t.curPop 0 then t else t.cfTake f.bytes)

/-! Report frames -/

/-- A report frame is due: a unit that an enumeration has listed and that has a string beat number, with a slot at the Master that the
Master frame names (R81, R401, R411). -/
def State.rfDue (s : State) : Bool :=
  !s.ring.active && s.ring.role != 0 && s.ring.reporting && s.beat.sbOfs.isSome && s.powered && s.beat.running &&
    !s.ring.rfSent && s.runs .a && (s.ringIndex s.ring.master).isSome && (s.ringIndex s.addr).isSome

/-- When the copies of the report frame leave: each so that it reaches its port of the Master at this unit's slot there; the copy that
leaves a port ends at the Master's opposite one (R397, R401). -/
def State.rfTimes (s : State) : List (RPort × Nat) :=
  let m := (s.ringIndex s.ring.master).getD 0
  let q := (s.ringIndex s.addr).getD 0
  [RPort.n, .s].map fun p => (p, s.leaveAt p (s.slotStart m p.opposite q))

/-- Send the report frame (R401, R402, R408): v is the state with this beat's values evaluated (R320). -/
def State.rfSend (s v : State) : State :=
  let h : RHdr := { type := 3, flags := if s.cellSetDue then 8 else 0, dst := s.ring.master, dstRole := s.ring.masterRole,
                    dstEpoch := s.ring.masterEpoch }
  let body := s.rfBody v
  let t := s.sendFrame [.n, .s] h body
  { t.setRing fun r => { r with rfSent := true, replies := r.replies.drop 1, lastRf := s.frame .n h body, rfAt := s.rfTimes } with
    lim := { t.lim with pairCell := (t.lim.pairCell + 1) % max 1 t.popCells.length } }

/-- A frame sent again with the resend flag (R393, R404). -/
def resendOf (p : RPort) (l : List Byte) : List Byte :=
  sealFrame (l.take 1 ++ bytesOf 1 (numAt l 1 1 % 4 + 4 + numAt l 1 1 / 8 % 2 * 8 + portFlag p) ++ (l.take (l.length - 4)).drop 2)

/-- The report frame is sent again on the port on which the request came, in the slot that the request names (R404). -/
def State.rfResend (p : RPort) (slot : Nat) (s : State) : State :=
  if s.ring.rfSent then
    (s.sendRaw p (resendOf p s.ring.lastRf) false).setRing fun r => { r with rfAt := r.rfAt ++ [(p, s.leaveAt p slot)] }
  else s

/-- RR_RECEIVE (R404). -/
def execRrReceive (s : State) : Host.Outcome State Fault Refusal :=
  .next (match s.rxPop 4 with
    | none => s
    | some (f, t) => t.rfResend f.port (numAt f.bytes 16 4))

/-- The port whose path to the unit is shorter (R404): the path that ends at its port N leaves by port S. -/
def UnitS.shorter (u : UnitS) : RPort := if u.hopsS = 0 ∨ (u.hopsN ≠ 0 ∧ u.hopsN < u.hopsS) then .s else .n

/-- Cost of a unit's frame in this beat, in byte times (R401). -/
def State.unitCost (s : State) (u : UnitS) : Nat := s.slotCost ((s.ringIndex u.addr).getD 0)

/-- The resend slot of a unit, in byte times after the boundary (R404): the next free time after RP + L at the port, and not before a
request that leaves now and the frame that answers it can have made their way, at 600 ns a hop (R390). -/
def State.resendSlot (s : State) (u : UnitS) : Nat :=
  let hops := if u.shorter = .s then u.hopsS else u.hopsN
  let free := if u.shorter = .s then s.ring.freeS else s.ring.freeN
  max (max (125 * s.ring.rp + s.slotsLen ((s.ringIndex s.addr).getD 0)) free) (ceilDiv (s.beat.offNs + 28 * 8 + 1200 * max 1 hops) 8)

/-- A resend can arrive by 850 µs (R404). -/
def State.resendFits (s : State) (u : UnitS) : Bool := decide (s.resendSlot u + s.unitCost u ≤ 106250)

/-- The resend slot is taken. -/
def RingS.takeSlot (r : RingS) (p : RPort) (till : Nat) : RingS :=
  if p = .s then { r with freeS := till } else { r with freeN := till }

/-- Both slots of a unit have ended (R404). -/
def State.afterSlots (a : UAddr) (s : State) : State :=
  match s.ringIndex s.addr, s.ringIndex a with
  | some m, some q => s.at (8 * s.slotsEnd m q)
  | _, _ => s

/-- A unit's report frame has no judgement yet in this beat (R404). -/
def State.rfOpen (s : State) (u : UnitS) : Bool :=
  s.ring.active && u.expect && u.addr != s.addr && !u.noSlot && !u.judged

/-- Judgement of a unit's report frame, when the later of its slots has ended (R404): accepted, asked for again once, or missing. -/
def State.rfJudge (a : UAddr) (s0 : State) : State :=
  match s0.unit? a with
  | none => s0
  | some u =>
    let s := s0.afterSlots a
    if !s0.rfOpen u then s0
    else if u.gotN || u.gotS then s.setUnit a fun u => { u with judged := true }
    else if !u.asked && s.resendFits u then
      ((s.sendFrame [u.shorter] { type := 4, dst := a, dstRole := u.role.toNat + (if u.active then 4 else 0), dstEpoch := u.epoch }
        (bytesOf 4 (s.resendSlot u) ++ [0, 0, 0, 0])).setUnit a fun u => { u with asked := true }).setRing fun r =>
          r.takeSlot u.shorter (s.resendSlot u + s.unitCost u)
    else
      ((((s.tally 9 1).setUnit a fun u => { u with judged := true }).setRing fun r =>
        { r with rsndMiss := incSat 65535 r.rsndMiss }).raise 55 0).raise 56 0 |> fun t => if t.injFrame a 3 then t.injSeen false else t

/-- RF_JUDGEMENT (R404). -/
def execRfJudgement (unit : UAddr) (s : State) : Host.Outcome State Fault Refusal := .next (s.rfJudge unit)

/-- At the evaluation the ring window has closed: every report frame without an intact copy is missing, and a condition word
that did not come counts (R321, R404). -/
def State.ringWindow (s : State) : State :=
  let t := runAll (fun u s => State.rfJudge u s) (s.ring.roster.map (·.addr)) (s.at 850000)
  if s.master then
    t.setRing fun r =>
      { r with roster := r.roster.map fun u =>
          if u.expect && u.addr != s.addr then
            { u with missA := if u.freshA then 0 else u.missA + 1, missB := if u.freshB then 0 else u.missB + 1 }
          else u }
  else t

/-! Enumeration -/

/-- ENUM (R411). -/
def execEnum (path : Path) (key : BitVec 8) (s : State) : Host.Outcome State Fault Refusal :=
  let _ := path
  .next (if key == 0xC3 && s.ring.active then s.setRing fun r => { r with enumDue := true } else s)

/-- What a unit appended to an EN: address, role, active, epoch and the port on which the EN arrived (R411). -/
abbrev Found := UAddr × BitVec 2 × Bool × BitVec 16 × RPort

/-- The entries of an EN that has come round (R411). -/
def enFound (l : List Byte) : List Found :=
  (List.range ((l.length - 20) / 8)).map fun i =>
    let o := 16 + 8 * i
    (BitVec.ofNat 16 (numAt l o 2), BitVec.ofNat 2 (numAt l (o + 2) 1), (numAt l (o + 2) 1).testBit 2, BitVec.ofNat 16 (numAt l (o + 4) 2),
      [RPort.n, .s, .e, .w].getD (numAt l (o + 3) 1) .n)

/-- Hops of every answer of a unit to the copy that arrives at a port (R411). -/
def hopsAt (found : List Found) (p : RPort) (u : UAddr) : List Nat :=
  (positions (fun f : Found => f.1 == u) (found.filter fun f => f.2.2.2.2 == p)).map (· + 1)

/-- Where a unit's address was found: hops of the copies that arrive at its ports N and S, 0 for a copy that did not (R411). In a closed
ring both copies meet every unit, in opposite order; in an open one each arc is met by one copy. -/
def placesOf (closed : Bool) (found : List Found) (u : UAddr) : List (Nat × Nat) :=
  let n := hopsAt found .n u
  let s := hopsAt found .s u
  if closed && !n.isEmpty then (indexed n).map fun x => (x.2, s.reverse[x.1]?.getD 0)
  else n.map (·, 0) ++ s.map (0, ·)

/-- The unit stands where RING_ORDER lists it (R397, R412): the copy that leaves N arrives at ports S in rising order. -/
def State.inPlace (s : State) (u : UAddr) (hn hs : Nat) : Bool :=
  match s.ringIndex u, s.ringIndex s.addr with
  | some q, some m =>
    (hs == 0 || (m + hs) % s.ringH == q) && (hn == 0 || (q + hn) % s.ringH == m)
  | _, _ => false

/-- The answer of a unit's address at a place (R411). -/
def answerAt (found : List Found) (u : UAddr) (x : Nat × Nat) : Option Found :=
  found.find? fun f => f.1 == u &&
    (if f.2.2.2.2 == .n then (hopsAt found .n u).contains x.1 && (found.filter fun g => g.2.2.2.2 == .n)[x.1 - 1]? == some f
     else (found.filter fun g => g.2.2.2.2 == .s)[x.2 - 1]? == some f)

/-- The roster's entries of one address after an enumeration (R38, R411, R412, R512): the unit that stands in its place, or else the
first found, and every other unit with the same address, which has no slot. -/
def State.rosterEntries (s : State) (closed : Bool) (found : List Found) (serials : List (UAddr × BitVec 64)) (u : UAddr) : List UnitS :=
  let old := (s.unit? u).getD { addr := u }
  let listed := s.ringOrder.contains u
  let places := placesOf closed found u
  let here (x : Nat × Nat) : UnitS := match answerAt found u x with
    | some f => { addr := u, pres := true, wasPres := true, role := f.2.1, active := f.2.2.1, epoch := f.2.2.2.1, hopsN := x.1, hopsS := x.2, age := 0 }
    | none => { addr := u, pres := true, wasPres := true, hopsN := x.1, hopsS := x.2, age := 0 }
  let others (l : List (Nat × Nat)) : List UnitS := l.map fun x => { here x with expect := false, noSlot := true }
  if u = s.addr then
    { old with expect := true, pres := true, wasPres := true, role := s.ring.role, active := true, epoch := s.ring.epoch, age := 0 } ::
      others places
  else
    match (places.find? fun x => s.inPlace u x.1 x.2).or places.head? with
    | none => [{ old with expect := listed, pres := false, hopsN := 0, hopsS := 0 }]
    | some x =>
      let f := here x
      let sn := ((serials.find? fun y => y.1 == u).map (·.2)).getD old.serialNow
      { old with
        expect := listed, pres := true, wasPres := true, role := f.role, active := f.active, epoch := f.epoch
        hopsN := f.hopsN, hopsS := f.hopsS, age := 0, noSlot := !listed || !s.inPlace u x.1 x.2
        serialNow := sn, serial := if old.serial = 0 then sn else old.serial
        replaced := old.replaced || (old.serial != 0 && sn != old.serial) } :: others (places.erase x)

/-- Bytes of an entry of an enumeration result: address, epoch, role with active, expected and no slot, hops, result (R411). -/
def UnitS.erBytes (u : UnitS) : List Byte :=
  bytesOf 2 u.addr.toNat ++ bytesOf 2 u.epoch.toNat ++
    bytesOf 1 (u.role.toNat + 4 * packBits [u.active, u.expect, u.noSlot, u.pres]) ++ bytesOf 1 u.hopsN ++ bytesOf 1 u.hopsS ++ [0]

/-- The units that the trunk's EN met, as its enumeration result names them (R396, R411). -/
def State.trunkUnits (s : State) (found : List Found) : List UnitS :=
  { addr := s.addr, pres := true, role := s.ring.role, active := true, epoch := s.ring.epoch, age := 0 } ::
    (found.filter fun f => f.2.2.2.2 == .e || f.2.2.2.2 == .w).map fun f =>
      { addr := f.1, role := f.2.1, active := f.2.2.1, epoch := f.2.2.2.1, pres := true, age := 0, expect := s.masters.contains (uStr f.1) }

/-- Step 1 of an enumeration (R411): EN leaves on every port, and the unit measures its link delays. -/
def State.enumStart (s : State) : State :=
  ((s.sendFrame [.n, .s, .e, .w] { type := 5, flags := 2 } []).dlAsk [.n, .s, .e, .w]).setRing fun r =>
    { r with enumRun := true, enBack := [], enumDue := true }

/-- The roster of an enumeration with what its copies of EN met (R411, R412, R38): FS59 for a unit without a slot, the address check,
and ER on both rings. -/
def State.enumResult (closed : Bool) (found : List Found) (serials : List (UAddr × BitVec 64)) (s : State) : State :=
  let names := (s.ringOrder ++ ((found.filter fun f => f.2.2.2.2 == .n || f.2.2.2.2 == .s).map (·.1)).filter
    fun u => !s.ringOrder.contains u).eraseDups
  let dup := found.any fun f => f.1 == s.addr && (f.2.2.2.2 == .n || f.2.2.2.2 == .s)
  let t := s.setRing fun r =>
    { r with
      roster := names.flatMap (s.rosterEntries closed found serials), enumDue := false, enumRun := false, enBack := [], addrConflict := dup
      strNext := if !s.multiUnit then .lost else if closed then .closed else .opn
      mfBackN := r.mfBackN || closed, mfBackS := r.mfBackS || closed }
  let u := (t.sendFrame [.n, .s] { type := 6, flags := 2 } (t.ring.roster.flatMap UnitS.erBytes)).sendFrame [.e, .w]
    { type := 6, flags := 2 } ((s.trunkUnits found).flatMap UnitS.erBytes)
  let v := if u.ring.roster.any (·.noSlot) then u.raise 59 0 else u
  v.follow 14 0 dup

/-- An enumeration goes on (R411): it sends EN, or takes what has returned. A copy of EN that has come back on a string port shows a
closed ring and lists the units; of an open ring arcs gives the units that each copy met. -/
def State.enumerate (arcs : List Found) (serials : List (UAddr × BitVec 64)) (s : State) : State :=
  if !s.ring.enumRun then s.enumStart
  else
    let back := (s.ring.enBack.filter fun x => x.1 == .n || x.1 == .s)
    let far := (s.ring.enBack.filter fun x => x.1 == .e || x.1 == .w).flatMap fun x => enFound x.2
    if back.isEmpty then s.enumResult false (arcs ++ far) serials
    else s.enumResult true (back.flatMap (fun x => enFound x.2) ++ far) serials

/-- ENUMERATION (R411): in an open ring arcN and arcS are the units that the copies from N and S met. -/
def execEnumeration (arcN arcS : List Found) (serials : List (UAddr × BitVec 64)) (s : State) : Host.Outcome State Fault Refusal :=
  .next (if s.ring.active then s.enumerate (arcN ++ arcS) serials else s)

/-- A roster entry from an enumeration result. -/
def erUnit (old : List UnitS) (l : List Byte) (o : Nat) : UnitS :=
  let a : UAddr := BitVec.ofNat 16 (numAt l o 2)
  let f := numAt l (o + 4) 1
  { (old.find? fun u => u.addr == a).getD { addr := a } with
    epoch := BitVec.ofNat 16 (numAt l (o + 2) 2), role := BitVec.ofNat 2 f, active := f.testBit 2, expect := f.testBit 3,
    noSlot := f.testBit 4, pres := f.testBit 5, hopsN := numAt l (o + 5) 1, hopsS := numAt l (o + 6) 1 }

/-- A unit takes an enumeration result (R38, R411, R412). -/
def State.erTake (l : List Byte) (s : State) : State :=
  let h := hdrOf l
  let us := (List.range ((l.length - 20) / 8)).map fun i => erUnit s.ring.roster l (16 + 8 * i)
  let own := us.filter fun u => u.addr == s.addr
  let dup := decide (2 ≤ own.length)
  let t := s.setRing fun r =>
    { r with roster := us, master := h.src, masterEpoch := h.srcEpoch, masterRole := h.srcRole
             listed := own.any fun u => !u.noSlot && u.pres
             addrConflict := dup }
  t.follow 14 0 dup

/-- An enumeration result of the trunk names the Masters there: the trunk roster takes their address, role and epoch (R411, R412). -/
def State.erTrunk (l : List Byte) (s : State) : State :=
  let us := ((List.range ((l.length - 20) / 8)).map fun i => erUnit [] l (16 + 8 * i)).filter fun u => uStr u.addr != uStr s.addr
  us.foldl (fun t u =>
    let k : BitVec 8 := BitVec.ofNat 8 (uStr u.addr)
    let put (x : StrS) : StrS := { x with addr := u.addr, epoch := u.epoch, role := u.role }
    t.setRing fun r =>
      { r with strings := if r.strings.any fun x => x.str == k then r.strings.map fun x => if x.str == k then put x else x
                 else r.strings ++ [put { str := k }] }) s

/-- ER_RECEIVE (R411). -/
def execErReceive (s : State) : Host.Outcome State Fault Refusal :=
  .next (match s.rxPop 6 with
    | none => s
    | some (f, t) =>
      if f.port == .e || f.port == .w then (if 2 ≤ t.ring.role.toNat then t.erTrunk f.bytes else t)
      else if t.ring.active then t else t.erTake f.bytes)

/-! Active and standby Master -/

/-- The listen period has ended, and what the Master becomes: none while it runs (R413): START 0 starts active, 1 standby. -/
def State.listenEnds (s : State) : Option Bool :=
  match s.ring.listen with
  | none => none
  | some n =>
    if s.ring.active || s.ring.role.toNat < 2 then none
    else if !s.on .START then (if 20 ≤ n then some (s.ring.masterEpoch == 0) else none)
    else if 100 ≤ n then (if s.ring.masterEpoch = 0 then some true else none)
    else none

/-- The Master becomes active and enumerates, or standby with a new epoch (R40, R411, R413). -/
def State.startListen (s : State) : State :=
  match s.listenEnds with
  | none => s
  | some true =>
    s.ownNumbers.setRing fun r =>
      { r with active := true, enumDue := true, listen := none, master := s.addr, masterRole := r.role.toNat + 4
               epoch := if s.on .START then nextEpoch r.epoch else r.epoch
               masterEpoch := if s.on .START then nextEpoch r.epoch else r.epoch
               take := if s.on .START then incSat 65535 r.take else r.take }
  | some false => s.setRing fun r => { r with listen := none, epoch := nextEpoch r.epoch }

/-- MASTER_START_LISTEN (R413). -/
def execMasterStartListen (s : State) : Host.Outcome State Fault Refusal := .next s.startListen

/-- A standby Master judges the third beat without a Master frame (R414). -/
def State.takeJudge (s : State) : Bool :=
  decide (2 ≤ s.ring.role.toNat) && !s.ring.active && s.ring.listen.isNone && s.ring.masterEpoch != 0 && decide (2 ≤ s.ring.mfMissed) &&
    !s.ring.mfEarly && !s.ring.takeDue

/-- The standby takes over: its epoch counts now, it becomes active at the next boundary (R414). -/
def State.takeover (s : State) : State := s.setRing fun r => { r with takeDue := true, epoch := nextEpoch r.epoch }

/-- STANDBY_TAKEOVER (R414). -/
def execStandbyTakeover (s : State) : Host.Outcome State Fault Refusal :=
  .next (if s.takeJudge then (s.at 200000).takeover else s)

/-- Activation at the boundary: role, accounting, FS59 and the record (R249, R414); the beat starts in Free (R85). -/
def State.activate (s : State) : State :=
  if !s.ring.takeDue then s
  else
    let old := s.ring
    let t := s.accTakeover.setRing fun r =>
      { r with takeDue := false, active := true, take := incSat 65535 r.take, master := s.addr, masterEpoch := r.epoch
               masterRole := r.role.toNat + 4, enumDue := r.roster.isEmpty }
    let u := t.ownNumbers.setBeat fun b => { b with lock := .free, validRefs := 0, intervals := [], phaseOk := 0, holdBeats := 0 }
    (u.event .control 0x701 [nword old.master.toNat, nword old.masterEpoch.toNat, nword old.epoch.toNat]).raise 59 0

/-- Units that this Master hears present, itself among them (R415, R426). -/
def State.unitsPresent (s : State) : Nat :=
  (s.ring.roster.filter fun u => u.pres && u.addr != s.addr).length + (if s.ring.role = 0 then 0 else 1)

/-- Control state code other than Parked and Safe. -/
def ctlBusy (c : Nat) : Bool := c != 0 && c != 5

/-- This Master yields to the other (R415). -/
def State.yields (s : State) : Bool :=
  match s.ring.rival with
  | none => false
  | some (a, c, n, _) =>
    let me := ctlBusy s.ctl.code
    if me != ctlBusy c then ctlBusy c
    else if n != s.unitsPresent then decide (s.unitsPresent < n)
    else decide (uPos a < uPos s.addr)

/-- MASTER_YIELD (R415): the decision; the loser becomes standby at its next boundary. -/
def State.yieldJudge (s : State) : State :=
  if s.ring.active then s.setRing fun r => { r with yieldDue := r.yieldDue || s.yields, rival := if s.yields then r.rival else none } else s

/-- MASTER_YIELD (R415). -/
def execMasterYield (s : State) : Host.Outcome State Fault Refusal := .next s.yieldJudge

/-- The loser becomes standby: it stops driving its outputs (R330, R415, R416). -/
def State.yieldNow (s : State) : State :=
  if !s.ring.yieldDue then s
  else
    let t := s.setRing fun r =>
      { r with yieldDue := false, rival := none, active := false, epoch := nextEpoch r.epoch, yielded := incSat 65535 r.yielded
               master := (r.rival.map (·.1)).getD r.master, masterEpoch := (r.rival.map (·.2.2.2)).getD r.masterEpoch
               masterRole := 6, mfMissed := 0, enumDue := false }
    { t with beat := { t.beat with sbMarked := false }, cha := { t.cha with seq := {} }, chb := { t.chb with seq := {} } }

/-! Ring states -/

/-- Some expected unit other than this one. -/
def State.hasOthers (s : State) : Bool := !s.otherUnits.isEmpty

/-- The string ring's state as the beat just ended gives it (R417). -/
def State.strJudge (s : State) : StrState :=
  let r := s.ring
  let us := s.otherUnits
  if !r.active then
    (if 3 ≤ r.noMf then .lost else if r.mfSeen then (if r.mfClosed then .closed else .opn) else r.str)
  else if us.isEmpty then .lost
  else if r.enumDue then .enumerating
  else if decide (3 ≤ r.noRf) || (!s.portUp .n && !s.portUp .s) then .lost
  else if us.any fun u => u.wasPres && !u.pres then .split
  else if r.mfBackN && r.mfBackS && (us.filter (·.pres)).all fun u => u.gotN && u.gotS then .closed
  else if 3 ≤ r.oneSide then .opn
  else if r.str = .enumerating then r.strNext
  else r.str

/-- The trunk's state (R422, R426). -/
def State.trkJudge (s : State) : TrkState :=
  let r := s.ring
  let others := s.masters.filter fun m => m != uStr s.addr
  let heard (m : Nat) : Option StrS := r.strings.find? fun x => x.str.toNat == m
  if r.role.toNat < 2 || others.isEmpty then .unused
  else if decide (3 ≤ r.noTf) || (!s.portUp .e && !s.portUp .w) then .lost
  else if others.any fun m => (heard m).any fun x => decide (3 ≤ x.age) then .split
  else if others.all fun m => (heard m).any fun x => x.onE && x.onW then .closed
  else if 3 ≤ r.oneSideT then .opn
  else r.trk

/-- FS59 and FS60 are present in the states lost, open and split (R417, R422). -/
def strBad (c : Nat) : Bool := c == 0 || c == 3 || c == 4

/-- The state changes; a ring that closes again is enumerated (R411, R417). -/
def State.strChange (s : State) : State :=
  if s.ring.strNext == s.ring.str then s
  else
    let again := s.ring.active && s.ring.strNext == .closed && (s.ring.str == .opn || s.ring.str == .split || s.ring.str == .lost)
    let t := s.setRing fun r => { r with str := r.strNext, enumDue := r.enumDue || again }
    t.follow 59 0 (strBad t.ring.str.code && t.multiUnit)

/-- RING_STATE_CHANGE (R417). -/
def execRingStateChange (s : State) : Host.Outcome State Fault Refusal := .next s.strChange

/-- A reported cell value is stale in beats after that of its report (R403). -/
def Val.aged (v : Val) : Val := { v with stale := true }

/-- A roster entry passes a boundary: its age, its presence and the marks of the beat (R403, R404, R412). -/
def UnitS.atBoundary (own : UAddr) (u : UnitS) : UnitS :=
  let age := if u.addr = own then 0 else incSat 255 u.age
  { u with age := age, pres := u.pres && decide (age < 3), setAge := incSat 255 u.setAge, cells := u.cells.map Val.aged, gotN := false, gotS := false
           judged := false, asked := false, freshA := false, freshB := false, complete := false }

/-- Beats in a row of the ring states, the ended beat among them (R414, R417, R418, R422, R423). -/
def State.ringCounts (s : State) : State :=
  let us := s.otherUnits
  let here := us.filter (·.pres)
  s.setRing fun r =>
    { r with
      noRf := if us.any fun u => u.gotN || u.gotS then 0 else r.noRf + 1
      oneSide := if here.all (fun u => u.gotN || u.gotS) && here.any (fun u => !(u.gotN && u.gotS)) then r.oneSide + 1 else 0
      noTf := if r.strings.any fun x => x.onE || x.onW then 0 else r.noTf + 1
      oneSideT := if !r.strings.isEmpty && r.strings.all (fun x => x.onE || x.onW) && r.strings.any (fun x => !(x.onE && x.onW)) then
          r.oneSideT + 1 else 0
      quiet := if r.heard then 0 else incSat 4294967295 r.quiet
      mfMissed := if r.active || r.mfEarly then 0 else r.mfMissed + 1
      noMf := if r.active || r.mfSeen then 0 else r.noMf + 1
      kfMissed := if r.role = 3 && r.active then 0 else r.kfMissed + 1 }

/-- String ports on which a copy of the own Master frame returned in the ended beat. -/
def RingS.backOn (r : RingS) : List RPort := (if r.mfBackN then [.n] else []) ++ (if r.mfBackS then [.s] else [])

/-- The own Master frame returns on a port on which none returned in the beat before, while an expected unit is missing: a unit that has
come up echoes it, and a further enumeration is due (R411; log entry 105). -/
def State.newEcho (s : State) : Bool :=
  s.ring.active && s.otherUnits.any (fun u => !u.pres) && s.ring.backOn.any fun p => !s.ring.backLast.contains p

/-- The marks of the ended beat are cleared (R391-R425). -/
def RingS.nextBeat (r : RingS) (own : UAddr) (start : Bool) : RingS :=
  { r with
    backLast := r.backOn
    heard := false, mfSeen := false, mfEarly := false, mfBackN := false, mfBackS := false, mfOn := [], cfOn := []
    listen := if r.mfSeen && r.listen.isSome && start then none else r.listen.map (· + 1)
    roster := r.roster.map (UnitS.atBoundary own)
    strings := r.strings.map fun x => { x with age := incSat 255 x.age, onE := false, onW := false }
    reporting := r.listed
    ports := r.ports.map fun p => { p with aq := 0, aqAt := 0 }
    sent := [], mfSent := false, rfSent := false, tfSent := false, kfSent := false, rfAt := [], freeN := 0, freeS := 0
    epoch := if r.coordDrop && r.role == 3 then nextEpoch r.epoch else r.epoch
    role := if r.coordDrop && r.role == 3 then 2 else r.role
    coordDrop := false }

/-- The rings' part of a boundary: roles judged for it, the ring states of the beat just ended, the marks of the beat
(R391, R411-R425). -/
def State.ringBoundary (s : State) : State :=
  let a := (((onlyIf s.takeJudge State.takeover s).yieldJudge.activate).yieldNow).ringCounts
  let b := a.setRing fun r =>
    { (r.nextBeat s.addr (s.on .START)) with
      strNext := if r.active = s.ring.active then a.strJudge else r.strNext
      trk := a.trkJudge, enumDue := r.enumDue || a.newEcho }
  (b.follow 60 0 (decide (b.ring.trk ≠ .unused) && (b.ring.trk == .lost || b.ring.trk == .opn || b.ring.trk == .split))).dlBoundary

/-- RING_SILENCE of a Monitor has been reached (R418). -/
def State.silenceDue (s : State) : Bool :=
  s.ring.role == 1 && s.upAndRunning && decide (s.nat .RING_SILENCE ≤ s.ring.quiet)

/-! Trunk -/

/-- TF_SEND is due (R419). -/
def State.tfDue (s : State) : Bool :=
  s.ring.active && decide (2 ≤ s.ring.role.toNat) && s.powered && s.beat.running && !s.ring.tfSent && s.runs .a

/-- TF_SEND (R419, R420). -/
def execTfSend (s : State) : Host.Outcome State Fault Refusal :=
  .next (if s.tfDue then
    ((s.at 950000).sendFrame [.e, .w] { type := 16, flags := 2 } s.tfBody).setRing fun r =>
      { r with tfSent := true, trunkReplies := r.trunkReplies.drop 1, staleTrunk := false }
  else s)

/-- What a string frame says of its string (R420). -/
def strOf (p : RPort) (l : List Byte) (x : StrS) : StrS :=
  let h := hdrOf l
  { x with addr := h.src, epoch := h.srcEpoch, age := 0, cepoch := BitVec.ofNat 16 (numAt l 76 2), soc := ((numAt l 52 4 : Nat) : Int),
           cap := snumAt l 72 4, ccl10 := snumAt l 24 4, dcl10 := snumAt l 36 4, state := numAt l 78 1 % 8,
           isLocal := (numAt l 78 1).testBit 3, role := BitVec.ofNat 2 h.srcRole, onE := x.onE || p == .e, onW := x.onW || p == .w }

/-- A string frame updates the string's entry, and a newer CEPOCH is adopted (R422, R425). -/
def State.tfTake (p : RPort) (l : List Byte) (s : State) : State :=
  let k : BitVec 8 := BitVec.ofNat 8 (uStr (hdrOf l).src)
  let ce : BitVec 16 := BitVec.ofNat 16 (numAt l 76 2)
  if k.toNat = uStr s.addr then s
  else
    let newer := epochNewer ce s.ring.cepoch
    let t := s.setRing fun r =>
      { r with
        strings := if r.strings.any fun x => x.str == k then r.strings.map fun x => if x.str == k then strOf p l x else x
          else r.strings ++ [strOf p l { str := k }]
        cepoch := if newer then ce else r.cepoch
        coordDrop := r.coordDrop || (newer && r.role == 3)
        csocValid := r.csocValid && !newer }
    t.replyField (hdrOf l).src (slice 80 8 l)

/-- TF_RECEIVE (R422). -/
def execTfReceive (s : State) : Host.Outcome State Fault Refusal :=
  .next (match s.rxPop 16 with
    | none => s
    | some (f, t) => t.tfTake f.port f.bytes)

/-- KF_SEND is due (R419). -/
def State.kfDue (s : State) : Bool :=
  s.ring.active && s.ring.role == 3 && s.powered && s.beat.running && !s.ring.kfSent && s.runs .a

/-- Fragments that hold a configured string (R421). -/
def State.fragments (s : State) : List Nat := (List.range 8).filter fun k => s.masters.any fun m => m / 32 == k

/-- Requests over the trunk for one fragment: at most four entries (R421, R468). -/
def State.fragRelays (s : State) (k : Nat) : List Relay := ((s.waiting true).filter fun r => uStr r.unit / 32 == k).take 4

/-- KF_SEND (R421): every fragment; the own string takes its weights at once. -/
def State.kfSend (s : State) : State :=
  let l := s.weighed
  let w := weightsOf l (uStr s.addr)
  let t := s.fragments.foldl (fun t k =>
    (t.sendFrame [.e, .w] { type := 17, flags := 2 } (s.kfBody k ((s.fragRelays k).map s.relayEnt))).markSent
      ((s.fragRelays k).map (·.tag))) (s.at 960000)
  t.setRing fun r =>
    { r with kfSent := true, wChg := w.1.toNat, wDis := w.2.toNat, csoc := (consistSoc l).toNat, csocValid := true
             coord := BitVec.ofNat 8 (uStr s.addr) }

/-- KF_SEND (R421). -/
def execKfSend (s : State) : Host.Outcome State Fault Refusal := .next (if s.kfDue then s.kfSend else s)

/-- What the evaluation judges of the trunk (R422, R423): majority, FS61, whether this Master takes the consist role. -/
def State.trunkJudge (s : State) : State :=
  let c := s.confMasters
  let n := (s.island.eraseDups).length
  let maj := decide (c < 2 * n) || (decide (2 * n = c) && s.island.contains (s.nat .TIE))
  if s.ring.role.toNat < 2 then s
  else if !s.ring.active then s.setRing fun r => { r with isle := n }
  else
    let first := uStr s.addr == s.nat .COORD ||
      (!s.island.contains (s.nat .COORD) && s.island.all fun m => decide (uStr s.addr ≤ m))
    let t := s.setRing fun r =>
      { r with isle := n, majNow := maj, coordTake := decide (3 ≤ r.kfMissed) && maj && first && r.role == 2 }
    t.follow 61 0 (decide (n < c))

/-- MAJORITY_CHANGE is due (R424, R425). -/
def State.majorityDue (s : State) : Bool := s.ring.majNow != s.ring.majority && s.ring.active

/-- Local mode begins or ends; a Coordinator without the majority becomes a Master (R423-R425). -/
def State.majorityChange (s : State) : State :=
  s.setRing fun r =>
    { r with
      majority := r.majNow
      localBeats := if r.majNow then none else some 0
      v0Chg := if r.majNow then r.v0Chg else s.lim.pub.chg
      v0Dis := if r.majNow then r.v0Dis else s.lim.pub.dis
      role := if !r.majNow && r.role == 3 then 2 else r.role
      epoch := if !r.majNow && r.role == 3 then nextEpoch r.epoch else r.epoch
      coordTake := r.coordTake && r.majNow }

/-- MAJORITY_CHANGE (R424). -/
def execMajorityChange (s : State) : Host.Outcome State Fault Refusal := .next (if s.majorityDue then s.majorityChange else s)

/-- The Coordinator role is taken: role, epoch and CEPOCH count (R40, R423). -/
def State.coordinate (s : State) : State :=
  s.setRing fun r =>
    { r with coordTake := false, role := 3, epoch := nextEpoch r.epoch, cepoch := r.cepoch + 1, csocValid := false, kfMissed := 0
             coord := BitVec.ofNat 8 (uStr s.addr) }

/-- COORDINATOR_TAKEOVER (R423). -/
def execCoordinatorTakeover (s : State) : Host.Outcome State Fault Refusal :=
  .next (if s.ring.coordTake && s.ring.active then s.coordinate else s)

end Sys2Proof.Machine
end

