-- ==== Sys2Proof/Machine/Can.lean ====
section
/-! DEFINITION. CAN ports, message objects, time-triggered operation and safe telegrams (R339-R342, R427-R452). -/

namespace Sys2Proof.Machine

/-! Parameters of the objects -/

/-- The image's index of a port: 1 or 2. -/
def portIx (p : CPort) : Nat := if p = .can1 then 1 else 2

/-- The image's index of object k of a port: 0 to 127 on CAN1, 128 to 255 on CAN2. -/
def objIx (p : CPort) (k : Nat) : Nat := 128 * (portIx p - 1) + k

/-- The object exists: the image gives it an identifier (log entry 6). -/
def State.objUsed (s : State) (p : CPort) (k : Nat) : Bool := s.img.objUsed (portIx p) k

/-- FMT, PER or PHASE of the object, which its telegram may give (R434, R447). -/
def State.objPar (s : State) (q : Param) (p : CPort) (k : Nat) : Nat := s.img.objPar q (portIx p) k

/-- DLC of the object, which its telegram's length may give (R447). -/
def State.objDlc (s : State) (p : CPort) (k : Nat) : Nat := s.img.objDlc (portIx p) k

/-- Identifier of the object, which its telegram may give (R447). -/
def State.objId (s : State) (p : CPort) (k : Nat) : Nat := (s.img.objId (portIx p) k).toNat

/-- The object transmits (R434). -/
def State.objTx (s : State) (p : CPort) (k : Nat) : Bool := s.objUsed p k && s.on .DIR (objIx p k)

/-- CONT of the object (R434). -/
def State.objCont (s : State) (p : CPort) (k : Nat) : Nat := s.nat .CONT (objIx p k)

/-- Bytes of a DLC code. -/
def dlcLen (d : Nat) : Nat := if d ≤ 8 then d else [12, 16, 20, 24, 32, 48, 64].getD (d - 9) 64

/-- MODE of the port (R430). -/
def State.canMode (s : State) (p : CPort) : Nat := s.nat .CAN_MODE (portIx p)

/-- Object k of a port. -/
def State.objAt (s : State) (p : CPort) (k : Nat) : ObjS := (s.can p).obj[k]?.getD {}

/-- Change object k of a port. -/
def State.setObj (p : CPort) (k : Nat) (f : ObjS → ObjS) (s : State) : State :=
  s.setCan p fun c => { c with obj := c.obj.modify k f }

/-- The controller is on the bus or waits to be: not off, not in Listen (R430, R435). -/
def State.canOn (s : State) (p : CPort) : Bool := (s.can p).state != .off && (s.can p).state != .listen

/-- The controller takes part in traffic: it needs CLK_BUS (R25). -/
def State.canLive (s : State) (p : CPort) : Bool :=
  ((s.can p).state == .active || (s.can p).state == .passive) && s.xtalB && !(s.flt.blk.any fun b => b.1 == .can p)

/-! Transmission -/

/-- A frame is queued (R435): one that has not started is replaced, one that waits behind a frame that has started too. -/
def ObjS.queued (o : ObjS) (d : List Byte) : ObjS :=
  match o.txs, o.next with
  | .pending, none => { o with data := d, drop := incSat 255 o.drop }
  | .pending, some _ | .onBus, some _ => { o with next := some d, drop := incSat 255 o.drop }
  | .onBus, none => { o with next := some d }
  | _, _ => { o with data := d, txs := .pending, cancel := false }

/-- A frame of channel A enters XS_AC, whose far side has no clock: 32 frames of a port fit, the newest is dropped beyond that, with
FS72 (R25-R27). -/
def State.acPush (p : CPort) (s : State) : State :=
  if (s.can p).ac < 32 then s.setCan p fun c => { c with ac := c.ac + 1 } else s.raise 72 0

/-- Queue data in a transmit object (R435): discarded where sending is forbidden, a frame not started is replaced. -/
def State.queueObj (p : CPort) (k : Nat) (data : List Byte) (s : State) : State :=
  let d := padTo (dlcLen (s.objDlc p k)) data
  if !s.xtalB then s.acPush p
  else s.setObj p k fun o =>
    if !s.canOn p || s.canMode p != 1 then { o with data := d, txs := .discarded, next := none } else o.queued d

/-- The current request as an IREQ object carries it (R449). -/
def State.ireqData (s : State) : List Byte :=
  match s.imp.req with
  | some r => bytesOf 4 r.freq ++ bytesOf 2 r.amp ++ bytesOf 1 r.slot ++ [1]
  | none => List.replicate 8 0

/-- A fault event (R449). -/
def State.evtData (s : State) (e : Nat × Nat) : List Byte :=
  bytesOf 2 s.addr.toNat ++ bytesOf 1 e.1 ++ bytesOf 1 e.2 ++ wordBytes s.flt.hbeat

/-- Consist weights (R449). -/
def State.consData (s : State) : List Byte :=
  bytesOf 2 s.ring.wChg ++ bytesOf 2 s.ring.wDis ++ bytesOf 3 s.ring.csoc ++
    bytesOf 1 (packBits [s.ring.csocValid, s.ring.localBeats.isSome])

/-- The calendar at the reference of the beat (R446): the boundary's snapshot advanced by TM_OFS. -/
def State.calData (s : State) (cyc : Nat) : List Byte :=
  let t := s.log.snapSec.toNat * 65536 + s.log.snapFrac.toNat + s.nat .TM_OFS * 65536 / 1000000
  bytesOf 4 (t / 65536) ++ bytesOf 2 t ++ bytesOf 1 cyc ++ bytesOf 1 (packBits [s.log.calValid])

/-- The reference message of the time master (R444). -/
def refData (cyc : Nat) (ext : BitVec 16) : List Byte := bytesOf 1 (cyc % 64) ++ [0] ++ bytesOf 2 ext.toNat

/-! Safe telegrams to send -/

/-- Fields of telegram i of the image: 0 to 63 sends, 64 to 127 receives (log entry 6). -/
def State.telUsed (s : State) (i : Nat) : Bool := decide (0 < s.nat .L i)

/-- Outputs of a channel as ESC_STAT.OUT_A lays them out (R346). -/
def EscOut.bits (o : EscOut) : Nat := packBits [o.openReq, o.safeReq, o.closePermit, o.fastTrip, o.nflt, o.inh]

/-- Payload and time stamp of send telegram i as a channel composes it (R332, R447). -/
def State.telPayload (s : State) (c : Ch) (i : Nat) : List Byte × Word :=
  let ch := s.chan c
  match s.nat .TCONT i with
  | 1 => ((s.lim.pub.bytes.drop 4).take 46, s.lim.pub.beat)
  | 2 => (bytesOf 2 ch.cond.toNat ++
      bytesOf 1 (ch.seq.state.code + 8 * packBits [s.ring.localBeats.isSome, ch.seq.state == .rundown]) ++
      bytesOf 1 ch.lreq.toNat ++ bytesOf 2 ch.out.bits, s.beat.num)
  | _ => ([], s.beat.num)

/-- A telegram as its data field carries it (R339). -/
def telFrame (src : UAddr) (n : Nat) (rd : Bool) (seq : BitVec 16) (stamp : Word) (len : Nat) (payload : List Byte)
    (safeId : Int) : List Byte :=
  let body := padTo (len - 4) (bytesOf 2 src.toNat ++ bytesOf 1 n ++ bytesOf 1 (if rd then 1 else 0) ++ bytesOf 2 seq.toNat ++
    wordBytes stamp ++ payload)
  body ++ bytesOf 4 (crc32c (sbytes 4 safeId ++ body))

/-- The copy of send telegram i that a channel composes (R339, R340). -/
def State.telCopy (s : State) (c : Ch) (i : Nat) (rd : Bool) : List Byte :=
  let x := s.telPayload c i
  telFrame s.addr i rd (s.safe.txSeq[i]?.getD 0) x.2 (s.nat .L i) x.1 (s.par .SAFE_ID i)

/-- The survivor that composes both copies in run-down (R333). -/
def State.survivor (s : State) : Option Ch :=
  if s.runs .a && s.cha.seq.state == .rundown && (s.cha.declared || !s.runs .b) then some .a
  else if s.runs .b && s.chb.seq.state == .rundown && (s.chb.declared || !s.runs .a) then some .b
  else none

/-- Channel A feeds the plain messages, unless channel B is the survivor (R447). -/
def State.plainFed (s : State) : Bool := s.runs .a && s.survivor != some .b

/-- The copies of send telegram i for CAN1 and CAN2; none when they differ or a channel is missing (R333, R340). -/
def State.telCopies (s : State) (i : Nat) : Option (List Byte × List Byte) :=
  match s.survivor with
  | some c => some (s.telCopy c i true, s.telCopy c i true)
  | none =>
    if s.runs .a && s.runs .b && s.telCopy .a i false == s.telCopy .b i false then
      some (s.telCopy .a i false, s.telCopy .b i false) else none

/-- TT_PORT (R443). -/
def State.ttPort (s : State) : CPort := if s.nat .TT_PORT = 2 then .can2 else .can1

/-- The module sends the reference messages of a port: it is time master there and has not yielded (R444). -/
def State.sendsRef (s : State) (p : CPort) : Bool := s.nat .TT_ROLE == 2 && s.ttPort == p && (s.can p).ttState != 2

/-- An object is due at the boundary that starts the beat num (R435). -/
def State.perDue (s : State) (num : Word) (p : CPort) (k : Nat) : Bool :=
  s.objTx p k && decide (0 < s.objPar .PER p k) && decide (num.toNat % s.objPar .PER p k = s.objPar .PHASE p k)

/-- Safe telegram objects that are due: telegram numbers. -/
def State.telDue (s : State) (num : Word) : List Nat :=
  ((List.range 128).flatMap fun k =>
    [CPort.can1, CPort.can2].filterMap fun p =>
      if s.perDue num p k && s.objCont p k == 1 then some (s.nat .TEL (objIx p k)) else none).eraseDups

/-- Plain data of a periodic object from the evaluation before the boundary (R446, R449); none for the contents that other
rules queue, and none in a unit that R449 does not name as the sender: the Master sends LIM and CONS, the current unit IREQ, the
time master CAL. -/
def State.plainData (s : State) (p : CPort) (k : Nat) : Option (List Byte) :=
  match s.objCont p k with
  | 0 => some (s.objAt p k).data
  | 2 => if s.master then some (padTo 64 s.lim.pub.bytes) else none
  | 3 => if s.currentUnit then some [] else none
  | 5 => if s.master then some s.consData else none
  | 7 => if s.nat .TT_ROLE = 2 then some [] else none
  | _ => none

/-- What is queued on a port at the boundary that starts the beat num (R435): periodic objects with the data of the
preceding evaluation, the fault event, the reference of every beat (R444). Channel A feeds the plain objects. -/
def State.canDue (s : State) (num : Word) (p : CPort) : List (Nat × List Byte) :=
  (List.range 128).filterMap fun k =>
    if s.objTx p k && s.objCont p k == 4 && s.plainFed then (s.flt.canEvent.map fun e => (k, s.evtData e))
    else if s.objTx p k && s.objCont p k == 6 then (if s.plainFed && s.sendsRef p then some (k, []) else none)
    else if !s.perDue num p k then none
    else if s.objCont p k = 1 then
      (s.telCopies (s.nat .TEL (objIx p k))).map fun x => (k, if p = .can1 then x.1 else x.2)
    else if s.plainFed then (s.plainData p k).map fun d => (k, d)
    else none

/-- Composing at the end of a beat (R340, R435): what the next boundary queues; sequence numbers used count on. -/
def State.canCompose (num : Word) (s : State) : State :=
  let sent := (s.telDue num).filter fun i => (s.telCopies i).isSome
  let lost := (s.telDue num).filter fun i => (s.telCopies i).isNone && s.runs .a && s.runs .b
  let d1 := s.canDue num .can1
  let d2 := s.canDue num .can2
  { s with
    can1 := { s.can1 with due := d1 }
    can2 := { s.can2 with due := d2 }
    flt := { s.flt with canEvent := none }
    safe := { s.safe with
      txSeq := sent.foldl (fun l i => l.modify i (· + 1)) s.safe.txSeq
      txDiff := min 65535 (s.safe.txDiff + lost.length) } }

/-- Data of a due object: IREQ, REF and CAL take theirs at the boundary (R444, R446, R449), IREQ the request that is active from it
on. -/
def State.dueData (s : State) (p : CPort) (k : Nat) (d : List Byte) : List Byte :=
  match s.objCont p k with
  | 3 => s.reqWithdraw.reqStart.ireqData
  | 6 => refData (s.can p).txCyc 0
  | 7 => s.calData (s.can p).txCyc
  | _ => d

/-- A due object is queued. -/
def State.queueDue (p : CPort) (k : Nat) (s : State) : State :=
  match (s.can p).due.find? fun x => x.1 == k with
  | none => s
  | some x =>
    State.queueObj p k (s.dueData p k x.2) (s.setCan p fun c => { c with due := c.due.filter fun y => y.1 != k })

/-- CAN_PERIODIC_QUEUE (R435). -/
def execCanPeriodicQueue (port : CPort) (k : Fin 128) (s : State) : Host.Outcome State Fault Refusal :=
  .next (s.queueDue port k.val)

/-- Every due object of both ports. -/
def State.queueAll (s : State) : State :=
  runAll (State.queueDue .can2) (s.can2.due.map (·.1)) (runAll (State.queueDue .can1) (s.can1.due.map (·.1)) s)

/-- OBJ_SEND (R435): queues a transmit object of CONT 0 that is not pending or on the bus; every plain object stops with channel A
(R447). -/
def State.objSend (p : CPort) (k : Nat) (s : State) : State :=
  let o := s.objAt p k
  if s.plainFed && s.objTx p k && s.objCont p k == 0 && o.txs != .pending && o.txs != .onBus then s.queueObj p k o.data else s

/-- OBJ_SEND (R435). -/
def execObjSend (port : CPort) (k : Fin 128) (key : BitVec 8) (s : State) : Host.Outcome State Fault Refusal :=
  .next (if key == 0xC3 then s.objSend port k.val else s)

/-- OBJ_CANCEL (R436): a pending frame is removed, a frame on the bus is marked. -/
def State.objCancel (p : CPort) (k : Nat) (s : State) : State :=
  s.setObj p k fun o =>
    match o.txs with
    | .pending => { o with txs := .cancelled, next := none }
    | .onBus => { o with cancel := true, next := none }
    | _ => o

/-- OBJ_CANCEL (R436). -/
def execObjCancel (port : CPort) (k : Fin 128) (key : BitVec 8) (s : State) : Host.Outcome State Fault Refusal :=
  .next (if key == 0xC3 && s.objTx port k.val then s.objCancel port k.val else s)

/-- Whether identifier a wins arbitration over b: bit by bit over the base identifier, then IDE, then the extension. -/
def arbKey (ide : Bool) (id : Nat) : Nat := if ide then id / 2 ^ 18 * 2 ^ 19 + 2 ^ 18 + id % 2 ^ 18 else id * 2 ^ 19

/-- Arbitration key of object k (R435). -/
def State.objKey (s : State) (p : CPort) (k : Nat) : Nat := arbKey (s.on .IDE (objIx p k)) (s.objId p k)

/-- The pending objects of a port (R435). -/
def State.pendings (s : State) (p : CPort) : List Nat := positions (fun o : ObjS => o.txs == .pending) (s.can p).obj

/-- The reference message that waits for its instant, or for the bus after it (R444). -/
def State.refWaits (s : State) (p : CPort) : Option Nat := (s.pendings p).find? fun k => s.objCont p k == 6

/-- The pending object that is offered first (R435); a reference message goes at REFERENCE_SEND, and from TM_OFS on it takes
precedence over all others (R444). -/
def State.offered (s : State) (p : CPort) : Option Nat :=
  if (s.refWaits p).isSome && decide (1000 * s.nat .TM_OFS ≤ s.beat.offNs) then none
  else bestBy (fun a b => decide (s.objKey p a < s.objKey p b)) ((s.pendings p).filter fun k => s.objCont p k != 6)

/-- A frame is on the bus of the port. -/
def CanS.busy (c : CanS) : Bool := c.obj.any fun o => o.txs == .onBus

/-- The frame of object k starts; an FD frame tells that its port is error passive (R427, R436). -/
def State.startFrame (p : CPort) (k : Nat) (s : State) : State :=
  s.setObj p k fun o => { o with txs := .onBus, esi := decide (1 ≤ s.objPar .FMT p k) && (s.can p).state == .passive }

/-- At the end of a sub-beat an idle port puts the offered frame on the bus (R436; log entry 16). -/
def State.canOffer (p : CPort) (s : State) : State :=
  if !s.canLive p || (s.can p).busy then s
  else match s.offered p with
    | none => s
    | some k => s.startFrame p k

/-- A frame leaves the object for good: the one that waits behind it becomes pending (R435, R436). -/
def ObjS.leave (o : ObjS) (t : Txs) : ObjS :=
  match o.next with
  | some d => { o with data := d, next := none, txs := .pending, cancel := false }
  | none => { o with txs := t, cancel := false }

/-- The frame of an object ends (R435, R436); without a cancel it is offered again, and what waits behind it waits on. -/
def ObjS.ended (o : ObjS) (how : BusEnd) (oneshot : Bool) (beat : Word) (ofs : BitVec 16) : ObjS :=
  let fails (t : Txs) : ObjS := if o.cancel || oneshot then o.leave t else { o with txs := .pending }
  match how with
  | .complete => { o.leave (if o.cancel then .late else .sent) with cnt := incSat 65535 o.cnt, beat := beat, ofs := ofs }
  | .lostArbitration => fails .cancelled
  | .error _ _ => fails .error

/-- An acknowledgement error of a port in error passive leaves its counter (ISO 11898-1; log entry 102). -/
def CanS.ackPassive (c : CanS) (code : Fin 8) : Bool := c.state == .passive && code == 3

/-- What a frame end does to the port: error counters, error code, and the loop delay where one was measured (R432, R439, R451). -/
def CanS.ended (c : CanS) (how : BusEnd) (brs : Bool) (delay : Nat) : CanS :=
  match how with
  | .complete => { c with txErr := c.txErr - 1, tdc := if brs then min 255 delay else c.tdc }
  | .lostArbitration => c
  | .error code dp =>
    { c with
      txErr := if c.ackPassive code then c.txErr else min 256 (c.txErr + 8)
      errs := incSat 65535 c.errs, lecCode := code.val, lecData := dp
      tdc := if brs && delay != 0 then min 255 delay else c.tdc }

/-- The loop delay with TDCO is above 127 cycles: a bit error in the data phase (R432). Whether the bit sent was 1 or 0 is a free
value. -/
def State.delayError (s : State) (p : CPort) (brs : Bool) (delay : Nat) (how : BusEnd) : BusEnd :=
  if how == .complete && brs && decide (127 < delay + s.nat .TDCO (portIx p)) then
    .error (if Config.tdcBit (s.can p).errs then 4 else 5) true
  else how

/-- BEAT_NUM of the start of a frame that ends now (R452): an offset that lies more than a sub-beat ahead of the latest instant
was of the beat before. -/
def State.txBeat (s : State) (ofs : BitVec 16) : Word :=
  if s.beat.offNs + 62500 < 25 * ofs.toNat then s.beat.num - 1 else s.beat.num

/-! Error states -/

/-- The error state that the counters give (ISO 11898-1): bus-off when the transmit counter passes 255, error passive when a counter
passes 127 (R439). -/
def CanS.errState (c : CanS) : CanState :=
  if 255 < c.txErr then .recovery else if 127 < c.txErr ∨ 127 < c.rxErr then .passive else .active

/-- A port that takes part in traffic follows its error counters (R439): each entry to error passive or to bus-off raises the port's
source, which stands until it is error active. In bus-off a frame that was on the bus stays pending (R440). -/
def State.canFollow (p : CPort) (s : State) : State :=
  let c := s.can p
  if !s.canLive p || c.errState == c.state then s
  else match c.errState with
    | .recovery =>
      State.raiseCond (canFs p) 0 (s.setCan p fun c => { c with state := .recovery, boff := incSat 255 c.boff, obj := c.obj.map ObjS.offBus })
    | .passive => State.raiseCond (canFs p) 0 (s.setCan p fun c => { c with state := .passive, pasv := incSat 255 c.pasv })
    | _ => (s.setCan p fun c => { c with state := .active }).endCond (canFs p)

/-- CAN_FRAME_END (R436). -/
def State.frameEnd (p : CPort) (k : Nat) (seen : BusEnd) (ofs : BitVec 16) (delay : Nat) (s : State) : State :=
  let o := s.objAt p k
  if !s.canLive p || !(o.txs == .onBus || o.txs == .pending) then s
  else
    let brs := s.objPar .FMT p k == 2 && s.on .TDC (portIx p)
    let how := s.delayError p brs delay seen
    let t := match how with
      | .complete => s.tally (if portIx p = 1 then 11 else 13) 1
      | .lostArbitration => s
      | .error _ _ => s.tally 15 1
    ((t.setObj p k fun o => o.ended how (s.on .ONESHOT (objIx p k) && s.objCont p k != 1) (s.txBeat ofs) ofs).setCan p fun c =>
      c.ended how brs delay).canFollow p

/-- CAN_FRAME_END (R436). -/
def execCanFrameEnd (port : CPort) (k : Fin 128) (how : BusEnd) (ofs : BitVec 16) (loopDelay : Nat) (s : State) :
    Host.Outcome State Fault Refusal := .next (s.frameEnd port k.val how ofs loopDelay)

/-! Reception -/

/-- BEAT_NUM of the start of a frame that ends endNs after the boundary (R437). -/
def State.sofBeat (s : State) (ofs : BitVec 16) (endNs : Nat) : Word :=
  if endNs < 25 * ofs.toNat then s.beat.num - 1 else s.beat.num

/-- The receive object that a frame belongs to (R437). -/
def State.rxObj (s : State) (p : CPort) (f : CanFrame) : Option Nat :=
  (List.range 128).find? fun k =>
    s.objUsed p k && !s.on .DIR (objIx p k) && s.on .IDE (objIx p k) == f.ide && s.objId p k == f.id.toNat

/-- A filter matches (R438). -/
def State.filterHits (s : State) (p : CPort) (f : CanFrame) (i : Nat) : Bool :=
  let x := 32 * (portIx p - 1) + i
  s.on .FILT_IDE x == f.ide && (f.id.toNat ^^^ s.nat .MATCH x) &&& s.nat .MASK x == 0 && s.nat .TARGET x != 0

/-- A frame enters a FIFO, or is dropped from a full one (R438). -/
def CanS.fifoIn (c : CanS) (second : Bool) (x : FifoFrame) : CanS :=
  if second then
    (if c.fifo1.length < 64 then { c with fifo1 := c.fifo1 ++ [x] } else { c with ovr1 := incSat 255 c.ovr1 })
  else if c.fifo0.length < 64 then { c with fifo0 := c.fifo0 ++ [x] }
  else { c with ovr0 := incSat 255 c.ovr0 }

/-- A frame that matches no receive object (R437, R438). -/
def State.filtered (p : CPort) (f : CanFrame) (beat : Word) (s : State) : State :=
  s.setCan p fun c =>
    match (List.range 32).find? (s.filterHits p f) with
    | none => { c with noMatch := incSat 65535 c.noMatch }
    | some i =>
      match s.nat .TARGET (32 * (portIx p - 1) + i) with
      | 1 => c.fifoIn false ⟨f, i, beat, false⟩
      | 2 => c.fifoIn true ⟨f, i, beat, true⟩
      | _ => c

/-- Frames of a port that XS_CA and XS_CB hold (R26). -/
def telRoom : Ch → Nat
  | .a => 32
  | .b => 16

/-- A telegram fits into the channel's FIFO: those that no evaluation has taken fill it (R26, R27; log entry 73). -/
def State.telFits (s : State) (c : Ch) (p : CPort) : Bool :=
  decide (((s.chan c).telIn.filter fun x => x.port == p).length + (if c = .a then (s.can p).ca else 0) < telRoom c)

/-- A telegram enters a channel's FIFO; the newest is dropped where it does not fit, and FS72 is raised (R27). -/
def State.telPush (x : TelIn) (c : Ch) (s : State) : State :=
  if !s.runs c then s
  else if s.telFits c x.port then s.setChan c fun y => { y with telIn := y.telIn ++ [x] }
  else s.raise 72 0

/-- A reference or calendar frame goes to channel A (R437): cores that work take it at once, before held ones it waits in XS_CA (R26,
R27). -/
def State.caPush (p : CPort) (s : State) : State :=
  if s.works .a then s.setCan p fun c => { c with ca := 0 }
  else if !s.runs .a then s
  else if s.telFits .a p then s.setCan p fun c => { c with ca := c.ca + 1 }
  else s.raise 72 0

/-- A telegram frame goes to both channels (R437): its evaluation beat by the end of frame. -/
def State.telArrive (p : CPort) (k : Nat) (f : CanFrame) (endNs : Nat) (s : State) : State :=
  let x : TelIn := { tel := s.nat .TEL (objIx p k), port := p, bytes := f.data, beat := if endNs < 840000 then s.beat.num else s.beat.num + 1 }
  (s.telPush x .a).telPush x .b

/-- Reception of an intact frame (R428, R437). -/
def State.canReceive (p : CPort) (f : CanFrame) (endNs : Nat) (s : State) : State :=
  if !s.canLive p then s
  else
    let b := s.sofBeat f.ofs endNs
    let g := if f.rtr then { f with data := [] } else f
    let t := ((s.tally (if portIx p = 1 then 12 else 14) 1).at endNs).setCan p fun c => { c with rxErr := if 127 < c.rxErr then 127 else c.rxErr - 1 }
    let v := match s.rxObj p f with
      | none => t.filtered p g b
      | some k =>
        let u := t.setObj p k fun o =>
          { o with data := g.data, fresh := true, drop := if o.fresh then incSat 255 o.drop else o.drop, cnt := incSat 65535 o.cnt,
                   beat := b, ofs := f.ofs }
        if s.objCont p k = 1 then u.telArrive p k g endNs
        else if s.objCont p k = 6 ∨ s.objCont p k = 7 then u.caPush p else u
    v.canFollow p

/-- CAN_FRAME_RECEIVE (R437). -/
def execCanFrameReceive (port : CPort) (f : CanFrame) (endNs : Nat) (s : State) : Host.Outcome State Fault Refusal :=
  .next (s.canReceive port f endNs)

/-- Move the oldest frame of a FIFO into the read window (R438, R451). -/
def CanS.pop (c : CanS) (second : Bool) : CanS :=
  if second then { c with window := c.fifo1.head?, fifo1 := c.fifo1.drop 1 }
  else { c with window := c.fifo0.head?, fifo0 := c.fifo0.drop 1 }

/-- FIFO_POP (R438). -/
def execFifoPop (path : Path) (port : CPort) (second : Bool) (s : State) : Host.Outcome State Fault Refusal :=
  let _ := path
  .next (s.setCan port fun c => c.pop second)

/-- FIFO_FLUSH (R438). -/
def execFifoFlush (path : Path) (port : CPort) (key : BitVec 8) (f0 f1 : Bool) (s : State) : Host.Outcome State Fault Refusal :=
  let _ := path
  .next (if key == 0xC3 then
    s.setCan port fun c => { c with fifo0 := if f0 then [] else c.fifo0, fifo1 := if f1 then [] else c.fifo1 }
  else s)

/-- A read of ODATA0 clears NEW of a receive object (R451). -/
def State.odata0Read (p : CPort) (s : State) : State :=
  let k := (s.can p).osel.toNat
  s.setObj p k fun o => { o with fresh := o.fresh && s.on .DIR (objIx p k) }

/-- ODATA0_READ (R451). -/
def execOdata0Read (path : Path) (port : CPort) (s : State) : Host.Outcome State Fault Refusal :=
  let _ := path
  .next (s.odata0Read port)

/-! Errors and bus-off -/

/-- Errors that are not an own frame's: the counters as ISO 11898-1 then has them, and the error that was detected, with its phase
(R439, R451). A port that is off, integrating or in bus-off takes part in no traffic and meets none. -/
def State.canError (p : CPort) (tec rxc : Nat) (err : Option (Fin 8 × Bool)) (s : State) : State :=
  if !s.canLive p then s
  else
    (s.setCan p fun c =>
      let d := { c with txErr := min 256 tec, rxErr := min 255 rxc }
      match err with
      | some e => { d with errs := incSat 65535 c.errs, lecCode := e.1.val, lecData := e.2 }
      | none => d).canFollow p

/-- CAN_ERROR_STATE (R439). -/
def execCanErrorState (port : CPort) (tec rec : Nat) (err : Option (Fin 8 × Bool)) (s : State) : Host.Outcome State Fault Refusal :=
  .next (s.canError port tec rec err)

/-- The port is error active again with both counters at 0 (R440). -/
def State.canRejoin (p : CPort) (s : State) : State :=
  (s.setCan p fun c => { c with state := .active, txErr := 0, rxErr := 0, left := 0, holdRun := false }).endCond (canFs p)

/-- Bus-off recovery (R440): the 128 sequences end the wait for them; the hold ends when no beat is left. -/
def State.canRecover (p : CPort) (recessive : Bool) (s : State) : State :=
  let c := s.can p
  match c.state with
  | .recovery => if recessive then s.setCan p fun c => { c with state := .hold, left := s.nat .BOFF_HOLD (portIx p), holdRun := false } else s
  | .hold => if c.holdRun && c.left == 0 then s.canRejoin p else s
  | _ => s

/-- BUS_OFF_RECOVERY (R440). -/
def execBusOffRecovery (port : CPort) (recessive : Bool) (s : State) : Host.Outcome State Fault Refusal :=
  .next (s.canRecover port recessive)

/-! Time-triggered operation -/

/-- The transmit object of a content on a port. -/
def State.txObjOf (s : State) (p : CPort) (cont : Nat) : Option Nat :=
  (List.range 128).find? fun k => s.objTx p k && s.objCont p k == cont

/-- The nominal Ref_Mark, in CLK_BUS cycles after the boundary (R431, R444): the sample point of the start of a frame that begins at
TM_OFS. -/
def State.nominalMark (s : State) : Nat :=
  80 * s.nat .TM_OFS + (1 + s.nat .TSEG1 (portIx s.ttPort)) * s.nat .BRP (portIx s.ttPort)

/-- The time master's reference starts, with its Ref_Mark mark CLK_BUS cycles after the boundary (R444): when it waits, the bus is
idle, and not before its instant. EXT tells how much later it is than the nominal one. -/
def State.refSend (mark : Nat) (s : State) : State :=
  let p := s.ttPort
  if !s.sendsRef p || !s.canLive p || (s.can p).busy || decide (mark < s.nominalMark) then s
  else match s.refWaits p with
    | none => s
    | some k =>
      let ext := BitVec.ofNat 16 (min 65535 (mark - s.nominalMark))
      let t := s.setCan p fun c => { c with ttState := 1, refExt := ext, refOfs := BitVec.ofNat 16 (mark / 2), cyc := c.txCyc }
      (t.setObj p k fun o => { o with data := refData (s.can p).txCyc ext, cancel := false }).startFrame p k

/-- REFERENCE_SEND (R444): the Ref_Mark stands so many µs, and CLK_BUS cycles beyond them, after the boundary. -/
def execReferenceSend (us cycles : Nat) (s : State) : Host.Outcome State Fault Refusal := .next (s.refSend (80 * us + cycles))

/-- The cycle count that a reference carries (R444). -/
def refCycle (f : CanFrame) : Nat := numAt f.data 0 1 % 64

/-- EXT of a reference; 0 where it carries none (R444, R445). -/
def refExtOf (f : CanFrame) : BitVec 16 := if 4 ≤ f.dlc.toNat then BitVec.ofNat 16 (numAt f.data 2 2) else 0

/-- A reference message is accepted (R445): its cycle count follows that of the valid reference of the beat before. -/
def State.refOk (s : State) (f : CanFrame) : Bool :=
  !f.ide && !f.rtr && f.id.toNat / 8 == s.nat .REF_ID / 8 && decide (1 ≤ f.dlc.toNat) &&
    (s.can s.ttPort).refPrev.all fun n => refCycle f == (n + 1) % (s.nat .CYC_MAX + 1)

/-- The target boundary instant after Ref_Mark, in CLK_A cycles (R445): CANT_PHASE, less EXT under REF_EXT; EXT is rounded down to
whole CLK_A cycles (log entry 103). -/
def State.targetLag (s : State) (f : CanFrame) : Int :=
  200 * (s.beat.cantPhase.toNat : Int) - (if s.on .REF_EXT then ((refExtOf f).toNat : Int) * 5 / 2 else 0)

/-- A valid reference of the beat is noted with its cycle count, EXT, offset and target (R445, R446, R451). -/
def CanS.noteRef (c : CanS) (f : CanFrame) (lag : Int) : CanS :=
  { c with
    refId := some f.id.toNat, refCyc := refCycle f, cyc := refCycle f, refOfs := f.ofs, refExt := refExtOf f, refLag := lag
    refCycs := refCycle f :: c.refCycs.filter fun n => n != refCycle f }

/-- A reference message arrives (R85, R444, R445): the one with the lowest identifier of the beat counts; a slave takes its
target instant, a master yields to a lower identifier than its own. interval counts CLK_A cycles from the Ref_Mark of the reference of
the beat before to this one, dev those from the predicted target instant to this Ref_Mark. -/
def State.refReceive (f : CanFrame) (interval : Nat) (dev : Int) (s : State) : State :=
  let p := s.ttPort
  let lag := s.targetLag f
  if !s.canLive p || s.nat .TT_ROLE = 0 || !s.refOk f || (s.can p).refId.any fun i => decide (i ≤ f.id.toNat) then s
  else if s.nat .TT_ROLE = 2 then
    s.setCan p fun c =>
      if f.id.toNat < s.nat .REF_ID then { c.noteRef f lag with higher := true, higherMissed := 0, ttState := 2 } else c.noteRef f lag
  else
    let t := s.setCan p fun c => { c.noteRef f lag with ttState := 3 }
    let n := ((interval : Int) + lag - (s.can p).lagPrev).toNat
    let ok := intervalOk n && (s.beat.lock != .locked || decide ((dev + lag).natAbs ≤ 5000))
    { t with beat := if s.ownBeat && s.beat.srcSel == 2 then t.beat.busReference ok n else t.beat }

/-- REFERENCE_RECEIVE (R445). -/
def execReferenceReceive (f : CanFrame) (interval : Nat) (dev : Int) (s : State) : Host.Outcome State Fault Refusal :=
  .next (s.refReceive f interval dev)

/-- A yielded master resumes (R444). -/
def State.ttResumeDue (s : State) : Bool := (s.can s.ttPort).ttState == 2 && decide (3 ≤ (s.can s.ttPort).higherMissed)

/-- Sending again, from this beat on (R444). -/
def State.ttResume (s : State) : State :=
  let t := s.setCan s.ttPort fun c => { c with ttState := 1, higherMissed := 0 }
  match s.txObjOf s.ttPort 6 with
  | some k => if s.plainFed then t.queueObj s.ttPort k (refData (s.can s.ttPort).txCyc 0) else t
  | none => t

/-- TT_MASTER_RESUME (R444). -/
def execTtMasterResume (s : State) : Host.Outcome State Fault Refusal := .next (if s.ttResumeDue then s.ttResume else s)

/-- A CAL message (R446): it sets the calendar or trims its rate; calSec and calFrac are this module's calendar at the named Ref_Mark. -/
def State.calReceive (f : CanFrame) (calSec calFrac : Nat) (s : State) : State :=
  let c := s.can s.ttPort
  if s.nat .TT_ROLE != 1 || !s.on .CAL_EN || f.dlc != 8 || !(numAt f.data 7 1).testBit 0 ||
      !c.refCycs.contains (numAt f.data 6 1) then s
  else
    let bus : Int := ((numAt f.data 0 4 * 65536 + numAt f.data 4 2 : Nat) : Int)
    let own : Int := ((calSec * 65536 + calFrac : Nat) : Int)
    let d := bus - own
    if s.nat .CAL_STEP * 65536 < 1000 * d.natAbs then
      let now : Int := ((s.log.calSec.toNat * 65536 + s.log.calFrac.toNat : Nat) : Int) + d
      s.setCalendar (nword (now / 65536).toNat) (BitVec.ofNat 16 (now % 65536).toNat) 2
    else s.trimCalendar d

/-- CAL_RECEIVE (R446). -/
def execCalReceive (f : CanFrame) (calSec calFrac : Nat) (s : State) : Host.Outcome State Fault Refusal :=
  .next (s.calReceive f calSec calFrac)

/-- A port passes a boundary: integration ends, hold beats count, references of the beat (R440, R444, R445). -/
def CanS.atBoundary (tt master : Bool) (cycMax : Nat) (c : CanS) : CanS :=
  { c with
    state := if c.state = .integrating then .active else c.state
    holdRun := c.holdRun || c.state == .hold
    left := if c.state = .hold && c.holdRun then c.left - 1 else c.left
    ttMissed := if tt && !master && c.refId.isNone then incSat 255 c.ttMissed else c.ttMissed
    refPrev := c.refId.map fun _ => c.refCyc, refId := none
    lagPrev := if c.refId.isSome then c.refLag else c.lagPrev
    higherMissed := if c.higher then 0 else c.higherMissed + 1, higher := false
    txCyc := if tt && master then (c.txCyc + 1) % (cycMax + 1) else c.txCyc }

/-- The CAN ports' part of a boundary. -/
def State.canBoundary (s : State) : State :=
  let on (p : CPort) : Bool := s.nat .TT_ROLE != 0 && s.ttPort == p
  { s with
    can1 := s.can1.atBoundary (on .can1) (s.nat .TT_ROLE == 2) (s.nat .CYC_MAX)
    can2 := s.can2.atBoundary (on .can2) (s.nat .TT_ROLE == 2) (s.nat .CYC_MAX) }

/-- A controller is switched on in Active, by its MODE (R430, R134); it integrates first. -/
def State.canStart (s : State) : State :=
  let f (p : CPort) (c : CanS) : CanS :=
    if s.cfg.image.isSome && s.canMode p != 0 then
      { c with state := .integrating, ttState := if s.nat .TT_ROLE != 0 && s.ttPort == p then (if s.nat .TT_ROLE = 2 then 1 else 3) else 0 }
    else { c with state := .off }
  { s with can1 := f .can1 s.can1, can2 := f .can2 s.can2 }

/-! Safe telegrams received -/

/-- The checks of R341 on a copy of receive telegram n. -/
def State.telOk (s : State) (n : Nat) (x : TelRx) (l : List Byte) : Bool :=
  let i := 64 + n
  let seq : BitVec 16 := BitVec.ofNat 16 (numAt l 4 2)
  let stamp := nword (numAt l 6 4)
  l.length == s.nat .L i && numAt l (l.length - 4) 4 == crc32c (sbytes 4 (s.par .SAFE_ID i) ++ l.take (l.length - 4)) &&
    numAt l 0 2 == s.nat .SRC_ADDR i && numAt l 2 1 == n &&
    (match x.last with
      | none => true
      | some (q, t) => decide (1 ≤ (seq - q).toNat ∧ (seq - q).toNat ≤ s.nat .SEQ_WIN) &&
          decide (1 ≤ (stamp - t).toNat ∧ (stamp - t).toNat ≤ s.nat .TS_WIN))

/-- Acceptance (R342): a pair ends the single run and the loss. -/
def TelRx.accept (x : TelRx) (c : TelCopy) (pair : Bool) : TelRx :=
  { x with
    last := some (c.seq, c.stamp), silent := 0, payload := c.bytes.take (c.bytes.length - 4) |>.drop 10, cmd := true
    lost := x.lost && !pair
    single := if pair then none else some (x.single.getD 0)
    singleCnt := if pair then x.singleCnt else incSat 65535 x.singleCnt
    rd := if c.rd then some (x.rd.getD 0) else x.rd
    rdLast := c.rd }

/-- RD copies count no longer (R342). -/
def State.rdOver (s : State) (x : TelRx) : Bool := x.rd.any fun n => decide (beatsOfSec (s.nat .T_RDRX) ≤ n)

/-- One copy enters the beat table (R341, R342): checked, paired or kept waiting; true when a pair differed. -/
def State.telEnter (s : State) (n : Nat) (p : CPort) (l : List Byte) (x : TelRx) : TelRx × Bool :=
  let c : TelCopy := { port := p, seq := BitVec.ofNat 16 (numAt l 4 2), stamp := nword (numAt l 6 4), rd := (numAt l 3 1).testBit 0, bytes := l }
  if !s.telOk n x l then ({ x with bad := incSat 65535 x.bad }, false)
  else if c.rd && s.rdOver x then ({ x with lost := true }, false)
  else match x.copies.find? fun y => y.seq == c.seq with
    | none => ({ x with copies := x.copies ++ [c] }, false)
    | some y =>
      if y.port == p then (x, false)
      else
        let z := { x with copies := x.copies.erase y }
        if y.bytes == l then (z.accept c true, false) else ({ z with diff := incSat 65535 z.diff }, true)

/-- Single copies whose pair has not come by T_PAIR beats are judged (R342). -/
def State.telSingles (s : State) (n : Nat) (x : TelRx) : TelRx :=
  let due := x.copies.filter fun c => decide (s.nat .T_PAIR ≤ c.wait)
  let y := { x with copies := x.copies.filter fun c => !decide (s.nat .T_PAIR ≤ c.wait) }
  due.foldl (fun z c =>
    if s.telOk n z c.bytes && decide (z.single.getD 0 < s.nat .T_SINGLE) && !(c.rd && s.rdOver z) then z.accept c false else z) y

/-- Timers of one evaluation; the loss after T_RX beats without acceptance, or after T_RDRX of RD copies (R342). -/
def State.telTimers (s : State) (x : TelRx) : TelRx :=
  { x with
    lost := x.lost || decide (s.nat .T_RX ≤ x.silent) || (x.rdLast && s.rdOver x)
    silent := incSat 4294967295 x.silent, single := x.single.map (· + 1), rd := x.rd.map (· + 1)
    copies := x.copies.map fun c => { c with wait := c.wait + 1 } }

/-- Telegram n's copies of the beat in one channel (R341, R342): entered, and single ones judged; true when a pair differed. -/
def State.telJudge (s : State) (c : ChanS) (n : Nat) (x : TelRx) : TelRx × Bool :=
  let ins := c.telIn.filter fun i => i.tel == n && i.beat == s.beat.num
  let y := ins.foldl (fun (a : TelRx × Bool) i =>
    let r := s.telEnter n i.port i.bytes a.1
    (r.1, a.2 || r.2)) ({ x with cmd := false }, false)
  (s.telSingles n y.1, y.2)

/-- Copies rejected so far (TEL_CNT). -/
def TelRx.rejected (x : TelRx) : Nat := x.bad + x.diff

/-- The judgement of telegram n in a channel (R342), with its counts and FS52. -/
def State.telJudgeIn (ch : Ch) (n : Nat) (s : State) : State :=
  if !s.evals ch || !s.telUsed (64 + n) || s.safe.telJudged.contains n then s
  else
    let c := s.chan ch
    let x := c.tel[n]?.getD {}
    let r := s.telJudge c n x
    let s := if s.reports ch then
        (s.tally 16 (if r.1.cmd then 1 else 0)).tally 17 (r.1.rejected - x.rejected) else s
    let t := s.setChan ch fun c =>
      { c with tel := c.tel.set n r.1, telIn := c.telIn.filter fun i => !(i.tel == n && i.beat == s.beat.num) }
    if r.2 && s.reports ch then t.raise 52 0 else t

/-- Both channels judge the copies of telegram n (R342). -/
def State.telJudged (n : Nat) (s : State) : State :=
  let t := (s.telJudgeIn .a n).telJudgeIn .b n
  { t with safe := { t.safe with telJudged := t.safe.telJudged ++ [n] } }

/-- The timers of telegram n in a channel (R342). -/
def State.telTimeIn (ch : Ch) (n : Nat) (s : State) : State :=
  if !s.evals ch || !s.telUsed (64 + n) || s.safe.telTimed.contains n then s
  else s.setChan ch fun c => { c with tel := c.tel.modify n s.telTimers }

/-- Both channels' timers of telegram n, after its judgement (R342). -/
def State.telTimed (n : Nat) (s : State) : State :=
  let t := ((s.telJudged n).telTimeIn .a n).telTimeIn .b n
  { t with safe := { t.safe with telTimed := t.safe.telTimed ++ [n] } }

/-- Both channels judge the copies of the beat, before the escapement reads class 9 (R342). -/
def State.telegrams (s : State) : State := runAll State.telTimed ((List.range 64).filter fun n => s.telUsed (64 + n)) s

/-- The telegram that a received frame carries by its identifier and port: receive telegram number (R339, R341). -/
def State.telOf (s : State) (p : CPort) (f : CanFrame) : Option Nat :=
  (s.rxObj p f).bind fun k => if s.objCont p k = 1 then some (s.nat .TEL (objIx p k)) else none

/-- A copy reaches a channel (R341): one that fails a check is discarded and counted, another waits for its evaluation. -/
def State.telCheckIn (n : Nat) (x : TelIn) (ch : Ch) (s : State) : State :=
  if !s.runs ch then s
  else if s.telOk n ((s.chan ch).tel[n]?.getD {}) x.bytes then (if (s.chan ch).telIn.contains x then s else s.telPush x ch)
  else s.setChan ch fun c =>
    { c with tel := c.tel.modify n fun y => { y with bad := incSat 65535 y.bad }, telIn := c.telIn.erase x }

/-- The copy in both channels (R341). -/
def State.telReceive (p : CPort) (f : CanFrame) (s : State) : State :=
  match s.telOf p f with
  | none => s
  | some n =>
    let x : TelIn := { tel := n, port := p, bytes := f.data, beat := if s.beat.offNs < 840000 then s.beat.num else s.beat.num + 1 }
    (s.telCheckIn (n % 64) x .a).telCheckIn (n % 64) x .b

/-- SAFE_TELEGRAM_RECEIVE (R341). -/
def execSafeTelegramReceive (port : CPort) (f : CanFrame) (s : State) : Host.Outcome State Fault Refusal :=
  .next (s.telReceive port f)

/-- Both copies of send telegram n that were composed alike go to their ports (R340). -/
def State.telSend (n : Nat) (s : State) : State :=
  let mine (p : CPort) : List Nat := ((s.can p).due.map (·.1)).filter fun k => s.objCont p k == 1 && s.nat .TEL (objIx p k) == n
  runAll (State.queueDue .can2) (mine .can2) (runAll (State.queueDue .can1) (mine .can1) s)

/-- SAFE_TELEGRAM_SEND (R340): copies that differed in composing were not queued for the boundary. -/
def execSafeTelegramSend (tel : Fin 64) (s : State) : Host.Outcome State Fault Refusal := .next (s.telSend tel.val)

/-- The request that a CMD payload names (R447). -/
def cmdKind (l : List Byte) : Option ReqKind :=
  let c := numAt l 0 1
  if numAt l 1 1 != 255 - c then none
  else match c with
    | 1 => some .close
    | 2 => some .openReq
    | 3 => some .ack
    | _ => none

/-- A CMD telegram waits in some channel (R448). -/
def State.cmdDue (s : State) (n : Nat) : Bool :=
  s.nat .TCONT (64 + n) == 1 && s.telUsed (64 + n) && ((s.cha.tel[n]?.getD {}).cmd || (s.chb.tel[n]?.getD {}).cmd)

/-- A channel is present: it runs, and the other has not declared it lost (R329, R448). -/
def State.present (s : State) (c : Ch) : Bool := s.runs c && !(s.chan c.other).declared

/-- A CMD telegram stages its request, or is discarded and counted (R298, R448). -/
def State.cmdTake (n : Nat) (s : State) : State :=
  let a := s.cha.tel[n]?.getD {}
  let b := s.chb.tel[n]?.getD {}
  let both := (!s.present .a || a.cmd) && (!s.present .b || b.cmd)
  let pay := if s.present .a then a.payload else b.payload
  let same := !s.present .a || !s.present .b || a.payload == b.payload
  let clear (c : ChanS) (bad : Bool) : ChanS :=
    { c with tel := c.tel.modify n fun x => { x with cmd := false, bad := if bad then incSat 65535 x.bad else x.bad } }
  match (if both && same then cmdKind pay else none) with
  | none => { s with cha := clear s.cha true, chb := clear s.chb true }
  | some k =>
    { s with
      cha := clear s.cha false, chb := clear s.chb false
      safe := if (s.nat .REQ_SRC).testBit 1 then { s.safe with reqStaged := some ⟨k, .can⟩ } else s.safe }

/-- CMD_TELEGRAM (R448). -/
def execCmdTelegram (tel : Fin 64) (s : State) : Host.Outcome State Fault Refusal :=
  .next (if s.cmdDue tel.val then s.cmdTake tel.val else s)

/-- Every CMD telegram that waits. -/
def State.cmdAll (s : State) : State := runAll State.cmdTake ((List.range 64).filter s.cmdDue) s

end Sys2Proof.Machine
end

