-- ==== Sys2Proof/Machine/Bank.lean ====
section
/-! DEFINITION. The bytes of a bank: an addressed store in one canonical form, where an unlisted address reads 0 (R109,
R124, R135); the commit journal (R128). -/

namespace Sys2Proof.Machine

/-- Bytes of one bank (R109). -/
def bankSize : Nat := 262144

/-- The byte at an address: 0 where nothing is listed, as an erased bank reads (R135). -/
def cellsGet (a : Nat) : List Host.Cell → Byte
  | [] => 0
  | c :: l => if c.1 = a then c.2 else cellsGet a l

/-- Store a byte; storing 0 removes the entry. -/
def cellsSet (a : Nat) (b : Byte) : List Host.Cell → List Host.Cell
  | [] => if b = 0 then [] else [(a, b)]
  | c :: l =>
    if c.1 < a then c :: cellsSet a b l
    else if c.1 = a then (if b = 0 then l else (a, b) :: l)
    else if b = 0 then c :: l else (a, b) :: c :: l

/-- The canonical form: addresses strictly rising and below the bank's size, no entry of 0. -/
def cellsWf : List Host.Cell → Bool
  | [] => true
  | [c] => decide (c.1 < bankSize) && c.2 != 0
  | c :: d :: l => decide (c.1 < d.1) && c.2 != 0 && cellsWf (d :: l)

/-- Store consecutive bytes from an address on. -/
def cellsPut (a : Nat) : List Byte → List Host.Cell → List Host.Cell
  | [], l => l
  | b :: bs, l => cellsPut (a + 1) bs (cellsSet a b l)

/-- n consecutive bytes from address a on, for a list whose entries lie at a or above. -/
def cellsDense (a : Nat) : Nat → List Host.Cell → List Byte
  | 0, _ => []
  | _ + 1, [] => []
  | n + 1, c :: l => if c.1 = a then c.2 :: cellsDense (a + 1) n l else 0 :: cellsDense (a + 1) n (c :: l)

/-- The first n bytes of a bank. -/
def cellsBytes (n : Nat) (l : List Host.Cell) : List Byte :=
  let d := cellsDense 0 n l
  d ++ List.replicate (n - d.length) 0

/-- The whole bank with bytes below n cleared: the header word of R122 and R135 is the first 32-byte word. -/
def cellsClearBelow (n : Nat) (l : List Host.Cell) : List Host.Cell := l.filter fun c => decide (n ≤ c.1)

/-- A bank's byte store is canonical. -/
def Bank.wf (b : Bank) : Bool := cellsWf b.cells

/-! The commit journal -/

/-- A state byte of a journal word: the code times 0x11 (R128). -/
def BankState.byte (b : BankState) : Byte := BitVec.ofNat 8 (b.code * 0x11)

/-- A key slot byte: 0xFF when unsigned (R128). -/
def slotByte (k : Option Nat) : Byte := BitVec.ofNat 8 (k.getD 0xFF)

/-- Bytes 0 to 27 of a journal word (R128). -/
def JWord.body (w : JWord) : List Byte :=
  bytesOf 4 w.seq ++ [w.st0.byte, w.st1.byte, slotByte w.slot0, slotByte w.slot1] ++ bytesOf 4 w.ver0 ++ bytesOf 4 w.ver1 ++
    bytesOf 4 w.elapsed ++ bytesOf 4 w.limit ++ [0, 0, 0, 0]

/-- The 32 bytes of a journal word: the body and its CRC-32 (R128). -/
def JWord.bytes (w : JWord) : List Byte := w.body ++ bytesOf 4 (crc32 w.body)

/-- The state that a byte stands for: a multiple of 0x11 up to 0x77 (R128). -/
def stateOf (b : Byte) : Option BankState :=
  [BankState.empty, .writing, .verified, .pending, .trial, .active, .previous, .invalid].find? fun x => x.byte == b

/-- The journal word that 32 bytes hold; none unless the CRC-32 matches and both state bytes are valid (R128). -/
def JWord.read (l : List Byte) : Option JWord :=
  let slot (o : Nat) : Option Nat := if numAt l o 1 = 0xFF then none else some (numAt l o 1)
  if numAt l 28 4 ≠ crc32 (slice 0 28 l) then none
  else match stateOf (l.getD 4 0), stateOf (l.getD 5 0) with
    | some a, some b =>
      some { seq := numAt l 0 4, st0 := a, st1 := b, slot0 := slot 6, slot1 := slot 7, ver0 := numAt l 8 4, ver1 := numAt l 12 4
             elapsed := numAt l 16 4, limit := numAt l 20 4 }
    | _, _ => none

/-- J1 governs: it is valid and J0 is not, or its JSEQ is the higher (R128). -/
def CfgS.j1Governs (c : CfgS) : Bool :=
  match c.j0, c.j1 with
  | some a, some b => decide (a.seq < b.seq)
  | none, some _ => true
  | _, none => false

/-- The governing journal word; none when neither is valid (R128). -/
def CfgS.governing (c : CfgS) : Option JWord := if c.j1Governs then c.j1 else c.j0

/-- JSEQ of the governing word. -/
def CfgS.jseq (c : CfgS) : Nat := (c.governing.map (·.seq)).getD 0

/-- The elapsed count at the last checkpoint in the journal (R131). -/
def CfgS.trialSaved (c : CfgS) : Nat := (c.governing.map (·.elapsed)).getD 0

/-- The journal word of the present states with a number (R128). -/
def CfgS.jword (c : CfgS) (seq : Nat) : JWord :=
  { seq := seq, st0 := c.bank0.state, st1 := c.bank1.state, slot0 := c.bank0.slot, slot1 := c.bank1.slot
    ver0 := c.bank0.ver, ver1 := c.bank1.ver, elapsed := c.trialElapsed, limit := c.trialLimit }

/-- One journal word write (R128): what f changes goes into the word that does not hold the higher JSEQ, with JSEQ one greater. -/
def CfgS.journal (f : CfgS → CfgS) (c : CfgS) : CfgS :=
  let d := f c
  let w := d.jword ((d.jseq + 1) % 2 ^ 32)
  { d with j0 := if d.j1Governs then some w else if d.j0.isNone then some w else d.j0
           j1 := if d.j1Governs || d.j0.isNone then d.j1 else some w }

/-- What a bank takes from the governing word at start (R128, R136): a bank found WRITING counts as INVALID. -/
def Bank.found (b : Bank) (st : BankState) (slot : Option Nat) (ver : Nat) : Bank :=
  { b with state := if st = .writing then .invalid else st, slot := slot, ver := ver }

/-- The journal as the start finds it (R128): the word with the higher JSEQ governs; without a valid word both banks count as
INVALID. -/
def CfgS.fromJournal (c : CfgS) : CfgS :=
  match c.governing with
  | some w =>
    { c with bank0 := c.bank0.found w.st0 w.slot0 w.ver0, bank1 := c.bank1.found w.st1 w.slot1 w.ver1
             trialElapsed := w.elapsed, trialLimit := w.limit }
  | none => { c with bank0 := { c.bank0 with state := .invalid }, bank1 := { c.bank1 with state := .invalid } }

end Sys2Proof.Machine
end

