-- ==== Sys2Proof/Machine/Crypto.lean ====
section
/-! DEFINITION. The standard algorithms that the image's checks name: SHA-256 (R110, R116) and ECDSA over P-256 (R110,
R111). Their content is the standards' (FIPS 180-4, FIPS 186), not the manual's: PRESUMED, log entry 17. -/

namespace Sys2Proof.Machine

/-- The primes below 312, of which there are 64: none has a divisor of at most 17 but itself. -/
def smallPrimes : List Nat :=
  (List.range' 2 310).filter fun p => (List.range' 2 16).all fun d => p % d != 0 || d == p

/-- The greatest r below 2^k with r to the power e at most x, bit by bit above r0. -/
def rootFrom (e x : Nat) : Nat → Nat → Nat
  | 0, r0 => r0
  | k + 1, r0 => rootFrom e x k (if (r0 + 2 ^ k) ^ e ≤ x then r0 + 2 ^ k else r0)

/-- The first 32 fractional bits of the e-th root of n. -/
def rootFraction (e n : Nat) : Word := BitVec.ofNat 32 (rootFrom e (n * 2 ^ (32 * e)) 38 0)

/-- The eight working words of the digest. -/
structure ShaVars where
  a : Word
  b : Word
  c : Word
  d : Word
  e : Word
  f : Word
  g : Word
  h : Word
  deriving DecidableEq, Repr

/-- The words in order. -/
def ShaVars.words (v : ShaVars) : List Word := [v.a, v.b, v.c, v.d, v.e, v.f, v.g, v.h]

/-- The working words from a list of eight. -/
def shaVarsOf (l : List Word) : ShaVars :=
  let n (i : Nat) : Word := l.getD i 0
  ⟨n 0, n 1, n 2, n 3, n 4, n 5, n 6, n 7⟩

/-- The exclusive or of three rotations to the right; a shift in place of the last one where its flag is set. -/
def mixBits (x : Word) (i j k : Nat) (shift : Bool) : Word :=
  x.rotateRight i ^^^ x.rotateRight j ^^^ (if shift then x >>> k else x.rotateRight k)

/-- One round with a constant and a word of the schedule. -/
def ShaVars.round (v : ShaVars) (k w : Word) : ShaVars :=
  let pick := v.g ^^^ (v.e &&& (v.f ^^^ v.g))
  let most := (v.a &&& v.b) ||| (v.c &&& (v.a ||| v.b))
  let t := v.h + mixBits v.e 6 11 25 false + pick + k + w
  { a := t + mixBits v.a 2 13 22 false + most, b := v.a, c := v.b, d := v.c, e := v.d + t, f := v.e, g := v.f, h := v.g }

/-- The sixteen words of the schedule from the next round on. -/
def slideWords (w : List Word) : List Word :=
  let n (i : Nat) : Word := w.getD i 0
  w.drop 1 ++ [n 0 + mixBits (n 1) 7 18 3 true + n 9 + mixBits (n 14) 17 19 10 true]

/-- The rounds with the constants that remain, on the sixteen words of the schedule from here. -/
def shaRounds : List Word → List Word → ShaVars → ShaVars
  | [], _, v => v
  | k :: ks, w, v => shaRounds ks (slideWords w) (v.round k (w.headD 0))

/-- The digest so far takes one block of sixteen words. -/
def ShaVars.absorb (v : ShaVars) (consts block : List Word) : ShaVars :=
  shaVarsOf (((shaRounds consts block v).words.zip v.words).map fun x => x.1 + x.2)

/-- The words of a padded message in blocks of sixteen; n bounds their number. -/
def blocks16 : Nat → List Word → List (List Word)
  | 0, _ => []
  | n + 1, l => l.take 16 :: blocks16 n (l.drop 16)

/-- SHA-256 of a byte sequence: the constants are the fractions of the cube roots of the first 64 primes, the start the
fractions of the square roots of the first 8. -/
def sha256 (m : List Byte) : List Byte :=
  let padded := m ++ [0x80] ++ List.replicate ((119 - m.length % 64) % 64) 0 ++ bytesOf 8 (8 * m.length)
  let consts := smallPrimes.map (rootFraction 3)
  let start := shaVarsOf ((smallPrimes.take 8).map (rootFraction 2))
  (((blocks16 (padded.length / 64) (wordsOf padded)).foldl (fun v b => v.absorb consts b) start).words).flatMap wordBytes

/-- The prime of P-256. -/
def p256 : Nat := 0xffffffff00000001000000000000000000000000ffffffffffffffffffffffff

/-- The order of the base point of P-256. -/
def n256 : Nat := 0xffffffff00000000ffffffffffffffffbce6faada7179e84f3b9cac2fc632551

/-- The coefficient b of P-256. -/
def b256 : Nat := 0x5ac635d8aa3a93e7b3ebbd55769886bc651d06b0cc53b0f63bce3c3e27d2604b

/-- The base point of P-256. -/
def g256 : Nat × Nat :=
  (0x6b17d1f2e12c4247f8bce6e563a440f277037d812deb33a0f4a13945d898c296,
   0x4fe342e2fe1a7f9b8ee7eb4a7c0f9e162bce33576b315ececbb6406837bf51f5)

/-- x to the power e modulo m, over k bits of e. -/
def powMod (m : Nat) : Nat → Nat → Nat → Nat
  | 0, _, _ => 1 % m
  | k + 1, x, e =>
    let r := powMod m k (x * x % m) (e / 2)
    if e % 2 = 1 then x * r % m else r

/-- Inverse modulo a prime. -/
def invMod (m x : Nat) : Nat := powMod m 256 (x % m) (m - 2)

/-- Difference modulo m. -/
def subMod (m a b : Nat) : Nat := (a + (m - b % m)) % m

/-- Point addition on P-256; none is the point at infinity. -/
def ecAdd : Option (Nat × Nat) → Option (Nat × Nat) → Option (Nat × Nat)
  | none, q => q
  | p, none => p
  | some (x1, y1), some (x2, y2) =>
    if x1 = x2 ∧ (y1 + y2) % p256 = 0 then none
    else
      let l := if x1 = x2 then (3 * x1 * x1 + (p256 - 3)) * invMod p256 (2 * y1) % p256
        else subMod p256 y2 y1 * invMod p256 (subMod p256 x2 x1) % p256
      let x3 := subMod p256 (l * l % p256) (x1 + x2)
      some (x3, subMod p256 (l * subMod p256 x1 x3 % p256) y1)

/-- k times a point, over the bits of k. -/
def ecMul : Nat → Nat → Option (Nat × Nat) → Option (Nat × Nat)
  | 0, _, _ => none
  | n + 1, k, p =>
    let r := ecMul n (k / 2) (ecAdd p p)
    if k % 2 = 1 then ecAdd p r else r

/-- The signature (r, s) of the hash z verifies under the public key (x, y): ECDSA over P-256 (R110, R111). -/
def ecdsaVerify (z r s x y : Nat) : Bool :=
  let w := invMod n256 s
  decide (1 ≤ r ∧ r < n256 ∧ 1 ≤ s ∧ s < n256 ∧ x < p256 ∧ y < p256 ∧
    y * y % p256 = (x * x * x + (p256 - 3) * x + b256) % p256) &&
  (match ecAdd (ecMul 256 (z * w % n256) (some g256)) (ecMul 256 (r * w % n256) (some (x, y))) with
    | some (px, _) => px % n256 == r
    | none => false)

end Sys2Proof.Machine
end

