-- ==== Sys2Proof/Machine/Image.lean ====
section
/-! DEFINITION. The configuration image as bytes: header, directory, parameter records, and the checks of VERIFY (R109-R116,
R125, R539). -/

namespace Sys2Proof.Machine

/-- What fails a check: RESULT, and CFG_ERR.SECT and OFFSET (R125, R137). -/
structure CfgErr where
  result : Nat
  sect : Nat := 63
  ofs : Nat
  deriving DecidableEq, Repr

/-- A check of step 5 that fails at a header offset or at a parameter's record. -/
structure ImgRule where
  par : Param
  ix : Nat := 0
  ok : Bool
  deriving DecidableEq, Repr

/-- One directory entry (R112). -/
structure DirEnt where
  type : Nat
  fmt : Nat
  ofs : Nat
  len : Nat
  crc : Nat
  deriving DecidableEq, Repr

/-- Highest image format and BCL of the firmware (R17, R112, R113). -/
def fmtMax : Nat := 1
/-- Highest BCL (R17). -/
def bclMax : Nat := 1

/-- The directory entry at index i (R112). -/
def dirEnt (bs : List Byte) (i : Nat) : DirEnt :=
  let o := 256 + 16 * i
  { type := numAt bs o 2, fmt := numAt bs (o + 2) 2, ofs := numAt bs (o + 4) 4, len := numAt bs (o + 8) 4,
    crc := numAt bs (o + 12) 4 }

/-- The eleven directory entries (R112). -/
def dirEnts (bs : List Byte) : List DirEnt := (List.range 11).map (dirEnt bs)

/-- DIGEST over the image (R110). -/
def imgDigest (bs : List Byte) (len : Nat) : List Byte := sha256 (slice 0 32 bs ++ slice 128 (len - 128) bs)

/-- The image is signed (R110). -/
def imgSigned (bs : List Byte) : Bool := (numAt bs 19 1).testBit 0

/-- The signature verifies under PUBKEY (R111). -/
def imgSigOk (bs : List Byte) : Bool :=
  ecdsaVerify (numAt bs 32 32) (numAt bs 64 32) (numAt bs 96 32) (numAt bs 128 32) (numAt bs 160 32)

/-- The hash of PUBKEY that a key slot holds (R116). -/
def imgKeyHash (bs : List Byte) : List Byte := sha256 (slice 128 64 bs)

/-! Parameter records -/

/-- A parameter name as the 24 bytes of NAME (R539). -/
def nameBytes (n : String) : List Byte :=
  let l := n.toList.map fun c => BitVec.ofNat 8 c.toNat
  (l ++ List.replicate 24 0).take 24

/-- The value's length fits its kind (R539). -/
def ParamKind.lenOk : ParamKind → Nat → Bool
  | .num, n => n == 4
  | .wide, n => n == 8
  | .list cols lo hi, n => n % (4 * cols) == 0 && decide (lo ≤ n / (4 * cols) ∧ n / (4 * cols) ≤ hi)
  | .block, n => n == 16

/-- Consecutive signed 4-byte numbers. -/
def numsOf : Nat → List Byte → List Int
  | 0, _ => []
  | k + 1, l => snumOf (slice 0 4 l) :: numsOf k (l.drop 4)

/-- The values of a record (R539): a block keeps its 16 bytes. -/
def ParamKind.values : ParamKind → List Byte → List Int
  | .num, l => numsOf 1 l
  | .wide, l => [snumOf (slice 0 8 l)]
  | .list _ _ _, l => numsOf (l.length / 4) l
  | .block, l => l.map fun b => (b.toNat : Int)

/-- Every value lies in the parameter's range. -/
def ParamRow.inRange (r : ParamRow) (v : List Int) : Bool :=
  match r.kind with
  | .block => true
  | _ => v.all fun x => decide (r.lo ≤ x ∧ x ≤ r.hi)

/-- The record that starts these bytes of a section of the given type, with its length in the section; none when it fails
R539 or its range. -/
def parseRec (sect : Nat) (l : List Byte) : Option (ImgRec × Nat) :=
  match paramRows.find? fun r => r.sect == sect && nameBytes r.name == l.take 24 with
  | none => none
  | some r =>
    let ix := numAt l 24 2
    let len := numAt l 26 2
    let v := r.kind.values (slice 28 len l)
    if r.first ≤ ix ∧ ix ≤ r.last ∧ r.kind.lenOk len ∧ 28 + len ≤ l.length ∧ r.inRange v then
      some ({ par := r.par, index := ix, vals := v }, 28 + len)
    else none

/-- The records of a section from image offset o on, with their offsets; the offset of the first that fails (R539). -/
def parseRecs (sect : Nat) : Nat → Nat → List Byte → List (Nat × ImgRec) → Except Nat (List (Nat × ImgRec))
  | 0, o, l, acc => if l.isEmpty then .ok acc else .error o
  | k + 1, o, l, acc =>
    if l.isEmpty then .ok acc
    else match parseRec sect l with
      | some (r, n) =>
        if acc.any fun x => x.2.par = r.par && x.2.index == r.index then .error o
        else parseRecs sect k (o + n) (l.drop n) (acc ++ [(o, r)])
      | none => .error o

/-- The records of the section that an entry describes. -/
def sectRecs (bs : List Byte) (e : DirEnt) : Except Nat (List (Nat × ImgRec)) :=
  parseRecs e.type (e.len / 28 + 1) e.ofs (slice e.ofs e.len bs) []

/-- A parameter of the section that has no default and does not appear for one of its items (R539). -/
def missingParam (sect : Nat) (l : List (Nat × ImgRec)) : Bool :=
  paramRows.any fun r => r.sect == sect && r.dflt.isNone &&
    (List.range' r.first (r.last + 1 - r.first)).any fun i => !(l.any fun x => x.2.par = r.par && x.2.index == i)

/-- The header fields and records as the loader keeps them (R36, R110). -/
def imageOf (bs : List Byte) : Image :=
  { fmt := numAt bs 4 2, bcl := numAt bs 6 2, ver := numAt bs 8 4, addr := BitVec.ofNat 16 (numAt bs 16 2),
    role := BitVec.ofNat 2 (numAt bs 18 1), trialS := numAt bs 22 2, sysTag := slice 24 8 bs, digest := slice 32 32 bs
    recs := (dirEnts bs).flatMap fun e => match sectRecs bs e with
      | .ok l => l.map (·.2)
      | .error _ => [] }

/-! Rules of content (step 5) -/

/-- A state that has only the image: the definitions that read an image can then be used on it. -/
def Image.probe (g : Image) : State := { cfg := { image := some g } }

/-- A list rises strictly. -/
def rising : List Int → Bool
  | a :: b :: l => decide (a < b) && rising (b :: l)
  | _ => true

/-- POP: a whole segment is unpopulated only when every segment above it is (R54); thermistor tables (R166). -/
def Image.rulesPop (g : Image) : List ImgRule :=
  let segPop (k : Nat) : Bool := (List.range 24).any fun i => g.num .CELL (24 * k + i + 1) != 0
  let used (t : Nat) : Bool := (List.range 32).any fun i => g.num .THM_TAB (i + 1) == (t : Int)
  (List.range 3).map (fun k => { par := .CELL, ix := 24 * k + 1, ok := segPop k || !(segPop (k + 1)) }) ++
  [{ par := .ISO_TRIP, ok := decide (g.num .ISO_TRIP < g.num .ISO_WARN) }] ++
  (List.range 4).map fun t =>
    let p := g.points .TAB t
    { par := .TAB, ix := t
      ok := if p.isEmpty then !used t
        else rising (p.map (·.1)) && rising (p.map fun x => -x.2) &&
          p.all (fun x => decide (0 ≤ x.1 ∧ x.1 ≤ 65535 ∧ -32768 ≤ x.2 ∧ x.2 ≤ 32767)) &&
          decide (15000 ≤ ((p.head?.map (·.2)).getD 0) ∧ ((p.getLast?.map (·.2)).getD 0) ≤ -5000) }

/-- BEAT: the window rules (R90). Ends are in units of 0.5 µs. -/
def Image.rulesBeat (g : Image) : List ImgRule :=
  let en (w : Nat) : Bool := g.num .EN w != 0
  let s (w : Nat) : Nat := 2 * (g.num .OFS w).toNat
  let e (w : Nat) : Nat := s w + 125 * (g.num .LEN w).toNat
  let share (a b : Nat) : Bool := (g.num .GROUP a).toNat &&& (g.num .GROUP b).toNat != 0
  (List.range 4).map fun w =>
    { par := .OFS, ix := w
      ok := !en w || (decide (e w ≤ 2000) && (List.range w).all fun v =>
        !en v || !share v w || ((decide (e v ≤ s w) || decide (e w ≤ s v)) && (decide (e v ≤ 1500) == decide (e w ≤ 1500)))) }

/-- THRESH: ordered pairs (R298), group thresholds (R381), the contactor roles of a Master (R307), thermistors assigned to groups 0 to 3
or to none (R380, R389). -/
def Image.rulesThresh (g : Image) : List ImgRule :=
  let n (p : Param) : Int := g.num p
  let outs (r : Int) : Nat := ((List.range 8).filter fun k => g.num .ROLE (k + 1) == r).length
  [{ par := .OV_TRIP, ok := decide (n .OV_LIM ≤ n .OV_TRIP) },
   { par := .UV_TRIP, ok := decide (n .UV_TRIP ≤ n .UV_LIM) },
   { par := .OT_TRIP, ok := decide (n .OT_LIM < n .OT_TRIP) },
   { par := .UT_TRIP, ok := decide (n .UT_TRIP < n .UT_LIM) },
   { par := .PC_TMIN, ok := decide (n .PC_TMIN ≤ n .PC_TMAX) },
   { par := .ROLE, ix := 1, ok := decide (g.role.toNat < 2) || (outs 1 == 1 && outs 2 == 1 && outs 3 == 1) }] ++
  (List.range 6).map (fun k =>
    { par := .TW_g, ix := k
      ok := decide (g.num .TW_g k ≤ g.num .TT_g k ∧ g.num .TT_g k < g.num .TS_g k ∧
        g.num .HYS_g k < g.num .TS_g k - g.num .TT_g k) }) ++
  (List.range 32).map fun i => { par := .GRP, ix := i + 1, ok := [0, 1, 2, 3, 15].contains (g.num .GRP (i + 1)) }

/-- Greatest index of a selector class (R323). -/
def selMax : Nat → Option Nat
  | 0 => some 1
  | 1 => some 255
  | 2 => some 255
  | 3 => some 14
  | 4 => some 3
  | 5 => some 7
  | 6 => some 5
  | 7 => some 127
  | 8 => some 7
  | 9 => some 63
  | 10 => some 10
  | 11 => some 17
  | 12 => some 255
  | _ => none

/-- One input selector of block i is permitted (R323-R325): input j of a block of this type. -/
def selOk (fastAt : Nat → Bool) (i : Nat) (b : EscBlk) (j x : Nat) : Bool :=
  if selUnused x then true
  else
    let c := selClass x
    let y := selIndex x
    (match selMax c with
      | some m => decide (y ≤ m)
      | none => false) &&
    (c != 1 || decide (y < i)) && (c != 10 || (b.type == 4 && j == 0)) &&
    (!b.fast || c == 0 || c == 11 || ((c == 1 || c == 2) && fastAt y))

/-- Parameters and inputs of a block are permitted (R322-R325). -/
def blkOk (fastAt : Nat → Bool) (i : Nat) (v : List Int) : Bool :=
  let b := EscBlk.parse v
  decide ((v.getD 0 0) ≤ 7 ∧ (v.getD 1 0) < 32) &&
  (match b.type with
    | 3 => decide (1 ≤ b.pa ∧ b.pa ≤ 4)
    | 4 => selClass (b.ins.getD 0 0) == 10 && !selUnused (b.ins.getD 0 0)
    | 5 => decide (0 ≤ b.pb ∧ b.pb ≤ 65535)
    | 7 => decide (1 ≤ b.pa ∧ b.pa ≤ 15 ∧ 0 ≤ b.pb ∧ b.pb ≤ 65535)
    | _ => true) &&
  (indexed b.ins).all fun x => selOk fastAt i b x.1 x.2

/-- Blocks reached from a set of blocks through classes 1 and 2, over k rounds (R302, R328). -/
def reach (blkAt : Nat → EscBlk) : Nat → List Nat → List Nat
  | 0, l => l
  | k + 1, l =>
    let next := (l ++ l.flatMap fun i => (blkAt i).ins.filterMap fun x =>
      if !selUnused x && (selClass x == 1 || selClass x == 2) then some (selIndex x) else none).eraseDups
    if next.length = l.length then l else reach blkAt k next

/-- The trip conditions of R296, as bits of PROT_COND. DESIGN CHOICE (log entry 107): those of the pre-charge (bit 10, resistor
shorted; bit 11, timeout), which the table of R296 does not name apart, are among them. -/
def tripBits : List Nat := [0, 1, 2, 3, 4, 5, 6, 8, 9, 10, 11, 12, 13, 14]

/-- ESC: the graph and its outputs (R302, R322-R326). -/
def Image.rulesEsc (g : Image) : List ImgRule :=
  let blks := g.recs.filter fun r => r.par = .BLOCK
  let blkAt (i : Nat) : EscBlk := ((blks.find? fun r => r.index == i).map fun r => EscBlk.parse r.vals).getD {}
  let fastAt (i : Nat) : Bool := (blkAt i).fast
  let out (p : Param) (must beat fast : Bool) : ImgRule :=
    let x := (g.num p).toNat
    { par := p
      ok := if selUnused x then !must
        else match selClass x with
          | 0 => decide (selIndex x ≤ 1)
          | 1 => if fastAt (selIndex x) then fast else beat
          | _ => false }
  let from_ (p : Param) : List Nat :=
    let x := (g.num p).toNat
    if !selUnused x && selClass x == 1 then reach blkAt 256 [selIndex x] else []
  let conds := (from_ .SAFE_REQ ++ from_ .OPEN_REQ).flatMap fun i => (blkAt i).ins.filterMap fun x =>
    if !selUnused x && selClass x == 3 then some (selIndex x) else none
  blks.map (fun r => { par := .BLOCK, ix := r.index, ok := blkOk fastAt r.index r.vals }) ++
  [out .OPEN_REQ true true false, out .SAFE_REQ true true false, out .CLOSE_PERMIT true true false,
   out .FAST_TRIP false false true, out .NFLT false true false, out .INH false true false] ++
  outParams.map (fun p => out p false true true) ++
  [{ par := .SAFE_REQ, ok := tripBits.all conds.contains }]

/-- EST: slots and edges (R223, R225), the thermistor map, curves (R250, R280, R283, R245), levels (R250, R280). -/
def Image.rulesEst (g : Image) : List ImgRule :=
  let n (p : Param) : Int := g.num p
  let f (k : Nat) : Nat := (g.num .FREQ k).toNat
  let s := g.probe
  let slot (k : Nat) : ImgRule :=
    { par := .FREQ, ix := k
      ok := f k == 0 || (decide (500 ≤ f k) && (List.range k).all (fun j => f j == 0 || s.slotH j != s.slotH k) &&
        (g.num .IMP_SRC k != 1 || n .EXC_EN != 0) && (g.num .IMP_SRC k != 2 || n .IMP_REQ_AMP != 0)) }
  let ocv := g.points .OCV_CURVE
  let td (p : Param) : ImgRule :=
    { par := p, ok := rising ((g.points p).map (·.1)) && (g.points p).all fun x => decide (0 ≤ x.2 ∧ x.2 ≤ 1000) }
  (List.range 4).map slot ++
  [{ par := .E1, ok := rising ([Param.E1, .E2, .E3, .E4, .E5, .E6, .E7].map n) },
   { par := .CELL_THERMISTOR_MAP
     ok := (List.range 96).all fun i => g.num .CELL (i + 1) == 0 || (g.list .CELL_THERMISTOR_MAP).getD i 0 != 0 },
   { par := .DEFAULT_IMPEDANCE_TABLE
     ok := (g.points .DEFAULT_IMPEDANCE_TABLE).all fun x => decide (0 ≤ x.1 ∧ -18000 < x.2 ∧ x.2 ≤ 18000) },
   { par := .TINT
     ok := rising ((g.points .TINT).map (·.1)) && (n .IMP_TSLOT == 4 || decide (2 ≤ (g.points .TINT).length)) },
   { par := .V_EMPTY, ok := decide (n .V_EMPTY < n .V_FULL) },
   { par := .OCV_CURVE
     ok := rising (ocv.map (·.1)) && rising (ocv.map (·.2)) &&
      decide (((ocv.head?.map (·.2)).getD 1) ≤ 0 ∧ 100000 ≤ ((ocv.getLast?.map (·.2)).getD 0)) },
   { par := .V_DLIM, ok := decide (n .V_DLIM < n .V_EMPTY ∧ n .V_DLIM < n .V_CLIM) },
   { par := .V_CLIM, ok := decide (n .V_FULL ≤ n .V_CLIM) },
   { par := .KH10, ok := decide (n .KH2 ≤ n .KH10 ∧ n .KH10 ≤ n .KH30) }, td .TD_CHG, td .TD_DIS]

/-- BAL: OFF_DELTA below ON_DELTA (R540). -/
def Image.rulesBal (g : Image) : List ImgRule := [{ par := .OFF_DELTA, ok := decide (g.num .OFF_DELTA < g.num .ON_DELTA) }]

/-- L in units of 8 ns at a beat with this SBN and the unit at index m of RING_ORDER as active Master (R401, R402). -/
def Image.phaseLen (g : Image) (sbn m : Nat) : Nat :=
  let h := (g.list .RING_ORDER).length
  ((List.range h).map fun q =>
    if q = m then 0
    else
      let d := (g.num .DIV q).toNat
      let d := if 192 < h && d == 1 then 2 else d
      if (sbn + q) % d = 0 then 452 else 164).sum

/-- RING: RING_ORDER (R38, R397), dividers, the report phase of the unit's own string with itself as active Master (R402). -/
def Image.rulesRing (g : Image) : List ImgRule :=
  let l := g.list .RING_ORDER
  let own : Int := g.addr.toNat
  let m := (positions (fun x => x == own) l).headD 0
  (List.range 256).map (fun q =>
    { par := .DIV, ix := q, ok := [1, 2, 4, 8, 16, 32, 64].contains (g.num .DIV q) }) ++
  [{ par := .RING_ORDER, ok := l.eraseDups.length == l.length && l.contains own && l.all fun a => a / 256 == own / 256 },
   { par := .RING_ORDER
     ok := decide (g.role.toNat < 2) || (List.range 64).all fun b =>
       decide (125 * g.probe.reportStart + g.phaseLen b m ≤ 125 * 841) }]

/-- Bytes of a DLC code in an FD frame (ISO 11898-1). -/
def fdBytes (d : Nat) : Nat := [0, 1, 2, 3, 4, 5, 6, 7, 8, 12, 16, 20, 24, 32, 48, 64].getD d 0

/-- Worst-case length of a frame in CLK_BUS cycles, intermission included (R450; the frame layouts and the stuffing are
those of ISO 11898-1:2015: PRESUMED, log entry 17). Format 0 classical, 1 FD, 2 FD with BRS; nom and dat are bit times. -/
def canFrameLen (fmt : Nat) (ide : Bool) (dlc nom dat : Nat) : Nat :=
  if fmt = 0 then
    let n := min dlc 8
    let stuffed := (if ide then 54 else 34) + 8 * n
    nom * (stuffed + (stuffed - 1) / 4 + 13)
  else
    let n := fdBytes dlc
    let head := if ide then 36 else 17
    let nomBits := head + (head - 1) / 4 + 12
    let dyn := 5 + 8 * n
    let datBits := dyn + dyn / 4 + 4 + (if n ≤ 16 then 17 + 6 else 21 + 7) + 1
    nom * nomBits + (if fmt = 2 then dat else nom) * datBits

/-- An object that is queued in the beats n with n mod per = ph, and its length. -/
structure CanLoad where
  per : Nat
  ph : Nat
  len : Nat
  deriving DecidableEq, Repr

/-- Two objects can fall due in one beat: their congruences have a common solution. -/
def CanLoad.meets (a b : CanLoad) : Bool := a.ph % Nat.gcd a.per b.per == b.ph % Nat.gcd a.per b.per

/-- The greatest sum of lengths that can fall due in one beat together with the objects chosen so far; objects that fall due
together pairwise fall due together in some beat. -/
def maxLoad : List CanLoad → List CanLoad → Nat
  | [], _ => 0
  | x :: l, chosen =>
    if chosen.all x.meets then
      let take := x.len + maxLoad l (x :: chosen)
      if l.all x.meets then take else max take (maxLoad l chosen)
    else maxLoad l chosen

/-- Bit times of a port in CLK_BUS cycles (R431). -/
def Image.nomBit (g : Image) (port : Nat) : Nat := (g.num .BRP port * (1 + g.num .TSEG1 port + g.num .TSEG2 port)).toNat
/-- Data-phase bit time (R431). -/
def Image.datBit (g : Image) (port : Nat) : Nat := (g.num .DBRP port * (1 + g.num .DTSEG1 port + g.num .DTSEG2 port)).toNat

/-- The transmit objects of a port that are queued at boundaries (R435, R444, R450). -/
def Image.loads (g : Image) (port : Nat) : List CanLoad :=
  (List.range 128).filterMap fun k =>
    let i := objIndex port k
    let v (p : Param) : Nat := (g.num p i).toNat
    let cont := v .CONT
    let per := g.objPar .PER port k
    if !g.objUsed port k || v .DIR != 1 || (per == 0 && cont != 4 && cont != 6) then none
    else some { per := if cont = 4 ∨ cont = 6 then 1 else per, ph := if cont = 4 ∨ cont = 6 then 0 else g.objPar .PHASE port k
                len := canFrameLen (g.objPar .FMT port k) (v .IDE == 1) (g.objDlc port k) (g.nomBit port) (g.datBit port) }

/-- One object's own rules (R434); DIR 1 transmits (R452). -/
def Image.objOk (g : Image) (port k : Nat) : Bool :=
  let i := objIndex port k
  let v (p : Param) : Nat := (g.num p i).toNat
  !g.objUsed port k ||
    ((v .IDE == 1 || decide (g.objId port k < 2048)) &&
     (g.objPar .PER port k == 0 || decide (g.objPar .PHASE port k < g.objPar .PER port k)) &&
     (v .DIR == 1 || !([2, 3, 4, 5].contains (v .CONT))) &&
     (v .DIR == 1 || (List.range k).all fun j => !g.objUsed port j || g.num .DIR (objIndex port j) != 0 ||
       g.objId port j != g.objId port k || g.num .IDE (objIndex port j) != g.num .IDE i))

/-- The format and the DLC of a telegram's object (R447): FD or FD with BRS, and a DLC of its own only as the length gives it. -/
def Image.telObjOk (g : Image) (l port k : Nat) : Bool :=
  let i := objIndex port k
  (g.objPar .FMT port k == 1 || g.objPar .FMT port k == 2) &&
    (!g.has .DLC i || g.num .DIR i == 0 || lenDlc l == some (g.num .DLC i).toNat)

/-- One telegram's rules (R447): its length, CMD content only where a Monitor does not run, its direction, one object on each
port. -/
def Image.telOk (g : Image) (t : Nat) : Bool :=
  let l := (g.num .L t).toNat
  let objs (port : Nat) : List Nat := (List.range 128).filter fun k => g.objUsed port k && g.objTel port k == some t
  !g.has .L t || ((match decide (t < 64), (g.num .TCONT t).toNat with
      | true, 1 => l == 64
      | true, 2 => l == 24
      | false, 0 => [16, 20, 24, 32, 48, 64].contains l
      | false, 1 => l == 16 && g.role.toNat != 1
      | _, _ => false) && (!g.telHas .DIR t || g.num .DIR t == ((1 - t / 64 : Nat) : Int)) &&
    [1, 2].all fun port => (objs port).length == 1 && (objs port).all (g.telObjOk l port))

/-- CAN: bit timing (R431), objects (R434), time triggering (R443), telegrams (R447), load (R450). -/
def Image.rulesCan (g : Image) : List ImgRule :=
  let n (p : Param) (i : Nat) : Int := g.num p i
  ([1, 2].flatMap fun port =>
    [{ par := .BRP, ix := port
       ok := decide (80 ≤ g.nomBit port ∧ 10 ≤ g.datBit port ∧ g.datBit port ≤ g.nomBit port ∧
        n .SJW port ≤ n .TSEG2 port ∧ n .DSJW port ≤ n .DTSEG2 port) &&
        (n .TRIPLE port == 0 || decide (640 ≤ g.nomBit port ∧ 3 ≤ n .TSEG1 port)) }] ++
    (List.range 128).map (fun k => { par := .ID, ix := objIndex port k, ok := g.objOk port k }) ++
    [{ par := .PER, ix := objIndex port 0, ok := decide (maxLoad (g.loads port) [] ≤ 56000) }]) ++
  [{ par := .TT_ROLE, ok := !(n .TT_ROLE 0 == 2 && n .SRC_SEL 0 == 2) && (n .SRC_SEL 0 != 2 || n .TT_ROLE 0 == 1) }] ++
  (List.range 128).map fun t => { par := .L, ix := t, ok := g.telOk t }

/-- FLT: BLKRST only for the sources of R372. -/
def Image.rulesFlt (g : Image) : List ImgRule :=
  [Param.REACT_EV, .REACT_SEV].flatMap fun p => (List.range 128).map fun fs =>
    { par := p, ix := fs, ok := !((g.num p fs).toNat.testBit reactBlk) || !(blocksOf fs 1).isEmpty }

/-- Every rule that the chapters state for image content, in section order. -/
def Image.rules (g : Image) : List ImgRule :=
  g.rulesPop ++ g.rulesBeat ++ g.rulesThresh ++ g.rulesEsc ++ g.rulesEst ++ g.rulesBal ++ g.rulesRing ++ g.rulesCan ++ g.rulesFlt

/-! VERIFY -/

/-- Step 1 (R125): MAGIC, IMG_LEN, every word written since OPEN. -/
def verify1 (bs : List Byte) (written : List Nat) : Option CfgErr :=
  let len := numAt bs 12 4
  if numAt bs 0 4 ≠ 0x4E4D3936 then some { result := 7, ofs := 0 }
  else if len % 32 ≠ 0 ∨ len < 448 ∨ 262144 < len then some { result := 7, ofs := 12 }
  else ((List.range (len / 32)).find? fun w => !written.contains w).map fun w => { result := 7, ofs := 32 * w }

/-- Steps 2 and 3 (R113, R114, R125). -/
def verify23 (bs : List Byte) (openVer : Nat) : Option CfgErr :=
  if numAt bs 4 2 < 1 ∨ fmtMax < numAt bs 4 2 then some { result := 13, ofs := 4 }
  else if numAt bs 6 2 < 1 ∨ bclMax < numAt bs 6 2 then some { result := 13, ofs := 6 }
  else if numAt bs 8 4 ≤ openVer then some { result := 12, ofs := 8 }
  else none

/-- The first directory entry that fails step 4, with the offset that fails (R109, R112). -/
def verify4 (bs : List Byte) (len : Nat) : Option CfgErr :=
  let es := dirEnts bs
  let bad (i : Nat) : Option CfgErr :=
    let e := dirEnt bs i
    let at_ := 256 + 16 * i
    let meets (f : DirEnt) : Bool := decide (e.ofs < f.ofs + f.len ∧ f.ofs < e.ofs + e.len)
    if e.type < 1 ∨ 11 < e.type ∨ (es.take i).any (fun f => f.type == e.type) then some { result := 8, sect := i, ofs := at_ }
    else if e.fmt ≠ 1 then some { result := 8, sect := i, ofs := at_ }
    else if e.ofs % 32 ≠ 0 ∨ e.ofs < 432 ∨ len < e.ofs + e.len ∨ (es.take i).any meets then
      some { result := 8, sect := i, ofs := at_ + 4 }
    else if crc32 (slice e.ofs e.len bs) ≠ e.crc then some { result := 8, sect := i, ofs := e.ofs }
    else none
  if numAt bs 20 2 ≠ 11 then some { result := 8, ofs := 20 } else (List.range 11).findSome? bad

/-- The header rules of step 5: reserved bytes, ROLE, FLAGS, TRIAL_S, unsigned fields zero (R110). -/
def verifyHeader (bs : List Byte) : Option CfgErr :=
  let role := numAt bs 18 1
  let trial := numAt bs 22 2
  let zeroFrom := if imgSigned bs then 192 else 64
  if role = 0 ∨ 3 < role then some { result := 8, ofs := 18 }
  else if 1 < numAt bs 19 1 then some { result := 8, ofs := 19 }
  else if trial < 60 ∨ 3600 < trial then some { result := 8, ofs := 22 }
  else ((List.range' zeroFrom (256 - zeroFrom)).find? fun o => numAt bs o 1 != 0).map fun o => { result := 8, ofs := o }

/-- Step 5 (R125, R539): header, records, missing parameters, rules of content. -/
def verify5 (bs : List Byte) : Option CfgErr :=
  let es := indexed (dirEnts bs)
  let recs (e : Nat × DirEnt) : Option CfgErr :=
    match sectRecs bs e.2 with
    | .error o => some { result := 8, sect := e.1, ofs := o }
    | .ok l => if missingParam e.2.type l then some { result := 8, sect := e.1, ofs := e.2.ofs } else none
  let place (r : ImgRule) : CfgErr :=
    let sect := ((paramRow r.par).map (·.sect)).getD 0
    match es.find? fun e => e.2.type == sect with
    | none => { result := 8, ofs := 0 }
    | some e =>
      let o := match sectRecs bs e.2 with
        | .ok l => ((l.find? fun x => x.2.par = r.par && x.2.index == r.ix).map (·.1)).getD e.2.ofs
        | .error o => o
      { result := 8, sect := e.1, ofs := o }
  match verifyHeader bs with
  | some e => some e
  | none => match es.findSome? recs with
    | some e => some e
    | none => ((imageOf bs).rules.find? fun r => !r.ok).map place

/-- The key state permits the image (R116): none when it does, else the RESULT of step 7. -/
def keyResult (keys : List (List Byte)) (bs : List Byte) : Option Nat :=
  if !imgSigned bs then (if keys.isEmpty then none else some 11)
  else if !imgSigOk bs then some 10
  else match keys.getLast? with
    | none => none
    | some k => if imgKeyHash bs = k then none else some 11

/-- The slot under which an accepted image is recorded (R116, R118): the governing slot when signed. DESIGN CHOICE (log entry 108): a
signed image that is accepted while no slot is programmed has none (0xFF), because no key has judged it. -/
def acceptSlot (keys : List (List Byte)) (bs : List Byte) : Option Nat :=
  if imgSigned bs && !keys.isEmpty then some (keys.length - 1) else none

/-- The first of two checks that fails. -/
def orErr (a : Option CfgErr) (b : Unit → Option CfgErr) : Option CfgErr :=
  match a with
  | some e => some e
  | none => b ()

/-- VERIFY, steps 1 to 7 in order, stopping at the first failure (R125). -/
def verifyImage (bs : List Byte) (written : List Nat) (openVer : Nat) (keys : List (List Byte)) : Option CfgErr :=
  let len := numAt bs 12 4
  orErr (verify1 bs written) fun _ =>
  orErr (verify23 bs openVer) fun _ =>
  orErr (verify4 bs len) fun _ =>
  orErr (verify5 bs) fun _ =>
  orErr (if imgDigest bs len = slice 32 32 bs then none else some { result := 9, ofs := 32 }) fun _ =>
  (keyResult keys bs).map fun r => { result := r, ofs := if r = 10 then 64 else 128 }

/-- The digest of a stored image still holds (R129, R134). -/
def digestOk (bs : List Byte) : Bool := imgDigest bs (numAt bs 12 4) == slice 32 32 bs

/-- The check at load (R118, R134): the digest, and for a signed image the signature under the slot it was accepted under. -/
def loadOk (bs : List Byte) (slot : Option Nat) (keys : List (List Byte)) : Bool :=
  digestOk bs && (!imgSigned bs || (imgSigOk bs && match slot with
    | none => true
    | some k => keys[k]? == some (imgKeyHash bs)))

end Sys2Proof.Machine
end

