-- ==== Sys2Proof/Machine/Configure.lean ====
section
/-! DEFINITION. The write session, the commands and the bank states of chapter 04, and the crown switches (R62, R117-R135). -/

namespace Sys2Proof.Machine

/-- The bank with this number: false bank 0, true bank 1. -/
def CfgS.bank (c : CfgS) (b : Bool) : Bank := if b then c.bank1 else c.bank0

/-- Replace a bank. -/
def CfgS.setBank (c : CfgS) (b : Bool) (f : Bank → Bank) : CfgS :=
  { c with bank0 := if b then c.bank0 else f c.bank0, bank1 := if b then f c.bank1 else c.bank1 }

/-- Number of a bank in entries and registers. -/
def bankNum (b : Bool) : Nat := if b then 1 else 0

/-- The bank in one of these states, bank 0 first. -/
def CfgS.find (c : CfgS) (l : List BankState) : Option Bool :=
  if l.contains c.bank0.state then some false else if l.contains c.bank1.state then some true else none

/-- The active bank: TRIAL or ACTIVE (R127). -/
def CfgS.active (c : CfgS) : Option Bool := c.find [.trial, .active]

/-- Change the configuration state. -/
def State.setCfg (s : State) (f : CfgS → CfgS) : State := { s with cfg := f s.cfg }

/-- A transition of one bank's state, in one journal write. -/
def State.bankTo (b : Bool) (st : BankState) (s : State) : State :=
  s.setCfg (CfgS.journal fun c => c.setBank b fun x => { x with state := st })

/-- The bank that OPEN takes (R119, R134): the one that is not active; without an image the one that is not PREVIOUS, or
bank 0 when neither is. -/
def State.openBank (s : State) : Bool :=
  match s.cfg.image, s.cfg.active with
  | some _, some a => !a
  | _, _ => s.cfg.bank0.state == .previous

/-- The control plane is Parked for chapter 04 (R119, R134). -/
def State.cfgParked (s : State) : Bool := s.cfg.image.isNone || s.parked

/-- Conditions of R119 that concern the crown switches and the control plane: none when they hold, else RESULT. -/
def State.crownParked (s : State) : Option Nat := if !s.crowns then some 2 else if !s.cfgParked then some 3 else none

/-- The session belongs to the path (R120). -/
def ownedBy (o : Owner) (p : Path) : Bool :=
  match o, p with
  | .host, .host => true
  | .ring, .ring => true
  | _, _ => false

/-- Owner of a session opened on a path (R120). -/
def ownerOf : Path → Owner
  | .host => .host
  | .ring => .ring

/-- The VERIFY and COMMIT work runs on the split checker of CDA when that is free (R126, R355). -/
def State.cfgTask (on : Bool) (s : State) : State :=
  let p := s.core.a
  if on then
    if p.pair = .split ∧ p.task = .none then s.setPair .a fun q => { q with task := .verification } else s
  else if p.task = .verification then s.setPair .a fun q => { q with task := .none } else s

/-- What every command of CFG_CMD shows first (R120, R126, R137): LAST_CMD, and a refusal for the key, BUSY or the other
owner; the orders of these three and of the checks within a command are the model's (log entry 18). -/
def State.cfgRefusal (path : Path) (key : BitVec 8) (s : State) : Option Nat :=
  if key ≠ 0xC3 then some 1
  else if s.cfg.work ≠ .none then some 4
  else if s.cfg.owner ≠ .none ∧ !ownedBy s.cfg.owner path then some 5
  else none

/-- A command: LAST_CMD, then its refusal in RESULT or its effect with RESULT 0 (R129, R137). -/
def State.cfgCommand (path : Path) (key : BitVec 8) (cmd : Nat) (check : State → Option Nat) (f : State → State) (s : State) :
    State :=
  let t := s.setCfg fun c => { c with lastCmd := cmd }
  match (match t.cfgRefusal path key with
    | some r => some r
    | none => check t) with
  | some r => t.setCfg fun c => { c with result := r }
  | none => f (t.setCfg fun c => { c with result := 0 })

/-- Why OPEN is refused (R119, R129); without an image only the host port can own a session (R134). -/
def State.openRefusal (path : Path) (s : State) : Option Nat :=
  let b := s.openBank
  let st := (s.cfg.bank b).state
  if (s.cfg.find [.trial, .pending, .writing]).isSome ∨ !([BankState.empty, .verified, .previous].contains st) ∨
    (s.core.rpl.live && s.core.rpl.bank == b) ∨ (path = .ring ∧ s.cfg.image.isNone) then some 6
  else s.crownParked

/-- OPEN accepted (R119, R120, R114, R134). -/
def State.openOk (path : Path) (s : State) : State :=
  let b := s.openBank
  let ver := match s.cfg.image with
    | some g => g.ver
    | none => ((s.cfg.find [.previous]).map fun p => (s.cfg.bank p).ver).getD 0
  (s.bankTo b .writing).setCfg fun c =>
    { c with owner := ownerOf path, workBank := b, written := [], openVer := ver }

/-- CFG_OPEN (R119). -/
def execCfgOpen (path : Path) (key : BitVec 8) (s : State) : Host.Outcome State Fault Refusal :=
  .next (s.cfgCommand path key 1 (State.openRefusal path) (State.openOk path))

/-- The replay under way uses the bank (R104, R119). -/
def State.replays (s : State) (b : Bool) : Bool := s.core.rpl.live && s.core.rpl.bank == b

/-- Why VERIFY is refused (R119, R129). -/
def State.verifyRefusal (s : State) : Option Nat :=
  if s.cfg.owner = .none ∨ (s.cfg.bank s.cfg.workBank).state ≠ .writing ∨ s.replays s.cfg.workBank then some 6 else s.crownParked

/-- CFG_VERIFY (R125): BUSY sets; the checks end in VERIFY_COMPLETE. -/
def execCfgVerify (path : Path) (key : BitVec 8) (s : State) : Host.Outcome State Fault Refusal :=
  .next (s.cfgCommand path key 2 State.verifyRefusal fun t =>
    (t.setCfg fun c => { c with work := .verify }).cfgTask true)

/-- CFG_ERR (R137). -/
def CfgS.errWord (c : CfgS) : Word := place c.errSect 24 6 ||| place c.errOfs 0 18

/-- CFG_STAT (R137). -/
def State.cfgStat (s : State) : Word :=
  let c := s.cfg
  let act := c.image.isSome && c.active.isSome
  place c.bank1.state.code 28 3 ||| place c.bank0.state.code 24 3 ||| place (if act then 1 else 0) 21 1 |||
    place (if act && c.active == some true then 1 else 0) 20 1 |||
    place (if c.crw2 && !c.crwOpen then 1 else 0) 17 1 ||| place (if c.crw1 && !c.crwOpen then 1 else 0) 16 1 |||
    place (if c.owner != .none then 1 else 0) 15 1 ||| place (match c.owner with | .none => 0 | .host => 1 | .ring => 2) 13 2 |||
    place (if c.work != .none then 1 else 0) 12 1 ||| place c.result 8 4 ||| place c.lastCmd 4 4 |||
    place (if c.rev != .none then 1 else 0) 3 1

/-- BUSY clears and the completion is reported with the image of CFG_STAT (R464 type 3). -/
def State.cfgDone (s : State) : State :=
  let t := (s.setCfg fun c => { c with work := .none }).cfgTask false
  t.completion 0x0201 t.cfgStat

/-- A refused image: RESULT, CFG_ERR and the entry of R490. -/
def State.refuseImage (e : CfgErr) (s : State) : State :=
  let t := s.setCfg fun c => { c with result := e.result, errSect := e.sect, errOfs := e.ofs }
  t.event .management 0x0203 [nword e.result, t.cfg.errWord]

/-- No word of a bank is poisoned; the digest of one with a poisoned word fails (R43, R125; log entry 70). -/
def State.bankSound (s : State) (b : Bool) : Bool := !s.areaBad (if b then .bank1 else .bank0) 8192

/-- VERIFY ends (R125): the bank becomes VERIFIED under the governing key slot, or it stays WRITING. -/
def State.verifyEnd (s : State) : State :=
  let b := s.cfg.workBank
  let bs := cellsBytes bankSize (s.cfg.bank b).cells
  match (verifyImage bs s.cfg.written s.cfg.openVer s.cfg.keys).or (if s.bankSound b then none else some { result := 9, ofs := 32 }) with
  | some e => (s.refuseImage e).cfgDone
  | none =>
    let t := s.setCfg (CfgS.journal fun c =>
      { c.setBank b fun x => { x with state := .verified, slot := acceptSlot c.keys bs, ver := numAt bs 8 4 } with result := 0 })
    t.cfgDone

/-- VERIFY_COMPLETE (R126). -/
def execVerifyComplete (s : State) : Host.Outcome State Fault Refusal :=
  .next (if s.cfg.work = .verify then s.verifyEnd else s)

/-- Why COMMIT is refused (R119, R129). -/
def State.commitRefusal (s : State) : Option Nat :=
  if (s.cfg.find [.verified]).isNone ∨ (s.cfg.find [.trial, .pending, .writing]).isSome ∨
    (s.cfg.find [.verified]).any s.replays then some 6 else s.crownParked

/-- CFG_COMMIT (R129): the session ends and the digest is recomputed. -/
def execCfgCommit (path : Path) (key : BitVec 8) (s : State) : Host.Outcome State Fault Refusal :=
  .next (s.cfgCommand path key 3 State.commitRefusal fun t =>
    (t.setCfg fun c => { c with owner := .none, work := .commit, workBank := (c.find [.verified]).getD false }).cfgTask true)

/-- The COMMIT digest ends (R129): PENDING and a reset at the next boundary, or INVALID on a mismatch. -/
def State.commitEnd (s : State) : State :=
  let b := s.cfg.workBank
  if (s.cfg.bank b).state ≠ .verified then s.cfgDone
  else if s.bankSound b && digestOk (cellsBytes bankSize (s.cfg.bank b).cells) then
    State.cfgDone ((s.bankTo b .pending).setCfg fun c => { c with result := 0, resetDue := mergeCause c.resetDue 6 })
  else State.cfgDone ((s.bankTo b .invalid).refuseImage { result := 9, ofs := 32 })

/-- COMMIT_DIGEST_COMPLETE (R129). -/
def execCommitDigestComplete (s : State) : Host.Outcome State Fault Refusal :=
  .next (if s.cfg.work = .commit then s.commitEnd else s)

/-- Why CONFIRM is refused (R129, R133). -/
def State.confirmRefusal (s : State) : Option Nat :=
  if s.cfg.image.isNone ∨ (s.cfg.find [.trial]).isNone ∨ s.cfg.rev ≠ .none then some 6 else none

/-- CONFIRM accepted (R129): TRIAL to ACTIVE, the trial ends, one entry. -/
def State.confirmOk (s : State) : State :=
  let b := (s.cfg.find [.trial]).getD false
  let t := s.setCfg (CfgS.journal fun c =>
    { c.setBank b fun x => { x with state := .active } with trialElapsed := 0, trialLimit := 0 })
  t.event .management 0x0201 [nword (bankNum b), nword (t.cfg.bank b).ver]

/-- CFG_CONFIRM (R129). -/
def execCfgConfirm (path : Path) (key : BitVec 8) (s : State) : Host.Outcome State Fault Refusal :=
  .next (s.cfgCommand path key 4 State.confirmRefusal State.confirmOk)

/-- Why ROLLBACK is refused (R129, R133, R134). -/
def State.rollbackRefusal (s : State) : Option Nat :=
  let ok := match s.cfg.image, s.cfg.active with
    | some _, some a => (s.cfg.bank (!a)).state == .previous
    | _, _ => (s.cfg.find [.previous]).isSome
  if !ok ∨ s.cfg.rev ≠ .none then some 6 else if !s.crowns then some 2 else none

/-- CFG_ROLLBACK (R132, R133): REV_PEND sets; the transition is written at the reset. -/
def execCfgRollback (path : Path) (key : BitVec 8) (s : State) : Host.Outcome State Fault Refusal :=
  .next (s.cfgCommand path key 5 State.rollbackRefusal fun t => t.setCfg fun c => { c with rev := .rollback })

/-- Why ABORT is refused (R129): the session owner needs no crown switches. -/
def State.abortRefusal (path : Path) (s : State) : Option Nat :=
  if (s.cfg.find [.writing, .verified]).isNone then some 6
  else if ownedBy s.cfg.owner path || s.crowns then none
  else some 2

/-- CFG_ABORT (R129). -/
def execCfgAbort (path : Path) (key : BitVec 8) (s : State) : Host.Outcome State Fault Refusal :=
  .next (s.cfgCommand path key 6 (State.abortRefusal path) fun t =>
    let b := (t.cfg.find [.writing, .verified]).getD false
    (t.bankTo b .invalid).setCfg fun c => { c with owner := .none })

/-- Why OTP_KEY is refused (R117, R119, R129): 14 with every slot programmed. -/
def State.otpRefusal (s : State) : Option Nat :=
  match s.cfg.find [.verified] with
  | none => some 6
  | some b =>
    if !imgSigned (cellsBytes bankSize (s.cfg.bank b).cells) || (s.cfg.find [.trial, .pending, .writing]).isSome ||
      s.replays b then some 6
    else match s.crownParked with
      | some r => some r
      | none => if 4 ≤ s.cfg.keys.length then some 14 else none

/-- OTP_KEY (R117): the next free slot takes the hash of the VERIFIED bank's PUBKEY. -/
def execOtpKey (path : Path) (key : BitVec 8) (s : State) : Host.Outcome State Fault Refusal :=
  .next (s.cfgCommand path key 7 State.otpRefusal fun t => t.setCfg fun c =>
    { c with keys := c.keys ++ [imgKeyHash (cellsBytes bankSize (c.bank ((c.find [.verified]).getD false)).cells)] })

/-- A write of CFG_CMD with another command code (R137). -/
def State.cfgOther (path : Path) (key : BitVec 8) (cmd : Nat) (s : State) : State :=
  s.cfgCommand path key cmd (fun _ => some 6) id

/-- Why a data write is refused (R124). -/
def State.wdataRefusal (path : Path) (s : State) : Option Nat :=
  if s.cfg.work ≠ .none then some 4
  else if s.cfg.owner ≠ .none ∧ !ownedBy s.cfg.owner path then some 5
  else if s.cfg.owner = .none ∨ (s.cfg.bank s.cfg.workBank).state ≠ .writing then some 6
  else if bankSize ≤ s.cfg.waddr then some 15
  else none

/-- A data write (R124). -/
def State.wdataWrite (path : Path) (data : Word) (s : State) : State :=
  match s.wdataRefusal path with
  | some r => s.setCfg fun c => { c with result := r }
  | none => s.setCfg fun c =>
    let d := c.setBank c.workBank fun x => { x with cells := cellsPut c.waddr (wordBytes data) x.cells }
    { d with waddr := c.waddr + 4
             written := if c.written.contains (c.waddr / 32) then c.written else c.written ++ [c.waddr / 32] }

/-- CFG_WDATA_WRITE (R124). -/
def execCfgWdataWrite (path : Path) (data : Word) (s : State) : Host.Outcome State Fault Refusal :=
  .next (s.wdataWrite path data)

/-! Crown switches -/

/-- One beat of a crown switch (R62): consecutive beats beyond the threshold towards the other reading. -/
def crownCount (closed : Bool) (mv cnt : Nat) : Nat :=
  if (if closed then decide (4000 < mv) else decide (mv < 2000)) then cnt + 1 else 0

/-- The crown switches at a boundary (R62, R123): the beat in which a reading changes counts for their comparison. -/
def State.crownBoundary (mv1 mv2 : Nat) (s : State) : State :=
  s.setCfg fun c =>
    let n1 := crownCount c.crw1 mv1 c.crw1Cnt
    let n2 := crownCount c.crw2 mv2 c.crw2Cnt
    let diff := (c.crw1 != decide (10 ≤ n1)) != (c.crw2 != decide (10 ≤ n2))
    { c with crw1Cnt := n1
             crw2Cnt := n2
             crwDiff := if diff then c.crwDiff + 1 else 0
             crwAgree := if c.crwOpen && !diff then c.crwAgree + 1 else 0 }

/-- A crown switch reads open: a session ends at once (R122) and a debug session ends (R360). -/
def State.crownOpened (s : State) : State :=
  let t := if s.core.dbg.isSome then s.debugEnd else s
  if t.cfg.owner = .none then t
  else
    let b := t.cfg.workBank
    let u := t.setCfg (CfgS.journal fun c =>
      { c.setBank b fun x => { x with state := .invalid, cells := cellsClearBelow 32 x.cells } with
        owner := .none, work := .none })
    (u.cfgTask false).event .management 0x0204 [nword (bankNum b)]

/-- A crown switch has read beyond its threshold for 10 beats (R62). -/
def State.crownDue (s : State) (second : Bool) : Bool :=
  decide (10 ≤ if second then s.cfg.crw2Cnt else s.cfg.crw1Cnt)

/-- The reading changes. -/
def State.crownChange (second : Bool) (s : State) : State :=
  let t := s.setCfg fun c =>
    { c with crw1 := if second then c.crw1 else !c.crw1, crw1Cnt := if second then c.crw1Cnt else 0,
             crw2 := if second then !c.crw2 else c.crw2, crw2Cnt := if second then 0 else c.crw2Cnt }
  if t.crowns then t else t.crownOpened

/-- CROWN_SWITCH_CHANGE (R62). -/
def execCrownSwitchChange (second : Bool) (s : State) : Host.Outcome State Fault Refusal :=
  .next (if s.crownDue second then s.crownChange second else s)

/-- The switches have read differently for 50 beats (R123). -/
def State.crownDiffDue (s : State) : Bool := decide (50 ≤ s.cfg.crwDiff) && !s.cfg.crwOpen

/-- Both count as open: FS13, and what an open switch ends (R122, R123). -/
def State.crownDiffer (s : State) : State :=
  State.crownOpened ((s.raiseCond 13 0).setCfg fun c => { c with crwOpen := true, crwAgree := 0 })

/-- CROWN_DISAGREEMENT (R123). -/
def execCrownDisagreement (s : State) : Host.Outcome State Fault Refusal :=
  .next (if s.crownDiffDue then s.crownDiffer else s)

/-- The switches have agreed again for 10 beats (R123). -/
def State.crownAgreeDue (s : State) : Bool := s.cfg.crwOpen && decide (10 ≤ s.cfg.crwAgree)

/-- The readings count again. -/
def State.crownAgree (s : State) : State := (s.endCond 13).setCfg fun c => { c with crwOpen := false, crwDiff := 0 }

/-- CROWN_AGREEMENT (R123). -/
def execCrownAgreement (s : State) : Host.Outcome State Fault Refusal :=
  .next (if s.crownAgreeDue then s.crownAgree else s)

/-! Trial -/

/-- The trial image runs the beat (R131). -/
def State.inTrial (s : State) : Bool := s.cfg.image.isSome && (s.cfg.find [.trial]).isSome

/-- A boundary counts the beat that ended (R131). -/
def State.trialBoundary (s : State) : State :=
  if s.inTrial then s.setCfg fun c => { c with trialElapsed := c.trialElapsed + 1 } else s

/-- A checkpoint is due (R131). -/
def State.checkpointDue (s : State) : Bool :=
  s.inTrial && s.cfg.trialElapsed % 1000 == 0 && s.cfg.trialElapsed != s.cfg.trialSaved

/-- The elapsed count goes into the journal (R131). -/
def State.trialCheckpoint (s : State) : State := s.setCfg (CfgS.journal id)

/-- TRIAL_CHECKPOINT (R131). -/
def execTrialCheckpoint (s : State) : Host.Outcome State Fault Refusal :=
  .next (if s.checkpointDue then s.trialCheckpoint else s)

/-- The trial has reached its limit (R133). -/
def State.expiryDue (s : State) : Bool :=
  s.inTrial && decide (s.cfg.trialLimit ≤ s.cfg.trialElapsed) && s.cfg.rev == .none

/-- REV_PEND sets; outside Parked the sequencer takes it as an open request (R133). -/
def State.expire (s : State) : State := s.setCfg fun c => { c with rev := .expiry }

/-- TRIAL_EXPIRY (R133). -/
def execTrialExpiry (s : State) : Host.Outcome State Fault Refusal :=
  .next (if s.expiryDue then s.expire else s)

/-- A revert of the trial bank (R132), with P0 of its entry (R490): the trial bank INVALID, a PREVIOUS bank ACTIVE. -/
def State.revertTrial (why : Nat) (s : State) : State :=
  match s.cfg.find [.trial] with
  | none => s
  | some b =>
    let o := s.cfg.bank (!b)
    let enters := o.state == .previous
    let t := s.setCfg (CfgS.journal fun c =>
      let d := c.setBank b fun x => { x with state := .invalid }
      { d.setBank (!b) fun x => { x with state := if enters then .active else x.state } with
        trialElapsed := 0, trialLimit := 0, revertCnt := incSat 65535 c.revertCnt })
    t.event .management 0x0202 [nword why, nword (s.cfg.bank b).ver, nword (if enters then o.ver else 0)]

/-- The transition that a pending expiry or ROLLBACK writes at the reset (R132-R134). -/
def State.revertWrite (s : State) : State :=
  match s.cfg.rev with
  | .none => s
  | .expiry => s.revertTrial 1
  | .rollback =>
    if (s.cfg.find [.trial]).isSome then s.revertTrial 3
    else
      let p := (s.cfg.find [.previous]).getD false
      let old := s.cfg.bank (!p)
      let swaps := s.cfg.image.isSome && old.state == .active
      let t := s.setCfg (CfgS.journal fun c =>
        let d := c.setBank p fun x => { x with state := .active }
        { d.setBank (!p) fun x => { x with state := if swaps then .previous else x.state } with
          revertCnt := incSat 65535 c.revertCnt })
      t.event .management 0x0202 [nword 3, nword (if swaps then old.ver else 0), nword (s.cfg.bank p).ver]

/-- REVERT_RESET is due: a pending event, once Parked (R133, R134). -/
def State.revertDue (s : State) : Bool := s.cfg.rev != .none && s.cfgParked

/-! Erase -/

/-- An erase may start (R135): an INVALID bank, Parked or without an image, nothing else under way. -/
def State.eraseDue (s : State) : Option Bool :=
  let up := s.cfg.image.isNone || (s.pwr.state == .active || s.pwr.state == .idle)
  if up && s.cfgParked && s.cfg.work == .none && s.cfg.owner == .none then s.cfg.find [.invalid] else none

/-- The erase starts: BUSY sets, and the header word goes first (R135). -/
def State.eraseStart (s : State) : State :=
  match s.eraseDue with
  | none => s
  | some b => s.setCfg fun c =>
    { c.setBank b fun x => { x with cells := cellsClearBelow 32 x.cells } with work := .erase, workBank := b }

/-- The erase ends: every word zero, then EMPTY in the journal (R135). -/
def State.eraseEnd (s : State) : State :=
  State.setCfg (s.areaRewritten (if s.cfg.workBank then .bank1 else .bank0)) (CfgS.journal fun c =>
    { c.setBank c.workBank fun x => { x with cells := [], state := .empty, slot := none, ver := 0 } with work := .none })

/-- BANK_ERASE (R135): the erase of this bank, begun at a boundary or here, completes. -/
def execBankErase (bank : Bool) (s : State) : Host.Outcome State Fault Refusal :=
  let t := if s.cfg.work = .none ∧ s.eraseDue = some bank then s.eraseStart else s
  .next (if t.cfg.work = .erase ∧ t.cfg.workBank = bank then t.eraseEnd else s)

end Sys2Proof.Machine
end

