-- ==== Sys2Proof/Machine/Power.lean ====
section
/-! DEFINITION. Supply, resets and power states (R70-R73, R492-R507). -/

namespace Sys2Proof.Machine

/-- Change the power state. -/
def State.setPwr (s : State) (f : PwrS → PwrS) : State := { s with pwr := f s.pwr }

/-! What survives -/

/-- The configuration store as a reset leaves it (R131, R504): banks, journal, key slots and counts. -/
def CfgS.kept (c : CfgS) : CfgS :=
  { bank0 := c.bank0, bank1 := c.bank1, j0 := c.j0, j1 := c.j1, trialElapsed := c.trialSaved,
    trialLimit := c.trialLimit, keys := c.keys, revertCnt := c.revertCnt, actCnt := c.actCnt,
    loaded := c.loaded }

/-- The recorder and the calendar as a reset leaves them (R486, R487, R504). -/
def LogS.kept (l : LogS) : LogS :=
  { store := l.store, newest := l.newest, clear := l.clear, savedSec := l.savedSec, savedFrac := l.savedFrac,
    calSec := l.calSec, calFrac := l.calFrac, snapSec := l.calSec, snapFrac := l.calFrac, calValid := l.calValid }

/-- A core pair as a reset leaves it: the supervisor's mismatch latch (R348, R504). -/
def PairS.kept (p : PairS) : PairS := { mm := p.mm }

/-- The supervisor's latches and the pins' levels (R504). -/
def PwrS.kept (p : PwrS) : PwrS :=
  { state := p.state, nrstIgn := p.nrstIgn, nrstLow := p.nrstLow, vsGood := p.vsGood, cause := p.cause, wakeCause := p.wakeCause,
    wakeLatch := p.wakeLatch, alarm := p.alarm, wakes := p.wakes, starts := p.starts, vsOk := p.vsOk, wakePin := p.wakePin,
    uptime := p.uptime, shorts := p.shorts }

/-- A module reset (R504): the MRAM and the supervisor latches stay, everything else takes its reset value. The commands that
wait are no part of the machine. -/
def State.kept (s : State) : State :=
  { pending := s.pending
    mem := { poisoned := s.mem.poisoned.filter fun x => x.1 == Mem.mram }
    cfg := s.cfg.kept
    meas := { qSaved := s.meas.qSaved, qA := s.meas.qSaved, qB := s.meas.qSaved }
    bal := { rw := s.bal.rw }
    chg := { recs := s.chg.recs }
    safe := { latched := s.safe.latched, persistA := s.safe.persistA, persistB := s.safe.persistB
              out := s.safe.out.map fun x => { ops := x.ops } }
    cha := { seq := { state := if s.safe.latched then .safe else .parked } }
    chb := { seq := { state := if s.safe.latched then .safe else .parked } }
    core := { a := s.core.a.kept, b := s.core.b.kept, mmRecord := s.core.mmRecord }
    flt := { rstCnt := s.flt.rstCnt, rloop := s.flt.rloop, rstTimes := s.flt.rstTimes }
    thm := { excCnt := s.thm.excCnt, excLen := s.thm.excLen }
    ring := { role := s.ring.role, epoch := s.ring.epoch, lastAddr := s.ring.lastAddr, take := s.ring.take
              yielded := s.ring.yielded, cepoch := s.ring.cepoch }
    can1 := { wakeCause := s.can1.wakeCause }
    can2 := { wakeCause := s.can2.wakeCause }
    log := s.log.kept
    pwr := s.pwr.kept
    sys := { serial := s.sys.serial, did := s.sys.did, order := s.sys.order, sirev := s.sys.sirev, hist := s.sys.hist } }

/-- Off (R492): the supervisor and the calendar stop and lose what they hold. -/
def State.toOff (s : State) : State :=
  let t := s.kept
  { t with
    core := {}
    flt := {}
    can1 := {}
    can2 := {}
    log := { t.log with calSec := 0, calFrac := 0, snapSec := 0, snapFrac := 0 }
    pwr := { state := .off, vsGood := false, cause := t.pwr.cause, nrstLow := t.pwr.nrstLow, wakePin := t.pwr.wakePin
             wakes := t.pwr.wakes, starts := t.pwr.starts, shorts := t.pwr.shorts } }

/-- The start begins at a step with its cause (R499, R503). -/
def State.startAt (step cause : Nat) (s : State) : State :=
  s.setPwr fun p => { p with state := .start step, cause := cause }

/-- Before a reset takes hold the recorder writes its queue, the events of the beat included; a CDA that does not run loses
them (R485). -/
def State.flushLog (s : State) : State :=
  if s.runs .a then { s with log := (s.log.append s.repWin s.beat.num).flush } else s

/-- A record written outside the queue, as its last entry (R72, R496). -/
def State.lastRecord (code : Nat) (p : List Word) (s : State) : State :=
  if s.runs .a then { s with log := s.log.writeNew code p 0 s.log.snapSec s.log.snapFrac s.beat.num } else s

/-! Module reset -/

/-- A reset by MODRST counts in the supervisor; three within 60,000 beats start the reset-loop state (R373). -/
def State.countReset (s : State) : State :=
  let times := (s.pwr.uptime :: s.flt.rstTimes).take 3
  let loops := times.length == 3 && decide (s.pwr.uptime - times.getLast?.getD 0 < 60000)
  { s with flt := { s.flt with rstCnt := incSat 255 s.flt.rstCnt, rstTimes := times, rloop := s.flt.rloop || loops } }

/-- A module reset with its cause: the queue is written, the state that survives starts again at step 2 (R485, R503, R504). -/
def State.moduleReset (cause : Nat) (s : State) : State :=
  let t := s.flushLog
  (onlyIf (cause == 4 || cause == 5) State.countReset t).kept.startAt 2 cause

/-- A reset waits for a boundary; before BEAT_NUM 0 it waits for the boundary that ends beat 0 (R129, R370). -/
def State.resetDue (s : State) : Bool := s.cfg.resetDue.isSome && s.beat.running

/-- MODULE_RESET (R504). -/
def execModuleReset (s : State) : Host.Outcome State Fault Refusal :=
  .next (if s.resetDue then s.moduleReset (s.cfg.resetDue.getD 4) else s)

/-- REVERT_RESET (R133): the journal transition, then the reset. -/
def State.revertReset (s : State) : State := s.revertWrite.moduleReset 7

/-- REVERT_RESET (R133). -/
def execRevertReset (s : State) : Host.Outcome State Fault Refusal := .next (if s.revertDue then s.revertReset else s)

/-! Supply -/

/-- R70 to R73 apply: from the end of step 5 (R502). -/
def State.rides (s : State) : Bool :=
  match s.pwr.state with
  | .active | .idle => true
  | .start k => decide (6 ≤ k)
  | _ => false

/-- Start steps 1 to 5 (R502). -/
def State.booting (s : State) : Bool :=
  match s.pwr.state with
  | .start k => decide (k ≤ 5)
  | _ => false

/-- An interruption begins (R70), or the start ends in Off (R502). -/
def State.intrBegin (vs : Nat) (s : State) : State :=
  if 12000 ≤ vs then s
  else if s.booting then s.toOff
  else if s.rides && s.pwr.intr.isNone && !s.pwr.stopping then
    s.setPwr fun p => { p with intr := some (vs, s.beat.num, s.beat.sub), vsOk := 0, vsGood := false }
  else s

/-- INTERRUPTION_BEGIN (R70). -/
def execInterruptionBegin (vs : Nat) (s : State) : Host.Outcome State Fault Refusal := .next (s.intrBegin vs)

/-- Sub-beats since the interruption began (R71). -/
def State.intrLen (s : State) (from_ : Word) (sub : Nat) : Nat := 16 * (s.beat.num - from_).toNat + s.beat.sub - sub

/-- The interruption has been ridden through: one entry and FS66 (R71). -/
def State.intrOver (s : State) : State :=
  match s.pwr.intr with
  | none => s
  | some (low, b, j) =>
    let t := (s.setPwr fun p => { p with intr := none }).event .management 0x101 [nword (s.intrLen b j), nword low]
    t.raise 66 0

/-- INTERRUPTION_END (R71): VS has read at or above 13.0 V for two sub-beats. -/
def execInterruptionEnd (vs : Nat) (s : State) : Host.Outcome State Fault Refusal :=
  .next (if 13000 ≤ vs ∧ !s.pwr.stopping then s.intrOver else s)

/-- One VS sample of an interruption (R70-R72): its lowest reading, its end at the second good sample, the stop after ten
beats or at the reserve. -/
def State.intrSample (vs : Nat) (reserve : Bool) (s : State) : State :=
  match s.pwr.intr with
  | none => s.intrBegin vs
  | some (low, b, j) =>
    let t := s.setPwr fun p => { p with intr := some (min low vs, b, j) }
    if t.pwr.stopping then t
    else if 2 ≤ t.pwr.vsOk then t.intrOver
    else if 160 ≤ t.intrLen b j ∨ reserve then t.setPwr fun p => { p with stopping := true }
    else t

/-- The supervisor's sample of VS at the end of a sub-beat (R70, R498, R502). -/
def State.vsSample (vs : Nat) (reserve : Bool) (s : State) : State :=
  let n := if 13000 ≤ vs then incSat 16 s.pwr.vsOk else 0
  let t := s.setPwr fun p =>
    { p with vsOk := n, vsGood := decide (16 ≤ n), vs := if s.beat.sub = 16 then vs else p.vs }
  if t.booting then t.intrBegin vs else if t.rides then t.intrSample vs reserve else t

/-- The power-fail stop (R72): outputs off, the charge accumulators and the cycle count saved, the queue written and the
power-fail record last, then Off. -/
def State.powerFailStop (s : State) : State :=
  let (low, b) := match s.pwr.intr with
    | some (low, b, _) => (low, b)
    | none => (s.pwr.vs, s.beat.num)
  let t := (onlyIf s.accounting State.cycStore (s.raise 66 0)).flushLog.lastRecord 0x102 [nword low, b]
  State.toOff { t with
    meas := { t.meas with qSaved := t.meas.qA }
    log := { t.log with savedSec := t.log.calSec, savedFrac := t.log.calFrac } }

/-- POWER_FAIL_STOP (R72). -/
def execPowerFailStop (reserve : Bool) (s : State) : Host.Outcome State Fault Refusal :=
  .next (if s.pwr.stopping || (s.pwr.intr.isSome && reserve) then s.powerFailStop else s)

/-- The start from a wake that was latched or has just come (R497). -/
def State.wakeStart (sources : BitVec 7) (s : State) : State :=
  let cause := if s.pwr.state = .listen then 8 else 9
  State.startAt 2 cause (s.setPwr fun p => { p with wakeCause := sources, wakeLatch := 0, wakes := incSat 65535 p.wakes })

/-- SUPPLY_GOOD (R498): the start from Off, or the start that a latched wake waits for (R497). -/
def execSupplyGood (vs : Nat) (s : State) : Host.Outcome State Fault Refusal :=
  .next (if vs < 13000 then s
    else
      let t := s.setPwr fun p => { p with vsGood := true, vsOk := 16 }
      match s.pwr.state with
      | .off => t.startAt 1 1
      | .listen | .dormant => if s.pwr.wakeLatch != 0 then t.wakeStart s.pwr.wakeLatch else t
      | _ => t)

/-! nRST -/

/-- nRST takes hold: outputs off, the queue written, held in reset (R505). -/
def State.nrstReset (s : State) : State :=
  let t := if s.pwr.state = .listen then s else s.flushLog
  t.kept.setPwr fun p => { p with state := .held, nrstLow := true }

/-- nRST is not sampled or has no effect (R506, R507). -/
def State.nrstBlocked (s : State) : Bool :=
  s.pwr.nrstIgn || s.pwr.stopping || s.pwr.state == .off || s.pwr.state == .dormant

/-- NRST_ASSERT (R505): a low level of so many µs; between 2 and 10 µs the outcome is a free value. -/
def execNrstAssert (lowUs : Nat) (s : State) : Host.Outcome State Fault Refusal :=
  .next (if s.nrstBlocked then s.setPwr fun p => { p with nrstLow := s.pwr.state != .off && s.pwr.state != .dormant && decide (2 ≤ lowUs) }
    else if lowUs < 2 then s
    else if 10 ≤ lowUs then s.nrstReset
    else
      let t := s.setPwr fun p => { p with shorts := p.shorts + 1 }
      if Config.nrstShort s.pwr.shorts then t.nrstReset else t)

/-- NRST_RELEASE (R505): the start begins at step 2. -/
def execNrstRelease (s : State) : Host.Outcome State Fault Refusal :=
  .next (let t := s.setPwr fun p => { p with nrstLow := false }
    if s.pwr.state = .held then t.startAt 2 2 else t)

/-- NRST_STUCK (R506): the start with cause 3 while nRST is low. -/
def execNrstStuck (s : State) : Host.Outcome State Fault Refusal :=
  .next (if s.pwr.state = .held ∧ s.pwr.nrstLow then State.startAt 2 3 (s.setPwr fun p => { p with nrstIgn := true }) else s)

/-- NRST_IGN_CLEAR (R506): nRST has read high for 100 ms; FS65 is no longer present. -/
def execNrstIgnClear (s : State) : Host.Outcome State Fault Refusal :=
  .next (if s.pwr.nrstIgn then State.endCond 65 (s.setPwr fun p => { p with nrstIgn := false, nrstLow := false }) else s)

/-! Listen and Dormant -/

/-- Wake sources that a state has: bits of PWR_WAKE.CAUSE (R492, R497). -/
def wakeMask (dormant : Bool) : BitVec 7 := if dormant then 0x1F else 0x7D

/-- An enabled wake source is active at this boundary (R495): the WAKE pin, a ring port with line activity, the calendar at
its alarm. -/
def State.wakeActive (s : State) (dormant : Bool) : Bool :=
  let act : BitVec 7 := BitVec.ofNat 7 (packBits [s.pwr.wakePin, false, s.ring.ports[0]?.any (fun (x : PortS) => x.up),
    s.ring.ports[1]?.any (fun (x : PortS) => x.up), s.pwr.alarm != 0 && s.log.calSec == s.pwr.alarm])
  act &&& BitVec.ofNat 7 (s.nat .WAKE_EN) &&& wakeMask dormant != 0

/-- Why a power request is refused, against the state before the boundary; none when it is accepted (R495). -/
def State.pwrRefusal (s : State) (dormant keyOk : Bool) : Option Nat :=
  let v := s.hv 0
  let c := if s.runs .a then s.pre.ctlA else s.pre.ctlB
  if !keyOk then some 1
  else if c != .parked && c != .safe then some 2
  else if s.pre.busy then some 3
  else if s.pre.closeStaged then some 4
  else if s.wakeActive dormant then some 5
  else if dormant && !(v.valid && decide (12800 ≤ v.code)) then some 6
  else none

/-- A request is judged: the entry procedure begins, or RCAUSE is set (R495, R496). -/
def State.pwrRequest (dormant keyOk : Bool) (trigger : Nat) (s : State) : State :=
  s.setPwr fun p => match s.pwrRefusal dormant keyOk with
    | some r => { p with req := none, rcause := r, idleBeats := 0 }
    | none => { p with req := none, entry := some (p.entry.getD (dormant, trigger)) }

/-- A request for Listen (1) or Dormant (2) became active at the latest boundary. -/
def State.pwrDue (s : State) (code : Nat) : Bool := s.upAndRunning && s.pwr.req.any fun r => r.1.toNat == code

/-- PWR_LISTEN (R495). -/
def execPwrListen (s : State) : Host.Outcome State Fault Refusal :=
  .next (if s.pwrDue 1 then s.pwrRequest false (s.pwr.req.any (·.2)) 1 else s)

/-- PWR_DORMANT (R495). -/
def execPwrDormant (s : State) : Host.Outcome State Fault Refusal :=
  .next (if s.pwrDue 2 then s.pwrRequest true (s.pwr.req.any (·.2)) 1 else s)

/-- LSN_TMO has expired in Idle (R496). -/
def State.listenDue (s : State) : Bool :=
  s.pwr.state == .idle && decide (0 < s.nat .LSN_TMO) && decide (beatsOfSec (s.nat .LSN_TMO) ≤ s.pwr.idleBeats) &&
    s.pwr.entry.isNone

/-- LISTEN_TIMEOUT (R496). -/
def execListenTimeout (s : State) : Host.Outcome State Fault Refusal :=
  .next (if s.listenDue then s.pwrRequest false true 2 else s)

/-- A Monitor's ring silence: every balancing switch opens, and Dormant is entered (R221, R418). -/
def State.ringSilent (s : State) : State :=
  { s with
    bal := { s.bal with
      run := none
      req := [0, 0, 0]
      sw := s.bal.sw.map fun x => { x with duty := false, exc := false, level := false, want := false } }
    pwr := { s.pwr with entry := some (true, 3) } }

/-- RING_SILENCE is due. -/
def State.ringSilentDue (s : State) : Bool := s.silenceDue && s.pwr.entry.isNone

/-- RING_SILENCE (R418). -/
def execRingSilence (s : State) : Host.Outcome State Fault Refusal := .next (if s.ringSilentDue then s.ringSilent else s)

/-- The wake-up frame of a port (R442). -/
def State.wufOf (s : State) (port : Nat) : Wuf :=
  { id := sword (s.par .WUF_ID port), idMask := sword (s.par .WUF_IDM port), dlc := s.nat .WUF_DLC port, dmask := s.nat .DMASK port
    d0 := sword (s.par .WUF_D0 port), d1 := sword (s.par .WUF_D1 port) }

/-- The entry procedure ends (R496): the queue is written, the last record tells target and trigger, the
supervisor arms the wake sources; a wake that came meanwhile starts the module. -/
def State.enterLow (s : State) : State :=
  match s.pwr.entry with
  | none => s
  | some (dormant, trigger) =>
    let t := s.flushLog.lastRecord 0x104 [nword (if dormant then 2 else 1), nword trigger]
    let k := t.kept
    let v := (if dormant then k else
        { k with can1 := { k.can1 with state := .listen }, can2 := { k.can2 with state := .listen } }).setPwr fun p =>
      { p with state := if dormant then .dormant else .listen
               wakeEn := BitVec.ofNat 7 (s.nat .WAKE_EN)
               canModes := [s.nat .WAKE_MODE 1, s.nat .WAKE_MODE 2], canWufs := [s.wufOf 1, s.wufOf 2]
               dormTmo := s.nat .DORM_TMO
               wakeLatch := p.wakeLatch &&& wakeMask dormant }
    if v.pwr.wakeLatch != 0 && v.pwr.vsGood then v.wakeStart v.pwr.wakeLatch else v

/-- DORMANT_TIMEOUT (R496): DORM_TMO has expired in Listen. -/
def execDormantTimeout (s : State) : Host.Outcome State Fault Refusal :=
  .next (if s.pwr.state = .listen ∧ s.pwr.dormTmo ≠ 0 then s.setPwr fun p => { p with state := .dormant } else s)

/-- LISTEN_VS_LOW (R494): VS below 12.0 V for 10 ms in Listen. -/
def execListenVsLow (vs : Nat) (s : State) : Host.Outcome State Fault Refusal :=
  .next (if s.pwr.state = .listen ∧ vs < 12000 then
    s.setPwr fun p => { p with state := .dormant, vsGood := false, vsOk := 0 } else s)

/-- DORMANT_STACK_LOW (R494): VSTK below 40 V for 1 s in Dormant. -/
def execDormantStackLow (vstkMv : Nat) (s : State) : Host.Outcome State Fault Refusal :=
  .next (if s.pwr.state = .dormant ∧ vstkMv < 40000 then s.toOff else s)

/-- The sources of a wake that can act: those the state has, the alarm only when it is set (R497). -/
def State.wakeSources (s : State) (dormant : Bool) (sources : BitVec 7) : BitVec 7 :=
  sources &&& wakeMask dormant &&& (if s.pwr.alarm = 0 then 0x6F else 0x7F)

/-- Sources become active in Listen, in Dormant or during the entry procedure (R496, R497). -/
def State.wake (sources : BitVec 7) (s : State) : State :=
  let latch (x : BitVec 7) (t : State) : State := t.setPwr fun p => { p with wakeLatch := p.wakeLatch ||| x }
  match s.pwr.state with
  | .listen | .dormant =>
    let x := s.wakeSources (s.pwr.state == .dormant) sources
    if x &&& s.pwr.wakeEn = 0 then s else if s.pwr.vsGood then s.wakeStart (s.pwr.wakeLatch ||| x) else latch x s
  | _ =>
    match s.pwr.entry with
    | some (dormant, _) =>
      let x := s.wakeSources dormant sources
      if x &&& BitVec.ofNat 7 (s.nat .WAKE_EN) = 0 then s else latch x s
    | none => s

/-- WAKE (R497). -/
def execWake (sources : BitVec 7) (s : State) : Host.Outcome State Fault Refusal := .next (s.wake sources)

/-- A frame is the wake-up frame (R442): classical, IDE, identifier under the mask, DLC, and every data byte that DMASK selects. -/
def Wuf.hits (w : Wuf) (f : CanFrame) : Bool :=
  !f.fdf && f.ide == w.id.getLsbD 31 && ((w.id ^^^ f.id.setWidth 32) &&& w.idMask &&& 0x1FFFFFFF) == 0 && f.dlc.toNat == w.dlc &&
    (List.range 8).all fun i =>
      !(w.dmask.testBit i && decide (i < f.dlc.toNat)) || f.data[i]? == (wordBytes w.d0 ++ wordBytes w.d1)[i]?

/-- The frame error counter of the wake decoder (R442): CAN FD frames are tolerated and not decoded. An error counts up, an intact
frame down, as ISO 11898-2:2016 has it (log entry 102). -/
def wakeCount (n : Nat) (seen : WakeSeen) : Nat :=
  match seen with
  | .pattern => n
  | .frame f => if f.fdf then n else n - 1
  | .badFrame => min 32 (n + 1)

/-- What a port's wake decoder takes as a wake in its WAKE_MODE: WUP, WUF, the frame error counter above 31 (R441, R442). -/
def canWakeBits (mode : Nat) (w : Wuf) (errs : Nat) (seen : WakeSeen) : BitVec 3 :=
  match seen with
  | .pattern => if mode.testBit 0 then 1 else 0
  | .frame f => if mode.testBit 1 && w.hits f then 2 else 0
  | .badFrame => if mode.testBit 1 && decide (31 < errs) then 4 else 0

/-- A port's wake decoder in Listen meets a pattern or a frame; the port records what wakes it (R442). -/
def State.canWake (port : CPort) (seen : WakeSeen) (s : State) : State :=
  if s.pwr.state != .listen then s
  else
    let n := wakeCount (s.can port).wakeErrs seen
    let c := canWakeBits (s.pwr.canModes[portIx port - 1]?.getD 0) (s.pwr.canWufs[portIx port - 1]?.getD {}) n seen
    let src : BitVec 7 := if port = .can1 then 0x20 else 0x40
    let t := s.setCan port fun x => { x with wakeErrs := n }
    if c ≠ 0 ∧ src &&& s.pwr.wakeEn ≠ 0 then State.wake src (t.setCan port fun x => { x with wakeCause := c }) else t

/-- CAN_WAKE (R442). -/
def execCanWake (port : CPort) (pattern bad : Bool) (frame : Option CanFrame) (s : State) : Host.Outcome State Fault Refusal :=
  .next ((wakeSeen pattern bad frame).foldl (fun t x => t.canWake port x) s)

/-- Idle beats towards LSN_TMO and the supervisor's beats, counted at a boundary (R373, R496). -/
def State.powerBoundary (s : State) : State :=
  let counts := s.pwr.state == .idle && (s.ctl == .parked || s.ctl == .safe) && !s.host.addressed
  s.setPwr fun p =>
    { p with idleBeats := if counts then p.idleBeats + 1 else 0
             uptime := if s.upAndRunning then p.uptime + 1 else p.uptime }

/-! Crystals -/

/-- A crystal fails (R24): its die and what runs on its clocks stop; the fault registers freeze with channel A's collector. -/
def State.crystalFails (ch : Ch) (s : State) : State :=
  match ch with
  | .a => State.freezeFlt { s with xtalA := false }
  | .b => { s with xtalB := false }

/-- CRYSTAL_FAILURE (R25). -/
def execCrystalFailure (ch : Ch) (s : State) : Host.Outcome State Fault Refusal := .next (s.crystalFails ch)

end Sys2Proof.Machine
end

