-- ==== Sys2Proof/Machine/History.lean ====
section
/-! DEFINITION. Performance counters, string history, restore and import (R513-R522). -/

namespace Sys2Proof.Machine

/-- Change identity, counters and history. -/
def State.setSys (s : State) (f : SysS → SysS) : State := { s with sys := f s.sys }

/-! Performance counters -/

/-- PMC_SEL_WRITE (R514): a staged write of PMC_SELi; at its boundary the counter is cleared and counts the new source. -/
def SysS.pmcSelect (y : SysS) (i : Nat) (src : BitVec 6) : SysS :=
  { y with pmcSel := y.pmcSel.set i src, pmc := y.pmc.set i 0 }

/-- PMC_SEL_WRITE (R514): the write is staged (R33). -/
def execPmcSelWrite (path : Path) (i : Fin 16) (src : BitVec 6) (s : State) : Host.Outcome State Fault Refusal :=
  .next (s.stage path (0x1A10 + i.val) (nword src.toNat))

/-- PMC_CTRL.SNAP: the write that sets it freezes the host copy, a write of 0 releases it (R514). -/
def SysS.snapTo (y : SysS) (on : Bool) : SysS :=
  { y with pmcSnap := on, pmcFrozen := if on && !y.pmcSnap then y.pmc else y.pmcFrozen }

/-- PMC_SNAP (R514). -/
def execPmcSnap (path : Path) (on : Bool) (s : State) : Host.Outcome State Fault Refusal :=
  let _ := path
  .next (s.setSys fun y => y.snapTo on)

/-! The condensed table -/

/-- An entry of a condensed table (R517): MAG, PH over 4, STATE. -/
def condEntry (mag : Nat) (ph : Int) (measured : Bool) : Word :=
  place (min mag 131071) 15 17 ||| splace (divRnd ph 4) 1 14 ||| flag measured 0

/-- Words of four bytes in a window of one unit: the header and 960 condensed words of 32 bytes (R517, R518). -/
def histLen : Nat := 7688

/-- Cell, temperature bin and SOC bin of the entry at 4-byte word k of the window, k at least 8 (R517). -/
def condPlace (k : Nat) : Nat × Nat × Nat :=
  let w := k / 8 - 1
  (8 * (w / 80) + k % 8 + 1, w % 80 / 10, w % 10)

/-- The header of a slot (R517). -/
def histHeader (serial : BitVec 64) (addr : UAddr) (record code seq : Nat) : List Byte :=
  let b := bytesOf 8 serial.toNat ++ bytesOf 2 addr.toNat ++ bytesOf 1 record ++ bytesOf 1 code ++ bytesOf 4 seq ++
    List.replicate 12 0
  b ++ bytesOf 4 (crc32 b)

/-- Word j of bytes grouped by four. -/
def wordAt (l : List Byte) (j : Nat) : Word := nword (numAt l (4 * j) 4)

/-- 4-byte word k of the own window, for the record in force (R517, R518); zeros without one. -/
def State.ownHist (s : State) (k : Nat) : Word :=
  match s.chg.inForce, s.record with
  | some i, some r =>
    if k < 8 then wordAt (histHeader s.sys.serial s.addr i r.code 0) k
    else
      let (n, tb, sb) := condPlace k
      let slot := s.nat .OCV_SLOT
      match r.entry n tb sb slot with
      | some e => condEntry e.mag e.ph (e.n != 0)
      | none => condEntry (r.default tb sb slot).1.toNat (r.default tb sb slot).2 false
  | _, _ => 0

/-- Put a word at key k of a list of rising keys. -/
def keyPut (k : Nat) (w : Word) : List (Nat × Word) → List (Nat × Word)
  | [] => [(k, w)]
  | x :: l => if x.1 < k then x :: keyPut k w l else if x.1 = k then (k, w) :: l else (k, w) :: x :: l

/-- 4-byte word k of a slot of the history. -/
def HistSlot.word (h : HistSlot) (k : Nat) : Word :=
  if !h.used then 0
  else if k < 8 then wordAt (histHeader h.serial h.addr h.record h.code h.seq) k
  else ((h.words.find? fun x => x.1 == k).map (·.2)).getD 0

/-- Change the slot of a position (R517). -/
def State.setHist (pos : Nat) (f : HistSlot → HistSlot) (s : State) : State :=
  s.setSys fun y => { y with hist := y.hist.modify pos f }

/-- The unit of a position in this string. -/
def State.unitAt (s : State) (pos : Nat) : UAddr := uAddr (uStr s.addr) pos

/-- One word copied into the slot of a position: the header is the Master's own, a full copy raises its sequence (R517,
R518). -/
def State.copyWord (pos k : Nat) (w : Word) (s : State) : State :=
  let u := s.unitAt pos
  let serial := if u = s.addr then s.sys.serial else ((s.unit? u).map (·.serial)).getD 0
  let t := s.setHist pos fun h =>
    { h with
      used := true, serial := serial, addr := u
      record := s.chg.inForce.getD 0
      code := (s.record.map (·.code)).getD 255
      seq := if k + 1 = histLen then (h.seq + 1) % 2 ^ 32 else h.seq
      words := if k < 8 then h.words else keyPut k w h.words }
  t.tally 37 1

/-- HIST_COPY (R518): the active Master takes up to two words of a unit of its string; of itself it takes its own words. -/
def execHistCopy (unit : BitVec 8) (words : List (Nat × Word)) (s : State) : Host.Outcome State Fault Refusal :=
  .next (if s.master && s.powered && s.ringOrder.contains (s.unitAt unit.toNat) && !s.chg.swapPend then
    runAll (fun (x : Nat × Word) t =>
        if x.1 < histLen then
          t.copyWord unit.toNat x.1 (if s.unitAt unit.toNat = s.addr then s.ownHist x.1 else x.2)
        else t) (words.take 2) s
  else s)

/-! Restore -/

/-- Cells of a condensed word go into the own record's table (R519): MAG and PH, COH 0, N 1 when measured. -/
def State.restoreEntry (k : Nat) (w : Word) (s : State) : State :=
  let (n, tb, sb) := condPlace k
  let e : TabEnt := { cell := n, tbin := tb, sbin := sb, slot := s.nat .OCV_SLOT, mag := bits w 15 17, ph := 4 * sbits w 1 14,
                      coh := 0, n := bits w 0 1 }
  s.setRecord fun r => { r with table := putEntry r.table e }

/-- The restore of this unit begins: every slot takes its default table first (R519). -/
def State.restoreOpen (s : State) : State :=
  (s.setRecord fun r => { r with table := [], dflt := s.defaultTable }).setSys fun y =>
    { y with restoreIn := true, histPtr := 0, winBuf := [] }

/-- A unit's slot can be restored (R519): this unit is the active Master, Parked, and the record in force has the slot's ID
code. -/
def State.restorable (s : State) (pos : Nat) : Bool :=
  let h := s.sys.hist[pos]?.getD {}
  s.master && s.parked && h.used && s.record.any fun r => r.code == h.code

/-- The Master begins to restore a unit: its own table at once, another unit through its window (R518, R519). -/
def State.restoreBegin (pos : Nat) (s : State) : State :=
  if !s.restorable pos then s
  else if s.unitAt pos = s.addr then
    runAll (fun (x : Nat × Word) t => t.restoreEntry x.1 x.2) (s.sys.hist[pos]?.getD {}).words
      (s.setRecord fun r => { r with table := [], dflt := s.defaultTable })
  else s.setSys fun y => { y with restore := some (BitVec.ofNat 8 pos), restorePtr := 0 }

/-- A replaced unit whose restore starts by itself (R512, R519). -/
def State.autoRestore (s : State) : Option Nat :=
  if s.on .HIST_AUTO && s.sys.restore.isNone then
    ((s.otherUnits.filter fun u => u.replaced && u.pres && s.restorable (uPos u.addr)).head?).map fun u => uPos u.addr
  else none

/-- The restore's part of a boundary: outside Parked it is abandoned, to be repeated from its first word at the next Parked; a unit
that is no active Master drops it; for a replaced unit one begins by itself (R519). -/
def State.restoreBoundary (s : State) : State :=
  let t := if s.sys.restore.isSome && !(s.master && s.parked) then
      s.setSys fun y => { y with restore := if s.master then y.restore else none, restorePtr := 0 }
    else s
  match t.autoRestore with
  | some p => t.restoreBegin p
  | none => t

/-- Up to two words of the slot under restore for the next Master frame: the command that opens the unit's window, then the
window's words (R518, R519). -/
def State.restoreWords (s : State) (room : Nat) : List (BitVec 14 × Word) :=
  match s.sys.restore with
  | none => []
  | some p =>
    let h := s.sys.hist[p.toNat]?.getD {}
    if !s.restorable p.toNat then []
    else (List.range (min 2 room)).filterMap fun j =>
      let k := s.sys.restorePtr + j
      if k = 0 then some (0x2A, place 0xC3 8 8 ||| 1)
      else if k ≤ histLen then some (0x29, h.word (k - 1))
      else none

/-- The words have left: at the end of the slot the restore is complete and the unit counts as restored (R519). -/
def State.restoreSent (n : Nat) (s : State) : State :=
  match s.sys.restore with
  | none => s
  | some p =>
    let ptr := s.sys.restorePtr + n
    if ptr ≤ histLen then s.setSys fun y => { y with restorePtr := ptr }
    else
      (s.setUnit (s.unitAt p.toNat) fun u => { u with replaced := false }).setSys fun y =>
        { y with restore := none, restorePtr := 0 }

/-- The Master frame with the words of a restore in its free entries (R398, R518, R519). -/
def State.mfSendAll (s : State) : State :=
  let ws := s.restoreWords s.mfRoom
  let u := s.unitAt ((s.sys.restore.map (·.toNat)).getD 0)
  let es : List RingEnt := ws.map fun w => { s.relayEnt { tag := 0, unit := u, write := true, addr := w.1, data := w.2 } with rseq := 0 }
  (s.mfSend es).restoreSent ws.length

/-- MF_SEND (R398). -/
def execMfSend (s : State) : Host.Outcome State Fault Refusal := .next (if s.mfDue then s.mfSendAll else s)

/-- HIST_CMD.RESTORE (R519): from the ring it opens this unit's window; from the host a Master restores the unit of HIST_SEL. -/
def State.histRestore (path : Path) (s : State) : State :=
  if path = .ring then (if s.parked && s.chg.inForce.isSome then s.restoreOpen else s)
  else s.restoreBegin (s.sys.histUnit.toNat % 256)

/-- HIST_RESTORE (R519). -/
def execHistRestore (path : Path) (key : BitVec 8) (s : State) : Host.Outcome State Fault Refusal :=
  .next (if key == 0xC3 then s.histRestore path else s)

/-! Export and import -/

/-- Header words of a record's accounting part (R276). -/
def IdRec.header (r : IdRec) (i : Nat) : List Byte :=
  let b := match i with
    | 0 => bytesOf 4 (if r.used then 0x4E4D4944 else 0) ++ bytesOf 1 r.code ++ bytesOf 1 0 ++ bytesOf 4 r.useSeq ++ List.replicate 18 0
    | 1 => sbytes 8 r.capU ++ sbytes 4 r.lsb1 ++ bytesOf 2 r.learnCnt ++ List.replicate 14 0
    | _ => bytesOf 4 r.cyc ++ sbytes 8 r.cycRem ++ List.replicate 16 0
  b ++ bytesOf 4 (crc32 b)

/-- Word i of a record's accounting part: header, then slots A and B (R269, R276); zeros where nothing is stored. -/
def IdRec.part (r : IdRec) (i : Nat) : List Byte :=
  let slot (c : Option Ckpt) (second : Bool) : List Byte := match c with
    | some c => if second then c.word1 else c.word0
    | none => []
  if i < 3 then (if r.used then r.header i else [])
  else if i = 3 ∨ i = 4 then slot r.slotA (i == 4)
  else if i = 5 ∨ i = 6 then slot r.slotB (i == 6)
  else []

/-- 32-byte words of an export: one header, eight accounting parts, 256 slots (R520). -/
def exportLen : Nat := 1 + 8 * 512 + 256 * 1024

/-- 4-byte word k of the export (R520). -/
def State.exportWord (s : State) (k : Nat) : Word :=
  let w := k / 8
  if w = 0 then wordAt (bytesOf 4 exportLen ++ bytesOf 1 (s.chg.inForce.getD 255)) (k % 8)
  else if w ≤ 4096 then wordAt ((s.chg.recs[(w - 1) / 512]?.getD {}).part ((w - 1) % 512)) (k % 8)
  else (s.sys.hist[(w - 4097) / 1024]?.getD {}).word (8 * ((w - 4097) % 1024) + k % 8)

/-- One 32-byte word of a record's accounting part is replaced (R520); a slot's second word completes its checkpoint. -/
def IdRec.take (r : IdRec) (i : Nat) (b prev : List Byte) : IdRec :=
  match i with
  | 0 => { r with used := numAt b 0 4 == 0x4E4D4944, code := numAt b 4 1, useSeq := numAt b 6 4 }
  | 1 => { r with capU := snumAt b 0 8, lsb1 := snumAt b 8 4, learnCnt := numAt b 12 2 }
  | 2 => { r with cyc := numAt b 0 4, cycRem := snumAt b 4 8 }
  | 4 => { r with slotA := ckptOf prev b }
  | 6 => { r with slotB := ckptOf prev b }
  | _ => r

/-- One 32-byte word of a slot is replaced (R517, R520). -/
def HistSlot.take (h : HistSlot) (i : Nat) (b : List Byte) : HistSlot :=
  if i = 0 then
    { h with serial := BitVec.ofNat 64 (numAt b 0 8), addr := BitVec.ofNat 16 (numAt b 8 2), record := numAt b 10 1,
             code := numAt b 11 1, seq := numAt b 12 4, used := numAt b 0 8 != 0, words := [] }
  else if i ≤ 960 then
    { h with words := (List.range 8).foldl (fun l j => keyPut (8 * i + j) (wordAt b j) l) h.words }
  else h

/-- Word w of an import takes effect (R520). -/
def State.importWord (w : Nat) (b prev : List Byte) (s : State) : State :=
  if w = 0 then s
  else if w ≤ 4096 then
    { s with chg := { s.chg with recs := s.chg.recs.modify ((w - 1) / 512) fun r => r.take ((w - 1) % 512) b prev } }
  else s.setHist ((w - 4097) / 1024) fun h => h.take ((w - 4097) % 1024) b

/-- An import may run: a Master with both crown switches closed, Parked (R520). -/
def State.importOk (s : State) : Bool := decide (2 ≤ s.ring.role.toNat) && s.crowns && s.parked

/-- HIST_IMPORT (R520). -/
def execHistImport (path : Path) (key : BitVec 8) (s : State) : Host.Outcome State Fault Refusal :=
  let _ := path
  .next (if key == 0xC3 && s.importOk then s.setSys fun y => { y with importing := true, histPtr := 0, winBuf := [] } else s)

/-- A word written during an import: every eighth completes a 32-byte word; after the last, accounting starts from the imported
checkpoint (R271, R520). -/
def State.importTake (d : Word) (s : State) : State :=
  if !s.importOk then s.setSys fun y => { y with importing := false, winBuf := [] }
  else
    let k := s.sys.histPtr
    let buf := s.sys.winBuf ++ [d]
    let cur := buf.drop (buf.length - 8)
    let t := if k % 8 = 7 then s.importWord (k / 8) (cur.flatMap wordBytes) ((buf.take 8).flatMap wordBytes) else s
    let u := t.setSys fun y => { y with histPtr := k + 1, winBuf := if k % 8 = 7 then cur else buf }
    if k + 1 = 8 * exportLen then (u.setSys fun y => { y with importing := false, winBuf := [], histPtr := 0 }).accRestart else u

/-- A word written during a restore of this unit (R519). -/
def State.restoreTake (d : Word) (s : State) : State :=
  if !s.parked then s.setSys fun y => { y with restoreIn := false }
  else
    let k := s.sys.histPtr
    let t := if 8 ≤ k then s.restoreEntry k d else s
    t.setSys fun y => { y with histPtr := if k + 1 = histLen then 0 else k + 1, restoreIn := k + 1 != histLen }

/-- The word that HIST_WIN shows next (R518, R520, R521). -/
def State.winWord (s : State) : Word := if s.sys.histArea then s.exportWord s.sys.histPtr else s.ownHist s.sys.histPtr

/-- The pointer after a read: it starts again after the last word of the area. -/
def SysS.winNext (y : SysS) : SysS :=
  { y with histPtr := if y.histPtr + 1 < (if y.histArea then 8 * exportLen else histLen) then y.histPtr + 1 else 0 }

/-- A write of HIST_WIN: accepted only during restore or import (R521). -/
def State.winWrite (d : Word) (s : State) : State :=
  if s.sys.importing then s.importTake d else if s.sys.restoreIn then s.restoreTake d else s

/-- HIST_WIN_ACCESS (R521). -/
def execHistWinAccess (path : Path) (wr : Option Word) (s : State) : Host.Outcome State Fault Refusal :=
  let _ := path
  .next (match wr with
    | some d => s.winWrite d
    | none => s.setSys SysS.winNext)

end Sys2Proof.Machine
end

