-- ==== Sys2Proof/Machine/RegRead.lean ====
section
/-! DEFINITION. The register map: which addresses hold a register, what a read returns, and what a read does (R13-R15, R473 and
the register tables of every chapter). -/

namespace Sys2Proof.Machine

/-! The map -/

/-- Registers of SYS to CUR/HV/ISO (R472): first address, last address, and whether they have a writable field. -/
def regMapLow : List (Nat × Nat × Bool) := [
  (0x0000, 0x0001, false), (0x0004, 0x0005, false), (0x0006, 0x0007, true), (0x0008, 0x0009, false), (0x000C, 0x000F, false),
  (0x0010, 0x0010, true), (0x0020, 0x0021, false), (0x0022, 0x0022, true), (0x0023, 0x0025, false), (0x0028, 0x002A, true),
  (0x0100, 0x0101, true), (0x0102, 0x0103, false), (0x0104, 0x0105, true), (0x0106, 0x0106, false), (0x0108, 0x010B, false),
  (0x010C, 0x010F, true), (0x0110, 0x0113, false), (0x0118, 0x0118, true), (0x0119, 0x0119, false), (0x011A, 0x011A, true),
  (0x011B, 0x011B, false), (0x0200, 0x0200, true), (0x0201, 0x0201, false), (0x0202, 0x0203, true), (0x0204, 0x020A, false),
  (0x0210, 0x0217, false), (0x0400, 0x045F, false), (0x0460, 0x0477, false), (0x0480, 0x04DF, false), (0x04E0, 0x04E4, false),
  (0x04E5, 0x04E5, true), (0x0500, 0x0506, false), (0x0508, 0x050C, false), (0x0510, 0x0514, false), (0x0518, 0x051C, false)]

/-- Registers of THM to LIM. -/
def regMapMid : List (Nat × Nat × Bool) := [
  (0x0600, 0x0628, false), (0x0630, 0x0637, false), (0x0640, 0x0645, false), (0x0648, 0x0648, false), (0x0650, 0x065B, false),
  (0x0660, 0x0661, false), (0x0668, 0x066B, false), (0x0700, 0x0701, true), (0x0702, 0x0704, false), (0x0708, 0x070A, true),
  (0x070C, 0x070E, false), (0x0710, 0x0712, false), (0x0714, 0x0716, false), (0x0718, 0x0719, false), (0x071C, 0x071C, true),
  (0x071D, 0x071D, false), (0x0720, 0x07DF, false), (0x0800, 0x0800, true), (0x0801, 0x0801, false), (0x0804, 0x0813, false),
  (0x0814, 0x0814, true), (0x0815, 0x0818, false), (0x0880, 0x08DF, false), (0x0A00, 0x0A10, false), (0x0A20, 0x0A30, false)]

/-- Registers of PROT to RING. -/
def regMapHigh : List (Nat × Nat × Bool) := [
  (0x0C00, 0x0C00, true), (0x0C01, 0x0C04, false), (0x0C05, 0x0C05, true), (0x0C06, 0x0C08, false), (0x0C10, 0x0C18, false),
  (0x0C20, 0x0C38, false), (0x0C40, 0x0C63, false), (0x0E00, 0x0E00, true), (0x0E01, 0x0E01, false), (0x0E02, 0x0E02, true),
  (0x0E03, 0x0E13, false), (0x0E20, 0x0E26, false), (0x0E30, 0x0E30, true), (0x0E31, 0x0E33, false), (0x1000, 0x1000, false),
  (0x1001, 0x1001, true), (0x1002, 0x1004, false), (0x1008, 0x100B, false), (0x100C, 0x100F, true), (0x1010, 0x1013, false),
  (0x1014, 0x1017, true), (0x1018, 0x101F, false), (0x1020, 0x1020, true), (0x1021, 0x1026, false), (0x1028, 0x1029, false),
  (0x1030, 0x1030, true), (0x1031, 0x1031, false), (0x1200, 0x1200, true), (0x1201, 0x1205, false), (0x1206, 0x1208, true),
  (0x1210, 0x1217, false), (0x1400, 0x1400, true), (0x1401, 0x1408, false), (0x1410, 0x1416, false), (0x1418, 0x1418, true),
  (0x1419, 0x141A, false), (0x1420, 0x1422, false), (0x1424, 0x1425, false)]

/-- Registers of PMC, CORE and PWR. -/
def regMapTop : List (Nat × Nat × Bool) := [
  (0x1A00, 0x1A00, true), (0x1A10, 0x1A1F, true), (0x1A20, 0x1A2F, false), (0x1A30, 0x1A30, true), (0x1C00, 0x1C00, true),
  (0x1C01, 0x1C04, false), (0x1C08, 0x1C08, true), (0x1C09, 0x1C09, false), (0x1C0A, 0x1C0A, true), (0x1C0B, 0x1C0C, false),
  (0x1C10, 0x1C1F, true), (0x1E00, 0x1E00, true), (0x1E01, 0x1E03, false), (0x1E04, 0x1E04, true), (0x1E05, 0x1E08, false)]

/-- Registers of a CAN port by their offset in the port's block (R451). -/
def regMapCan : List (Nat × Nat × Bool) := [
  (0x00, 0x00, true), (0x01, 0x0E, false), (0x10, 0x10, false), (0x11, 0x11, true), (0x12, 0x24, false), (0x25, 0x35, true),
  (0x40, 0x7F, false)]

/-- The port whose register block holds an address, with the offset (R451). -/
def canBlock (a : Nat) : Option (CPort × Nat) :=
  if 0x1600 ≤ a ∧ a < 0x1800 then some (.can1, a - 0x1600)
  else if 0x1800 ≤ a ∧ a < 0x1A00 then some (.can2, a - 0x1800)
  else none

/-- The message object whose registers hold an address: port, object and word (R452). -/
def objBlock (a : Nat) : Option (CPort × Nat × Nat) :=
  if 0x2000 ≤ a ∧ a < 0x2400 then some (.can1, (a - 0x2000) / 8, a % 8)
  else if 0x2400 ≤ a ∧ a < 0x2800 then some (.can2, (a - 0x2400) / 8, a % 8)
  else none

/-- The row of a map that holds an address. -/
def regFind (l : List (Nat × Nat × Bool)) (a : Nat) : Option Bool :=
  (l.find? fun r => decide (r.1 ≤ a ∧ a ≤ r.2.1)).map (·.2.2)

/-- Whether an address holds a register, and whether it has a writable field; none for a reserved address (R15). -/
def regAt (a : Nat) : Option Bool :=
  match objBlock a with
  | some (_, _, w) => if w = 7 then none else some (w == 3 || w == 4)
  | none => match canBlock a with
    | some (_, o) => regFind regMapCan o
    | none => regFind (regMapLow ++ regMapMid ++ regMapHigh ++ regMapTop) a

/-- The block of an address as far as R134 and R508 tell blocks apart: SYS or CFG, PWR, another. -/
def alwaysUp (a : Nat) : Bool := decide (a < 0x0100 ∨ (0x0200 ≤ a ∧ a < 0x0400))

/-- Address of the PWR block. -/
def isPwr (a : Nat) : Bool := decide (0x1E00 ≤ a ∧ a < 0x2000)

/-- STATUS for one address (R134, R457, R458, R508): 2, 3, 5 or 1. -/
def State.regStatus (s : State) (write : Bool) (a : Nat) : Nat :=
  let starting := match s.pwr.state with
    | .start k => decide (k ≤ 5)
    | _ => false
  match regAt a with
  | none => 3
  | some w =>
    if write && !w then 2
    else if !starting && s.cfg.image.isNone && !alwaysUp a then 3
    else if starting && !alwaysUp a && !isPwr a then 5
    else 1

/-! Helpers -/

/-- The latest staged write of an address that has not become active: what an RW field reads (R13, R33). -/
def State.lastStaged (s : State) (a : Nat) : Option Word :=
  ((s.beat.staged.filter fun x => x.addr.toNat == a).getLast?).map (·.data)

/-- An image field: 0 until an image is loaded (R16). -/
def State.ofImage (s : State) (w : Word) : Word := if s.cfg.image.isSome then w else 0

/-- A parameter placed in a field. -/
def State.pfield (s : State) (p : Param) (i lo w : Nat) : Word := splace (s.par p i) lo w

/-- The flags VALID, STALE, RANGE, OVL (R176). -/
def Val.nibble (v : Val) : Nat := packBits [v.valid, v.stale, v.range, v.ovl]

/-- The flags of a cell (R175). -/
def Val.flags (v : Val) : Nat := packBits [v.valid, v.stale, v.range, v.ovl, v.invalid, v.balAff, v.chkDiff, v.unpop]

/-- Four bytes of flags in one register, byte j for item 4k + j. -/
def flagWord (f : Nat → Nat) (k : Nat) : Word := orAll ((List.range 4).map fun j => place (f (4 * k + j)) (8 * j) 8)

/-- Bits of a list of flags placed from bit lo on. -/
def flagsAt (l : List Bool) (lo : Nat) : Word := place (packBits l) lo l.length

/-- The channel that the PROT, ESC and input registers show: A, or the survivor after the loss of A (R318, R366). -/
def State.shownCh (s : State) : Ch := if s.runs .a then .a else .b

/-- The fault collection as its registers show it (R366). -/
def State.fltView (s : State) : State :=
  match s.fltShown with
  | some x => { s with flt := x.flt, beat := { s.beat with num := x.beat } }
  | none => s

/-- FLT_STAT.NFLT (R366, R378). -/
def State.nfltShown (s : State) : Bool :=
  match s.fltShown with
  | some x => x.nflt
  | none => s.nflt

/-! SYS, BEAT, CFG -/

/-- SYS (R473, R521). -/
def State.readSys (s : State) (a : Nat) : Word :=
  let h := s.host
  let y := s.sys
  match a with
  | 0x00 => place y.order 24 8 ||| place y.sirev 16 8 ||| place fmtMax 8 8 ||| place bclMax 0 8
  | 0x01 => s.ofImage (place s.addr.toNat 16 16 ||| s.pfield .REQ_SRC 0 0 3)
  | 0x04 => place h.seqLast.toNat 24 8 ||| place h.seqStatus 20 4 ||| place h.newest.toNat 0 16
  | 0x05 =>
    let oldest := match h.reports with
      | r :: _ => bits (r.headD 0) 16 16
      | [] => h.newest.toNat + 1
    place oldest 16 16 ||| place h.repLost 8 8 ||| place h.reports.length 0 7
  | 0x06 => place h.hstr.toNat 0 8
  | 0x07 => flagsAt [h.enRep, s.flt.hopen, !h.reports.isEmpty] 0
  | 0x08 => place h.errCrc 16 16 ||| place h.errFrame 0 16
  | 0x09 => place h.rmtTmo 16 16 ||| place h.relays.length 0 6
  | 0x0C | 0x0D | 0x0E | 0x0F => (h.reports.headD []).getD (a - 0x0C) 0
  | 0x20 => nword y.serial.toNat
  | 0x21 => y.snHi.getD (nword (y.serial.toNat / 2 ^ 32))
  | 0x22 => nword y.dsel.toNat
  | 0x23 | 0x24 | 0x25 => nword ((y.did[y.dsel.toNat]?.getD 0).toNat / 2 ^ (32 * (a - 0x23)))
  | 0x28 => place y.histUnit.toNat 16 16 ||| flag y.histArea 0
  | 0x29 => s.winWord
  | _ => 0

/-- BEAT (R108). -/
def State.readBeat (s : State) (a : Nat) : Word :=
  let b := s.beat
  if 0x108 ≤ a ∧ a ≤ 0x10B then
    let w := a - 0x108
    s.pfield .GROUP w 16 4 ||| s.pfield .OFS w 6 10 ||| place (s.winLen w - 1) 3 3 ||| s.pfield .MODE w 1 2 ||| flag (s.winEn w) 0
  else if 0x10C ≤ a ∧ a ≤ 0x10F then place ((s.lastStaged a).getD (nword (b.wins[a - 0x10C]?.getD {}).next)).toNat 0 10
  else match a with
    | 0x100 => place b.holdover.toNat 8 8 ||| place ((s.lastStaged a).getD (nword b.srcSel.toNat)).toNat 0 2
    | 0x101 =>
      splace (sat b.phaseErr 16) 16 16 ||| flag b.selRej 6 ||| flag b.detVoid 5 ||| flag b.ovr 4 |||
        place (match b.lock with | .free => 0 | .acquiring => 1 | .locked => 2 | .holdover => 3) 2 2 ||| place (if s.ownBeat then b.srcSel.toNat else 0) 0 2
    | 0x102 => b.num
    | 0x103 => nword b.period
    | 0x104 => place b.syncPhase.toNat 16 10 ||| place b.cantPhase.toNat 0 10
    | 0x105 => flagsAt [b.riseBeat, b.fallWin] 0
    | 0x106 => place b.missed 24 8 ||| place b.extra 16 8 ||| place b.lastEdge 0 16
    | 0x110 => nword b.winStat.toNat
    | 0x111 => place b.worst 16 16 ||| place b.ovrCnt 0 16
    | 0x112 => s.sbn
    | 0x113 => b.sbOfs.getD 0
    | 0x118 => flagsAt [s.core.rpl.en, s.core.rpl.rawCell, s.core.rpl.bank] 0
    | 0x119 => s.core.rpl.stat
    | 0x11B => nword (numAt s.core.rpl.out 0 4)
    | _ => 0

/-- CFG_ALT_VER (R137). -/
def State.altVer (s : State) : Nat :=
  match s.cfg.image, s.cfg.active with
  | some _, some b => let o := s.cfg.bank (!b); if o.state = .empty then 0 else o.ver
  | _, _ => ((s.cfg.find [.previous]).map fun b => (s.cfg.bank b).ver).getD 0

/-- CFG (R137). -/
def State.readCfg (s : State) (a : Nat) : Word :=
  let c := s.cfg
  let g := s.img
  if 0x210 ≤ a ∧ a ≤ 0x217 then s.ofImage (nword (numAt g.digest (4 * (a - 0x210)) 4))
  else match a with
    | 0x201 => s.cfgStat
    | 0x202 => place c.waddr 0 19
    | 0x204 => s.ofImage (nword g.ver)
    | 0x205 => nword s.altVer
    | 0x206 => s.ofImage (place g.fmt 16 16 ||| place g.bcl 0 16)
    | 0x207 => place (if s.inTrial then ceilDiv (c.trialLimit - c.trialElapsed) 1000 else 0) 16 16 ||| s.ofImage (place g.trialS 0 16)
    | 0x208 => c.errWord
    | 0x209 => place (2 ^ (c.keys.length - 1) - 1) 4 4 ||| place (2 ^ c.keys.length - 1) 0 4
    | 0x20A => place c.revertCnt 16 16 ||| place c.actCnt 0 16
    | _ => 0

/-! CELL, CUR/HV/ISO, THM -/

/-- CELL (R175), from the host-visible copy (R172, R173). -/
def State.readCell (s : State) (a : Nat) : Word :=
  let v := s.visible
  if a ≤ 0x45F then sword (v.cell[a - 0x400]?.getD {}).code
  else if a ≤ 0x47F then flagWord (fun i => (v.cell[i]?.getD {}).flags) (a - 0x460)
  else if a ≤ 0x4DF then
    let x := v.chk[a - 0x480]?.getD {}
    place x.age 24 8 ||| splace (4 * floorDiv x.code 4) 0 24
  else match a with
    | 0x4E0 => v.beat
    | 0x4E1 => sword v.cellSum
    | 0x4E2 => place v.cellMax.1 25 7 ||| splace v.cellMax.2 0 18
    | 0x4E3 => place v.cellMin.1 25 7 ||| splace v.cellMin.2 0 18
    | 0x4E4 => v.chkCnt
    | 0x4E5 => flag s.meas.snap.isSome 0
    | _ => 0

/-- CUR, HV and ISO (R176), from the host-visible copy. -/
def State.readCur (s : State) (a : Nat) : Word :=
  let v := s.visible
  let i := v.iso
  let cur (c : Nat) : Val := v.cur[c]?.getD {}
  let q (c : Nat) : Int × Int := v.q[c]?.getD (0, 0)
  match a with
  | 0x500 | 0x501 => sword (cur (a - 0x500)).code
  | 0x502 | 0x503 => sword (s.curMa (a - 0x502) (cur (a - 0x502)).code)
  | 0x504 | 0x505 => sword (s.curLsb (a - 0x504))
  | 0x506 => flag v.slow 8 ||| place (cur 1).nibble 4 4 ||| place (cur 0).nibble 0 4
  | 0x508 => sword (q 0).1
  | 0x509 => s.meas.q1Hi.getD (hi64 (q 0).1)
  | 0x50A => sword (q 1).1
  | 0x50B => s.meas.q2Hi.getD (hi64 (q 1).1)
  | 0x50C => place v.subst 16 16 ||| splace (q 1).2 4 4 ||| splace (q 0).2 0 4
  | 0x510 | 0x511 | 0x512 | 0x513 => sword (v.hv[a - 0x510]?.getD {}).code
  | 0x514 => orAll ((List.range 4).map fun h => place (v.hv[h]?.getD {}).nibble (4 * h) 4)
  | 0x518 => place i.rp 0 16
  | 0x519 => place i.rn 0 16
  | 0x51A =>
    place i.min 16 16 ||| place (if s.on .ISO_EN then i.cause else if s.cfg.image.isSome then 1 else 0) 12 4 |||
      flagsAt [i.rpLow, i.rpHigh, i.rnLow, i.rnHigh, i.warn, i.trip, i.phaseN] 5 ||| flag i.valid 0
  | 0x51B => s.pfield .ISO_WARN 0 16 16 ||| s.pfield .ISO_TRIP 0 0 16
  | 0x51C => flag (s.on .ISO_EN) 16 ||| s.pfield .ISO_PHASE 0 0 14
  | _ => 0

/-- Flags of a thermistor (R177); AGE reads 0 until the first conversion (R16). -/
def Therm.flags (t : Therm) : Nat :=
  packBits [t.valid, t.opn, t.short, t.range, t.unpop] + (if t.a = 0 && !t.short then 0 else 32 * min 7 t.age)

/-- THM (R177, R389). -/
def State.readThm (s : State) (a : Nat) : Word :=
  let v := s.visible
  let t := s.visibleThm
  let grp (g : Nat) : GrpS := t.grp[g]?.getD {}
  if a ≤ 0x61F then
    let x := v.thm[a - 0x600]?.getD {}
    place x.a 16 16 ||| splace (if x.valid then x.temp else -32768) 0 16
  else if a ≤ 0x627 then flagWord (fun i => (v.thm[i]?.getD {}).flags) (a - 0x620)
  else if a = 0x628 then flag v.id.valid 31 ||| place v.id.code 24 6 ||| place (min 262143 v.id.ohm) 0 18
  else if a ≤ 0x637 then sword (v.die[a - 0x630]?.getD 0)
  else if a ≤ 0x645 then
    let x := grp (a - 0x640)
    place x.state 30 2 ||| flag x.noSens 29 ||| place x.sens 21 6 ||| splace x.temp 0 16
  else if a = 0x648 then
    place t.worst 14 2 ||| place ((positions (fun x : GrpS => x.state == t.worst) t.grp).headD 0) 11 3 |||
      place t.strWorst 9 2 ||| flag t.fast 8 ||| place t.chg 0 8
  else if a ≤ 0x65B then
    let g := (a - 0x650) / 2
    if a % 2 = 0 then s.pfield .TW_g g 16 16 ||| s.pfield .TT_g g 0 16
    else s.pfield .TS_g g 16 16 ||| s.pfield .HYS_g g 0 16
  else if a = 0x660 then flag t.exc.isSome 31 ||| flag t.oor 30 ||| place t.excCnt 0 16
  else if a = 0x661 then nword ((t.exc.map (·.1)).getD t.excLen)
  else orAll ((List.range 8).map fun j => s.pfield .GRP (8 * (a - 0x668) + j + 1) (4 * j) 4)

/-! BAL, IMP -/

/-- Worst segment group as BAL_STAT codes it (R222): 0 normal, 1 throttle, 2 shutdown. -/
def State.segTherm (s : State) : Nat := maxN ((List.range 4).map fun g => s.grpEff g - 1)

/-- BAL (R222). -/
def State.readBal (s : State) (a : Nat) : Word :=
  let b := s.bal
  let set (f : Nat → Bool) (k : Nat) : Word := vecWord (fun i => decide (i < 96) && f (i + 1)) k
  if 0x720 ≤ a ∧ a ≤ 0x77F then sword (s.sw (a - 0x71F)).ua
  else if 0x780 ≤ a then
    let x := b.rw[a - 0x780]?.getD (false, 0)
    flag x.1 15 ||| place x.2 0 11
  else if 0x708 ≤ a ∧ a ≤ 0x70A then (s.lastStaged a).getD (b.req[a - 0x708]?.getD 0)
  else if 0x70C ≤ a ∧ a ≤ 0x70E then set (fun n => (s.sw n).on) (a - 0x70C)
  else if 0x710 ≤ a ∧ a ≤ 0x712 then set s.excited (a - 0x710)
  else if 0x714 ≤ a ∧ a ≤ 0x716 then set (fun n => (s.sw n).lock) (a - 0x714)
  else match a with
    | 0x700 =>
      (s.lastStaged a).getD (place b.tmo.toNat 16 16 ||| place b.duty.toNat 8 5 ||| place b.src.toNat 0 2) |||
        flag (s.on .EXC_EN) 3 ||| flag (s.on .BAL_MODE) 2
    | 0x701 =>
      place b.strAge 24 8 ||| flagsAt b.inhB 20 ||| flagsAt ((List.range 4).map fun g => s.beat.running && !s.rwReady g) 16 |||
        flagsAt b.swFlt 12 ||| flag b.tmoFlag 11 ||| place s.segTherm 9 2 |||
        place (if s.beat.running then (List.range 4).foldl (fun d g => min d (s.dutyOn g)) 16 else 0) 4 5
    | 0x702 => splace b.strMin 0 18
    | 0x703 => s.pfield .ON_DELTA 0 16 16 ||| s.pfield .OFF_DELTA 0 0 16
    | 0x704 => s.pfield .BAL_THR_DUTY 0 24 4 ||| s.pfield .BAL_VMIN 0 0 18
    | 0x718 => flag b.run.isSome 31 ||| place ((b.run.map (·.half)).getD 0) 0 26
    | 0x719 => place b.broken 16 16 ||| place b.runs 0 16
    | 0x71D => b.wireStat
    | _ => 0

/-- A result as IMP_RES0 and IMP_RES1 lay it out (R246). -/
def resWord (second : Bool) (valid : Bool) (mag : Nat) (ph : Int) (coh : Nat) : Word :=
  if second then splace ph 16 16 ||| place coh 0 16 else flag valid 31 ||| place mag 0 24

/-- The selection window of IMP_SEL (R246): word 0 to 2. -/
def State.impWindow (s : State) (w : Nat) : Word :=
  let i := s.imp
  let n := i.selCell.toNat
  let k := i.selSlot.toNat
  if i.selSrc then
    let r := s.chg.recsShown[i.selRec.toNat]?.getD {}
    match r.entry n i.selT.toNat i.selS.toNat k with
    | some e => if w = 2 then place e.n 0 8 else resWord (w == 1) (e.n != 0) e.mag e.ph e.coh
    | none =>
      let d := r.default i.selT.toNat i.selS.toNat k
      if w = 2 then 0 else resWord (w == 1) false d.1.toNat d.2 0
  else
    let r := (i.slots[k]?.getD {}).res[n - 1]?.getD {}
    if n = 0 ∨ 96 < n then 0 else if w = 2 then r.beat else resWord (w == 1) r.valid r.mag r.ph r.coh

/-- IMP (R246). -/
def State.readImp (s : State) (a : Nat) : Word :=
  let i := s.imp
  if 0x880 ≤ a then
    let t := s.tint (a - 0x87F)
    flag t.isSome 31 ||| splace (t.getD (-32768)) 0 16
  else if 0x804 ≤ a ∧ a ≤ 0x807 then s.pfield .IMP_SRC (a - 0x804) 30 2 ||| s.pfield .FREQ (a - 0x804) 0 21
  else if 0x808 ≤ a ∧ a ≤ 0x80B then place (s.slotH (a - 0x808)) 0 26
  else if 0x80C ≤ a ∧ a ≤ 0x80F then place (s.slotNB (a - 0x80C)) 0 17
  else match a with
    | 0x800 => (s.lastStaged a).getD (flagsAt [i.en, i.swEn, i.reqEn] 0)
    | 0x801 =>
      flag (i.en && !s.analysisOn) 7 ||| flag i.req.isSome 6 ||| place ((i.req.map (·.slot)).getD 0) 4 2 |||
        place ((s.bal.run.map (·.slot)).getD 0) 2 2 ||| place ((s.bal.run.map (·.group)).getD 3) 0 2
    | 0x810 => s.pfield .IMP_NAVG 0 24 8 ||| s.pfield .IMP_CYC 0 16 8 ||| s.pfield .IMP_COHMIN 0 0 16
    | 0x811 => s.pfield .IMP_ALPHA 0 24 8 ||| s.pfield .IMP_TSLOT 0 16 3 ||| s.pfield .IMP_IMIN 0 0 16
    | 0x812 => flag i.req.isSome 31 ||| place ((i.req.map (·.freq)).getD 0) 0 21
    | 0x813 => s.pfield .IMP_REQ_AMP 0 0 16
    | 0x814 =>
      flag i.selSrc 31 ||| place i.selRec.toNat 24 3 ||| place i.selT.toNat 20 3 ||| place i.selS.toNat 16 4 |||
        place i.selSlot.toNat 8 2 ||| place i.selCell.toNat 0 7
    | 0x815 => s.impWindow 0
    | 0x816 => s.impWindow 1
    | 0x817 => s.impWindow 2
    | 0x818 => place i.inv 16 16 ||| place i.val 0 16
    | _ => 0

/-! EST, LIM -/

/-- EST (R278): the accounting as shown since the latest boundary. -/
def State.readEst (s : State) (a : Nat) : Word :=
  let c := s.chg
  let x := c.shown
  match a with
  | 0xA00 => flag c.est.valid 31 ||| flag x.unanch 30 ||| splace x.soc 0 17
  | 0xA01 => splace x.u 0 17
  | 0xA02 =>
    place x.anchType 8 2 ||| flag x.learn 7 ||| flag c.est.slow 6 ||| flag c.est.swap 5 ||| flag (decide (x.capU < x.qc)) 4 |||
      flag (decide (x.qc < 0)) 3 ||| flag x.starved 2 ||| flag x.conflict 1
  | 0xA03 => flag x.stale 31 ||| splace x.conf 17 14 ||| splace x.socV 0 17
  | 0xA04 => place (uPos x.vmin.unit) 24 8 ||| place x.vmin.cell 17 7 ||| splace (clamp 0 131071 x.vmin.code) 0 17
  | 0xA05 => sword (s.mAh x.qc)
  | 0xA06 => sword (s.mAh x.capU)
  | 0xA07 => s.pfield .CAP_NOM 0 0 32
  | 0xA08 => sword x.qc
  | 0xA09 => c.qcHi.getD (hi64 x.qc)
  | 0xA0A => nword x.cyc
  | 0xA0B => nword x.age
  | 0xA0C => place c.anVolt 24 8 ||| place c.anEmpty 16 8 ||| place c.anFull 8 8 ||| place c.anLearn 0 8
  | 0xA0D =>
    flagsAt c.est.used 24 ||| place c.est.code 8 8 ||| flag c.est.record.isNone 3 ||| place (c.est.record.getD 0) 0 3
  | 0xA0E => place c.substBeats 16 16 ||| place (min 255 (x.taper / 1000)) 8 8 ||| place x.srcNow 0 2
  | 0xA0F => place (min 65535 (x.confCnt / 1000)) 16 16 ||| place (min 65535 (x.rest / 1000)) 0 16
  | 0xA10 => sword x.vmin.code
  | _ => 0

/-- LIM and SOH (R295): the publication as shown since the latest boundary. -/
def State.readLim (s : State) (a : Nat) : Word :=
  let p := s.lim.shown
  match a with
  | 0xA20 | 0xA21 | 0xA22 => sword (p.chg[a - 0xA20]?.getD 0)
  | 0xA23 | 0xA24 | 0xA25 => sword (-(p.dis[a - 0xA23]?.getD 0))
  | 0xA26 => sword p.cvl
  | 0xA27 => sword p.erem
  | 0xA28 => splace p.sohC 0 16
  | 0xA29 => splace p.sohRMax 16 16 ||| splace p.sohRMean 0 16
  | 0xA2A => place p.worstUnit.toNat 16 16 ||| place p.ownGrowth 7 9 ||| place p.worstCell 0 7
  | 0xA2B => flag p.valid 31 ||| place p.stat.toNat 0 16
  | 0xA2C => splace p.fChg 16 16 ||| splace p.fDis 0 16
  | 0xA2D => place p.cellC.1.toNat 16 16 ||| place p.cellC.2 0 7
  | 0xA2E => place p.cellD.1.toNat 16 16 ||| place p.cellD.2 0 7
  | 0xA2F => place p.growth 16 16 ||| place s.lim.zeroCnt 0 16
  | 0xA30 => p.beat
  | _ => 0

/-! PROT, OUT, IN, ESC -/

/-- The parameters that PROT_PAR0 to PROT_PAR35 show, in their order (R318). -/
def protPars : List Param := [
  .OV_LIM, .OV_TRIP, .UV_LIM, .UV_TRIP, .V_HYS, .DEB_V, .DEB_CHK, .OT_LIM, .OT_TRIP, .UT_LIM, .UT_TRIP, .T_HYS] ++ [
  .DEB_T, .ICONT_CHG, .ICONT_DIS, .I2T_MAX, .ITRIP_CHG, .ITRIP_DIS, .FT_VOTE, .ISO_DEB, .T_PULLIN, .ECO_DUTY, .PC_PCT, .PC_TMIN] ++ [
  .PC_TMAX, .PC_RETRY, .PC_COOL, .T_OVL, .T_FTC, .I_OPEN, .T_CURFREE, .T_NEG_DLY, .T_WELD, .WELD_PCT, .T_MIRROR, .IN_DEB]

/-- PROT, OUT and IN (R318). -/
def State.readProt (s : State) (a : Nat) : Word :=
  let f := s.safe
  let c := s.chan s.shownCh
  let out (n : Nat) : OutS := f.out[n]?.getD {}
  if 0xC40 ≤ a then sword (((protPars[a - 0xC40]?).map fun p => s.par p).getD 0)
  else if 0xC31 ≤ a then place (s.nat .IN_OUT (a - 0xC30) - 1) 8 3 ||| s.pfield .FUNC (a - 0xC30) 0 3
  else if a = 0xC30 then
    flagsAt ((List.range 8).map fun i => s.inputOf .a i && s.inputOf .b i) 16 ||| flagsAt s.chb.inp 8 ||| flagsAt s.cha.inp 0
  else if 0xC28 ≤ a then nword (out (a - 0xC28)).ops
  else if 0xC20 ≤ a then place (out (a - 0xC20)).coil 0 16
  else if a = 0xC18 then
    flagsAt (f.out.map fun x => x.coilFault || x.locked) 24 ||| flagsAt (f.out.map fun x => x.rbL == .low) 16 |||
      flagsAt (f.out.map fun x => x.rbH == .high) 8 ||| flagsAt ((List.range 8).map s.cmdClosed) 0
  else if 0xC10 ≤ a then flag (s.outFast (a - 0xC0F)) 8 ||| place (s.outRole (a - 0xC0F)) 0 3
  else match a with
    | 0xC01 =>
      place f.lastSrc 21 3 ||| flag c.seq.toSafe 20 ||| place f.result 16 4 ||| place f.refuse 12 4 ||| place c.seq.retry 10 2 |||
        place c.seq.step 4 3 ||| place c.seq.state.code 0 3
    | 0xC02 => place f.pct 0 16
    | 0xC03 => f.cbeat
    | 0xC04 => place c.shownCond.toNat 0 15
    | 0xC05 => place f.latch.toNat 0 15
    | 0xC06 => place c.lreq.toNat 0 4
    | 0xC07 => splace (floorDiv (1000 * (c.acc : Int)) (s.par .I2T_MAX * 1000000000)) 0 10
    | 0xC08 => place f.worstUnit.toNat 16 16 ||| place f.worstCell 0 7
    | _ => 0

/-- ESC_STAT.LOST (R346). -/
def State.lostField (s : State) : Nat :=
  if s.cha.declared && s.chb.declared then 3 else if s.chb.declared then 1 else if s.cha.declared then 2 else 0

/-- The channel whose run-down RD_STAT shows: B when it alone has declared the other lost, else as the other registers (R329, R331). -/
def State.rdCh (s : State) : Ch := if s.chb.declared && !s.cha.declared then .b else s.shownCh

/-- RD_STAT (R346): state, lost channel and remaining seconds of a run-down. -/
def State.rdStat (s : State) : Word :=
  let q := (s.chan s.rdCh).seq
  let st := if q.rdExpired then 3 else if q.state = .rundown then (if q.rdWarned then 2 else 1) else 0
  let lost := if q.state = .rundown then lostCode s.rdCh else s.lostField % 3
  place st 30 2 ||| place lost 28 2 |||
    place (if q.state = .rundown then ceilDiv (beatsOfSec (s.nat .RUNDOWN_MAX) - q.rd) 1000 else 0) 0 15

/-- ESC (R346). -/
def State.readEsc (s : State) (a : Nat) : Word :=
  let f := s.safe
  let t := f.tp
  let k := f.bsel.toNat
  let rx := (s.chan s.shownCh).tel[f.telSel.toNat]?.getD {}
  let eb (o : EscOut) : Nat := packBits [o.openReq, o.safeReq, o.closePermit, o.fastTrip, o.nflt, o.inh]
  if 0xE04 ≤ a ∧ a ≤ 0xE0B then vecWord (fun i => (s.cha.esc[i]?.getD {}).out) (a - 0xE04)
  else if 0xE0C ≤ a ∧ a ≤ 0xE13 then vecWord (fun i => (s.chb.esc[i]?.getD {}).out) (a - 0xE0C)
  else match a with
    | 0xE00 =>
      flag f.hostLost 26 ||| flag (s.ringLost || s.trunkLost) 25 ||| flag f.x.xflt 24 ||| place s.lostField 22 2 |||
        place (eb s.chb.out) 8 6 ||| place (eb s.cha.out) 0 6
    | 0xE01 => place f.x.first 24 8 ||| place f.x.diffCnt 0 16
    | 0xE02 => place k 0 8
    | 0xE03 =>
      flag (s.cha.esc[k]?.getD {}).out 31 ||| flag (s.chb.esc[k]?.getD {}).out 30 ||| place (s.block k).type 16 8 |||
        place (if (s.block k).type = 5 ∨ (s.block k).type = 7 then (s.cha.esc[k]?.getD {}).cnt else 0) 0 16
    | 0xE20 => s.rdStat
    | 0xE21 => s.pfield .RUNDOWN_MAX 0 0 32
    | 0xE22 => s.pfield .RD_CCL 0 0 32
    | 0xE23 => s.pfield .RD_DCL 0 0 32
    | 0xE24 => s.pfield .TP_PER 0 24 6 ||| s.pfield .TP_ON_LEN 0 16 8 ||| s.pfield .TP_OFF_LEN 0 0 9
    | 0xE25 =>
      flagsAt (f.out.map (·.tpFail)) 24 ||| place t.abs 16 8 ||| place t.pass 8 8 ||| flag t.side 4 ||| flag t.kind 3 ||| place t.out 0 3
    | 0xE26 => flagsAt f.disc 16 ||| flagsAt s.chb.tstBad 8 ||| flagsAt s.cha.tstBad 0
    | 0xE30 => place f.telSel.toNat 0 6
    | 0xE31 =>
      flag rx.lost 31 ||| flag rx.single.isSome 30 ||| flag rx.rdLast 29 ||| place ((rx.last.map (·.1.toNat)).getD 0) 0 16
    | 0xE32 => place rx.diff 16 16 ||| place rx.bad 0 16
    | 0xE33 => place rx.singleCnt 16 16 ||| place f.txDiff 0 16
    | _ => 0

/-! FLT, LOG -/

/-- FLT (R378), of the view of R366. -/
def State.readFlt (s : State) (a : Nat) : Word :=
  let v := s.fltView
  let f := v.flt
  let src (i : Nat) : FsSrc := f.src[i]?.getD {}
  let pres := positions FsSrc.pres f.src
  let k := f.sel.toNat
  if 0x1008 ≤ a ∧ a ≤ 0x101F then
    let w := (a - 0x1008) % 4
    match (a - 0x1008) / 4 with
    | 0 => vecWord (fun i => (src i).pres) w
    | 1 => vecWord (fun i => (src i).latch) w
    | 2 => vecWord (fun i => (src i).sevp) w
    | 3 => vecWord (fun i => (src i).sevl) w
    | 4 => vecWord (fun i => f.hmerge.contains i) w
    | _ => vecWord v.fsafe w
  else match a with
    | 0x1000 =>
      flag f.rloop 18 ||| flag s.nfltShown 17 ||| flag f.hopen 16 ||| place pres.length 8 8 ||| flag (!pres.isEmpty) 7 |||
        place (pres.headD 0) 0 7
    | 0x1002 => place f.hkind 16 2 ||| place f.hsrc 0 7
    | 0x1003 => f.hbeat
    | 0x1004 => place f.hreact.toNat 16 6 ||| place f.hcnt 0 16
    | 0x1020 => place k 0 7
    | 0x1021 => s.pfield .W k 16 16 ||| s.pfield .N k 8 8 ||| flag (s.on .TR_EV k) 0
    | 0x1022 => s.pfield .REACT_SEV k 8 6 ||| s.pfield .REACT_EV k 0 6
    | 0x1023 => place (src k).trans 16 16 ||| place (src k).events 0 16
    | 0x1024 => (src k).first
    | 0x1025 => (src k).last
    | 0x1026 => place (((src k).ev.filter fun b => decide ((v.beat.num - b).toNat < s.nat .W k)).length) 0 8
    | 0x1028 => place f.trapAddr.toNat 8 24 ||| flag f.trapDie 7 ||| place f.trapSrc.toNat 0 7
    | 0x1029 => place f.rstCnt 0 8
    | 0x1031 => place f.injCause 8 4 ||| place f.injTarget 3 5 ||| place f.injState 0 2
    | _ => 0

/-- LOG (R491): reads of LOG_RD0 return the capture that the read takes. -/
def State.readLog (s : State) (path : Path) (a : Nat) : Word :=
  let l := s.log
  if a = 0x1210 then l.capture.headD 0
  else if 0x1211 ≤ a then (match path with | .host => l.holdHost | .ring => l.holdRing).getD (a - 0x1210) 0
  else match a with
    | 0x1201 =>
      flag l.clear.isSome 10 ||| flag (decide (0 < l.lostCnt) || l.lost.isSome) 9 ||| flag l.calValid 8 ||| place l.queue.length 0 7
    | 0x1202 => l.newest
    | 0x1203 => l.oldest
    | 0x1204 => place l.lostCnt 16 16 ||| place l.merged 0 16
    | 0x1205 => s.pfield .REP_WIN 0 0 12
    | 0x1206 => l.snapSec
    | 0x1207 => place l.snapFrac.toNat 0 16
    | 0x1208 => l.rsel
    | _ => 0

/-! RING -/

/-- RING_STAT.ISL (R426): whole trunk, majority island, Local; 0 before the first evaluation (R16). -/
def State.islField (s : State) : Nat :=
  if s.ring.localBeats.isSome then 2 else if decide (0 < s.ring.isle) && decide (s.ring.isle < s.confMasters) then 1 else 0

/-- The entry that RING_USEL selects, as RING_UENT0 and RING_UENT1 (R426). -/
def State.uent (s : State) : Word × Word :=
  let r := s.ring
  let k := r.uselIdx.toNat
  if r.uselTrunk then
    let listed := s.masters.contains k
    if k = uStr s.addr then
      (place (if r.active then s.addr else r.master).toNat 16 16 ||| place (if r.active then r.epoch else r.masterEpoch).toNat 0 16,
        flag true 31 ||| flag listed 30 ||| place (if r.active then r.role.toNat else r.masterRole) 28 2 ||| flag true 27)
    else match r.strings.find? fun x => x.str.toNat == k with
      | some x =>
        (place x.addr.toNat 16 16 ||| place x.epoch.toNat 0 16,
          flag (decide (x.age < 3)) 31 ||| flag listed 30 ||| place x.role.toNat 28 2 ||| flag true 27 ||| place x.age 0 8)
      | none => (0, flag listed 30 ||| 0xFF)
  else match r.roster[k]? with
    | some u =>
      (place u.addr.toNat 16 16 ||| place u.epoch.toNat 0 16,
        flag u.pres 31 ||| flag u.expect 30 ||| place u.role.toNat 28 2 ||| flag u.active 27 ||| place u.hopsN 16 8 |||
          place u.hopsS 8 8 ||| place u.age 0 8)
    | none => (0, 0xFF)

/-- RING (R426). -/
def State.readRing (s : State) (a : Nat) : Word :=
  let r := s.ring
  let q := s.ringIndex s.addr
  if 0x1410 ≤ a ∧ a ≤ 0x1413 then
    let p := r.ports[a - 0x1410]?.getD {}
    place p.cv 16 16 ||| place p.crc 0 16
  else match a with
    | 0x1401 =>
      place r.str.code 29 3 ||| place (match s.beat.lock with | .free => 0 | .acquiring => 1 | .locked => 2 | .holdover => 3) 27 2 |||
        place r.trk.code 24 3 ||| place s.islField 22 2 ||| flagsAt (r.ports.map (·.up)) 16 ||| place s.unitsPresent 0 9
    | 0x1402 => place r.epoch.toNat 16 16 ||| flag r.active 2 ||| place r.role.toNat 0 2
    | 0x1403 =>
      place (if r.active then s.addr else r.master).toNat 16 16 ||| place (if r.active then r.epoch else r.masterEpoch).toNat 0 16
    | 0x1404 => place r.rp 16 10 ||| place s.ringOrder.length 0 9
    | 0x1405 => place (q.getD 0) 8 8 ||| flag s.divForced 7 ||| place (s.divOf (q.getD 0)) 0 7
    | 0x1406 => place r.dn 16 16 ||| place r.ds 0 16
    | 0x1407 => s.pfield .RING_SILENCE 0 0 32
    | 0x1408 => nword r.quiet
    | 0x1414 => place r.rsndMiss 16 16 ||| place r.rsndOk 0 16
    | 0x1415 => place r.staleRx 16 16 ||| place r.staleTx 0 16
    | 0x1416 => place r.take 16 16 ||| place r.yielded 0 16
    | 0x1418 => flag r.uselTrunk 8 ||| place r.uselIdx.toNat 0 8
    | 0x1419 => s.uent.1
    | 0x141A => s.uent.2
    | 0x1420 => place r.cepoch.toNat 16 16 ||| s.pfield .TIE 0 8 8 ||| place r.coord.toNat 0 8
    | 0x1421 => place s.confMasters 16 9 ||| place s.ring.isle 0 9
    | 0x1422 => nword (r.localBeats.getD 0)
    | 0x1424 => place r.wChg 16 16 ||| place r.wDis 0 16
    | 0x1425 => flag r.csocValid 31 ||| place r.csoc 0 17
    | _ => 0

/-! CAN -/

/-- The read window (R451). -/
def CanS.windowWord (c : CanS) (o : Nat) : Word :=
  match c.window with
  | none => 0
  | some x =>
    let f := x.frame
    match o with
    | 0x12 => flag f.ide 31 ||| flag true 30 ||| place f.id.toNat 0 29
    | 0x13 =>
      flag x.second 31 ||| flag f.fdf 30 ||| flag f.brs 29 ||| flag f.esi 28 ||| flag f.rtr 27 ||| place x.filt 22 5 |||
        place f.dlc.toNat 16 4 ||| place f.ofs.toNat 0 16
    | 0x14 => x.beat
    | _ => nword (numAt f.data (4 * (o - 0x15)) 4)

/-- A CAN port's block by offset (R451). -/
def State.readCan (s : State) (p : CPort) (o : Nat) : Word :=
  let c := s.can p
  let i := portIx p
  if 0x40 ≤ o then
    let f := 32 * (i - 1) + (o - 0x40) / 2
    if o % 2 = 0 then s.pfield .FILT_IDE f 31 1 ||| s.pfield .TARGET f 29 2 ||| s.pfield .MATCH f 0 29 else s.pfield .MASK f 0 29
  else if 0x26 ≤ o ∧ o ≤ 0x35 then nword (numAt (s.objAt p c.osel.toNat).data (4 * (o - 0x26)) 4)
  else if 0x12 ≤ o ∧ o ≤ 0x24 then c.windowWord o
  else match o with
    | 0x01 =>
      place c.rxErr 24 8 ||| place (min 255 c.txErr) 16 8 ||| flag (decide (96 ≤ c.rxErr ∨ 96 ≤ c.txErr)) 7 ||| place (s.canMode p) 4 3 |||
        place c.state.code 0 4
    | 0x02 =>
      s.pfield .TRIPLE i 31 1 ||| place (s.nat .BRP i - 1) 23 8 ||| place (s.nat .TSEG1 i - 1) 15 8 ||| place (s.nat .TSEG2 i - 1) 8 7 |||
        place (s.nat .SJW i - 1) 1 7
    | 0x03 =>
      s.pfield .TDC i 31 1 ||| s.pfield .TDCO i 24 7 ||| place (s.nat .DBRP i - 1) 19 5 ||| place (s.nat .DTSEG1 i - 1) 14 5 |||
        place (s.nat .DTSEG2 i - 1) 10 4 ||| place (s.nat .DSJW i - 1) 6 4
    | 0x04 => place c.tdc 0 8
    | 0x05 => place c.boff 24 8 ||| place c.pasv 16 8 ||| place c.errs 0 16
    | 0x06 => flag c.lecData 3 ||| place c.lecCode 0 3
    | 0x07 => s.pfield .BOFF_HOLD i 16 16 ||| place c.left 0 16
    | 0x08 =>
      s.pfield .WAKE_MODE i 30 2 ||| s.pfield .WUF_RATE i 28 2 ||| s.pfield .WUF_DLC i 24 4 ||| s.pfield .DMASK i 16 8 |||
        place c.wakeCause.toNat 0 3
    | 0x09 => s.pfield .WUF_ID i 0 32
    | 0x0A => s.pfield .WUF_IDM i 0 29
    | 0x0B => s.pfield .WUF_D0 i 0 32
    | 0x0C => s.pfield .WUF_D1 i 0 32
    | 0x0D =>
      (if s.nat .TT_PORT = i then s.pfield .TT_ROLE 0 30 2 else 0) ||| s.pfield .REF_EXT 0 29 1 ||| place c.ttState 27 2 |||
        place c.cyc 16 6 ||| s.pfield .CYC_MAX 0 8 8 ||| place c.ttMissed 0 8
    | 0x0E => place c.refExt.toNat 16 16 ||| place c.refOfs.toNat 0 16
    | 0x10 => place c.ovr1 24 8 ||| place c.fifo1.length 16 8 ||| place c.ovr0 8 8 ||| place c.fifo0.length 0 8
    | 0x11 => place c.noMatch 16 16
    | 0x25 => place c.osel.toNat 0 7
    | _ => 0

/-- The registers of a message object (R452). -/
def State.readObj (s : State) (p : CPort) (k w : Nat) : Word :=
  let i := objIx p k
  let o := s.objAt p k
  match w with
  | 0 => if s.objUsed p k then s.pfield .IDE i 31 1 ||| place (s.objId p k) 0 29 else 0
  | 1 =>
    s.pfield .DIR i 31 1 ||| place (s.objPar .FMT p k) 29 2 ||| s.pfield .ONESHOT i 28 1 |||
      (if s.on .DIR i then place (s.objDlc p k) 24 4 else 0) ||| s.pfield .CONT i 20 4 ||| flag (s.objCont p k == 1) 19 |||
      (if s.objCont p k = 1 then s.pfield .TEL i 0 6 else 0)
  | 2 => place (s.objPar .PER p k) 16 16 ||| place (s.objPar .PHASE p k) 0 16
  | 4 => place o.cnt 16 16 ||| place o.drop 8 8 ||| flag o.fresh 3 ||| place o.txs.code 0 3
  | 5 => o.beat
  | 6 => place o.ofs.toNat 0 16
  | _ => 0

/-! PMC, CORE, PWR -/

/-- PMC (R522). -/
def State.readPmc (s : State) (a : Nat) : Word :=
  let y := s.sys
  if 0x1A10 ≤ a ∧ a ≤ 0x1A1F then place ((s.lastStaged a).getD (nword (y.pmcSel[a - 0x1A10]?.getD 0).toNat)).toNat 0 6
  else if 0x1A20 ≤ a ∧ a ≤ 0x1A2F then (if y.pmcSnap then y.pmcFrozen else y.pmc).getD (a - 0x1A20) 0
  else match a with
    | 0x1A00 => flag y.pmcSnap 16 ||| place y.pmcEn.toNat 0 16
    | 0x1A30 => place y.pmcOvf.toNat 0 16
    | _ => 0

/-- Class and number of a failed self-test. -/
def PairS.failed (p : PairS) : Nat × Nat := p.testFail.getD (0, 0)

/-- CORE (R363). -/
def State.readCore (s : State) (a : Nat) : Word :=
  let c := s.core
  let w := c.swp
  let r : ImpRes := ((w.res.find? fun x => x.1 == w.selIdx.toNat && x.2.1 == w.selCell.toNat).map (·.2.2)).getD {}
  if 0x1C10 ≤ a then place (w.freqs[a - 0x1C10]?.getD 0).toNat 0 21
  else match a with
    | 0x1C01 =>
      place c.cause 20 4 ||| place c.b.task.code 17 3 ||| place c.a.task.code 14 3 ||| flag c.dbg.isSome 11 ||| flag c.dbgHalt 10 |||
        place (match c.dbg with | none => 0 | some .a => 1 | some .b => 2) 8 2 ||| place c.b.pair.code 4 4 ||| place c.a.pair.code 0 4
    | 0x1C02 =>
      place c.b.failed.2 24 6 ||| place c.b.failed.1 21 3 ||| place c.a.failed.2 15 6 ||| place c.a.failed.1 12 3 |||
        flag c.b.testFail.isSome 9 ||| flag c.a.testFail.isSome 8
    | 0x1C03 => place (c.b.mm.getD 0) 5 3 ||| flag c.b.mm.isSome 4 ||| place (c.a.mm.getD 0) 1 3 ||| flag c.a.mm.isSome 0
    | 0x1C04 => place c.dbgWr 16 16 ||| place c.joins 8 8 ||| place c.splits 0 8
    | 0x1C08 => place w.nf.toNat 1 4
    | 0x1C09 => w.stat
    | 0x1C0A => place w.selIdx.toNat 8 4 ||| place w.selCell.toNat 0 7
    | 0x1C0B => resWord false r.valid r.mag r.ph r.coh
    | 0x1C0C => resWord true r.valid r.mag r.ph r.coh
    | _ => 0

/-- PWR (R509). -/
def State.readPwr (s : State) (a : Nat) : Word :=
  let p := s.pwr
  match a with
  | 0x1E01 =>
    flag p.nrstIgn 31 ||| flag p.nrstLow 30 ||| flag p.vsGood 29 ||| place p.cause 20 4 ||| place p.rcause 16 4 |||
      place (match p.state with | .start k => k | _ => 15) 12 4 |||
      place (match p.entry with | some (false, _) => 2 | some (true, _) => 3 | none => if p.state = .idle then 1 else 0) 0 2
  | 0x1E02 => s.ofImage (s.pfield .WAKE_EN 0 16 7) ||| place p.wakeCause.toNat 0 7
  | 0x1E03 => s.ofImage (s.pfield .LSN_TMO 0 16 16 ||| s.pfield .DORM_TMO 0 0 16)
  | 0x1E04 => p.alarm
  | 0x1E05 => nword p.vs
  | 0x1E06 => nword p.vk
  | 0x1E07 => place p.xt.toNat 16 3 ||| place (min 65535 p.ms) 0 16
  | 0x1E08 => place p.wakes 16 16 ||| place p.starts 0 16
  | _ => 0

/-! Reads -/

/-- What a read of a register returns (R13); 0 at a reserved address (R15). -/
def State.regWord (s : State) (path : Path) (a : Nat) : Word :=
  if (regAt a).isNone then 0
  else match objBlock a with
    | some (p, k, w) => s.readObj p k w
    | none => match canBlock a with
      | some (p, o) => s.readCan p o
      | none =>
        match a / 0x100 with
        | 0x00 => s.readSys a
        | 0x01 => s.readBeat a
        | 0x02 => s.readCfg a
        | 0x04 => s.readCell a
        | 0x05 => s.readCur a
        | 0x06 => s.readThm a
        | 0x07 => s.readBal a
        | 0x08 => s.readImp a
        | 0x0A => if a < 0xA20 then s.readEst a else s.readLim a
        | 0x0C => s.readProt a
        | 0x0E => s.readEsc a
        | 0x10 => s.readFlt a
        | 0x12 => s.readLog path a
        | 0x14 => s.readRing a
        | 0x1A => s.readPmc a
        | 0x1C => s.readCore a
        | 0x1E => s.readPwr a
        | _ => 0

/-- The state that an outcome leaves; the state before it where there is none. -/
def outState (o : Host.Outcome State Fault Refusal) (s : State) : State :=
  match o with
  | .next t => t
  | _ => s

/-- What a read does besides: ROC fields clear (R13), latches and captures (R174, R278, R488, R511), streams advance. -/
def State.afterRead (path : Path) (a : Nat) (s : State) : State :=
  match objBlock a with
  | some (p, k, 4) => s.setObj p k fun o => { o with cnt := 0, drop := 0 }
  | some _ => s
  | none => match canBlock a with
    | some (p, o) =>
      match o with
      | 0x05 => s.setCan p fun c => { c with boff := 0, pasv := 0, errs := 0 }
      | 0x0D => s.setCan p fun c => { c with ttMissed := 0 }
      | 0x10 => s.setCan p fun c => { c with ovr0 := 0, ovr1 := 0 }
      | 0x11 => s.setCan p fun c => { c with noMatch := 0 }
      | 0x26 => outState (execOdata0Read path p s) s
      | _ => s
    | none =>
      if 0x1410 ≤ a ∧ a ≤ 0x1413 then
        s.setRing fun r => { r with ports := r.ports.modify (a - 0x1410) fun p => { p with cv := 0, crc := 0 } }
      else if 0x1A20 ≤ a ∧ a ≤ 0x1A2F then s.setSys fun y => { y with pmc := y.pmc.set (a - 0x1A20) 0 }
      else match a with
        | 0x0005 => { s with host := { s.host with repLost := 0 } }
        | 0x0008 => { s with host := { s.host with errCrc := 0, errFrame := 0 } }
        | 0x0009 => { s with host := { s.host with rmtTmo := 0 } }
        | 0x0020 => s.latchHi .sn
        | 0x0021 => s.setSys fun y => { y with snHi := none }
        | 0x0029 => outState (execHistWinAccess path none s) s
        | 0x0106 => s.setBeat fun b => { b with missed := 0, extra := 0 }
        | 0x0111 => s.setBeat fun b => { b with ovrCnt := 0 }
        | 0x011B => s.rplOutTake
        | 0x0508 => s.latchHi .q1
        | 0x0509 => { s with meas := { s.meas with q1Hi := none } }
        | 0x050A => s.latchHi .q2
        | 0x050B => { s with meas := { s.meas with q2Hi := none } }
        | 0x050C => { s with meas := { s.meas with subst := 0 } }
        | 0x0648 => { s with thm := { s.thm with chg := 0 } }
        | 0x0719 => { s with bal := { s.bal with broken := 0, runs := 0 } }
        | 0x0818 => { s with imp := { s.imp with inv := 0, val := 0 } }
        | 0x0A08 => s.latchHi .qc
        | 0x0A09 => { s with chg := { s.chg with qcHi := none } }
        | 0x0A0C => { s with chg := { s.chg with anVolt := 0, anEmpty := 0, anFull := 0, anLearn := 0 } }
        | 0x0A0E => { s with chg := { s.chg with substBeats := 0 } }
        | 0x0A2F => { s with lim := { s.lim with zeroCnt := 0 } }
        | 0x0E01 => { s with safe := { s.safe with x := { s.safe.x with diffCnt := 0 } } }
        | 0x0E25 => { s with safe := { s.safe with tp := { s.safe.tp with abs := 0, pass := 0 } } }
        | 0x0E32 => s.setChan s.shownCh fun c => { c with tel := c.tel.modify s.safe.telSel.toNat fun x => { x with diff := 0, bad := 0 } }
        | 0x0E33 =>
          let t := s.setChan s.shownCh fun c => { c with tel := c.tel.modify s.safe.telSel.toNat fun x => { x with singleCnt := 0 } }
          { t with safe := { t.safe with txDiff := 0 } }
        | 0x1204 => { s with log := { s.log with lostCnt := 0, merged := 0 } }
        | 0x1210 => outState (execLogRd0Read path s) s
        | 0x1414 => s.setRing fun r => { r with rsndMiss := 0, rsndOk := 0 }
        | 0x1415 => s.setRing fun r => { r with staleRx := 0, staleTx := 0 }
        | 0x1C04 => { s with core := { s.core with dbgWr := 0, joins := 0, splits := 0 } }
        | _ => s

/-- A read that is carried out: the word, and the state after it. -/
def State.regRead (s : State) (path : Path) (a : Nat) : Word × State := (s.regWord path a, s.afterRead path a)

end Sys2Proof.Machine
end

