-- ==== Sys2Proof/Machine/RegWrite.lean ====
section
/-! DEFINITION. Register writes: what a write of each register sets, clears, stages or starts (R13, R33 and the register tables
of every chapter). -/

namespace Sys2Proof.Machine

/-- KEY of a keyed register. -/
def keyOf (d : Word) : BitVec 8 := BitVec.ofNat 8 (bits d 8 8)

/-- A write of HOST_POP removes the oldest report when SEQ is its REPSEQ (R465). -/
def HostS.pop (h : HostS) (seq : BitVec 16) : HostS :=
  match h.reports with
  | r :: l => if bits (r.headD 0) 16 16 = seq.toNat then { h with reports := l } else h
  | [] => h

/-- A write of CFG_CMD (R137). -/
def State.writeCfgCmd (path : Path) (d : Word) (s : State) : State :=
  let k := keyOf d
  match bits d 0 4 with
  | 1 => outState (execCfgOpen path k s) s
  | 2 => outState (execCfgVerify path k s) s
  | 3 => outState (execCfgCommit path k s) s
  | 4 => outState (execCfgConfirm path k s) s
  | 5 => outState (execCfgRollback path k s) s
  | 6 => outState (execCfgAbort path k s) s
  | 7 => outState (execOtpKey path k s) s
  | c => s.cfgOther path k c

/-- The request that PROT_CTRL.REQ names (R318). -/
def reqKind (n : Nat) : Option ReqKind :=
  match n with
  | 1 => some .close
  | 2 => some .openReq
  | 3 => some .ack
  | _ => none

/-- Source of a PROT_CTRL write (R306). -/
def reqSrc : Path → ReqSrc
  | .host => .host
  | .ring => .ring

/-- A write of PROT_CTRL (R305, R318): the later request for the same boundary prevails (R33); with a wrong key the write is
ignored and counted in REFUSE, whose value is then open (log entry 19). -/
def State.writeProt (path : Path) (d : Word) (s : State) : State :=
  if keyOf d != 0xC3 then { s with safe := { s.safe with refuse := (Config.refuseKey s.safe.refuse).toNat } }
  else match reqKind (bits d 0 2) with
    | some k => { s with safe := { s.safe with reqStaged := some ⟨k, reqSrc path⟩ } }
    | none => s

/-- A write of BAL_CTRL (R211, R222): SRC 3 is refused, and the other fields are staged with the SRC written before. -/
def State.writeBal (path : Path) (d : Word) (s : State) : State :=
  let old := (s.lastStaged 0x700).getD (nword s.bal.src.toNat)
  let src := if bits d 0 2 = 3 then bits old 0 2 else bits d 0 2
  s.stage path 0x700 (place (bits d 16 16) 16 16 ||| place (bits d 8 5) 8 5 ||| place src 0 2)

/-- A write of CANn_ODATAj (R451): a transmit object of CONT 0 that is neither pending nor on the bus takes the four bytes. -/
def State.writeOdata (p : CPort) (j : Nat) (d : Word) (s : State) : State :=
  let k := (s.can p).osel.toNat
  let o := s.objAt p k
  if s.objTx p k && s.objCont p k == 0 && o.txs != .pending && o.txs != .onBus then
    s.setObj p k fun x =>
      let l := padTo 64 x.data
      { x with data := l.take (4 * j) ++ wordBytes d ++ l.drop (4 * j + 4) }
  else s

/-- A write into a CAN port's block (R451). -/
def State.writeCan (path : Path) (p : CPort) (o : Nat) (d : Word) (s : State) : State :=
  if 0x26 ≤ o ∧ o ≤ 0x35 then s.writeOdata p (o - 0x26) d
  else match o with
    | 0x00 => outState (execFifoFlush path p (keyOf d) (bit d 0) (bit d 1) s) s
    | 0x11 =>
      let t := if bit d 0 then outState (execFifoPop path p false s) s else s
      if bit d 1 then outState (execFifoPop path p true t) t else t
    | 0x25 => s.setCan p fun c => { c with osel := BitVec.ofNat 7 (bits d 0 7) }
    | _ => s

/-- A write of a message object's registers (R452). -/
def State.writeObj (p : CPort) (k w : Nat) (d : Word) (s : State) : State :=
  match w with
  | 3 =>
    let t := if bit d 1 then outState (execObjCancel p (Fin.ofNat 128 k) (keyOf d) s) s else s
    if bit d 0 then outState (execObjSend p (Fin.ofNat 128 k) (keyOf d) t) t else t
  | 4 => s.setObj p k fun o => { o with fresh := o.fresh && !bit d 3 }
  | _ => s

/-- A write of RPL_CTRL (R104, R108). -/
def State.writeRpl (path : Path) (d : Word) (s : State) : State :=
  if bit d 0 then s.rplStart (bit d 2) (bit d 1)
  else
    let t := outState (execRplStop path s) s
    { t with core := { t.core with rpl := { t.core.rpl with bank := bit d 2, rawCell := bit d 1 } } }

/-- A write below 0x0700: SYS, BEAT, CFG, CELL. DESIGN CHOICE (log entry 82): a HOLDOVER of 0 and a SYNC_PHASE or CANT_PHASE of
1,000 to 1,023, for which R108 gives no effect, are stored as written. -/
def State.writeLow (path : Path) (a : Nat) (d : Word) (s : State) : State :=
  match a with
  | 0x006 => { s with host := { s.host with hstr := BitVec.ofNat 8 (bits d 0 8) } }
  | 0x007 => { s with host := { s.host with enRep := bit d 0 } }
  | 0x010 => { s with host := s.host.pop (BitVec.ofNat 16 (bits d 0 16)) }
  | 0x022 => s.setSys fun y => { y with dsel := BitVec.ofNat 3 (bits d 0 3) }
  | 0x028 => s.setSys fun y => { y with histUnit := BitVec.ofNat 16 (bits d 16 16), histArea := bit d 0, histPtr := 0 }
  | 0x029 => s.winWrite d
  | 0x02A =>
    let t := if bit d 1 then outState (execHistImport path (keyOf d) s) s else s
    if bit d 0 then outState (execHistRestore path (keyOf d) t) t else t
  | 0x100 => (s.setBeat fun b => { b with holdover := BitVec.ofNat 8 (bits d 8 8) }).srcSelWrite path (BitVec.ofNat 2 (bits d 0 2))
  | 0x101 => s.setBeat fun b => { b with selRej := b.selRej && !bit d 6, ovr := b.ovr && !bit d 4 }
  | 0x104 => s.setBeat fun b => { b with syncPhase := BitVec.ofNat 10 (bits d 16 10), cantPhase := BitVec.ofNat 10 (bits d 0 10) }
  | 0x105 => s.setBeat fun b => { b with fallWin := bit d 1, riseBeat := bit d 0 }
  | 0x10C | 0x10D | 0x10E | 0x10F => s.stage path a (place (bits d 0 10) 0 10)
  | 0x118 => s.writeRpl path d
  | 0x11A => s.rplIn d
  | 0x200 => s.writeCfgCmd path d
  | 0x202 => s.setCfg fun c =>
    if c.owner ≠ .none ∧ !ownedBy c.owner path then { c with result := 5 } else { c with waddr := bits d 2 17 * 4 }
  | 0x203 => s.wdataWrite path d
  | 0x4E5 => outState (execMeasSnap path (bit d 0) s) s
  | _ => s

/-- A write from 0x0700 on. -/
def State.writeHigh (path : Path) (a : Nat) (d : Word) (s : State) : State :=
  match a with
  | 0x700 => s.writeBal path d
  | 0x701 => { s with bal := { s.bal with tmoFlag := s.bal.tmoFlag && !bit d 11 } }
  | 0x708 | 0x709 | 0x70A => s.stage path a d
  | 0x71C =>
    let t := if bit d 0 then outState (execWireCalStart path (keyOf d) s) s else s
    if bit d 1 then outState (execWireCalAbort path (keyOf d) t) t
    else if keyOf d != 0xC3 then { t with bal := { t.bal with calCause := 1 } } else t
  | 0x800 => s.stage path a (place (bits d 0 3) 0 3)
  | 0x814 => { s with imp := { s.imp with
      selSrc := bit d 31, selRec := BitVec.ofNat 3 (bits d 24 3), selT := BitVec.ofNat 3 (bits d 20 3),
      selS := BitVec.ofNat 4 (bits d 16 4), selSlot := BitVec.ofNat 2 (bits d 8 2), selCell := BitVec.ofNat 7 (bits d 0 7) } }
  | 0xC00 => s.writeProt path d
  | 0xC05 => { s with safe := { s.safe with latch := s.safe.latch &&& ~~~(BitVec.ofNat 15 (bits d 0 15)) } }
  | 0xE00 => { s with safe := { s.safe with x := { s.safe.x with xflt := s.safe.x.xflt && !bit d 24 } } }
  | 0xE02 => { s with safe := { s.safe with bsel := BitVec.ofNat 8 (bits d 0 8) } }
  | 0xE30 => { s with safe := { s.safe with telSel := BitVec.ofNat 6 (bits d 0 6) } }
  | 0x1001 =>
    let t := if bit d 1 then outState (execResetLoopRelease path (keyOf d) s) s else s
    if bit d 0 then outState (execHandlingClose path (keyOf d) t) t else t
  | 0x100C | 0x100D | 0x100E | 0x100F | 0x1014 | 0x1015 | 0x1016 | 0x1017 => s.stage path a d
  | 0x1020 => { s with flt := { s.flt with sel := BitVec.ofNat 7 (bits d 0 7) }
                       fltShown := s.fltShown.map fun x => { x with flt := { x.flt with sel := BitVec.ofNat 7 (bits d 0 7) } } }
  | 0x1030 => s.inject (keyOf d) (bit d 7) (bits d 0 5)
  | 0x1200 => if bit d 0 then outState (execLogClear path (keyOf d) s) s else s
  | 0x1206 => { s with log := { s.log with calS := d } }
  | 0x1207 => outState (execCalendarSet path d s) s
  | 0x1208 => { s with log := { s.log with rsel := d } }
  | 0x1400 => if bit d 0 then outState (execEnum path (keyOf d) s) s else s
  | 0x1418 => s.setRing fun r => { r with uselTrunk := bit d 8, uselIdx := BitVec.ofNat 8 (bits d 0 8) }
  | 0x1A00 => (s.setSys fun y => { y with pmcEn := BitVec.ofNat 16 (bits d 0 16) }).setSys fun y => y.snapTo (bit d 16)
  | 0x1A30 => s.setSys fun y => { y with pmcOvf := y.pmcOvf &&& ~~~(BitVec.ofNat 16 (bits d 0 16)) }
  | 0x1C00 => s.stage path a d
  | 0x1C08 =>
    if bit d 0 then s.sweepStart (BitVec.ofNat 4 (bits d 1 4))
    else { s with core := { s.core with swp := { s.core.swp with nf := BitVec.ofNat 4 (bits d 1 4) } } }
  | 0x1C0A => { s with core := { s.core with swp := { s.core.swp with
      selIdx := BitVec.ofNat 4 (bits d 8 4), selCell := BitVec.ofNat 7 (bits d 0 7) } } }
  | 0x1E00 => s.stage path a d
  | 0x1E04 => s.setPwr fun p => { p with alarm := d }
  | _ => s

/-- A write of a register that is carried out (R13): reserved addresses and read-only fields take nothing (R15). -/
def State.regWrite (path : Path) (a : Nat) (d : Word) (s : State) : State :=
  if regAt a != some true then s
  else match objBlock a with
    | some (p, k, w) => s.writeObj p k w d
    | none => match canBlock a with
      | some (p, o) => s.writeCan path p o d
      | none =>
        if 0x1A10 ≤ a ∧ a ≤ 0x1A1F then s.stage path a (place (bits d 0 6) 0 6)
        else if 0x1C10 ≤ a ∧ a ≤ 0x1C1F then
          { s with core := { s.core with swp := { s.core.swp with freqs := s.core.swp.freqs.set (a - 0x1C10) (BitVec.ofNat 21 (bits d 0 21)) } } }
        else if a < 0x700 then s.writeLow path a d
        else s.writeHigh path a d

/-- REGISTER_WRITE (R13): a write that reaches a register, by its access codes. -/
def execRegisterWrite (path : Path) (addr : BitVec 14) (data : Word) (s : State) : Host.Outcome State Fault Refusal :=
  .next (s.regWrite path addr.toNat data)

/-! Staged writes become active -/

/-- WINw_NEXT becomes active (R89, R410): a Monitor of a string takes it from the Master frame only, and the Master of a string
of several units carries it there, to apply one boundary later. -/
def State.nextOfsActive (w ofs : Nat) (s : State) : State :=
  if !s.multiUnit then s.setBeat fun b => { b with wins := b.wins.modify w fun x => { x with next := ofs } }
  else if s.master then s.setRing fun r => { r with nextOfs := r.nextOfs.set w ofs }
  else s

/-- What a write of CORE_CTRL asks for (R352, R357, R363). -/
def coreReqOf (d : Word) : CoreReq :=
  { splitA := bit d 0, splitB := bit d 1, joinA := bit d 2, joinB := bit d 3 }

/-- The positions of the ones of a word, as fault sources of word k. -/
def oneBits (k : Nat) (d : Word) : List Nat := ((List.range 32).filter fun i => bit d i).map (32 * k + ·)

/-- One staged write becomes active at the boundary (R33). -/
def State.activateStaged (x : Staged) (s : State) : State :=
  let d := x.data
  let a := x.addr.toNat
  if 0x1A10 ≤ a ∧ a ≤ 0x1A1F then s.setSys fun y => y.pmcSelect (a - 0x1A10) (BitVec.ofNat 6 d.toNat)
  else if 0x10C ≤ a ∧ a ≤ 0x10F then s.nextOfsActive (a - 0x10C) (bits d 0 10)
  else if 0x708 ≤ a ∧ a ≤ 0x70A then { s with bal := { s.bal with req := s.bal.req.set (a - 0x708) d, reqAge := 0, reqDone := false } }
  else if 0x100C ≤ a ∧ a ≤ 0x100F then { s with flt := { s.flt with w1cLatch := s.flt.w1cLatch ++ oneBits (a - 0x100C) d } }
  else if 0x1014 ≤ a ∧ a ≤ 0x1017 then { s with flt := { s.flt with w1cSevl := s.flt.w1cSevl ++ oneBits (a - 0x1014) d } }
  else match a with
    | 0x100 => s.srcSelActive (BitVec.ofNat 2 d.toNat)
    | 0x700 => { s with bal := { s.bal with
        tmo := BitVec.ofNat 16 (bits d 16 16), duty := BitVec.ofNat 5 (bits d 8 5), src := BitVec.ofNat 2 (bits d 0 2) } }
    | 0x800 => { s with imp := { s.imp with en := bit d 0, swEn := bit d 1, reqEn := bit d 2 } }
    | 0x1C00 =>
      if keyOf d == 0xC3 then { s with core := { s.core with req := some (coreReqOf d) } } else { s with core := { s.core with cause := 1 } }
    | 0x1E00 => s.setPwr fun p => { p with req := some (BitVec.ofNat 2 (bits d 0 2), keyOf d == 0xC3) }
    | _ => s

/-- The staged writes of the beat become active, in the order of their acceptance (R33), with the staged request (R305). -/
def State.activateAll (s : State) : State :=
  let t := s.beat.staged.foldl (fun t x => t.activateStaged x) (s.setBeat fun b => { b with staged := [] })
  { t with safe := { t.safe with req := t.safe.reqStaged, reqStaged := none } }

end Sys2Proof.Machine
end

