-- ==== Sys2Proof/Machine/Host.lean ====
section
/-! DEFINITION. The host port: transactions, repeats, relayed requests, errors (chapter 18, R453-R469, R542). -/

namespace Sys2Proof.Machine

/-! Requests and replies -/

/-- The port answers from the end of start step 2 on, while channel A runs and its receiver is not in reset (R332, R372,
R508). -/
def State.hostUp (s : State) : Bool :=
  (match s.pwr.state with
    | .active | .idle => true
    | .start k => decide (3 ≤ k)
    | _ => false) && !s.pwr.stopping && s.runs .a && !(s.flt.blk.any fun x => x.1 == .hostRx)

/-- The request is for the unit itself: every request without an image (R466, R467). -/
def State.hostLocal (s : State) (unit : BitVec 8) : Bool :=
  s.cfg.image.isNone || uAddr s.host.hstr.toNat unit.toNat == s.addr

/-- Header of a request (R455). -/
def reqHeader (rseq : BitVec 8) (op : Nat) (unit : BitVec 8) (addr : BitVec 14) : Word :=
  place rseq.toNat 24 8 ||| place op 22 2 ||| place unit.toNat 14 8 ||| place addr.toNat 0 14

/-- The bytes of a request before its CRC (R454). -/
def reqBytes (h : Word) (count : Option Word) (data : List Word) : List Byte :=
  wordBytes h ++ (count.map wordBytes).getD [] ++ data.flatMap wordBytes

/-- The count word of a burst (R454). -/
def countWord (fix : Bool) (n : Nat) : Word := flag fix 31 ||| place n 0 9

/-- The bytes of a reply before its CRC (R454). -/
def Reply.bytes (r : Reply) : List Byte :=
  bytesOf 1 r.rseq.toNat ++ bytesOf 1 (r.status % 16 + 16 * packBits [r.irq, r.held]) ++ bytesOf 2 r.repseq.toNat ++
    r.data.flatMap wordBytes

/-- The reply with the CRC of its head and data (R454, R456). -/
def Reply.sealed (r : Reply) : Reply := { r with crc := crc16 r.bytes }

/-- A reply with the state's REPSEQ, IRQ and report marks (R454, R464). -/
def State.replyNow (s : State) (rseq : BitVec 8) (status : Nat) (data : List Word) : Reply :=
  Reply.sealed
    { rseq := rseq, status := status, repseq := s.host.newest, irq := s.irq, held := !s.host.reports.isEmpty, data := data }

/-- The stored reply, when the request repeats the last executed one (R460). -/
def HostS.repeated (h : HostS) (bytes : List Byte) (exempt : Bool) : Option Reply :=
  match h.lastReq with
  | some l => if l.bytes == bytes && !exempt then some l.reply else none
  | none => none

/-- Accesses carried out before an NMI that hits the transaction; none when no NMI does (R372, R542; log entry 20). -/
def State.nmiHit (s : State) : Option Nat :=
  match s.flt.nmi with
  | some (b, t) => if b = s.beat.num ∧ s.beat.offNs - t ≤ 5000 then Config.nmiDone b t else none
  | none => none

/-- The outcome of an executed transaction: reply, SYS_SEQ, the stored request unless it was answered with STATUS 5 (R460, R463,
R542). -/
def State.answered (rseq : BitVec 8) (bytes : List Byte) (status : Nat) (data : List Word) (store : Bool) (s : State) : State :=
  let r := s.replyNow rseq status data
  let t := s.tally 18 1
  { t with
    host := { t.host with
      seqLast := rseq, seqStatus := status, reply := some r
      lastReq := if store then some ⟨bytes, r⟩ else t.host.lastReq }
    flt := { t.flt with nmi := none } }

/-- An injection inverts the check bits of the next transaction (R376, target 28). -/
def State.injectsHost (s : State) : Bool := s.injects 28

/-- The checker rejects the injected transaction as a CRC error (R376, R456): it is answered with STATUS 6 and not executed, and
it counts only with FULL (R377). -/
def State.crcInjected (rseq : BitVec 8) (s : State) : State :=
  let full := s.injFull
  let t := s.injResult true
  { t with host := { t.host with
      reply := some (t.replyNow rseq 6 []), errCrc := if full then incSat 65535 t.host.errCrc else t.host.errCrc } }

/-- A transaction whose CRC passes: repeated, abandoned or executed (R456-R460, R462, R542), unless an injection makes it fail
(R376). `n` is the number of its accesses, `run` carries out so many of them and gives STATUS and data. -/
def State.transact (rseq : BitVec 8) (bytes : List Byte) (exempt mine : Bool) (n : Nat)
    (run : Nat → State → Nat × List Word × State) (s : State) : State :=
  if !s.hostUp then { s with host := { s.host with reply := none } }
  else if s.injectsHost then s.crcInjected rseq
  else
    let s := { s with host := { s.host with burst := none } }
    let t := if mine then s.hostHeard else s
    match t.host.repeated bytes exempt with
    | some r => { t with host := { t.host with reply := some (t.replyNow r.rseq 8 r.data) } }
    | none =>
      let k := t.nmiHit.getD n
      let o := run k t
      let st := if k < n then 5 else o.1
      o.2.2.answered rseq bytes st o.2.1 (st != 5)

/-! Local accesses -/

/-- STATUS of an access to these addresses (R457, R458): the first of 2, 3, 5, 1 that a word has. -/
def State.burstStatus (s : State) (write : Bool) (addrs : List Nat) : Nat :=
  let l := addrs.map (s.regStatus write)
  if l.contains 2 then 2 else if l.contains 3 then 3 else if l.contains 5 then 5 else 1

/-- Read the answered words in order; the others read 0 (R458). -/
def State.hostReads (addrs : List Nat) (s : State) : List Word × State :=
  addrs.foldl (fun x a =>
    if x.2.regStatus false a = 1 then
      let r := x.2.regRead .host a
      (x.1 ++ [r.1], r.2)
    else (x.1 ++ [0], x.2)) ([], s)

/-- Write the answered words in order; the others have no effect (R458, R459). -/
def State.hostWrites (ws : List (Nat × Word)) (s : State) : State :=
  ws.foldl (fun t x => if t.regStatus true x.1 = 1 then t.regWrite .host x.1 x.2 else t) s

/-- A local read of k of these words (R458). -/
def localRead (addrs : List Nat) (k : Nat) (s : State) : Nat × List Word × State :=
  let r := s.hostReads (addrs.take k)
  (s.burstStatus false addrs, r.1 ++ List.replicate (addrs.length - k) 0, r.2)

/-- A local burst read (R458): the words that fall due before the next boundary are read, first of parts; the others fall due in the
beats that follow. -/
def localBurst (addrs parts : List Nat) (k : Nat) (s : State) : Nat × List Word × State :=
  let n := parts.headD 0
  let r := s.hostReads (addrs.take (min n k))
  let t := r.2
  (s.burstStatus false addrs, r.1, if addrs.length ≤ k then { t with host := { t.host with burst := some ⟨addrs.drop n, parts.tail⟩ } } else t)

/-- The next words of the burst read under way go into its reply, with its CRC (R456, R458). -/
def State.burstOn (s : State) : State :=
  match s.host.burst, s.host.reply with
  | some b, some r =>
    let x := s.hostReads (b.addrs.take (b.parts.headD 0))
    let t := x.2
    let q := Reply.sealed { r with data := r.data ++ x.1 }
    { t with host := { t.host with
        burst := if b.parts.tail.isEmpty then none else some ⟨b.addrs.drop (b.parts.headD 0), b.parts.tail⟩
        reply := some q
        lastReq := t.host.lastReq.map fun l => if l.reply == r then { l with reply := q } else l } }
  | _, _ => s

/-- A local write of k of these words (R458, R459). -/
def localWrite (ws : List (Nat × Word)) (k : Nat) (s : State) : Nat × List Word × State :=
  (s.burstStatus true (ws.map (·.1)), [], s.hostWrites (ws.take k))

/-- A refused request: nothing is executed (R457). -/
def refuseWith (status : Nat) (data : List Word) (_ : Nat) (s : State) : Nat × List Word × State := (status, data, s)

/-! Remote accesses -/

/-- Where a request for another unit goes: false into the string, true over the trunk, none when the unit cannot relay it
(R467). -/
def State.relayPath (s : State) (u : UAddr) : Option Bool :=
  if !s.ring.active then none
  else if uStr u = uStr s.addr then some false
  else if s.ring.role = 3 then some true
  else none

/-- The target is present: in the roster, or in a string that the trunk reaches (R412, R422, R468). -/
def State.relayPresent (s : State) (u : UAddr) (trunk : Bool) : Bool :=
  if trunk then s.stringsPresent.any fun x => x.str.toNat == uStr u
  else (s.unit? u).any (·.pres)

/-- Reply data of a refused single request: a word for OP 0, none for OP 1 (R454). -/
def noData (write : Bool) : List Word := if write then [] else [0]

/-- A request for another unit (R467, R468): STATUS 2, 10, 5, or 7 with its tag. -/
def State.relayRequest (u : UAddr) (write : Bool) (addr : BitVec 14) (data : Word) (s : State) : Nat × List Word × State :=
  match s.relayPath u with
  | none => (2, noData write, s)
  | some trunk =>
    if !s.relayPresent u trunk then (10, noData write, s)
    else if 32 ≤ s.host.relays.length then (5, noData write, s)
    else
      let t := s.tally 20 1
      let tag := s.host.nextTag
      (7, [place tag.toNat 0 8],
        { t with host := { t.host with
            nextTag := tag + 1
            relays := t.host.relays ++ [{ tag := tag, unit := u, write := write, addr := addr, data := data, trunk := trunk }] } })

/-- A relayed request, unless an NMI came first (R542). -/
def relayRun (u : UAddr) (write : Bool) (addr : BitVec 14) (data : Word) (k : Nat) (s : State) : Nat × List Word × State :=
  if k = 0 then (5, noData write, s) else s.relayRequest u write addr data

/-! Commands -/

/-- Reads of SYS_SEQ and SYS_REP are exempt from R460. -/
def exemptRead (addrs : List Nat) : Bool := addrs.any fun a => a == 4 || a == 5

/-- The target of a request (R466). -/
def State.hostTarget (s : State) (unit : BitVec 8) : UAddr := uAddr s.host.hstr.toNat unit.toNat

/-- A single read whose CRC passes (R454, R458, R467). -/
def State.hostRead (rseq unit : BitVec 8) (addr : BitVec 14) (s : State) : State :=
  let mine := s.hostLocal unit
  s.transact rseq (reqBytes (reqHeader rseq 0 unit addr) none []) (mine && exemptRead [addr.toNat]) mine 1
    (if mine then localRead [addr.toNat] else relayRun (s.hostTarget unit) false addr 0)

/-- HOST_READ (R454, R458, R467). -/
def execHostRead (rseq unit : BitVec 8) (addr : BitVec 14) (s : State) : Host.Outcome State Fault Refusal :=
  .next (s.hostRead rseq unit addr)

/-- A single write whose CRC passes (R454, R458, R467). A local write drives no reply data (R454). -/
def State.hostWrite (rseq unit : BitVec 8) (addr : BitVec 14) (data : Word) (s : State) : State :=
  let mine := s.hostLocal unit
  s.transact rseq (reqBytes (reqHeader rseq 1 unit addr) none [data]) false mine 1
    (if mine then localWrite [(addr.toNat, data)] else relayRun (s.hostTarget unit) true addr data)

/-- HOST_WRITE (R454, R458, R467). -/
def execHostWrite (rseq unit : BitVec 8) (addr : BitVec 14) (data : Word) (s : State) : Host.Outcome State Fault Refusal :=
  .next (s.hostWrite rseq unit addr data)

/-- The addresses of a burst; none when it is refused: a word count outside 1 to 256, or past 0x3FFF (R454, R458). -/
def burstAddrs (fix : Bool) (addr n : Nat) : Option (List Nat) :=
  if n = 0 ∨ 256 < n ∨ (!fix && decide (0x3FFF < addr + (n - 1))) then none
  else some ((List.range n).map fun i => if fix then addr else addr + i)

/-- A burst read whose CRC passes (R458): parts tells how many of its words the host clocks before the next boundary, and in each beat
after it. -/
def State.hostBurstRead (rseq unit : BitVec 8) (addr : BitVec 14) (fix : Bool) (n : Nat) (parts : List Nat) (s : State) : State :=
  let mine := s.hostLocal unit
  let addrs := if mine then burstAddrs fix addr.toNat n else none
  s.transact rseq (reqBytes (reqHeader rseq 2 unit addr) (some (countWord fix n)) [])
    (addrs.any exemptRead) mine ((addrs.getD []).length)
    (match addrs with
      | some l => localBurst l parts
      | none => refuseWith 2 (List.replicate n 0))

/-- HOST_BURST_READ (R458). -/
def execHostBurstRead (rseq unit : BitVec 8) (addr : BitVec 14) (fix : Bool) (burst : BurstIn) (s : State) :
    Host.Outcome State Fault Refusal := .next (s.hostBurstRead rseq unit addr fix burst.n burst.parts)

/-- A burst write whose CRC passes (R459). -/
def State.hostBurstWrite (rseq unit : BitVec 8) (addr : BitVec 14) (fix : Bool) (words : List Word) (s : State) : State :=
  let mine := s.hostLocal unit
  let addrs := if mine then burstAddrs fix addr.toNat words.length else none
  s.transact rseq (reqBytes (reqHeader rseq 3 unit addr) (some (countWord fix words.length)) words)
    false mine ((addrs.getD []).length)
    (match addrs with
      | some l => localWrite (l.zip words)
      | none => refuseWith 2 [])

/-- HOST_BURST_WRITE (R459). -/
def execHostBurstWrite (rseq unit : BitVec 8) (addr : BitVec 14) (fix : Bool) (words : List Word) (s : State) :
    Host.Outcome State Fault Refusal := .next (s.hostBurstWrite rseq unit addr fix words)

/-! Frames as bytes -/

/-- Data words in the request part of a frame, by its OP and its count word (R454, R455). -/
def reqWords (l : List Byte) : Nat :=
  match numAt l 1 1 / 64 with
  | 1 => 1
  | 3 => numAt l 6 2 % 512
  | _ => 0

/-- Bytes of a request before its CRC (R454). -/
def reqLen (l : List Byte) : Nat := 4 + (if 128 ≤ numAt l 1 1 then 4 else 0) + 4 * reqWords l

/-- The request's CRC is right (R456). -/
def reqCrcOk (l : List Byte) : Bool := numAt l (reqLen l) 2 == crc16 (l.take (reqLen l))

/-- A request whose CRC fails (R456): not executed, answered with STATUS 6; FS64 and HOST_ERR. -/
def State.hostCrcFails (rseq : BitVec 8) (s : State) : State :=
  let t := (s.tally 19 1).raise 64 0
  { t with host := { t.host with burst := none, reply := some (t.replyNow rseq 6 []), errCrc := incSat 65535 t.host.errCrc } }

/-- HCS rises before the request CRC is complete, or it comes late (R456): nothing is executed and nothing replied; FS64 and
HOST_ERR. -/
def State.hostFraming (s : State) : State :=
  let t := (s.tally 19 1).raise 64 0
  { t with host := { t.host with burst := none, reply := none, errFrame := incSat 65535 t.host.errFrame } }

/-- A request whose CRC passes, by its OP (R455). -/
def State.hostOp (l : List Byte) (s : State) : State :=
  let h := numAt l 0 4
  let rseq : BitVec 8 := BitVec.ofNat 8 (h / 2 ^ 24)
  let unit : BitVec 8 := BitVec.ofNat 8 (h / 2 ^ 14)
  let addr : BitVec 14 := BitVec.ofNat 14 h
  let fix := (numAt l 4 1).testBit 7
  match h / 2 ^ 22 % 4 with
  | 0 => s.hostRead rseq unit addr
  | 1 => s.hostWrite rseq unit addr (nword (numAt l 4 4))
  | 2 => s.hostBurstRead rseq unit addr fix (numAt l 6 2 % 512) [numAt l 6 2 % 512]
  | _ => s.hostBurstWrite rseq unit addr fix ((List.range (reqWords l)).map fun i => nword (numAt l (8 + 4 * i) 4))

/-- The bytes of a request with its CRC as they came (R454-R456): too few are a framing error, a CRC that fails is answered with STATUS 6,
any other request is carried out. -/
def State.hostFrame (l : List Byte) (s : State) : State :=
  if !s.hostUp then { s with host := { s.host with reply := none } }
  else if l.length < 4 ∨ l.length < reqLen l + 2 then s.hostFraming
  else if reqCrcOk l then s.hostOp l
  else s.hostCrcFails (BitVec.ofNat 8 (numAt l 0 1))

/-- HOST_CRC_ERROR (R456). -/
def execHostCrcError (bytes : List Byte) (s : State) : Host.Outcome State Fault Refusal := .next (s.hostFrame bytes)

/-- HOST_FRAMING_ERROR (R456). -/
def execHostFramingError (s : State) : Host.Outcome State Fault Refusal :=
  .next (if !s.hostUp then { s with host := { s.host with reply := none } } else s.hostFraming)

/-- HOST_POP (R465). -/
def execHostPop (path : Path) (seq : BitVec 16) (s : State) : Host.Outcome State Fault Refusal :=
  let _ := path
  .next { s with host := s.host.pop seq }

/-- REMOTE_ANSWER (R395, R464, R468, R469). -/
def execRemoteAnswer (tag : BitVec 8) (status : BitVec 4) (addr : BitVec 14) (data : Word) (s : State) :
    Host.Outcome State Fault Refusal :=
  .next ((match s.relayOf tag with
    | some r => if status = 4 then s.staleHeard r.unit data else s
    | none => s).remoteAnswer tag status.toNat addr data)

/-- A relayed request has no answer by its limit: three beats after the beat of its MF entry, ten after its KF entry (R469). -/
def Relay.expired (r : Relay) (now : Word) : Bool :=
  match r.sentAt with
  | some b => decide ((if r.trunk then 11 else 4) ≤ (now - b).toNat)
  | none => false

/-- The request ends with STATUS 9 (R469). -/
def State.remoteTimeout (tag : BitVec 8) (s : State) : State :=
  match s.relayOf tag with
  | none => s
  | some r =>
    if !r.expired s.beat.num then s
    else
      State.report 1 tag.toNat (place 9 0 4 ||| place r.unit.toNat 16 16) (nword r.addr.toNat) 0
        { s with host := { s.host with
            relays := s.host.relays.filter fun x => x.tag != tag
            rmtTmo := incSat 65535 s.host.rmtTmo } }

/-- REMOTE_TIMEOUT (R469). -/
def execRemoteTimeout (tag : BitVec 8) (s : State) : Host.Outcome State Fault Refusal := .next (s.remoteTimeout tag)

/-- Every relayed request whose limit has passed (R469). -/
def State.remoteTimeouts (s : State) : State := runAll State.remoteTimeout (s.host.relays.map (·.tag)) s

/-! Ring accesses -/

/-- A read or write that a ring entry brings (R408, R461, R467). -/
def State.ringAccess (e : RingEnt) (s : State) : RingReply × State :=
  let a := e.addr.toNat
  let st := s.regStatus (e.op == 2) a
  if st ≠ 1 then (⟨e.rseq, st, e.addr, 0⟩, s)
  else if e.op = 2 then (⟨e.rseq, 1, e.addr, 0⟩, s.regWrite .ring a e.data)
  else
    let r := s.regRead .ring a
    (⟨e.rseq, 1, e.addr, r.1⟩, r.2)

end Sys2Proof.Machine
end

