-- ==== Sys2Proof/Machine/Relay.lean ====
section
/-! DEFINITION. What a unit takes from a Master frame and a Master from a consist frame (chapter 16, R398, R406, R410, R421). -/

namespace Sys2Proof.Machine

/-! Beat marker -/

/-- The boundary of the Master's beat after the own one, in ns: the arrival less the delay field less 1 µs (R398). -/
def markerOf (arrivalNs : Int) (l : List Byte) : Int := arrivalNs - 8 * ((numAt l 18 2 : Nat) : Int) - 1000

/-- The interval since the marker of the beat before, in CLK_A cycles (R85, R398). -/
def State.markInterval (s : State) (marker : Int) : Option Nat :=
  match s.ring.lastMark with
  | some (b, old) => if b = s.beat.num - 1 then some ((s.beat.period : Int) + divRnd (marker - old) 5).toNat else none
  | none => none

/-- The marker as the reference of the lock, and the BEAT field beside SBN (R81, R85, R398). -/
def State.takeMarker (arrivalNs phaseErr : Int) (l : List Byte) (s : State) : State :=
  let marker := markerOf arrivalNs l
  let h := hdrOf l
  let iv := s.markInterval marker
  let ok := iv.any fun i => intervalOk i && (s.beat.lock != .locked || decide (phaseErr.natAbs ≤ 5000))
  let b := if s.ownBeat then s.beat else s.beat.reference ok (iv.getD 0)
  { s with
    beat := { b with
      sbnSeen := some h.beat
      sbnDiff := if b.lock = .locked ∧ s.sbn ≠ h.beat then b.sbnDiff + 1 else 0 }
    ring := { s.ring with
      lastMark := some (s.beat.num, marker), mfSeen := true, mfEarly := decide (arrivalNs ≤ 200000) } }

/-! Contents -/

/-- The decision that a Master frame carries takes effect two beats after its beat, at the earliest at the next boundary
(R267). -/
def State.takeCadence (slow : Bool) (decision : Word) (s : State) : State :=
  let at_ := match s.beat.sbOfs with
    | some o => decision + 2 - o
    | none => s.beat.num + 1
  { s with chg := { s.chg with
      slowDecided := slow
      slowPend :=
        if slow == (s.chg.slowPend.getLast?.map (·.2)).getD s.chg.slow then s.chg.slowPend
        else s.chg.slowPend ++ [(at_, slow)] } }

/-- The record number in force (R276). -/
def State.takeRecord (x : Nat) (s : State) : State :=
  if x.testBit 7 then { s with chg := { s.chg with inForce := none } }
  else { s with chg := { s.chg with
      inForce := some (x % 8)
      recs := s.chg.recs.modify (x % 8) fun r => if r.used then r else s.newRecord 255 } }

/-- The accounting copy of a Master frame; a standby Master keeps it in its own record (R249). -/
def State.takeCopy (l : List Byte) (s : State) : State :=
  match ckptOf (slice 44 32 l) (slice 76 32 l) with
  | none => s
  | some c =>
    let t := { s with chg := { s.chg with copy := some c } }
    match t.chg.inForce with
    | some k => if 2 ≤ s.ring.role.toNat then (t.setRecord t.restored).putCkpt k fun _ => c else t
    | none => t

/-- The fields of a Master frame (R406). -/
def State.takeFields (l : List Byte) (s : State) : State :=
  let h := hdrOf l
  let f := numAt l 20 1
  let t := s.setRing fun r =>
    { r with
      master := h.src, masterEpoch := h.srcEpoch, masterRole := h.srcRole, rp := numAt l 16 2, mfClosed := f.testBit 6
      masterCtl := f / 8 % 8
      localBeats := if f.testBit 2 then some (r.localBeats.getD 0) else none
      nextOfs := (List.range 4).map fun w => numAt l (36 + 2 * w) 2 }
  let t := (t.takeCadence (f.testBit 0) (nword (numAt l 24 4))).takeRecord (numAt l 21 1)
  let t := { t with
    chg := { t.chg with swapPend := f.testBit 1 }
    bal := { t.bal with
      strMin := sbits (nword (numAt l 28 4)) 14 18
      strAge := min 255 (t.sbn - nword (numAt l 32 4)).toNat, strBeat := some (nword (numAt l 32 4)) } }
  t.takeCopy l

/-! Entries -/

/-- This unit's role and epoch as a stale-role answer carries them (R395, R406). -/
def State.roleWord (s : State) : Word := place s.roleByte 24 8 ||| place s.ring.epoch.toNat 0 16

/-- A stale-role answer has been sent (R395). -/
def State.countStale (s : State) : State := (s.tally 10 1).setRing fun r => { r with staleTx := incSat 65535 r.staleTx }

/-- An entry for this unit: checked against role and epoch, executed or answered with STATUS 4 (R394, R395, R408). -/
def State.ownEntry (e : RingEnt) (s : State) : RingReply × State :=
  if e.dstRole = s.roleByte ∧ e.dstEpoch = s.ring.epoch then s.ringAccess e
  else (⟨e.rseq, 4, e.addr, s.roleWord⟩, s.countStale)

/-- A stale-role notice for this unit: the Master is re-resolved from it (R395, R406). -/
def State.staleNotice (e : RingEnt) (s : State) : State :=
  let t := s.setRing fun r => { r with masterRole := e.data.toNat / 2 ^ 24, masterEpoch := BitVec.ofNat 16 e.data.toNat }
  ((t.tally 10 1).setRing fun r => { r with staleRx := incSat 65535 r.staleRx }).remoteAnswer e.rseq 4 e.addr e.data

/-- One entry of a Master frame (R406). -/
def State.mfEntry (e : RingEnt) (s : State) : State :=
  if e.dst ≠ s.addr then s
  else if e.op = 3 then s.staleNotice e
  else if e.op = 1 ∨ e.op = 2 then
    let x := s.ownEntry e
    x.2.setRing fun r => { r with replies := r.replies ++ [x.1] }
  else s

/-- The entries of a Master frame (R406). -/
def mfEntries (l : List Byte) : List RingEnt := (List.range (min 8 (numAt l 108 1))).map fun i => entAt l (112 + 16 * i)

/-- The delay field of each copy (R398, RING_DN, RING_DS). -/
def State.copyDelay (p : RPort) (l : List Byte) (s : State) : State :=
  s.setRing fun r => { r with dn := if p = .n then numAt l 18 2 else r.dn, ds := if p = .s then numAt l 18 2 else r.ds }

/-- A unit takes the first copy of the beat's Master frame; later copies give their delay only (R398, R406). -/
def State.mfTake (arrivalNs phaseErr : Int) (p : RPort) (l : List Byte) (s : State) : State :=
  let t := s.copyDelay p l
  if t.ring.active || t.ring.mfSeen then t
  else runAll State.mfEntry (mfEntries l) ((t.takeMarker arrivalNs phaseErr l).takeFields l)

/-- MF_RECEIVE (R398). -/
def execMfReceive (arrivalNs phaseErr : Int) (s : State) : Host.Outcome State Fault Refusal :=
  .next (match s.rxPop 1 with
    | none => s
    | some (f, t) => t.mfTake arrivalNs phaseErr f.port f.bytes)

/-! Consist frame -/

/-- The request that a code of a consist frame names (R421). -/
def kfRequest (code : Nat) : Option ReqKind :=
  match code with
  | 1 => some .close
  | 2 => some .openReq
  | _ => none

/-- The entries of a consist frame that stand in use (R421). -/
def kfEntries (l : List Byte) : List RingEnt := ((List.range 4).map fun i => entAt l (160 + 16 * i)).filter fun e => e.op != 0

/-- One entry of a consist frame: for this Master it is executed, for a unit of its string it goes into the next Master frame
with the role and epoch of the roster (R395, R421). -/
def State.kfEntry (e : RingEnt) (s : State) : State :=
  if uStr e.dst ≠ uStr s.addr then s
  else if e.dst = s.addr then
    let x := s.ownEntry e
    (x.2.setRing fun r => { r with trunkReplies := r.trunkReplies ++ [x.1], staleTrunk := r.staleTrunk || x.1.status == 4 })
  else
    s.setRing fun r => { r with entries := r.entries ++ [s.resolved e], kfRelays := r.kfRelays ++ [{ ent := e }] }

/-- The weights of the own string in its fragment, and the request that the active Master accepts where REQ_SRC enables the ring
(R298, R421). -/
def State.kfOwn (l : List Byte) (s : State) : State :=
  let j := uStr s.addr % 32
  let t := s.setRing fun r => { r with wChg := numAt l (32 + 4 * j) 2, wDis := numAt l (34 + 4 * j) 2 }
  match kfRequest (numAt l (24 + j / 4) 1 / 4 ^ (j % 4) % 4) with
  | some k => if t.ring.active && (t.nat .REQ_SRC).testBit 2 then { t with safe := { t.safe with reqStaged := some ⟨k, .ring⟩ } } else t
  | none => t

/-- A Master takes a consist frame that carries its CEPOCH (R421, R423). -/
def State.kfTake (l : List Byte) (s : State) : State :=
  if BitVec.ofNat 16 (numAt l 16 2) ≠ s.ring.cepoch then s
  else
    let t := s.setRing fun r =>
      { r with kfMissed := 0, csoc := numAt l 20 4, csocValid := true, coord := BitVec.ofNat 8 (uStr (hdrOf l).src) }
    if numAt l 18 1 ≠ uStr s.addr / 32 then t
    else
      let u := t.kfOwn l
      if u.ring.active then runAll State.kfEntry (kfEntries l) u else u

/-- KF_RECEIVE (R421). -/
def execKfReceive (s : State) : Host.Outcome State Fault Refusal :=
  .next (match s.rxPop 17 with
    | none => s
    | some (f, t) => t.kfTake f.bytes)

end Sys2Proof.Machine
end

