-- ==== Sys2Proof/Machine/Settle.lean ====
section
/-! DEFINITION. What a boundary still owes: the operations that are due at it and that no command has made, in their order
(R305; log entry 8). -/

namespace Sys2Proof.Machine

/-- An operation when it is due. -/
def State.doIf (due : State → Bool) (op : State → State) (s : State) : State := if due s then op s else s

/-- The beats run: from start step 6 on (R80, R499). -/
def State.beatsOn (s : State) : Bool :=
  match s.pwr.state with
  | .active | .idle => true
  | .start k => decide (6 ≤ k)
  | _ => false

/-- The sequencers' operations, by rank (R305-R331). -/
def State.settleSeq (s : State) : State :=
  s |>.doIf State.mutualDue State.mutualLoss
    |>.doIf State.openDue State.openOp
    |>.doIf State.ackDue State.ackOp
    |>.doIf State.closeDue State.closeOp
    |>.onChans State.commitDue State.commit
    |>.onChans State.preCloseDue State.preClose
    |>.onChans State.preOpenDue State.preOpen
    |>.onChans State.coolDue State.coolEnd
    |>.onChans State.curfreeDue State.curfree
    |>.onChans State.negDue State.negOpen
    |>.onChans State.rdWarnDue State.rdWarn
    |>.onChans State.rdExpireDue State.rdExpire

/-- Outputs (R74, R316, R323, R330). -/
def State.settlePins (s : State) : State :=
  let t := runAll (fun n s => State.doIf (fun t => t.lapseDue n .l) (State.lapse n .l)
    (State.doIf (fun t => t.lapseDue n .h) (State.lapse n .h)
      (State.doIf (fun t => t.pullinDue n) (State.pullinEnd n) s))) outNums s
  (t.doIf State.coilLowDue State.coilLow).doIf State.hostLostDue State.setHostLost

/-- Severity, blocks in reset, write-one-to-clear writes and the handling sequence (R367-R375). -/
def State.settleFaults (s : State) : State := (s.expiries.blkSettle.latchClear).doIf State.holdDue (State.closeHandling 2)

/-- The lock, the string beat number and the rings (R81, R85, R411-R425). -/
def State.settleSync (s : State) : State :=
  let t := s |>.doIf State.acquireDue State.acquire
    |>.doIf State.lockDue State.lockOn
    |>.doIf State.holdoverDue State.holdover
    |>.doIf State.sourceLostDue State.sourceLost
    |>.doIf State.resyncDue State.resync
  (t.strChange.doIf State.majorityDue State.majorityChange).doIf (fun t => t.ring.coordTake && t.ring.active) State.coordinate
    |>.startListen

/-- The CAN ports (R435, R440, R444). -/
def State.settleCan (s : State) : State :=
  (((s.queueAll).canRecover .can1 false).canRecover .can2 false).doIf State.ttResumeDue State.ttResume

/-- Crown switches and the trial (R62, R123, R131, R133). -/
def State.settleCfg (s : State) : State :=
  s |>.doIf (fun t => t.crownDue false) (State.crownChange false)
    |>.doIf (fun t => t.crownDue true) (State.crownChange true)
    |>.doIf State.crownDiffDue State.crownDiffer
    |>.doIf State.crownAgreeDue State.crownAgree
    |>.doIf State.checkpointDue State.trialCheckpoint
    |>.doIf State.expiryDue State.expire

/-- Measurement, open wires, switches, excitation, requests, cadence (R158-R161, R181-R197, R202, R209, R213, R217-R220, R238,
R267). -/
def State.settleData (s : State) : State :=
  let t := s |>.doIf State.isoResultDue State.isoResult
    |>.doIf State.isoPhaseDue State.isoPhase
    |>.doIf State.cadenceDue State.cadenceChange
    |>.doIf State.passDue State.startPass
  let u := runAll (fun g s => State.doIf (fun t => (t.owSeg g).due.isSome) (State.startSlot g) s) [0, 1, 2, 3] t
  let v := runAll (fun g s => runAll (fun j s => State.doIf (fun t => t.wireClearDue g j) (State.wireClear g j) s) (List.range 25) s)
    [0, 1, 2, 3] u
  let w := runAll (fun i s => State.doIf (fun t => t.conductsDue (i + 1)) (State.conducts (i + 1))
    (State.doIf (fun t => t.noCurrentDue (i + 1)) (State.noCurrent (i + 1)) s)) (List.range 96) v
  let x := w |>.doIf State.balTimeoutDue State.balTimeout
    |>.doIf State.calLeft (State.calEnd 3 4)
    |>.doIf State.calDone (State.calEnd 2 0)
    |>.doIf State.runStopDue State.runStop
    |>.doIf State.runDue State.runStart
  x.reqWithdraw.reqStart

/-- Splits, joins, the end of a sweep (R352, R356, R357). -/
def State.settleCores (s : State) : State :=
  s |>.doIf (fun t => t.splitReq .a) (State.splitOp .a)
    |>.doIf (fun t => t.splitReq .b) (State.splitOp .b)
    |>.doIf (fun t => t.joinReq .a) (State.joinOp .a)
    |>.doIf (fun t => t.joinReq .b) (State.joinOp .b)
    |>.doIf State.sweepDue State.sweepEnd

/-- Remote requests and power requests (R469, R495, R496, R418); a request with REQ 0 or 3 asks for nothing. -/
def State.settlePower (s : State) : State :=
  let t := s.remoteTimeouts
    |>.doIf (fun t => t.pwrDue 1) (fun t => t.pwrRequest false (t.pwr.req.any (·.2)) 1)
    |>.doIf (fun t => t.pwrDue 2) (fun t => t.pwrRequest true (t.pwr.req.any (·.2)) 1)
    |>.doIf State.listenDue (State.pwrRequest false true 2)
    |>.doIf State.ringSilentDue State.ringSilent
  t.setPwr fun p => { p with req := none }

/-- Everything that the boundary still owes, and no boundary operation acts after it (log entry 8). -/
def State.settle (s : State) : State :=
  if !s.atBoundary || !s.beat.running then s
  else
    let t := s |>.settleSeq
      |>.settlePins |>.settleFaults |>.settleSync |>.settleCfg |>.settleData |>.settleCan |>.settleCores |>.settlePower
    ((t.swCommands.setBeat fun b => { b with bStage := 1 }).burstOn).doIf State.revertDue State.revertReset

end Sys2Proof.Machine
end

