-- ==== Sys2Proof/Machine/Evaluate.lean ====
section
/-! DEFINITION. The evaluation of a beat: its stages in order, the commands that stand within it, and the report frame that
carries its values (R31, R93, R262, R320; log entry 8). -/

namespace Sys2Proof.Machine

/-- Evaluations happen: beats run and BEAT_NUM 0 has begun (R31, R80). -/
def State.evalOn (s : State) : Bool := s.beatsOn && s.beat.running

/-! Stages -/

/-- A control-plane step of channel A, abandoned with its evaluation (R96). -/
def State.onA (f : State → State) (s : State) : State := if s.evals .a then f s else s

/-- A step on each channel. -/
def State.onBoth (f : Ch → State → State) (s : State) : State := f .b (f .a s)

/-- Cells of the string that count for STR_MIN: VALID, populated, without INVALID; another unit's cell set counts for its divider
(R212, R403). -/
def State.strMinCodes (s : State) : List Int :=
  s.ownMin.toList ++ (s.otherUnits.filter fun u => decide (u.setAge < s.divUnit u.addr)).flatMap fun u =>
    u.cells.filterMap fun v => if v.valid && !v.invalid then some v.code else none

/-- The Master computes STR_MIN (R212); without any such cell the last value ages. -/
def State.strMinStep (s : State) : State :=
  if !s.master then s
  else match minI s.strMinCodes with
    | some m => { s with bal := { s.bal with strMin := m, strAge := 0, strBeat := some s.sbn } }
    | none => s

/-- Every disagreement that is due (R189). -/
def State.checkStage (s : State) : State :=
  runAll (fun n => State.doIf (fun t => t.checkDue n) (State.checkDiff n)) ((List.range 96).map (· + 1)) s

/-- A step on every pin. -/
def State.onPins (f : Nat → Nat → State → State) (s : State) : State :=
  runAll (fun g => runAll (f g) (List.range 25)) [0, 1, 2, 3] s

/-- An impedance block that has ended (R235). -/
def State.blockStage (k : Nat) (s : State) : State := s.doIf (fun t => t.blockDue k) (State.blockEnd k)

/-- One output's mirror is checked in a channel (R313). -/
def State.mirrorOut (n : Nat) (ch : Ch) (s : State) : State :=
  if !s.evals ch || !s.drives then s
  else
    let f := s.mirrorFtc ch n
    let t := if f then s.attemptEnd ch else s
    t.setChan ch fun c =>
      { c with mirFtc := c.mirFtc || f, mirWeld := c.mirWeld || s.mirrorWeld ch n
               ftcOut := if f then n else c.ftcOut, weldOut := if s.mirrorWeld ch n then n else c.weldOut
               seq := if f && c.seq.state == .precharging && !c.seq.fail then c.seq.fails 4 else c.seq }

/-- What a channel posts after its evaluation (R328); fast blocks as of sub-beat 12. -/
def State.postRec (ch : Ch) (s : State) : State :=
  if !s.evals ch then s
  else
    let fast := s.blocks.filterMap fun b => if b.2.fast then some b.1 else none
    s.setChan ch fun c =>
      let r : XRec :=
        { beat := s.beat.num
          blocks := (indexed c.esc).map fun x => if fast.contains x.1 then x.2.at12 else x.2.out
          out := c.out, state := c.seq.state, cmd := c.seq.cmd }
      { c with post := some r }

/-- Stages 0 to 18: ring window, impedance, measurement, cross-checks, thermal, accounting. -/
def State.stageLow (i : Nat) (s : State) : State :=
  match i with
  | 0 => s.isoClose.dataA fun t => t.ringWindow.impBeat.sweepBeat
  | 1 => s.dataA fun t => (runAll State.blockStage [0, 1, 2, 3] t).sweepBlock
  | 2 => ((s.freeze.dataA State.owEval).formCells.isoCollect.checkCompare.checkFollow.sumCount).dataA fun t => t.senseAll.calEval
  | 3 => s.checkStage
  | 4 => s.doIf State.sumDue State.sumChange
  | 5 => s.dataA fun t => t.onPins fun g j => State.doIf (fun t => t.suspectDue g j) (State.suspect g j)
  | 6 => s.onPins fun g j => State.doIf (fun t => t.graceDue g j) (State.graceExpire g j)
  | 7 => s.onA (State.doIf State.thermalDue State.thermal)
  | 8 => s.onA (State.doIf (fun t => t.oorCause.isSome) State.outOfRating)
  | 9 => s.onA State.swapCount
  | 10 => s.onA (State.doIf (fun t => t.swapCause.isSome) State.swap)
  | 11 => s.onA (State.doIf State.selectDue State.selectRecord)
  | 12 => s.onA fun t => t.accCount.accCompensate.accCounters
  | 13 => s.onA (State.doIf State.emptyDue State.anchorEmpty)
  | 14 => s.onA (State.doIf State.fullDue State.anchorFull)
  | 15 => s.onA (State.doIf State.voltageDue State.anchorVoltage)
  | 16 => s.onA State.accConflict
  | 17 => s.onA (State.doIf State.starveDue State.starve)
  | 18 => s.onA State.accFinish
  | _ => s

/-- Stages 19 to 36: cycle count, cadence and balancing, protection, telegrams, escapement, sequencers, publication, records. -/
def State.stageHigh (i : Nat) (s : State) : State :=
  match i with
  | 19 => s.onA (State.doIf State.cycDue State.cycStore)
  | 20 => (s.onA fun t => t.cadence.strMinStep.balWantAll).debounceAll
  | 21 => s.inputChanges.protectionLevels.discCounts.discClear
  | 22 => s.discrepancies.wordsMissing.conditionStage
  | 23 => runAll State.telJudged ((List.range 64).filter fun n => s.telUsed (64 + n)) s
  | 24 => s.telegrams
  | 25 => ((s.onA State.trunkJudge).onBoth State.escapement).escapementEnd
  | 26 => s.onBoth State.clearOneOffs
  | 27 => s.doIf State.ftcDue State.ftcChecks
  | 28 => s.onBoth State.criterion
  | 29 => s.pcTimeouts
  | 30 => (s.onBoth State.currentFree).onBoth State.weldPass
  | 31 => s.weldTimeouts
  | 32 => s.onBoth State.mirrorCheck
  | 33 => s.unrequested.latchCond
  | 34 => s.publish
  | 35 => s.onA (State.doIf State.healthDue State.healthClear)
  | 36 => (s.onBoth State.postRec).cmdAll
  | _ => s

/-- How many stages an evaluation has. -/
def evalStages : Nat := 37

/-- Stage i when it is the next one. -/
def State.evalStage (i : Nat) (s : State) : State :=
  if s.beat.eStage = i then
    ((if i < 19 then s.stageLow i else s.stageHigh i)).setBeat fun b => { b with eStage := i + 1 }
  else s

/-- The stages before stage k that have not run. -/
def State.evalTo (k : Nat) (s : State) : State := runAll State.evalStage (List.range k) s

/-- What the boundary owed comes before anything else of the beat; a reset that it brings ends the beat (R133; log entry 8). -/
def State.inBeat (f : State → State) (s : State) : State := s.settle.doIf State.evalOn f

/-- The evaluation up to stage k, from the instant 850 µs on (R31). -/
def State.evalFrom (k : Nat) (s : State) : State := (s.at 850000).evalTo k

/-- A command that is stage k whole: the evaluation runs through it (log entry 8). -/
def State.evalThrough (k : Nat) (s : State) : State := if s.evalOn then s.inBeat (State.evalFrom (k + 1)) else s

/-- A command for one item of stage k: the evaluation runs up to the stage, and the item is handled when it is due. -/
def State.evalItem (k : Nat) (due : State → Bool) (op : State → State) (s : State) : State :=
  if !s.evalOn || decide (k < s.beat.eStage) then s else s.inBeat fun t => (t.evalFrom k).doIf due op

/-! Commands -/

/-- Completion of a channel: a halted core completes no evaluation, one that was halted completes later (R96, R362). -/
def State.doneUs (s : State) (ch : Ch) (us : Nat) : Nat :=
  if s.debugHalted ch then 1000 else us + ceilDiv (match ch with | .a => s.beat.haltA | .b => s.beat.haltB) 1000

/-- Completion that OVR.WORST counts (R108): an abandoned evaluation, or that of a channel that does not run, never completes. -/
def State.completed (s : State) (ch : Ch) (us : Nat) : Nat :=
  if s.runs ch && decide (s.doneUs ch us ≤ 980) then s.doneUs ch us else 0

/-- The whole evaluation, with the completion times of both channels (R31, R96). -/
def State.evaluation (usA usB : Nat) (s : State) : State :=
  let t := s.setBeat fun b => { b with doneA := some (s.doneUs .a usA), doneB := some (s.doneUs .b usB) }
  let u := (t.evalFrom evalStages).tally 2 (s.doneUs .a usA)
  (u.tally 3 (s.doneUs .b usB)).setBeat fun b => { b with worst := max b.worst (max (s.completed .a usA) (s.completed .b usB)) }

/-- A channel's cores are held by the debugger. -/
def State.someHalted (s : State) : Bool := s.debugHalted .a || s.debugHalted .b

/-- One evaluation a beat (R31). While the debugger halts a channel's cores it waits for their release (R362; log entry 101). -/
def State.evaluate (usA usB : Nat) (s : State) : State :=
  if !s.evalOn || s.beat.doneA.isSome || s.beat.evalWait.isSome then s
  else if s.someHalted then s.inBeat fun t => t.setBeat fun b => { b with evalWait := some (usA, usB) }
  else s.inBeat (State.evaluation usA usB)

/-- The evaluation that has waited for a halted core (R362). -/
def State.evalOwed (s : State) : State :=
  match s.beat.evalWait with
  | none => s
  | some (a, b) => (s.setBeat fun x => { x with evalWait := none }).evaluation a b

/-- EVALUATION (R31): usA and usB are the completion times in µs after the boundary. -/
def execEvaluation (usA usB : Nat) (s : State) : Host.Outcome State Fault Refusal := .next (s.evaluate usA usB)

/-- A halt begins, or ends, at an instant of the beat (R362). -/
def State.debugHalt (halt : Bool) (s : State) : State :=
  if halt then
    { s with
      core := if s.core.dbgHalt then s.core else { s.core with dbgHalt := true, dbgFrom := s.beat.offNs }
      beat := { s.beat with detVoid := true } }
  else s.resumeCore.evalOwed

/-- DEBUG_HALT (R362). -/
def execDebugHalt (edge : HaltIn) (s : State) : Host.Outcome State Fault Refusal :=
  .next (if s.core.dbg.isSome then (s.at edge.ofsNs).debugHalt edge.halt else s)

/-- IMPEDANCE_BLOCK_END (R235). -/
def execImpedanceBlockEnd (slot : Fin 4) (s : State) : Host.Outcome State Fault Refusal :=
  .next (s.evalItem 1 (fun t => t.works .a && t.blockDue slot.val) (State.blockEnd slot.val))

/-- CHECK_DISAGREEMENT (R189). -/
def execCheckDisagreement (cell : Fin 96) (s : State) : Host.Outcome State Fault Refusal :=
  .next (s.evalItem 3 (fun t => t.checkDue (cell.val + 1)) (State.checkDiff (cell.val + 1)))

/-- SUM_MISMATCH (R190). -/
def execSumMismatch (s : State) : Host.Outcome State Fault Refusal := .next (s.evalThrough 4)

/-- OPEN_WIRE_SUSPECT (R187). -/
def execOpenWireSuspect (seg : Fin 4) (pin : Fin 25) (s : State) : Host.Outcome State Fault Refusal :=
  .next (s.evalItem 5 (fun t => t.works .a && t.suspectDue seg.val pin.val) (State.suspect seg.val pin.val))

/-- OPEN_WIRE_GRACE_EXPIRY (R196). -/
def execOpenWireGraceExpiry (seg : Fin 4) (pin : Fin 25) (s : State) : Host.Outcome State Fault Refusal :=
  .next (s.evalItem 6 (fun t => t.graceDue seg.val pin.val) (State.graceExpire seg.val pin.val))

/-- THERMAL_EVALUATION (R383). -/
def execThermalEvaluation (s : State) : Host.Outcome State Fault Refusal := .next (s.evalThrough 7)

/-- EXCURSION_OUT_OF_RATING (R388). -/
def execExcursionOutOfRating (s : State) : Host.Outcome State Fault Refusal := .next (s.evalThrough 8)

/-- SWAP_DETECTED (R273). -/
def execSwapDetected (s : State) : Host.Outcome State Fault Refusal := .next (s.evalThrough 10)

/-- RECORD_SELECT (R274). -/
def execRecordSelect (s : State) : Host.Outcome State Fault Refusal := .next (s.evalThrough 11)

/-- EMPTY_ANCHOR (R258). -/
def execEmptyAnchor (s : State) : Host.Outcome State Fault Refusal := .next (s.evalThrough 13)

/-- FULL_ANCHOR (R257). -/
def execFullAnchor (s : State) : Host.Outcome State Fault Refusal := .next (s.evalThrough 14)

/-- VOLTAGE_ANCHOR (R259). -/
def execVoltageAnchor (s : State) : Host.Outcome State Fault Refusal := .next (s.evalThrough 15)

/-- ANCHOR_STARVATION (R266). -/
def execAnchorStarvation (s : State) : Host.Outcome State Fault Refusal := .next (s.evalThrough 17)

/-- CYCLE_COUNT_STORE (R272). -/
def execCycleCountStore (s : State) : Host.Outcome State Fault Refusal := .next (s.evalThrough 19)

/-- PROTECTION_LEVEL_CHANGE (R299). -/
def execProtectionLevelChange (s : State) : Host.Outcome State Fault Refusal := .next (s.evalThrough 21)

/-- INPUT_CHANGE (R317). -/
def execInputChange (inp : Fin 8) (ch : Ch) (s : State) : Host.Outcome State Fault Refusal :=
  .next (s.evalItem 21 (fun t => t.inputDue inp.val ch) (State.inputChange inp.val ch))

/-- INPUT_DISCREPANCY (R338). -/
def execInputDiscrepancy (inp : Fin 8) (s : State) : Host.Outcome State Fault Refusal :=
  .next (s.evalItem 22 (fun t => t.discDue inp.val) (State.discrepancy inp.val))

/-- PAIR_JUDGEMENT (R342). -/
def execPairJudgement (tel : Fin 64) (s : State) : Host.Outcome State Fault Refusal :=
  .next (s.evalItem 23 (fun t => t.telUsed (64 + tel.val)) (State.telJudged tel.val))

/-- TELEGRAM_LOST (R342). -/
def execTelegramLost (tel : Fin 64) (s : State) : Host.Outcome State Fault Refusal :=
  .next (s.evalItem 24 (fun t => t.telUsed (64 + tel.val)) (State.telTimed tel.val))

/-- FAILURE_TO_CLOSE_CHECK (R307). -/
def execFailureToCloseCheck (s : State) : Host.Outcome State Fault Refusal := .next (s.evalThrough 27)

/-- PRECHARGE_TIMEOUT (R309). -/
def execPrechargeTimeout (s : State) : Host.Outcome State Fault Refusal := .next (s.evalThrough 29)

/-- WELD_TIMEOUT (R312). -/
def execWeldTimeout (s : State) : Host.Outcome State Fault Refusal := .next (s.evalThrough 31)

/-- MIRROR_CHECK (R313). -/
def execMirrorCheck (out : Fin 8) (s : State) : Host.Outcome State Fault Refusal :=
  .next (s.evalItem 32 (fun _ => true) (State.onBoth (State.mirrorOut (out.val + 1))))

/-- UNREQUESTED_OPENING (R314). -/
def execUnrequestedOpening (s : State) : Host.Outcome State Fault Refusal := .next (s.evalThrough 33)

/-- HEALTH_WARNING_CLEAR (R293). -/
def execHealthWarningClear (s : State) : Host.Outcome State Fault Refusal := .next (s.evalThrough 35)

/-! Report frame -/

/-- The values of the beat that a report frame carries, present before the evaluation (R320, R408): the state as the evaluation
will find it after its condition stage. -/
def State.reportView (s : State) : State :=
  s.inBeat fun t => (t.setBeat fun b => { b with doneA := some 0, doneB := some 0 }).evalTo 23

/-- RF_SEND (R401, R402). -/
def execRfSend (s : State) : Host.Outcome State Fault Refusal :=
  .next (if s.rfDue then s.rfSend s.reportView else s)

end Sys2Proof.Machine
end

