-- ==== Sys2Proof/Machine/Start.lean ====
section
/-! DEFINITION. The start sequence (R499-R501) with the image load (R130-R136), the segment calibration (R142) and the
population check (R55). -/

namespace Sys2Proof.Machine

/-! Steps 1 to 4 -/

/-- A fault source found before the collectors run: it is raised at step 5 (R499, R538). -/
def State.startFault (c : Bool) (fs : Nat) (detail : Word) (s : State) : State :=
  if c then s.setPwr fun p => { p with startFaults := p.startFaults ++ [(fs, detail)] } else s

/-- A die is held in reset or does not complete the start (R499); with CDA its collector and the recorder stand still. -/
def State.dieHeld (c : Bool) (ch : Ch) (s : State) : State :=
  if c then
    let t := s.setChan ch fun x => { x with alive := false }
    if ch = .a then t.freezeFlt else t
  else s

/-- Step 2: a die whose boot fails is held in reset (R499). -/
def State.startBoot (bad : BitVec 2) (s : State) : State :=
  let a := bad.toNat.testBit 0
  let b := bad.toNat.testBit 1
  ((s.startFault a 0 0).startFault b 1 0).dieHeld a .a |>.dieHeld b .b

/-- The first failure of a die's comparator self-test: class and number of the first missed injection, else the class of a flag that
arose without injection (R351). DESIGN CHOICE (log entry 109): the latter names the injection number 0. -/
def testFailure (miss : Option (Fin 8 × Fin 64)) (flag : Option (Fin 8)) : Option (Nat × Nat) :=
  match miss, flag with
  | some (c, i), _ => some (c.val, i.val)
  | none, some c => some (c.val, 0)
  | none, none => none

/-- Step 3: a failed test marks the die's pair FAILED, and FS2 is raised at step 5 (R351). -/
def State.startTest (ch : Ch) (fail : Option (Nat × Nat)) (s : State) : State :=
  match fail with
  | none => s
  | some (c, i) => (s.setPair ch fun p => { p with pair := .failed, testFail := some (c, i) }).startFault true 2 (nword c)

/-- Step 4: the memory tests, and after Off the saved calendar (R487, R499). -/
def State.startMemory (bad : BitVec 3) (s : State) : State :=
  let f := ((s.startFault (bad.toNat.testBit 0) 9 0).startFault (bad.toNat.testBit 1) 10 0).startFault (bad.toNat.testBit 2) 11 0
  let t := (f.dieHeld (bad.toNat.testBit 0) .a).dieHeld (bad.toNat.testBit 1) .b
  if t.pwr.cause = 1 then
    let l : LogS := { t.log with calSec := t.log.savedSec, calFrac := t.log.savedFrac, calValid := false }
    let l := l.tick (65536 * t.log.calSec.toNat + t.log.calFrac.toNat)
    State.event .management 4 [l.calSec] { t with log := l.snap }
  else t

/-! Step 5: image load -/

/-- The journal is read (R128, R136). -/
def State.loadJournal (s : State) : State := s.setCfg CfgS.fromJournal

/-- The start swap (R130), in one journal write. -/
def State.startSwap (s : State) : State :=
  match s.cfg.find [.pending] with
  | none => s
  | some b =>
    let limit := 1000 * (imageOf (cellsBytes bankSize (s.cfg.bank b).cells)).trialS
    s.setCfg (CfgS.journal fun c =>
      let d := c.setBank b fun x => { x with state := .trial }
      { d.setBank (!b) fun x => { x with state := if x.state = .active then .previous else x.state } with
        trialElapsed := 0, trialLimit := limit })

/-- The bank passes the check at load (R118, R134). -/
def State.bankLoads (s : State) (b : Bool) : Bool :=
  let k := s.cfg.bank b
  s.bankSound b && loadOk (cellsBytes bankSize k.cells) k.slot s.cfg.keys

/-- The bank that loads, after what its failure changes, and whether a load failed (R134): a TRIAL bank that fails is reverted
and the PREVIOUS bank loads; an ACTIVE bank that fails is INVALID, and no image loads. -/
def State.chooseBank (s : State) : State × Option Bool × Bool :=
  let last (t : State) (failed : Bool) : State × Option Bool × Bool :=
    match t.cfg.find [.active] with
    | none => (t, none, failed)
    | some b => if t.bankLoads b then (t, some b, failed) else (t.bankTo b .invalid, none, true)
  match s.cfg.find [.trial] with
  | some b => if s.bankLoads b then (s, some b, false) else last (s.revertTrial 4) true
  | none => last s s.cfg.governing.isNone

/-- Role and epoch when an image is in force (R40, R115): epoch 1 with a new unit address, a role change when an activated image
assigns another role; without an image the role is 0b00 (R134). -/
def RingS.rolesFor (r : RingS) (g : Option Image) (activated : Bool) : RingS :=
  match g with
  | none => { r with role := 0 }
  | some g =>
    if r.lastAddr != g.addr || r.epoch == 0 then { r with role := g.role, epoch := 1, lastAddr := g.addr }
    else if activated && r.role != g.role then { r with role := g.role, epoch := nextEpoch r.epoch }
    else r

/-- The activation of another image than the one last loaded: one entry and the count (R137, R490). -/
def State.activation (b : Bool) (s : State) : State :=
  let k := s.cfg.bank b
  if s.cfg.loaded = some (b, k.ver) then s
  else
    State.event .management 0x200 [nword (bankNum b), nword k.ver, nword s.img.bcl, nword k.state.code]
      (s.setCfg fun c => { c with loaded := some (b, k.ver), actCnt := incSat 65535 c.actCnt })

/-- WINw_NEXT.OFS as the image gives it (R108). DESIGN CHOICE (log entry 81): the image's NEXT of the window where it has one, else the
window's own OFS. -/
def State.nextOfsImage (s : State) (w : Nat) : Nat := if s.img.has .NEXT w then s.nat .NEXT w else s.nat .OFS w

/-- Registers and tables that take their reset value from the image (R16). -/
def State.imageRegs (s : State) : State :=
  { s with
    beat := { s.beat with
      srcSel := BitVec.ofNat 2 (s.nat .SRC_SEL), holdover := BitVec.ofNat 8 (s.nat .HOLDOVER)
      syncPhase := BitVec.ofNat 10 (s.nat .SYNC_PHASE), cantPhase := BitVec.ofNat 10 (s.nat .CANT_PHASE)
      fallWin := s.on .FALL_WIN, riseBeat := s.on .RISE_BEAT
      wins := (indexed s.beat.wins).map fun x => { x.2 with next := s.nextOfsImage x.1 } }
    bal := { s.bal with
      tmo := BitVec.ofNat 16 (s.nat .BAL_TMO), duty := BitVec.ofNat 5 (s.nat .DUTY), src := BitVec.ofNat 2 (s.nat .SRC) }
    imp := { s.imp with en := s.on .IMP_EN, swEn := s.on .SW_EN, reqEn := s.on .REQ_EN }
    ring := { s.ring with nextOfs := (List.range 4).map s.nextOfsImage }
    host := { s.host with hstr := BitVec.ofNat 8 (uStr s.addr) } }

/-- The recorder restarts (R480): it goes on from the kept number when its slot holds that record, or from the number after it
when the next slot does; otherwise it scans the store. -/
def State.logRestart (s : State) : State :=
  let l := s.log
  let holds (q : Word) : Bool := (storeGet (q.toNat % logSlots) l.store).any fun r => r.seq == q && r.mark == 0xA5
  if l.store.isEmpty then s
  else if holds (l.newest + 1) then { s with log := { l with newest := l.newest + 1 } }
  else if holds l.newest then s
  else { s with log := { l with newest := l.scan.getD l.newest }, pwr := { s.pwr with xt := s.pwr.xt ||| 1 } }

/-- Every other entry of RING_ORDER is this unit's own: a string of one unit. -/
def State.lone (s : State) : Bool := s.ringOrder.all fun u => u == s.addr

/-- A Master that is alone in its string is its active Master from the load on; the sequences of R411 and R413 need the ring. -/
def State.loneMaster (s : State) : State :=
  if s.cfg.image.isSome && s.lone && decide (2 ≤ s.ring.role.toNat) then
    s.ownNumbers.setRing fun r => { r with active := true, master := s.addr, masterEpoch := r.epoch, masterRole := r.role.toNat + 4 }
  else s

/-- The start record, and the mismatch records of the supervisor's latch (R349, R490, R538). -/
def State.startRecords (s : State) : State :=
  let t := s.event .management 0x100 [nword s.pwr.cause, nword s.flt.rstCnt,
    place s.ring.role.toNat 16 2 ||| place s.ring.epoch.toNat 0 16, nword s.img.ver]
  let u := runAll (fun (m : Ch × Nat) x => x.event .management 0x103 [if m.1 = .a then 0 else 1, nword m.2]) t.core.mmRecord t
  { u with core := { u.core with mmRecord := [] } }

/-- The image loader's choice of an image, from the journal on (R118, R128-R136); any module reset after a lockstep mismatch is one raised
by lockstep failure (R131, R349). -/
def State.loadImage (s : State) : State × Bool :=
  let j := s.loadJournal
  let rv := if (j.pwr.cause == 4 || j.pwr.cause == 5 || !j.core.mmRecord.isEmpty) && (j.cfg.find [.trial]).isSome then j.revertTrial 2
    else j
  let (t, bank, failed) := rv.startSwap.chooseBank
  let g := bank.map fun b => imageOf (cellsBytes bankSize (t.cfg.bank b).cells)
  let activated := bank.any fun b => t.cfg.loaded != some (b, (t.cfg.bank b).ver)
  let u := (t.setCfg fun c =>
    { c with image := g, loaded := if bank.isSome then c.loaded else none }).setRing fun r => r.rolesFor g activated
  (match bank with
    | some b => u.activation b
    | none => u, failed)

/-- Step 5 (R499): image, tables, collectors, recorder, accounting, escapement and ports. -/
def State.startLoad (copiesEqual : Bool) (s : State) : State :=
  let (t, failed) := s.loadImage
  let none_ := t.cfg.image.isNone
  let a := (t.imageRegs.setCfg fun c => { c with copiesOk := copiesEqual }).logRestart.startRecords.loneMaster
  let b := runAll (fun (f : Nat × Word) x => x.raiseCond f.1 f.2) a.pwr.startFaults a
  let c := if failed then (if none_ then b.raiseCond 12 0 else b.raise 12 0) else b
  let d := onlyIf c.pwr.nrstIgn (State.raiseCond 65 0) c
  let e : State := { d with
    flt := { d.flt with nfltLoad := failed }
    pwr := { d.pwr with startFaults := [], starts := incSat 65535 d.pwr.starts } }
  (onlyIf none_ State.eraseStart (e.accRestart.escapementReset.rwFollow)).canStart

/-! Steps 6 to 8 -/

/-- Step 6 (R142): converters out of limits are marked failed, and FS24 to FS27 are raised; currents and HV belong to SG0. DESIGN CHOICE
(log entry 25): the source stays present while the mark stands, until the module's next start. -/
def State.calibrate (cell chk cur hv : List (Int × Int)) (s : State) : State :=
  let m : MeasS := { s.meas with
    failCell := (calFails cell 1000 200).map (· + 1)
    failChk := calFails chk 4000 1000
    failCur := calFails cur 2000 2000
    failHv := calFails hv 3000 500 }
  let bad (seg : Nat) : Bool := m.failCell.any (fun n => segOf n == seg) || m.failChk.any (fun k => k / 6 == seg) ||
    (seg == 0 && (!m.failCur.isEmpty || !m.failHv.isEmpty))
  runAll (fun seg t => if bad seg then t.raiseCond (24 + seg) 0 else t) [0, 1, 2, 3] { s with meas := m }

/-- A tap of the position is not cleared by the open-wire test. DESIGN CHOICE (log entry 84): R55 does not say how a tap counts
that the pass does not test; here it counts as cleared. -/
def State.tapOpen (s : State) (n : Nat) : Bool :=
  let seg := segOf n
  let c := n - 24 * seg
  (s.pin seg (c - 1)).opn || (s.pin seg c).opn

/-- The population check (R55): an unpopulated position above 50 mV, a populated one below it; segments without a cell and taps
that read OPEN are left out. DESIGN CHOICE (log entry 84): R55 names no instant; the readings held at the end of start step 7 are
judged. -/
def State.misPopulated (s : State) : Bool :=
  (List.range 96).any fun i =>
    let n := i + 1
    s.segUsed (segOf n) && !s.tapOpen n && (s.meas.posCodes[i]?.getD none).any fun x =>
      if s.cellPop n then decide (x < 1280) else decide (1280 < x)

/-- The start step goes on to the next. -/
def State.stepOn (k : Nat) (s : State) : State := s.setPwr fun p => { p with state := .start (k + 1), startBeats := 0 }

/-- START_SEQUENCE (R499): the work of the start step in progress; step 7 ends with its pass, step 8 in START_STEP_END. -/
def State.startStep (o : StartIn) (s : State) : State :=
  match s.pwr.state with
  | .start 1 => s.stepOn 1
  | .start 2 => (s.startBoot o.bootFail).stepOn 2
  | .start 3 => ((s.startTest .a (testFailure o.missA o.flagA)).startTest .b (testFailure o.missB o.flagB)).stepOn 3
  | .start 4 => (s.startMemory o.memFail).stepOn 4
  | .start 5 => (s.startLoad o.copiesEqual).stepOn 5
  | .start 6 => (s.calibrate o.calCell o.calChk o.calCur o.calHv).startPass.stepOn 6
  | .start 7 =>
    if s.passRuns then s
    else (onlyIf s.misPopulated (State.raiseCond 28 0) s).stepOn 7
  | _ => s

/-- START_SEQUENCE (R499). -/
def execStartSequence (o : StartIn) (s : State) : Host.Outcome State Fault Refusal := .next (s.startStep o)

/-- Step 8 has done its work (R499): enumerated as active Master, listed by an ER, or the beats are over: 40, and 100 for a Master
that starts standby (R413, R500). -/
def State.startDone (s : State) : Bool :=
  let standby := s.on .START && decide (2 ≤ s.ring.role.toNat)
  s.pwr.state == .start 8 &&
    (s.cfg.image.isNone || (s.ring.active && !s.ring.enumDue) || (!s.ring.active && s.ring.listed) ||
      decide ((if standby then 100 else 40) ≤ s.pwr.startBeats))

/-- The start ends: the sequencers take Parked or Safe, the module is Active (R501, R509). -/
def State.startEnd (ms : Nat) (s : State) : State :=
  let standby := s.on .START && decide (2 ≤ s.ring.role.toNat) && !s.lone
  let seq : Seq := { state := if s.safe.latched then .safe else .parked }
  { s with
    cha := { s.cha with seq := seq }
    chb := { s.chb with seq := seq }
    pwr := { s.pwr with
      state := .active, ms := min 65535 ms, uptime := s.pwr.uptime + ms, startBeats := 0
      xt := if standby then s.pwr.xt ||| 4 else s.pwr.xt } }

/-- START_STEP_END (R501). -/
def execStartStepEnd (ms : Nat) (s : State) : Host.Outcome State Fault Refusal :=
  .next (if s.startDone then s.startEnd ms else s)

/-- The start's part of a boundary: beats of the step, and whether open-wire slots repeat (R500). -/
def State.startBoundary (s : State) : State :=
  match s.pwr.state with
  | .start k => s.setPwr fun p =>
    { p with startBeats := p.startBeats + 1
             xt := if k = 7 ∧ s.integ.seg.any (fun x => !x.again.isEmpty) then p.xt ||| 2 else p.xt }
  | _ => s

end Sys2Proof.Machine
end

