-- ==== Sys2Proof/Machine/Cycle.lean ====
section
/-! DEFINITION. The beat's own clock: sub-beats, windows that close, and the boundary (R33, R80, R82, R92, R152, R210, R248). -/

namespace Sys2Proof.Machine

/-! Windows -/

/-- WINDOW_CLOSE (R92): an edge-mode window that no edge has opened stood at OFS (R89); after the window the gate opens (R199). -/
def execWindowClose (w : Fin 4) (o : WindowIn) (s : State) : Host.Outcome State Fault Refusal :=
  let t := if s.edgeWaits w.val then s.fallBack (usTicks (s.winOfs w.val) + 1) else s
  .next (if t.winOpen w.val then
    (((t.segPush (t.winWords w.val) .a).segPush (t.winWords w.val) .b).closeWindow w.val o).gateEnd w.val else t)

/-! Sub-beats -/

/-- The cell samples of a sub-beat that arrive (R205, R372). -/
def State.cellSamples (s : State) (l : List (Option Raw)) : List (Option Raw) :=
  (indexed l).map fun x =>
    if s.works .a && s.linkUp (segOf (x.1 + 1)) .a && !s.meas.lostCell.contains (.a, x.1 + 1) then x.2 else none

/-- The interval of the sub-beat that the impedance measurement reads one beat later (R227, R228). -/
def State.interval (s : State) (o : SubBeatIn) : Interval :=
  { cells := s.cellSamples o.cells, ib := o.ib, i1 := if s.curPop 0 then s.curSample .a 0 o.i1 else none }

/-- Coil currents and readbacks of the outputs (R314, R316, R335). -/
def SafeS.sense (x : SafeS) (o : SubBeatIn) : SafeS :=
  { x with out := (indexed x.out).map fun y =>
      { y.2 with coilSum := y.2.coilSum + o.coil[y.1]?.getD 0, coilSumB := y.2.coilSumB + o.coilL[y.1]?.getD 0
                 rbH := o.rbH[y.1]?.getD .middle, rbL := o.rbL[y.1]?.getD .middle } }

/-- The fast path of a channel: instant trip, fast blocks, the outputs that they drive (R301, R325, R326). -/
def State.fastPath (ch : Ch) (j : Nat) (o : SubBeatIn) (s : State) : State :=
  let t := s.instantTrip ch o.i1 o.i2
  (t.fastBlocks ch j).fastOutputs ch (s.chan ch).out

/-- What the end of sub-beat j delivers (R82): contacts, charge, the fast path, coils, switch currents, the impedance streams. -/
def State.subBeatOf (j : Nat) (o : SubBeatIn) (s : State) : State :=
  let t := ((((s.at ((j + 1) * 62500)).fallBack (256000 * (j + 1))).segPush s.subWords .a).segPush s.subWords .b).takeInputs j o.inA o.inB
  let u := if t.chg.slow then t else t.charge 1 o.i1 o.i2
  let v := (u.fastPath .a j o).fastPath .b j o
  let w := { v with
    safe := v.safe.sense o
    imp := { v.imp with cur := v.imp.cur ++ [v.interval o] }
    meas := { v.meas with lostCur := [], lostCell := [] }
    beat := { v.beat with sub := j + 1 } }
  ((w.keepPersistents.switchSubBeat o.ib j).canOffer .can1).canOffer .can2

/-- Before a sub-beat: the input test of the gap just past, the pulse of sub-beat 15 (R334, R337). -/
def State.subBeatReady (s : State) : State :=
  let t := s.gapSettle
  if t.pulseDue then (t.at 937500).startPulse else t

/-- SUB_BEAT (R82): the next sub-beat ends. The supervisor samples VS in every state with a supply (R70, R502). -/
def execSubBeat (o : SubBeatIn) (s : State) : Host.Outcome State Fault Refusal :=
  let t := if s.evalOn && decide (s.beat.sub < 16) then s.inBeat fun t => t.subBeatReady.subBeatOf t.beat.sub o else s
  .next (t.vsSample o.vs o.reserve)

/-! Boundary: what the ended beat still owes -/

/-- The comparison of the ended beat, when no command has made it (R328; log entry 8). -/
def State.compareNow (s : State) : State :=
  let t := s.crossCompare true true
  { t with safe := { t.safe with x := { t.safe.x with done := true } } }

/-- Everything of the ended beat that no command has made and that needs no observation of its own (log entry 8). -/
def State.finishBeat (s : State) : State :=
  let t := (s.evalOwed.evalThrough (evalStages - 1)).haltSpans.onBoth fun c => State.doIf (fun t => t.overrunDue c) (State.overrunOp c)
  let u := ((t.doIf State.compareDue State.compareNow).onBoth fun c =>
    State.doIf (fun t => t.lossDue c) (State.declareLoss c)).doIf (fun t => t.log.slotDue) State.writeSlot
  ((u.logCleared).doIf State.rplBeatDue State.rplBeat)

/-! Boundary: what the new beat sees of the state before it -/

/-- A channel permits a close: CLOSE_PERMIT in a channel that evaluates and that the other has not declared lost (R306, R329). -/
def State.permits (s : State) (c : Ch) : Bool :=
  (s.chan c).out.closePermit && s.runs c && !(s.chan c.other).declared

/-- Work that a power request waits for (R495). -/
def State.busyWork (s : State) : Bool :=
  s.cfg.owner != .none || s.cfg.work != .none || s.core.rpl.live || s.bal.cal.isSome || s.core.swp.state == 1

/-- The facts before the boundary (R306, R353, R495); a channel that does not run has no control state of its own. -/
def State.before (s : State) : PreS :=
  { ctlA := if s.runs .a then s.cha.seq.state else s.chb.seq.state
    ctlB := if s.runs .b then s.chb.seq.state else s.cha.seq.state
    session := s.cfg.owner != .none
    joinedA := s.core.a.pair == .joined, joinedB := s.core.b.pair == .joined
    permitA := s.permits .a, permitB := s.permits .b
    safeReqA := s.cha.out.safeReq, safeReqB := s.chb.out.safeReq
    openReqA := s.cha.out.openReq, openReqB := s.chb.out.openReq
    debug := s.core.dbg.isSome
    latched := s.safe.latched, trip := s.cha.seq.tripped || s.chb.seq.tripped
    loss := (s.cha.declared && !s.cha.applied) || (s.chb.declared && !s.chb.applied)
    closeStaged := s.safe.reqStaged.any fun r => r.kind == .close
    busy := s.busyWork }

/-! Boundary: measurement -/

/-- The pool of a whole-beat sample of slow cadence (R152). -/
def slowPool (p : Pool) (x : Option Raw) : Pool :=
  match x with
  | some r => { p with sum := p.sum + r.x, n := p.n + 1, ovl := p.ovl || r.ovl }
  | none => p

/-- SLOW_CADENCE_SAMPLE (R152): the sample of the ended beat enters the accumulators and the pools of the next evaluation. -/
def State.slowSample (x1 x2 : Option Raw) (s : State) : State :=
  if !s.chg.slow then s
  else
    let t := s.charge 16 x1 x2
    let add (ch : Ch) (l : List Pool) : List Pool := (indexed l).map fun y =>
      if s.curPop y.1 then slowPool y.2 (s.curSample ch y.1 (if y.1 = 0 then x1 else x2)) else y.2
    { t with meas := { t.meas with pool := { t.meas.pool with
        cur := add .a t.meas.pool.cur, curB := add .b t.meas.pool.curB } } }

/-- The current channel delivered every sample of the ended beat (R153, R248). -/
def State.curWhole (s : State) (c : Nat) : Bool :=
  s.curPop c && !s.meas.failCur.contains c && !s.meas.substCur.contains c

/-- The values that the current unit publishes as of this boundary (R248). -/
def State.published (s : State) : Published :=
  let q := s.meas.qA
  { q1 := (q[0]?.getD (0, 0)).1, q2 := (q[1]?.getD (0, 0)).1, f1 := (q[0]?.getD (0, 0)).2, f2 := (q[1]?.getD (0, 0)).2
    beat := s.sbn, v1 := s.curWhole 0, v2 := s.curWhole 1 }

/-- The EST block as the boundary shows it (R262, R278). -/
def ChgS.showNext (c : ChgS) (e : EstPub) : ChgS :=
  let add (lim k n : Nat) : Nat := min lim (n + c.hold[k]?.getD 0)
  { c with
    shown := c.acc, est := e
    anVolt := add 255 0 c.anVolt, anEmpty := add 255 1 c.anEmpty, anFull := add 255 2 c.anFull, anLearn := add 255 3 c.anLearn
    substBeats := add 65535 4 c.substBeats, hold := List.replicate 5 0 }

/-- Charge at a boundary: both copies are compared (R154), saved, shown and published (R174, R248), with the accounting of the
ended beat (R262). -/
def State.chargeBoundary (s0 : State) : State := s0.dataA fun s =>
  let differ := s.meas.qA != s.meas.qB
  State.follow 29 0 differ { s with
    meas := { s.meas with qDiffer := differ, qSaved := s.meas.qA, shown := { s.meas.shown with q := s.meas.qA } }
    chg := (if s.currentUnit then s.chg.publish s.published else s.chg).showNext s.estPub }

/-- The marks of the ended beat in the measurement (R146, R153, R165, R205). -/
def MeasS.nextBeat (m : MeasS) : MeasS :=
  { m with
    substCur := [], dropped := [], lostCur := [], lostCell := []
    chkCnt := if m.chkTaken then m.chkCnt + 1 else m.chkCnt
    chkTaken := false
    thm := m.thm.map fun t => { t with age := incSat 255 t.age } }

/-! Boundary: the new beat -/

/-- The next write of a beat: number, offset, stages and marks begin anew (R80, R96). -/
def BeatS.next (b : BeatS) : BeatS :=
  { b with
    num := b.num + 1
    offNs := 0, sub := 0, bStage := 0, eStage := 0, doneA := none, doneB := none, evalWait := none, haltA := 0, haltB := 0
    hold := b.ovrThis, ovrThis := false }

/-- The marks of the ended beat in a channel (R304). -/
def ChanS.nextBeat (c : ChanS) : ChanS := { c with hitLast := c.hit, hit := false }

/-- The marks of the ended beat in protection. -/
def SafeS.nextBeat (x : SafeS) : SafeS :=
  { x with tp := { x.tp with taken := false }, x := { x.x with done := false }, gapDone := false, telJudged := [], telTimed := [] }

/-- The offsets that a unit of several carries from the Master frame become those of the new beat (R89). -/
def State.ofsNext (s : State) : State :=
  if s.multiUnit then s.setBeat fun b =>
    { b with wins := (indexed b.wins).map fun x => { x.2 with next := s.ring.nextOfs[x.1]?.getD x.2.next } }
  else s

/-- The end of the beat in the planes: what is composed and saved as of it (R248, R262, R340, R435, R483, R487). The intake takes the
events of the ended beat; what the boundary itself raises belongs to the new one (R28, R366). -/
def State.endBeat (o : BoundaryIn) (s : State) : State :=
  let t := { s.canCompose (s.beat.num + 1) with pre := s.before, log := s.log.tick o.rtc }
  let had := t.log.lost.isSome
  let u := t.recorderBoundary t.beat.num (t.beat.num + 1)
  ((((u.slowSample o.slow1 o.slow2).dataA State.impBoundary).chargeBoundary).setBeat BeatS.next).lockEnd.overflowRaise had

/-- The staged writes become active (R33), with the blocks and sources whose time has come (R365, R372, R376). -/
def State.activateBeat (s : State) : State :=
  let t := ((s.tally 1 1).srcBoundary.blkBoundary).injAge.injBoundary
  let u := { t with
    bal := { t.bal with reqAge := incSat 4294967295 t.bal.reqAge, strAge := incSat 255 t.bal.strAge }
    meas := t.meas.nextBeat }
  (u.ofsNext).activateAll

/-- The rings, the ports, the beat source and the windows of the new beat (R85, R89, R398, R435). -/
def State.sourcesBeat (o : BoundaryIn) (s : State) : State :=
  let t := ((s.ringBoundary).restoreBoundary).canBoundary
  let u := (t.lockBoundary o.period o.phaseErr).windowsBoundary.vkBoundary o.vk
  { u with pwr := { u.pwr with wakePin := o.wake } }

/-- The data plane's functions in the new beat (R181, R202, R210, R217, R385). -/
def State.dataBeat (s : State) : State :=
  s.thermalBoundary.owBoundary.calBoundary.runBoundary.switchBoundary.gateBoundary.limBoundary

/-- The management functions in the new beat (R62, R131, R135, R323, R358, R496). -/
def State.managementBeat (o : BoundaryIn) (s : State) : State :=
  ((s.coreBoundary.powerBoundary.hostBoundary.startBoundary.crownBoundary o.crw1 o.crw2).trialBoundary).eraseStart

/-- Sequencers, outputs and inputs in the new beat (R94, R305, R317, R336). -/
def State.controlBeat (s : State) : State :=
  let t := ((s.seqBoundary .a).seqBoundary .b).outBoundary.drive
  { t with cha := t.cha.nextBeat, chb := t.chb.nextBeat, safe := t.safe.nextBeat }

/-- The boundary between two beats (R80). -/
def State.nextBeat (o : BoundaryIn) (s : State) : State :=
  ((((s.endBeat o).activateBeat.sourcesBeat o).dataBeat).managementBeat o).controlBeat

/-- The boundary that starts BEAT_NUM 0 (R80): nothing has ended. -/
def State.firstBeat (o : BoundaryIn) (s : State) : State :=
  let t := (s.setBeat fun b => { b with running := true, offNs := 0, sub := 0, bStage := 0, eStage := 0 }).activateAll
  let u := (t.windowsBoundary).vkBoundary o.vk
  { u with
    pwr := { u.pwr with wakePin := o.wake }
    log := { (u.log.tick o.rtc).snap with slotDue := true } }

/-- The boundary, once the ended beat owes nothing (R80): the entry procedure ends, a reset takes hold, or the next beat begins
(R33, R370, R496). -/
def State.boundary (o : BoundaryIn) (s : State) : State :=
  if s.pwr.entry.isSome then s.enterLow
  else if s.resetDue then s.moduleReset (s.cfg.resetDue.getD 4)
  else s.nextBeat o

/-- A beat boundary in the state the module is in (R72, R80). -/
def State.beatBoundary (o : BoundaryIn) (s : State) : State :=
  if s.pwr.stopping then s.powerFailStop
  else if !s.beatsOn then s
  else if !s.beat.running then s.firstBeat o
  else s.inBeat fun t => t.finishBeat.boundary o

/-- BEAT_BOUNDARY (R80). -/
def execBeatBoundary (o : BoundaryIn) (s : State) : Host.Outcome State Fault Refusal := .next (s.beatBoundary o)

end Sys2Proof.Machine
end

