-- ==== Sys2Proof/Machine/Dispatch.lean ====
section
/-! DEFINITION. The dispatch: one arm per command, each a direct call of its meaning. -/

namespace Sys2Proof.Machine

/-- The effect of a command on everything but the queue. -/
def exec (i : Instr) (s : State) : Host.Outcome State Fault Refusal :=
  match i with
  | .beatBoundary o => Sys2Proof.Machine.execBeatBoundary o s
  | .subBeat o => Sys2Proof.Machine.execSubBeat o s
  | .windowClose w o => Sys2Proof.Machine.execWindowClose w o s
  | .balancingGate w => Sys2Proof.Machine.execBalancingGate w s
  | .evaluation usA usB => Sys2Proof.Machine.execEvaluation usA usB s
  | .beatOverrun ch => Sys2Proof.Machine.execBeatOverrun ch s
  | .crossComparison recA recB => Sys2Proof.Machine.execCrossComparison recA recB s
  | .syncRisingEdge ofs interval dev => Sys2Proof.Machine.execSyncRisingEdge ofs interval dev s
  | .syncFallingEdge ofs => Sys2Proof.Machine.execSyncFallingEdge ofs s
  | .enterAcquiring => Sys2Proof.Machine.execEnterAcquiring s
  | .enterLocked => Sys2Proof.Machine.execEnterLocked s
  | .enterHoldover => Sys2Proof.Machine.execEnterHoldover s
  | .beatSourceLost => Sys2Proof.Machine.execBeatSourceLost s
  | .srcSelWrite path v => Sys2Proof.Machine.execSrcSelWrite path v s
  | .sbOfsResync => Sys2Proof.Machine.execSbOfsResync s
  | .rplStart path bank rawCell => Sys2Proof.Machine.execRplStart path bank rawCell s
  | .rplStop path => Sys2Proof.Machine.execRplStop path s
  | .replayRecord bytes => Sys2Proof.Machine.execReplayRecord bytes s
  | .replayBeat => Sys2Proof.Machine.execReplayBeat s
  | .rplOutRead path => Sys2Proof.Machine.execRplOutRead path s
  | .cfgOpen path key => Sys2Proof.Machine.execCfgOpen path key s
  | .cfgVerify path key => Sys2Proof.Machine.execCfgVerify path key s
  | .verifyComplete => Sys2Proof.Machine.execVerifyComplete s
  | .cfgCommit path key => Sys2Proof.Machine.execCfgCommit path key s
  | .commitDigestComplete => Sys2Proof.Machine.execCommitDigestComplete s
  | .cfgConfirm path key => Sys2Proof.Machine.execCfgConfirm path key s
  | .cfgRollback path key => Sys2Proof.Machine.execCfgRollback path key s
  | .cfgAbort path key => Sys2Proof.Machine.execCfgAbort path key s
  | .otpKey path key => Sys2Proof.Machine.execOtpKey path key s
  | .cfgWdataWrite path data => Sys2Proof.Machine.execCfgWdataWrite path data s
  | .crownSwitchChange second => Sys2Proof.Machine.execCrownSwitchChange second s
  | .crownDisagreement => Sys2Proof.Machine.execCrownDisagreement s
  | .trialCheckpoint => Sys2Proof.Machine.execTrialCheckpoint s
  | .trialExpiry => Sys2Proof.Machine.execTrialExpiry s
  | .revertReset => Sys2Proof.Machine.execRevertReset s
  | .bankErase bank => Sys2Proof.Machine.execBankErase bank s
  | .thermistorConversion vals retried die => Sys2Proof.Machine.execThermistorConversion vals retried die s
  | .insulationCycleStart peOhm => Sys2Proof.Machine.execInsulationCycleStart peOhm s
  | .insulationPhaseChange => Sys2Proof.Machine.execInsulationPhaseChange s
  | .referenceSwitchClose => Sys2Proof.Machine.execReferenceSwitchClose s
  | .insulationResult => Sys2Proof.Machine.execInsulationResult s
  | .measSnap path on => Sys2Proof.Machine.execMeasSnap path on s
  | .loReadLatch path r => Sys2Proof.Machine.execLoReadLatch path r s
  | .openWirePass => Sys2Proof.Machine.execOpenWirePass s
  | .openWireSlot seg => Sys2Proof.Machine.execOpenWireSlot seg s
  | .openWireSuspect seg pin => Sys2Proof.Machine.execOpenWireSuspect seg pin s
  | .targetedSlot seg => Sys2Proof.Machine.execTargetedSlot seg s
  | .openWireGraceExpiry seg pin => Sys2Proof.Machine.execOpenWireGraceExpiry seg pin s
  | .openWireClear seg pin => Sys2Proof.Machine.execOpenWireClear seg pin s
  | .checkDisagreement cell => Sys2Proof.Machine.execCheckDisagreement cell s
  | .sumMismatch => Sys2Proof.Machine.execSumMismatch s
  | .linkRetry seg ch item ok => Sys2Proof.Machine.execLinkRetry seg ch item ok s
  | .memoryReadRetry mem word ok => Sys2Proof.Machine.execMemoryReadRetry mem word ok s
  | .scrub mem symbols => Sys2Proof.Machine.execScrub mem symbols s
  | .balTimeout => Sys2Proof.Machine.execBalTimeout s
  | .switchOvercurrent cell => Sys2Proof.Machine.execSwitchOvercurrent cell s
  | .switchNoCurrent cell => Sys2Proof.Machine.execSwitchNoCurrent cell s
  | .switchConductsOff cell => Sys2Proof.Machine.execSwitchConductsOff cell s
  | .wireCalStart path key => Sys2Proof.Machine.execWireCalStart path key s
  | .wireCalAbort path key => Sys2Proof.Machine.execWireCalAbort path key s
  | .wireCalComplete => Sys2Proof.Machine.execWireCalComplete s
  | .excitationRunStart => Sys2Proof.Machine.execExcitationRunStart s
  | .excitationToggle => Sys2Proof.Machine.execExcitationToggle s
  | .excitationRunStop => Sys2Proof.Machine.execExcitationRunStop s
  | .impedanceBlockEnd slot => Sys2Proof.Machine.execImpedanceBlockEnd slot s
  | .currentRequest => Sys2Proof.Machine.execCurrentRequest s
  | .sweepStart path nf => Sys2Proof.Machine.execSweepStart path nf s
  | .sweepEnd => Sys2Proof.Machine.execSweepEnd s
  | .fullAnchor => Sys2Proof.Machine.execFullAnchor s
  | .emptyAnchor => Sys2Proof.Machine.execEmptyAnchor s
  | .voltageAnchor => Sys2Proof.Machine.execVoltageAnchor s
  | .anchorStarvation => Sys2Proof.Machine.execAnchorStarvation s
  | .healthWarningClear => Sys2Proof.Machine.execHealthWarningClear s
  | .cadenceChange => Sys2Proof.Machine.execCadenceChange s
  | .cycleCountStore => Sys2Proof.Machine.execCycleCountStore s
  | .swapDetected => Sys2Proof.Machine.execSwapDetected s
  | .recordSelect => Sys2Proof.Machine.execRecordSelect s
  | .protClose => Sys2Proof.Machine.execProtClose s
  | .protOpen => Sys2Proof.Machine.execProtOpen s
  | .safeAcknowledge => Sys2Proof.Machine.execSafeAcknowledge s
  | .cmdTelegram tel => Sys2Proof.Machine.execCmdTelegram tel s
  | .protectionLevelChange => Sys2Proof.Machine.execProtectionLevelChange s
  | .preClose => Sys2Proof.Machine.execPreClose s
  | .commitPoint => Sys2Proof.Machine.execCommitPoint s
  | .preOpen => Sys2Proof.Machine.execPreOpen s
  | .failureToCloseCheck => Sys2Proof.Machine.execFailureToCloseCheck s
  | .prechargeTimeout => Sys2Proof.Machine.execPrechargeTimeout s
  | .prechargeCoolEnd => Sys2Proof.Machine.execPrechargeCoolEnd s
  | .curfreeTimeout => Sys2Proof.Machine.execCurfreeTimeout s
  | .negOpen => Sys2Proof.Machine.execNegOpen s
  | .weldTimeout => Sys2Proof.Machine.execWeldTimeout s
  | .mirrorCheck out => Sys2Proof.Machine.execMirrorCheck out s
  | .unrequestedOpening => Sys2Proof.Machine.execUnrequestedOpening s
  | .coilOvercurrent out => Sys2Proof.Machine.execCoilOvercurrent out s
  | .pullinEnd out => Sys2Proof.Machine.execPullinEnd out s
  | .coilSupplyLow => Sys2Proof.Machine.execCoilSupplyLow s
  | .inputChange inp ch => Sys2Proof.Machine.execInputChange inp ch s
  | .monitorWordMissing pos ch => Sys2Proof.Machine.execMonitorWordMissing pos ch s
  | .channelLoss declarer => Sys2Proof.Machine.execChannelLoss declarer s
  | .mutualLoss => Sys2Proof.Machine.execMutualLoss s
  | .holdLapse out side => Sys2Proof.Machine.execHoldLapse out side s
  | .rundownWarning => Sys2Proof.Machine.execRundownWarning s
  | .rundownExpiry => Sys2Proof.Machine.execRundownExpiry s
  | .testPulse => Sys2Proof.Machine.execTestPulse s
  | .testPulseEnd during coilMax restored => Sys2Proof.Machine.execTestPulseEnd during coilMax restored s
  | .inputTestGap ch levels => Sys2Proof.Machine.execInputTestGap ch levels s
  | .inputDiscrepancy inp => Sys2Proof.Machine.execInputDiscrepancy inp s
  | .hostLost => Sys2Proof.Machine.execHostLost s
  | .safeTelegramSend tel => Sys2Proof.Machine.execSafeTelegramSend tel s
  | .safeTelegramReceive port f => Sys2Proof.Machine.execSafeTelegramReceive port f s
  | .pairJudgement tel => Sys2Proof.Machine.execPairJudgement tel s
  | .telegramLost tel => Sys2Proof.Machine.execTelegramLost tel s
  | .lockstepMismatch ch cls => Sys2Proof.Machine.execLockstepMismatch ch cls s
  | .coreSplit ch => Sys2Proof.Machine.execCoreSplit ch s
  | .coreJoin ch => Sys2Proof.Machine.execCoreJoin ch s
  | .joinCopy ch flagged missed => Sys2Proof.Machine.execJoinCopy ch flagged missed s
  | .debugSessionOpen ch => Sys2Proof.Machine.execDebugSessionOpen ch s
  | .debuggerWrite target addr value met => Sys2Proof.Machine.execDebuggerWrite target addr value met s
  | .debugHalt edge => Sys2Proof.Machine.execDebugHalt edge s
  | .faultRaise fs transient detail ofsNs => Sys2Proof.Machine.execFaultRaise fs transient detail ofsNs s
  | .severityExpiry fs => Sys2Proof.Machine.execSeverityExpiry fs s
  | .blockResetEnd blk cal => Sys2Proof.Machine.execBlockResetEnd blk cal s
  | .handlingClose path key => Sys2Proof.Machine.execHandlingClose path key s
  | .handlingTimeout => Sys2Proof.Machine.execHandlingTimeout s
  | .resetLoopRelease path key => Sys2Proof.Machine.execResetLoopRelease path key s
  | .latchClear => Sys2Proof.Machine.execLatchClear s
  | .fltInj path key full target => Sys2Proof.Machine.execFltInj path key full target s
  | .injectionResult flagged => Sys2Proof.Machine.execInjectionResult flagged s
  | .thermalEvaluation => Sys2Proof.Machine.execThermalEvaluation s
  | .excursionOutOfRating => Sys2Proof.Machine.execExcursionOutOfRating s
  | .portUp p => Sys2Proof.Machine.execPortUp p s
  | .portDown p fail => Sys2Proof.Machine.execPortDown p fail s
  | .delayExchange p sentNs backNs => Sys2Proof.Machine.execDelayExchange p sentNs backNs s
  | .ringFrameReceive p bytes markedBad => Sys2Proof.Machine.execRingFrameReceive p bytes markedBad s
  | .mfSend => Sys2Proof.Machine.execMfSend s
  | .mfReceive arrivalNs phaseErr => Sys2Proof.Machine.execMfReceive arrivalNs phaseErr s
  | .cfSend => Sys2Proof.Machine.execCfSend s
  | .cfReceive => Sys2Proof.Machine.execCfReceive s
  | .rfSend => Sys2Proof.Machine.execRfSend s
  | .rfJudgement unit => Sys2Proof.Machine.execRfJudgement unit s
  | .rrReceive => Sys2Proof.Machine.execRrReceive s
  | .enum path key => Sys2Proof.Machine.execEnum path key s
  | .enumeration arcN arcS serials => Sys2Proof.Machine.execEnumeration arcN arcS serials s
  | .erReceive => Sys2Proof.Machine.execErReceive s
  | .masterStartListen => Sys2Proof.Machine.execMasterStartListen s
  | .standbyTakeover => Sys2Proof.Machine.execStandbyTakeover s
  | .masterYield => Sys2Proof.Machine.execMasterYield s
  | .ringStateChange => Sys2Proof.Machine.execRingStateChange s
  | .ringSilence => Sys2Proof.Machine.execRingSilence s
  | .tfSend => Sys2Proof.Machine.execTfSend s
  | .tfReceive => Sys2Proof.Machine.execTfReceive s
  | .kfSend => Sys2Proof.Machine.execKfSend s
  | .kfReceive => Sys2Proof.Machine.execKfReceive s
  | .majorityChange => Sys2Proof.Machine.execMajorityChange s
  | .coordinatorTakeover => Sys2Proof.Machine.execCoordinatorTakeover s
  | .canPeriodicQueue port k => Sys2Proof.Machine.execCanPeriodicQueue port k s
  | .objSend port k key => Sys2Proof.Machine.execObjSend port k key s
  | .objCancel port k key => Sys2Proof.Machine.execObjCancel port k key s
  | .canFrameEnd port k how ofs loopDelay => Sys2Proof.Machine.execCanFrameEnd port k how ofs loopDelay s
  | .canFrameReceive port f endNs => Sys2Proof.Machine.execCanFrameReceive port f endNs s
  | .fifoPop path port second => Sys2Proof.Machine.execFifoPop path port second s
  | .fifoFlush path port key f0 f1 => Sys2Proof.Machine.execFifoFlush path port key f0 f1 s
  | .odata0Read path port => Sys2Proof.Machine.execOdata0Read path port s
  | .canErrorState port tec rec err => Sys2Proof.Machine.execCanErrorState port tec rec err s
  | .busOffRecovery port recessive => Sys2Proof.Machine.execBusOffRecovery port recessive s
  | .canWake port pattern bad frame => Sys2Proof.Machine.execCanWake port pattern bad frame s
  | .referenceSend us cycles => Sys2Proof.Machine.execReferenceSend us cycles s
  | .referenceReceive f interval dev => Sys2Proof.Machine.execReferenceReceive f interval dev s
  | .ttMasterResume => Sys2Proof.Machine.execTtMasterResume s
  | .calReceive f calSec calFrac => Sys2Proof.Machine.execCalReceive f calSec calFrac s
  | .hostRead rseq unit addr => Sys2Proof.Machine.execHostRead rseq unit addr s
  | .hostWrite rseq unit addr data => Sys2Proof.Machine.execHostWrite rseq unit addr data s
  | .hostBurstRead rseq unit addr fix burst => Sys2Proof.Machine.execHostBurstRead rseq unit addr fix burst s
  | .hostBurstWrite rseq unit addr fix words => Sys2Proof.Machine.execHostBurstWrite rseq unit addr fix words s
  | .hostCrcError bytes => Sys2Proof.Machine.execHostCrcError bytes s
  | .hostFramingError => Sys2Proof.Machine.execHostFramingError s
  | .hostPop path seq => Sys2Proof.Machine.execHostPop path seq s
  | .remoteAnswer tag status addr data => Sys2Proof.Machine.execRemoteAnswer tag status addr data s
  | .remoteTimeout tag => Sys2Proof.Machine.execRemoteTimeout tag s
  | .recorderWriteSlot => Sys2Proof.Machine.execRecorderWriteSlot s
  | .logClear path key => Sys2Proof.Machine.execLogClear path key s
  | .logClearComplete => Sys2Proof.Machine.execLogClearComplete s
  | .logRd0Read path => Sys2Proof.Machine.execLogRd0Read path s
  | .calendarSet path frac => Sys2Proof.Machine.execCalendarSet path frac s
  | .supplyGood vs => Sys2Proof.Machine.execSupplyGood vs s
  | .interruptionBegin vs => Sys2Proof.Machine.execInterruptionBegin vs s
  | .interruptionEnd vs => Sys2Proof.Machine.execInterruptionEnd vs s
  | .powerFailStop reserve => Sys2Proof.Machine.execPowerFailStop reserve s
  | .nrstAssert lowUs => Sys2Proof.Machine.execNrstAssert lowUs s
  | .nrstRelease => Sys2Proof.Machine.execNrstRelease s
  | .nrstStuck => Sys2Proof.Machine.execNrstStuck s
  | .nrstIgnClear => Sys2Proof.Machine.execNrstIgnClear s
  | .pwrListen => Sys2Proof.Machine.execPwrListen s
  | .pwrDormant => Sys2Proof.Machine.execPwrDormant s
  | .listenTimeout => Sys2Proof.Machine.execListenTimeout s
  | .dormantTimeout => Sys2Proof.Machine.execDormantTimeout s
  | .listenVsLow vs => Sys2Proof.Machine.execListenVsLow vs s
  | .dormantStackLow vstkMv => Sys2Proof.Machine.execDormantStackLow vstkMv s
  | .wake sources => Sys2Proof.Machine.execWake sources s
  | .startSequence o => Sys2Proof.Machine.execStartSequence o s
  | .startStepEnd ms => Sys2Proof.Machine.execStartStepEnd ms s
  | .moduleReset => Sys2Proof.Machine.execModuleReset s
  | .pmcSelWrite path idx src => Sys2Proof.Machine.execPmcSelWrite path idx src s
  | .pmcSnap path on => Sys2Proof.Machine.execPmcSnap path on s
  | .histCopy unit words => Sys2Proof.Machine.execHistCopy unit words s
  | .histRestore path key => Sys2Proof.Machine.execHistRestore path key s
  | .histImport path key => Sys2Proof.Machine.execHistImport path key s
  | .histWinAccess path wr => Sys2Proof.Machine.execHistWinAccess path wr s
  | .registerWrite path addr data => Sys2Proof.Machine.execRegisterWrite path addr data s
  | .crownAgreement => Sys2Proof.Machine.execCrownAgreement s
  | .crystalFailure ch => Sys2Proof.Machine.execCrystalFailure ch s

end Sys2Proof.Machine
end

