-- ==== Sys2Proof/Safety.lean ====
section
/-! DEFINITION. What counts as a safe run: every output is closed only while both channels conduct it. -/

namespace Sys2Proof.Machine

/-- An output carries coil current only while both of its sides conduct (R315, R319). -/
def OutS.conducts (o : OutS) : Bool := o.h && o.l

/-- No output conducts (R303: all outputs open). -/
def State.allOpen (s : State) : Bool := s.safe.out.all fun o => !o.conducts

/-- The collector of a fault source, as the registers of the running collectors hold it (R364, R378). -/
def State.fs (s : State) (n : Nat) : FsSrc := s.flt.src[n]?.getD {}

/-- The collector of a fault source as a raise finds it: a W1C write that became active at the boundary has acted (R14, R367). -/
def State.fsIn (s : State) (n : Nat) : FsSrc := (s.w1cNow n).fs n

/-- The collectors hold one entry for each of the 128 sources (R364). -/
abbrev State.srcWhole (s : State) : Prop := s.flt.src.length = 128

/-- The evaluation of the beat stands at stage k: beats run, the boundary owes nothing, the stages before k have run. -/
abbrev State.evalAt (k : Nat) (s : State) : Prop := s.evalOn = true ∧ s.beat.bStage = 1 ∧ s.beat.eStage = k

/-- A command of the configuration port can be taken from this path: no work is under way and no other owner holds the session
(R120, R126). -/
abbrev State.cfgFree (path : Path) (s : State) : Prop :=
  s.cfg.work = .none ∧ (s.cfg.owner = .none ∨ ownedBy s.cfg.owner path = true)

/-- The seven commands of CFG_CMD with their codes (R129). -/
def cfgCommands (path : Path) (key : BitVec 8) : List (Instr × Nat) :=
  [(.cfgOpen path key, 1), (.cfgVerify path key, 2), (.cfgCommit path key, 3), (.cfgConfirm path key, 4),
   (.cfgRollback path key, 5), (.cfgAbort path key, 6), (.otpKey path key, 7)]

/-- Every port of the list that is UP has room for n more bytes in its XS_AQ (R26, R27). -/
abbrev State.aqRoom (s : State) (ps : List RPort) (n : Nat) : Prop :=
  ∀ p, p ∈ ps → s.portUp p = true → s.aqLeft p + n ≤ 4096

/-- A port without its XS_AQ. -/
def PortS.link (x : PortS) : PortS := { x with aq := 0, aqAt := 0 }

/-- From s to t, n bytes have entered the XS_AQ of each port of the list that is UP, and nothing else of the ports has changed (R26,
R392). -/
abbrev State.aqTook (s t : State) (ps : List RPort) (n : Nat) : Prop :=
  ∀ p : RPort, t.aqLeft p = (if p ∈ ps ∧ s.portUp p = true then s.aqLeft p + n else s.aqLeft p) ∧
    (t.ring.ports[p.ix]?).map PortS.link = (s.ring.ports[p.ix]?).map PortS.link

/-- CAN_WAKE with one thing that the wake decoder meets (R442). -/
def canWakeOf (p : CPort) (x : WakeSeen) : Instr :=
  .canWake p (x == .pattern) (x == .badFrame) (match x with | .frame f => some f | _ => none)

/-- The commands l' are l with every output of the role set to v (R307, R311). -/
def State.roleSet (s : State) (role : Nat) (v : Bool) (l l' : List Bool) : Prop :=
  ∀ i, l'[i]? = if s.outRole (i + 1) = role then l[i]?.map fun _ => v else l[i]?

/-- Both banks are in canonical form and the write address lies on a whole word (R109, R124). -/
abbrev State.banksInv (s : State) : Prop :=
  s.cfg.bank0.wf = true ∧ s.cfg.bank1.wf = true ∧ s.cfg.waddr % 4 = 0

end Sys2Proof.Machine
end

