-- ==== Sys2Proof/Certificates/Slice0/Obligations.lean ====
section
/-! DEFINITION. The statements for the provers. The rules R<n> a statement follows stand in its docstring; a clause that rests on a
choice of the model names the log entry. -/

open Sys2Proof Sys2Proof.Machine

/-- The step (log entry 10): it runs the command at the front of the queue on the state with the rest of the queue, and an empty queue
idles. -/
def Obligations.StepRunsFront : Prop :=
(∀ (s : State) (c : Instr) (rest : List Instr), step { s with pending := c :: rest } = exec c { s with pending := rest }) ∧
  (∀ s : State, s.pending = [] → step s = .next s)

/-- R80, R127, R303, R367, R499, R504: right after reset the start stands at step 2, BEAT_NUM is 0 and no beat runs, both channels are
Parked with every output open, no fault source is latched, both banks are EMPTY and hold nothing, no image is loaded and no command
waits (values that the spec does not give: log entries 3 and 4). -/
def Obligations.ResetState : Prop :=
State.reset.pwr.state = .start 2 ∧ State.reset.beat.num = 0 ∧ State.reset.beat.running = false ∧
  State.reset.beat.lock = .free ∧ State.reset.cha.seq.state = .parked ∧ State.reset.chb.seq.state = .parked ∧
  State.reset.allOpen = true ∧ State.reset.safe.out.length = 8 ∧ State.reset.srcWhole ∧
  State.reset.flt.src.all (fun x => !x.latch && !x.sevl && !x.pres) = true ∧ State.reset.cfg.bank0 = {} ∧
  State.reset.cfg.bank1 = {} ∧ State.reset.banksInv ∧
  State.reset.cfg.image = none ∧ State.reset.bal.req = [0, 0, 0] ∧ State.reset.can1.state = .off ∧ State.reset.can2.state = .off ∧
  State.reset.host.reports = [] ∧ State.reset.irq = false ∧ State.reset.pending = []

/-- R109, R124, R135: whatever command runs, the bytes of both banks stay in their one canonical form, addresses rising below the
bank's size and no listed zero, and the write address stays on a whole word. -/
def Obligations.BanksCanonical : Prop :=
∀ s t : State, s.banksInv → step s = .next t → t.banksInv

/-- The byte store of a bank (R124): a store is read back and leaves every other address, and two canonical lists that read alike are
the same list. -/
def Obligations.BankStore : Prop :=
(∀ (l : List Host.Cell) (a b : Nat) (v : Byte), cellsWf l = true →
    cellsGet b (cellsSet a v l) = if b = a then v else cellsGet b l) ∧
  (∀ (l : List Host.Cell) (bs : List Byte) (a b : Nat), cellsWf l = true → a + bs.length ≤ bankSize →
    cellsGet b (cellsPut a bs l) = if a ≤ b ∧ b < a + bs.length then bs[b - a]?.getD 0 else cellsGet b l) ∧
  (∀ l m : List Host.Cell, cellsWf l = true → cellsWf m = true → (∀ a, cellsGet a l = cellsGet a m) → l = m) ∧
  (∀ (l : List Host.Cell) (n i : Nat), cellsWf l = true → i < n → (cellsBytes n l)[i]? = some (cellsGet i l))

/-- Every command has an effect and none touches the queue (log entry 10): exec answers a next state whose queue is the one it was
given. -/
def Obligations.QueueUntouched : Prop :=
∀ (c : Instr) (s : State), ∃ t, exec c s = .next t ∧ t.pending = s.pending

/-- BEAT_BOUNDARY (R33, R72, R80, R96, R496): the first boundary starts beat 0; one with nothing else due counts BEAT_NUM, starts the
sub-beats and stages anew and takes every staged write; a power-fail stop that has begun ends in Off, an entry procedure in Listen
or Dormant and a due reset in start step 2. The beat's own work that no command has made is made first (DESIGN CHOICE: log entry
8). -/
def Obligations.BeatBoundary : Prop :=
(∀ (s : State) (o : BoundaryIn), s.pwr.stopping = false → s.beatsOn = true → s.beat.running = false →
    ∃ t, exec (.beatBoundary o) s = .next t ∧ t.beat.running = true ∧ t.beat.num = s.beat.num ∧ t.beat.offNs = 0 ∧
      t.beat.sub = 0 ∧ t.beat.staged = [] ∧ t.pwr.wakePin = o.wake ∧ t.cha = s.cha ∧ t.chb = s.chb ∧ t.cfg = s.cfg ∧
      t.safe.req = s.safe.reqStaged ∧ t.safe.reqStaged = none) ∧
  (∀ (s q : State) (o : BoundaryIn), s.pwr.stopping = false → s.evalOn = true → s.settle.evalOn = true → q = s.settle.finishBeat →
    q.pwr.entry = none → q.cfg.resetDue = none →
    ∃ t, exec (.beatBoundary o) s = .next t ∧ t.beat.num = q.beat.num + 1 ∧ t.beat.sub = 0 ∧ t.beat.bStage = 0 ∧
      t.beat.eStage = 0 ∧ t.beat.doneA = none ∧ t.beat.doneB = none ∧ t.beat.staged = [] ∧ t.beat.hold = q.beat.ovrThis ∧
      t.beat.ovrThis = false ∧ t.pwr.wakePin = o.wake ∧ t.pre = q.before ∧ t.safe.reqStaged = none ∧
      (q.chg.slow = false → t.meas.qSaved = q.meas.qA ∧ t.meas.shown.q = q.meas.qA) ∧
      t.log.slotDue = decide ((q.beat.num + 1).toNat % 5 = 0)) ∧
  (∀ (s q : State) (o : BoundaryIn) (d : Bool) (k : Nat), s.pwr.stopping = false → s.evalOn = true → s.settle.evalOn = true →
    q = s.settle.finishBeat → q.pwr.entry = some (d, k) → q.pwr.wakeLatch = 0 →
    ∃ t, exec (.beatBoundary o) s = .next t ∧ t.pwr.state = (if d then .dormant else .listen) ∧ t.meas.qA = q.meas.qSaved ∧
      t.cfg.bank0 = q.cfg.bank0 ∧ t.cfg.bank1 = q.cfg.bank1 ∧ t.log.queue = [] ∧ t.allOpen = true) ∧
  (∀ (s q : State) (o : BoundaryIn) (c : Nat), s.pwr.stopping = false → s.evalOn = true → s.settle.evalOn = true →
    q = s.settle.finishBeat → q.pwr.entry = none → q.cfg.resetDue = some c → q.beat.running = true →
    ∃ t, exec (.beatBoundary o) s = .next t ∧ t.pwr.state = .start 2 ∧ t.pwr.cause = c ∧ t.beat = {} ∧ t.allOpen = true) ∧
  (∀ (s : State) (o : BoundaryIn), s.pwr.stopping = true →
    ∃ t, exec (.beatBoundary o) s = .next t ∧ t.pwr.state = .off ∧ t.allOpen = true) ∧
  (∀ (s : State) (o : BoundaryIn), s.pwr.stopping = false → s.beatsOn = false → exec (.beatBoundary o) s = .next s)

/-- SUB_BEAT, WINDOW_CLOSE, EVALUATION (R31, R70, R82, R89, R90, R92, R96, R99, R151, R205, R498): a sub-beat counts, its current samples
enter the accumulators without loss and its interval joins the impedance stream; after the sixteenth, and in a state without beats,
only VS is sampled; a window that stands open closes and its raw samples enter the pool of its evaluation beat, leaving the other
windows, an edge-mode window that no edge opened having stood at OFS; an evaluation runs every stage once and notes when each channel
completed, and waits while the debugger holds a channel's cores. -/
def Obligations.BeatWork : Prop :=
(∀ (s : State) (o : SubBeatIn), s.evalOn = true → s.beat.sub < 16 → s.beat.bStage = 1 →
    ∃ t, exec (.subBeat o) s = .next t ∧ t.beat.sub = s.beat.sub + 1 ∧ t.beat.num = s.beat.num ∧
      t.imp.cur.length = s.imp.cur.length + 1 ∧ t.beat.bStage = 1 ∧ t.beat.eStage = s.beat.eStage ∧
      t.pwr.vs = (if s.beat.sub = 15 then o.vs else s.pwr.vs)) ∧
  (∀ (s : State) (o : SubBeatIn) (c : Nat) (q f : Int) (x : Raw), s.evalOn = true → s.beat.sub < 16 → s.beat.bStage = 1 →
    s.works .a = true → s.chg.slow = false → c < 2 → s.curPop c = true → s.meas.failCur.contains c = false → s.meas.qA[c]? = some (q, f) →
    s.curSample .a c (if c = 0 then o.i1 else o.i2) = some x → q.natAbs < 2 ^ 62 → x.x.natAbs < 2 ^ 62 → 0 ≤ f → f < 16 →
    ∃ t q' f', exec (.subBeat o) s = .next t ∧ t.meas.qA[c]? = some (q', f') ∧ 16 * q' + f' = 16 * q + f + x.x ∧ 0 ≤ f' ∧ f' < 16) ∧
  (∀ (s : State) (o : SubBeatIn), s.evalOn = true → s.beat.sub = 16 → s.pwr.intr = none → 13000 ≤ o.vs →
    exec (.subBeat o) s = .next { s with pwr := { s.pwr with
      vs := o.vs, vsOk := incSat 16 s.pwr.vsOk, vsGood := decide (16 ≤ incSat 16 s.pwr.vsOk) } }) ∧
  (∀ (s : State) (o : SubBeatIn), (s.pwr.state = .listen ∨ s.pwr.state = .dormant ∨ s.pwr.state = .off ∨ s.pwr.state = .held) →
    s.beat.sub = 0 →
    exec (.subBeat o) s = .next { s with pwr := { s.pwr with
      vsOk := (if 13000 ≤ o.vs then incSat 16 s.pwr.vsOk else 0)
      vsGood := decide (16 ≤ if 13000 ≤ o.vs then incSat 16 s.pwr.vsOk else 0) } }) ∧
  (∀ (s : State) (w : Fin 4) (o : WindowIn) (x : WinS), s.edgeWaits w = false → s.winOpen w = true → s.beat.wins[w.val]? = some x →
    ∃ t, exec (.windowClose w o) s = .next t ∧ t.beat = { s.beat with wins := s.beat.wins.set w.val { x with closed := true } } ∧
      t.bal = { s.bal with gate := s.bal.gate.set w.val false } ∧ t.meas.shown = s.meas.shown ∧
      (s.winLate w = false → s.frozen = true → t.meas.pool = s.meas.pool ∧ t.meas.poolNext = s.meas.poolNext) ∧
      (s.winLate w = true → s.frozen = false → t.meas.pool = s.meas.pool) ∧
      (s.winLate w = false → s.frozen = false → t.meas.poolNext = s.meas.poolNext ∧
        (∀ (i : Nat) p, s.meas.pool.cell[i]? = some p → t.meas.pool.cell[i]? = some
          (if s.winHas w 0 = true ∧ s.cellsTaken = true ∧ s.dropped (i / 24) .a w = false then
            p.add (o.cells[i]?.getD none) (o.ib[i]?.getD 0) (s.corrIb o.ib (i + 1)) else p)) ∧
        (∀ (c : Nat) p, s.meas.pool.cur[c]? = some p → t.meas.pool.cur[c]? = some
          (if s.winHas w 1 = true ∧ s.chg.slow = false ∧ s.curPop c = true ∧ s.dropped 0 .a w = false then
            p.add (o.cur[c]?.getD none) 0 0 else p)) ∧
        (∀ (c : Nat) p, s.meas.pool.hvB[c]? = some p → t.meas.pool.hvB[c]? = some
          (if s.winHas w 2 = true ∧ s.hvPop c = true ∧ s.dropped 0 .b w = false then p.add (o.hv[c]?.getD none) 0 0 else p))) ∧
      (s.chkWithWindow w = true → s.checkFailures o ≠ [] → s.srcWhole → (t.fs 74).latch = true) ∧
      t.cha = s.cha ∧ t.chb = s.chb ∧ t.safe = s.safe) ∧
  (∀ (p : Pool) (r : WinRaw) (ib ibc : Int), (p.add (some r) ib ibc).sum = p.sum + sumI r.xs ∧
    (p.add (some r) ib ibc).n = p.n + r.xs.length ∧ (p.add (some r) ib ibc).ovl = (p.ovl || r.ovl) ∧ p.add none ib ibc = p) ∧
  (∀ (s : State) (w : Fin 4) (o : WindowIn) (x : WinS), s.edgeWaits w = true → s.beat.wins[w.val]? = some x → x.rejected = false →
    x.closed = false →
    ∃ t, exec (.windowClose w o) s = .next t ∧ t.beat.wins[w.val]? = some
      { x with placed := true, start := usTicks (s.winOfs w), fallback := true, closed := true }) ∧
  (∀ (s : State) (w : Fin 4) (o : WindowIn), s.edgeWaits w = false → s.winOpen w = false →
    exec (.windowClose w o) s = .next s) ∧
  (∀ (s : State) (a b : Nat), s.evalOn = true → s.beat.doneA = none → s.beat.evalWait = none → s.beat.bStage = 1 →
    s.beat.eStage ≤ 37 → s.debugHalted .a = false → s.debugHalted .b = false →
    ∃ t, exec (.evaluation a b) s = .next t ∧ t.beat.eStage = 37 ∧
      t.beat.doneA = some (a + ceilDiv s.beat.haltA 1000) ∧ t.beat.doneB = some (b + ceilDiv s.beat.haltB 1000) ∧
      t.beat.num = s.beat.num ∧ t.beat.sub = s.beat.sub ∧ s.beat.worst ≤ t.beat.worst) ∧
  (∀ (s : State) (a b : Nat), s.evalOn = true → s.beat.doneA = none → s.beat.evalWait = none → s.beat.bStage = 1 →
    s.debugHalted .a = true ∨ s.debugHalted .b = true →
    exec (.evaluation a b) s = .next { s with beat := { s.beat with evalWait := some (a, b) } }) ∧
  (∀ (s : State) (a b u : Nat), s.evalOn = false ∨ s.beat.doneA = some u ∨ s.beat.evalWait = some (a, b) →
    exec (.evaluation a b) s = .next s)

/-- SYNC_RISING_EDGE and SYNC_FALLING_EDGE (R85, R89, R108): a rising edge shows its offset in LAST_EDGE and, where the unit follows
SYNC, counts as a reference: a valid one adds to the run, an invalid one ends it. A falling edge opens the first edge-mode window
that waits; a window whose OFS has passed has started at OFS, marked fallback; an edge that finds no waiting window, or one it would
open onto another, is counted in EXTRA; none of this happens while FALL_WIN is 0. -/
def Obligations.SyncEdges : Prop :=
(∀ (s : State) (ofs interval : Nat) (dev : Int),
    s.ownBeat = true → s.beat.srcSel = 1 → s.beat.riseBeat = true → (s.beat.lock ≠ .locked ∨ dev.natAbs ≤ 5000) →
    196000 ≤ interval → interval ≤ 204000 →
    exec (.syncRisingEdge ofs interval dev) s = .next { s with beat := { s.beat with
      lastEdge := ofs % 65536
      validRefs := incSat 4 s.beat.validRefs
      intervals := (interval :: s.beat.intervals).take 4
      refSeen := true } }) ∧
  (∀ (s : State) (ofs interval : Nat) (dev : Int),
    s.ownBeat = true → s.beat.srcSel = 1 → s.beat.riseBeat = true →
    (interval < 196000 ∨ 204000 < interval ∨ (s.beat.lock = .locked ∧ 5000 < dev.natAbs)) →
    exec (.syncRisingEdge ofs interval dev) s = .next { s with beat := { s.beat with lastEdge := ofs % 65536, validRefs := 0 } }) ∧
  (∀ (s : State) (ofs interval : Nat) (dev : Int), s.ownBeat = false ∨ s.beat.srcSel ≠ 1 ∨ s.beat.riseBeat = false →
    exec (.syncRisingEdge ofs interval dev) s = .next { s with beat := { s.beat with lastEdge := ofs % 65536 } }) ∧
  (∀ (s : State) (ofs w : Nat) (x : WinS), s.beat.fallWin = true → w < 4 → s.beat.wins[w]? = some x → s.edgeWaits w = true →
    usTicks (s.winOfs w) < 100 * ofs →
    ∃ t, exec (.syncFallingEdge ofs) s = .next t ∧
      t.beat.wins[w]? = some { x with placed := true, start := usTicks (s.winOfs w), fallback := true } ∧
      t = { s with beat := { s.beat with wins := t.beat.wins, extra := t.beat.extra } }) ∧
  (∀ (s : State) (ofs w : Nat), s.beat.fallWin = true → s.beat.wins.length = 4 →
    (∀ v < 4, s.edgeWaits v = true → 100 * ofs ≤ usTicks (s.winOfs v)) →
    w < 4 → s.edgeWaits w = true → (∀ v < w, s.edgeWaits v = false) →
    exec (.syncFallingEdge ofs) s = .next { s with beat := if s.edgeMeets w (100 * ofs + 300) then
        { s.beat with extra := incSat 255 s.beat.extra }
      else { s.beat with wins := s.beat.wins.modify w fun x => { x with placed := true, start := 100 * ofs + 300 } } }) ∧
  (∀ (s : State) (ofs : Nat), s.beat.fallWin = true → s.beat.wins.length = 4 → (∀ v < 4, s.edgeWaits v = true → usTicks (s.winOfs v) < 100 * ofs) →
    ∃ t, exec (.syncFallingEdge ofs) s = .next t ∧ t.beat.extra = incSat 255 s.beat.extra ∧
      t = { s with beat := { s.beat with wins := t.beat.wins, extra := t.beat.extra } }) ∧
  (∀ (s : State) (ofs : Nat), s.beat.fallWin = false → exec (.syncFallingEdge ofs) s = .next s)

/-- ENTER_ACQUIRING, ENTER_LOCKED, ENTER_HOLDOVER, BEAT_SOURCE_LOST (R81, R85, R86): the transitions of the lock, each on its own
condition and without effect when that condition does not hold; at a boundary the state entered gives the length of the beat that
begins there; the length of a beat in each state. The missed beat that
ends Locked is not one of the HOLDOVER beats (DESIGN CHOICE: log entry 80).

SRC_SEL_WRITE, SB_OFS_RESYNC, BEAT_OVERRUN (R33, R81, R83, R96, R226): a write of 3 is refused and sets SEL_REJ, any other is
staged; a resynchronization takes the Master's beat number, discards the impedance blocks and records both numbers; an overrun sets
DET_VOID and OVR, counts once a beat and raises FS3 or FS4. -/
def Obligations.BeatSource : Prop :=
  (∀ s : State, s.beat.lock = .free → s.beat.srcSel ≠ 0 ∨ s.ownBeat = false → s.beat.validRefs = 4 →
    exec .enterAcquiring s = .next { s with beat := { s.beat with
      lock := .acquiring, phaseOk := 0
      length := if s.beat.bStage = 0 then BeatS.nextLength { s.beat with lock := .acquiring, phaseOk := 0 } else s.beat.length } }) ∧
  (∀ s : State, s.beat.lock ≠ .free ∨ s.beat.validRefs ≠ 4 ∨ (s.beat.srcSel = 0 ∧ s.ownBeat = true) →
    exec .enterAcquiring s = .next s) ∧
  (∀ s : State, (s.beat.lock = .acquiring ∧ 8 ≤ s.beat.phaseOk) ∨
      (s.beat.lock = .holdover ∧ (s.beat.refSeen = true ∨ s.beat.refLast = true)) →
    ((s.ownBeat = true ∨ s.beat.sbMarked = true ∨ s.beat.sbnSeen = none) →
      exec .enterLocked s = .next { s with beat := { s.beat with
        lock := .locked, holdBeats := 0
        length := if s.beat.bStage = 0 then BeatS.nextLength { s.beat with lock := .locked, holdBeats := 0 } else s.beat.length } }) ∧
    (∀ x, s.ownBeat = false → s.beat.sbMarked = false → s.beat.sbnSeen = some x →
      exec .enterLocked s = .next { s with beat := { s.beat with
        lock := .locked, holdBeats := 0, sbMarked := true, sbOfs := some (x - s.beat.num)
        length := if s.beat.bStage = 0 then BeatS.nextLength { s.beat with lock := .locked, holdBeats := 0 } else s.beat.length } })) ∧
  (∀ s : State, s.beat.lock = .free ∨ s.beat.lock = .locked ∨ (s.beat.lock = .acquiring ∧ s.beat.phaseOk < 8) ∨
      (s.beat.lock = .holdover ∧ s.beat.refSeen = false ∧ s.beat.refLast = false) →
    exec .enterLocked s = .next s) ∧
  (∀ s : State, s.beat.lock = .locked → s.beat.refLast = false → s.beat.refSeen = false → s.beat.bStage = 0 →
    exec .enterHoldover s = .next { s with beat := { s.beat with lock := .holdover, holdBeats := 0 } }) ∧
  (∀ s : State, s.beat.lock ≠ .locked ∨ s.beat.refLast = true ∨ s.beat.refSeen = true → exec .enterHoldover s = .next s) ∧
  (∀ s : State, s.beat.lock = .holdover → s.beat.refSeen = false → s.beat.holdover.toNat ≤ s.beat.holdBeats →
    s.beat.bStage = 0 →
    ∃ t, exec .beatSourceLost s = .next t ∧
      t.beat = { s.beat with lock := .free, validRefs := 0, holdBeats := 0
                             length := BeatS.nextLength { s.beat with lock := .free, validRefs := 0, holdBeats := 0 } } ∧
      (s.srcWhole → (t.fs 15).latch = true) ∧
      (s.fltShown = none → s.beat.running = true → ∃ l, t.log.intake = s.log.intake ++
        ⟨.control, 0x700, [nword s.beat.srcSel.toNat, nword s.beat.holdBeats]⟩ :: l) ∧
      t.meas = s.meas ∧ t.cha = s.cha ∧ t.chb = s.chb ∧ t.safe = s.safe ∧ t.ring = s.ring) ∧
  (∀ s : State, s.beat.lock ≠ .holdover ∨ s.beat.refSeen = true ∨ s.beat.holdBeats < s.beat.holdover.toNat →
    exec .beatSourceLost s = .next s) ∧
  (∀ b : BeatS, b.lock = .free → 196000 ≤ b.length → b.length ≤ 204000 →
    b.nextLength ≤ b.length + 400 ∧ b.length ≤ b.nextLength + 400 ∧
    (199600 ≤ b.length → b.length ≤ 200400 → b.nextLength = 200000)) ∧
  (∀ b : BeatS, b.lock = .holdover ∨ (b.lock = .locked ∧ b.refLast = false) → b.nextLength = b.length) ∧
  (∀ (b : BeatS) (i : Nat), b.lock = .locked → b.refLast = true → b.intervals.head? = some i → 196000 ≤ i → i ≤ 204000 →
    b.nextLength ≤ i + 200 ∧ i ≤ b.nextLength + 200) ∧
  (∀ b : BeatS, b.lock = .acquiring → b.intervals ≠ [] → 196000 ≤ b.nextLength ∧ b.nextLength ≤ 204000) ∧
  (∀ (s : State) (p : Path), exec (.srcSelWrite p 3) s = .next { s with beat := { s.beat with selRej := true } }) ∧
  (∀ (s : State) (p : Path) (v : BitVec 2), v ≠ 3 →
    exec (.srcSelWrite p v) s = .next { s with beat := { s.beat with
      staged := s.beat.staged ++ [{ path := p, addr := 0x0100, data := BitVec.ofNat 32 v.toNat }] } }) ∧
  (∀ (s : State) (x : Word), s.beat.bStage = 0 → s.ownBeat = false → 3 ≤ s.beat.sbnDiff → s.beat.sbnSeen = some x →
    ∃ t, exec .sbOfsResync s = .next t ∧
      t.beat = { s.beat with sbOfs := some (x - s.beat.num), sbnDiff := 0 } ∧ t.sbn = x ∧
      (∀ y ∈ t.imp.slots, y.beats = none) ∧
      (s.fltShown = none → s.beat.running = true → t.log.intake = s.log.intake ++
        [⟨.control, 0x702, [s.sbn, x, BitVec.ofNat 32 s.ring.master.toNat]⟩]) ∧
      t = { s with beat := t.beat, imp := t.imp, log := t.log }) ∧
  (∀ s : State, s.beat.sbnDiff < 3 ∨ s.ownBeat = true ∨ s.beat.sbnSeen = none → exec .sbOfsResync s = .next s) ∧
  (∀ (s : State) (ch : Ch) (us : Nat), s.runs ch = true → (match ch with | .a => s.beat.doneA | .b => s.beat.doneB) = some us →
    980 < us → s.srcWhole → (s.fs (if ch = .a then 3 else 4)).till ≠ some (s.beat.num + 1) →
    ∃ t, exec (.beatOverrun ch) s = .next t ∧
      t.beat = { s.beat with
        offNs := max s.beat.offNs 980000, detVoid := true, ovr := true, ovrThis := true
        ovrCnt := if s.beat.ovrThis = true then s.beat.ovrCnt else incSat 65535 s.beat.ovrCnt } ∧
      (t.fs (if ch = .a then 3 else 4)).latch = true ∧
      t.meas = s.meas ∧ t.cha = s.cha ∧ t.chb = s.chb ∧ t.safe = s.safe) ∧
  (∀ (s : State) (ch : Ch), s.runs ch = false ∨
      (∀ us, (match ch with | .a => s.beat.doneA | .b => s.beat.doneB) = some us → us ≤ 980) →
    exec (.beatOverrun ch) s = .next s)

/-- FAULT_RAISE (R14, R364, R365, R366, R367, R368, R374): a write of 1 to LATCH that became active at this boundary acts before the raise
(`fsIn` is the source as the raise finds it), which sets LATCH, records the event beat in LAST, and in FIRST when LATCH was
clear, counts in the event or the transient counter, makes its source present only when it is lasting, and leaves every other source,
the measurement, both channels and the outputs alone; it writes its entry, unless a handling sequence is open, into which it merges;
sources 75 to 127 are never raised. -/
def Obligations.FaultRaise : Prop :=
(∀ (s : State) (fs : Fin 128) (tr : Bool) (d : Word) (ofs : Nat), fs.val < 75 → s.srcWhole →
    ∃ t, exec (.faultRaise fs tr d ofs) s = .next t ∧
      (t.fs fs).latch = true ∧ (t.fs fs).last = (s.at ofs).evBeat ∧
      (t.fs fs).first = (if (s.fsIn fs).latch then (s.fsIn fs).first else (s.at ofs).evBeat) ∧
      (t.fs fs).events = (if tr then (s.fsIn fs).events else incSat 65535 (s.fsIn fs).events) ∧
      (t.fs fs).trans = (if tr then incSat 65535 (s.fsIn fs).trans else (s.fsIn fs).trans) ∧
      (t.fs fs).till = (if tr then (s.fs fs).till else some (s.at ofs).evBeat) ∧
      (∀ k, k ≠ fs.val → t.fs k = s.fs k) ∧ t.srcWhole ∧
      (s.flt.hopen = false → s.fltShown = none → s.beat.running = true → ∃ l, t.log.intake = s.log.intake ++
        ⟨.control, 0x300 + fs.val, [if tr then 0 else 1, d, (s.at ofs).evBeat, BitVec.ofNat 32 (t.fs fs).events]⟩ :: l) ∧
      (s.flt.hopen = true → t.log = s.log ∧ t.flt.hopen = true ∧ t.flt.hcnt = incSat 65535 s.flt.hcnt ∧ fs.val ∈ t.flt.hmerge ∧
        (∀ k ∈ s.flt.hmerge, k ∈ t.flt.hmerge) ∧ t.flt.hsrc = s.flt.hsrc ∧ t.flt.nmi = s.flt.nmi) ∧
      t.beat = { s.beat with offNs := max s.beat.offNs ofs } ∧ t.mem = s.mem ∧ t.meas = s.meas ∧ t.integ = s.integ ∧
      t.bal = s.bal ∧ t.imp = s.imp ∧ t.chg = s.chg ∧ t.lim = s.lim ∧ t.cha = s.cha ∧ t.chb = s.chb ∧ t.safe = s.safe ∧
      t.core = s.core ∧ t.thm = s.thm ∧ t.ring = s.ring ∧ t.can1 = s.can1 ∧ t.can2 = s.can2 ∧ t.pwr = s.pwr) ∧
  (∀ (s : State) (fs : Nat),
    (fs ∉ s.flt.w1cLatch → (s.fsIn fs).latch = (s.fs fs).latch ∧ (s.fsIn fs).events = (s.fs fs).events ∧
      (s.fsIn fs).trans = (s.fs fs).trans) ∧
    (fs ∈ s.flt.w1cLatch → (s.fs fs).pres = true → (s.fsIn fs).latch = (s.fs fs).latch ∧
      (s.fsIn fs).events = (s.fs fs).events ∧ (s.fsIn fs).trans = (s.fs fs).trans) ∧
    (fs ∈ s.flt.w1cLatch → (s.fs fs).pres = false → (s.fsIn fs).latch = false ∧ (s.fsIn fs).events = 0 ∧
      (s.fsIn fs).trans = 0) ∧
    (s.fsIn fs).first = (s.fs fs).first) ∧
  (∀ (s : State) (fs : Fin 128) (tr : Bool) (d : Word) (ofs : Nat), 75 ≤ fs.val →
    exec (.faultRaise fs tr d ofs) s = .next s)

/-- SEVERITY_EXPIRY, LATCH_CLEAR, BLOCK_RESET_END, RESET_LOOP_RELEASE (R142, R367, R369, R372, R373, R440): SEVP clears when the window
has passed and SEVL stays; a staged write of 1 clears LATCH and its counters only where PRES is 0, and SEVL only where SEVP is 0;
a block whose hold time has ended leaves reset, a segment die also earlier, with its calibration judged, and a CAN controller
integrates anew; the key C3 releases the reset-loop state.

HANDLING_CLOSE and HANDLING_TIMEOUT (R375): the sequence closes by the key or after FLT_HOLD beats without a merged raise,
HMERGE empties, and one entry 0x0380 records its first source, the merge count, the lowest and highest merged source and the cause. -/
def Obligations.FaultRelease : Prop :=
  (∀ (s : State) (fs : Fin 128), s.srcWhole → (s.fs fs).sevp = true →
    severe (s.nat .N fs) (s.nat .W fs) s.beat.num (s.fs fs).ev = false →
    exec (.severityExpiry fs) s = .next { s with flt := { s.flt with
      src := s.flt.src.set fs { s.fs fs with sevp := false } } }) ∧
  (∀ (s : State) (fs : Fin 128), (s.fs fs).sevp = false ∨ severe (s.nat .N fs) (s.nat .W fs) s.beat.num (s.fs fs).ev = true →
    exec (.severityExpiry fs) s = .next s) ∧
  (∀ s : State, ∃ t, exec .latchClear s = .next t ∧
    (∀ k : Nat, (t.fs k).latch = ((s.fs k).latch && !(s.flt.w1cLatch.contains k && !(s.fs k).pres)) ∧
      (t.fs k).events = (if k ∈ s.flt.w1cLatch ∧ (s.fs k).pres = false then 0 else (s.fs k).events) ∧
      (t.fs k).trans = (if k ∈ s.flt.w1cLatch ∧ (s.fs k).pres = false then 0 else (s.fs k).trans) ∧
      (t.fs k).sevl = ((s.fs k).sevl && !(s.flt.w1cSevl.contains k && !(s.fs k).sevp)) ∧
      (t.fs k).pres = (s.fs k).pres ∧ (t.fs k).sevp = (s.fs k).sevp ∧ (t.fs k).ev = (s.fs k).ev) ∧
    t = { s with flt := { s.flt with src := t.flt.src, w1cLatch := [], w1cSevl := [] } }) ∧
  (∀ x : FsSrc, x.pres = (x.cond || x.till.isSome)) ∧
  (∀ (s : State) (b : Blk) (c : CalIn), (∀ p, b ≠ .can p) → (∀ g, b ≠ .segment g) → (b, 0) ∈ s.flt.blk →
    exec (.blockResetEnd b c) s = .next { s with flt := { s.flt with
      blk := s.flt.blk.filter fun x => !(x.1 == b && x.2 == 0) } }) ∧
  (∀ (s : State) (p : CPort) (c : CalIn), (.can p, 0) ∈ s.flt.blk →
    ∃ t, exec (.blockResetEnd (.can p) c) s = .next t ∧ t.flt.blk = s.flt.blk.filter (fun x => !(x.1 == .can p && x.2 == 0)) ∧
      (t.can p).state = (if (s.can p).state = .off then .off else .integrating) ∧ (t.can p).txErr = 0 ∧ (t.can p).rxErr = 0 ∧
      (t.fs (if p = .can1 then 62 else 63)).cond = false ∧ (∀ o ∈ (t.can p).obj, o.txs ≠ .onBus) ∧
      t.meas = s.meas ∧ t.safe = s.safe) ∧
  (∀ (s : State) (b : Blk) (c : CalIn), (∀ n, (b, n) ∈ s.flt.blk → n ≠ 0 ∧ ∀ g, b = .segment g → 50 ≤ n) →
    exec (.blockResetEnd b c) s = .next s) ∧
  (∀ (s : State) (g : Fin 4) (c : CalIn) (n : Nat), (.segment g, n) ∈ s.flt.blk → n < 50 →
    ∃ t, exec (.blockResetEnd (.segment g) c) s = .next t ∧
      t.flt.blk = s.flt.blk.filter (fun x => !(x.1 == .segment g && decide (x.2 < 50))) ∧
      (∀ k, k ∈ t.meas.failCell ↔ k ∈ s.meas.failCell ∨ (0 < k ∧ segOf k = g.val ∧ k - 1 ∈ calFails c.cell 1000 200)) ∧
      (∀ k, k ∈ t.meas.failChk ↔ k ∈ s.meas.failChk ∨ (k / 6 = g.val ∧ k ∈ calFails c.chk 4000 1000)) ∧
      (∀ k, k ∈ t.meas.failCur ↔ k ∈ s.meas.failCur ∨ (g.val = 0 ∧ k ∈ calFails c.cur 2000 2000)) ∧
      (∀ k, k ∈ t.meas.failHv ↔ k ∈ s.meas.failHv ∨ (g.val = 0 ∧ k ∈ calFails c.hv 3000 500)) ∧
      (∀ k, s.srcWhole → 0 < k → segOf k = g.val → k - 1 ∈ calFails c.cell 1000 200 → (t.fs (24 + g.val)).cond = true) ∧
      (calFails c.cell 1000 200 = [] → calFails c.chk 4000 1000 = [] → calFails c.cur 2000 2000 = [] → calFails c.hv 3000 500 = [] →
        t.meas = s.meas ∧ t.flt.src = s.flt.src)) ∧
  (∀ (s : State) (p : Path), exec (.resetLoopRelease p 0xC3) s = .next { s with flt := { s.flt with
      rloop := false, rstTimes := [] } }) ∧
  (∀ (s : State) (p : Path) (k : BitVec 8), k ≠ 0xC3 → exec (.resetLoopRelease p k) s = .next s) ∧
  (∀ (s : State) (p : Path) (i : Instr) (c : Nat), s.flt.hopen = true →
    (i = .handlingClose p 0xC3 ∧ c = 1) ∨
      (i = .handlingTimeout ∧ c = 2 ∧ s.nat .FLT_HOLD ≤ (s.beat.num - s.flt.hlast).toNat) →
    ∃ t, exec i s = .next t ∧
    t.flt = { s.flt with hopen := false, hmerge := [] } ∧ t = { s with flt := t.flt, log := t.log } ∧
    (s.fltShown = none → s.beat.running = true → ∃ m, t.log = { s.log with intake := s.log.intake ++
        [⟨.control, 0x380, [BitVec.ofNat 32 s.flt.hsrc, BitVec.ofNat 32 s.flt.hcnt, m, BitVec.ofNat 32 c]⟩] } ∧
      (s.flt.hmerge = [] → m = 0) ∧
      (∀ lo hi, lo ∈ s.flt.hmerge → hi ∈ s.flt.hmerge → (∀ x ∈ s.flt.hmerge, lo ≤ x ∧ x ≤ hi) → hi < 128 →
        m = BitVec.ofNat 32 (256 * lo + hi)))) ∧
  (∀ (s : State) (p : Path), s.flt.hopen = true →
    ∃ t, exec (.handlingClose p 0xC3) s = .next t ∧ t.flt.hopen = false ∧ t.flt.hmerge = []) ∧
  (∀ s : State, s.flt.hopen = true → s.nat .FLT_HOLD ≤ (s.beat.num - s.flt.hlast).toNat →
    ∃ t, exec .handlingTimeout s = .next t ∧ t.flt.hopen = false ∧ t.flt.hmerge = []) ∧
  (∀ (s : State) (p : Path) (k : BitVec 8), k ≠ 0xC3 ∨ s.flt.hopen = false → exec (.handlingClose p k) s = .next s) ∧
  (∀ s : State, s.flt.hopen = false ∨ (s.beat.num - s.flt.hlast).toNat < s.nat .FLT_HOLD → exec .handlingTimeout s = .next s)

/-- FLT_INJ and INJECTION_RESULT (R33, R376, R377, R378): a write with the key stages the injection of a used target; a wrong key is
refused with cause 1, a second injection with cause 3, an unused target with cause 4, FULL outside Parked with cause 2, judged
again at the boundary that starts it; a flagged run passes, with FULL as a real event of its source (that of target 29 comes from the
comparison), and an unflagged one fails and raises its source as lasting; what has been seen of it at the port or in the word read
decides before what the checker reports. -/
def Obligations.Injection : Prop :=
(∀ (s : State) (p : Path) (full : Bool) (tg : BitVec 5), s.flt.injRun = none → s.flt.injDue = none →
    (injSource tg.toNat).isSome = true → (full = true → s.parked = true) →
    exec (.fltInj p 0xC3 full tg) s = .next { s with flt := { s.flt with
      injCause := 0, injTarget := tg.toNat, injDue := some { target := tg.toNat, full := full } } }) ∧
  (∀ (s : State) (p : Path) (k : BitVec 8) (full : Bool) (tg : BitVec 5), k ≠ 0xC3 →
    exec (.fltInj p k full tg) s = .next { s with flt := { s.flt with injCause := 1 } }) ∧
  (∀ (s : State) (p : Path) (full : Bool) (tg : BitVec 5), s.flt.injRun.isSome = true ∨ s.flt.injDue.isSome = true →
    exec (.fltInj p 0xC3 full tg) s = .next { s with flt := { s.flt with injCause := 3 } }) ∧
  (∀ (s : State) (p : Path) (full : Bool) (tg : BitVec 5), s.flt.injRun = none → s.flt.injDue = none →
    (tg.toNat = 0 ∨ tg.toNat = 7 ∨ (16 ≤ tg.toNat ∧ tg.toNat ≤ 23) ∨ 30 ≤ tg.toNat) →
    exec (.fltInj p 0xC3 full tg) s = .next { s with flt := { s.flt with injCause := 4 } }) ∧
  (∀ (s : State) (p : Path) (tg : BitVec 5), s.flt.injRun = none → s.flt.injDue = none →
    (injSource tg.toNat).isSome = true → s.parked = false →
    exec (.fltInj p 0xC3 true tg) s = .next { s with flt := { s.flt with injCause := 2 } }) ∧
  (∀ (s : State) (i : InjRun), s.flt.injDue = some i →
    (i.full = true → s.parked = false → s.injBoundary = { s with flt := { s.flt with injDue := none, injCause := 2 } }) ∧
    (i.full = false ∨ s.parked = true → s.injBoundary.flt = { s.flt with injDue := none, injRun := some i, injState := 1 })) ∧
  (∀ (s : State) (i : InjRun) (ok : Bool), s.flt.injRun = some i → i.seen.getD ok = true → (i.full = false ∨ i.target = 29) →
    s.fltShown = none → s.beat.running = true →
    exec (.injectionResult ok) s = .next { s with
      flt := { s.flt with injRun := none, injState := 2 }
      log := { s.log with
        intake := s.log.intake ++ [⟨.control, 0x381, [BitVec.ofNat 32 i.target, if i.full then 1 else 0]⟩] } }) ∧
  (∀ (s : State) (i : InjRun) (n : Nat) (ok : Bool), s.flt.injRun = some i → i.seen.getD ok = true → i.full = true → i.target ≠ 29 →
    injSource i.target = some n → s.srcWhole →
    ∃ t, exec (.injectionResult ok) s = .next t ∧ t.flt.injState = 2 ∧ t.flt.injRun = none ∧ (t.fs n).latch = true ∧
      (t.fs n).events = incSat 65535 (s.fsIn n).events ∧ (∀ k, k ≠ n → t.fs k = s.fs k) ∧
      t.cha = s.cha ∧ t.chb = s.chb ∧ t.safe = s.safe ∧ t.beat = s.beat) ∧
  (∀ (s : State) (i : InjRun) (n : Nat) (ok : Bool), s.flt.injRun = some i → i.seen.getD ok = false → injSource i.target = some n →
    s.srcWhole →
    ∃ t, exec (.injectionResult ok) s = .next t ∧ t.flt.injState = 3 ∧ t.flt.injRun = none ∧ (t.fs n).latch = true ∧
      (t.fs n).events = incSat 65535 (s.fsIn n).events ∧ (∀ k, k ≠ n → t.fs k = s.fs k) ∧
      t.cha = s.cha ∧ t.chb = s.chb ∧ t.safe = s.safe ∧ t.beat = s.beat) ∧
  (∀ (s : State) (b : Bool), s.flt.injRun = none → exec (.injectionResult b) s = .next s)

/-- R120, R126, R129, R137 for CFG_OPEN to OTP_KEY: a wrong key is refused with result 1, a command while BUSY is set with 4, one
from the path that does not own the session with 5; LAST_CMD shows the command and nothing else changes.

CFG_OPEN, CFG_VERIFY, CFG_ABORT, CFG_WDATA_WRITE (R119, R124, R125, R128, R129): OPEN gives the inactive bank to the path in state
WRITING, in one journal write; VERIFY sets BUSY; ABORT leaves INVALID and ends the session; a data word lands at WADDR, most significant byte first,
and leaves every other byte of both banks alone. -/
def Obligations.ConfigSession : Prop :=
  (∀ (s : State) (p : Path) (key : BitVec 8) (c : Instr) (n : Nat), (c, n) ∈ cfgCommands p key →
    (key ≠ 0xC3 → exec c s = .next { s with cfg := { s.cfg with lastCmd := n, result := 1 } }) ∧
    (key = 0xC3 → s.cfg.work ≠ .none → exec c s = .next { s with cfg := { s.cfg with lastCmd := n, result := 4 } }) ∧
    (key = 0xC3 → s.cfg.work = .none → s.cfg.owner ≠ .none → ownedBy s.cfg.owner p = false →
      exec c s = .next { s with cfg := { s.cfg with lastCmd := n, result := 5 } })) ∧
  (∀ (s : State) (p : Path) (b : Bool), s.cfgFree p → s.crowns = true → s.parked = true → s.cfg.image.isSome = true →
    (s.cfg.bank b).state = .active → (s.cfg.bank (!b)).state ∈ [BankState.empty, .verified, .previous] →
    s.replays (!b) = false →
    ∃ t, exec (.cfgOpen p 0xC3) s = .next t ∧
      t.cfg.bank (!b) = { s.cfg.bank (!b) with state := .writing } ∧ t.cfg.bank b = s.cfg.bank b ∧ t.cfg.workBank = !b ∧
      ownedBy t.cfg.owner p = true ∧ t.cfg.written = [] ∧ t.cfg.lastCmd = 1 ∧ t.cfg.result = 0 ∧
      (s.cfg.jseq + 1 < 2 ^ 32 → t.cfg.governing = some (t.cfg.jword (s.cfg.jseq + 1))) ∧ t = { s with cfg := t.cfg }) ∧
  (∀ (s : State) (p : Path), s.cfgFree p → s.crowns = true → s.parked = true → s.cfg.owner ≠ .none →
    (s.cfg.bank s.cfg.workBank).state = .writing → s.replays s.cfg.workBank = false →
    ∃ t, exec (.cfgVerify p 0xC3) s = .next t ∧
      t.cfg = { s.cfg with lastCmd := 2, result := 0, work := .verify } ∧ t = { s with cfg := t.cfg, core := t.core }) ∧
  (∀ (s : State) (p : Path) (b : Bool), s.cfg.work = .none → ownedBy s.cfg.owner p = true →
    (s.cfg.bank b).state ∈ [BankState.writing, .verified] → (s.cfg.bank (!b)).state ∉ [BankState.writing, .verified] →
    ∃ t, exec (.cfgAbort p 0xC3) s = .next t ∧ t.cfg.bank b = { s.cfg.bank b with state := .invalid } ∧
      t.cfg.bank (!b) = s.cfg.bank (!b) ∧ t.cfg.owner = .none ∧ t.cfg.lastCmd = 6 ∧ t.cfg.result = 0 ∧
      t = { s with cfg := t.cfg }) ∧
  (∀ (s : State) (p : Path) (d : Word), s.cfg.work = .none → ownedBy s.cfg.owner p = true →
    (s.cfg.bank s.cfg.workBank).state = .writing → s.cfg.waddr < bankSize → (s.cfg.bank s.cfg.workBank).wf = true →
    ∃ t, exec (.cfgWdataWrite p d) s = .next t ∧ t = { s with cfg := t.cfg } ∧ t.cfg.waddr = s.cfg.waddr + 4 ∧
      (∀ i < 4, cellsGet (s.cfg.waddr + i) (t.cfg.bank s.cfg.workBank).cells = BitVec.ofNat 8 (d.toNat / 256 ^ (3 - i))) ∧
      (∀ a, (a < s.cfg.waddr ∨ s.cfg.waddr + 4 ≤ a) →
        cellsGet a (t.cfg.bank s.cfg.workBank).cells = cellsGet a (s.cfg.bank s.cfg.workBank).cells) ∧
      t.cfg.bank (!s.cfg.workBank) = s.cfg.bank (!s.cfg.workBank)) ∧
  (∀ (s : State) (p : Path) (d : Word), s.cfg.work ≠ .none →
    exec (.cfgWdataWrite p d) s = .next { s with cfg := { s.cfg with result := 4 } })

/-- VERIFY_COMPLETE, CFG_COMMIT, COMMIT_DIGEST_COMPLETE, CFG_CONFIRM (R125, R126, R129): the checks end in VERIFIED or in a refused
image with CFG_ERR; COMMIT ends the session and works on the digest, which ends in PENDING and a reset of cause 6; CONFIRM makes
the trial image ACTIVE. -/
def Obligations.ConfigCommit : Prop :=
(∀ s : State, s.cfg.work = .verify → s.bankSound s.cfg.workBank = true →
    ∃ t, exec .verifyComplete s = .next t ∧ t.cfg.work = .none ∧
      (t.cfg.bank s.cfg.workBank).cells = (s.cfg.bank s.cfg.workBank).cells ∧
      t.cfg.bank (!s.cfg.workBank) = s.cfg.bank (!s.cfg.workBank) ∧
      (match verifyImage (cellsBytes bankSize (s.cfg.bank s.cfg.workBank).cells) s.cfg.written s.cfg.openVer s.cfg.keys with
        | none => t.cfg.result = 0 ∧ (t.cfg.bank s.cfg.workBank).state = .verified ∧
          t = { s with cfg := t.cfg, host := t.host, core := t.core }
        | some e => t.cfg.result = e.result ∧ t.cfg.errSect = e.sect ∧ t.cfg.errOfs = e.ofs ∧ t.cfg.bank0 = s.cfg.bank0 ∧
          t.cfg.bank1 = s.cfg.bank1 ∧ t = { s with cfg := t.cfg, host := t.host, log := t.log, core := t.core })) ∧
  (∀ s : State, s.cfg.work ≠ .verify → exec .verifyComplete s = .next s) ∧
  (∀ (s : State) (p : Path) (b : Bool), s.cfgFree p → s.crowns = true → s.parked = true →
    (s.cfg.bank b).state = .active → (s.cfg.bank (!b)).state = .verified → s.replays (!b) = false →
    ∃ t, exec (.cfgCommit p 0xC3) s = .next t ∧
      t.cfg = { s.cfg with lastCmd := 3, result := 0, owner := .none, work := .commit, workBank := !b } ∧
      t = { s with cfg := t.cfg, core := t.core }) ∧
  (∀ s : State, s.cfg.work = .commit → (s.cfg.bank s.cfg.workBank).state = .verified →
    s.bankSound s.cfg.workBank = true → digestOk (cellsBytes bankSize (s.cfg.bank s.cfg.workBank).cells) = true →
    ∃ t, exec .commitDigestComplete s = .next t ∧ t.cfg.work = .none ∧ t.cfg.result = 0 ∧
      t.cfg.resetDue = mergeCause s.cfg.resetDue 6 ∧
      t.cfg.bank s.cfg.workBank = { s.cfg.bank s.cfg.workBank with state := .pending } ∧
      t.cfg.bank (!s.cfg.workBank) = s.cfg.bank (!s.cfg.workBank) ∧
      t = { s with cfg := t.cfg, host := t.host, core := t.core }) ∧
  (∀ s : State, s.cfg.work ≠ .commit → exec .commitDigestComplete s = .next s) ∧
  (∀ (s : State) (p : Path) (b : Bool), s.cfgFree p → s.cfg.image.isSome = true → s.cfg.rev = .none →
    (s.cfg.bank b).state = .trial → (s.cfg.bank (!b)).state ≠ .trial → s.fltShown = none → s.beat.running = true →
    ∃ t, exec (.cfgConfirm p 0xC3) s = .next t ∧ t.cfg.bank b = { s.cfg.bank b with state := .active } ∧
      t.cfg.bank (!b) = s.cfg.bank (!b) ∧ t.cfg.trialElapsed = 0 ∧ t.cfg.result = 0 ∧ t.cfg.lastCmd = 4 ∧
      t = { s with cfg := t.cfg, log := { s.log with
        intake := s.log.intake ++ [⟨.management, 0x201, [BitVec.ofNat 32 (bankNum b), BitVec.ofNat 32 (s.cfg.bank b).ver]⟩] } })

/-- CFG_ROLLBACK, TRIAL_EXPIRY, TRIAL_CHECKPOINT, REVERT_RESET, OTP_KEY (R117, R128, R131, R132, R133): a rollback and an expiry set
REV_PEND; once Parked the reset writes the trial bank INVALID and the PREVIOUS bank ACTIVE; a checkpoint saves the elapsed count;
the next free key slot takes the hash of the VERIFIED bank's key.

CROWN_SWITCH_CHANGE, CROWN_DISAGREEMENT, CROWN_AGREEMENT, BANK_ERASE (R62, R122, R123, R135): a debounced reading changes after
10 beats; 50 beats of disagreement raise FS13 and count both as open, which ends a session with its bank INVALID; agreement for 10
beats restores the readings; an erase leaves every byte 0 and the bank EMPTY. -/
def Obligations.ConfigRevert : Prop :=
  (∀ (s : State) (p : Path) (b : Bool), s.cfgFree p → s.crowns = true → s.cfg.image.isSome = true → s.cfg.rev = .none →
    (s.cfg.bank b).state ∈ [BankState.active, .trial] → (s.cfg.bank (!b)).state = .previous →
    exec (.cfgRollback p 0xC3) s = .next { s with cfg := { s.cfg with lastCmd := 5, result := 0, rev := .rollback } }) ∧
  (∀ s : State, s.cfg.image.isSome = true → s.cfg.bank1.state = .trial → s.cfg.trialLimit ≤ s.cfg.trialElapsed →
    s.cfg.rev = .none → exec .trialExpiry s = .next { s with cfg := { s.cfg with rev := .expiry } }) ∧
  (∀ s : State, s.cfg.bank0.state ≠ .trial → s.cfg.bank1.state ≠ .trial → exec .trialExpiry s = .next s) ∧
  (∀ s : State, s.cfg.image.isSome = true → s.cfg.bank1.state = .trial → s.cfg.trialElapsed % 1000 = 0 →
    s.cfg.trialElapsed ≠ s.cfg.trialSaved →
    ∃ t, exec .trialCheckpoint s = .next t ∧ (s.cfg.jseq + 1 < 2 ^ 32 →
        t.cfg.governing = some (s.cfg.jword (s.cfg.jseq + 1)) ∧ t.cfg.trialSaved = s.cfg.trialElapsed) ∧
      (t.cfg.j0 = s.cfg.j0 ∨ t.cfg.j1 = s.cfg.j1) ∧
      t = { s with cfg := { s.cfg with j0 := t.cfg.j0, j1 := t.cfg.j1 } }) ∧
  (∀ s : State, s.cfg.trialElapsed % 1000 ≠ 0 → exec .trialCheckpoint s = .next s) ∧
  (∀ (s : State) (b : Bool), s.cfg.rev = .expiry → s.parked = true → (s.cfg.bank (!b)).state = .previous →
    (s.cfg.bank b).state = .trial → s.cfg.jseq + 1 < 2 ^ 32 →
    ∃ t, exec .revertReset s = .next t ∧ t.cfg.bank (!b) = { s.cfg.bank (!b) with state := .active } ∧
      t.cfg.bank b = { s.cfg.bank b with state := .invalid } ∧ t.cfg.rev = .none ∧ t.cfg.trialElapsed = 0 ∧
      t.cfg.revertCnt = incSat 65535 s.cfg.revertCnt ∧ t.pwr.state = .start 2 ∧ t.pwr.cause = 7) ∧
  (∀ s : State, s.cfg.rev = .none → exec .revertReset s = .next s) ∧
  (∀ (s : State) (p : Path) (b : Bool), s.cfgFree p → s.crowns = true → s.parked = true → (s.cfg.bank b).state = .active →
    (s.cfg.bank (!b)).state = .verified → imgSigned (cellsBytes bankSize (s.cfg.bank (!b)).cells) = true →
    s.cfg.keys.length < 4 → s.replays (!b) = false →
    exec (.otpKey p 0xC3) s = .next { s with cfg := { s.cfg with
      lastCmd := 7, result := 0, keys := s.cfg.keys ++ [imgKeyHash (cellsBytes bankSize (s.cfg.bank (!b)).cells)] } }) ∧
  (∀ s : State, 10 ≤ s.cfg.crw1Cnt → s.cfg.crw1 = false → s.cfg.crw2 = true → s.cfg.crwOpen = false →
    exec (.crownSwitchChange false) s = .next { s with cfg := { s.cfg with crw1 := true, crw1Cnt := 0 } }) ∧
  (∀ s : State, 10 ≤ s.cfg.crw2Cnt → s.cfg.crw2 = true → s.cfg.owner = .host → s.core.dbg = none →
    s.core.a.task ≠ .verification →
    ∃ t, exec (.crownSwitchChange true) s = .next t ∧ t.cfg.crw2 = false ∧ t.cfg.owner = .none ∧ t.cfg.work = .none ∧
      (t.cfg.bank s.cfg.workBank).state = .invalid ∧
      (∀ a < 32, cellsGet a (t.cfg.bank s.cfg.workBank).cells = 0) ∧
      t.cfg.bank (!s.cfg.workBank) = s.cfg.bank (!s.cfg.workBank) ∧ t = { s with cfg := t.cfg, log := t.log }) ∧
  (∀ s : State, s.cfg.crw1Cnt < 10 → exec (.crownSwitchChange false) s = .next s) ∧
  (∀ s : State, 50 ≤ s.cfg.crwDiff → s.cfg.crwOpen = false → s.srcWhole → s.cfg.owner = .none → s.core.dbg = none →
    ∃ t, exec .crownDisagreement s = .next t ∧ t.cfg.crwOpen = true ∧ t.crowns = false ∧ (t.fs 13).cond = true ∧
      (t.fs 13).latch = true ∧ t.cfg.bank0 = s.cfg.bank0 ∧ t.cfg.bank1 = s.cfg.bank1 ∧ t.cha = s.cha ∧ t.chb = s.chb ∧
      t.safe = s.safe) ∧
  (∀ s : State, s.cfg.crwDiff < 50 → exec .crownDisagreement s = .next s) ∧
  (∀ s : State, s.cfg.crwOpen = true → 10 ≤ s.cfg.crwAgree → s.srcWhole →
    exec .crownAgreement s = .next { s with
      cfg := { s.cfg with crwOpen := false, crwDiff := 0 }
      flt := { s.flt with src := s.flt.src.set 13 { s.fs 13 with cond := false } } }) ∧
  (∀ s : State, s.cfg.crwAgree < 10 → exec .crownAgreement s = .next s) ∧
  (∀ (s : State) (b : Bool), s.cfg.work = .erase → s.cfg.workBank = b →
    ∃ t, exec (.bankErase b) s = .next t ∧ t.cfg.bank b = {} ∧ (∀ a, cellsGet a (t.cfg.bank b).cells = 0) ∧
      t.cfg.bank (!b) = s.cfg.bank (!b) ∧ t.cfg.work = .none ∧ t = { s with cfg := t.cfg, mem := t.mem })

/-- LOCKSTEP_MISMATCH, CORE_SPLIT, CORE_JOIN, JOIN_COPY (R348, R352, R353, R357, R358, R359, R363): a mismatch halts its die with the class
latched and raises FS0 or FS1; a split with the key and both channels Parked before the boundary frees the checker, outside Parked
it is refused with cause 2, with a debug session open with cause 3, and a write without the key sets cause 1; a join of a split pair ends
its replay or sweep and is due its copy, which an evaluation that ended after 959 µs defers, twice at most, and whose missed
injection raises FS2. -/
def Obligations.CorePairs : Prop :=
(∀ (s : State) (ch : Ch) (cls : Fin 8), s.runs ch = true → (s.core.pair ch).pair = .joined → s.srcWhole →
    ∃ t, exec (.lockstepMismatch ch cls) s = .next t ∧
      t.core.pair ch = { s.core.pair ch with halted := true, mm := some cls.val } ∧
      t.core.pair ch.other = s.core.pair ch.other ∧ (t.fs (if ch = .a then 0 else 1)).latch = true ∧ t.runs ch = false ∧
      t.beat = s.beat ∧ t.meas = s.meas ∧ t.cha = s.cha ∧ t.chb = s.chb ∧ t.safe = s.safe) ∧
  (∀ (s : State) (ch : Ch) (cls : Fin 8), (s.core.pair ch).pair ≠ .joined →
    exec (.lockstepMismatch ch cls) s = .next s) ∧
  (∀ (s : State) (ch : Ch) (r : CoreReq), s.beat.bStage = 0 → s.core.req = some r →
    (if ch = .a then r.splitA else r.splitB) = true → s.pre.ctlA = .parked → s.pre.ctlB = .parked → s.pre.debug = false →
    (s.core.pair ch).pair = .joined →
    ∃ t, exec (.coreSplit ch) s = .next t ∧ t.core.pair ch = { s.core.pair ch with pair := .split, task := .none } ∧
      t.core.pair ch.other = s.core.pair ch.other ∧ t.core.splits = incSat 255 s.core.splits ∧
      t.core.rpl.out = [] ∧ t = { s with core := t.core }) ∧
  (∀ (s : State) (ch : Ch) (r : CoreReq), s.beat.bStage = 0 → s.core.req = some r →
    (if ch = .a then r.splitA else r.splitB) = true → s.pre.ctlA ≠ .parked →
    ∃ t, exec (.coreSplit ch) s = .next t ∧ t.core.cause = 2 ∧ t.core.pair ch = s.core.pair ch ∧ t = { s with core := t.core }) ∧
  (∀ (s : State) (ch : Ch) (r : CoreReq), s.beat.bStage = 0 → s.core.req = some r →
    (if ch = .a then r.splitA else r.splitB) = true → s.pre.ctlA = .parked → s.pre.ctlB = .parked → s.pre.debug = true →
    ∃ t, exec (.coreSplit ch) s = .next t ∧ t.core.cause = 3 ∧ t.core.pair ch = s.core.pair ch ∧ t = { s with core := t.core }) ∧
  (∀ (s : State) (x : Staged), x.addr = 0x1C00 → keyOf x.data ≠ 0xC3 →
    s.activateStaged x = { s with core := { s.core with cause := 1 } }) ∧
  (∀ (s : State) (x : Staged), x.addr = 0x1C00 → keyOf x.data = 0xC3 →
    ∃ r : CoreReq, s.activateStaged x = { s with core := { s.core with req := some r } } ∧ r.splitA = x.data.getLsbD 0 ∧
      r.splitB = x.data.getLsbD 1 ∧ r.joinA = x.data.getLsbD 2 ∧ r.joinB = x.data.getLsbD 3) ∧
  (∀ (s : State) (ch : Ch), s.core.req = none → exec (.coreSplit ch) s = .next s ∧ exec (.coreJoin ch) s = .next s) ∧
  (∀ (s : State) (ch : Ch) (r : CoreReq), s.beat.bStage = 0 → s.core.req = some r →
    (if ch = .a then r.joinA else r.joinB) = true → (s.core.pair ch).pair = .split → (s.core.pair ch).task = .none →
    (ch = .a → s.core.swp.state ≠ 1) →
    ∃ t, exec (.coreJoin ch) s = .next t ∧
      t.core.pair ch = { s.core.pair ch with pair := .joining, task := .none, defer := 0, copied := false, copyDone := false,
                                              copyBad := false } ∧
      t.core.pair ch.other = s.core.pair ch.other ∧ t = { s with core := t.core }) ∧
  (∀ (s : State) (ch : Ch) (r : CoreReq), s.beat.bStage = 0 → s.core.req = some r →
    (if ch = .a then r.joinA else r.joinB) = true → (s.core.pair ch).pair = .split → (s.core.pair ch).task = .verification →
    ∃ t, exec (.coreJoin ch) s = .next t ∧ t.core.cause = 4 ∧ t.core.pair ch = s.core.pair ch ∧ t = { s with core := t.core }) ∧
  (∀ (s : State) (ch : Ch) (r : CoreReq), s.beat.bStage = 0 → s.core.req = some r →
    (if ch = .a then r.joinA else r.joinB) = true → (s.core.pair ch).pair = .split → s.core.swp.state ≠ 1 →
    s.core.rpl.live = true → s.core.a.task = .replay → s.core.b.task = .replay →
    ∃ t, exec (.coreJoin ch) s = .next t ∧ (t.core.pair ch).pair = .joining ∧ (t.core.pair ch).task = .none ∧
      t.core.pair ch.other = { s.core.pair ch.other with task := .none } ∧ t.core.rpl.state = .stopped ∧ t.core.rpl.cause = 3 ∧
      t.core.rpl.out = s.core.rpl.out ∧ t = { s with core := t.core, host := t.host }) ∧
  (∀ (s : State) (r : CoreReq), s.beat.bStage = 0 → s.core.req = some r → r.joinA = true →
    s.core.a.pair = .split → s.core.a.task = .sweep → s.core.swp.state = 1 →
    ∃ t, exec (.coreJoin .a) s = .next t ∧ t.core.a.pair = .joining ∧ t.core.a.task = .none ∧ t.core.swp.state = 3 ∧
      t.core.swp.cause = 3 ∧ t.core.swp.res = s.core.swp.res ∧ t.core.b = s.core.b ∧
      t = { s with core := t.core, host := t.host }) ∧
  (∀ (s : State) (ch : Ch) (us : Nat) (x : Fin 8), (s.core.pair ch).pair = .joining → (s.core.pair ch).copied = false →
    s.doneAt ch = some us → us ≤ 959 →
    exec (.joinCopy ch true x) s = .next { s with core := s.core.setPair ch fun p =>
      { p with copied := true, copyDone := true } }) ∧
  (∀ (s : State) (ch : Ch) (us : Nat) (x : Fin 8), (s.core.pair ch).pair = .joining → (s.core.pair ch).copied = false →
    s.doneAt ch = some us → 959 < us → (s.core.pair ch).defer < 2 →
    exec (.joinCopy ch true x) s = .next { s with core := s.core.setPair ch fun p =>
      { p with defer := p.defer + 1, copied := true } }) ∧
  (∀ (s : State) (ch : Ch) (us : Nat) (x : Fin 8), (s.core.pair ch).pair = .joining → (s.core.pair ch).copied = false →
    s.doneAt ch = some us → 959 < us → 2 ≤ (s.core.pair ch).defer →
    ∃ t, exec (.joinCopy ch true x) s = .next t ∧ t.core.pair ch = { s.core.pair ch with pair := .split, defer := 0 } ∧
      t.core.cause = 5 ∧ t.core.pair ch.other = s.core.pair ch.other ∧ t = { s with core := t.core }) ∧
  (∀ (s : State) (ch : Ch) (us : Nat) (c : Fin 8), (s.core.pair ch).pair = .joining → (s.core.pair ch).copied = false →
    s.doneAt ch = some us → us ≤ 959 → s.srcWhole →
    ∃ t, exec (.joinCopy ch false c) s = .next t ∧
      t.core.pair ch = { s.core.pair ch with copied := true, copyDone := true, copyBad := true, testFail := some (c.val, c.val) } ∧
      (t.fs 2).latch = true ∧ t.core.pair ch.other = s.core.pair ch.other ∧
      t.meas = s.meas ∧ t.cha = s.cha ∧ t.chb = s.chb ∧ t.safe = s.safe) ∧
  (∀ (s : State) (ch : Ch) (b : Bool) (c : Fin 8), (s.core.pair ch).pair ≠ .joining ∨ s.doneAt ch = none →
    exec (.joinCopy ch b c) s = .next s)

/-- DEBUG_SESSION_OPEN, DEBUGGER_WRITE, DEBUG_HALT (R29, R30, R360, R361, R362): a session opens only with both crown switches closed,
every running channel Parked and none open; a write of a core register while the pair is joined is logged, a memory write is not and
raises FS7 where the plane in whose slot it is made does not own the address (log entry 74); the port refuses a write while the log
holds 64 and never reaches the checker; each write and a halt set DET_VOID; a halt that spans 980 µs leaves the evaluation late, a
shorter one delays it, and an evaluation that waited runs at the release (log entry 101); without a session nothing happens.

SWEEP_START and SWEEP_END (R355, R356): a sweep of usable frequencies starts on the free checker of the split pair of CDA, else
cause 1; it ends as done once the last frequency has its results, or as ended with cause 2 when the analysis conditions lapse.

RPL_START, RPL_STOP, REPLAY_RECORD, REPLAY_BEAT, RPL_OUT_READ (R104, R105, R106, R107, R108): replay starts on both free split
checkers while Parked, else cause 4 (while a replay is live: log entry 79); the start record sets the expected beat number, each
later record in sequence is ready to run, a record out of sequence stops with cause 2, a bad CRC with cause 1, the host with
cause 3; a replay beat runs one ready record, at most one a beat, and LAST_BEAT shows it; a read takes 4 bytes of the results. -/
def Obligations.CheckerTasks : Prop :=
  (∀ (s : State) (ch : Ch), s.crowns = true → (s.runs .a = true → s.cha.seq.state = .parked) →
    (s.runs .b = true → s.chb.seq.state = .parked) → s.core.dbg = none →
    exec (.debugSessionOpen ch) s = .next { s with core := { s.core with dbg := some ch } }) ∧
  (∀ (s : State) (ch : Ch), s.crowns = false → exec (.debugSessionOpen ch) s = .next s) ∧
  (∀ (s : State) (ch : Ch), (s.runs .a = true ∧ s.cha.seq.state ≠ .parked) ∨ (s.runs .b = true ∧ s.chb.seq.state ≠ .parked) →
    exec (.debugSessionOpen ch) s = .next s) ∧
  (∀ (s : State) (ch : Ch) (tg : DbgTarget) (a v : Word) (n : Nat) (sl : Party), s.core.dbg = some ch →
    (s.core.pair ch).pair = .joined → tg ≠ .memory → sl ≠ .checker → s.core.log.length < 64 + n →
    exec (.debuggerWrite tg a v ⟨n, sl⟩) s = .next { s with
      core := { s.core with log := s.core.log.drop n ++ [{ target := tg, addr := a, value := v }]
                            dbgLast := some { target := tg, addr := a, value := v }
                            dbgWr := incSat 65535 s.core.dbgWr }
      beat := { s.beat with detVoid := true } }) ∧
  (∀ (s : State) (ch : Ch) (tg : DbgTarget) (a v : Word) (n : Nat) (sl : Party), s.core.dbg = some ch →
    (s.core.pair ch).pair ≠ .joined → tg ≠ .memory → sl ≠ .checker →
    exec (.debuggerWrite tg a v ⟨n, sl⟩) s = .next { s with
      core := { s.core with log := s.core.log.drop n
                            dbgLast := some { target := tg, addr := a, value := v }
                            dbgWr := incSat 65535 s.core.dbgWr }
      beat := { s.beat with detVoid := true } }) ∧
  (∀ (s : State) (ch : Ch) (a v : Word) (n : Nat) (sl : Party), s.core.dbg = some ch → sl ≠ .checker →
    ((s.core.pair ch).pair = .joined → s.core.log.length < 64 + n) →
    ∃ t, exec (.debuggerWrite .memory a v ⟨n, sl⟩) s = .next t ∧
      t.core = { s.core with log := s.core.log.drop n
                             dbgLast := some { target := .memory, addr := a, value := v }
                             dbgWr := incSat 65535 s.core.dbgWr } ∧
      t.beat.detVoid = true ∧ t.cha = s.cha ∧ t.chb = s.chb ∧ t.safe = s.safe ∧ t.meas = s.meas ∧
      (sl ∈ planesOf ch → mayWrite ch sl a.toNat = true →
        t = { s with core := t.core, beat := { s.beat with detVoid := true } }) ∧
      (sl ∉ planesOf ch ∨ mayWrite ch sl a.toNat = false → s.srcWhole → (t.fs 7).latch = true)) ∧
  (∀ (s : State) (ch : Ch) (tg : DbgTarget) (a v : Word) (n : Nat) (sl : Party), s.core.dbg = some ch →
    (s.core.pair ch).pair = .joined → sl ≠ .checker → 64 + n ≤ s.core.log.length →
    exec (.debuggerWrite tg a v ⟨n, sl⟩) s = .next { s with core := { s.core with log := s.core.log.drop n } }) ∧
  (∀ (s : State) (tg : DbgTarget) (a v : Word) (n : Nat) (sl : Party), s.core.dbg = none ∨ sl = .checker →
    exec (.debuggerWrite tg a v ⟨n, sl⟩) s = .next s) ∧
  (∀ (s : State) (ch : Ch) (ofs : Nat), s.core.dbg = some ch → s.core.dbgHalt = false →
    exec (.debugHalt ⟨true, ofs⟩) s = .next { s with
      core := { s.core with dbgHalt := true, dbgFrom := max s.beat.offNs ofs }
      beat := { s.beat with offNs := max s.beat.offNs ofs, detVoid := true } }) ∧
  (∀ (s : State) (ch : Ch) (ofs : Nat), s.core.dbg = some ch → s.core.dbgHalt = true →
    exec (.debugHalt ⟨true, ofs⟩) s = .next { s with beat := { s.beat with offNs := max s.beat.offNs ofs, detVoid := true } }) ∧
  (∀ (s : State) (ch : Ch) (ofs : Nat), s.core.dbg = some ch → s.core.dbgHalt = false → s.beat.evalWait = none →
    exec (.debugHalt ⟨false, ofs⟩) s = .next { s with beat := { s.beat with offNs := max s.beat.offNs ofs } }) ∧
  (∀ (s : State) (ch : Ch) (ofs : Nat), s.core.dbg = some ch → s.core.dbgHalt = true →
    ∃ t : State, t = { s with
        core := { s.core with dbgHalt := false }
        beat :=
          let b := { s.beat with offNs := max s.beat.offNs ofs }
          if s.core.dbgFrom ≤ 980000 ∧ 980000 < b.offNs then b.late ch
          else b.delay (b.offNs - max s.core.dbgFrom 850000) ch } ∧
      (s.beat.evalWait = none → exec (.debugHalt ⟨false, ofs⟩) s = .next t) ∧
      (∀ x y, s.beat.evalWait = some (x, y) →
        exec (.debugHalt ⟨false, ofs⟩) s = .next ({ t with beat := { t.beat with evalWait := none } }.evaluation x y))) ∧
  (∀ (b : BeatS) (us : Nat), (b.doneA = some us → (b.late .a).doneA = some 1000) ∧
    (b.doneB = some us → (b.late .b).doneB = some 1000)) ∧
  (∀ (s : State) (h : Bool) (ofs : Nat), s.core.dbg = none → exec (.debugHalt ⟨h, ofs⟩) s = .next s) ∧
  (∀ (s : State) (p : Path) (nf : BitVec 4), s.core.a.pair = .split → s.core.a.task = .none →
    (∀ f ∈ s.core.swp.freqs.take (nf.toNat + 1), 500 ≤ f.toNat ∧ f.toNat ≤ 2000000) →
    exec (.sweepStart p nf) s = .next { s with core := { s.core with
      a := { s.core.a with task := .sweep }
      swp := { s.core.swp with nf := nf, state := 1, cause := 0, idx := 0, slot := {}, cleared := [], res := [] } } }) ∧
  (∀ (s : State) (p : Path) (nf : BitVec 4), (s.core.a.pair ≠ .split ∨ s.core.a.task ≠ .none) →
    exec (.sweepStart p nf) s = .next { s with core := { s.core with swp := { s.core.swp with nf := nf, cause := 1 } } }) ∧
  (∀ s : State, s.core.swp.state = 1 → s.core.swp.nf.toNat < s.core.swp.idx → s.core.a.task = .sweep →
    ∃ t, exec .sweepEnd s = .next t ∧ t.core.a = { s.core.a with task := .none } ∧ t.core.swp.state = 2 ∧
      t.core.swp.cause = 0 ∧ t.core.swp.res = s.core.swp.res ∧ t = { s with core := t.core, host := t.host }) ∧
  (∀ s : State, s.core.swp.state = 1 → s.core.swp.idx ≤ s.core.swp.nf.toNat → s.analysisOn = false →
    ∃ t, exec .sweepEnd s = .next t ∧ t.core.swp.state = 3 ∧ t.core.swp.cause = 2 ∧ t = { s with core := t.core, host := t.host }) ∧
  (∀ s : State, s.core.swp.state ≠ 1 → exec .sweepEnd s = .next s) ∧
  (∀ (s : State) (p : Path) (bank raw : Bool), s.parked = true → s.core.a.pair = .split → s.core.b.pair = .split →
    s.core.a.task = .none → s.core.b.task = .none → s.core.rpl.live = false →
    ∃ t, exec (.rplStart p bank raw) s = .next t ∧ t.core.a = { s.core.a with task := .replay } ∧
      t.core.b = { s.core.b with task := .replay } ∧
      t.core.rpl = { s.core.rpl with bank := bank, rawCell := raw, en := true, state := .waiting, cause := 0, lastBeat := 0,
                                     inBuf := [], stream := [], ready := [], lastRun := none, out := [] } ∧
      t = { s with core := t.core }) ∧
  (∀ (s : State) (p : Path) (bank raw : Bool), s.core.rpl.live = false →
    (s.parked = false ∨ s.core.a.pair ≠ .split ∨ s.core.b.pair ≠ .split ∨ s.core.a.task ≠ .none ∨ s.core.b.task ≠ .none) →
    exec (.rplStart p bank raw) s = .next { s with core := { s.core with
      rpl := { s.core.rpl with bank := bank, rawCell := raw, cause := 4 } } }) ∧
  (∀ (s : State) (p : Path) (bank raw : Bool), s.core.rpl.live = true → s.core.a.task = .replay →
    exec (.rplStart p bank raw) s = .next { s with core := { s.core with rpl := { s.core.rpl with cause := 4 } } }) ∧
  (∀ (s : State) (p : Path), s.core.rpl.live = true → s.core.a.task = .replay → s.core.b.task = .replay →
    ∃ t, exec (.rplStop p) s = .next t ∧ t.core.a = { s.core.a with task := .none } ∧ t.core.b = { s.core.b with task := .none } ∧
      t.core.rpl = { s.core.rpl with en := false, state := .stopped, cause := 3, ready := [] } ∧
      t = { s with core := t.core, host := t.host }) ∧
  (∀ (s : State) (p : Path), s.core.rpl.live = false →
    exec (.rplStop p) s = .next { s with core := { s.core with rpl := { s.core.rpl with en := false } } }) ∧
  (∀ (s : State) (l : List Byte), s.core.rpl.state = .waiting → rplCrcOk l = true →
    exec (.replayRecord l) s = .next { s with core := { s.core with rpl := { s.core.rpl with
      state := .running, stream := [l], expect := rplBeatOf l + 1 } } }) ∧
  (∀ (s : State) (l : List Byte), s.core.rpl.state = .running → rplCrcOk l = true → rplBeatOf l = s.core.rpl.expect →
    exec (.replayRecord l) s = .next { s with core := { s.core with rpl := { s.core.rpl with
      stream := s.core.rpl.stream ++ [l], ready := s.core.rpl.ready ++ [l], expect := s.core.rpl.expect + 1 } } }) ∧
  (∀ (s : State) (l : List Byte), s.core.rpl.live = true → rplCrcOk l = false →
    ∃ t, exec (.replayRecord l) s = .next t ∧ t.core.rpl = { s.core.rpl with state := .stopped, cause := 1, ready := [] } ∧
      t = { s with core := t.core, host := t.host }) ∧
  (∀ (s : State) (l : List Byte), s.core.rpl.state = .running → rplCrcOk l = true → rplBeatOf l ≠ s.core.rpl.expect →
    ∃ t, exec (.replayRecord l) s = .next t ∧ t.core.rpl = { s.core.rpl with state := .stopped, cause := 2, ready := [] } ∧
      t = { s with core := t.core, host := t.host }) ∧
  (∀ (s : State) (l : List Byte), s.core.rpl.live = false → exec (.replayRecord l) s = .next s) ∧
  (∀ (s : State) (l : List Byte) (r : List (List Byte)), s.core.rpl.state = .running → s.core.rpl.ready = l :: r →
    s.core.rpl.lastRun ≠ some s.beat.num →
    ∃ t x, exec .replayBeat s = .next t ∧
      t = { s with core := { s.core with rpl := { s.core.rpl with
        ready := r, lastBeat := rplBeatOf l, lastRun := some s.beat.num, out := s.core.rpl.out ++ x } } }) ∧
  (∀ s : State, (s.core.rpl.ready = [] ∨ s.core.rpl.lastRun = some s.beat.num) → exec .replayBeat s = .next s) ∧
  (∀ (s : State) (p : Path), exec (.rplOutRead p) s = .next { s with core := { s.core with
    rpl := { s.core.rpl with out := s.core.rpl.out.drop 4 } } })

/-- PROT_CLOSE, PROT_OPEN, SAFE_ACKNOWLEDGE (R74, R303, R304, R305, R306, R310, R311): an accepted close request starts the
pre-charge at step 1 in both channels; a refused one shows its cause and writes entry 0x0500, with VK below 16.0 V it also raises
FS48; an open request leads a closed string into Opening with target Parked, from Run-down with target Safe, and aborts a pre-charge
with PRE and POS open at once; the loss of a channel at the same boundary discards it; an acknowledgement from the host or the ring
leaves Safe and clears its latch and the fast condition only when no other condition, SAFE_REQ or hit holds, else it is refused with
cause 6. -/
def Obligations.Requests : Prop :=
(∀ (s : State) (src : ReqSrc), s.beat.bStage = 0 → s.safe.req = some ⟨.close, src⟩ → s.pre.ctlA = .parked →
    s.pre.ctlB = .parked → s.closeCause src = none →
    exec .protClose s = .next { s with
      cha := { s.cha with seq := { s.cha.seq with state := .precharging, step := 1, retry := 0, c := 0, e := 0, crit := false,
                                                  posCmd := false, timedOut := false, fail := false, w := none, weldDone := false } }
      chb := { s.chb with seq := { s.chb.seq with state := .precharging, step := 1, retry := 0, c := 0, e := 0, crit := false,
                                                  posCmd := false, timedOut := false, fail := false, w := none, weldDone := false } }
      safe := { s.safe with req := none, lastSrc := src.code } }) ∧
  (∀ (s : State) (src : ReqSrc) (k : Nat), s.beat.bStage = 0 → s.safe.req = some ⟨.close, src⟩ → s.pre.ctlA ≠ .precharging →
    s.pre.ctlB ≠ .precharging → s.closeCause src = some k → 16000 ≤ s.pwr.vk → s.fltShown = none → s.beat.running = true →
    exec .protClose s = .next { s with
      safe := { s.safe with req := none, lastSrc := src.code, refuse := k }
      log := { s.log with intake := s.log.intake ++ [⟨.control, 0x500, [BitVec.ofNat 32 k, BitVec.ofNat 32 src.code]⟩] } }) ∧
  (∀ (s : State) (src : ReqSrc) (k : Nat), s.beat.bStage = 0 → s.safe.req = some ⟨.close, src⟩ → s.pre.ctlA ≠ .precharging →
    s.pre.ctlB ≠ .precharging → s.closeCause src = some k → s.pwr.vk < 16000 → s.srcWhole →
    ∃ t, exec .protClose s = .next t ∧ t.safe = { s.safe with req := none, lastSrc := src.code, refuse := k } ∧
      (t.fs 48).latch = true ∧ t.cha = s.cha ∧ t.chb = s.chb ∧ t.beat = s.beat ∧ t.meas = s.meas) ∧
  (∀ (s : State) (src : ReqSrc), s.beat.bStage = 0 → s.safe.req = some ⟨.close, src⟩ → 16000 ≤ s.pwr.vk →
    (s.pre.ctlA = .precharging ∨ s.pre.ctlB = .precharging) →
    exec .protClose s = .next { s with safe := { s.safe with req := none, lastSrc := src.code } }) ∧
  (∀ s : State, s.safe.req = none → exec .protClose s = .next s ∧ exec .safeAcknowledge s = .next s) ∧
  (∀ (s : State) (src : ReqSrc) (ch : Ch), s.beat.bStage = 0 → s.safe.req = some ⟨.openReq, src⟩ → s.pre.loss = false →
    s.runs ch = true → ((s.chan ch).seq.state = .closed ∨ (s.chan ch).seq.state = .rundown) →
    ∃ t, exec .protOpen s = .next t ∧ (t.chan ch).seq.state = .opening ∧
      (t.chan ch).seq.toSafe = ((s.chan ch).seq.state == .rundown) ∧ (t.chan ch).seq.o = 0 ∧
      (t.chan ch).seq.posOpen = false ∧ (t.chan ch).seq.cmd = (s.chan ch).seq.cmd ∧ t.safe.lastSrc = src.code ∧
      (s.reports ch = true → t.safe.result = 3) ∧ t.safe.req = none ∧ t.beat = s.beat ∧ t.cfg = s.cfg ∧ t.flt = s.flt ∧
      t.meas = s.meas ∧ t.ring = s.ring) ∧
  (∀ (s : State) (src : ReqSrc) (ch : Ch), s.beat.bStage = 0 → s.safe.req = some ⟨.openReq, src⟩ → s.pre.loss = false →
    s.runs ch = true → (s.chan ch).seq.state = .precharging →
    ∃ t, exec .protOpen s = .next t ∧ (t.chan ch).seq.state = .opening ∧ (t.chan ch).seq.toSafe = false ∧
      (t.chan ch).seq.posOpen = true ∧
      (∀ i, s.outRole (i + 1) = 2 ∨ s.outRole (i + 1) = 3 → (t.chan ch).seq.cmd[i]? = (s.chan ch).seq.cmd[i]?.map fun _ => false) ∧
      (∀ i, s.outRole (i + 1) ≠ 2 → s.outRole (i + 1) ≠ 3 → (t.chan ch).seq.cmd[i]? = (s.chan ch).seq.cmd[i]?) ∧
      (s.reports ch = true → t.safe.result = 2) ∧ t.safe.req = none ∧ t.beat = s.beat ∧ t.cfg = s.cfg ∧ t.flt = s.flt ∧
      t.meas = s.meas ∧ t.ring = s.ring) ∧
  (∀ (s : State) (src : ReqSrc), s.beat.bStage = 0 → s.safe.req = some ⟨.openReq, src⟩ → s.pre.loss = true →
    exec .protOpen s = .next { s with safe := { s.safe with req := none } }) ∧
  (∀ (s : State) (src : ReqSrc), s.beat.bStage = 0 → s.safe.req = some ⟨.ack, src⟩ → (src = .host ∨ src = .ring) →
    (s.cha.shownCond ||| s.chb.shownCond) &&& tripMask = 0 → s.cha.out.safeReq = false → s.chb.out.safeReq = false →
    s.cha.hitLast = false → s.chb.hitLast = false → s.cha.seq.state = .safe → s.chb.seq.state = .safe →
    exec .safeAcknowledge s = .next { s with
      cha := { s.cha with fast := false, seq := { s.cha.seq with state := .parked } }
      chb := { s.chb with fast := false, seq := { s.chb.seq with state := .parked } }
      safe := { s.safe with req := none, lastSrc := src.code, latched := false } }) ∧
  (∀ (s : State) (src : ReqSrc), s.beat.bStage = 0 → s.safe.req = some ⟨.ack, src⟩ → s.cha.seq.state = .safe →
    ((s.cha.shownCond ||| s.chb.shownCond) &&& tripMask ≠ 0 ∨ s.cha.out.safeReq = true ∨ s.chb.out.safeReq = true ∨
      s.cha.hitLast = true ∨ s.chb.hitLast = true ∨ (src ≠ .host ∧ src ≠ .ring)) →
    exec .safeAcknowledge s = .next { s with safe := { s.safe with req := none, lastSrc := src.code, refuse := 6 } })

/-- R306 and R353: the causes of a refused close request in the order of their numbers, each judged against the state before the
boundary; a split accepted at the same boundary refuses the close with cause 3; when every condition holds there is no cause, and
the request is accepted (Requests). -/
def Obligations.CloseCauses : Prop :=
∀ (s : State) (src : ReqSrc),
    ((s.pre.ctlA ≠ .parked ∨ s.pre.ctlB ≠ .parked) → s.closeCause src = some 1) ∧
    (s.pre.ctlA = .parked → s.pre.ctlB = .parked → s.starting = false →
      (s.pre.session = true → s.closeCause src = some 2) ∧
      (s.pre.session = false →
        ((s.pre.joinedA = false ∨ s.pre.joinedB = false) → s.closeCause src = some 3) ∧
        ((∃ r, s.core.req = some r ∧ (r.splitA = true ∨ r.splitB = true)) → s.closeCause src = some 3) ∧
        (s.pre.joinedA = true → s.pre.joinedB = true → s.pre.debug = false → s.core.req = none →
          s.core.a.pair = .joined → s.core.b.pair = .joined →
          ((s.pre.permitA = false ∨ s.pre.permitB = false) → s.closeCause src = some 4) ∧
          (s.closeCause src = none → 16000 ≤ s.pwr.vk ∧ s.pre.latched = false ∧ (s.hv 0).valid = true ∧
            16000 ≤ (s.hv 0).code ∧ s.srcEnabled src = true ∧ s.pre.safeReqA = false ∧ s.pre.safeReqB = false ∧
            s.pre.openReqA = false ∧ s.pre.openReqB = false ∧ s.pre.loss = false ∧ s.pre.trip = false) ∧
          (s.pre.permitA = true → s.pre.permitB = true → s.drives = true → s.ring.addrConflict = false → s.flt.rloop = false →
            s.cfg.image.isSome = true → s.cfg.copiesOk = true → (s.fs 28).cond = false →
            (s.pwr.vk < 16000 → s.closeCause src = some 5) ∧
            (16000 ≤ s.pwr.vk → s.pre.latched = true → s.closeCause src = some 6) ∧
            (16000 ≤ s.pwr.vk → s.pre.latched = false → (s.hv 0).valid = false ∨ (s.hv 0).code < 16000 →
              s.closeCause src = some 7) ∧
            (16000 ≤ s.pwr.vk → s.pre.latched = false → (s.hv 0).valid = true → 16000 ≤ (s.hv 0).code →
              (s.srcEnabled src = false → s.closeCause src = some 8) ∧
              (s.srcEnabled src = true → s.pre.trip = true ∨ s.pre.loss = true ∨ s.pre.safeReqA = true ∨
                s.pre.safeReqB = true ∨ s.pre.openReqA = true ∨ s.pre.openReqB = true → s.closeCause src = some 9) ∧
              (s.srcEnabled src = true → s.pre.trip = false → s.pre.loss = false → s.pre.safeReqA = false →
                s.pre.safeReqB = false → s.pre.openReqA = false → s.pre.openReqB = false → s.inputOpens .a = false →
                s.inputOpens .b = false → s.closeCause src = none))))))

/-- PRE_CLOSE, COMMIT_POINT, PRE_OPEN, PRECHARGE_COOL_END (R307, R309, R310): PRE closes T_PULLIN beats after NEG; at the commit
point POS closes, the state becomes Closed with RESULT 1 and CBEAT; PRE opens T_OVL beats later; after PC_COOL beats the pre-charge
restarts at step 1. Each holds in either channel. -/
def Obligations.PrechargeSteps : Prop :=
(∀ (s : State) (ch : Ch), s.beat.bStage = 0 → s.runs ch = true → (s.chan ch).seq.state = .precharging →
    (s.chan ch).seq.step = 1 → 1 + s.nat .T_PULLIN ≤ (s.chan ch).seq.c → (s.chan ch).seq.fail = false →
    ∃ t, exec .preClose s = .next t ∧ (t.chan ch).seq.step = 2 ∧ (t.chan ch).seq.e = 0 ∧
      (t.chan ch).seq.state = .precharging ∧ s.roleSet 2 true (s.chan ch).seq.cmd (t.chan ch).seq.cmd ∧
      (s.beat.hold = false → (t.chan ch).seq.app = (t.chan ch).seq.cmd) ∧
      t = { s with cha := t.cha, chb := t.chb, safe := t.safe }) ∧
  (∀ (s : State) (ch : Ch), s.beat.bStage = 0 → s.runs ch = true → (s.chan ch).seq.state = .precharging →
    (s.chan ch).seq.posCmd = true → s.openWanted ch = false → s.reports ch = true →
    ∃ t, exec .commitPoint s = .next t ∧ (t.chan ch).seq.state = .closed ∧ (t.chan ch).seq.step = 4 ∧
      (t.chan ch).seq.m = 0 ∧ s.roleSet 3 true (s.chan ch).seq.cmd (t.chan ch).seq.cmd ∧ t.safe.result = 1 ∧
      t.safe.cbeat = s.beat.num ∧ t.beat = s.beat ∧ t.cfg = s.cfg ∧ t.flt = s.flt ∧ t.meas = s.meas) ∧
  (∀ (s : State) (ch : Ch), s.beat.bStage = 0 → s.runs ch = true → (s.chan ch).seq.state = .closed →
    (s.chan ch).seq.step = 4 → s.nat .T_OVL ≤ (s.chan ch).seq.m →
    ∃ t, exec .preOpen s = .next t ∧ (t.chan ch).seq.step = 5 ∧ (t.chan ch).seq.state = .closed ∧
      s.roleSet 2 false (s.chan ch).seq.cmd (t.chan ch).seq.cmd ∧ t = { s with cha := t.cha, chb := t.chb, safe := t.safe }) ∧
  (∀ (s : State) (ch : Ch), s.beat.bStage = 0 → s.runs ch = true → (s.chan ch).seq.state = .precharging →
    (s.chan ch).seq.step = 6 → s.nat .PC_COOL ≤ (s.chan ch).seq.cool →
    ∃ t, exec .prechargeCoolEnd s = .next t ∧ (t.chan ch).seq.step = 1 ∧ (t.chan ch).seq.c = 0 ∧ (t.chan ch).seq.e = 0 ∧
      (t.chan ch).seq.cmd = (s.chan ch).seq.cmd ∧ t = { s with cha := t.cha, chb := t.chb, safe := t.safe })

/-- CURFREE_TIMEOUT, NEG_OPEN, RUNDOWN_WARNING, RUNDOWN_EXPIRY, MUTUAL_LOSS (R311, R312, R329, R331): POS and PRE open at
T_CURFREE; NEG opens T_NEG_DLY beats after POS and the weld check begins; a run-down warns 60 s before its end and then enters
Opening with target Safe; two channels that have declared each other lost both do. -/
def Obligations.OpeningSteps : Prop :=
(∀ (s : State) (ch : Ch), s.beat.bStage = 0 → s.runs ch = true → (s.chan ch).seq.state = .opening →
    (s.chan ch).seq.posOpen = false → s.nat .T_CURFREE ≤ (s.chan ch).seq.o →
    ∃ t, exec .curfreeTimeout s = .next t ∧ (t.chan ch).seq.posOpen = true ∧ (t.chan ch).seq.k = 0 ∧
      (∀ i, s.outRole (i + 1) = 2 ∨ s.outRole (i + 1) = 3 → (t.chan ch).seq.cmd[i]? = (s.chan ch).seq.cmd[i]?.map fun _ => false) ∧
      (∀ i, s.outRole (i + 1) ≠ 2 → s.outRole (i + 1) ≠ 3 → (t.chan ch).seq.cmd[i]? = (s.chan ch).seq.cmd[i]?) ∧
      t = { s with cha := t.cha, chb := t.chb, safe := t.safe }) ∧
  (∀ (s : State) (ch : Ch), s.beat.bStage = 0 → s.runs ch = true → (s.chan ch).seq.state = .opening →
    (s.chan ch).seq.posOpen = true → (s.chan ch).seq.w = none → s.nat .T_NEG_DLY ≤ (s.chan ch).seq.k →
    ∃ t, exec .negOpen s = .next t ∧ (t.chan ch).seq.w = some 0 ∧
      s.roleSet 1 false (s.chan ch).seq.cmd (t.chan ch).seq.cmd ∧ t = { s with cha := t.cha, chb := t.chb, safe := t.safe }) ∧
  (∀ (s : State) (ch : Ch), s.beat.bStage = 0 → s.runs ch = true → (s.chan ch).seq.state = .rundown →
    (s.chan ch).seq.rdWarned = false → beatsOfSec (s.nat .RUNDOWN_MAX) - 60000 ≤ (s.chan ch).seq.rd →
    ∃ t, exec .rundownWarning s = .next t ∧ (t.chan ch).seq.rdWarned = true ∧ (t.chan ch).seq.state = .rundown ∧
      (t.chan ch).seq.cmd = (s.chan ch).seq.cmd ∧ t = { s with cha := t.cha, chb := t.chb, safe := t.safe, log := t.log }) ∧
  (∀ (s : State) (ch : Ch), s.beat.bStage = 0 → s.runs ch = true → (s.chan ch).seq.state = .rundown →
    beatsOfSec (s.nat .RUNDOWN_MAX) ≤ (s.chan ch).seq.rd →
    ∃ t, exec .rundownExpiry s = .next t ∧ (t.chan ch).seq.state = .opening ∧ (t.chan ch).seq.toSafe = true ∧
      t.beat = s.beat ∧ t.cfg = s.cfg ∧ t.flt = s.flt ∧ t.meas = s.meas) ∧
  (∀ s : State, s.beat.bStage = 0 → s.cha.declared = true → s.chb.declared = true → s.cha.applied = true →
    s.chb.applied = true → s.safe.bothLost = false → s.cha.seq.state = .closed → s.chb.seq.state = .rundown →
    ∃ t, exec .mutualLoss s = .next t ∧ t.safe.bothLost = true ∧ t.cha.seq.state = .opening ∧ t.cha.seq.toSafe = true ∧
      t.chb.seq.state = .opening ∧ t.chb.seq.toSafe = true ∧ t.beat = s.beat ∧ t.cfg = s.cfg ∧ t.flt = s.flt)

/-- R33, R305 (log entry 8): a command that belongs to a boundary changes nothing once the boundary is over. -/
def Obligations.BoundaryOnly : Prop :=
∀ (s : State) (c : Instr), s.beat.bStage ≠ 0 →
    c ∈ [Instr.protClose, .protOpen, .safeAcknowledge, .preClose, .commitPoint, .preOpen, .prechargeCoolEnd, .curfreeTimeout,
      .negOpen, .mutualLoss, .rundownWarning, .rundownExpiry, .enterHoldover, .beatSourceLost, .sbOfsResync] ++
      (List.finRange 8).flatMap (fun n => [Instr.pullinEnd n, .holdLapse n .h, .holdLapse n .l]) ++
      [Instr.coreSplit .a, .coreSplit .b, .coreJoin .a, .coreJoin .b] →
    exec c s = .next s

/-- HOLD_LAPSE, PULLIN_END, COIL_OVERCURRENT, COIL_SUPPLY_LOW (R74, R316, R330): a lapsed side opens by itself; at the end of the
pull-in the economizer holds the output, and a coil below 20 mA on a side is a coil fault with FS73 that fails the closing; above 10 A both sides go off and the output stays locked open with FS73 raised; a VK
below 16.0 V with an output closed raises FS48 and commands no output. -/
def Obligations.OutputRows : Prop :=
(∀ (s : State) (n : Fin 8) (x : OutS), s.beat.bStage = 0 → s.safe.out[n.val]? = some x → x.h = true → s.runs .a = false →
    2 ≤ x.lapseH →
    ∃ t, exec (.holdLapse n .h) s = .next t ∧ t = { s with safe := { s.safe with out := t.safe.out } } ∧
      (t.safe.out[n.val]?.map (·.h)) = some false ∧ (∀ i, i ≠ n.val → t.safe.out[i]? = s.safe.out[i]?)) ∧
  (∀ (s : State) (n : Fin 8) (x : OutS), s.beat.bStage = 0 → s.safe.out[n.val]? = some x → x.l = true → s.runs .b = false →
    2 ≤ x.lapseL →
    ∃ t, exec (.holdLapse n .l) s = .next t ∧ t = { s with safe := { s.safe with out := t.safe.out } } ∧
      (t.safe.out[n.val]?.map (·.l)) = some false ∧ (∀ i, i ≠ n.val → t.safe.out[i]? = s.safe.out[i]?)) ∧
  (∀ (s : State) (n : Fin 8) (x : OutS), s.beat.bStage = 0 → s.safe.out[n.val]? = some x → x.pullDue = true →
    x.closed = true → s.nat .T_PULLIN ≤ x.since → 20 ≤ x.coil → 20 ≤ x.coilB →
    exec (.pullinEnd n) s = .next { s with safe := { s.safe with
      out := s.safe.out.set n.val { x with pullDue := false, eco := true } } }) ∧
  (∀ (s : State) (n : Fin 8) (x : OutS), s.beat.bStage = 0 → s.safe.out[n.val]? = some x → x.pullDue = true →
    x.closed = true → s.nat .T_PULLIN ≤ x.since → (x.coil < 20 ∨ x.coilB < 20) → s.srcWhole →
    ∃ t, exec (.pullinEnd n) s = .next t ∧
      t.safe.out = s.safe.out.set n.val { x with pullDue := false, eco := true, coilFault := true } ∧ (t.fs 73).latch = true ∧
      (x.coil < 20 → t.cha.coilFtc = true) ∧ (x.coilB < 20 → t.chb.coilFtc = true) ∧ t.meas = s.meas ∧ t.ring = s.ring) ∧
  (∀ (s : State) (n : Fin 8), s.safe.out.length = 8 → s.srcWhole →
    ∃ t x, exec (.coilOvercurrent n) s = .next t ∧ t.safe.out[n.val]? = some x ∧ x.locked = true ∧ x.coilFault = true ∧
      x.conducts = false ∧ (∀ i, i ≠ n.val → t.safe.out[i]? = s.safe.out[i]?) ∧ (t.fs 73).latch = true ∧
      (t.fs 73).cond = true ∧ t.cha = s.cha ∧ t.chb = s.chb ∧ t.beat = s.beat ∧ t.meas = s.meas) ∧
  (∀ s : State, s.pwr.vk < 16000 → (∃ x ∈ s.safe.out, x.closed = true) → s.safe.vkRaised = false → s.srcWhole →
    ∃ t, exec .coilSupplyLow s = .next t ∧ (t.fs 48).latch = true ∧
      t.safe = { s.safe with vkLow := true, vkRaised := true } ∧ t.cha = s.cha ∧ t.chb = s.chb ∧ t.beat = s.beat) ∧
  (∀ s : State, 16000 ≤ s.pwr.vk → exec .coilSupplyLow s = .next s)

/-- HOST_LOST, CHANNEL_LOSS, CROSS_COMPARISON, MONITOR_WORD_MISSING, CRYSTAL_FAILURE (R24, R321, R323, R328, R329, R377): three beats
without a host transaction set the host-lost input where supervision is on; three beats without a valid record declare the other
channel lost with FS6; a channel that holds both records of a beat compares them item by item, an item's count reaching its tolerance raises
FS5, an item inverted by an injection without FULL counts nowhere, and a beat without both records only counts the missing ones; a Monitor's third missing word sets measurement
lost; a failed crystal stops its die. -/
def Obligations.Supervision : Prop :=
(∀ s : State, s.on .HOST_SUP = true → 3 ≤ s.host.silent →
    exec .hostLost s = .next { s with safe := { s.safe with hostLost := true } }) ∧
  (∀ s : State, s.host.silent < 3 → exec .hostLost s = .next s) ∧
  (∀ (s : State) (ch : Ch), s.runs ch = true → 3 ≤ (s.chan ch).missing → (s.chan ch).declared = false → s.srcWhole →
    ∃ t, exec (.channelLoss ch) s = .next t ∧ (t.chan ch) = { s.chan ch with declared := true } ∧
      (t.chan ch.other) = (s.chan ch.other) ∧ (t.fs 6).latch = true ∧ (t.fs 6).cond = true ∧ t.beat = s.beat ∧
      t.safe = s.safe ∧ t.meas = s.meas) ∧
  (∀ (s : State) (ch : Ch), (s.chan ch).missing < 3 → exec (.channelLoss ch) s = .next s) ∧
  (∀ s : State, s.beat.running = true → 0 < s.beat.eStage → s.safe.x.done = false → s.runs .a = true → s.runs .b = true →
    ∃ t, exec (.crossComparison false false) s = .next t ∧
      t.cha = { s.cha with missing := incSat 3 s.cha.missing } ∧ t.chb = { s.chb with missing := incSat 3 s.chb.missing } ∧
      t.safe = { s.safe with x := { s.safe.x with done := true } } ∧ t.flt = s.flt ∧
      t.beat = { s.beat with offNs := max s.beat.offNs 980000 } ∧ t.meas = s.meas) ∧
  (∀ (s : State) (x y : XRec), s.beat.running = true → 0 < s.beat.eStage → s.safe.x.done = false → s.evals .a = true →
    s.evals .b = true → s.cha.declared = false → s.chb.declared = false → s.cha.post = some x → s.chb.post = some y →
    x.beat = s.beat.num → y.beat = s.beat.num → s.srcWhole → s.flt.injRun = none →
    ∃ t, exec (.crossComparison true true) s = .next t ∧ t.safe.x.done = true ∧
      (∀ i : Nat, t.safe.x.cnt[i]? = s.safe.x.cnt[i]?.map fun n => if (s.xItems x y)[i]?.getD false then n + 1 else 0) ∧
      (∀ i : Nat, t.safe.x.cntB[i]? = s.safe.x.cntB[i]?.map fun n => if (s.xItems x y)[i]?.getD false then n + 1 else 0) ∧
      ((∀ d ∈ s.xItems x y, d = false) → t.safe.x.present = false ∧ t.safe.x.diffCnt = s.safe.x.diffCnt ∧
        t.safe.x.xflt = s.safe.x.xflt ∧ (t.fs 5).cond = false) ∧
      (∀ (i n : Nat), (s.xItems x y)[i]? = some true → s.safe.x.cnt[i]? = some n → n + 1 = s.xTolerance s.blocks i →
        t.safe.x.xflt = true ∧ (t.fs 5).latch = true) ∧
      t.cha = { s.cha with missing := 0 } ∧ t.chb = { s.chb with missing := 0 } ∧ t.meas = s.meas ∧ t.safe.out = s.safe.out) ∧
  (∀ (s : State) (x y : XRec), s.beat.running = true → 0 < s.beat.eStage → s.safe.x.done = false → s.evals .a = true →
    s.evals .b = true → s.cha.declared = false → s.chb.declared = false → s.cha.post = some x → s.chb.post = some y →
    x.beat = s.beat.num → y.beat = s.beat.num → s.srcWhole → s.flt.injRun = none →
    ∃ t, exec (.crossComparison true false) s = .next t ∧ t.safe.x.cnt = s.safe.x.cnt ∧
      (∀ i : Nat, t.safe.x.cntB[i]? = s.safe.x.cntB[i]?.map fun n => if (s.xItems x y)[i]?.getD false then n + 1 else 0) ∧
      t.cha = { s.cha with missing := incSat 3 s.cha.missing } ∧ t.chb = { s.chb with missing := 0 }) ∧
  (∀ (s : State) (a b : Bool), s.safe.x.done = true → exec (.crossComparison a b) s = .next s) ∧
  (∀ (s : State) (x y : XRec) (k : Nat), s.beat.running = true → 0 < s.beat.eStage → s.safe.x.done = false → s.evals .a = true →
    s.evals .b = true → s.cha.declared = false → s.chb.declared = false → s.cha.post = some x → s.chb.post = some y →
    x.beat = s.beat.num → y.beat = s.beat.num → s.xInverted = some k → s.injFull = false →
    ∃ t, exec (.crossComparison true true) s = .next t ∧ t.safe.x.done = true ∧
      t.safe.x.cnt[k]? = s.safe.x.cnt[k]? ∧ t.safe.x.cntB[k]? = s.safe.x.cntB[k]? ∧
      (∀ i : Nat, i ≠ k → t.safe.x.cnt[i]? = s.safe.x.cnt[i]?.map fun n => if (s.xItems x y)[i]?.getD false then n + 1 else 0) ∧
      t.cha = { s.cha with missing := 0 } ∧ t.chb = { s.chb with missing := 0 } ∧ t.meas = s.meas ∧ t.safe.out = s.safe.out) ∧
  (∀ (s : State) (u : UnitS) (pos : BitVec 8), s.ring.roster = [u] → u.addr = uAddr (uStr s.addr) pos.toNat → 3 ≤ u.missA →
    u.lostA = false →
    exec (.monitorWordMissing pos .a) s = .next { s with ring := { s.ring with roster := [{ u with lostA := true }] } }) ∧
  (∀ (s : State) (u : UnitS) (pos : BitVec 8), s.ring.roster = [u] → u.addr = uAddr (uStr s.addr) pos.toNat → 3 ≤ u.missB →
    u.lostB = false →
    exec (.monitorWordMissing pos .b) s = .next { s with ring := { s.ring with roster := [{ u with lostB := true }] } }) ∧
  (∀ s : State, exec (.crystalFailure .b) s = .next { s with xtalB := false }) ∧
  (∀ s : State, s.fltShown = none → exec (.crystalFailure .a) s = .next { s with
    xtalA := false, fltShown := some { flt := s.flt, nflt := s.nflt, beat := s.beat.num } })

/-- TEST_PULSE, TEST_PULSE_END, INPUT_TEST_GAP (R334, R335, R336, R337): in sub-beat 15 the pulse of the beat starts on the side
and output of its slot when the output may be pulsed; a pulse that passes counts, a failed one is repeated, a second failure raises
FS49, an absorbed one is not judged; the gap's readings test every contact of both channels. The last clauses say when each command
of these completes, in the manual's own conditions. -/
def Obligations.TestPulses : Prop :=
(∀ (s : State) (n : Nat) (side : Side) (rep : Bool), s.beat.running = true → s.beat.sub = 15 → s.safe.tp.taken = false →
    s.safe.tp.pulse = none → s.pulseSlot = some (n, side, rep) → s.pulseOk n = true →
    ∃ t, exec .testPulse s = .next t ∧
      t.safe.tp.pulse = some { out := n, side := side, on := !s.cmdClosed (n - 1), again := rep } ∧ t.safe.tp.taken = true ∧
      t.safe.out = s.safe.out ∧ t.cha = s.cha ∧ t.chb = s.chb ∧ t.beat = { s.beat with offNs := max s.beat.offNs 937500 }) ∧
  (∀ s : State, s.beat.sub ≠ 15 → exec .testPulse s = .next s) ∧
  (∀ (s : State) (p : Pulse) (d : List (Level × Level)) (coil : Nat), s.safe.tp.pulse = some p → p.absorbed = false →
    p.passes d coil = true →
    ∃ t, exec (.testPulseEnd d coil true) s = .next t ∧
      t.safe = { s.safe with tp := { s.safe.tp with pulse := none, pass := incSat 255 s.safe.tp.pass } } ∧
      t = { s with safe := t.safe, sys := t.sys }) ∧
  (∀ (s : State) (p : Pulse) (d : List (Level × Level)) (coil : Nat), s.safe.tp.pulse = some p → p.absorbed = false →
    p.again = false →
    ∃ t, exec (.testPulseEnd d coil false) s = .next t ∧
      t.safe = { s.safe with tp := { s.safe.tp with pulse := none, again := some p } } ∧ t.flt = s.flt) ∧
  (∀ (s : State) (p : Pulse) (d : List (Level × Level)) (coil : Nat), s.safe.tp.pulse = some p → p.absorbed = false →
    p.again = true → s.srcWhole →
    ∃ t, exec (.testPulseEnd d coil false) s = .next t ∧ t.safe.tp.pulse = none ∧ (t.fs 49).latch = true ∧
      t.cha = s.cha ∧ t.chb = s.chb) ∧
  (∀ (s : State) (p : Pulse) (d : List (Level × Level)) (coil : Nat) (r : Bool), s.safe.tp.pulse = some p →
    p.absorbed = true →
    exec (.testPulseEnd d coil r) s = .next { s with safe := { s.safe with tp := { s.safe.tp with pulse := none } } }) ∧
  (∀ (s : State) (d : List (Level × Level)) (coil : Nat) (r : Bool), s.safe.tp.pulse = none →
    exec (.testPulseEnd d coil r) s = .next s) ∧
  (∀ s : State, s.beat.num.toNat % 100 = 0 → s.beat.sub = 5 → s.safe.gapDone = false → (∀ i < 8, s.inFunc i = 0) →
    ∀ v, exec (.inputTestGap .a v) s = .next { s with safe := { s.safe with gapDone := true } }) ∧
  (∀ (s : State) (v : BitVec 8), s.beat.num.toNat % 100 = 0 → s.beat.sub = 5 → s.safe.gapDone = false → s.runs .a = true →
    s.inFunc 0 ≠ 0 → (∀ i, 0 < i → i < 8 → s.inFunc i = 0) → v.toNat.testBit 0 = false →
    s.runs .b = false →
    ∃ t, exec (.inputTestGap .a v) s = .next t ∧ (∀ k, k ≠ 0 → k ≠ 16 → t.cha.tstFail[k]? = s.cha.tstFail[k]?) ∧
      t.cha.tstFail[0]? = s.cha.tstFail[0]?.map (fun _ => 0) ∧ t.safe.gapDone = true) ∧
  (∀ (s : State) (v : BitVec 8), s.beat.sub ≠ 5 → exec (.inputTestGap .a v) s = .next s) ∧
  (∀ (s : State) (n : Nat) (x : OutS), 1 ≤ n → n ≤ 8 → s.beat.running = true → s.beat.sub = 15 → s.safe.tp.taken = false →
    s.safe.tp.pulse = none → s.safe.tp.again = none → 14 < 1000 * s.nat .TP_PER →
    s.beat.num.toNat % (1000 * s.nat .TP_PER) = 2 * (n - 1) → s.upAndRunning = true → s.outRole n ≠ 0 →
    s.safe.out[n - 1]? = some x → x.locked = false → x.pullDue = false → s.runs .a = true → s.runs .b = true →
    s.cha.seq.app[n - 1]?.getD false = s.chb.seq.app[n - 1]?.getD false →
    (s.cmdClosed (n - 1) = true → x.rbH = .high ∧ x.rbL = .low) →
    (s.cmdClosed (n - 1) = false → x.rbH ≠ .high ∧ x.rbL ≠ .low) →
    exec .testPulse s = .next { s with
      beat := { s.beat with offNs := max s.beat.offNs 937500 }
      safe := { s.safe with tp :=
        { s.safe.tp with
          taken := true, out := n - 1, kind := !s.cmdClosed (n - 1)
          side := s.beat.num.toNat / (1000 * s.nat .TP_PER) % 2 == 1
          pulse := some { out := n, side := if s.beat.num.toNat / (1000 * s.nat .TP_PER) % 2 = 0 then .h else .l
                          on := !s.cmdClosed (n - 1), again := false } } } }) ∧
  (∀ (s : State) (p : Pulse) (x : OutS), s.beat.running = true → s.beat.sub = 15 → s.safe.tp.taken = false →
    s.safe.tp.pulse = none → s.safe.tp.again = some p → s.upAndRunning = true → s.outRole p.out ≠ 0 →
    s.safe.out[p.out - 1]? = some x → x.locked = false → x.pullDue = false → s.runs .a = true → s.runs .b = true →
    s.cha.seq.app[p.out - 1]?.getD false = s.chb.seq.app[p.out - 1]?.getD false →
    (s.cmdClosed (p.out - 1) = true → x.rbH = .high ∧ x.rbL = .low) →
    (s.cmdClosed (p.out - 1) = false → x.rbH ≠ .high ∧ x.rbL ≠ .low) →
    exec .testPulse s = .next { s with
      beat := { s.beat with offNs := max s.beat.offNs 937500 }
      safe := { s.safe with tp :=
        { s.safe.tp with
          taken := true, again := none, out := p.out - 1, kind := !s.cmdClosed (p.out - 1), side := p.side == .l
          pulse := some { out := p.out, side := p.side, on := !s.cmdClosed (p.out - 1), again := true } } } }) ∧
  (∀ (s : State) (p : Pulse) (d : List (Level × Level)) (coil : Nat), s.safe.tp.pulse = some p → p.absorbed = false →
    (p.on = false → (∀ r ∈ d.drop 25, if p.side = .h then r.1 ≠ .high else r.2 ≠ .low) ∧
      ∀ r ∈ d, if p.side = .h then r.2 = .low else r.1 = .high) →
    (p.on = true → coil < 50 ∧ ∀ r ∈ d.drop 25, if p.side = .h then r = (.high, .high) else r = (.low, .low)) →
    ∃ y, exec (.testPulseEnd d coil true) s = .next { s with
      safe := { s.safe with tp := { s.safe.tp with pulse := none, pass := incSat 255 s.safe.tp.pass } }
      sys := y }) ∧
  (∀ (s : State) (p : Pulse) (d : List (Level × Level)) (coil : Nat) (r : Level × Level), s.safe.tp.pulse = some p →
    p.absorbed = false → p.again = false →
    (p.on = false ∧ (r ∈ d.drop 25 ∧ (if p.side = .h then r.1 = .high else r.2 = .low) ∨
        r ∈ d ∧ (if p.side = .h then r.2 ≠ .low else r.1 ≠ .high)) ∨
      p.on = true ∧ (50 ≤ coil ∨ r ∈ d.drop 25 ∧ (if p.side = .h then r ≠ (.high, .high) else r ≠ (.low, .low)))) →
    ∃ y, exec (.testPulseEnd d coil true) s = .next { s with
      safe := { s.safe with tp := { s.safe.tp with pulse := none, again := some p } }
      sys := y }) ∧
  (∀ (s : State) (ch : Ch) (v : BitVec 8), s.beat.num.toNat % 100 = (if ch = .a then 0 else 50) → s.beat.sub = 5 →
    s.safe.gapDone = false →
    ∃ t, exec (.inputTestGap ch v) s = .next t ∧
      (∀ i < 8, s.inFunc i ≠ 0 → s.runs ch = true →
        (t.chan ch).tstFail[i]? = (s.chan ch).tstFail[i]?.map (fun n => if v.toNat.testBit i then n + 1 else 0) ∧
        (t.chan ch).tstFail[8 + i]? = (s.chan ch).tstFail[8 + i]? ∧
        (t.chan ch).tstFail[16 + i]? = (s.chan ch).tstFail[16 + i]?.map (fun n => if v.toNat.testBit i then n + 1 else 0)) ∧
      (∀ i < 8, s.inFunc i ≠ 0 → s.runs ch.other = true → (s.chan ch.other).raw.toNat.testBit i = true →
        (t.chan ch.other).tstFail[i]? = (s.chan ch.other).tstFail[i]? ∧
        (t.chan ch.other).tstFail[8 + i]? = (s.chan ch.other).tstFail[8 + i]?.map
          (fun n => if (s.chan ch.other).rawPrev.toNat.testBit i then 0 else n + 1) ∧
        (t.chan ch.other).tstFail[16 + i]? = (s.chan ch.other).tstFail[16 + i]?.map
          (fun n => if (s.chan ch.other).rawPrev.toNat.testBit i then 0 else n + 1)) ∧
      (∀ i < 8, s.inFunc i ≠ 0 → s.runs ch.other = true → (s.chan ch.other).raw.toNat.testBit i = false →
        ∀ k ∈ [i, 8 + i, 16 + i], (t.chan ch.other).tstFail[k]? = (s.chan ch.other).tstFail[k]?) ∧
      (∀ (c : Ch) (i : Nat), i < 8 → s.inFunc i = 0 ∨ s.runs c = false →
        (∀ k ∈ [i, 8 + i, 16 + i], (t.chan c).tstFail[k]? = (s.chan c).tstFail[k]?) ∧
        (t.chan c).tstBad[i]? = (s.chan c).tstBad[i]?) ∧
      (∀ (c : Ch) (i : Nat), i < 8 → s.inFunc i ≠ 0 → s.runs c = true → i < (s.chan c).tstBad.length →
        ((t.chan c).tstBad[i]? = some true ↔ (s.chan c).tstBad[i]? = some true ∨
          ∃ k ∈ [i, 8 + i, 16 + i], ∃ n, (t.chan c).tstFail[k]? = some n ∧ 2 ≤ n) ∧
        (s.srcWhole → (t.chan c).tstBad[i]? ≠ (s.chan c).tstBad[i]? → (t.fs 50).latch = true)) ∧
      t = { s with
        cha := { s.cha with tstFail := t.cha.tstFail, tstBad := t.cha.tstBad }
        chb := { s.chb with tstFail := t.chb.tstFail, tstBad := t.chb.tstBad }
        safe := { s.safe with gapDone := true }
        flt := t.flt, log := t.log, cfg := t.cfg, host := t.host, sys := t.sys })

/-- R262, R305 (log entry 8): a command for a stage of the evaluation runs the stages before it; a stage that has run is not run
again. -/
def Obligations.EvaluationOrder : Prop :=
(∀ (s : State) (k : Nat), s.evalOn = true → s.beat.bStage = 1 → k < s.beat.eStage →
    s.evalThrough k = { s with beat := { s.beat with offNs := max s.beat.offNs 850000 } }) ∧
  (∀ (s : State), s.evalOn = false →
    ∀ c ∈ [Instr.sumMismatch, .thermalEvaluation, .excursionOutOfRating, .swapDetected, .recordSelect, .emptyAnchor, .fullAnchor,
      .voltageAnchor, .anchorStarvation, .cycleCountStore, .protectionLevelChange, .failureToCloseCheck, .prechargeTimeout,
      .weldTimeout, .unrequestedOpening, .healthWarningClear, .evaluation 0 0], exec c s = .next s)

/-- FAILURE_TO_CLOSE_CHECK, PRECHARGE_TIMEOUT, WELD_TIMEOUT, UNREQUESTED_OPENING, MIRROR_CHECK (R307, R309, R312, R313, R314) at
their stages of the evaluation, in each channel that evaluates: a PRE check that fails sets failure to close, names the output and
ends the sequence with RESULT 4; a POS check that fails sets failure to close; a timeout counts a retry, or ends the sequence with
RESULT 6 when none is left; a weld check that has not passed by T_WELD sets weld without naming an output; a dropped coil sets
unrequested opening; a mirror that contradicts its output sets its condition, names the output and ends a pre-charge. -/
def Obligations.SequencerJudgements : Prop :=
(∀ (s : State) (ch : Ch), s.evalAt 27 → s.evals ch = true → (s.chan ch).seq.state = .precharging → (s.chan ch).seq.step = 2 →
    s.nat .T_PULLIN ≤ (s.chan ch).seq.e → (s.chan ch).seq.fail = false →
    ∃ t, exec .failureToCloseCheck s = .next t ∧ t.beat.eStage = 28 ∧
      (s.share ch 2 900 = true → t.chan ch = { s.chan ch with seq := { (s.chan ch).seq with step := 3 } }) ∧
      (s.share ch 2 900 = false → (t.chan ch).ftc = true ∧ (t.chan ch).ftcOut = s.outOfRole 2 ∧ (t.chan ch).seq.fail = true ∧
        (t.chan ch).seq.failRes = 4) ∧
      (s.evals ch.other = false → t.chan ch.other = s.chan ch.other) ∧ t.flt = s.flt ∧ t.meas = s.meas ∧ t.cfg = s.cfg) ∧
  (∀ (s : State) (ch : Ch), s.evalAt 27 → s.evals ch = true → (s.chan ch).seq.state = .closed →
    (s.chan ch).seq.m = s.nat .T_OVL + s.nat .T_FTC →
    ∃ t, exec .failureToCloseCheck s = .next t ∧ t.beat.eStage = 28 ∧ (t.chan ch).seq = { (s.chan ch).seq with step := 0 } ∧
      (t.chan ch).ftc = ((s.chan ch).ftc || !s.share ch 1 (s.par .PC_PCT)) ∧
      (s.share ch 1 (s.par .PC_PCT) = false → (t.chan ch).ftcOut = s.outOfRole 3) ∧
      t.flt = s.flt ∧ t.meas = s.meas ∧ t.cfg = s.cfg) ∧
  (∀ (s : State) (ch : Ch), s.evalAt 29 → s.evals ch = true → (s.chan ch).seq.state = .precharging → (s.chan ch).seq.step = 3 →
    (s.chan ch).seq.fail = false → (s.chan ch).seq.timedOut = false → (s.chan ch).seq.posCmd = false →
    (s.chan ch).seq.crit = false → s.nat .PC_TMAX ≤ (s.chan ch).seq.e →
    ∃ t, exec .prechargeTimeout s = .next t ∧ t.beat.eStage = 30 ∧
      ((s.chan ch).seq.retry < s.nat .PC_RETRY → t.chan ch = { s.chan ch with
        seq := { (s.chan ch).seq with timedOut := true, retry := (s.chan ch).seq.retry + 1 } }) ∧
      (s.nat .PC_RETRY ≤ (s.chan ch).seq.retry → (t.chan ch).timeout = true ∧ (t.chan ch).seq.fail = true ∧
        (t.chan ch).seq.failRes = 6) ∧
      (s.reports ch = true → t.safe.pct = (s.chan ch).seq.e) ∧
      (s.evals ch.other = false → t.chan ch.other = s.chan ch.other) ∧ t.flt = s.flt ∧ t.meas = s.meas) ∧
  (∀ (s : State) (ch : Ch) (w : Nat), s.evalAt 31 → s.evals ch = true → (s.chan ch).seq.w = some w → s.nat .T_WELD ≤ w →
    (s.chan ch).seq.weldDone = false →
    ∃ t, exec .weldTimeout s = .next t ∧
      t.chan ch = { s.chan ch with weld := true, weldOut := 0, seq := { (s.chan ch).seq with weldDone := true } } ∧
      (s.evals ch.other = false → t.chan ch.other = s.chan ch.other) ∧
      t = { s with beat := { s.beat with offNs := max s.beat.offNs 850000, eStage := 32 }, cha := t.cha, chb := t.chb }) ∧
  (∀ (s : State) (ch : Ch) (n : Fin 8) (x : OutS), s.evalAt 33 → s.evals ch = true →
    ((s.chan ch).seq.state = .closed ∨ (s.chan ch).seq.state = .rundown) → (s.chan ch).unreq = false →
    s.safe.out[n.val]? = some x → (s.outRole (n.val + 1) = 1 ∨ s.outRole (n.val + 1) = 3) →
    (s.chan ch).seq.app[n.val]? = some true → 3 ≤ x.lowOn ch →
    ∃ t, exec .unrequestedOpening s = .next t ∧ (t.chan ch).unreq = true ∧ (t.chan ch).seq = (s.chan ch).seq ∧
      t = { s with beat := { s.beat with offNs := max s.beat.offNs 850000, eStage := 34 }, cha := t.cha, chb := t.chb, safe := { s.safe with latch := t.safe.latch } }) ∧
  (∀ (s : State) (ch : Ch) (n : Fin 8), s.evalAt 32 → s.evals ch = true → s.drives = true →
    (s.chan ch).seq.state ≠ .precharging → s.mirrorFtc ch (n.val + 1) = true →
    ∃ t, exec (.mirrorCheck n) s = .next t ∧ (t.chan ch).mirFtc = true ∧ (t.chan ch).ftcOut = n.val + 1 ∧
      (t.chan ch).seq = (s.chan ch).seq ∧ (s.evals ch.other = false → t.chan ch.other = s.chan ch.other) ∧ t.flt = s.flt ∧
      t.beat = { s.beat with offNs := max s.beat.offNs 850000 }) ∧
  (∀ (s : State) (ch : Ch) (n : Fin 8), s.evalAt 32 → s.evals ch = true → s.drives = true →
    (s.chan ch).seq.state = .precharging → (s.chan ch).seq.fail = false → s.mirrorFtc ch (n.val + 1) = true →
    ∃ t, exec (.mirrorCheck n) s = .next t ∧ (t.chan ch).mirFtc = true ∧ (t.chan ch).ftcOut = n.val + 1 ∧
      (t.chan ch).seq.fail = true ∧ (t.chan ch).seq.failRes = 4 ∧ t.flt = s.flt ∧
      t.beat = { s.beat with offNs := max s.beat.offNs 850000 }) ∧
  (∀ (s : State) (ch : Ch) (n : Fin 8), s.evalAt 32 → s.evals ch = true → s.drives = true →
    s.mirrorWeld ch (n.val + 1) = true →
    ∃ t, exec (.mirrorCheck n) s = .next t ∧ (t.chan ch).mirWeld = true ∧ (t.chan ch).weldOut = n.val + 1 ∧
      t.flt = s.flt ∧ t.beat = { s.beat with offNs := max s.beat.offNs 850000 })

/-- FULL_ANCHOR, EMPTY_ANCHOR, VOLTAGE_ANCHOR (R257, R258, R259, R260, R261, R264): at its stage an anchor that is due sets the count
to the capacity, to 0, or to the share that SOC_V gives, takes its own uncertainty, clears the accumulated uncertainty, CONFLICT,
STARVED, UNANCH and the anchor age, and counts one for EST_ANCNT; a full anchor after an empty one, and an empty one after a full
one, learns the capacity first where the measured one lies from half to six fifths of CAP_NOM_U; an anchor after another of the same
beat changes nothing but the stage.

R258: the empty counter advances in a beat when VMINC is at or below V_EMPTY, and otherwise returns to 0; it stands still while
the counters do (R256). -/
def Obligations.Anchors : Prop :=
  (∀ s : State, s.evalAt 14 → s.evals .a = true → s.countersRun = true → s.chg.anchored = false →
    beatsOfSec (s.nat .T_TAPER) ≤ s.chg.acc.taper →
    ∃ t, exec .fullAnchor s = .next t ∧ t.chg.acc.qc = t.chg.acc.capU ∧ t.chg.acc.ua = s.par .U_FULL ∧
      t.chg.acc.uqc = 0 ∧ t.chg.acc.age = 0 ∧ t.chg.acc.conflict = false ∧ t.chg.acc.starved = false ∧
      t.chg.acc.unanch = false ∧ t.chg.acc.anchType = 1 ∧ t.chg.acc.taper = 0 ∧ t.chg.acc.learn = true ∧
      t.chg.acc.learnFull = true ∧ t.chg.anchored = true ∧ t.chg.hold[2]? = s.chg.hold[2]?.map (· + 1) ∧
      ((s.chg.acc.learn = false ∨ s.chg.acc.learnFull = true) → t.chg.acc.capU = s.chg.acc.capU) ∧
      (s.chg.acc.learn = true → s.chg.acc.learnFull = false → divRnd s.capNomU 2 ≤ s.chg.acc.qc →
        s.chg.acc.qc ≤ divRnd (s.capNomU * 6) 5 →
        t.chg.acc.capU = s.chg.acc.capU + divRnd ((s.chg.acc.qc - s.chg.acc.capU) * s.par .CAP_ALPHA) 256) ∧
      t.beat.eStage = 15 ∧ t.meas = s.meas ∧ t.cha = s.cha ∧ t.chb = s.chb ∧ t.safe = s.safe ∧ t.cfg = s.cfg) ∧
  (∀ s : State, s.evalAt 13 → s.evals .a = true → s.countersRun = true → s.chg.anchored = false →
    beatsOfSec (s.nat .T_EMPTY) ≤ s.chg.acc.empty →
    ∃ t, exec .emptyAnchor s = .next t ∧ t.chg.acc.qc = 0 ∧ t.chg.acc.ua = s.par .U_EMPTY ∧ t.chg.acc.uqc = 0 ∧
      t.chg.acc.age = 0 ∧ t.chg.acc.conflict = false ∧ t.chg.acc.starved = false ∧ t.chg.acc.unanch = false ∧
      t.chg.acc.anchType = 2 ∧ t.chg.acc.learn = true ∧ t.chg.acc.learnFull = false ∧ t.chg.anchored = true ∧
      t.chg.hold[1]? = s.chg.hold[1]?.map (· + 1) ∧ t.chg.acc.empty = s.chg.acc.empty ∧
      ((s.chg.acc.learn = false ∨ s.chg.acc.learnFull = false) → t.chg.acc.capU = s.chg.acc.capU) ∧
      (s.chg.acc.learn = true → s.chg.acc.learnFull = true → divRnd s.capNomU 2 ≤ s.chg.acc.capU - s.chg.acc.qc →
        s.chg.acc.capU - s.chg.acc.qc ≤ divRnd (s.capNomU * 6) 5 →
        t.chg.acc.capU = s.chg.acc.capU + divRnd (((s.chg.acc.capU - s.chg.acc.qc) - s.chg.acc.capU) * s.par .CAP_ALPHA) 256) ∧
      t.beat.eStage = 14 ∧ t.meas = s.meas ∧ t.cha = s.cha ∧ t.chb = s.chb ∧ t.safe = s.safe ∧ t.cfg = s.cfg) ∧
  (∀ s : State, s.evalAt 15 → s.evals .a = true → s.countersRun = true → s.chg.anchored = false →
    (beatsOfSec (s.nat .T_REST) ≤ s.chg.acc.rest ∨ beatsOfSec (s.nat .VA_TIME) ≤ s.chg.acc.confCnt) →
    (s.chg.acc.conflict = true ∨ s.par .U_VA < s.chg.acc.bound) →
    ∃ t, exec .voltageAnchor s = .next t ∧ t.chg.acc.qc = divRnd (s.chg.acc.socV * s.chg.acc.capU) 100000 ∧
      t.chg.acc.ua = s.par .U_VA ∧ t.chg.acc.uqc = 0 ∧ t.chg.acc.age = 0 ∧ t.chg.acc.conflict = false ∧
      t.chg.acc.starved = false ∧ t.chg.acc.unanch = false ∧ t.chg.acc.learn = false ∧
      t.chg.acc.capU = s.chg.acc.capU ∧ t.chg.acc.rest = 0 ∧ t.chg.acc.confCnt = 0 ∧ t.chg.acc.anchType = 3 ∧
      t.chg.anchored = true ∧ t.chg.hold[0]? = s.chg.hold[0]?.map (· + 1) ∧ t.beat.eStage = 16 ∧ t.meas = s.meas ∧
      t.cha = s.cha ∧ t.chb = s.chb ∧ t.safe = s.safe ∧ t.cfg = s.cfg) ∧
  (∀ (s : State) (k : Nat) (c : Instr), (k, c) ∈ [(13, Instr.emptyAnchor), (14, .fullAnchor), (15, .voltageAnchor)] →
    s.evalAt k → s.chg.anchored = true →
    exec c s = .next { s with beat := { s.beat with offNs := max s.beat.offNs 850000, eStage := k + 1 } }) ∧
  (∀ s : State, s.countersRun = true → s.chg.acc.vmin.code ≤ s.par .V_EMPTY →
    s.accCounters.chg.acc.empty = min (1000 * s.nat .T_EMPTY) (s.chg.acc.empty + 1)) ∧
  (∀ s : State, s.countersRun = true → s.par .V_EMPTY < s.chg.acc.vmin.code → s.accCounters.chg.acc.empty = 0) ∧
  (∀ s : State, s.countersRun = false → s.accCounters = s)

/-- ANCHOR_STARVATION, CYCLE_COUNT_STORE, SWAP_DETECTED, RECORD_SELECT, HEALTH_WARNING_CLEAR, CADENCE_CHANGE (R266, R267, R272, R273,
R274, R275, R293, R493): the anchor age at T_STARVE sets STARVED and raises FS54; the cycle count goes into the record every 1,000
evaluations; three other codes or 2,000 beats of open thermistors are a swap and suspend counting; the selected record comes into
force: record 0 without ID, the one with the code, else the lowest empty one (for a current unit elsewhere ID and its code are free
values: log entry 71); a warning clears after 10,000 good
beats; a cadence decision takes effect at the boundary it names, and slow cadence is Idle. -/
def Obligations.Accounting : Prop :=
(∀ s : State, s.evalAt 17 → s.evals .a = true → s.accounting = true → s.chg.acc.starved = false →
    3600000 * s.nat .T_STARVE ≤ s.chg.acc.age → s.srcWhole →
    ∃ t, exec .anchorStarvation s = .next t ∧ t.chg.acc = { s.chg.acc with starved := true } ∧ (t.fs 54).latch = true ∧
      (t.fs 54).cond = true ∧ t.beat.eStage = 18 ∧ t.meas = s.meas ∧ t.cha = s.cha ∧ t.chb = s.chb) ∧
  (∀ (s : State) (r : Nat) (x : IdRec), s.evalAt 19 → s.evals .a = true → s.accounting = true → 1000 ≤ s.chg.cycEval →
    s.chg.inForce = some r → s.chg.recs[r]? = some x →
    exec .cycleCountStore s = .next { s with
      beat := { s.beat with offNs := max s.beat.offNs 850000, eStage := 20 }
      chg := { s.chg with cycEval := 0
                          recs := s.chg.recs.set r { x with cyc := s.chg.acc.cyc, cycRem := s.chg.acc.cycRem } } }) ∧
  (∀ s : State, s.evalAt 10 → s.evals .a = true → s.accounting = true →
    (s.on .ID_EN = true ∧ s.currentUnit = true ∧ 3 ≤ s.chg.idDiff ∨ 2000 ≤ s.chg.openBeats) →
    ∃ t, exec .swapDetected s = .next t ∧ t.chg.swapPend = true ∧ t.accounting = false ∧ t.chg.idDiff = 0 ∧
      t.chg.openBeats = 0 ∧ t.chg.okConv = 0 ∧ t.chg.acc = s.chg.acc ∧ t.beat.eStage = 11 ∧ t.meas = s.meas ∧ t.cha = s.cha ∧
      t.chb = s.chb) ∧
  (∀ s : State, s.evalAt 10 → s.evals .a = true → s.chg.idDiff < 3 → s.chg.openBeats < 2000 →
    exec .swapDetected s = .next { s with beat := { s.beat with offNs := max s.beat.offNs 850000, eStage := 11 } }) ∧
  (∀ s : State, s.evalAt 11 → s.evals .a = true → s.master = true → (s.chg.inForce = none ∨ s.chg.swapPend = true) →
    3 ≤ s.chg.okConv → s.on .ID_EN = false → s.currentUnit = true →
    ∃ t, exec .recordSelect s = .next t ∧ t.chg.inForce = some 0 ∧ t.chg.swapPend = false ∧ t.chg.okConv = 0 ∧
      t.chg.acc.ua = 100000 ∧ t.chg.acc.unanch = true ∧ t.chg.acc.needQc = true ∧ t.beat.eStage = 12 ∧ t.meas = s.meas ∧
      t.cha = s.cha ∧ t.chb = s.chb) ∧
  (∀ (s : State) (k : Nat) (c : Ckpt), s.evalAt 11 → s.evals .a = true → s.master = true →
    (s.chg.inForce = none ∨ s.chg.swapPend = true) → 3 ≤ s.chg.okConv → s.on .ID_EN = true → s.currentUnit = true → k < 8 →
    (s.recAt k).used = true → (s.recAt k).code = s.chg.idCode →
    (∀ j < k, (s.recAt j).used = false ∨ (s.recAt j).code ≠ s.chg.idCode) →
    (s.recAt k).lsb1 = s.lsb1 → (s.recAt k).governing = some c →
    ∃ t, exec .recordSelect s = .next t ∧ t.chg.inForce = some k ∧ t.chg.swapPend = false ∧ t.chg.okConv = 0 ∧
      t.chg.acc.qc = c.qc ∧ t.chg.acc.uqc = c.uqc ∧ t.chg.acc.capU = (s.recAt k).capU ∧ t.chg.acc.cyc = (s.recAt k).cyc ∧
      t.chg.acc.ua = c.ua + s.par .U_SWAP ∧ t.chg.acc.learn = false ∧ t.beat.eStage = 12 ∧ t.meas = s.meas ∧ t.cha = s.cha ∧
      t.chb = s.chb) ∧
  (∀ (s : State) (k : Nat), s.evalAt 11 → s.evals .a = true → s.master = true →
    (s.chg.inForce = none ∨ s.chg.swapPend = true) → 3 ≤ s.chg.okConv → s.on .ID_EN = true → s.currentUnit = true → k < 8 →
    (∀ j < 8, (s.recAt j).used = false ∨ (s.recAt j).code ≠ s.chg.idCode) → (s.recAt k).used = false →
    (∀ j < k, (s.recAt j).used = true) →
    ∃ t, exec .recordSelect s = .next t ∧ t.chg.inForce = some k ∧ t.chg.swapPend = false ∧ t.chg.acc.capU = s.capNomU ∧
      t.chg.acc.ua = 100000 ∧ t.chg.acc.unanch = true ∧ t.beat.eStage = 12 ∧ t.meas = s.meas ∧ t.cha = s.cha ∧ t.chb = s.chb) ∧
  (∀ s : State, s.evalAt 11 → s.evals .a = true → s.master = true → (s.chg.inForce = none ∨ s.chg.swapPend = true) →
    3 ≤ s.chg.okConv → s.currentUnit = false →
    ∃ t, exec .recordSelect s = .next t ∧ t.chg.swapPend = false ∧ t.chg.okConv = 0 ∧ t.beat.eStage = 12 ∧
      (Config.remoteIdEn s.addr = false → t.chg.inForce = some 0 ∧ t.chg.acc.ua = 100000 ∧ t.chg.acc.unanch = true) ∧
      (∀ k < 8, Config.remoteIdEn s.addr = true → (s.recAt k).used = true → (s.recAt k).code = s.chg.idCode →
        (∀ j < k, (s.recAt j).used = false ∨ (s.recAt j).code ≠ s.chg.idCode) → t.chg.inForce = some k) ∧
      t.meas = s.meas ∧ t.cha = s.cha ∧ t.chb = s.chb) ∧
  (∀ s : State, s.evalAt 10 → s.evals .a = true → s.accounting = true → s.currentUnit = false → 3 ≤ s.chg.idDiff →
    ∃ t, exec .swapDetected s = .next t ∧ (Config.remoteIdEn s.addr = true → t.chg.swapPend = true ∧ t.chg.idDiff = 0) ∧
      t.chg.acc = s.chg.acc ∧ t.beat.eStage = 11 ∧ t.meas = s.meas ∧ t.cha = s.cha ∧ t.chb = s.chb) ∧
  (∀ s : State, s.evalAt 11 → s.evals .a = true → s.chg.okConv < 3 →
    exec .recordSelect s = .next { s with beat := { s.beat with offNs := max s.beat.offNs 850000, eStage := 12 } }) ∧
  (∀ s : State, s.evalAt 35 → s.evals .a = true → s.lim.sohRWarn = true → s.lim.sohROk = 10000 → s.lim.sohCWarn = false →
    exec .healthWarningClear s = .next { s with
      beat := { s.beat with offNs := max s.beat.offNs 850000, eStage := 36 }
      lim := { s.lim with sohRWarn := false } }) ∧
  (∀ s : State, s.evalAt 35 → s.evals .a = true → s.lim.sohCWarn = true → s.lim.sohCOk = 10000 → s.lim.sohRWarn = false →
    exec .healthWarningClear s = .next { s with
      beat := { s.beat with offNs := max s.beat.offNs 850000, eStage := 36 }
      lim := { s.lim with sohCWarn := false } }) ∧
  (∀ (s : State) (n : Word) (v : Bool) (l : List (Word × Bool)), s.chg.slowPend = (n, v) :: l →
    (s.beat.num - n).toNat < 2 ^ 31 → (s.pwr.state = .active ∨ s.pwr.state = .idle) →
    exec .cadenceChange s = .next { s with
      chg := { s.chg with slowPend := l, slow := v }
      pwr := { s.pwr with idleBeats := 0, state := if v then .idle else .active } }) ∧
  (∀ (s : State) (n : Word) (v : Bool) (l : List (Word × Bool)), s.chg.slowPend = (n, v) :: l →
    2 ^ 31 ≤ (s.beat.num - n).toNat → exec .cadenceChange s = .next s) ∧
  (∀ s : State, s.chg.slowPend = [] → exec .cadenceChange s = .next s)

/-- PROTECTION_LEVEL_CHANGE, INPUT_CHANGE, INPUT_DISCREPANCY (R299, R317, R338) at their stages of the evaluation: every level
function of both channels runs once; a contact that has differed for IN_DEB beats changes its debounced state in its own channel;
contacts that have differed for IN_DISC beats set DISC and raise FS51. -/
def Obligations.LevelsAndInputs : Prop :=
(∀ s : State, s.evalAt 21 → s.evals .a = true → s.evals .b = false → (∀ i < 8, s.inDeb i > s.cha.inCnt[i]?.getD 0) →
    (∀ i < 8, s.inDeb i > s.chb.inCnt[i]?.getD 0) → s.safe.disc = List.replicate 8 false →
    ∃ t, exec .protectionLevelChange s = .next t ∧ t.beat.eStage = 22 ∧
      t.cha.cells = (indexed s.cha.cells).map (fun x => s.cellLevels .a (x.1 + 1) x.2) ∧ t.chb = s.chb ∧
      t.cha.seq = s.cha.seq ∧ t.cha.inp = s.cha.inp ∧ t.flt = s.flt ∧ t.cfg = s.cfg) ∧
  (∀ (s : State) (i : Fin 8) (ch : Ch), s.evalAt 21 → s.inDeb i ≤ (s.chan ch).inCnt[i.val]?.getD 0 →
    exec (.inputChange i ch) s = .next { s.setChan ch (fun c => { c with
        inp := c.inp.set i (c.raw.toNat.testBit i), inCnt := c.inCnt.set i 0 }) with
      beat := { s.beat with offNs := max s.beat.offNs 850000 } }) ∧
  (∀ (s : State) (i : Fin 8) (ch : Ch), s.evalAt 21 → (s.chan ch).inCnt[i.val]?.getD 0 < s.inDeb i →
    exec (.inputChange i ch) s = .next { s with beat := { s.beat with offNs := max s.beat.offNs 850000 } }) ∧
  (∀ (s : State) (i : Fin 8), s.evalAt 22 → s.nat .IN_DISC ≤ s.safe.discCnt[i.val]?.getD 0 → 0 < s.safe.discCnt[i.val]?.getD 0 →
    s.safe.disc[i.val]? = some false → s.srcWhole →
    ∃ t, exec (.inputDiscrepancy i) s = .next t ∧ t.safe.disc[i.val]? = some true ∧
      (∀ j, j ≠ i.val → t.safe.disc[j]? = s.safe.disc[j]?) ∧ (t.fs 51).latch = true ∧ (t.fs 51).cond = true ∧
      t.cha = s.cha ∧ t.chb = s.chb ∧ t.meas = s.meas)

/-- R299: a level function sets when its value has crossed in DEB consecutive runs, a run that does not cross starts the count
anew, and a function that is set clears only beyond the hysteresis. -/
def Obligations.LevelFunction : Prop :=
(∀ (l : Lv) (x thr hys : Int) (deb : Nat), l.st = false → x < thr → l.hi x thr hys deb = { cnt := 0, st := false }) ∧
  (∀ (l : Lv) (x thr hys : Int) (deb : Nat), l.st = false → thr ≤ x → deb ≤ l.cnt + 1 →
    l.hi x thr hys deb = { cnt := 0, st := true }) ∧
  (∀ (l : Lv) (x thr hys : Int) (deb : Nat), l.st = false → thr ≤ x → l.cnt + 1 < deb →
    l.hi x thr hys deb = { cnt := l.cnt + 1, st := false }) ∧
  (∀ (l : Lv) (x thr hys : Int) (deb : Nat), l.st = true → thr - hys ≤ x → (l.hi x thr hys deb).st = true) ∧
  (∀ (x thr hys : Int) (deb : Nat), thr ≤ x → 1 ≤ deb →
    (Nat.iterate (fun l : Lv => l.hi x thr hys deb) deb {}).st = true ∧
    ∀ k < deb, (Nat.iterate (fun l : Lv => l.hi x thr hys deb) k {}).st = false) ∧
  (∀ (l : Lv) (x thr hys : Int) (deb : Nat), l.lo x thr hys deb = l.hi (-x) (-thr) hys deb)

/-- THERMAL_EVALUATION and EXCURSION_OUT_OF_RATING (R382, R383, R384, R385, R387, R388) at their stages: in a qualifying beat every
group takes its next state and a temperature within 5 K of a level selects the fast period; an LX reading above 85.00 °C starts an
excursion, one at or below 82.00 °C ends it; one longer than 600,000 beats, or begun within 3,600,000 beats of the last, is out of
rating with FS67, in an NM96-TA any is. -/
def Obligations.Thermal : Prop :=
(∀ s : State, s.evalAt 7 → s.evals .a = true → s.beat.num.toNat % 10 = 9 →
    (s.thm.fast = true ∨ s.beat.num.toNat % 100 = 99) → s.thm.exc = none →
    ∃ t, exec .thermalEvaluation s = .next t ∧ t.beat.eStage = 8 ∧
      (∀ (g : Nat) (x : GrpS), s.thm.grp[g]? = some x → t.thm.grp[g]? = some (s.groupNext g x)) ∧
      (t.thm.fast = true ↔ ∃ g < 6, s.nearLevel g = true) ∧
      t.thm.exc = (if 8500 < s.lx then some (0, s.lx) else none) ∧
      t.thm.excCnt = (if 8500 < s.lx then incSat 65535 s.thm.excCnt else s.thm.excCnt) ∧
      t.meas = s.meas ∧ t.cha = s.cha ∧ t.chb = s.chb ∧ t.bal = s.bal) ∧
  (∀ (s : State) (n : Nat) (hi : Int), s.evalAt 7 → s.evals .a = true → s.beat.num.toNat % 10 = 9 →
    (s.thm.fast = true ∨ s.beat.num.toNat % 100 = 99) → s.thm.exc = some (n, hi) →
    ∃ t, exec .thermalEvaluation s = .next t ∧ t.beat.eStage = 8 ∧
      t.thm.exc = (if s.lx ≤ 8200 then none else some (n, max hi s.lx)) ∧ (s.lx ≤ 8200 → t.thm.excLen = n) ∧
      t.meas = s.meas ∧ t.cha = s.cha ∧ t.chb = s.chb ∧ t.bal = s.bal) ∧
  (∀ (s : State) (g : Nat) (x : GrpS), s.groupTemp g = none →
    s.groupNext g x = { x with noSens := true, state := 2, temp := -32768 }) ∧
  (∀ (s : State) (g k : Nat) (v : Int) (x : GrpS), s.groupTemp g = some (k, v) →
    (s.groupNext g x).temp = v ∧ (s.groupNext g x).sens = k ∧
    (s.par .TS_g g ≤ v → (s.groupNext g x).state = 3) ∧
    (v < s.par .TS_g g → s.par .TS_g g - s.par .HYS_g g ≤ v → x.ts = true → (s.groupNext g x).state = 3) ∧
    (v < s.par .TS_g g → v < s.par .TS_g g - s.par .HYS_g g → s.par .TT_g g ≤ v → (s.groupNext g x).state = 2) ∧
    (v < s.par .TS_g g → v < s.par .TS_g g - s.par .HYS_g g → v < s.par .TT_g g → v < s.par .TT_g g - s.par .HYS_g g →
      s.par .TW_g g ≤ v → (s.groupNext g x).state = 1) ∧
    (v < s.par .TS_g g → v < s.par .TS_g g - s.par .HYS_g g → v < s.par .TT_g g → v < s.par .TT_g g - s.par .HYS_g g →
      v < s.par .TW_g g → v < s.par .TW_g g - s.par .HYS_g g → (s.groupNext g x).state = 0)) ∧
  (∀ s : State, s.evalAt 7 → (s.beat.num.toNat % 10 ≠ 9 ∨ (s.thm.fast = false ∧ s.beat.num.toNat % 100 ≠ 99)) →
    exec .thermalEvaluation s = .next { s with beat := { s.beat with offNs := max s.beat.offNs 850000, eStage := 8 } }) ∧
  (∀ (s : State) (n : Nat) (hi : Int), s.evalAt 8 → s.evals .a = true → s.thm.exc = some (n, hi) → s.thm.oorThis = false →
    (s.sys.order = 0 ∨ 600000 < n ∨ ∃ k, s.thm.sinceEnd = some k ∧ k < 3600000) → s.srcWhole →
    ∃ t, exec .excursionOutOfRating s = .next t ∧ t.thm = { s.thm with oor := true, oorThis := true } ∧
      (t.fs 67).latch = true ∧ (t.fs 67).cond = true ∧ t.beat.eStage = 9 ∧ t.meas = s.meas ∧ t.cha = s.cha ∧ t.chb = s.chb) ∧
  (∀ s : State, s.evalAt 8 → (s.thm.exc = none ∨ s.thm.oorThis = true) →
    exec .excursionOutOfRating s = .next { s with beat := { s.beat with offNs := max s.beat.offNs 850000, eStage := 9 } })

/-- BAL_TIMEOUT, SWITCH_OVERCURRENT, SWITCH_NO_CURRENT, SWITCH_CONDUCTS_OFF, BALANCING_GATE (R198, R199, R209, R213): BAL_TMO beats without a
written request clear the requests, set TMO and write entry 0x0505, once for each stretch; a first beat above 320 mA opens the switch for the beat, a second consecutive one
locks it off and raises the source of its segment; four beats without current and two beats of current while off set SWFLT and
raise it; the gate of a cell or check window that is taken closes, all edge-mode windows as one, and a command while it stands, or when the
window is not taken in this beat, serves the next beat's window. -/
def Obligations.BalancingFaults : Prop :=
(∀ s : State, s.bal.src = 2 → s.bal.tmo.toNat ≤ s.bal.reqAge → s.bal.reqDone = false → s.fltShown = none →
    s.beat.running = true →
    exec .balTimeout s = .next { s with
      bal := { s.bal with req := [0, 0, 0], tmoFlag := true, reqDone := true }
      log := { s.log with intake := s.log.intake ++ [⟨.management, 0x505, []⟩] } }) ∧
  (∀ s : State, (s.bal.src ≠ 2 ∨ s.bal.reqAge < s.bal.tmo.toNat ∨ s.bal.reqDone = true) → exec .balTimeout s = .next s) ∧
  (∀ (s : State) (c : Fin 96) (x : SwS), s.bal.sw[c.val]? = some x → x.cut = false → x.lock = false → x.cutRun = 0 →
    exec (.switchOvercurrent c) s = .next { s with bal := { s.bal with sw := s.bal.sw.set c { x with cut := true, ran := true } } }) ∧
  (∀ (s : State) (c : Fin 96) (x : SwS), s.bal.sw[c.val]? = some x → x.cut = false → x.lock = false → 1 ≤ x.cutRun →
    s.srcWhole →
    ∃ t, exec (.switchOvercurrent c) s = .next t ∧
      t.bal = { s.bal with sw := s.bal.sw.set c { x with cut := true, lock := true, ran := true } } ∧
      (t.fs (44 + c.val / 24)).latch = true ∧ t.meas = s.meas ∧ t.cha = s.cha ∧ t.chb = s.chb ∧ t.safe = s.safe) ∧
  (∀ (s : State) (c : Fin 96) (x : SwS), s.bal.sw[c.val]? = some x → x.noRun = 4 → s.srcWhole →
    ∃ t, exec (.switchNoCurrent c) s = .next t ∧ t.bal.swFlt = s.bal.swFlt.set (c.val / 24) true ∧
      t.bal.sw = s.bal.sw.set c { x with noRun := 5 } ∧ (t.fs (44 + c.val / 24)).latch = true ∧ t.meas = s.meas ∧
      t.cha = s.cha ∧ t.chb = s.chb) ∧
  (∀ (s : State) (c : Fin 96) (x : SwS), s.bal.sw[c.val]? = some x → x.offRun = 2 → s.srcWhole →
    ∃ t, exec (.switchConductsOff c) s = .next t ∧ t.bal.swFlt = s.bal.swFlt.set (c.val / 24) true ∧
      t.bal.sw = s.bal.sw.set c { x with offRun := 3 } ∧ (t.fs (44 + c.val / 24)).latch = true ∧ t.meas = s.meas ∧
      t.cha = s.cha ∧ t.chb = s.chb) ∧
  (∀ (s : State) (c : Fin 96) (x : SwS), s.bal.sw[c.val]? = some x → x.noRun < 4 → x.offRun < 2 →
    exec (.switchNoCurrent c) s = .next s ∧ exec (.switchConductsOff c) s = .next s) ∧
  (∀ (s : State) (w : Fin 4), s.gatesNow w = true → s.bal.gate[w.val]? = some false →
    ∃ t, exec (.balancingGate w) s = .next t ∧ t = { s with bal := { s.bal with gate := t.bal.gate } } ∧
      ∀ v : Nat, t.bal.gate[v]? = s.bal.gate[v]?.map fun g => g || (s.gateMates w v && s.gatesNow v)) ∧
  (∀ (s : State) (w : Fin 4), s.gatesNow w = false ∨ s.bal.gate[w.val]? = some true → s.gatesNext w = true →
    ∃ t, exec (.balancingGate w) s = .next t ∧ t = { s with bal := { s.bal with gateNext := t.bal.gateNext } } ∧
      ∀ v : Nat, t.bal.gateNext[v]? = s.bal.gateNext[v]?.map fun g => g || (s.gateMates w v && s.gatesNext v)) ∧
  (∀ (s : State) (w : Fin 4), s.gatesNow w = false ∨ s.bal.gate[w.val]? = some true → s.gatesNext w = false → exec (.balancingGate w) s = .next s) ∧
  (∀ (s : State) (w : Nat), s.gatesNow w = true ↔ s.winCellChk w = true ∧ s.cellsTaken = true ∧
    (s.beat.wins[w]?.getD {}).rejected = false ∧ (s.beat.wins[w]?.getD {}).closed = false)

/-- R214: a wanted cell n conducts in sub-beat j when (j - n) mod 16 is below D, the smaller of DUTY and the thermal cap, and a
locked switch or one that its die has opened never conducts (R209). -/
def Obligations.DutyPattern : Prop :=
(∀ (s : State) (n j : Nat), 1 ≤ n → n ≤ 96 → j < 16 → s.bal.duty.toNat ≤ 16 → (s.sw n).duty = true →
    (s.sw n).level = false → (s.sw n).lock = false → (s.sw n).cut = false →
    (s.swPattern n j = true ↔
      ((j : Int) - n) % 16 < min (s.bal.duty.toNat : Int) (if s.grpEff ((n - 1) / 24) = 2 then s.nat .BAL_THR_DUTY else 16))) ∧
  (∀ (s : State) (n j : Nat), ((s.sw n).lock = true ∨ (s.sw n).cut = true) → s.swPattern n j = false) ∧
  (∀ (s : State) (n j : Nat), (s.sw n).duty = false → (s.sw n).level = false → s.swPattern n j = false)

/-- WIRE_CAL_START, WIRE_CAL_ABORT, WIRE_CAL_COMPLETE (R202, R220): with the key, Parked and a quiet current a run is accepted at
the first position with a populated cell, skipped pins taking Rw 0, and waits for the next boundary; a wrong key is refused with
cause 1, another state with 2, a current that is not quiet with 3, and during a run a START is ignored (log entry 88); an abort ends
the run with cause 4; a run that ends stores what it found.

EXCITATION_RUN_START, EXCITATION_TOGGLE, EXCITATION_RUN_STOP, CURRENT_REQUEST, IMPEDANCE_BLOCK_END (R217, R219, R235, R237, R238): a
run closes the switches of its cells, a run that may not start passes its turn on, a toggle inverts the switches, a run that may not
go on counts as BROKEN; a request becomes active at its block start and is withdrawn at the end of its last block or when its
conditions lapse; a block that has ended gives each cell its sums and results and waits no longer. -/
def Obligations.CalibrationAndExcitation : Prop :=
  (∀ (s : State) (p : Path), s.bal.cal = none → s.parked = true → s.i1Quiet = true →
    exec (.wireCalStart p 0xC3) s = .next { s with bal := { s.bal with
      cal := some { pos := s.calSeek 1, suspended := true, found := s.calSkipped 1 }, calCause := 0, calState := 1
      calPos := min 24 (s.calSeek 1), calFail := [false, false, false, false] } }) ∧
  (∀ (s : State) (seg : Fin 4), s.cellPop (24 * seg.val + 1) = true → s.calSeek 1 = 1 ∧ s.calSkipped 1 = []) ∧
  (∀ (s : State) (p : Nat) (q : Nat) (seg : Fin 4), p ≤ q → q ≤ 24 → s.cellPop (24 * seg.val + q) = true →
    p ≤ s.calSeek p ∧ s.calSeek p ≤ q) ∧
  (∀ (s : State) (p : Path) (c : WireCal), s.bal.cal = some c → exec (.wireCalStart p 0xC3) s = .next s) ∧
  (∀ (s : State) (p : Path), s.bal.cal = none → exec (.wireCalAbort p 0xC3) s = .next s) ∧
  (∀ (s : State) (p : Path) (k : BitVec 8), k ≠ 0xC3 →
    exec (.wireCalStart p k) s = .next { s with bal := { s.bal with calCause := 1 } } ∧
    exec (.wireCalAbort p k) s = .next { s with bal := { s.bal with calCause := 1 } }) ∧
  (∀ (s : State) (p : Path), s.bal.cal = none → s.parked = false →
    exec (.wireCalStart p 0xC3) s = .next { s with bal := { s.bal with calCause := 2 } }) ∧
  (∀ (s : State) (p : Path), s.bal.cal = none → s.parked = true → s.i1Quiet = false →
    exec (.wireCalStart p 0xC3) s = .next { s with bal := { s.bal with calCause := 3 } }) ∧
  (∀ (s : State) (p : Path) (c : WireCal), s.bal.cal = some c →
    ∃ t, exec (.wireCalAbort p 0xC3) s = .next t ∧ t.bal.cal = none ∧ t.bal.calState = 3 ∧ t.bal.calCause = 4 ∧
      t.bal.rw = storeRw s.bal.rw c.found ∧ t.meas = s.meas ∧ t.cha = s.cha ∧ t.chb = s.chb ∧ t.beat = s.beat) ∧
  (∀ (s : State) (c : WireCal), s.bal.cal = some c → 25 ≤ c.pos → 1 ≤ c.beat →
    ∃ t, exec .wireCalComplete s = .next t ∧ t.bal.cal = none ∧ t.bal.calState = 2 ∧ t.bal.calCause = 0 ∧
      t.bal.rw = storeRw s.bal.rw c.found ∧ t.meas = s.meas ∧ t.cha = s.cha ∧ t.chb = s.chb ∧ t.beat = s.beat) ∧
  (∀ s : State, s.bal.cal = none → exec .wireCalComplete s = .next s) ∧
  (∀ (s : State) (e : Nat × Nat), s.imp.swEn = true → s.bal.run = none → s.bal.stopped = false →
    rotationAt s.rotation s.bal.next = some e → s.blockStarts e.1 = true → s.on .EXC_EN = true → s.fullCadence = true →
    s.excCells e.2 ≠ [] → s.bal.cal = none →
    ∃ t r, exec .excitationRunStart s = .next t ∧ t.bal.run = some r ∧ r.slot = e.1 ∧ r.group = e.2 ∧
      r.cells = s.excCells e.2 ∧ r.start = s.beat.num ∧ t.bal.runs = incSat 65535 s.bal.runs ∧
      (∀ n ∈ r.cells, ∀ x, t.bal.sw[n - 1]? = some x → x.level = true ∧ x.exc = true ∧ x.duty = false) ∧
      t = { s with bal := t.bal, sys := t.sys }) ∧
  (∀ (s : State) (e : Nat × Nat), s.imp.swEn = true → s.bal.run = none → s.bal.stopped = false →
    rotationAt s.rotation s.bal.next = some e → s.blockStarts e.1 = true →
    (s.on .EXC_EN = false ∨ s.fullCadence = false ∨ s.excCells e.2 = []) →
    ∃ t, exec .excitationRunStart s = .next t ∧ t.bal.run = none ∧ t.bal.runs = s.bal.runs ∧
      t.bal.next = rotationNext s.rotation e ∧ t = { s with bal := t.bal, sys := t.sys }) ∧
  (∀ s : State, (s.bal.run ≠ none ∨ s.imp.swEn = false) → exec .excitationRunStart s = .next s) ∧
  (∀ s : State, s.bal.run = none → exec .excitationToggle s = .next s) ∧
  (∀ (s : State) (r : ExcRun), s.bal.run = some r →
    exec .excitationToggle s = .next { s with bal := { s.bal with
      run := some { r with level := !r.level }
      tog := true
      sw := s.bal.sw.map fun x => if x.exc then { x with level := !x.level } else x } }) ∧
  (∀ (s : State) (r : ExcRun), s.bal.run = some r → (s.fullCadence = false ∨ ∃ n ∈ r.cells, s.cellBlocked n = true) →
    ∃ t, exec .excitationRunStop s = .next t ∧ t.bal.run = none ∧ t.bal.broken = incSat 65535 s.bal.broken ∧
      t.bal.next = rotationNext s.rotation (r.slot, r.group) ∧ t = { s with bal := t.bal }) ∧
  (∀ s : State, s.bal.run = none → exec .excitationRunStop s = .next s) ∧
  (∀ (s : State) (k : Nat), s.imp.req = none → s.reqSlot = some k → s.reqAllowed = true → s.blockStarts k = true →
    exec .currentRequest s = .next { s with imp := { s.imp with
      req := some { slot := k, freq := (divRnd 20480000000 (s.slotH k)).toNat, amp := s.nat .IMP_REQ_AMP,
                    stop := s.beat.num + BitVec.ofNat 32 (s.nat .IMP_NAVG * s.slotNB k) }
      reqNext := k } }) ∧
  (∀ (s : State) (r : CurReq), s.imp.req = some r → r.stop = s.beat.num → s.reqAllowed = false →
    exec .currentRequest s = .next { s with imp := { s.imp with req := none, reqNext := nextSlot s.reqSlots r.slot } }) ∧
  (∀ (s : State) (r : CurReq), s.imp.req = some r → r.stop ≠ s.beat.num → s.reqAllowed = false →
    exec .currentRequest s = .next { s with imp := { s.imp with req := none, reqNext := r.slot } }) ∧
  (∀ (s : State) (r : CurReq), s.imp.req = some r → r.stop ≠ s.beat.num → s.reqAllowed = true →
    exec .currentRequest s = .next s) ∧
  (∀ (s : State) (k : Fin 4) (x : SlotS), s.evalAt 1 → s.works .a = true → s.imp.slots[k.val]? = some x → x.ended = true →
    ∃ t y, exec (.impedanceBlockEnd k) s = .next t ∧ t.imp.slots[k.val]? = some y ∧ y.ended = false ∧ y.res = x.res ∧
      y.bins = x.bins ∧
      (∀ (i : Nat) (b : Bins), x.bins[i]? = some b →
        y.sums[i]? = some (s.cellBlock (s.slotH k) (i + 1) (s.beat.num - 1) b (x.sums[i]?.getD {})).1 ∧
        ∀ z, (s.cellBlock (s.slotH k) (i + 1) (s.beat.num - 1) b (x.sums[i]?.getD {})).2 = some z → (i + 1, z.1) ∈ y.hold) ∧
      (∀ j, j ≠ k.val → t.imp.slots[j]? = s.imp.slots[j]?) ∧ (s.chg.inForce = none → t.chg = s.chg) ∧
      t.chg = { s.chg with recs := t.chg.recs } ∧ t.meas = s.meas ∧ t.cha = s.cha ∧ t.chb = s.chb) ∧
  (∀ (s : State) (k : Fin 4) (x : SlotS), s.evalAt 1 → s.imp.slots[k.val]? = some x → x.ended = false →
    exec (.impedanceBlockEnd k) s = .next { s with beat := { s.beat with offNs := max s.beat.offNs 850000 } })

/-- OPEN_WIRE_PASS, OPEN_WIRE_SLOT, TARGETED_SLOT, OPEN_WIRE_CLEAR (R181, R182, R188, R197): a pass begins at a multiple of OW_PERIOD
seconds on every segment with a cell; a due slot of a pass, or a targeted one outside a pass, begins on its pin (an untested pin leaves its slot empty; the repeat of an inconclusive one is marked as such); a pin that clears
loses its marking and its grace time, with its record. -/
def Obligations.OpenWireSlots : Prop :=
(∀ (s : State), s.passDue = true →
    ∃ t, exec .openWirePass s = .next t ∧ t = { s with integ := { s.integ with seg := t.integ.seg } } ∧
      (∀ (i : Nat) (x : OwSeg), s.integ.seg[i]? = some x → s.segUsed i = true →
        t.integ.seg[i]? = some { x with pass := some 0, again := [], due := some 0, slot := none, pull := none }) ∧
      (∀ (i : Nat), s.segUsed i = false → t.integ.seg[i]? = s.integ.seg[i]?)) ∧
  (∀ s : State, s.beat.num.toNat % (s.nat .OW_PERIOD * 1000) ≠ 0 → exec .openWirePass s = .next s) ∧
  (∀ (s : State) (g : Fin 4) (x : OwSeg) (j p : Nat), s.integ.seg[g.val]? = some x → x.due = some j → x.pass = some p →
    p < 100 → (s.pinKind g j).isSome = true →
    exec (.openWireSlot g) s = .next { s with integ := { s.integ with
      seg := s.integ.seg.set g { x with due := none, slot := some { pin := j, targeted := false, again := false } } } } ∧
    exec (.targetedSlot g) s = .next s) ∧
  (∀ (s : State) (g : Fin 4) (x : OwSeg) (j p : Nat), s.integ.seg[g.val]? = some x → x.due = some j → x.pass = some p →
    100 ≤ p → j ∈ x.again → (s.pinKind g j).isSome = true →
    exec (.openWireSlot g) s = .next { s with integ := { s.integ with
      seg := s.integ.seg.set g
        { x with due := none, again := x.again.erase j, slot := some { pin := j, targeted := false, again := true } } } } ∧
    exec (.targetedSlot g) s = .next s) ∧
  (∀ (s : State) (g : Fin 4) (x : OwSeg) (j : Nat), s.integ.seg[g.val]? = some x → x.due = some j → x.pass = none →
    (s.pinKind g j).isSome = true →
    exec (.targetedSlot g) s = .next { s with integ := { s.integ with
      seg := s.integ.seg.set g { x with
        due := none, again := x.again.erase j, slot := some { pin := j, targeted := true, again := x.again.contains j } } } } ∧
    exec (.openWireSlot g) s = .next s) ∧
  (∀ (s : State) (g : Fin 4) (x : OwSeg), s.integ.seg[g.val]? = some x → x.due = none →
    exec (.openWireSlot g) s = .next s ∧ exec (.targetedSlot g) s = .next s) ∧
  (∀ (s : State) (g : Fin 4) (x : OwSeg) (j p : Nat), s.integ.seg[g.val]? = some x → x.due = some j → x.pass = some p →
    p < 100 → s.pinKind g j = none →
    exec (.openWireSlot g) s = .next { s with integ := { s.integ with seg := s.integ.seg.set g { x with due := none } } }) ∧
  (∀ (s : State) (g : Fin 4) (j : Fin 25), (s.pin g j).clearDue = true → s.integ.seg.length = 4 →
    (s.owSeg g).pins.length = 25 → s.fltShown = none → s.beat.running = true →
    ∃ t, exec (.openWireClear g j) s = .next t ∧
      t.pin g j = { s.pin g j with opn := false, intactRun := 0, clearDue := false, graceBeats := 0, expired := false } ∧
      (∀ k, k ≠ j.val → t.pin g k = s.pin g k) ∧ (t.segOpen g = false → (t.fs (36 + g)).cond = false) ∧
      (t.segOpen g = true → t.flt = s.flt) ∧
      t.log = { s.log with intake := s.log.intake ++
        [⟨.data, 0x503, [2, BitVec.ofNat 32 (g.val + 1), BitVec.ofNat 32 (j.val + 1), BitVec.ofNat 32 (24 * g.val + j.val)]⟩] } ∧
      t.meas = s.meas ∧ t.cha = s.cha ∧ t.chb = s.chb ∧ t.safe = s.safe) ∧
  (∀ (s : State) (g : Fin 4) (j : Fin 25), (s.pin g j).clearDue = false → exec (.openWireClear g j) s = .next s)

/-- OPEN_WIRE_SUSPECT, OPEN_WIRE_GRACE_EXPIRY, CHECK_DISAGREEMENT, SUM_MISMATCH (R187, R188, R189, R190, R196) at their stages of the
evaluation: two beats of the signature make a pin suspect and ask for a targeted slot; OW_GRACE expires; two check codes beyond
CHK_TOL set CHK_DIFF and raise the source of the segment; ten beats of stack-sum difference set
a channel's mismatch, ten without it release it, and channel A's onset asks for slots on the end pins of every segment. A command whose stage has not come lets the evaluation run up to it.

R185: the judgement of an interior pin from the shifts of its two cells: OPEN when the lower cell falls and the upper one rises by
300 mV or more against the reference shift, INTACT when neither moves by 150 mV, otherwise inconclusive. -/
def Obligations.IntegrityChecks : Prop :=
  (∀ (s : State) (g : Fin 4) (j : Fin 25), s.evalAt 5 → s.works .a = true → s.suspectDue g j = true → s.integ.seg.length = 4 →
    (s.owSeg g).pins.length = 25 →
    ∃ t, exec (.openWireSuspect g j) s = .next t ∧ t.pin g j = { s.pin g j with suspect := true, want := true, sign := 0 } ∧
      (∀ k, k ≠ j.val → t.pin g k = s.pin g k) ∧ t.meas = s.meas ∧ t.flt = s.flt ∧ t.cha = s.cha ∧ t.chb = s.chb) ∧
  (∀ (s : State) (g : Fin 4) (j : Fin 25), s.evalAt 6 → (s.pin g j).opn = true → (s.pin g j).expired = false →
    1000 * s.nat .OW_GRACE ≤ (s.pin g j).graceBeats → s.integ.seg.length = 4 → (s.owSeg g).pins.length = 25 →
    ∃ t, exec (.openWireGraceExpiry g j) s = .next t ∧ t.pin g j = { s.pin g j with expired := true } ∧ t.wireExpired = true ∧
      (∀ k, k ≠ j.val → t.pin g k = s.pin g k) ∧ t.meas = s.meas ∧ t.flt = s.flt ∧ t.cha = s.cha ∧ t.chb = s.chb) ∧
  (∀ (s : State) (c : Fin 96), s.evalAt 3 → s.checkDue (c.val + 1) = true → s.meas.shown.cell.length = 96 → s.srcWhole →
    s.integ.seg.length = 4 → (s.owSeg (c / 24)).pins.length = 25 →
    ∃ t, exec (.checkDisagreement c) s = .next t ∧ t.cell (c.val + 1) = { s.cell (c.val + 1) with chkDiff := true } ∧
      (t.pin (c / 24) (c % 24)).want = true ∧ (t.pin (c / 24) (c % 24 + 1)).want = true ∧
      (∀ k, k ≠ c % 24 → k ≠ c % 24 + 1 → t.pin (c / 24) k = s.pin (c / 24) k) ∧
      (t.fs (32 + c.val / 24)).latch = true ∧ (t.fs (32 + c.val / 24)).cond = true ∧
      (∀ k, k ≠ c.val → t.meas.shown.cell[k]? = s.meas.shown.cell[k]?) ∧ t.cha = s.cha ∧ t.chb = s.chb ∧ t.safe = s.safe) ∧
  (∀ s : State, s.evalAt 4 → s.integ.sumA.overs = 10 → s.integ.sumA.mis = false → s.integ.seg.length = 4 →
    s.integ.seg.all (fun x => x.pins.length == 25) = true →
    ∃ t, exec .sumMismatch s = .next t ∧ t.integ.sumA.mis = true ∧ t.beat.eStage = 5 ∧
      (∀ (g : Fin 4) (j : Fin 25), t.pin g j = { s.pin g j with
        want := (s.pin g j).want || s.pinKind g j == some .lowest || s.pinKind g j == some .highest }) ∧
      t.meas = s.meas ∧ t.flt = s.flt ∧ t.cha = s.cha ∧ t.chb = s.chb) ∧
  (∀ s : State, s.evalAt 4 →
    ∃ t, exec .sumMismatch s = .next t ∧ t.beat.eStage = 5 ∧
      (∀ ch : Ch, t.integ.sumOf ch =
        if ((s.integ.sumOf ch).overs = 10 ∧ (s.integ.sumOf ch).mis = false) ∨
            ((s.integ.sumOf ch).withins = 10 ∧ (s.integ.sumOf ch).mis = true) then
          { s.integ.sumOf ch with mis := !(s.integ.sumOf ch).mis }
        else s.integ.sumOf ch) ∧
      t = { s with beat := { s.beat with offNs := max s.beat.offNs 850000, eStage := 5 }, integ := t.integ }) ∧
  (∀ s : State, s.evalAt 4 → s.integ.sumA.withins = 10 → s.integ.sumA.mis = true → s.integ.sumB = s.integ.sumA →
    exec .sumMismatch s = .next { s with
      beat := { s.beat with offNs := max s.beat.offNs 850000, eStage := 5 }
      integ := { s.integ with sumA := { s.integ.sumA with mis := false }, sumB := { s.integ.sumB with mis := false } } }) ∧
  (∀ (s : State) (g : Fin 4) (j : Fin 25) (c : Fin 96) (k : Nat), s.evalAt k → k ≤ 3 →
    (∃ t, exec (.openWireSuspect g j) s = .next t ∧ t.beat.eStage = 5) ∧
    (∃ t, exec (.openWireGraceExpiry g j) s = .next t ∧ t.beat.eStage = 6) ∧
    (∃ t, exec (.checkDisagreement c) s = .next t ∧ t.beat.eStage = 3)) ∧
  (∀ dlo dhi dref : Int,
    (owJudge .interior dlo dhi dref = .opn ↔ dlo - dref ≤ -7680 ∧ 7680 ≤ dhi - dref) ∧
    (owJudge .interior dlo dhi dref = .intact ↔ -3840 < dlo - dref ∧ dhi - dref < 3840) ∧
    (owJudge .lowest dlo dhi dref = .opn ↔ dhi - dref ≤ -7680) ∧ (owJudge .lowest dlo dhi dref = .intact ↔ -3840 < dhi - dref) ∧
    (owJudge .highest dlo dhi dref = .opn ↔ dlo - dref ≤ -7680) ∧ (owJudge .highest dlo dhi dref = .intact ↔ -3840 < dlo - dref))

/-- LINK_RETRY, MEMORY_READ_RETRY, SCRUB (R43, R44, R204, R205, R376): a resend that succeeds counts and is a transient raise of the
link; one that fails drops the item, be it the values of a window, a raw sample of a current or one of a cell, and is a lasting
raise; a memory read that comes right is written back as transient; one that stays bad poisons its word, a journal word with its
contents, and gives its readers an error; the word or item that an injection inverted passes the injection instead (log entry 100); a scrub goes on to the next word and wraps at the end of the memory. -/
def Obligations.RetriesAndScrub : Prop :=
(∀ (s : State) (g : Fin 4) (ch : Ch) (it : LinkItem), s.srcWhole →
    s.injects (8 + 2 * g.val + (if ch = .a then 0 else 1)) = false →
    ∃ t, exec (.linkRetry g ch it true) s = .next t ∧
      t.integ = { s.integ with linkRetries := s.integ.linkRetries.modify (2 * g.val + (if ch = .a then 0 else 1)) (· + 1) } ∧
      (t.fs (16 + 2 * g.val + (if ch = .a then 0 else 1))).latch = true ∧
      (t.fs (16 + 2 * g.val + (if ch = .a then 0 else 1))).till = (s.fs (16 + 2 * g.val + (if ch = .a then 0 else 1))).till ∧
      t.meas = s.meas ∧ t.cha = s.cha ∧ t.chb = s.chb) ∧
  (∀ (s : State) (g : Fin 4) (ch : Ch) (it : LinkItem), s.srcWhole →
    s.injects (8 + 2 * g.val + (if ch = .a then 0 else 1)) = false →
    ∃ t, exec (.linkRetry g ch it false) s = .next t ∧
      (∀ w, it = .window w → t.meas = { s.meas with dropped := s.meas.dropped ++ [(g.val, ch, w.val)] }) ∧
      (∀ second, it = .current second → t.meas = { s.meas with lostCur := s.meas.lostCur ++ [(ch, second)] }) ∧
      (∀ n, it = .cell n → t.meas = { s.meas with lostCell := s.meas.lostCell ++ [(ch, n.val + 1)] }) ∧
      t.integ = s.integ ∧ (t.fs (16 + 2 * g.val + (if ch = .a then 0 else 1))).latch = true ∧
      (t.fs (16 + 2 * g.val + (if ch = .a then 0 else 1))).pres = true ∧ t.cha = s.cha ∧ t.chb = s.chb) ∧
  (∀ (s : State) (g : Fin 4) (ch : Ch) (it : LinkItem) (i : InjRun), s.flt.injRun = some i →
    i.target = 8 + 2 * g.val + (if ch = .a then 0 else 1) → i.hit = false → i.seen = none →
    ∃ t, exec (.linkRetry g ch it true) s = .next t ∧ t.flt.injState = 2 ∧ t.flt.injRun = none ∧
      (i.full = false → t.integ = s.integ ∧ t.flt.src = s.flt.src) ∧
      (i.full = true → s.srcWhole → (t.fs (16 + 2 * g.val + (if ch = .a then 0 else 1))).latch = true) ∧
      t.meas = s.meas ∧ t.cha = s.cha ∧ t.chb = s.chb) ∧
  (∀ (s : State) (m : Mem) (w : Nat) (i : InjRun), s.flt.injRun = some i → i.target = 2 + 2 * memIx m → i.hit = false →
    i.seen = none → w = injWord m →
    ∀ ok, ∃ t, exec (.memoryReadRetry m w ok) s = .next t ∧ t.flt.injState = 2 ∧ t.flt.injRun = none ∧ t.mem = s.mem ∧
      (i.full = false → t.flt.src = s.flt.src) ∧ t.cfg.j0 = s.cfg.j0 ∧ t.cfg.j1 = s.cfg.j1 ∧ t.beat = s.beat ∧ t.meas = s.meas) ∧
  (∀ (s : State) (m : Mem) (w : Nat), s.srcWhole → s.injRead m w = false →
    ∃ t, exec (.memoryReadRetry m w true) s = .next t ∧
      t.mem = { s.mem with transient := s.mem.transient.modify (memIx m) (· + 1) } ∧ (t.fs (9 + memIx m)).latch = true ∧
      t.cfg.j0 = s.cfg.j0 ∧ t.cfg.j1 = s.cfg.j1 ∧ t.beat = s.beat ∧ t.meas = s.meas) ∧
  (∀ (s : State) (m : Mem) (w : Nat), s.srcWhole → s.injRead m w = false →
    ∃ t, exec (.memoryReadRetry m w false) s = .next t ∧ (m, w) ∈ t.mem.poisoned ∧
      (∀ p, p ∈ t.mem.errors ↔ p ∈ s.mem.errors ∨ p ∈ wordUsers m w) ∧
      (∀ x, x ≠ (m, w) → (x ∈ t.mem.poisoned ↔ x ∈ s.mem.poisoned)) ∧ t.mem.scrub = s.mem.scrub ∧
      t.cfg.j0 = (if m = .mram ∧ w = 16384 then none else s.cfg.j0) ∧
      t.cfg.j1 = (if m = .mram ∧ w = 16385 then none else s.cfg.j1) ∧
      (t.fs (9 + memIx m)).latch = true ∧ (t.fs (9 + memIx m)).pres = true ∧ t.beat = s.beat ∧ t.meas = s.meas) ∧
  (∀ (s : State) (m : Mem) (k : Nat),
    ∃ t, exec (.scrub m k) s = .next t ∧ t = { s with mem := t.mem, sys := t.sys } ∧
      t.mem = { s.mem with scrub := s.mem.scrub.modify (memIx m) fun w => (w + 1) % memWords m })

/-- INSULATION_CYCLE_START, INSULATION_PHASE_CHANGE, REFERENCE_SWITCH_CLOSE, INSULATION_RESULT (R158, R159, R160, R161, R162, R163): a cycle
starts with S- open, after the result of the cycle that ends there, and raises FS31 above 1,000 ohm of the PE loop; at beat P S+ opens and S- closes 100 us later; after 2P beats the
registers take the outcome. -/
def Obligations.Insulation : Prop :=
(∀ (s : State) (pe : Nat) (i : IsoS), s.srcWhole → s.on .ISO_EN = true → s.beat.running = true →
    s.works .a = true →
    s.beat.num.toNat % (2 * s.isoP) = 0 →
    (s.meas.iso.cycle = none ∧ i = s.meas.iso ∨
      ∃ c, s.meas.iso.cycle = some c ∧ 2 * s.isoP ≤ (s.beat.num - c.start).toNat ∧
        i = s.meas.iso.afterCycle c (s.nat .ISO_WARN) (s.nat .ISO_TRIP)) →
    ∃ t, exec (.insulationCycleStart pe) s = .next t ∧
      t.meas.iso = { i with
        cycle := some { start := s.beat.num, peOpen := decide (1000 < pe) }, sMinus := false, sPlus := !s.meas.iso.sMinus
        closeDue := (if s.meas.iso.sMinus then some true else none), phaseN := false } ∧
      (t.fs 31).cond = decide (1000 < pe) ∧ (1000 < pe → (t.fs 31).latch = true) ∧ t.beat = s.beat ∧ t.cha = s.cha ∧
      t.chb = s.chb ∧ t.safe = s.safe) ∧
  (∀ (s : State) (c : IsoCycle), s.meas.iso.cycle = some c → (s.beat.num - c.start).toNat = s.isoP → s.meas.iso.phaseN = false →
    s.works .a = true →
    exec .insulationPhaseChange s = .next { s with meas := { s.meas with iso := { s.meas.iso with
      sPlus := false, closeDue := some false, phaseN := true } } }) ∧
  (∀ s : State, s.meas.iso.cycle = none → exec .insulationPhaseChange s = .next s ∧ exec .insulationResult s = .next s) ∧
  (∀ s : State, s.meas.iso.closeDue = some false →
    exec .referenceSwitchClose s = .next { s with
      beat := { s.beat with offNs := max s.beat.offNs 100000 }
      meas := { s.meas with iso := { s.meas.iso with sMinus := true, closeDue := none } } }) ∧
  (∀ s : State, s.meas.iso.closeDue = some true →
    exec .referenceSwitchClose s = .next { s with
      beat := { s.beat with offNs := max s.beat.offNs 100000 }
      meas := { s.meas with iso := { s.meas.iso with sPlus := true, closeDue := none } } }) ∧
  (∀ (s : State) (c : IsoCycle) (k : Nat), s.meas.iso.cycle = some c → 2 * s.isoP ≤ (s.beat.num - c.start).toNat →
    c.outcome = .inl k →
    exec .insulationResult s = .next { s with meas := { s.meas with iso := { s.meas.iso with
      valid := false, cause := k, cycle := none, fresh := true
      b := s.meas.iso.b.afterCycle c (s.nat .ISO_WARN) (s.nat .ISO_TRIP) } } }) ∧
  (∀ (s : State) (c : IsoCycle) (rp rn : Int), s.meas.iso.cycle = some c → 2 * s.isoP ≤ (s.beat.num - c.start).toNat →
    c.outcome = .inr (rp, rn) →
    ∃ t, exec .insulationResult s = .next t ∧ t.meas.iso.valid = true ∧ t.meas.iso.cause = 0 ∧ t.meas.iso.cycle = none ∧
      (t.meas.iso.rp : Int) = max 50 (min 50000 (divRnd rp 1000)) ∧ (t.meas.iso.rn : Int) = max 50 (min 50000 (divRnd rn 1000)) ∧
      t.meas.iso.rpLow = decide (divRnd rp 1000 < 50) ∧ t.meas.iso.rpHigh = decide (50000 < divRnd rp 1000) ∧
      t.meas.iso.rnLow = decide (divRnd rn 1000 < 50) ∧ t.meas.iso.rnHigh = decide (50000 < divRnd rn 1000) ∧
      t.meas.iso.min = Nat.min t.meas.iso.rp t.meas.iso.rn ∧
      t.meas.iso.warn = decide (t.meas.iso.min < s.nat .ISO_WARN) ∧ t.meas.iso.trip = decide (t.meas.iso.min < s.nat .ISO_TRIP) ∧
      t.meas.iso.b = s.meas.iso.b.afterCycle c (s.nat .ISO_WARN) (s.nat .ISO_TRIP) ∧
      t = { s with meas := { s.meas with iso := t.meas.iso } }) ∧
  (∀ s : State, s.meas.iso.closeDue = none →
    exec .referenceSwitchClose s = .next { s with beat := { s.beat with offNs := max s.beat.offNs 100000 } }) ∧
  (∀ (s : State) (c : IsoCycle), s.meas.iso.cycle = some c → (s.beat.num - c.start).toNat < 2 * s.isoP →
    exec .insulationResult s = .next s)

/-- THERMISTOR_CONVERSION, MEAS_SNAP, LO_READ_LATCH (R165, R166, R167, R168, R169, R173, R174, R205): the slot of the beat converts
its four thermistors and leaves the others; beat 8 converts ID, beat 9 the reference; a conversion that fails with its retry raises
FS30 and leaves its value, that of the reference until a later one passes; an open or short reading is not VALID; ID decodes a code whose resistance lies within 3 %; SNAP freezes
the visible copy until it is released; a read of a low half latches its high half. -/
def Obligations.ConversionsAndLatches : Prop :=
(∀ (s : State) (vals : List (Option (BitVec 16))) (retried : BitVec 4) (die : List (Option Int)) (i : Nat),
    s.beat.num.toNat % 10 < 8 → s.ratioUp = true → s.meas.thm.length = 32 → s.srcWhole → i < 32 →
    ∃ t, exec (.thermistorConversion vals retried die) s = .next t ∧
      (i / 4 ≠ s.beat.num.toNat % 10 → t.meas.thm[i]? = s.meas.thm[i]?) ∧
      (s.thmPop (i + 1) = false → t.meas.thm[i]? = s.meas.thm[i]?) ∧
      (∀ a, i / 4 = s.beat.num.toNat % 10 → s.thmPop (i + 1) = true → vals[i % 4]? = some (some a) →
        t.meas.thm[i]? = some (thmConv (s.img.points .TAB (s.nat .THM_TAB (i + 1))) a.toNat)) ∧
      (i / 4 = s.beat.num.toNat % 10 → s.thmPop (i + 1) = true → vals[i % 4]? = some none →
        t.meas.thm[i]? = s.meas.thm[i]? ∧ (t.fs 30).latch = true) ∧
      t.cha = s.cha ∧ t.chb = s.chb ∧ t.meas.shown = s.meas.shown ∧ t.meas.die = s.meas.die) ∧
  (∀ (s : State) (a : BitVec 16) (l : List (Option (BitVec 16))) (retried : BitVec 4) (die : List (Option Int)),
    s.beat.num.toNat % 10 = 8 → s.ratioUp = true → s.on .ID_EN = true →
    ∃ t, exec (.thermistorConversion (some a :: l) retried die) s = .next t ∧ t.meas.id = idDecode a.toNat ∧
      t.meas.thm = s.meas.thm ∧ t.meas.refOk = s.meas.refOk ∧ t.cha = s.cha ∧ t.chb = s.chb) ∧
  (∀ (s : State) (a : BitVec 16) (l : List (Option (BitVec 16))) (retried : BitVec 4) (die : List (Option Int)),
    s.beat.num.toNat % 10 = 9 → s.ratioUp = true → s.srcWhole →
    ∃ t, exec (.thermistorConversion (some a :: l) retried die) s = .next t ∧
      t.meas.refOk = decide (32704 ≤ a.toNat ∧ a.toNat ≤ 32832) ∧
      (t.fs 30).cond = !decide (32704 ≤ a.toNat ∧ a.toNat ≤ 32832) ∧ t.meas.thm = s.meas.thm ∧ t.meas.id = s.meas.id ∧
      (∀ (i : Nat) (x d : Int), s.meas.die[i]? = some x → die[i]? = some (some d) → t.meas.die[i]? = some d)) ∧
  (∀ (s : State) (l : List (Option (BitVec 16))) (retried : BitVec 4) (die : List (Option Int)),
    s.beat.num.toNat % 10 = 8 → s.ratioUp = true → s.on .ID_EN = true → s.srcWhole →
    ∃ t, exec (.thermistorConversion (none :: l) retried die) s = .next t ∧ (t.fs 30).latch = true ∧
      t.meas.thm = s.meas.thm ∧ t.meas.id = s.meas.id ∧ t.meas.refOk = s.meas.refOk) ∧
  (∀ (s : State) (l : List (Option (BitVec 16))) (retried : BitVec 4) (die : List (Option Int)),
    s.beat.num.toNat % 10 = 9 → s.ratioUp = true → s.srcWhole →
    ∃ t, exec (.thermistorConversion (none :: l) retried die) s = .next t ∧ (t.fs 30).latch = true ∧ (t.fs 30).cond = true ∧
      t.meas.thm = s.meas.thm ∧ t.meas.id = s.meas.id ∧ t.meas.refOk = false) ∧
  (∀ (t : List (Int × Int)) (a : Nat),
    (64888 ≤ a → (thmConv t a).opn = true ∧ (thmConv t a).valid = false ∧ (thmConv t a).temp = -32768) ∧
    (a ≤ 326 → (thmConv t a).short = true ∧ (thmConv t a).valid = false ∧ (thmConv t a).temp = -32768) ∧
    (326 < a → a < 64888 → (thmConv t a).valid = true ∧ -5000 ≤ (thmConv t a).temp ∧ (thmConv t a).temp ≤ 15000)) ∧
  (∀ a : BitVec 16, (idDecode a.toNat).valid = true ↔
    ∃ k : Fin 64, 100 * (divRnd (10000 * a.toNat) (65536 - a.toNat) - idOhm k).natAbs ≤ 3 * idOhm k) ∧
  (∀ (s : State) (p : Path), s.meas.snap = none →
    ∃ t, exec (.measSnap p true) s = .next t ∧ t.meas.snap = some (s.live, s.thm) ∧ t.visible = s.visible ∧
      t.visibleThm = s.visibleThm ∧ t = { s with meas := { s.meas with snap := t.meas.snap } }) ∧
  (∀ (s : State) (p : Path), s.meas.snap.isSome = true → exec (.measSnap p true) s = .next s) ∧
  (∀ (s : State) (p : Path), exec (.measSnap p false) s = .next { s with meas := { s.meas with snap := none } }) ∧
  (∀ (s : State) (p : Path) (q : Int × Int), s.visible.q[0]? = some q →
    exec (.loReadLatch p .q1) s = .next { s with meas := { s.meas with q1Hi := some (BitVec.ofInt 32 (q.1 / 2 ^ 32)) } }) ∧
  (∀ (s : State) (p : Path) (q : Int × Int), s.visible.q[1]? = some q →
    exec (.loReadLatch p .q2) s = .next { s with meas := { s.meas with q2Hi := some (BitVec.ofInt 32 (q.1 / 2 ^ 32)) } }) ∧
  (∀ (s : State) (p : Path),
    exec (.loReadLatch p .qc) s = .next { s with chg := { s.chg with
      qcHi := some (BitVec.ofInt 32 (s.chg.shown.qc / 2 ^ 32)) } }) ∧
  (∀ (s : State) (p : Path),
    exec (.loReadLatch p .sn) s = .next { s with sys := { s.sys with
      snHi := some (BitVec.ofNat 32 (s.sys.serial.toNat / 2 ^ 32)) } })

/-- R475: the CRC-8 of the recorder has polynomial 0x07, initial value 0x00, no reflection and no final XOR, and gives 0xF4 for the
ASCII string "123456789". -/
def Obligations.RecorderCrc : Prop :=
crc8 [] = 0 ∧ (∀ l : List Byte, crc8 l < 256) ∧
  (∀ (l : List Byte) (b : Byte), BitVec.ofNat 8 (crc8 (l ++ [b])) =
    Nat.iterate (fun c : Byte => if c.msb then (c <<< 1) ^^^ 0x07 else c <<< 1) 8 (BitVec.ofNat 8 (crc8 l) ^^^ b)) ∧
  crc8 [0x31, 0x32, 0x33, 0x34, 0x35, 0x36, 0x37, 0x38, 0x39] = 0xF4

/-- CAN_PERIODIC_QUEUE, OBJ_SEND, OBJ_CANCEL, CAN_FRAME_END (R26, R430, R432, R435, R436, R439, R446, R449; the beat of a start of frame:
log entry 91; the bit sent in a delay error: log entry 102): a due object takes its data and becomes pending, replacing a frame that
has not started, or is discarded where sending is forbidden; without CLK_BUS it waits in XS_AC, 32 of a port; a CONT 0 object is sent
by key only, and while channel A feeds the plain objects; a pending frame is removed and one on the bus is marked; a frame that
completes is SENT and counts, one that fails or loses arbitration is offered again, with what waits behind it, unless it is cancelled
or ONESHOT; a frame that leaves for good makes the one behind it pending; the counters give the error state; a loop delay beyond 127
cycles is a bit error of the data phase. -/
def Obligations.TransmitObjects : Prop :=
(∀ (s : State) (p : CPort) (k : Fin 128) (d x : List Byte) (o : ObjS),
    (s.can p).due.find? (fun y => y.1 == k.val) = some (k.val, d) → (s.can p).obj[k.val]? = some o → s.xtalB = true →
    x = padTo (dlcLen (s.objDlc p k))
      (if s.objCont p k = 3 then s.reqWithdraw.reqStart.ireqData
       else if s.objCont p k = 6 then bytesOf 1 ((s.can p).txCyc % 64) ++ [0, 0, 0]
       else if s.objCont p k = 7 then s.calData (s.can p).txCyc else d) →
    ∃ t, exec (.canPeriodicQueue p k) s = .next t ∧
      (t.can p).due = (s.can p).due.filter (fun y => y.1 != k.val) ∧
      (s.canOn p = false ∨ s.canMode p ≠ 1 →
        (t.can p).obj[k.val]? = some { o with data := x, txs := .discarded, next := none }) ∧
      (s.canOn p = true → s.canMode p = 1 → o.txs = .pending → o.next = none →
        (t.can p).obj[k.val]? = some { o with data := x, drop := incSat 255 o.drop }) ∧
      (s.canOn p = true → s.canMode p = 1 → o.txs = .onBus ∨ (o.txs = .pending ∧ o.next.isSome = true) →
        (t.can p).obj[k.val]? = some { o with
          next := some x, drop := if o.next.isSome then incSat 255 o.drop else o.drop }) ∧
      (s.canOn p = true → s.canMode p = 1 → o.txs ≠ .pending → o.txs ≠ .onBus →
        (t.can p).obj[k.val]? = some { o with data := x, txs := .pending, cancel := false }) ∧
      (∀ j, j ≠ k.val → (t.can p).obj[j]? = (s.can p).obj[j]?) ∧
      t = s.setCan p fun c => { c with due := (t.can p).due, obj := (t.can p).obj }) ∧
  (∀ (s : State) (p : CPort) (k : Fin 128) (d : List Byte), (s.can p).due.find? (fun y => y.1 == k.val) = some (k.val, d) →
    s.xtalB = false →
    ∃ t, exec (.canPeriodicQueue p k) s = .next t ∧ (t.can p).due = (s.can p).due.filter (fun y => y.1 != k.val) ∧
      (t.can p).obj = (s.can p).obj ∧
      ((s.can p).ac < 32 → (t.can p).ac = (s.can p).ac + 1 ∧ t.flt = s.flt) ∧
      (32 ≤ (s.can p).ac → (t.can p).ac = (s.can p).ac ∧ (s.srcWhole → (t.fs 72).latch = true)) ∧
      (∀ q, q ≠ p → t.can q = s.can q) ∧ t.cha = s.cha ∧ t.chb = s.chb ∧ t.meas = s.meas) ∧
  (∀ (s : State) (p : CPort) (k : Fin 128), (s.can p).due.find? (fun x => x.1 == k.val) = none →
    exec (.canPeriodicQueue p k) s = .next s) ∧
  (∀ (s : State) (p : CPort) (k : Fin 128) (o : ObjS), (s.can p).obj[k.val]? = some o → s.objTx p k = true → s.objCont p k = 0 →
    o.txs ≠ .pending → o.txs ≠ .onBus → s.plainFed = true → s.xtalB = true →
    exec (.objSend p k 0xC3) s = .next (s.setCan p fun c => { c with
      obj := c.obj.set k.val (if s.canOn p && s.canMode p == 1 then
        { o with data := padTo (dlcLen (s.objDlc p k)) o.data, txs := .pending, cancel := false }
        else { o with data := padTo (dlcLen (s.objDlc p k)) o.data, txs := .discarded, next := none }) })) ∧
  (∀ (s : State) (p : CPort) (k : Fin 128) (key : BitVec 8),
    key ≠ 0xC3 ∨ s.objTx p k = false ∨ s.objCont p k ≠ 0 ∨ (s.objAt p k).txs = .pending ∨ (s.objAt p k).txs = .onBus ∨
      s.plainFed = false →
    exec (.objSend p k key) s = .next s) ∧
  (∀ (s : State) (p : CPort) (k : Fin 128) (key : BitVec 8), key ≠ 0xC3 ∨ s.objTx p k = false →
    exec (.objCancel p k key) s = .next s) ∧
  (∀ (s : State) (p : CPort) (k : Fin 128) (o : ObjS), (s.can p).obj[k.val]? = some o → s.objTx p k = true →
    (o.txs = .pending → exec (.objCancel p k 0xC3) s = .next (s.setCan p fun c => { c with
      obj := c.obj.set k.val { o with txs := .cancelled, next := none } })) ∧
    (o.txs = .onBus → exec (.objCancel p k 0xC3) s = .next (s.setCan p fun c => { c with
      obj := c.obj.set k.val { o with cancel := true, next := none } })) ∧
    (o.txs ≠ .pending → o.txs ≠ .onBus → exec (.objCancel p k 0xC3) s = .next s)) ∧
  (∀ (s : State) (p : CPort) (k : Fin 128) (o : ObjS) (how : BusEnd) (ofs : BitVec 16) (dly : Nat) (once fast : Bool),
    (s.can p).obj[k.val]? = some o → s.canLive p = true → (o.txs = .onBus ∨ o.txs = .pending) →
    once = (o.cancel || (s.on .ONESHOT (objIx p k) && s.objCont p k != 1)) →
    fast = (s.objPar .FMT p k == 2 && s.on .TDC (portIx p)) →
    (how = .complete → fast = true → dly + s.nat .TDCO (portIx p) ≤ 127) →
    ∃ t u, exec (.canFrameEnd p k how ofs dly) s = .next t ∧ (t.can p).obj[k.val]? = some u ∧
      (how = .complete → u.cnt = incSat 65535 o.cnt ∧ u.ofs = ofs ∧ u.cancel = false ∧ u.next = none ∧
        u.beat = (if s.beat.offNs + 62500 < 25 * ofs.toNat then s.beat.num - 1 else s.beat.num) ∧
        (∀ d, o.next = some d → u.txs = .pending ∧ u.data = d) ∧
        (o.next = none → u.data = o.data ∧ u.txs = if o.cancel then .late else .sent) ∧
        (t.can p).txErr = (s.can p).txErr - 1 ∧ (t.can p).errs = (s.can p).errs ∧
        (t.can p).tdc = (if fast = true then min 255 dly else (s.can p).tdc)) ∧
      (how ≠ .complete → u.cnt = o.cnt ∧ (once = false → u = { o with txs := .pending }) ∧
        (once = true → u.cancel = false ∧ u.next = none ∧
          (∀ d, o.next = some d → u.txs = .pending ∧ u.data = d) ∧ (o.next = none → u.data = o.data))) ∧
      (how = .lostArbitration → (once = true → o.next = none → u.txs = .cancelled) ∧
        (t.can p).txErr = (s.can p).txErr ∧ (t.can p).errs = (s.can p).errs ∧ (t.can p).tdc = (s.can p).tdc) ∧
      (∀ code dp, how = .error code dp → (once = true → o.next = none → u.txs = .error) ∧
        ((s.can p).state ≠ .passive ∨ code ≠ 3 → (t.can p).txErr = min 256 ((s.can p).txErr + 8)) ∧
        (t.can p).errs = incSat 65535 (s.can p).errs ∧ (t.can p).lecCode = code.val ∧ (t.can p).lecData = dp ∧
        (t.can p).tdc = (if fast = true ∧ dly ≠ 0 then min 255 dly else (s.can p).tdc)) ∧
      (t.can p).state = (if 255 < (t.can p).txErr then .recovery
        else if 127 < (t.can p).txErr ∨ 127 < (t.can p).rxErr then .passive else .active) ∧
      ((t.can p).state ≠ .recovery ∨ (s.can p).state = .recovery → ∀ j, j ≠ k.val → (t.can p).obj[j]? = (s.can p).obj[j]?) ∧
      (∀ q, q ≠ p → t.can q = s.can q) ∧ t.beat = s.beat ∧ t.cha = s.cha ∧ t.chb = s.chb ∧ t.meas = s.meas) ∧
  (∀ (s : State) (p : CPort) (k : Fin 128) (o : ObjS) (ofs : BitVec 16) (dly : Nat),
    (s.can p).obj[k.val]? = some o → s.canLive p = true → o.txs = .onBus → o.cancel = false →
    s.on .ONESHOT (objIx p k) = false → s.objPar .FMT p k = 2 → s.on .TDC (portIx p) = true →
    127 < dly + s.nat .TDCO (portIx p) → (s.can p).txErr < 120 →
    ∃ t, exec (.canFrameEnd p k .complete ofs dly) s = .next t ∧
      (t.can p).obj[k.val]? = some { o with txs := .pending } ∧ (t.can p).errs = incSat 65535 (s.can p).errs ∧
      (t.can p).txErr = (s.can p).txErr + 8 ∧ (t.can p).lecData = true ∧ ((t.can p).lecCode = 4 ∨ (t.can p).lecCode = 5)) ∧
  (∀ (s : State) (p : CPort) (k : Fin 128) (how : BusEnd) (ofs : BitVec 16) (dly : Nat), s.canLive p = false →
    exec (.canFrameEnd p k how ofs dly) s = .next s)

/-- CAN_FRAME_RECEIVE, FIFO_POP, FIFO_FLUSH, ODATA0_READ (R428, R437, R438, R451; a telegram's room in the FIFO: log entry 73): a
received frame goes to the receive object with its identifier, NEW and its count set, a second one unread counting as dropped, a
remote frame without data; a telegram goes on to both channels; without an object it goes through the first matching filter to a
FIFO of 64 frames, is rejected or counts as unmatched; POP moves the oldest frame into the window; a flush needs the key; a read of
ODATA0 clears NEW of a receive object. -/
def Obligations.ReceiveObjects : Prop :=
(∀ (s : State) (p : CPort) (f : CanFrame) (endNs k : Nat) (o : ObjS), s.canLive p = true → s.rxObj p f = some k →
    (s.can p).obj[k]? = some o →
    ∃ t, exec (.canFrameReceive p f endNs) s = .next t ∧
      ((s.can p).txErr ≤ 255 → (t.can p).obj = (s.can p).obj.set k { o with
        data := (if f.rtr then [] else f.data), fresh := true, drop := (if o.fresh then incSat 255 o.drop else o.drop)
        cnt := incSat 65535 o.cnt
        beat := (if endNs < 25 * f.ofs.toNat then s.beat.num - 1 else s.beat.num), ofs := f.ofs }) ∧
      (∃ u, (t.can p).obj[k]? = some u ∧ u.data = (if f.rtr then [] else f.data) ∧ u.fresh = true ∧ u.cnt = incSat 65535 o.cnt) ∧
      (t.can p).fifo0 = (s.can p).fifo0 ∧ (t.can p).fifo1 = (s.can p).fifo1 ∧
      (∀ q, q ≠ p → t.can q = s.can q) ∧ t.meas = s.meas ∧ t.safe = s.safe ∧
      (t.can p).rxErr = (if 127 < (s.can p).rxErr then 127 else (s.can p).rxErr - 1) ∧
      t.beat = { s.beat with offNs := max s.beat.offNs endNs } ∧
      (s.objCont p k ≠ 1 → t.cha = s.cha ∧ t.chb = s.chb) ∧
      (s.objCont p k = 1 → s.runs .a = true → s.telFits .a p = true → s.runs .b = true → s.telFits .b p = true →
        t.cha = { s.cha with telIn := s.cha.telIn ++
          [⟨s.nat .TEL (objIx p k), p, if f.rtr then [] else f.data, if endNs < 840000 then s.beat.num else s.beat.num + 1⟩] } ∧
        t.chb = { s.chb with telIn := s.chb.telIn ++
          [⟨s.nat .TEL (objIx p k), p, if f.rtr then [] else f.data, if endNs < 840000 then s.beat.num else s.beat.num + 1⟩] })) ∧
  (∀ (s : State) (p : CPort) (f : CanFrame) (endNs : Nat), s.canLive p = true → s.rxObj p f = none →
    (∀ i < 32, s.filterHits p f i = false) →
    ∃ t, exec (.canFrameReceive p f endNs) s = .next t ∧ (t.can p).noMatch = incSat 65535 (s.can p).noMatch ∧
      ((s.can p).txErr ≤ 255 → (t.can p).obj = (s.can p).obj) ∧ (t.can p).fifo0 = (s.can p).fifo0 ∧
      (t.can p).fifo1 = (s.can p).fifo1) ∧
  (∀ (s : State) (p : CPort) (f : CanFrame) (endNs i : Nat), s.canLive p = true → s.rxObj p f = none → i < 32 →
    s.filterHits p f i = true → (∀ j < i, s.filterHits p f j = false) →
    ∃ t, exec (.canFrameReceive p f endNs) s = .next t ∧ (t.can p).noMatch = (s.can p).noMatch ∧
      ((s.can p).txErr ≤ 255 → (t.can p).obj = (s.can p).obj) ∧
      (s.nat .TARGET (32 * (portIx p - 1) + i) = 1 →
        ((s.can p).fifo0.length < 64 → (t.can p).fifo0 = (s.can p).fifo0 ++
          [⟨if f.rtr then { f with data := [] } else f, i, if endNs < 25 * f.ofs.toNat then s.beat.num - 1 else s.beat.num, false⟩]) ∧
        (64 ≤ (s.can p).fifo0.length → (t.can p).fifo0 = (s.can p).fifo0 ∧ (t.can p).ovr0 = incSat 255 (s.can p).ovr0) ∧
        (t.can p).fifo1 = (s.can p).fifo1) ∧
      (s.nat .TARGET (32 * (portIx p - 1) + i) = 2 →
        ((s.can p).fifo1.length < 64 → (t.can p).fifo1 = (s.can p).fifo1 ++
          [⟨if f.rtr then { f with data := [] } else f, i, if endNs < 25 * f.ofs.toNat then s.beat.num - 1 else s.beat.num, true⟩]) ∧
        (64 ≤ (s.can p).fifo1.length → (t.can p).fifo1 = (s.can p).fifo1 ∧ (t.can p).ovr1 = incSat 255 (s.can p).ovr1) ∧
        (t.can p).fifo0 = (s.can p).fifo0) ∧
      (s.nat .TARGET (32 * (portIx p - 1) + i) = 3 →
        (t.can p).fifo0 = (s.can p).fifo0 ∧ (t.can p).fifo1 = (s.can p).fifo1)) ∧
  (∀ (s : State) (p : CPort) (f : CanFrame) (endNs : Nat), s.canLive p = false → exec (.canFrameReceive p f endNs) s = .next s) ∧
  (∀ (s : State) (pa : Path) (p : CPort),
    exec (.fifoPop pa p false) s = .next (s.setCan p fun c => { c with window := c.fifo0.head?, fifo0 := c.fifo0.drop 1 }) ∧
    exec (.fifoPop pa p true) s = .next (s.setCan p fun c => { c with window := c.fifo1.head?, fifo1 := c.fifo1.drop 1 })) ∧
  (∀ (s : State) (pa : Path) (p : CPort) (key : BitVec 8) (f0 f1 : Bool),
    exec (.fifoFlush pa p key f0 f1) s =
      .next (if key = 0xC3 then s.setCan p fun c => { c with
        fifo0 := (if f0 then [] else c.fifo0), fifo1 := (if f1 then [] else c.fifo1) } else s)) ∧
  (∀ (s : State) (pa : Path) (p : CPort) (o : ObjS), (s.can p).obj[(s.can p).osel.toNat]? = some o →
    exec (.odata0Read pa p) s = .next (s.setCan p fun c => { c with
      obj := c.obj.set c.osel.toNat { o with fresh := o.fresh && s.on .DIR (objIx p (s.can p).osel.toNat) } }))

/-- CAN_ERROR_STATE, BUS_OFF_RECOVERY, CAN_WAKE (R25, R439, R440, R441, R442, R497): error passive and bus-off raise FS62 or FS63 and
bus-off puts a frame on the bus back among the pending ones; the counters alone give the state, and an error seen is shown; the 128
sequences lead into BOFF_HOLD beats, after which the port is error active with both counters 0; a wake pattern, a frame that matches
the WUF, or a frame error counter above 31 (log entry 102), as the port's WAKE_MODE enables it, records its cause and starts the
module from Listen where VS allows it.

REFERENCE_SEND, REFERENCE_RECEIVE, TT_MASTER_RESUME, CAL_RECEIVE (R443, R444, R445, R446; the rate's trim: log entry 90; EXT in
CLK_A cycles: log entry 103): the time master puts its waiting reference, with the cycle count and how much later than the nominal
mark it is, on an idle bus; a slave takes the accepted reference with the lowest identifier of the beat, its target CANT_PHASE after
the mark less EXT under REF_EXT; a master yields to a lower identifier than its own and resumes after three beats without one; a calendar message that differs
by more than CAL_STEP milliseconds moves the calendar by the difference, with its record, and a smaller difference trims the rate. -/
def Obligations.CanPorts : Prop :=
  (∀ (s : State) (p : CPort) (tec rxc : Nat) (e : Option (Fin 8 × Bool)), s.canLive p = true → tec ≤ 255 → (127 < tec ∨ 127 < rxc) →
    ∃ t, exec (.canErrorState p tec rxc e) s = .next t ∧ (t.can p).state = .passive ∧
      (t.can p).pasv = (if (s.can p).state = .passive then (s.can p).pasv else incSat 255 (s.can p).pasv) ∧
      (t.can p).txErr = tec ∧ (t.can p).rxErr = min 255 rxc ∧ (t.can p).obj = (s.can p).obj ∧
      (s.srcWhole → (s.can p).state ≠ .passive → (t.fs (if p = .can1 then 62 else 63)).latch = true ∧
        (t.fs (if p = .can1 then 62 else 63)).cond = true) ∧ (∀ q, q ≠ p → t.can q = s.can q) ∧
      t.beat = s.beat ∧ t.cha = s.cha ∧ t.chb = s.chb ∧ t.meas = s.meas) ∧
  (∀ (s : State) (p : CPort) (tec rxc : Nat) (e : Option (Fin 8 × Bool)), s.canLive p = true → 255 < tec →
    ∃ t, exec (.canErrorState p tec rxc e) s = .next t ∧ (t.can p).state = .recovery ∧
      (t.can p).boff = incSat 255 (s.can p).boff ∧ (t.can p).txErr = 256 ∧
      (t.can p).obj = (s.can p).obj.map (fun o => if o.txs = .onBus then { o with txs := .pending } else o) ∧
      (s.srcWhole → (t.fs (if p = .can1 then 62 else 63)).latch = true ∧ (t.fs (if p = .can1 then 62 else 63)).cond = true) ∧
      (∀ q, q ≠ p → t.can q = s.can q) ∧ t.beat = s.beat ∧ t.cha = s.cha ∧ t.chb = s.chb ∧ t.meas = s.meas) ∧
  (∀ (s : State) (p : CPort) (tec rxc : Nat) (e : Option (Fin 8 × Bool)), s.canLive p = true → tec ≤ 127 → rxc ≤ 127 →
    ∃ t, exec (.canErrorState p tec rxc e) s = .next t ∧ (t.can p).state = .active ∧
      (t.can p).txErr = tec ∧ (t.can p).rxErr = rxc ∧ (t.can p).obj = (s.can p).obj ∧
      ((s.can p).state = .passive → (t.fs (if p = .can1 then 62 else 63)).cond = false) ∧ (∀ q, q ≠ p → t.can q = s.can q) ∧
      t = { s with can1 := t.can1, can2 := t.can2, flt := t.flt }) ∧
  (∀ (s : State) (p : CPort) (tec rxc : Nat) (e : Fin 8) (dp : Bool), s.canLive p = true →
    ∃ t, exec (.canErrorState p tec rxc (some (e, dp))) s = .next t ∧ (t.can p).errs = incSat 65535 (s.can p).errs ∧
      (t.can p).lecCode = e.val ∧ (t.can p).lecData = dp) ∧
  (∀ (s : State) (p : CPort) (tec rxc : Nat), s.canLive p = true →
    ∃ t, exec (.canErrorState p tec rxc none) s = .next t ∧ (t.can p).errs = (s.can p).errs ∧
      (t.can p).lecCode = (s.can p).lecCode) ∧
  (∀ (s : State) (p : CPort) (tec rxc : Nat) (e : Option (Fin 8 × Bool)), s.canLive p = false →
    exec (.canErrorState p tec rxc e) s = .next s) ∧
  (∀ (s : State) (p : CPort), (s.can p).state = .recovery →
    exec (.busOffRecovery p true) s = .next (s.setCan p fun c => { c with
      state := .hold, left := s.nat .BOFF_HOLD (portIx p), holdRun := false }) ∧
    exec (.busOffRecovery p false) s = .next s) ∧
  (∀ (s : State) (p : CPort) (b : Bool), (s.can p).state = .hold → (s.can p).holdRun = true → (s.can p).left = 0 → s.srcWhole →
    ∃ t, exec (.busOffRecovery p b) s = .next t ∧ (t.can p).state = .active ∧ (t.can p).txErr = 0 ∧ (t.can p).rxErr = 0 ∧
      (t.can p).obj = (s.can p).obj ∧ (t.fs (if p = .can1 then 62 else 63)).cond = false ∧
      (∀ q, q ≠ p → t.can q = s.can q) ∧
      t = { s with can1 := t.can1, can2 := t.can2, flt := t.flt }) ∧
  (∀ (s : State) (p : CPort) (b : Bool), (s.can p).state ≠ .recovery →
    (s.can p).state ≠ .hold ∨ (s.can p).holdRun = false ∨ (s.can p).left ≠ 0 → exec (.busOffRecovery p b) s = .next s) ∧
  (∀ (s : State) (p : CPort) (m : Nat) (w : Wuf) (x : WakeSeen) (n : Nat) (k : BitVec 3), s.pwr.state = .listen →
    s.pwr.canModes[portIx p - 1]? = some m → s.pwr.canWufs[portIx p - 1]? = some w →
    (x = .pattern ∧ m.testBit 0 = true ∧ n = (s.can p).wakeErrs ∧ k = 1 ∨
      (∃ f, x = .frame f ∧ f.fdf = false ∧ m.testBit 1 = true ∧ w.hits f = true ∧ n = (s.can p).wakeErrs - 1 ∧ k = 2) ∨
      x = .badFrame ∧ m.testBit 1 = true ∧ 31 ≤ (s.can p).wakeErrs ∧ n = 32 ∧ k = 4) →
    (if p = .can1 then 0x20 else 0x40) &&& s.pwr.wakeEn ≠ 0 → s.pwr.vsGood = true →
    ∃ t, exec (canWakeOf p x) s = .next t ∧ t.pwr.state = .start 2 ∧ t.pwr.cause = 8 ∧
      (t.can p).wakeCause = k ∧ (t.can p).wakeErrs = n ∧
      t.pwr.wakeCause = s.pwr.wakeLatch ||| (if p = .can1 then 0x20 else 0x40) ∧
      t.pwr.wakes = incSat 65535 s.pwr.wakes ∧ t = { s with can1 := t.can1, can2 := t.can2, pwr := t.pwr }) ∧
  (∀ (s : State) (p : CPort) (x : WakeSeen), s.pwr.state ≠ .listen → exec (canWakeOf p x) s = .next s) ∧
  (∀ (s : State) (p : CPort) (w b : Bool) (f : Option CanFrame), ∃ t u v, exec (.canWake p w false none) s = .next t ∧
    exec (.canWake p false b none) t = .next u ∧ exec (.canWake p false false f) u = .next v ∧
    exec (.canWake p w b f) s = .next v ∧ (s.pwr.state ≠ .listen → v = s)) ∧
  (∀ (s : State) (p : CPort) (x : WakeSeen), s.pwr.state = .listen →
    ((if p = .can1 then 0x20 else 0x40) &&& s.pwr.wakeEn = 0 ∨
      s.pwr.canModes[portIx p - 1]? = some 0 ∨ (x = .badFrame ∧ (s.can p).wakeErrs < 31)) →
    exec (canWakeOf p x) s = .next (s.setCan p fun c => { c with wakeErrs := match x with
      | .pattern => c.wakeErrs
      | .frame f => if f.fdf then c.wakeErrs else c.wakeErrs - 1
      | .badFrame => min 32 (c.wakeErrs + 1) })) ∧
  (∀ (w : Wuf) (f : CanFrame), w.hits f = true ↔ f.fdf = false ∧ f.ide = w.id.getLsbD 31 ∧
    (∀ i < 29, w.idMask.getLsbD i = true → f.id.getLsbD i = w.id.getLsbD i) ∧ f.dlc.toNat = w.dlc ∧
    ∀ i < 8, w.dmask.testBit i = true → i < f.dlc.toNat →
      f.data[i]? = some (BitVec.ofNat 8 ((if i < 4 then w.d0 else w.d1).toNat / 256 ^ (3 - i % 4)))) ∧
  (∀ (s : State) (us cy mark k : Nat) (o : ObjS), mark = 80 * us + cy → s.nat .TT_ROLE = 2 → (s.can s.ttPort).ttState ≠ 2 → s.canLive s.ttPort = true →
    (∀ x ∈ (s.can s.ttPort).obj, x.txs ≠ .onBus) → s.nominalMark ≤ mark →
    (s.can s.ttPort).obj[k]? = some o → o.txs = .pending → s.objCont s.ttPort k = 6 →
    (∀ (j : Nat) (x : ObjS), j < k → (s.can s.ttPort).obj[j]? = some x → x.txs = .pending → s.objCont s.ttPort j ≠ 6) →
    ∃ t e, exec (.referenceSend us cy) s = .next t ∧ e = BitVec.ofNat 16 (min 65535 (mark - s.nominalMark)) ∧
      (t.can s.ttPort).obj = (s.can s.ttPort).obj.set k { o with
        data := bytesOf 1 ((s.can s.ttPort).txCyc % 64) ++ [0] ++ bytesOf 2 e.toNat, txs := .onBus, cancel := false
        esi := decide (1 ≤ s.objPar .FMT s.ttPort k) && (s.can s.ttPort).state == .passive } ∧
      (t.can s.ttPort).ttState = 1 ∧ (t.can s.ttPort).cyc = (s.can s.ttPort).txCyc ∧ (t.can s.ttPort).refExt = e ∧
      (t.can s.ttPort).refOfs = BitVec.ofNat 16 (mark / 2) ∧
      (∀ q, q ≠ s.ttPort → t.can q = s.can q) ∧ t = { s with can1 := t.can1, can2 := t.can2 }) ∧
  (∀ (s : State) (us cy : Nat), (s.can s.ttPort).ttState = 2 ∨ s.nat .TT_ROLE ≠ 2 ∨ 80 * us + cy < s.nominalMark ∨
      s.canLive s.ttPort = false ∨ (∃ x ∈ (s.can s.ttPort).obj, x.txs = .onBus) →
    exec (.referenceSend us cy) s = .next s) ∧
  (∀ s : State, s.nominalMark = 80 * s.nat .TM_OFS + (1 + s.nat .TSEG1 (portIx s.ttPort)) * s.nat .BRP (portIx s.ttPort)) ∧
  (∀ (s : State) (f : CanFrame) (iv : Nat) (dev : Int), s.nat .TT_ROLE = 1 → s.canLive s.ttPort = true → s.refOk f = true →
    (s.can s.ttPort).refId.any (fun i => decide (i ≤ f.id.toNat)) = false →
    ∃ t, exec (.referenceReceive f iv dev) s = .next t ∧ (t.can s.ttPort).refId = some f.id.toNat ∧
      (t.can s.ttPort).cyc = numAt f.data 0 1 % 64 ∧ (t.can s.ttPort).ttState = 3 ∧ (t.can s.ttPort).refOfs = f.ofs ∧
      (t.can s.ttPort).refLag = s.targetLag f ∧
      (∀ n : Nat, s.ownBeat = true → s.beat.srcSel = 2 → (n : Int) = iv + s.targetLag f - (s.can s.ttPort).lagPrev →
        t.beat = s.beat.busReference
          (intervalOk n && (s.beat.lock != .locked || decide ((dev + s.targetLag f).natAbs ≤ 5000))) n) ∧
      (s.ownBeat = false ∨ s.beat.srcSel ≠ 2 → t.beat = s.beat) ∧
      (∀ q, q ≠ s.ttPort → t.can q = s.can q) ∧ t = { s with can1 := t.can1, can2 := t.can2, beat := t.beat }) ∧
  (∀ (s : State) (f : CanFrame) (iv : Nat) (dev : Int), s.nat .TT_ROLE = 2 → s.canLive s.ttPort = true → s.refOk f = true →
    (s.can s.ttPort).refId.any (fun i => decide (i ≤ f.id.toNat)) = false →
    ∃ t, exec (.referenceReceive f iv dev) s = .next t ∧ (t.can s.ttPort).refId = some f.id.toNat ∧
      (t.can s.ttPort).cyc = numAt f.data 0 1 % 64 ∧
      (f.id.toNat < s.nat .REF_ID → (t.can s.ttPort).higher = true ∧ (t.can s.ttPort).ttState = 2) ∧
      (s.nat .REF_ID ≤ f.id.toNat → (t.can s.ttPort).higher = (s.can s.ttPort).higher ∧
        (t.can s.ttPort).ttState = (s.can s.ttPort).ttState) ∧
      (∀ q, q ≠ s.ttPort → t.can q = s.can q) ∧ t = { s with can1 := t.can1, can2 := t.can2 }) ∧
  (∀ (s : State) (f : CanFrame) (iv : Nat) (dev : Int),
    s.refOk f = false ∨ s.nat .TT_ROLE = 0 ∨ (s.can s.ttPort).refId.any (fun i => decide (i ≤ f.id.toNat)) = true →
    exec (.referenceReceive f iv dev) s = .next s) ∧
  (∀ s : State, (s.can s.ttPort).ttState = 2 → 3 ≤ (s.can s.ttPort).higherMissed →
    ∃ t, exec .ttMasterResume s = .next t ∧ (t.can s.ttPort).ttState = 1 ∧ (t.can s.ttPort).higherMissed = 0 ∧
      (s.txObjOf s.ttPort 6 = none → t = s.setCan s.ttPort fun c => { c with ttState := 1, higherMissed := 0 }) ∧
      (∀ k o, s.txObjOf s.ttPort 6 = some k → (s.can s.ttPort).obj[k]? = some o → s.plainFed = true → s.xtalB = true →
        s.canOn s.ttPort = true → s.canMode s.ttPort = 1 → o.txs ≠ .pending → o.txs ≠ .onBus →
        (t.can s.ttPort).obj = (s.can s.ttPort).obj.set k { o with
          data := padTo (dlcLen (s.objDlc s.ttPort k)) (bytesOf 1 ((s.can s.ttPort).txCyc % 64) ++ [0, 0, 0])
          txs := .pending, cancel := false })) ∧
  (∀ (s : State) (f : CanFrame), s.targetLag f = 200 * s.beat.cantPhase.toNat -
    (if s.on .REF_EXT = true ∧ 4 ≤ f.dlc.toNat then ((numAt f.data 2 2 % 65536 : Nat) : Int) * 5 / 2 else 0)) ∧
  (∀ (s : State) (f : CanFrame), s.refOk f = true ↔ f.ide = false ∧ f.rtr = false ∧ f.id.toNat / 8 = s.nat .REF_ID / 8 ∧
    1 ≤ f.dlc.toNat ∧ ∀ n, (s.can s.ttPort).refPrev = some n → numAt f.data 0 1 % 64 = (n + 1) % (s.nat .CYC_MAX + 1)) ∧
  (∀ s : State, (s.can s.ttPort).higherMissed < 3 ∨ (s.can s.ttPort).ttState ≠ 2 → exec .ttMasterResume s = .next s) ∧
  (∀ (s : State) (f : CanFrame) (sec frac : Nat) (d x : Int), s.nat .TT_ROLE = 1 → s.on .CAL_EN = true → f.dlc = 8 →
    (numAt f.data 7 1).testBit 0 = true → numAt f.data 6 1 ∈ (s.can s.ttPort).refCycs →
    d = ((numAt f.data 0 4 * 65536 + numAt f.data 4 2 : Nat) : Int) - ((sec * 65536 + frac : Nat) : Int) →
    x = ((s.log.calSec.toNat * 65536 + s.log.calFrac.toNat : Nat) : Int) + d → s.fltShown = none → s.beat.running = true →
    (s.nat .CAL_STEP * 65536 < 1000 * d.natAbs →
      exec (.calReceive f sec frac) s = .next { s with log := { s.log with
        calSec := BitVec.ofNat 32 (x / 65536).toNat, calFrac := BitVec.ofNat 16 (x % 65536).toNat, calValid := true
        intake := s.log.intake ++ [⟨.management, 3, [s.log.calSec, BitVec.ofNat 32 (x / 65536).toNat, 2]⟩] } }) ∧
    (1000 * d.natAbs ≤ s.nat .CAL_STEP * 65536 →
      ∃ r : Int, exec (.calReceive f sec frac) s = .next { s with log := { s.log with calTrim := r } } ∧ r.natAbs ≤ 100 ∧
        0 ≤ r * d)) ∧
  (∀ (s : State) (f : CanFrame) (sec frac : Nat),
    s.on .CAL_EN = false ∨ s.nat .TT_ROLE ≠ 1 ∨ numAt f.data 6 1 ∉ (s.can s.ttPort).refCycs →
    exec (.calReceive f sec frac) s = .next s)

/-- SAFE_TELEGRAM_SEND, SAFE_TELEGRAM_RECEIVE, PAIR_JUDGEMENT, TELEGRAM_LOST, CMD_TELEGRAM (R27, R340, R341, R342, R435, R448; the
telegrams that fill XS_CA and XS_CB: log entry 73): the copies of a telegram composed for the boundary become pending on their
ports; a received copy that passes the checks waits for its evaluation in every running channel that has room for it, another is
counted; each channel judges its copies of the beat once; T_RX beats of silence make the telegram lost; a command telegram that every
present channel accepted stages its request, another is discarded and counted.

R341, R342: what one copy does in the beat table of its telegram: a copy that fails a check is discarded and counted; the first
good one waits; an equal one from the other port completes the pair, which is accepted, ends the loss and the single-copy run; a
differing one is rejected and counted; a second copy from the same port changes nothing; a copy without its pair after T_PAIR beats
is accepted while the single run is shorter than T_SINGLE; an RD copy after T_RDRX makes the telegram lost. -/
def Obligations.SafeTelegrams : Prop :=
  (∀ (s : State) (n : Fin 64) (p : CPort) (k : Nat) (d : List Byte) (o : ObjS),
    (((s.can p).due.map (·.1)).filter fun j => s.objCont p j == 1 && s.nat .TEL (objIx p j) == n.val) = [k] →
    (s.can p).due.find? (fun y => y.1 == k) = some (k, d) → (s.can p).obj[k]? = some o → s.xtalB = true → s.canOn p = true → s.canMode p = 1 →
    ∃ t, exec (.safeTelegramSend n) s = .next t ∧ (t.can p).due = (s.can p).due.filter (fun y => y.1 != k) ∧
      (o.txs = .pending → o.next = none → (t.can p).obj[k]? = some { o with
        data := padTo (dlcLen (s.objDlc p k)) d, drop := incSat 255 o.drop }) ∧
      (o.txs = .pending → o.next.isSome = true → (t.can p).obj[k]? = some { o with
        next := some (padTo (dlcLen (s.objDlc p k)) d), drop := incSat 255 o.drop }) ∧
      (o.txs = .onBus → (t.can p).obj[k]? = some { o with
        next := some (padTo (dlcLen (s.objDlc p k)) d)
        drop := if o.next.isSome then incSat 255 o.drop else o.drop }) ∧
      (o.txs ≠ .pending → o.txs ≠ .onBus → (t.can p).obj[k]? = some { o with
        data := padTo (dlcLen (s.objDlc p k)) d, txs := .pending, cancel := false }) ∧
      (∀ j, j ≠ k → (t.can p).obj[j]? = (s.can p).obj[j]?) ∧ t = { s with can1 := t.can1, can2 := t.can2 }) ∧
  (∀ (s : State) (n : Fin 64),
    (∀ p : CPort, (((s.can p).due.map (·.1)).filter fun j => s.objCont p j == 1 && s.nat .TEL (objIx p j) == n.val) = []) →
    exec (.safeTelegramSend n) s = .next s) ∧
  (∀ (s : State) (p : CPort) (f : CanFrame) (n : Nat) (ch : Ch) (x : TelRx) (i : TelIn), s.telOf p f = some n → n < 64 →
    s.runs ch = true → (s.chan ch).tel[n]? = some x →
    i = ⟨n, p, f.data, if s.beat.offNs < 840000 then s.beat.num else s.beat.num + 1⟩ →
    ∃ t, exec (.safeTelegramReceive p f) s = .next t ∧ t.beat = s.beat ∧ t.meas = s.meas ∧ t.safe = s.safe ∧ t.can1 = s.can1 ∧
      t.can2 = s.can2 ∧ (t.chan ch).seq = (s.chan ch).seq ∧
      (s.telOk n x f.data = true → (t.chan ch).tel = (s.chan ch).tel ∧ (t.chan ch).telIn =
        (if i ∈ (s.chan ch).telIn ∨ s.telFits ch p = false then (s.chan ch).telIn else (s.chan ch).telIn ++ [i])) ∧
      (s.telOk n x f.data = false → (t.chan ch).tel = (s.chan ch).tel.set n { x with bad := incSat 65535 x.bad } ∧
        (t.chan ch).telIn = (s.chan ch).telIn.erase i)) ∧
  (∀ (s : State) (p : CPort) (f : CanFrame), s.telOf p f = none → exec (.safeTelegramReceive p f) s = .next s) ∧
  (∀ (s : State) (n : Fin 64) (ch : Ch) (x : TelRx), s.evalAt 23 → s.telUsed (64 + n.val) = true → s.evals ch = true →
    n.val ∉ s.safe.telJudged → (s.chan ch).tel[n.val]? = some x →
    ∃ t, exec (.pairJudgement n) s = .next t ∧ (t.chan ch).tel = (s.chan ch).tel.set n.val (s.telJudge (s.chan ch) n.val x).1 ∧
      (t.chan ch).telIn = (s.chan ch).telIn.filter (fun i => !(i.tel == n.val && i.beat == s.beat.num)) ∧
      n.val ∈ t.safe.telJudged ∧ (∀ i, i ≠ n.val → (i ∈ t.safe.telJudged ↔ i ∈ s.safe.telJudged)) ∧
      (t.chan ch).seq = (s.chan ch).seq ∧ t.meas = s.meas ∧ t.can1 = s.can1 ∧ t.can2 = s.can2) ∧
  (∀ (s : State) (n : Fin 64) (ch : Ch) (x : TelRx), s.evalAt 24 → s.telUsed (64 + n.val) = true → s.evals ch = true →
    n.val ∈ s.safe.telJudged → n.val ∉ s.safe.telTimed → (s.chan ch).tel[n.val]? = some x →
    ∃ t y, exec (.telegramLost n) s = .next t ∧ (t.chan ch).tel = (s.chan ch).tel.set n.val y ∧
      (s.nat .T_RX ≤ x.silent → y.lost = true) ∧ (x.silent < s.nat .T_RX → x.rdLast = false → y.lost = x.lost) ∧
      (x.rdLast = true → s.rdOver x = true → y.lost = true) ∧ y.silent = incSat 4294967295 x.silent ∧
      y.payload = x.payload ∧ n.val ∈ t.safe.telTimed ∧ (t.chan ch).seq = (s.chan ch).seq ∧ t.meas = s.meas ∧ t.can1 = s.can1 ∧
      t.can2 = s.can2 ∧ t.flt = s.flt) ∧
  (∀ (s : State) (n : Fin 64) (a b : TelRx) (k : ReqKind), s.nat .TCONT (64 + n.val) = 1 → s.telUsed (64 + n.val) = true →
    s.cha.tel[n.val]? = some a → s.chb.tel[n.val]? = some b → s.present .a = true ∨ s.present .b = true →
    (s.present .a = true → a.cmd = true) → (s.present .b = true → b.cmd = true) →
    (s.present .a = true → s.present .b = true → a.payload = b.payload) →
    cmdKind (if s.present .a then a.payload else b.payload) = some k →
    exec (.cmdTelegram n) s = .next { s with
      cha := { s.cha with tel := s.cha.tel.set n.val { a with cmd := false } }
      chb := { s.chb with tel := s.chb.tel.set n.val { b with cmd := false } }
      safe := if (s.nat .REQ_SRC).testBit 1 then { s.safe with reqStaged := some ⟨k, .can⟩ } else s.safe }) ∧
  (∀ (s : State) (n : Fin 64) (a b : TelRx), s.nat .TCONT (64 + n.val) = 1 → s.telUsed (64 + n.val) = true →
    s.cha.tel[n.val]? = some a → s.chb.tel[n.val]? = some b → a.cmd = true ∨ b.cmd = true →
    (s.present .a = true ∧ a.cmd = false) ∨ (s.present .b = true ∧ b.cmd = false) ∨
      (s.present .a = true ∧ s.present .b = true ∧ a.payload ≠ b.payload) ∨ cmdKind (if s.present .a then a.payload else b.payload) = none →
    exec (.cmdTelegram n) s = .next { s with
      cha := { s.cha with tel := s.cha.tel.set n.val { a with cmd := false, bad := incSat 65535 a.bad } }
      chb := { s.chb with tel := s.chb.tel.set n.val { b with cmd := false, bad := incSat 65535 b.bad } } }) ∧
  (∀ (s : State) (n : Fin 64), s.cmdDue n.val = false → exec (.cmdTelegram n) s = .next s) ∧
  (cmdKind [1, 254] = some .close ∧ cmdKind [2, 253] = some .openReq ∧ cmdKind [3, 252] = some .ack ∧
    (∀ (l : List Byte), numAt l 1 1 ≠ 255 - numAt l 0 1 → cmdKind l = none)) ∧
  (∀ (s : State) (n : Nat) (p : CPort) (l : List Byte) (x : TelRx) (c : TelCopy),
    (s.telOk n x l = false → s.telEnter n p l x = ({ x with bad := incSat 65535 x.bad }, false)) ∧
    (s.telOk n x l = true → (numAt l 3 1).testBit 0 = true → s.rdOver x = true →
      s.telEnter n p l x = ({ x with lost := true }, false)) ∧
    (s.telOk n x l = true → (numAt l 3 1).testBit 0 = false ∨ s.rdOver x = false →
      ((x.copies.all fun c => c.seq != BitVec.ofNat 16 (numAt l 4 2)) = true →
        ∃ y, s.telEnter n p l x = ({ x with copies := x.copies ++ [y] }, false) ∧ y.port = p ∧ y.bytes = l ∧ y.wait = 0) ∧
      (x.copies = [c] → c.seq = BitVec.ofNat 16 (numAt l 4 2) → c.port ≠ p → c.bytes = l → ∃ y, s.telEnter n p l x = (y, false) ∧
        y.copies = [] ∧ y.lost = false ∧ y.silent = 0 ∧ y.single = none ∧ y.cmd = true ∧ y.bad = x.bad ∧ y.diff = x.diff ∧
        y.last = some (BitVec.ofNat 16 (numAt l 4 2), nword (numAt l 6 4)) ∧
        y.payload = (l.take (l.length - 4)).drop 10) ∧
      (x.copies = [c] → c.seq = BitVec.ofNat 16 (numAt l 4 2) → c.port ≠ p → c.bytes ≠ l →
        s.telEnter n p l x = ({ x with copies := [], diff := incSat 65535 x.diff }, true)) ∧
      (x.copies = [c] → c.seq = BitVec.ofNat 16 (numAt l 4 2) → c.port = p → s.telEnter n p l x = (x, false))) ∧
    (x.copies = [c] → s.nat .T_PAIR ≤ c.wait → c.rd = false → s.telOk n { x with copies := [] } c.bytes = true →
      (x.single.getD 0 < s.nat .T_SINGLE → ∃ y, s.telSingles n x = y ∧ y.copies = [] ∧ y.silent = 0 ∧ y.cmd = true ∧
        y.single = some (x.single.getD 0) ∧ y.singleCnt = incSat 65535 x.singleCnt ∧ y.lost = x.lost ∧ y.last = some (c.seq, c.stamp)) ∧
      (s.nat .T_SINGLE ≤ x.single.getD 0 → s.telSingles n x = { x with copies := [] })) ∧
    (x.copies = [c] → c.wait < s.nat .T_PAIR → s.telSingles n x = x))

/-- PORT_UP, PORT_DOWN, DELAY_EXCHANGE (R24, R41, R391, R413): a running port that serves the role comes UP and starts the listen
period of a Master that has heard none; violations are counted, and 16 of them or a loss of signal take the port DOWN; the link delay
of an UP port whose neighbour has reported its turnaround is half of what the round trip exceeds it by, in units of 8 ns.

RING_FRAME_RECEIVE (R41, R376, R392, R393, R394, R395, R396, R398, R404): a frame with a wrong CRC, or one that an injection made
bad, is counted once and goes on marked; an intact current frame is delivered and forwarded unchanged, a Master frame with its delay
field raised; a unicast frame for this unit is delivered and not forwarded; under another role or epoch it is answered as stale; an
own frame is stripped; a delay request is answered on its port with the turnaround, whose answer is kept; a port that is not UP takes
nothing. -/
def Obligations.RingPorts : Prop :=
  (∀ (s : State) (p : RPort) (x : PortS), s.ringOn = true → (p = .n ∨ p = .s ∨ 2 ≤ s.ring.role.toNat) →
    s.ring.ports[p.ix]? = some x →
    ∃ t, exec (.portUp p) s = .next t ∧ t.ring.ports[p.ix]? = some { x with up := true } ∧
      (∀ j, j ≠ p.ix → t.ring.ports[j]? = s.ring.ports[j]?) ∧
      (s.ring.listen = none → s.ring.active = false → 2 ≤ s.ring.role.toNat → s.ring.masterEpoch = 0 → (p = .n ∨ p = .s) →
        t.ring.listen = some 0) ∧ ((p = .e ∨ p = .w) → t.ring.listen = s.ring.listen) ∧
      t = { s with ring := { s.ring with ports := t.ring.ports, listen := t.ring.listen } }) ∧
  (∀ (s : State) (p : RPort), s.ringOn = false ∨ ((p = .e ∨ p = .w) ∧ s.ring.role.toNat < 2) →
    exec (.portUp p) s = .next s) ∧
  (∀ (s : State) (p : RPort) (x : PortS) (v : Nat) (loss : Bool), s.ring.ports[p.ix]? = some x →
    exec (.portDown p ⟨v, loss⟩) s = .next { s with ring := { s.ring with
      ports := s.ring.ports.set p.ix { x with
        up := if loss = true ∨ 16 ≤ v then false else x.up, cv := min 65535 (x.cv + v) } } }) ∧
  (∀ (s : State) (p : RPort) (x : PortS) (a b ta : Nat), s.ring.ports[p.ix]? = some x → x.turn = some ta → x.up = true →
    exec (.delayExchange p a b) s = .next { s with ring := { s.ring with
      ports := s.ring.ports.set p.ix { x with delay := (b - a - 8 * ta) / 16, turn := none } } }) ∧
  (∀ (s : State) (p : RPort) (x : PortS) (a b : Nat), s.ring.ports[p.ix]? = some x → x.turn = none ∨ x.up = false →
    exec (.delayExchange p a b) s = .next s) ∧
  (∀ (s : State) (p : RPort) (l : List Byte) (b : Bool), s.portUp p = false ∨ l.length < 20 →
    exec (.ringFrameReceive p l b) s = .next s) ∧
  (∀ (s : State) (p : RPort) (l : List Byte) (x : PortS), s.portUp p = true → s.portUp p.opposite = true → 20 ≤ l.length →
    frameOk l = false → s.injectsPort p = false →
    (hdrOf l).src ≠ s.addr → (hdrOf l).delivery ≠ 0 → (hdrOf l).type ≠ 7 → s.ring.ports[p.ix]? = some x →
    ∃ t, exec (.ringFrameReceive p l false) s = .next t ∧ t.ring.ports[p.ix]? = some { x with crc := incSat 65535 x.crc } ∧
      t.ring.sent = s.ring.sent ++ [(p.opposite, l, true)] ∧
      t = { s with sys := t.sys, ring := { s.ring with ports := t.ring.ports, sent := t.ring.sent } }) ∧
  (∀ (s : State) (p : RPort) (l : List Byte), s.portUp p = true → s.portUp p.opposite = true → 20 ≤ l.length →
    s.injectsPort p = false → (hdrOf l).src ≠ s.addr → (hdrOf l).delivery ≠ 0 → (hdrOf l).type ≠ 7 →
    ∃ t, exec (.ringFrameReceive p l true) s = .next t ∧ t.ring.sent = s.ring.sent ++ [(p.opposite, l, true)] ∧
      t = { s with sys := t.sys, ring := { s.ring with sent := t.ring.sent } }) ∧
  (∀ (s : State) (p : RPort) (l : List Byte) (x : PortS), s.portUp p = true → s.portUp p.opposite = true → 20 ≤ l.length →
    s.injectsPort p = true → (hdrOf l).src ≠ s.addr → (hdrOf l).delivery ≠ 0 → (hdrOf l).type ≠ 7 →
    s.ring.ports[p.ix]? = some x →
    ∃ t, exec (.ringFrameReceive p l false) s = .next t ∧ t.injectsPort p = false ∧
      t.ring.ports[p.ix]? = some { x with crc := if s.flt.injRun.any (·.full) then incSat 65535 x.crc else x.crc } ∧
      t.ring.sent = s.ring.sent ++ [(p.opposite, l, true)] ∧
      t = { s with sys := t.sys, flt := t.flt, ring := { s.ring with ports := t.ring.ports, sent := t.ring.sent } }) ∧
  (∀ (s : State) (p : RPort) (l : List Byte), s.portUp p = true → s.portUp p.opposite = true → (p = .n ∨ p = .s) →
    frameOk l = true → s.injectsPort p = false →
    (hdrOf l).src ≠ s.addr → (hdrOf l).delivery = 2 → (hdrOf l).type = 2 → s.injFrame (hdrOf l).src 2 = false → s.rxBytes p + l.length ≤ 4096 →
    ∃ t, exec (.ringFrameReceive p l false) s = .next t ∧ t.ring.rx = s.ring.rx ++ [{ port := p, bytes := l }] ∧
      t.ring.sent = s.ring.sent ++ [(p.opposite, l, false)] ∧ t.ring.heard = true ∧ t.ring.ports = s.ring.ports ∧
      t = { s with sys := t.sys, ring := { s.ring with
        rx := t.ring.rx, sent := t.ring.sent, heard := true, roster := t.ring.roster } }) ∧
  (∀ (s : State) (p : RPort) (l : List Byte) (x : PortS), s.portUp p = true → s.portUp p.opposite = true → (p = .n ∨ p = .s) →
    frameOk l = true → s.injectsPort p = false →
    (hdrOf l).src ≠ s.addr → uStr (hdrOf l).src = uStr s.addr → (hdrOf l).delivery = 2 → (hdrOf l).type = 1 → s.ring.active = false →
    s.injFrame (hdrOf l).src 1 = false → 24 ≤ l.length → s.rxBytes p + l.length ≤ 4096 → s.ring.ports[p.ix]? = some x →
    ∃ t m, exec (.ringFrameReceive p l false) s = .next t ∧ t.ring.rx = s.ring.rx ++ [{ port := p, bytes := l }] ∧
      t.ring.sent = s.ring.sent ++ [(p.opposite, m, false)] ∧ m.length = l.length ∧
      numAt m 18 2 = (numAt l 18 2 + x.delay + Config.residence p l) % 65536 ∧
      (∀ i, i < l.length - 4 → i < 18 ∨ 20 ≤ i → m[i]? = l[i]?) ∧
      t = { s with sys := t.sys, ring := { s.ring with
        mfOn := s.ring.mfOn ++ [p], rx := t.ring.rx, sent := t.ring.sent, heard := true, roster := t.ring.roster } }) ∧
  (∀ (s : State) (p : RPort) (l : List Byte), s.portUp p = true → (p = .n ∨ p = .s) → frameOk l = true → s.injectsPort p = false →
    (hdrOf l).src ≠ s.addr → (hdrOf l).delivery = 0 → (hdrOf l).dst = s.addr → s.roleMatches (hdrOf l) = true →
    (hdrOf l).type = 4 → s.injFrame (hdrOf l).src 4 = false → s.rxBytes p + l.length ≤ 4096 →
    ∃ t, exec (.ringFrameReceive p l false) s = .next t ∧ t.ring.rx = s.ring.rx ++ [{ port := p, bytes := l }] ∧
      t.ring.sent = s.ring.sent ∧
      t = { s with sys := t.sys, ring := { s.ring with rx := t.ring.rx, heard := true, roster := t.ring.roster } }) ∧
  (∀ (s : State) (p : RPort) (l : List Byte), s.portUp p = true → frameOk l = true → s.injectsPort p = false →
    (hdrOf l).src ≠ s.addr →
    (hdrOf l).delivery = 0 → (hdrOf l).dst = s.addr → s.roleMatches (hdrOf l) = false →
    ∃ t, exec (.ringFrameReceive p l false) s = .next t ∧ t.ring.staleTx = incSat 65535 s.ring.staleTx ∧
      (s.ring.active = false → t.ring.replies = s.ring.replies ++
        [⟨0, 4, 0, BitVec.ofNat 32 (s.roleByte * 2 ^ 24 + s.ring.epoch.toNat)⟩]) ∧
      t.ring.rx = s.ring.rx ∧ t.ring.sent = s.ring.sent ∧ t = { s with sys := t.sys, ring := t.ring }) ∧
  (∀ (s : State) (p : RPort) (l : List Byte), s.portUp p = true → frameOk l = true → s.injectsPort p = false →
    (hdrOf l).src = s.addr →
    ∃ t, exec (.ringFrameReceive p l false) s = .next t ∧ t.ring.rx = s.ring.rx ∧ t.ring.sent = s.ring.sent ∧
      t.ring.roster = s.ring.roster ∧ t = { s with sys := t.sys, ring := t.ring }) ∧
  (∀ (s : State) (p : RPort) (l : List Byte), s.portUp p = true → frameOk l = true → s.injectsPort p = false →
    (hdrOf l).src ≠ s.addr → (hdrOf l).delivery = 2 → (hdrOf l).type = 7 → s.injFrame (hdrOf l).src 7 = false →
    (numAt l 16 1).testBit 0 = false → s.aqLeft p + 28 ≤ 4096 →
    ∃ t, exec (.ringFrameReceive p l false) s = .next t ∧ t.ring.sent = s.ring.sent ++
        [(p, s.frame p { type := 7, flags := 2 } (dlBody true (Config.turnaround p l)), false)] ∧ s.aqTook t [p] 28 ∧
      t = { s with sys := t.sys, ring := { s.ring with
        ports := t.ring.ports, sent := t.ring.sent, heard := t.ring.heard, roster := t.ring.roster } }) ∧
  (∀ (s : State) (p : RPort) (l : List Byte) (x : PortS), s.portUp p = true → frameOk l = true → s.injectsPort p = false →
    (hdrOf l).src ≠ s.addr → (hdrOf l).delivery = 2 → (hdrOf l).type = 7 → s.injFrame (hdrOf l).src 7 = false →
    (numAt l 16 1).testBit 0 = true → s.ring.ports[p.ix]? = some x →
    ∃ t, exec (.ringFrameReceive p l false) s = .next t ∧ t.ring.sent = s.ring.sent ∧
      t.ring.ports = s.ring.ports.set p.ix (if x.asked then { x with asked := false, turn := some (numAt l 20 4) } else x) ∧
      t = { s with sys := t.sys, ring := { s.ring with
        ports := t.ring.ports, heard := t.ring.heard, roster := t.ring.roster } })

/-- MF_SEND, CF_SEND, RF_SEND, TF_SEND, KF_SEND, RR_RECEIVE (R27, R254, R398, R399, R401, R404, R406, R407, R408, R419, R420, R421): each
frame that is due leaves once on each port of its ring that is UP and has room for it, with the body its rule lays out, the current
frame on each port after the Master frame's copy there; a resend request sends the last report frame again on the port it came by, in
the slot it names; a current frame that finds no room is dropped with FS71; a frame that is not due does not leave. -/
def Obligations.RingSends : Prop :=
(∀ s : State, s.mfDue = true → (s.at 1000).aqRoom [.n, .s] 244 →
    ∃ t es, exec .mfSend s = .next t ∧ t.ring.mfSent = true ∧ t.ring.rp = s.reportStart ∧ es.length ≤ 8 ∧
      ((s.ring.entries ++ ((s.waiting false).take (8 - s.ring.entries.length)).map s.relayEnt).take 8 <+: es) ∧
      (s.sys.restore = none → es = (s.ring.entries ++ ((s.waiting false).take (8 - s.ring.entries.length)).map s.relayEnt).take 8) ∧
      t.ring.sent = s.ring.sent ++
        ([RPort.n, .s].filter s.portUp).map (fun p => (p, s.frame p { type := 1, flags := 2 } (s.mfBody es), false)) ∧
      (s.at 1000).aqTook t [.n, .s] 244 ∧
      t.ring.entries = s.ring.entries.drop 8 ∧ t.beat = { s.beat with offNs := max s.beat.offNs 1000 } ∧
      t = { s with beat := t.beat, sys := t.sys, host := t.host, ring := { s.ring with
        mfSent := true, rp := t.ring.rp, sent := t.ring.sent, ports := t.ring.ports, entries := t.ring.entries
        roster := t.ring.roster } }) ∧
  (∀ s : State, s.cfDue = true → s.aqRoom s.cfPorts 92 →
    ∃ t, exec .cfSend s = .next t ∧ s.aqTook t s.cfPorts 92 ∧
      t.ring = { s.ring with
        cfOn := s.ring.cfOn ++ s.cfPorts, ports := t.ring.ports
        sent := s.ring.sent ++ (s.cfPorts.filter s.portUp).map (fun p =>
          (p, s.frame p { type := 2, flags := 2 } s.cfBody, false)) } ∧
      t = { s with sys := t.sys, ring := t.ring }) ∧
  (∀ (s : State) (p : RPort), s.cfDue = true → s.cfPorts = [p] → s.portUp p = true → 4096 < s.aqLeft p + 92 → s.srcWhole →
    ∃ t, exec .cfSend s = .next t ∧ t.ring.sent = s.ring.sent ∧ t.ring.ports = s.ring.ports ∧ (t.fs 71).latch = true ∧
      t.ring.cfOn = s.ring.cfOn ++ [p] ∧ t.meas = s.meas ∧ t.cha = s.cha ∧ t.chb = s.chb ∧ t.chg = s.chg) ∧
  (∀ s : State, s.rfDue = true → s.aqRoom [.n, .s] (if s.cellSetDue then 444 else 156) →
    ∃ t, exec .rfSend s = .next t ∧ t.ring.rfSent = true ∧ t.ring.replies = s.ring.replies.drop 1 ∧
      t.ring.sent = s.ring.sent ++ ([RPort.n, .s].filter s.portUp).map (fun p => (p, s.frame p
        { type := 3, flags := if s.cellSetDue then 8 else 0, dst := s.ring.master, dstRole := s.ring.masterRole,
          dstEpoch := s.ring.masterEpoch } (s.rfBody s.reportView), false)) ∧
      s.aqTook t [.n, .s] (if s.cellSetDue then 444 else 156) ∧ t.ring.rfAt = s.rfTimes ∧
      t.lim = { s.lim with pairCell := (s.lim.pairCell + 1) % max 1 s.popCells.length } ∧
      t = { s with sys := t.sys, lim := t.lim, ring := { s.ring with
        rfSent := true, replies := t.ring.replies, sent := t.ring.sent, ports := t.ring.ports, rfAt := t.ring.rfAt
        lastRf := t.ring.lastRf } }) ∧
  (∀ s : State, s.tfDue = true → (s.at 950000).aqRoom [.e, .w] 92 →
    ∃ t, exec .tfSend s = .next t ∧ (s.at 950000).aqTook t [.e, .w] 92 ∧
      t.ring = { s.ring with
        tfSent := true, trunkReplies := s.ring.trunkReplies.drop 1, staleTrunk := false, ports := t.ring.ports
        sent := s.ring.sent ++ ([RPort.e, .w].filter s.portUp).map (fun p =>
          (p, s.frame p { type := 16, flags := 2 } s.tfBody, false)) } ∧
      t = { s with sys := t.sys, ring := t.ring, beat := { s.beat with offNs := max s.beat.offNs 950000 } }) ∧
  (∀ s : State, s.kfDue = true → (s.at 960000).aqRoom [.e, .w] (228 * s.fragments.length) →
    ∃ t, exec .kfSend s = .next t ∧ t.ring.kfSent = true ∧ t.ring.csocValid = true ∧
      t.ring.csoc = (consistSoc s.weighed).toNat ∧ t.ring.wChg = (weightsOf s.weighed (uStr s.addr)).1.toNat ∧
      t.ring.wDis = (weightsOf s.weighed (uStr s.addr)).2.toNat ∧ t.ring.coord = BitVec.ofNat 8 (uStr s.addr) ∧
      t.ring.sent = s.ring.sent ++ s.fragments.flatMap (fun k => ([RPort.e, .w].filter s.portUp).map fun p =>
        (p, s.frame p { type := 17, flags := 2 } (s.kfBody k ((s.fragRelays k).map s.relayEnt)), false)) ∧
      (s.at 960000).aqTook t [.e, .w] (228 * s.fragments.length) ∧
      t = { s with sys := t.sys, host := t.host, beat := { s.beat with offNs := max s.beat.offNs 960000 }, ring := { s.ring with
        kfSent := true, wChg := t.ring.wChg, wDis := t.ring.wDis, csoc := t.ring.csoc, csocValid := true, coord := t.ring.coord
        sent := t.ring.sent, ports := t.ring.ports } }) ∧
  (∀ (s : State) (f : RxFrame), s.ring.rx.find? (fun f => numAt f.bytes 0 1 == 4) = some f → s.runs .a = true →
    s.ring.rfSent = true →
    ∃ t, exec .rrReceive s = .next t ∧
      t.ring = { s.ring with
        rx := s.ring.rx.erase f
        rfAt := s.ring.rfAt ++ [(f.port, s.leaveAt f.port (numAt f.bytes 16 4))]
        sent := s.ring.sent ++ (if s.portUp f.port then [(f.port, resendOf f.port s.ring.lastRf, false)] else []) } ∧
      t = { s with sys := t.sys, ring := t.ring }) ∧
  (∀ (s : State) (f : RxFrame), s.ring.rx.find? (fun f => numAt f.bytes 0 1 == 4) = some f → s.runs .a = true →
    s.ring.rfSent = false → exec .rrReceive s = .next { s with ring := { s.ring with rx := s.ring.rx.erase f } }) ∧
  (∀ s : State, (s.mfDue = false → exec .mfSend s = .next s) ∧ (s.cfDue = false → exec .cfSend s = .next s) ∧
    (s.rfDue = false → exec .rfSend s = .next s) ∧ (s.tfDue = false → exec .tfSend s = .next s) ∧
    (s.kfDue = false → exec .kfSend s = .next s) ∧ (s.ring.rx = [] → exec .rrReceive s = .next s))

/-- MF_RECEIVE, CF_RECEIVE, ER_RECEIVE (R38, R228, R248, R395, R398, R406, R407, R411, R412): the first Master frame of a beat gives the
Master, its epoch, the report start and STR_MIN, a later copy its delay only; an entry for this unit under another role or epoch is
answered as stale; a current frame gives the published charge values to a unit without an own current channel; an enumeration result
gives the roster and shows a duplicate own address as FS14; one of the trunk renews the entry of the Master it names.

RF_JUDGEMENT (R401, R404): when both slots of a unit have ended, a report frame that came is accepted; one that did not is asked for
again once, in the next free time after the report phase, when that can still arrive; otherwise it is missing, counts, and raises FS55
and FS56 (both ports, DEDUCED: log entry 41). -/
def Obligations.StringFrames : Prop :=
  (∀ (s : State) (f : RxFrame) (arr ph : Int), s.ring.rx.find? (fun f => numAt f.bytes 0 1 == 1) = some f → s.runs .a = true →
    s.ring.active = false → s.ring.mfSeen = false → ((mfEntries f.bytes).all fun e => e.dst != s.addr) = true →
    ∃ t, exec (.mfReceive arr ph) s = .next t ∧ t.ring.mfSeen = true ∧ t.ring.mfEarly = decide (arr ≤ 200000) ∧
      t.ring.master = (hdrOf f.bytes).src ∧ t.ring.masterEpoch = (hdrOf f.bytes).srcEpoch ∧ t.ring.rp = numAt f.bytes 16 2 ∧
      t.ring.mfClosed = (numAt f.bytes 20 1).testBit 6 ∧ t.ring.masterCtl = numAt f.bytes 20 1 / 8 % 8 ∧
      t.ring.localBeats.isSome = (numAt f.bytes 20 1).testBit 2 ∧
      t.ring.rx = s.ring.rx.erase f ∧ t.beat.sbnSeen = some (hdrOf f.bytes).beat ∧
      t.bal.strMin = sbits (nword (numAt f.bytes 28 4)) 14 18 ∧ t.chg.swapPend = (numAt f.bytes 20 1).testBit 1 ∧
      t.chg.slowDecided = (numAt f.bytes 20 1).testBit 0 ∧
      t = { s with beat := t.beat, ring := t.ring, chg := t.chg, bal := t.bal }) ∧
  (∀ (s : State) (f : RxFrame) (arr ph : Int) (e : RingEnt), s.ring.rx.find? (fun f => numAt f.bytes 0 1 == 1) = some f →
    s.runs .a = true → s.ring.active = false → s.ring.mfSeen = false → mfEntries f.bytes = [e] → e.dst = s.addr →
    (e.op = 1 ∨ e.op = 2) → (e.dstRole ≠ s.roleByte ∨ e.dstEpoch ≠ s.ring.epoch) →
    ∃ t, exec (.mfReceive arr ph) s = .next t ∧ t.ring.replies = s.ring.replies ++ [⟨e.rseq, 4, e.addr, s.roleWord⟩] ∧
      t.ring.staleTx = incSat 65535 s.ring.staleTx ∧
      t = { s with beat := t.beat, ring := t.ring, chg := t.chg, bal := t.bal, sys := t.sys }) ∧
  (∀ (s : State) (f : RxFrame) (arr ph : Int), s.ring.rx.find? (fun f => numAt f.bytes 0 1 == 1) = some f → s.runs .a = true →
    s.ring.mfSeen = true ∨ s.ring.active = true →
    exec (.mfReceive arr ph) s = .next { s with ring := { s.ring with
      rx := s.ring.rx.erase f
      dn := if f.port = .n then numAt f.bytes 18 2 else s.ring.dn
      ds := if f.port = .s then numAt f.bytes 18 2 else s.ring.ds } }) ∧
  (∀ (s : State) (f : RxFrame), s.ring.rx.find? (fun f => numAt f.bytes 0 1 == 2) = some f → s.runs .a = true → s.curPop 0 = false →
    ∃ t, exec .cfReceive s = .next t ∧ t.chg.pub = some (cfPublished f.bytes) ∧ t.chg.pubPrev = s.chg.pub ∧
      t.chg.cov = s.chg.cov ++ [((cfPublished f.bytes).beat, (cfPublished f.bytes).v1, (cfPublished f.bytes).v2)] ∧
      t.chg.acc = s.chg.acc ∧
      ((cfPublished f.bytes).beat = s.sbn - 1 → t.imp = { s.imp with prevRef := cfRaw f.bytes }) ∧
      ((cfPublished f.bytes).beat = s.sbn → t.imp = { s.imp with curRef := cfRaw f.bytes }) ∧
      ((cfPublished f.bytes).beat ≠ s.sbn → (cfPublished f.bytes).beat ≠ s.sbn - 1 → t.imp = s.imp) ∧
      t = { s with ring := { s.ring with rx := s.ring.rx.erase f }, imp := t.imp, chg := { s.chg with
        pub := t.chg.pub, pubPrev := t.chg.pubPrev, cov := t.chg.cov } }) ∧
  (∀ (s : State) (f : RxFrame), s.ring.rx.find? (fun f => numAt f.bytes 0 1 == 2) = some f → s.runs .a = true → s.curPop 0 = true →
    exec .cfReceive s = .next { s with ring := { s.ring with rx := s.ring.rx.erase f } }) ∧
  (∀ (s : State) (f : RxFrame), s.ring.rx.find? (fun f => numAt f.bytes 0 1 == 6) = some f → s.runs .a = true →
    (f.port = .n ∨ f.port = .s) → s.ring.active = false → s.srcWhole →
    ∃ t, exec .erReceive s = .next t ∧
      t.ring.roster = (List.range ((f.bytes.length - 20) / 8)).map (fun i => erUnit s.ring.roster f.bytes (16 + 8 * i)) ∧
      t.ring.master = (hdrOf f.bytes).src ∧ t.ring.masterEpoch = (hdrOf f.bytes).srcEpoch ∧
      t.ring.masterRole = (hdrOf f.bytes).srcRole ∧
      t.ring.listed = (t.ring.roster.any fun u => u.addr == s.addr && !u.noSlot && u.pres) ∧
      t.ring.addrConflict = decide (2 ≤ (t.ring.roster.filter fun u => u.addr == s.addr).length) ∧
      (t.fs 14).cond = t.ring.addrConflict ∧ t.beat = s.beat ∧ t.cha = s.cha ∧ t.chb = s.chb ∧ t.meas = s.meas) ∧
  (∀ (s : State) (f : RxFrame), s.ring.rx.find? (fun f => numAt f.bytes 0 1 == 6) = some f → s.runs .a = true →
    s.ring.active = true → (f.port = .n ∨ f.port = .s) → exec .erReceive s = .next { s with ring := { s.ring with rx := s.ring.rx.erase f } }) ∧
  (∀ (s : State) (f : RxFrame) (k : BitVec 8) (x : StrS), s.ring.rx.find? (fun f => numAt f.bytes 0 1 == 6) = some f →
    s.runs .a = true → (f.port = .e ∨ f.port = .w) → 2 ≤ s.ring.role.toNat → f.bytes.length = 28 →
    k = BitVec.ofNat 8 (uStr (erUnit [] f.bytes 16).addr) → k.toNat ≠ uStr s.addr → s.ring.strings.find? (fun x => x.str == k) = some x →
    ∃ t, exec .erReceive s = .next t ∧ t.ring.strings.find? (fun x => x.str == k) = some { x with
        addr := (erUnit [] f.bytes 16).addr, epoch := (erUnit [] f.bytes 16).epoch, role := (erUnit [] f.bytes 16).role } ∧
      (∀ j, j ≠ k → t.ring.strings.find? (fun x => x.str == j) = s.ring.strings.find? (fun x => x.str == j)) ∧
      t = { s with ring := { s.ring with rx := s.ring.rx.erase f, strings := t.ring.strings } }) ∧
  (∀ s : State, s.ring.rx = [] ∨ s.runs .a = false → (∀ a b, exec (.mfReceive a b) s = .next s) ∧ exec .cfReceive s = .next s ∧
    exec .erReceive s = .next s ∧ exec .tfReceive s = .next s ∧ exec .kfReceive s = .next s) ∧
  (∀ (s : State) (a : UAddr) (u : UnitS), s.unit? a = some u → s.rfOpen u = true → (u.gotN = true ∨ u.gotS = true) →
    ∃ t, exec (.rfJudgement a) s = .next t ∧ t.unit? a = some { u with judged := true } ∧ t.beat = (s.afterSlots a).beat ∧
      (∀ b, b ≠ a → t.unit? b = s.unit? b) ∧ t = { s with beat := t.beat, ring := { s.ring with roster := t.ring.roster } }) ∧
  (∀ (s : State) (a : UAddr) (u : UnitS), s.unit? a = some u → s.rfOpen u = true → u.gotN = false → u.gotS = false →
    u.asked = false → (s.afterSlots a).resendFits u = true → (s.afterSlots a).aqRoom [u.shorter] 28 →
    ∃ t l, exec (.rfJudgement a) s = .next t ∧ t.unit? a = some { u with asked := true } ∧ t.beat = (s.afterSlots a).beat ∧
      (∀ b, b ≠ a → t.unit? b = s.unit? b) ∧
      t.ring.sent = s.ring.sent ++ (if s.portUp u.shorter then [(u.shorter, l, false)] else []) ∧
      (s.afterSlots a).aqTook t [u.shorter] 28 ∧
      (hdrOf l).type = 4 ∧ (hdrOf l).dst = a ∧ numAt l 16 4 = (s.afterSlots a).resendSlot u ∧
      t.ring = ({ s.ring with roster := t.ring.roster, sent := t.ring.sent, ports := t.ring.ports } : RingS).takeSlot u.shorter
        ((s.afterSlots a).resendSlot u + s.unitCost u) ∧
      t = { s with beat := t.beat, sys := t.sys, ring := t.ring }) ∧
  (∀ (s : State) (a : UAddr) (u : UnitS), s.unit? a = some u → s.rfOpen u = true → u.gotN = false → u.gotS = false →
    u.asked = true ∨ (s.afterSlots a).resendFits u = false → s.srcWhole →
    ∃ t, exec (.rfJudgement a) s = .next t ∧ t.unit? a = some { u with judged := true } ∧
      t.ring.rsndMiss = incSat 65535 s.ring.rsndMiss ∧ (t.fs 55).latch = true ∧ (t.fs 56).latch = true ∧
      t.ring.sent = s.ring.sent ∧ t.beat = (s.afterSlots a).beat ∧ t.cha = s.cha ∧ t.chb = s.chb ∧ t.meas = s.meas) ∧
  (∀ (s : State) (a : UAddr) (u : UnitS), s.unit? a = some u → (s.afterSlots a).resendFits u = true →
    ∀ p : RPort, p = u.shorter → (s.afterSlots a).beat.offNs ≤ 8 * (s.afterSlots a).resendSlot u ∧
      125 * s.ring.rp + s.slotsLen ((s.ringIndex s.addr).getD 0) ≤ (s.afterSlots a).resendSlot u ∧
      (if p = .s then s.ring.freeS else s.ring.freeN) ≤ (s.afterSlots a).resendSlot u ∧
      8 * ((s.afterSlots a).resendSlot u + s.unitCost u) ≤ 850000) ∧
  (∀ (s : State) (a : UAddr), s.unit? a = none → exec (.rfJudgement a) s = .next s) ∧
  (∀ (s : State) (a : UAddr) (u : UnitS), s.unit? a = some u → s.rfOpen u = false → exec (.rfJudgement a) s = .next s)

/-- TF_RECEIVE, KF_RECEIVE (R298, R420, R421, R422, R423): a string frame enters its string in the table and a newer CEPOCH is adopted; a
consist frame that carries another CEPOCH is dropped; one that carries it ends the count of missed frames, and the own fragment gives
the weights and, where REQ_SRC enables the ring, a close or open request to the active Master. -/
def Obligations.TrunkFrames : Prop :=
(∀ (s : State) (f : RxFrame) (k : BitVec 8), s.ring.rx.find? (fun f => numAt f.bytes 0 1 == 16) = some f → s.runs .a = true →
    k = BitVec.ofNat 8 (uStr (hdrOf f.bytes).src) → k.toNat ≠ uStr s.addr → numAt (slice 80 8 f.bytes) 1 1 = 0 →
    ∃ t, exec .tfReceive s = .next t ∧ t.ring.strings.find? (fun x => x.str == k) =
        some (strOf f.port f.bytes ((s.ring.strings.find? (fun x => x.str == k)).getD { str := k })) ∧
      (∀ j, j ≠ k → t.ring.strings.find? (fun x => x.str == j) = s.ring.strings.find? (fun x => x.str == j)) ∧
      (epochNewer (BitVec.ofNat 16 (numAt f.bytes 76 2)) s.ring.cepoch = true →
        t.ring.cepoch = BitVec.ofNat 16 (numAt f.bytes 76 2) ∧ t.ring.csocValid = false ∧
        (s.ring.role = 3 → t.ring.coordDrop = true)) ∧
      (epochNewer (BitVec.ofNat 16 (numAt f.bytes 76 2)) s.ring.cepoch = false →
        t.ring.cepoch = s.ring.cepoch ∧ t.ring.csocValid = s.ring.csocValid ∧ t.ring.coordDrop = s.ring.coordDrop) ∧
      t = { s with ring := t.ring }) ∧
  (∀ (s : State) (f : RxFrame), s.ring.rx.find? (fun f => numAt f.bytes 0 1 == 17) = some f → s.runs .a = true →
    BitVec.ofNat 16 (numAt f.bytes 16 2) ≠ s.ring.cepoch →
    exec .kfReceive s = .next { s with ring := { s.ring with rx := s.ring.rx.erase f } }) ∧
  (∀ (s : State) (f : RxFrame), s.ring.rx.find? (fun f => numAt f.bytes 0 1 == 17) = some f → s.runs .a = true →
    BitVec.ofNat 16 (numAt f.bytes 16 2) = s.ring.cepoch → numAt f.bytes 18 1 ≠ uStr s.addr / 32 →
    exec .kfReceive s = .next { s with ring := { s.ring with
      rx := s.ring.rx.erase f, kfMissed := 0, csoc := numAt f.bytes 20 4, csocValid := true
      coord := BitVec.ofNat 8 (uStr (hdrOf f.bytes).src) } }) ∧
  (∀ (s : State) (f : RxFrame) (c : Nat), s.ring.rx.find? (fun f => numAt f.bytes 0 1 == 17) = some f → s.runs .a = true →
    BitVec.ofNat 16 (numAt f.bytes 16 2) = s.ring.cepoch → numAt f.bytes 18 1 = uStr s.addr / 32 →
    ((kfEntries f.bytes).all fun e => uStr e.dst != uStr s.addr) = true ∨ s.ring.active = false →
    c = numAt f.bytes (24 + uStr s.addr % 32 / 4) 1 / 4 ^ (uStr s.addr % 32 % 4) % 4 →
    ∃ t, exec .kfReceive s = .next t ∧ t.ring.kfMissed = 0 ∧ t.ring.csoc = numAt f.bytes 20 4 ∧ t.ring.csocValid = true ∧
      t.ring.wChg = numAt f.bytes (32 + 4 * (uStr s.addr % 32)) 2 ∧ t.ring.wDis = numAt f.bytes (34 + 4 * (uStr s.addr % 32)) 2 ∧
      t.safe = (if s.ring.active = true ∧ (s.nat .REQ_SRC).testBit 2 = true ∧ c = 1 then
          { s.safe with reqStaged := some ⟨.close, .ring⟩ }
        else if s.ring.active = true ∧ (s.nat .REQ_SRC).testBit 2 = true ∧ c = 2 then
          { s.safe with reqStaged := some ⟨.openReq, .ring⟩ }
        else s.safe) ∧
      t = { s with ring := t.ring, safe := t.safe }) ∧
  (∀ (s : State) (f : RxFrame) (e : RingEnt), s.ring.rx.find? (fun f => numAt f.bytes 0 1 == 17) = some f → s.runs .a = true →
    BitVec.ofNat 16 (numAt f.bytes 16 2) = s.ring.cepoch → numAt f.bytes 18 1 = uStr s.addr / 32 → s.ring.active = true →
    kfEntries f.bytes = [e] → uStr e.dst = uStr s.addr → e.dst ≠ s.addr →
    ∃ t x, exec .kfReceive s = .next t ∧ t.ring.entries = s.ring.entries ++ [x] ∧ x.dst = e.dst ∧ x.op = e.op ∧ x.rseq = e.rseq ∧
      x.addr = e.addr ∧ x.data = e.data ∧ (∀ u, s.unit? e.dst = some u → x.dstEpoch = u.epoch ∧
        x.dstRole = u.role.toNat + if u.active then 4 else 0) ∧
      t.ring.kfRelays = s.ring.kfRelays ++ [{ ent := e, resent := false }])

/-- ENUM, ENUMERATION, MASTER_START_LISTEN, STANDBY_TAKEOVER, MASTER_YIELD (R38, R40, R391, R411, R412, R413, R414, R415): an active
Master enumerates again by key; an enumeration first sends EN on every UP port and asks for the link delays, then takes what the copies
met: a copy back on a string port shows a closed ring, every unit found or listed enters the roster, one address as often as it was
found, a unit without a slot raises FS59, an own address met elsewhere FS14, and ER carries the roster; a listen period without a Master makes
the Master active, one with a Master makes it standby under a new epoch; a standby that judges the third beat without a Master frame
counts its epoch and takes over; of two active Masters the one with a busy control state stays. -/
def Obligations.MasterRoles : Prop :=
(∀ (s : State) (p : Path) (key : BitVec 8), exec (.enum p key) s =
    .next (if key = 0xC3 ∧ s.ring.active = true then { s with ring := { s.ring with enumDue := true } } else s)) ∧
  (∀ (s : State) (an az : List Found) (sn : List (UAddr × BitVec 64)), s.ring.active = true → s.ring.enumRun = false →
    s.aqRoom [.n, .s, .e, .w] 48 →
    ∃ t, exec (.enumeration an az sn) s = .next t ∧ t.ring.enumRun = true ∧ t.ring.enumDue = true ∧ t.ring.enBack = [] ∧
      t.ring.sent = s.ring.sent ++
        ([RPort.n, .s, .e, .w].filter s.portUp).map (fun p => (p, s.frame p { type := 5, flags := 2 } [], false)) ++
        ([RPort.n, .s, .e, .w].filter s.portUp).map (fun p => (p, s.frame p { type := 7, flags := 2 } (dlBody false 0), false)) ∧
      (∀ p : RPort, (t.ring.ports[p.ix]?).map PortS.link = (s.ring.ports[p.ix]?).map fun x =>
        if s.portUp p then { x.link with asked := true, turn := none } else x.link) ∧
      t = { s with sys := t.sys, ring := { s.ring with
        enumRun := true, enumDue := true, enBack := [], sent := t.ring.sent, ports := t.ring.ports } }) ∧
  (∀ (s : State) (an az fd : List Found) (sn : List (UAddr × BitVec 64)) (cl : Bool),
    s.ring.active = true → s.ring.enumRun = true → s.srcWhole →
    cl = (s.ring.enBack.any fun x => x.1 == .n || x.1 == .s) →
    fd = (if cl then (s.ring.enBack.filter fun x => x.1 == .n || x.1 == .s).flatMap fun x => enFound x.2 else an ++ az) ++
      (s.ring.enBack.filter fun x => x.1 == .e || x.1 == .w).flatMap (fun x => enFound x.2) →
    ∃ t, exec (.enumeration an az sn) s = .next t ∧ t.ring.enumDue = false ∧ t.ring.enumRun = false ∧ t.ring.enBack = [] ∧
      t.ring.strNext = (if s.multiUnit = false then .lost else if cl then .closed else .opn) ∧
      t.ring.addrConflict = (fd.any fun f => f.1 == s.addr && (f.2.2.2.2 == .n || f.2.2.2.2 == .s)) ∧
      (t.fs 14).cond = t.ring.addrConflict ∧ ((∃ u ∈ t.ring.roster, u.noSlot = true) → (t.fs 59).latch = true) ∧
      (∀ a, (∃ u ∈ t.ring.roster, u.addr = a) ↔
        a ∈ s.ringOrder ∨ ∃ f ∈ fd, f.1 = a ∧ (f.2.2.2.2 = .n ∨ f.2.2.2.2 = .s)) ∧
      (∀ a, a ∈ s.ringOrder → (t.ring.roster.filter fun u => u.addr == a).length =
        if a = s.addr then (placesOf cl fd a).length + 1 else max 1 (placesOf cl fd a).length) ∧
      (∀ u ∈ t.ring.roster, u.addr ≠ s.addr →
        u.pres = (fd.any fun f => f.1 == u.addr && (f.2.2.2.2 == .n || f.2.2.2.2 == .s)) ∧
        (u.expect = true → s.ringOrder.contains u.addr = true) ∧ (u.pres = true → u.expect = false → u.noSlot = true)) ∧
      (s.aqRoom [.n, .s] (20 + 8 * t.ring.roster.length) → s.aqRoom [.e, .w] (20 + 8 * (s.trunkUnits fd).length) →
        t.ring.sent = s.ring.sent ++ ([RPort.n, .s].filter s.portUp).map (fun p =>
            (p, s.frame p { type := 6, flags := 2 } (t.ring.roster.flatMap UnitS.erBytes), false)) ++
          ([RPort.e, .w].filter s.portUp).map (fun p =>
            (p, s.frame p { type := 6, flags := 2 } ((s.trunkUnits fd).flatMap UnitS.erBytes), false))) ∧
      t.beat = s.beat ∧ t.cha = s.cha ∧ t.chb = s.chb ∧ t.meas = s.meas ∧ t.safe = s.safe) ∧
  (∀ (s : State) (an az : List Found) (sn : List (UAddr × BitVec 64)),
    s.ring.active = false → exec (.enumeration an az sn) s = .next s) ∧
  (∀ (s : State) (n : Nat), s.ring.listen = some n → s.ring.active = false → 2 ≤ s.ring.role.toNat → s.on .START = false →
    20 ≤ n →
    (s.ring.masterEpoch = 0 →
      exec .masterStartListen s = .next { s with
        ring := { s.ring with
          active := true, enumDue := true, listen := none, master := s.addr, masterRole := s.ring.role.toNat + 4
          masterEpoch := s.ring.epoch }
        beat := { s.beat with sbOfs := some (s.beat.sbOfs.getD 0) } }) ∧
    (s.ring.masterEpoch ≠ 0 →
      exec .masterStartListen s = .next { s with ring := { s.ring with listen := none, epoch := nextEpoch s.ring.epoch } })) ∧
  (∀ (s : State) (n : Nat), s.ring.listen = some n → s.ring.active = false → 2 ≤ s.ring.role.toNat → s.on .START = true →
    100 ≤ n → s.ring.masterEpoch = 0 →
    exec .masterStartListen s = .next { s with
      ring := { s.ring with
        active := true, enumDue := true, listen := none, master := s.addr, masterRole := s.ring.role.toNat + 4
        epoch := nextEpoch s.ring.epoch, masterEpoch := nextEpoch s.ring.epoch, take := incSat 65535 s.ring.take }
      beat := { s.beat with sbOfs := some (s.beat.sbOfs.getD 0) } }) ∧
  (∀ s : State, s.ring.listen = none ∨ s.ring.active = true ∨ s.ring.role.toNat < 2 ∨
      (∃ n, s.ring.listen = some n ∧ n < (if s.on .START then 100 else 20)) →
    exec .masterStartListen s = .next s) ∧
  (∀ s : State, 2 ≤ s.ring.role.toNat → s.ring.active = false → s.ring.listen = none → s.ring.masterEpoch ≠ 0 →
    2 ≤ s.ring.mfMissed → s.ring.mfEarly = false → s.ring.takeDue = false →
    exec .standbyTakeover s = .next { s with
      ring := { s.ring with takeDue := true, epoch := nextEpoch s.ring.epoch }
      beat := { s.beat with offNs := max s.beat.offNs 200000 } }) ∧
  (∀ s : State, s.ring.active = true ∨ s.ring.mfEarly = true ∨ s.ring.mfMissed < 2 ∨ s.ring.takeDue = true ∨ s.ring.role.toNat < 2 →
    exec .standbyTakeover s = .next s) ∧
  (∀ (s : State) (a : UAddr) (c n : Nat) (e : BitVec 16), s.ring.active = true → s.ring.rival = some (a, c, n, e) →
    s.ring.yieldDue = false →
    ∃ t, exec .masterYield s = .next t ∧
      (ctlBusy s.ctl.code = false → ctlBusy c = true → t.ring.yieldDue = true) ∧
      (ctlBusy s.ctl.code = true → ctlBusy c = false → t.ring.yieldDue = false ∧ t.ring.rival = none) ∧
      (ctlBusy s.ctl.code = ctlBusy c → n ≠ s.unitsPresent → (t.ring.yieldDue = true ↔ s.unitsPresent < n)) ∧
      (ctlBusy s.ctl.code = ctlBusy c → n = s.unitsPresent → (t.ring.yieldDue = true ↔ uPos a < uPos s.addr)) ∧
      t = { s with ring := { s.ring with yieldDue := t.ring.yieldDue, rival := t.ring.rival } }) ∧
  (∀ s : State, s.ring.active = false ∨ s.ring.rival = none → exec .masterYield s = .next s)

/-- RING_STATE_CHANGE, RING_SILENCE, MAJORITY_CHANGE, COORDINATOR_TAKEOVER (R411, R417, R418, R423, R424, R425): the ring state that the
boundary judged takes effect, FS59 follows it, and a ring that closes again is enumerated; a silent ring clears the balancing
requests of a Monitor, opens its switches for as long as it is on its way into Dormant, and starts that entry; without the majority a Master enters Local mode and a
Coordinator gives up its role under a new epoch; the Coordinator role counts epoch and CEPOCH. -/
def Obligations.RingStates : Prop :=
(∀ s : State, s.ring.strNext ≠ s.ring.str → s.srcWhole →
    ∃ t, exec .ringStateChange s = .next t ∧ t.ring.str = s.ring.strNext ∧
      (s.ring.active = true → s.ring.strNext = .closed → s.ring.str ≠ .enumerating → t.ring.enumDue = true) ∧
      (s.ring.strNext ≠ .closed → t.ring.enumDue = s.ring.enumDue) ∧
      (s.multiUnit = true → (t.fs 59).cond = decide (s.ring.strNext = .lost ∨ s.ring.strNext = .opn ∨ s.ring.strNext = .split)) ∧
      t.beat = s.beat ∧ t.cha = s.cha ∧ t.chb = s.chb ∧ t.meas = s.meas) ∧
  (∀ s : State, s.ring.strNext = s.ring.str → exec .ringStateChange s = .next s) ∧
  (∀ s : State, s.ring.role = 1 → (s.pwr.state = .active ∨ s.pwr.state = .idle) → s.nat .RING_SILENCE ≤ s.ring.quiet → s.pwr.entry = none →
    ∃ t, exec .ringSilence s = .next t ∧ t.bal.req = [0, 0, 0] ∧ t.bal.run = none ∧
      (∀ x ∈ t.bal.sw, x.duty = false ∧ x.exc = false ∧ x.level = false) ∧
      (∀ (n : Nat) (x : SwS), t.linkUp (segOf n) .a = true → (t.swCommand n x).duty = false ∧ (t.swCommand n x).exc = false ∧
        (t.swCommand n x).level = false) ∧ t.pwr = { s.pwr with entry := some (true, 3) } ∧
      t = { s with bal := t.bal, pwr := t.pwr }) ∧
  (∀ s : State, s.ring.role ≠ 1 ∨ s.ring.quiet < s.nat .RING_SILENCE → exec .ringSilence s = .next s) ∧
  (∀ s : State, s.ring.active = true → s.ring.majNow = false → s.ring.majority = true →
    exec .majorityChange s = .next { s with ring := { s.ring with
      majority := false, localBeats := some 0, v0Chg := s.lim.pub.chg, v0Dis := s.lim.pub.dis, coordTake := false
      role := if s.ring.role = 3 then 2 else s.ring.role
      epoch := if s.ring.role = 3 then nextEpoch s.ring.epoch else s.ring.epoch } }) ∧
  (∀ s : State, s.ring.active = true → s.ring.majNow = true → s.ring.majority = false →
    exec .majorityChange s = .next { s with ring := { s.ring with majority := true, localBeats := none } }) ∧
  (∀ s : State, s.ring.majNow = s.ring.majority ∨ s.ring.active = false → exec .majorityChange s = .next s) ∧
  (∀ s : State, s.ring.active = true → s.ring.coordTake = true →
    exec .coordinatorTakeover s = .next { s with ring := { s.ring with
      coordTake := false, role := 3, epoch := nextEpoch s.ring.epoch, cepoch := s.ring.cepoch + 1, csocValid := false, kfMissed := 0
      coord := BitVec.ofNat 8 (uStr s.addr) } }) ∧
  (∀ s : State, s.ring.coordTake = false ∨ s.ring.active = false → exec .coordinatorTakeover s = .next s)

/-- R269, R393, R406: what a unit composes is what the receiving unit reads: the header of a ring frame, an entry of a Master frame and
the two words of a checkpoint come back field for field, and a sealed frame passes its CRC. -/
def Obligations.WireFormats : Prop :=
(∀ l : List Byte, 16 ≤ l.length → frameOk (sealFrame l) = true) ∧
  (∀ (h : RHdr) (l : List Byte), h.type < 256 → h.flags < 256 → h.dstRole < 256 → h.srcRole < 256 → hdrOf (h.bytes ++ l) = h) ∧
  (∀ (e : RingEnt) (a b : List Byte), e.dstRole < 256 → e.op < 256 → entAt (a ++ e.bytes ++ b) a.length = e) ∧
  (∀ c : Ckpt, -(2 ^ 63) ≤ c.qc → c.qc < 2 ^ 63 → -(2 ^ 63) ≤ c.uqc → c.uqc < 2 ^ 63 → -(2 ^ 63) ≤ c.qref1 → c.qref1 < 2 ^ 63 →
    -(2 ^ 63) ≤ c.qref2 → c.qref2 < 2 ^ 63 → -(2 ^ 31) ≤ c.ua → c.ua < 2 ^ 31 → c.age < 2 ^ 32 → c.anchType < 4 →
    ckptOf c.word0 c.word1 = some c)

/-- HIST_COPY, HIST_RESTORE, HIST_IMPORT, HIST_WIN_ACCESS (R517, R518, R519, R520, R521): the active Master copies up to two words of a
unit of its string into that unit's slot, its own words directly; a restore begins only for a slot whose ID code is that of the record
in force, and a unit that is restored empties its table first; an import needs the key, the crown switches, Parked and a Master; a
read of the window moves its pointer, a write takes effect only during a restore or an import. -/
def Obligations.StringHistory : Prop :=
(∀ (s : State) (u : BitVec 8) (k : Nat) (w : Word) (h : HistSlot), s.ring.active = true → s.powered = true →
    s.ringOrder.contains (uAddr (uStr s.addr) u.toNat) = true → s.chg.swapPend = false → 8 ≤ k → k < 7688 →
    s.sys.hist[u.toNat]? = some h →
    ∃ t g, exec (.histCopy u [(k, w)]) s = .next t ∧ t.sys.hist[u.toNat]? = some g ∧ g.used = true ∧
      g.word k = (if uAddr (uStr s.addr) u.toNat = s.addr then s.ownHist k else w) ∧
      g.addr = uAddr (uStr s.addr) u.toNat ∧ g.record = s.chg.inForce.getD 0 ∧
      (k + 1 = 7688 → g.seq = (h.seq + 1) % 2 ^ 32) ∧ (k + 1 ≠ 7688 → g.seq = h.seq) ∧
      (∀ j, j ≠ u.toNat → t.sys.hist[j]? = s.sys.hist[j]?) ∧ t = { s with sys := t.sys }) ∧
  (∀ (s : State) (u : BitVec 8) (l : List (Nat × Word)), exec (.histCopy u l) s = exec (.histCopy u (l.take 2)) s) ∧
  (∀ (s : State) (u : BitVec 8) (l : List (Nat × Word)), s.chg.swapPend = true ∨ s.ring.active = false ∨
      s.ringOrder.contains (uAddr (uStr s.addr) u.toNat) = false →
    exec (.histCopy u l) s = .next s) ∧
  (∀ (s : State), s.restorable (s.sys.histUnit.toNat % 256) = true → s.unitAt (s.sys.histUnit.toNat % 256) ≠ s.addr →
    exec (.histRestore .host 0xC3) s = .next { s with sys := { s.sys with
      restore := some (BitVec.ofNat 8 (s.sys.histUnit.toNat % 256)), restorePtr := 0 } }) ∧
  (∀ (s : State) (r : IdRec), s.restorable (s.sys.histUnit.toNat % 256) = true →
    s.unitAt (s.sys.histUnit.toNat % 256) = s.addr → s.record = some r →
    ∃ t x, exec (.histRestore .host 0xC3) s = .next t ∧ t.record = some x ∧ x.dflt = s.defaultTable ∧ x.code = r.code ∧
      t = { s with chg := t.chg }) ∧
  (∀ s : State, s.restorable (s.sys.histUnit.toNat % 256) = false → exec (.histRestore .host 0xC3) s = .next s) ∧
  (∀ (s : State) (r : IdRec), s.parked = true → s.chg.inForce.isSome = true → s.record = some r →
    ∃ t, exec (.histRestore .ring 0xC3) s = .next t ∧ t.sys = { s.sys with restoreIn := true, histPtr := 0, winBuf := [] } ∧
      t.record = some { r with table := [], dflt := s.defaultTable } ∧ t = { s with sys := t.sys, chg := t.chg }) ∧
  (∀ s : State, s.parked = false ∨ s.chg.inForce = none → exec (.histRestore .ring 0xC3) s = .next s) ∧
  (∀ (s : State) (p : Path) (key : BitVec 8), key ≠ 0xC3 → exec (.histRestore p key) s = .next s) ∧
  (∀ (s : State) (p : Path), 2 ≤ s.ring.role.toNat → s.crowns = true → s.parked = true →
    exec (.histImport p 0xC3) s = .next { s with sys := { s.sys with importing := true, histPtr := 0, winBuf := [] } }) ∧
  (∀ (s : State) (p : Path) (key : BitVec 8), key ≠ 0xC3 ∨ s.crowns = false ∨ s.parked = false ∨ s.ring.role.toNat < 2 →
    exec (.histImport p key) s = .next s) ∧
  (∀ (s : State) (p : Path),
    exec (.histWinAccess p none) s = .next { s with sys := { s.sys with
      histPtr := if s.sys.histPtr + 1 < (if s.sys.histArea then 8 * (1 + 8 * 512 + 256 * 1024) else 7688) then s.sys.histPtr + 1
        else 0 } }) ∧
  (∀ (s : State) (p : Path) (w : Word), s.sys.importing = false → s.sys.restoreIn = false →
    exec (.histWinAccess p (some w)) s = .next s) ∧
  (∀ (s : State) (p : Path) (w : Word), s.sys.importing = false → s.sys.restoreIn = true →
    ∃ t, exec (.histWinAccess p (some w)) s = .next t ∧
      (s.parked = false → t = { s with sys := { s.sys with restoreIn := false } }) ∧
      (s.parked = true → t.sys = { s.sys with
        histPtr := if s.sys.histPtr + 1 = 7688 then 0 else s.sys.histPtr + 1, restoreIn := s.sys.histPtr + 1 != 7688 }) ∧
      (s.sys.histPtr < 8 → t.chg = s.chg) ∧ t = { s with sys := t.sys, chg := t.chg }) ∧
  (∀ (s : State) (p : Path) (w : Word), s.sys.importing = true →
    ∃ t, exec (.histWinAccess p (some w)) s = .next t ∧
      (s.crowns = false ∨ s.parked = false ∨ s.ring.role.toNat < 2 → t = { s with sys := { s.sys with importing := false, winBuf := [] } }) ∧
      (2 ≤ s.ring.role.toNat → s.crowns = true → s.parked = true →
        s.sys.histPtr + 1 < 8 * (1 + 8 * 512 + 256 * 1024) → t.sys.histPtr = s.sys.histPtr + 1 ∧ t.sys.importing = true ∧
          t = { s with sys := t.sys, chg := t.chg }))

/-- HOST_READ, HOST_WRITE (R454, R456, R457, R458, R460, R462, R463, R542): a request for the unit itself is answered with the status of its
address; a read answers the word, with the CRC of its reply, and has the read's effect, a write of a writable register has the write's effect, a refused one has
none; one that an NMI came before is answered with STATUS 5 and not stored; a repeat of the last request is answered from store with
STATUS 8 and not executed.

HOST_BURST_READ, HOST_BURST_WRITE (R454, R456, R457, R458, R459, R460, R467): a burst answers one status, a read one word for each
address, the words that fall due before the next boundary at once and the others in the beats in which they fall due; a burst that
would run past 0x3FFF or goes to another unit is refused with STATUS 2 and executes nothing (a count outside 1 to 256 likewise, DESIGN
CHOICE: log entry 45); a burst write has the effects of the writes to its writable words in order.

HOST_CRC_ERROR, HOST_FRAMING_ERROR (R376, R377, R454, R455, R456): a request whose CRC is wrong is answered with STATUS 6, one that
breaks off not at all, each counted with FS64 raised and nothing executed; bytes whose CRC is right are the request that their OP names;
a request that an injection meets is answered with STATUS 6 and not executed, and it counts with FULL only. -/
def Obligations.HostAccess : Prop :=
  (∀ (s : State) (rseq u : BitVec 8) (a : BitVec 14), s.hostUp = true → s.injectsHost = false → s.hostLocal u = true →
    s.nmiHit = none →
    (s.host.lastReq.any fun l => l.bytes == reqBytes (reqHeader rseq 0 u a) none []) = false ∨ a.toNat = 4 ∨ a.toNat = 5 →
    ∃ t r, exec (.hostRead rseq u a) s = .next t ∧ t.host.reply = some r ∧ r.rseq = rseq ∧ r.status = s.regStatus false a.toNat ∧
      r.crc = crc16 r.bytes ∧
      t.host.seqLast = rseq ∧ t.host.seqStatus = r.status ∧ t.host.addressed = true ∧
      (s.regStatus false a.toNat = 1 → r.data = [s.hostHeard.regWord .host a.toNat] ∧
        t = { s.hostHeard.afterRead .host a.toNat with host := t.host, sys := t.sys, flt := t.flt }) ∧
      (s.regStatus false a.toNat ≠ 1 → r.data = [0] ∧ t = { s with host := t.host, sys := t.sys, flt := { s.flt with nmi := none } })) ∧
  (∀ (s : State) (rseq u : BitVec 8) (a : BitVec 14) (d : Word), s.hostUp = true → s.injectsHost = false → s.hostLocal u = true →
    s.nmiHit = none → (s.host.lastReq.any fun l => l.bytes == reqBytes (reqHeader rseq 1 u a) none [d]) = false →
    ∃ t r, exec (.hostWrite rseq u a d) s = .next t ∧ t.host.reply = some r ∧ r.rseq = rseq ∧ r.data = [] ∧
      r.status = s.regStatus true a.toNat ∧ r.crc = crc16 r.bytes ∧ t.host.seqLast = rseq ∧ t.host.seqStatus = r.status ∧ t.host.addressed = true ∧
      t.host.lastReq = (if r.status = 5 then s.host.lastReq else some ⟨reqBytes (reqHeader rseq 1 u a) none [d], r⟩) ∧
      (s.regStatus true a.toNat = 1 →
        t = { s.hostHeard.regWrite .host a.toNat d with host := t.host, sys := t.sys, flt := t.flt }) ∧
      (s.regStatus true a.toNat ≠ 1 → t = { s with host := t.host, sys := t.sys, flt := { s.flt with nmi := none } })) ∧
  (∀ (s : State) (rseq u : BitVec 8) (a : BitVec 14) (d : Word) (n : Nat), s.hostUp = true → s.injectsHost = false →
    s.hostLocal u = true → s.flt.nmi = some (s.beat.num, n) → s.beat.offNs ≤ n + 5000 → s.host.lastReq = none →
    (∃ t, exec (.hostRead rseq u a) s = .next t ∧ t.host.seqLast = rseq ∧ t.flt.nmi = none ∧
      (Config.nmiDone s.beat.num n = some 0 → t.host.seqStatus = 5 ∧ t.host.lastReq = none ∧
        t = { s with host := t.host, sys := t.sys, flt := { s.flt with nmi := none } })) ∧
    (∃ t, exec (.hostWrite rseq u a d) s = .next t ∧ t.host.seqLast = rseq ∧
      (Config.nmiDone s.beat.num n = some 0 → t.host.seqStatus = 5 ∧ t.host.lastReq = none ∧
        t = { s with host := t.host, sys := t.sys, flt := { s.flt with nmi := none } }))) ∧
  (∀ (s : State) (rseq u : BitVec 8) (a : BitVec 14) (r : Reply), s.hostUp = true → s.injectsHost = false → s.hostLocal u = true →
    a.toNat ≠ 4 → a.toNat ≠ 5 → s.host.lastReq = some ⟨reqBytes (reqHeader rseq 0 u a) none [], r⟩ →
    ∃ t q, exec (.hostRead rseq u a) s = .next t ∧ t.host.reply = some q ∧ q.rseq = r.rseq ∧ q.status = 8 ∧ q.data = r.data ∧
      t.host.seqLast = s.host.seqLast ∧ t = { s with host := { s.host with burst := none, addressed := true, reply := t.host.reply } }) ∧
  (∀ (s : State) (rseq u : BitVec 8) (a : BitVec 14) (d : Word) (r : Reply), s.hostUp = true → s.injectsHost = false →
    s.hostLocal u = true → s.host.lastReq = some ⟨reqBytes (reqHeader rseq 1 u a) none [d], r⟩ →
    ∃ t q, exec (.hostWrite rseq u a d) s = .next t ∧ t.host.reply = some q ∧ q.rseq = r.rseq ∧ q.status = 8 ∧ q.data = r.data ∧
      t.host.seqLast = s.host.seqLast ∧ t = { s with host := { s.host with burst := none, addressed := true, reply := t.host.reply } }) ∧
  (∀ (s : State) (rseq u : BitVec 8) (a : BitVec 14) (d : Word), s.hostUp = false →
    exec (.hostRead rseq u a) s = .next { s with host := { s.host with reply := none } } ∧
    exec (.hostWrite rseq u a d) s = .next { s with host := { s.host with reply := none } }) ∧
  (∀ (s : State) (rseq u : BitVec 8) (a : BitVec 14) (fx : Bool) (n : Nat) (ps l : List Nat), s.hostUp = true →
    s.injectsHost = false → s.hostLocal u = true → s.nmiHit = none →
    (s.host.lastReq.any fun l => l.bytes == reqBytes (reqHeader rseq 2 u a) (some (countWord fx n)) []) = false →
    1 ≤ n → n ≤ 256 → (fx = true ∨ a.toNat + (n - 1) ≤ 0x3FFF) →
    l = (List.range n).map (fun i => if fx then a.toNat else a.toNat + i) →
    ∃ t r, exec (.hostBurstRead rseq u a fx ⟨n, ps⟩) s = .next t ∧ t.host.reply = some r ∧ r.rseq = rseq ∧
      r.data = (s.hostHeard.hostReads (l.take (ps.headD 0))).1 ∧ r.crc = crc16 r.bytes ∧
      t.host.burst = some ⟨l.drop (ps.headD 0), ps.tail⟩ ∧
      ((∀ i < n, s.regStatus false (if fx then a.toNat else a.toNat + i) = 1) → r.status = 1) ∧
      ((∃ i < n, s.regStatus false (if fx then a.toNat else a.toNat + i) = 3) → r.status = 3) ∧
      t.host.seqLast = rseq ∧ t.host.seqStatus = r.status ∧ t.host.addressed = true) ∧
  (∀ (s : State) (b : BurstRead) (r : Reply), s.host.burst = some b → s.host.reply = some r →
    ∃ q, s.burstOn.host.reply = some q ∧ q.data = r.data ++ (s.hostReads (b.addrs.take (b.parts.headD 0))).1 ∧
      q.crc = crc16 q.bytes ∧ q.rseq = r.rseq ∧ q.status = r.status ∧
      s.burstOn.host.burst = (if b.parts.tail = [] then none else some ⟨b.addrs.drop (b.parts.headD 0), b.parts.tail⟩)) ∧
  (∀ (s : State) (l : List Nat), (s.hostReads l).1.length = l.length) ∧
  (∀ (s : State) (a : Nat), (s.hostReads [a]).1 = [if s.regStatus false a = 1 then s.regWord .host a else 0]) ∧
  (∀ (s : State) (rseq u : BitVec 8) (a : BitVec 14) (fx : Bool) (n : Nat) (ps : List Nat), s.hostUp = true → s.injectsHost = false →
    s.host.lastReq = none →
    s.hostLocal u = false ∨ n = 0 ∨ 256 < n ∨ (fx = false ∧ 0x3FFF < a.toNat + (n - 1)) →
    ∃ t, exec (.hostBurstRead rseq u a fx ⟨n, ps⟩) s = .next t ∧ t.host.seqStatus = 2 ∧ t.host.seqLast = rseq ∧ t.host.burst = none ∧
      t.host.addressed = (s.host.addressed || s.hostLocal u) ∧
      t = { s with host := t.host, sys := t.sys, flt := { s.flt with nmi := none } }) ∧
  (∀ (s : State) (rseq u : BitVec 8) (a : BitVec 14) (fx : Bool) (ws : List Word), s.hostUp = true → s.injectsHost = false →
    s.hostLocal u = true → s.nmiHit = none →
    (s.host.lastReq.any fun l => l.bytes == reqBytes (reqHeader rseq 3 u a) (some (countWord fx ws.length)) ws) = false →
    1 ≤ ws.length → ws.length ≤ 256 → (fx = true ∨ a.toNat + (ws.length - 1) ≤ 0x3FFF) →
    ∃ t, exec (.hostBurstWrite rseq u a fx ws) s = .next t ∧ t.host.seqLast = rseq ∧ t.host.addressed = true ∧
      ((∀ i < ws.length, s.regStatus true (if fx then a.toNat else a.toNat + i) = 1) → t.host.seqStatus = 1) ∧
      ((∃ i < ws.length, s.regStatus true (if fx then a.toNat else a.toNat + i) = 2) → t.host.seqStatus = 2) ∧
      t = { s.hostHeard.hostWrites (((List.range ws.length).map fun i => if fx then a.toNat else a.toNat + i).zip ws) with
        host := t.host, sys := t.sys, flt := t.flt }) ∧
  (∀ (s : State) (a b : Nat) (v w : Word), s.regStatus true a = 1 → (s.regWrite .host a v).regStatus true b = 1 →
    s.hostWrites [(a, v), (b, w)] = (s.regWrite .host a v).regWrite .host b w) ∧
  (∀ (s : State) (a : Nat) (v : Word), s.regStatus true a ≠ 1 → s.hostWrites [(a, v)] = s) ∧
  (∀ (s : State) (rseq u : BitVec 8) (a : BitVec 14) (fx : Bool) (ws : List Word), s.hostUp = true → s.injectsHost = false →
    s.host.lastReq = none →
    s.hostLocal u = false ∨ ws = [] ∨ 256 < ws.length ∨ (fx = false ∧ 0x3FFF < a.toNat + (ws.length - 1)) →
    ∃ t, exec (.hostBurstWrite rseq u a fx ws) s = .next t ∧ t.host.seqStatus = 2 ∧ t.host.seqLast = rseq ∧
      t = { s with host := t.host, sys := t.sys, flt := { s.flt with nmi := none } }) ∧
  (∀ (s : State) (rseq u : BitVec 8) (a : BitVec 14) (fx : Bool) (n : Nat) (ps : List Nat) (ws : List Word), s.hostUp = false →
    exec (.hostBurstRead rseq u a fx ⟨n, ps⟩) s = .next { s with host := { s.host with reply := none } } ∧
    exec (.hostBurstWrite rseq u a fx ws) s = .next { s with host := { s.host with reply := none } }) ∧
  (∀ (s : State) (l : List Byte), s.hostUp = true → s.srcWhole → 4 ≤ l.length → reqLen l + 2 ≤ l.length → reqCrcOk l = false →
    ∃ t r, exec (.hostCrcError l) s = .next t ∧ t.host.reply = some r ∧ r.rseq = BitVec.ofNat 8 (numAt l 0 1) ∧ r.status = 6 ∧
      r.data = [] ∧ r.crc = crc16 r.bytes ∧
      t.host.errCrc = incSat 65535 s.host.errCrc ∧ t.host.seqLast = s.host.seqLast ∧ t.host.lastReq = s.host.lastReq ∧
      (t.fs 64).latch = true ∧ t.beat = s.beat ∧ t.cha = s.cha ∧ t.chb = s.chb ∧ t.safe = s.safe ∧ t.meas = s.meas) ∧
  (∀ (s : State) (l : List Byte), l.length < 4 ∨ l.length < reqLen l + 2 →
    exec (.hostCrcError l) s = exec .hostFramingError s) ∧
  (∀ (s : State) (l : List Byte) (rseq u : BitVec 8) (a : BitVec 14), 4 ≤ l.length → reqLen l + 2 ≤ l.length → reqCrcOk l = true →
    rseq = BitVec.ofNat 8 (numAt l 0 1) → u = BitVec.ofNat 8 (numAt l 0 4 / 2 ^ 14) → a = BitVec.ofNat 14 (numAt l 0 4) →
    (numAt l 0 4 / 2 ^ 22 % 4 = 0 → exec (.hostCrcError l) s = exec (.hostRead rseq u a) s) ∧
    (numAt l 0 4 / 2 ^ 22 % 4 = 1 → exec (.hostCrcError l) s = exec (.hostWrite rseq u a (nword (numAt l 4 4))) s) ∧
    (numAt l 0 4 / 2 ^ 22 % 4 = 2 → exec (.hostCrcError l) s =
      exec (.hostBurstRead rseq u a ((numAt l 4 1).testBit 7) ⟨numAt l 6 2 % 512, [numAt l 6 2 % 512]⟩) s) ∧
    (numAt l 0 4 / 2 ^ 22 % 4 = 3 → exec (.hostCrcError l) s = exec (.hostBurstWrite rseq u a ((numAt l 4 1).testBit 7)
      ((List.range (numAt l 6 2 % 512)).map fun i => nword (numAt l (8 + 4 * i) 4))) s)) ∧
  (∀ s : State, s.hostUp = true → s.srcWhole →
    ∃ t, exec .hostFramingError s = .next t ∧ t.host.reply = none ∧ t.host.errFrame = incSat 65535 s.host.errFrame ∧
      t.host.seqLast = s.host.seqLast ∧ (t.fs 64).latch = true ∧ t.beat = s.beat ∧ t.cha = s.cha ∧ t.chb = s.chb ∧
      t.safe = s.safe ∧ t.meas = s.meas) ∧
  (∀ (s : State) (l : List Byte), s.hostUp = false →
    exec (.hostCrcError l) s = .next { s with host := { s.host with reply := none } } ∧
    exec .hostFramingError s = .next { s with host := { s.host with reply := none } }) ∧
  (∀ (s : State) (rseq u : BitVec 8) (a : BitVec 14) (d : Word), s.hostUp = true → s.injectsHost = true →
    ∃ t r, exec (.hostWrite rseq u a d) s = .next t ∧ t.host.reply = some r ∧ r.rseq = rseq ∧ r.status = 6 ∧
      t.host.seqLast = s.host.seqLast ∧ t.host.lastReq = s.host.lastReq ∧
      r.crc = crc16 r.bytes ∧
      t.host.errCrc = (if s.flt.injRun.any (·.full) then incSat 65535 s.host.errCrc else s.host.errCrc) ∧
      t.beat = s.beat ∧ t.cha = s.cha ∧ t.chb = s.chb ∧ t.safe = s.safe ∧ t.meas = s.meas)

/-- HOST_POP (R465): HOST_REP0 to HOST_REP3 show the oldest report held; a write of HOST_POP with its REPSEQ removes it and a write with
any other SEQ has no effect. -/
def Obligations.OldestReport : Prop :=
(∀ (s : State) (p : Path) (r : List Word) (l : List (List Word)) (k : Nat) (w : Word), s.host.reports = r :: l → k < 4 →
    r[k]? = some w → s.regWord p (0x000C + k) = w) ∧
  (∀ (s : State) (p : Path) (w : Word) (r : List Word) (l : List (List Word)), s.host.reports = (w :: r) :: l →
    exec (.hostPop p (BitVec.ofNat 16 (w.toNat / 65536))) s = .next { s with host := { s.host with reports := l } }) ∧
  (∀ (s : State) (p : Path) (w : Word) (r : List Word) (l : List (List Word)) (q : BitVec 16), s.host.reports = (w :: r) :: l →
    q ≠ BitVec.ofNat 16 (w.toNat / 65536) → exec (.hostPop p q) s = .next s) ∧
  (∀ (s : State) (p : Path) (q : BitVec 16), s.host.reports = [] → exec (.hostPop p q) s = .next s)

/-- HOST_READ and HOST_WRITE of another unit, REMOTE_ANSWER, REMOTE_TIMEOUT (R464, R466, R467, R468, R469): an active Master queues a
request for a present unit of its string, a Coordinator also for a unit of another string, over the trunk, and answers STATUS 7 with a
tag; a unit without the path answers 2, an absent target 10, a 33rd request 5; an
answer ends the request and queues a type 1 report; the first stale-role answer sends it again; without an answer it ends with
STATUS 9. -/
def Obligations.RemoteRequests : Prop :=
(∀ (s : State) (rseq u : BitVec 8) (a : BitVec 14) (tr : Bool), s.hostUp = true → s.injectsHost = false →
    s.hostLocal u = false → s.nmiHit = none →
    (s.host.lastReq.any fun l => l.bytes == reqBytes (reqHeader rseq 0 u a) none []) = false →
    ∃ t, exec (.hostRead rseq u a) s = .next t ∧ t.host.addressed = s.host.addressed ∧ t.host.seqLast = rseq ∧
      (s.relayPath (s.hostTarget u) = none → t.host.seqStatus = 2 ∧ t.host.reply.map (·.data) = some [0] ∧
        t.host.relays = s.host.relays) ∧
      (s.relayPath (s.hostTarget u) = some tr → s.relayPresent (s.hostTarget u) tr = false →
        t.host.seqStatus = 10 ∧ t.host.relays = s.host.relays) ∧
      (s.relayPath (s.hostTarget u) = some tr → s.relayPresent (s.hostTarget u) tr = true → 32 ≤ s.host.relays.length →
        t.host.seqStatus = 5 ∧ t.host.relays = s.host.relays) ∧
      (s.relayPath (s.hostTarget u) = some tr → s.relayPresent (s.hostTarget u) tr = true → s.host.relays.length < 32 →
        t.host.seqStatus = 7 ∧ t.host.reply.map (·.data) = some [place s.host.nextTag.toNat 0 8] ∧
        t.host.nextTag = s.host.nextTag + 1 ∧ t.host.relays = s.host.relays ++
          [{ tag := s.host.nextTag, unit := s.hostTarget u, write := false, addr := a, data := 0, trunk := tr }]) ∧
      t = { s with host := t.host, sys := t.sys, flt := { s.flt with nmi := none } }) ∧
  (∀ (s : State) (rseq u : BitVec 8) (a : BitVec 14) (d : Word) (tr : Bool), s.hostUp = true → s.injectsHost = false →
    s.hostLocal u = false → s.nmiHit = none →
    (s.host.lastReq.any fun l => l.bytes == reqBytes (reqHeader rseq 1 u a) none [d]) = false →
    ∃ t, exec (.hostWrite rseq u a d) s = .next t ∧ t.host.addressed = s.host.addressed ∧ t.host.seqLast = rseq ∧
      (s.relayPath (s.hostTarget u) = none → t.host.seqStatus = 2 ∧ t.host.reply.map (·.data) = some [] ∧
        t.host.relays = s.host.relays) ∧
      (s.relayPath (s.hostTarget u) = some tr → s.relayPresent (s.hostTarget u) tr = false →
        t.host.seqStatus = 10 ∧ t.host.reply.map (·.data) = some [] ∧ t.host.relays = s.host.relays) ∧
      (s.relayPath (s.hostTarget u) = some tr → s.relayPresent (s.hostTarget u) tr = true → s.host.relays.length < 32 →
        t.host.seqStatus = 7 ∧ t.host.relays = s.host.relays ++
          [{ tag := s.host.nextTag, unit := s.hostTarget u, write := true, addr := a, data := d, trunk := tr }]) ∧
      t = { s with host := t.host, sys := t.sys, flt := { s.flt with nmi := none } }) ∧
  (∀ (s : State) (r : Relay) (st : BitVec 4) (a : BitVec 14) (d : Word), s.relayOf r.tag = some r → st ≠ 4 →
    exec (.remoteAnswer r.tag st a d) s = .next { s with
      host := HostS.report { s.host with relays := s.host.relays.filter (fun x => x.tag != r.tag) } 1 r.tag.toNat
        (place st.toNat 0 4 ||| place r.unit.toNat 16 16) (nword a.toNat) (if st.toNat = 1 ∧ !r.write then d else 0) }) ∧
  (∀ (s : State) (r : Relay) (a : BitVec 14) (d : Word), s.relayOf r.tag = some r → r.resent = true →
    ∃ t, exec (.remoteAnswer r.tag 4 a d) s = .next t ∧ t.host =
        HostS.report { s.host with relays := s.host.relays.filter (fun x => x.tag != r.tag) } 1 r.tag.toNat
          (place 4 0 4 ||| place r.unit.toNat 16 16) (nword a.toNat) 0 ∧
      t.ring.staleRx = incSat 65535 s.ring.staleRx ∧ t = { s with host := t.host, ring := t.ring, sys := t.sys }) ∧
  (∀ (s : State) (r : Relay) (a : BitVec 14) (d : Word), s.relayOf r.tag = some r → r.resent = false →
    ∃ t, exec (.remoteAnswer r.tag 4 a d) s = .next t ∧ t.host.reports = s.host.reports ∧
      t.host.relays = s.host.relays.map (fun x => if x.tag == r.tag then { x with resent := true, sentAt := none } else x) ∧
      t.ring.staleRx = incSat 65535 s.ring.staleRx ∧ t = { s with host := t.host, ring := t.ring, sys := t.sys }) ∧
  (∀ (s : State) (tag : BitVec 8) (st : BitVec 4) (a : BitVec 14) (d : Word), s.relayOf tag = none →
    exec (.remoteAnswer tag st a d) s = .next s ∧ exec (.remoteTimeout tag) s = .next s) ∧
  (∀ (s : State) (r : Relay) (b : Word), s.relayOf r.tag = some r → r.sentAt = some b →
    ((if r.trunk then 11 else 4) ≤ (s.beat.num - b).toNat →
      exec (.remoteTimeout r.tag) s = .next { s with
        host := HostS.report { s.host with
          relays := s.host.relays.filter fun x => x.tag != r.tag
          rmtTmo := incSat 65535 s.host.rmtTmo } 1 r.tag.toNat
          (place 9 0 4 ||| place r.unit.toNat 16 16) (nword r.addr.toNat) 0 }) ∧
    ((s.beat.num - b).toNat < (if r.trunk then 11 else 4) → exec (.remoteTimeout r.tag) s = .next s))

/-- REGISTER_WRITE, PMC_SEL_WRITE, PMC_SNAP (R13, R15, R33, R378, R487, R497, R513, R514): a write of a reserved address or of a
read-only register changes nothing; a staged register waits for the boundary; a write-one-to-clear bit clears; a plain field takes
its value; SNAP freezes the counters until it is released. -/
def Obligations.RegisterWrites : Prop :=
(∀ (s : State) (p : Path) (a : BitVec 14) (d : Word), regAt a.toNat ≠ some true → exec (.registerWrite p a d) s = .next s) ∧
  (∀ (s : State) (p : Path) (d : Word) (k : Nat), k < 3 →
    exec (.registerWrite p (BitVec.ofNat 14 (0x708 + k)) d) s = .next { s with beat := { s.beat with
      staged := s.beat.staged ++ [⟨p, BitVec.ofNat 14 (0x708 + k), d⟩] } }) ∧
  (∀ (s : State) (p : Path) (d : Word),
    exec (.registerWrite p 0x1206 d) s = .next { s with log := { s.log with calS := d } } ∧
    exec (.registerWrite p 0x1208 d) s = .next { s with log := { s.log with rsel := d } } ∧
    exec (.registerWrite p 0x1E04 d) s = .next { s with pwr := { s.pwr with alarm := d } } ∧
    exec (.registerWrite p 0x0C05 d) s = .next { s with safe := { s.safe with
      latch := s.safe.latch &&& ~~~(BitVec.ofNat 15 (bits d 0 15)) } } ∧
    exec (.registerWrite p 0x0101 d) s = .next { s with beat := { s.beat with
      selRej := s.beat.selRej && !bit d 6, ovr := s.beat.ovr && !bit d 4 } } ∧
    exec (.registerWrite p 0x1A30 d) s = .next { s with sys := { s.sys with
      pmcOvf := s.sys.pmcOvf &&& ~~~(BitVec.ofNat 16 (bits d 0 16)) } }) ∧
  (∀ (s : State) (p : Path) (d : Word), bits d 0 2 = 1 → bits d 8 8 = 0xC3 →
    exec (.registerWrite p 0x0C00 d) s = .next { s with safe := { s.safe with reqStaged := some ⟨.close, reqSrc p⟩ } }) ∧
  (∀ (s : State) (p : Path) (i : Fin 16) (src : BitVec 6),
    exec (.pmcSelWrite p i src) s = .next { s with beat := { s.beat with
      staged := s.beat.staged ++ [⟨p, BitVec.ofNat 14 (0x1A10 + i.val), nword src.toNat⟩] } }) ∧
  (∀ (s : State) (i : Fin 16) (src : BitVec 6) (p : Path),
    State.activateStaged ⟨p, BitVec.ofNat 14 (0x1A10 + i.val), nword src.toNat⟩ s = { s with sys := { s.sys with
      pmcSel := s.sys.pmcSel.set i src, pmc := s.sys.pmc.set i 0 } }) ∧
  (∀ (s : State) (p : Path), s.sys.pmcSnap = false →
    exec (.pmcSnap p true) s = .next { s with sys := { s.sys with pmcSnap := true, pmcFrozen := s.sys.pmc } }) ∧
  (∀ (s : State) (p : Path), exec (.pmcSnap p false) s = .next { s with sys := { s.sys with pmcSnap := false } })

/-- RECORDER_WRITE_SLOT, LOG_CLEAR, LOG_CLEAR_COMPLETE, LOG_RD0_READ, CALENDAR_SET (R474, R479, R482, R484, R486, R487, R488): the
write slot of a beat writes the head of the queue once: a new entry as the next record in its slot, a repeat into the stored record
of its number; an overflow marker takes the place that this frees; a pending clear takes the slot instead. A clear needs the key, the
crown switches and Parked and keeps the newest SEQ; the end of the erase writes the record of code 0x0002; a read of LOG_RD0 captures
the selected slot for its path only; a calendar write sets it with its record. -/
def Obligations.Recorder : Prop :=
(∀ (s : State) (e : QEnt) (l : List QEnt), s.log.slotDue = true → s.log.queue = e :: l → (e.kind = .new ∨ e.kind = .marker) →
    s.log.clear = none → s.log.clearPtr = none →
    ∃ t, exec .recorderWriteSlot s = .next t ∧ t.log.newest = s.log.newest + 1 ∧ t.log.slotDue = false ∧
      storeGet ((s.log.newest + 1).toNat % 131072) t.log.store = some
        { code := e.code, rep := e.rep, sec := e.sec, frac := e.frac, seq := s.log.newest + 1, p := pad4 e.p } ∧
      (∀ k, k ≠ (s.log.newest + 1).toNat % 131072 → storeGet k t.log.store = storeGet k s.log.store) ∧
      (s.log.lost = none → t.log.queue = l ∧ t.log.lost = none) ∧
      (∀ n f g, s.log.lost = some (n, f, g) → l.length < 64 → t.log.lost = none ∧ t.log.queue =
        l ++ [{ kind := .marker, code := 1, p := [nword n, f, g, 0], sec := s.log.snapSec, frac := s.log.snapFrac, beat := g }]) ∧
      t.log.intake = s.log.intake ∧ t = { s with log := t.log, sys := t.sys }) ∧
  (∀ (s : State) (e : QEnt) (l : List QEnt) (q : Word) (r : LogRec), s.log.slotDue = true → s.log.queue = e :: l →
    e.kind = .repeatOf q → s.log.clear = none → s.log.clearPtr = none → s.log.lost = none →
    s.log.store.find? (fun x => x.1 == q.toNat % 131072) = some (q.toNat % 131072, r) → r.seq = q →
    ∃ t, exec .recorderWriteSlot s = .next t ∧ t.log.newest = s.log.newest ∧ t.log.slotDue = false ∧ t.log.queue = l ∧
      storeGet (q.toNat % 131072) t.log.store = some { r with rep := min 65535 (r.rep + e.rep) } ∧
      (∀ k, k ≠ q.toNat % 131072 → storeGet k t.log.store = storeGet k s.log.store) ∧
      t = { s with log := t.log, sys := t.sys }) ∧
  (∀ s : State, s.log.slotDue = true → s.log.queue = [] → s.log.clear = none → s.log.clearPtr = none → s.log.lost = none →
    ∃ t, exec .recorderWriteSlot s = .next t ∧ t.log = { s.log with slotDue := false } ∧ t = { s with log := t.log, sys := t.sys }) ∧
  (∀ s : State, s.log.slotDue = false → exec .recorderWriteSlot s = .next s) ∧
  (∀ (s : State) (q : Word), s.log.slotDue = true → s.log.clear = some q → s.log.clearPtr = none →
    ∃ t, exec .recorderWriteSlot s = .next t ∧ t.log = { s.log with slotDue := false, clearPtr := some 0 } ∧
      t = { s with log := t.log, sys := t.sys }) ∧
  (∀ (s : State) (i : Nat), s.log.slotDue = true → s.log.clearPtr = some i →
    ∃ t, exec .recorderWriteSlot s = .next t ∧ t.log = { s.log with slotDue := false } ∧ t = { s with log := t.log, sys := t.sys }) ∧
  (∀ (s : State) (p : Path), s.crowns = true → s.parked = true → s.log.clear = none →
    exec (.logClear p 0xC3) s = .next { s with log := { s.log with clear := some s.log.newest } }) ∧
  (∀ (s : State) (p : Path) (k : BitVec 8), k ≠ 0xC3 ∨ s.crowns = false ∨ s.parked = false ∨ s.log.clear.isSome = true →
    exec (.logClear p k) s = .next s) ∧
  (∀ (s : State) (q : Word), s.log.clear = some q → s.log.clearPtr = some 131072 →
    ∃ t, exec .logClearComplete s = .next t ∧ t.log.clear = none ∧ t.log.clearPtr = none ∧ t.log.newest = s.log.newest + 1 ∧
      storeGet ((s.log.newest + 1).toNat % 131072) t.log.store = some
        { code := 2, rep := 0, sec := s.log.snapSec, frac := s.log.snapFrac, seq := s.log.newest + 1, p := [q, 0, 0, 0] } ∧
      (∀ k, k ≠ (s.log.newest + 1).toNat % 131072 → storeGet k t.log.store = storeGet k s.log.store) ∧
      t.log.queue = s.log.queue ∧ t = { s with log := t.log }) ∧
  (∀ s : State, s.log.clear = none ∨ s.log.clearPtr ≠ some 131072 → exec .logClearComplete s = .next s) ∧
  (∀ s : State, exec (.logRd0Read .host) s = .next { s with log := { s.log with holdHost := s.log.capture } } ∧
    exec (.logRd0Read .ring) s = .next { s with log := { s.log with holdRing := s.log.capture } }) ∧
  (∀ (s : State) (r : LogRec), storeGet (s.log.rsel.toNat % 131072) s.log.store = some r → s.log.capture = wordsOf r.bytes) ∧
  (∀ s : State, storeGet (s.log.rsel.toNat % 131072) s.log.store = none → s.log.capture = [0, 0, 0, 0, 0, 0, 0, 0]) ∧
  (∀ r : LogRec, r.bytes.length = 32 ∧ r.bytes[31]? = some r.mark ∧ r.bytes[30]? = some (BitVec.ofNat 8 (crc8 (r.bytes.take 30)))) ∧
  (∀ (s : State) (p : Path) (f : Word),
    ∃ t, exec (.calendarSet p f) s = .next t ∧ t.log.calSec = s.log.calS ∧ t.log.calFrac = BitVec.ofNat 16 f.toNat ∧
      t.log.calValid = true ∧
      (s.fltShown = none → s.beat.running = true →
        t.log.intake = s.log.intake ++ [⟨.management, 3, [s.log.calSec, s.log.calS, 1]⟩]) ∧
      (s.fltShown = none → s.beat.running = false →
        t.log.early = s.log.early ++ [⟨.management, 3, [s.log.calSec, s.log.calS, 1]⟩]) ∧
      t.log.store = s.log.store ∧ t.log.queue = s.log.queue ∧ t = { s with log := t.log })

/-- SUPPLY_GOOD, INTERRUPTION_BEGIN, INTERRUPTION_END, POWER_FAIL_STOP (R70, R71, R72, R497, R498, R502): supply good starts the module
from Off, and from Listen or Dormant where a wake is latched; VS below 12.0 V begins an interruption, in start steps 1 to 5 it ends in
Off; one that is ridden through writes 0x0101 and raises FS66; a stop saves the charge accumulators and the calendar, writes 0x0102 as
the last record and ends in Off.

NRST_ASSERT, NRST_RELEASE, NRST_STUCK, NRST_IGN_CLEAR, MODULE_RESET (R485, R503, R504, R505, R506, R507): a low nRST of 10 µs holds
the module in reset with every output open, one below 2 µs does nothing, between them either may happen; during a stop, in Off, in
Dormant and while NRST_IGN is set it has no effect; its release starts at step 2 with cause 2, a stuck one with cause 3 and NRST_IGN;
a module reset that is due keeps the MRAM and the supervisor latches, sets the rest back and starts at step 2 with its cause. -/
def Obligations.SupplyAndResets : Prop :=
  (∀ (s : State) (vs : Nat), s.pwr.state = .off → 13000 ≤ vs →
    exec (.supplyGood vs) s = .next { s with pwr := { s.pwr with vsGood := true, vsOk := 16, state := .start 1, cause := 1 } }) ∧
  (∀ (s : State) (vs : Nat), (s.pwr.state = .listen ∨ s.pwr.state = .dormant) → 13000 ≤ vs → s.pwr.wakeLatch ≠ 0 →
    exec (.supplyGood vs) s = .next { s with pwr := { s.pwr with
      vsGood := true, vsOk := 16, state := .start 2, cause := if s.pwr.state = .listen then 8 else 9
      wakeCause := s.pwr.wakeLatch, wakeLatch := 0, wakes := incSat 65535 s.pwr.wakes } }) ∧
  (∀ (s : State) (vs : Nat), 13000 ≤ vs → s.pwr.state ≠ .off → (s.pwr.state = .listen ∨ s.pwr.state = .dormant → s.pwr.wakeLatch = 0) →
    exec (.supplyGood vs) s = .next { s with pwr := { s.pwr with vsGood := true, vsOk := 16 } }) ∧
  (∀ (s : State) (vs : Nat), vs < 13000 → exec (.supplyGood vs) s = .next s) ∧
  (∀ (s : State) (vs k : Nat), vs < 12000 → (s.pwr.state = .active ∨ s.pwr.state = .idle ∨ (s.pwr.state = .start k ∧ 6 ≤ k)) →
    s.pwr.intr = none → s.pwr.stopping = false →
    exec (.interruptionBegin vs) s = .next { s with pwr := { s.pwr with
      intr := some (vs, s.beat.num, s.beat.sub), vsOk := 0, vsGood := false } }) ∧
  (∀ (s : State) (vs k : Nat), vs < 12000 → s.pwr.state = .start k → k ≤ 5 →
    ∃ t, exec (.interruptionBegin vs) s = .next t ∧ t.pwr.state = .off ∧ t.safe.out.all (fun o => !o.conducts) = true ∧
      t.cfg.bank0 = s.cfg.bank0 ∧ t.cfg.bank1 = s.cfg.bank1 ∧ t.log.store = s.log.store ∧ t.log.newest = s.log.newest ∧
      t.meas.qA = s.meas.qSaved ∧ t.pending = s.pending) ∧
  (∀ (s : State) (vs : Nat), 12000 ≤ vs ∨ s.pwr.state = .off ∨ s.pwr.state = .listen ∨ s.pwr.state = .dormant ∨
    s.pwr.state = .held ∨ ((s.pwr.state = .active ∨ s.pwr.state = .idle) ∧ (s.pwr.intr.isSome = true ∨ s.pwr.stopping = true)) →
    exec (.interruptionBegin vs) s = .next s) ∧
  (∀ (s : State) (vs low j : Nat) (b : Word), 13000 ≤ vs → s.pwr.stopping = false → s.pwr.intr = some (low, b, j) → s.srcWhole →
    ∃ t, exec (.interruptionEnd vs) s = .next t ∧ t.pwr = { s.pwr with intr := none } ∧ (t.fs 66).latch = true ∧
      (s.fltShown = none → s.beat.running = true → ∃ l, t.log.intake = s.log.intake ++
        ⟨.management, 0x101, [nword (16 * (s.beat.num - b).toNat + s.beat.sub - j), nword low]⟩ :: l) ∧
      t.beat = s.beat ∧ t.cha = s.cha ∧ t.chb = s.chb ∧ t.safe = s.safe ∧ t.meas = s.meas) ∧
  (∀ (s : State) (vs : Nat), vs < 13000 ∨ s.pwr.stopping = true ∨ s.pwr.intr = none →
    exec (.interruptionEnd vs) s = .next s) ∧
  (∀ (s : State) (r : Bool), (s.pwr.stopping = true ∨ (s.pwr.intr.isSome = true ∧ r = true)) →
    ∃ t, exec (.powerFailStop r) s = .next t ∧ t.pwr.state = .off ∧ t.safe.out.all (fun o => !o.conducts) = true ∧
      t.meas.qA = s.meas.qA ∧ t.meas.qB = s.meas.qA ∧ t.log.savedSec = s.log.calSec ∧ t.log.savedFrac = s.log.calFrac ∧
      t.log.queue = [] ∧ t.cfg.bank0 = s.cfg.bank0 ∧ t.cfg.bank1 = s.cfg.bank1 ∧ t.ring.role = s.ring.role ∧
      (∀ low b j, s.runs .a = true → s.pwr.intr = some (low, b, j) →
        (storeGet (t.log.newest.toNat % 131072) t.log.store).map (fun x => (x.code, x.p)) = some (0x102, [nword low, b, 0, 0])) ∧
      t.pending = s.pending) ∧
  (∀ (s : State) (r : Bool), s.pwr.stopping = false → s.pwr.intr = none ∨ r = false → exec (.powerFailStop r) s = .next s) ∧
  (∀ (s : State) (us : Nat), s.pwr.state ≠ .off → s.pwr.state ≠ .dormant → s.pwr.nrstIgn = false → s.pwr.stopping = false → 10 ≤ us →
    ∃ t, exec (.nrstAssert us) s = .next t ∧ t.pwr.state = .held ∧ t.pwr.nrstLow = true ∧
      t.safe.out.all (fun o => !o.conducts) = true ∧ t.safe.latched = s.safe.latched ∧ t.cfg.bank0 = s.cfg.bank0 ∧
      t.cfg.bank1 = s.cfg.bank1 ∧ t.meas.qA = s.meas.qSaved ∧ t.log.queue = [] ∧
      (s.runs .a = true → s.pwr.state ≠ .listen → t.log.store = (s.log.append s.repWin s.beat.num).flush.store) ∧
      t.pending = s.pending) ∧
  (∀ (s : State) (us : Nat), s.pwr.state ≠ .off → s.pwr.state ≠ .dormant → s.pwr.nrstIgn = false → s.pwr.stopping = false → us < 2 →
    exec (.nrstAssert us) s = .next s) ∧
  (∀ (s : State) (us : Nat), s.pwr.state ≠ .off → s.pwr.state ≠ .dormant → s.pwr.nrstIgn = false → s.pwr.stopping = false → 2 ≤ us →
    us < 10 → ∃ t, exec (.nrstAssert us) s = .next t ∧
      ((t.pwr.state = .held ∧ t.pwr.nrstLow = true) ∨ t = { s with pwr := { s.pwr with shorts := s.pwr.shorts + 1 } })) ∧
  (∀ (s : State) (us : Nat), s.pwr.nrstIgn = true ∨ s.pwr.stopping = true ∨ s.pwr.state = .off ∨ s.pwr.state = .dormant →
    exec (.nrstAssert us) s = .next { s with pwr := { s.pwr with
      nrstLow := s.pwr.state != .off && s.pwr.state != .dormant && decide (2 ≤ us) } }) ∧
  (∀ s : State, s.pwr.state = .held →
    exec .nrstRelease s = .next { s with pwr := { s.pwr with nrstLow := false, state := .start 2, cause := 2 } }) ∧
  (∀ s : State, s.pwr.state ≠ .held → exec .nrstRelease s = .next { s with pwr := { s.pwr with nrstLow := false } }) ∧
  (∀ s : State, s.pwr.state = .held → s.pwr.nrstLow = true →
    exec .nrstStuck s = .next { s with pwr := { s.pwr with nrstIgn := true, state := .start 2, cause := 3 } }) ∧
  (∀ s : State, s.pwr.state ≠ .held ∨ s.pwr.nrstLow = false → exec .nrstStuck s = .next s) ∧
  (∀ s : State, s.pwr.nrstIgn = true →
    ∃ t, exec .nrstIgnClear s = .next t ∧ t.pwr = { s.pwr with nrstIgn := false, nrstLow := false } ∧ (t.fs 65).cond = false ∧
      t = { s with pwr := t.pwr, flt := t.flt }) ∧
  (∀ s : State, s.pwr.nrstIgn = false → exec .nrstIgnClear s = .next s) ∧
  (∀ (s : State) (c : Nat), s.cfg.resetDue = some c → s.beat.running = true →
    ∃ t, exec .moduleReset s = .next t ∧ t.pwr.state = .start 2 ∧ t.pwr.cause = c ∧ t.beat = {} ∧ t.cfg.image = none ∧
      t.cfg.bank0 = s.cfg.bank0 ∧ t.cfg.bank1 = s.cfg.bank1 ∧ t.cfg.j0 = s.cfg.j0 ∧ t.cfg.j1 = s.cfg.j1 ∧ t.cfg.keys = s.cfg.keys ∧
      t.meas.qA = s.meas.qSaved ∧ t.meas.qB = s.meas.qSaved ∧ t.chg.recs = s.chg.recs ∧ t.bal.rw = s.bal.rw ∧
      t.safe.latched = s.safe.latched ∧ t.safe.out.all (fun o => !o.conducts) = true ∧
      t.cha.seq.state = (if s.safe.latched then .safe else .parked) ∧ t.chb.seq.state = t.cha.seq.state ∧
      t.ring.role = s.ring.role ∧ t.ring.epoch = s.ring.epoch ∧ t.sys.hist = s.sys.hist ∧
      t.log.calSec = s.log.calSec ∧ t.log.calFrac = s.log.calFrac ∧ t.log.queue = [] ∧
      (s.runs .a = true → t.log.store = (s.log.append s.repWin s.beat.num).flush.store) ∧
      t.pwr.alarm = s.pwr.alarm ∧ t.pwr.wakeCause = s.pwr.wakeCause ∧ t.pwr.nrstIgn = s.pwr.nrstIgn ∧
      t.core.a.mm = s.core.a.mm ∧ t.core.b.mm = s.core.b.mm ∧
      t.flt.rstCnt = (if c = 4 ∨ c = 5 then incSat 255 s.flt.rstCnt else s.flt.rstCnt) ∧
      t.imp = {} ∧ t.lim = {} ∧ t.integ = {} ∧ t.host = {} ∧ t.bal.req = [0, 0, 0] ∧ t.fltShown = none ∧ t.pending = s.pending) ∧
  (∀ s : State, s.cfg.resetDue = none ∨ s.beat.running = false → exec .moduleReset s = .next s)

/-- PWR_LISTEN, PWR_DORMANT, LISTEN_TIMEOUT, DORMANT_TIMEOUT, LISTEN_VS_LOW, DORMANT_STACK_LOW, WAKE (R492, R493, R494, R495, R496,
R497): a request that nothing refuses starts the entry procedure, else RCAUSE says the first of the six reasons; the timeouts and the
supply lead from Listen to Dormant and from Dormant to Off; an enabled source with supply good starts the module at step 2, cause 8
from Listen and 9 from Dormant; without supply good or during the entry procedure it is latched.

START_SEQUENCE and START_STEP_END (R55, R134, R142, R351, R487, R499, R501, R509): the start runs its steps in order; a boot or
memory failure holds its die in reset, a missed comparator injection marks its pair; step 4 restores the saved calendar after Off; step
5 counts the start and loads the image of the governing bank; step 6 marks the converters out of limits; step 7 waits for its
open-wire pass and checks the population (log entry 84); step 8 ends in Active with the sequencers Safe when the Safe latch is set,
else Parked. -/
def Obligations.LowPower : Prop :=
  (∀ (s : State) (key : Bool), (s.pwr.state = .active ∨ s.pwr.state = .idle) → s.pwr.req = some (1, key) →
    (s.pwrRefusal false key = none →
      exec .pwrListen s = .next { s with pwr := { s.pwr with req := none, entry := some (s.pwr.entry.getD (false, 1)) } }) ∧
    (∀ r, s.pwrRefusal false key = some r →
      exec .pwrListen s = .next { s with pwr := { s.pwr with req := none, rcause := r, idleBeats := 0 } })) ∧
  (∀ (s : State) (key : Bool), (s.pwr.state = .active ∨ s.pwr.state = .idle) → s.pwr.req = some (2, key) →
    (s.pwrRefusal true key = none →
      exec .pwrDormant s = .next { s with pwr := { s.pwr with req := none, entry := some (s.pwr.entry.getD (true, 1)) } }) ∧
    (∀ r, s.pwrRefusal true key = some r →
      exec .pwrDormant s = .next { s with pwr := { s.pwr with req := none, rcause := r, idleBeats := 0 } })) ∧
  (∀ s : State, s.pwr.req = none ∨ (s.pwr.state ≠ .active ∧ s.pwr.state ≠ .idle) →
    exec .pwrListen s = .next s ∧ exec .pwrDormant s = .next s) ∧
  (∀ (s : State) (d : Bool) (c : Ctl), s.pwrRefusal d false = some 1 ∧
    (c = (if s.runs .a then s.pre.ctlA else s.pre.ctlB) →
      (c ≠ .parked → c ≠ .safe → s.pwrRefusal d true = some 2) ∧
      (c = .parked ∨ c = .safe →
        (s.pre.busy = true → s.pwrRefusal d true = some 3) ∧
        (s.pre.busy = false → s.pre.closeStaged = true → s.pwrRefusal d true = some 4) ∧
        (s.pre.busy = false → s.pre.closeStaged = false → s.wakeActive d = true → s.pwrRefusal d true = some 5) ∧
        (s.pre.busy = false → s.pre.closeStaged = false → s.wakeActive d = false →
          (d = false → s.pwrRefusal false true = none) ∧
          (d = true → s.pwrRefusal true true = if (s.hv 0).valid = true ∧ 12800 ≤ (s.hv 0).code then none else some 6))))) ∧
  (∀ s : State, s.pwr.state = .idle → 0 < s.nat .LSN_TMO → 1000 * s.nat .LSN_TMO ≤ s.pwr.idleBeats → s.pwr.entry = none →
    (s.pwrRefusal false true = none →
      exec .listenTimeout s = .next { s with pwr := { s.pwr with req := none, entry := some (false, 2) } }) ∧
    (∀ r, s.pwrRefusal false true = some r →
      exec .listenTimeout s = .next { s with pwr := { s.pwr with req := none, rcause := r, idleBeats := 0 } })) ∧
  (∀ s : State, s.pwr.state ≠ .idle ∨ s.nat .LSN_TMO = 0 ∨ s.pwr.idleBeats < 1000 * s.nat .LSN_TMO →
    exec .listenTimeout s = .next s) ∧
  (∀ (s : State) (d : Bool) (k : Nat), s.pwr.entry = some (d, k) → s.pwr.wakeLatch &&& wakeMask d = 0 ∨ s.pwr.vsGood = false →
    s.enterLow.pwr.state = (if d then .dormant else .listen) ∧ s.enterLow.pwr.wakeEn = BitVec.ofNat 7 (s.nat .WAKE_EN) ∧
      s.enterLow.pwr.dormTmo = s.nat .DORM_TMO ∧ s.enterLow.safe.out.all (fun o => !o.conducts) = true ∧
      s.enterLow.beat.running = false ∧ s.enterLow.meas.qA = s.meas.qSaved ∧ s.enterLow.log.queue = [] ∧
      (s.runs .a = true →
        (storeGet (s.enterLow.log.newest.toNat % 131072) s.enterLow.log.store).map (fun x => (x.code, x.p)) =
          some (0x104, [if d then 2 else 1, nword k, 0, 0]))) ∧
  (∀ s : State, s.pwr.state = .listen → s.pwr.dormTmo ≠ 0 →
    exec .dormantTimeout s = .next { s with pwr := { s.pwr with state := .dormant } }) ∧
  (∀ s : State, s.pwr.state ≠ .listen ∨ s.pwr.dormTmo = 0 → exec .dormantTimeout s = .next s) ∧
  (∀ (s : State) (vs : Nat), s.pwr.state = .listen → vs < 12000 →
    exec (.listenVsLow vs) s = .next { s with pwr := { s.pwr with state := .dormant, vsGood := false, vsOk := 0 } }) ∧
  (∀ (s : State) (vs : Nat), s.pwr.state ≠ .listen ∨ 12000 ≤ vs → exec (.listenVsLow vs) s = .next s) ∧
  (∀ (s : State) (mv : Nat), s.pwr.state = .dormant → mv < 40000 →
    ∃ t, exec (.dormantStackLow mv) s = .next t ∧ t.pwr.state = .off ∧ t.cfg.bank0 = s.cfg.bank0 ∧ t.cfg.bank1 = s.cfg.bank1 ∧
      t.log.store = s.log.store ∧ t.pwr.alarm = 0 ∧ t.pending = s.pending) ∧
  (∀ (s : State) (mv : Nat), s.pwr.state ≠ .dormant ∨ 40000 ≤ mv → exec (.dormantStackLow mv) s = .next s) ∧
  (∀ (s : State) (x : BitVec 7), s.pwr.state = .listen ∨ s.pwr.state = .dormant →
    s.wakeSources (s.pwr.state == .dormant) x &&& s.pwr.wakeEn ≠ 0 →
    exec (.wake x) s = .next { s with pwr := if s.pwr.vsGood then { s.pwr with
        state := .start 2, cause := if s.pwr.state = .listen then 8 else 9, wakeLatch := 0
        wakeCause := s.pwr.wakeLatch ||| s.wakeSources (s.pwr.state == .dormant) x, wakes := incSat 65535 s.pwr.wakes }
      else { s.pwr with wakeLatch := s.pwr.wakeLatch ||| s.wakeSources (s.pwr.state == .dormant) x } }) ∧
  (∀ (s : State) (x : BitVec 7), s.pwr.state = .listen ∨ s.pwr.state = .dormant →
    s.wakeSources (s.pwr.state == .dormant) x &&& s.pwr.wakeEn = 0 → exec (.wake x) s = .next s) ∧
  (∀ (s : State) (x : BitVec 7) (d : Bool) (k : Nat), s.pwr.state ≠ .listen → s.pwr.state ≠ .dormant → s.pwr.entry = some (d, k) →
    s.wakeSources d x &&& BitVec.ofNat 7 (s.nat .WAKE_EN) ≠ 0 →
    exec (.wake x) s = .next { s with pwr := { s.pwr with wakeLatch := s.pwr.wakeLatch ||| s.wakeSources d x } }) ∧
  (∀ (s : State) (x : BitVec 7), s.pwr.state ≠ .listen → s.pwr.state ≠ .dormant → s.pwr.entry = none → exec (.wake x) s = .next s) ∧
  (∀ (s : State) (x : BitVec 7) (d : Bool), s.wakeSources true x &&& 0x60 = 0 ∧ s.wakeSources false x &&& 2 = 0 ∧
    (s.pwr.alarm = 0 → s.wakeSources d x &&& 0x10 = 0)) ∧
  (∀ (s : State) (o : StartIn), s.pwr.state = .start 1 →
    exec (.startSequence o) s = .next { s with pwr := { s.pwr with state := .start 2, startBeats := 0 } }) ∧
  (∀ (s : State) (o : StartIn), s.pwr.state = .start 2 →
    ∃ t, exec (.startSequence o) s = .next t ∧ t.pwr.state = .start 3 ∧ t.pwr.startBeats = 0 ∧
      t.pwr.startFaults = s.pwr.startFaults ++ (if o.bootFail.toNat.testBit 0 then [(0, 0)] else []) ++
        (if o.bootFail.toNat.testBit 1 then [(1, 0)] else []) ∧
      t.cha = { s.cha with alive := s.cha.alive && !o.bootFail.toNat.testBit 0 } ∧
      t.chb = { s.chb with alive := s.chb.alive && !o.bootFail.toNat.testBit 1 } ∧
      t = { s with cha := t.cha, chb := t.chb, pwr := t.pwr, fltShown := t.fltShown }) ∧
  (∀ (s : State) (o : StartIn), s.pwr.state = .start 3 →
    ∃ t, exec (.startSequence o) s = .next t ∧ t.pwr.state = .start 4 ∧
      (o.missA = none → o.flagA = none → t.core.a = s.core.a) ∧ (o.missB = none → o.flagB = none → t.core.b = s.core.b) ∧
      (∀ c i, o.missA = some (c, i) → t.core.a.pair = .failed ∧ t.core.a.testFail = some (c.val, i.val) ∧
        (2, nword c.val) ∈ t.pwr.startFaults) ∧
      (∀ c, o.missA = none → o.flagA = some c → t.core.a.pair = .failed ∧ (t.core.a.testFail).map (·.1) = some c.val ∧
        (2, nword c.val) ∈ t.pwr.startFaults) ∧
      (∀ c i, o.missB = some (c, i) → t.core.b.pair = .failed ∧ t.core.b.testFail = some (c.val, i.val) ∧
        (2, nword c.val) ∈ t.pwr.startFaults) ∧
      (∀ c, o.missB = none → o.flagB = some c → t.core.b.pair = .failed ∧ (t.core.b.testFail).map (·.1) = some c.val ∧
        (2, nword c.val) ∈ t.pwr.startFaults) ∧
      (o.missA = none → o.flagA = none → o.missB = none → o.flagB = none → t.pwr.startFaults = s.pwr.startFaults) ∧
      t = { s with core := t.core, pwr := t.pwr }) ∧
  (∀ (s : State) (o : StartIn), s.pwr.state = .start 4 → s.pwr.cause ≠ 1 →
    ∃ t, exec (.startSequence o) s = .next t ∧ t.pwr.state = .start 5 ∧
      t.pwr.startFaults = s.pwr.startFaults ++ (if o.memFail.toNat.testBit 0 then [(9, 0)] else []) ++
        (if o.memFail.toNat.testBit 1 then [(10, 0)] else []) ++ (if o.memFail.toNat.testBit 2 then [(11, 0)] else []) ∧
      t.cha = { s.cha with alive := s.cha.alive && !o.memFail.toNat.testBit 0 } ∧
      t.chb = { s.chb with alive := s.chb.alive && !o.memFail.toNat.testBit 1 } ∧
      t = { s with cha := t.cha, chb := t.chb, pwr := t.pwr, fltShown := t.fltShown }) ∧
  (∀ (s : State) (o : StartIn), s.pwr.state = .start 4 → s.pwr.cause = 1 → s.log.calTrim = 0 → s.log.calTrimAcc = 0 →
    65536 * (s.log.savedSec.toNat + s.log.calSec.toNat) + s.log.savedFrac.toNat + s.log.calFrac.toNat < 65536 * 2 ^ 32 →
    ∃ t, exec (.startSequence o) s = .next t ∧ t.pwr.state = .start 5 ∧ t.log.calValid = false ∧
      65536 * t.log.calSec.toNat + t.log.calFrac.toNat =
        65536 * (s.log.savedSec.toNat + s.log.calSec.toNat) + s.log.savedFrac.toNat + s.log.calFrac.toNat ∧
      (o.memFail = 0 → s.fltShown = none → s.beat.running = false →
        t.log.early = s.log.early ++ [⟨.management, 4, [t.log.calSec]⟩])) ∧
  (∀ (s : State) (o : StartIn), s.pwr.state = .start 5 →
    ∃ t, exec (.startSequence o) s = .next t ∧ t.pwr.state = .start 6 ∧ t.pwr.starts = incSat 65535 s.pwr.starts ∧
      t.pwr.startFaults = [] ∧ t.cfg.copiesOk = o.copiesEqual ∧ t.cfg.image = s.loadImage.1.cfg.image ∧
      t.flt.nfltLoad = s.loadImage.2 ∧ t.beat.num = s.beat.num ∧ t.safe.out = s.safe.out) ∧
  (∀ (s : State) (b : Bool), s.cfg.find [.trial] = some b → s.bankLoads b = true → s.chooseBank = (s, some b, false)) ∧
  (∀ (s : State) (b : Bool), s.cfg.find [.trial] = none → s.cfg.find [.active] = some b →
    (s.bankLoads b = true → s.chooseBank = (s, some b, s.cfg.governing.isNone)) ∧
    (s.bankLoads b = false → s.chooseBank.2 = (none, true) ∧ (s.chooseBank.1.cfg.bank b).state = .invalid)) ∧
  (∀ (s : State) (o : StartIn), s.pwr.state = .start 6 → s.srcWhole →
    ∃ t, exec (.startSequence o) s = .next t ∧ t.pwr.state = .start 7 ∧
      t.meas.failCell = (calFails o.calCell 1000 200).map (· + 1) ∧ t.meas.failChk = calFails o.calChk 4000 1000 ∧
      t.meas.failCur = calFails o.calCur 2000 2000 ∧ t.meas.failHv = calFails o.calHv 3000 500 ∧
      (∀ n, n ∈ t.meas.failCell → segOf n < 4 → (t.fs (24 + segOf n)).cond = true) ∧
      (t.meas.failCur ≠ [] ∨ t.meas.failHv ≠ [] → (t.fs 24).cond = true) ∧
      (o.calCell = [] → o.calChk = [] → o.calCur = [] → o.calHv = [] → t.flt = s.flt) ∧
      t.cha = s.cha ∧ t.chb = s.chb ∧ t.safe = s.safe) ∧
  (∀ (s : State) (o : StartIn), s.pwr.state = .start 7 → s.passRuns = true → exec (.startSequence o) s = .next s) ∧
  (∀ (s : State) (o : StartIn), s.pwr.state = .start 7 → s.passRuns = false → s.misPopulated = false →
    exec (.startSequence o) s = .next { s with pwr := { s.pwr with state := .start 8, startBeats := 0 } }) ∧
  (∀ (s : State) (o : StartIn), s.pwr.state = .start 7 → s.passRuns = false → s.misPopulated = true → s.srcWhole →
    ∃ t, exec (.startSequence o) s = .next t ∧ t.pwr.state = .start 8 ∧ (t.fs 28).cond = true ∧ t.meas = s.meas ∧ t.safe = s.safe) ∧
  (∀ (s : State) (o : StartIn), s.pwr.state = .start 8 ∨ s.pwr.state = .active ∨ s.pwr.state = .idle ∨ s.pwr.state = .off ∨
    s.pwr.state = .held ∨ s.pwr.state = .listen ∨ s.pwr.state = .dormant → exec (.startSequence o) s = .next s) ∧
  (∀ (s : State) (ms : Nat), s.startDone = true →
    ∃ t, exec (.startStepEnd ms) s = .next t ∧ t.pwr.state = .active ∧ t.pwr.ms = min 65535 ms ∧
      t.cha.seq = { state := if s.safe.latched then .safe else .parked } ∧ t.chb.seq = t.cha.seq ∧
      t = { s with cha := t.cha, chb := t.chb, pwr := t.pwr }) ∧
  (∀ (s : State) (ms : Nat), s.startDone = false → exec (.startStepEnd ms) s = .next s) ∧
  (∀ s : State, s.pwr.state = .start 8 → (s.startDone = true ↔ (s.cfg.image = none ∨ (s.ring.active = true ∧ s.ring.enumDue = false) ∨
    (s.ring.active = false ∧ s.ring.listed = true) ∨
    (if s.on .START = true ∧ 2 ≤ s.ring.role.toNat then 100 else 40) ≤ s.pwr.startBeats)))
end

