-- ==== Sys2Proof/Laws/Bank.lean ====
section
/-! SUPPORT. The bank's byte store keeps its canonical form under every operation on it (R109, R124, R135). -/

namespace Sys2Proof.Machine

/-- The canonical form, one entry at a time: an entry is in the bank and not 0, lies below all later ones, and the rest is
canonical. -/
theorem cellsWf_cons (c : Host.Cell) (l : List Host.Cell) :
    cellsWf (c :: l) = true ↔ c.1 < bankSize ∧ c.2 ≠ 0 ∧ cellsWf l = true ∧ ∀ d ∈ l, c.1 < d.1 := by
  induction l generalizing c with
  | nil => simp [cellsWf]
  | cons d l ih =>
    simp only [cellsWf, Bool.and_eq_true, decide_eq_true_eq, bne_iff_ne, ne_eq, ih d, List.mem_cons, forall_eq_or_imp]
    constructor
    · rintro ⟨⟨h, h0⟩, hd, hd0, hl, hr⟩
      exact ⟨by omega, h0, ⟨hd, hd0, hl, hr⟩, h, fun e he => by have := hr e he; omega⟩
    · rintro ⟨-, h0, ⟨hd, hd0, hl, hr⟩, h, -⟩
      exact ⟨⟨h, h0⟩, hd, hd0, hl, hr⟩

/-- A store adds no address but its own. -/
theorem mem_cellsSet {a : Nat} {b : Byte} {l : List Host.Cell} {e : Host.Cell} (h : e ∈ cellsSet a b l) :
    e.1 = a ∨ e ∈ l := by
  induction l with
  | nil =>
    simp only [cellsSet] at h
    split at h <;> simp_all
  | cons c l ih =>
    simp only [cellsSet] at h
    split_ifs at h <;> simp only [List.mem_cons] at h ⊢ <;> grind

/-- A store inside the bank keeps the canonical form. -/
theorem cellsSet_wf {a : Nat} {b : Byte} {l : List Host.Cell} (ha : a < bankSize) (h : cellsWf l = true) :
    cellsWf (cellsSet a b l) = true := by
  induction l with
  | nil =>
    simp only [cellsSet]
    split_ifs with hb
    · rfl
    · simpa [cellsWf, ha] using hb
  | cons c l ih =>
    obtain ⟨h1, h2, h3, h4⟩ := (cellsWf_cons c l).1 h
    simp only [cellsSet]
    split_ifs with hc he hb hb
    · refine (cellsWf_cons _ _).2 ⟨h1, h2, ih h3, fun d hd => ?_⟩
      rcases mem_cellsSet hd with hd | hd
      · omega
      · exact h4 d hd
    · exact h3
    · exact (cellsWf_cons _ _).2 ⟨ha, hb, h3, fun d hd => by have := h4 d hd; simp only; omega⟩
    · exact h
    · refine (cellsWf_cons _ _).2 ⟨ha, hb, h, fun d hd => ?_⟩
      rcases List.mem_cons.1 hd with hd | hd
      · subst hd; simp only; omega
      · have := h4 d hd; simp only; omega

/-- Consecutive stores inside the bank keep the canonical form. -/
theorem cellsPut_wf {a : Nat} {bs : List Byte} {l : List Host.Cell} (ha : a + bs.length ≤ bankSize) (h : cellsWf l = true) :
    cellsWf (cellsPut a bs l) = true := by
  induction bs generalizing a l with
  | nil => exact h
  | cons b bs ih =>
    simp only [List.length_cons] at ha
    exact ih (by omega) (cellsSet_wf (by omega) h)

/-- Clearing the first bytes keeps the canonical form. -/
theorem cellsClearBelow_wf {n : Nat} {l : List Host.Cell} (h : cellsWf l = true) : cellsWf (cellsClearBelow n l) = true := by
  induction l with
  | nil => rfl
  | cons c l ih =>
    obtain ⟨h1, h2, h3, h4⟩ := (cellsWf_cons c l).1 h
    have hl := ih h3
    simp only [cellsClearBelow, List.filter_cons] at hl ⊢
    split_ifs
    · exact (cellsWf_cons _ _).2 ⟨h1, h2, hl, fun d hd => h4 d (List.mem_filter.1 hd).1⟩
    · exact hl

/-- Cleared bytes read 0 and the others stay. -/
theorem cellsGet_clearBelow {n a : Nat} {l : List Host.Cell} :
    cellsGet a (cellsClearBelow n l) = if a < n then 0 else cellsGet a l := by
  induction l with
  | nil => simp [cellsClearBelow, cellsGet]
  | cons c l ih =>
    unfold cellsClearBelow at ih
    by_cases hc : n ≤ c.1
    · simp only [cellsClearBelow, List.filter_cons, hc, decide_true, if_true, cellsGet, ih]
      split_ifs <;> first | rfl | omega
    · simp only [cellsClearBelow, List.filter_cons, hc, decide_false, cellsGet, Bool.false_eq_true, if_false, ih]
      split_ifs <;> first | rfl | omega

/-- The banks after reset are canonical. -/
theorem reset_banks_wf : State.reset.cfg.bank0.wf = true ∧ State.reset.cfg.bank1.wf = true := ⟨rfl, rfl⟩

end Sys2Proof.Machine
end

