-- ==== Sys2Proof/Laws/State.lean ====
section
/-! SUPPORT. What each field of the state is after each update: one lemma per field and update, true by rfl. -/

namespace Sys2Proof.Machine

/-! setBeat -/

@[simp] theorem State.setBeat_beat (s : State) (f : BeatS → BeatS) :
    (s.setBeat f).beat = f s.beat := rfl
@[simp] theorem State.setBeat_mem (s : State) (f : BeatS → BeatS) : (s.setBeat f).mem = s.mem := rfl
@[simp] theorem State.setBeat_cfg (s : State) (f : BeatS → BeatS) : (s.setBeat f).cfg = s.cfg := rfl
@[simp] theorem State.setBeat_meas (s : State) (f : BeatS → BeatS) : (s.setBeat f).meas = s.meas := rfl
@[simp] theorem State.setBeat_integ (s : State) (f : BeatS → BeatS) : (s.setBeat f).integ = s.integ := rfl
@[simp] theorem State.setBeat_bal (s : State) (f : BeatS → BeatS) : (s.setBeat f).bal = s.bal := rfl
@[simp] theorem State.setBeat_imp (s : State) (f : BeatS → BeatS) : (s.setBeat f).imp = s.imp := rfl
@[simp] theorem State.setBeat_chg (s : State) (f : BeatS → BeatS) : (s.setBeat f).chg = s.chg := rfl
@[simp] theorem State.setBeat_lim (s : State) (f : BeatS → BeatS) : (s.setBeat f).lim = s.lim := rfl
@[simp] theorem State.setBeat_cha (s : State) (f : BeatS → BeatS) : (s.setBeat f).cha = s.cha := rfl
@[simp] theorem State.setBeat_chb (s : State) (f : BeatS → BeatS) : (s.setBeat f).chb = s.chb := rfl
@[simp] theorem State.setBeat_safe (s : State) (f : BeatS → BeatS) : (s.setBeat f).safe = s.safe := rfl
@[simp] theorem State.setBeat_core (s : State) (f : BeatS → BeatS) : (s.setBeat f).core = s.core := rfl
@[simp] theorem State.setBeat_flt (s : State) (f : BeatS → BeatS) : (s.setBeat f).flt = s.flt := rfl
@[simp] theorem State.setBeat_fltShown (s : State) (f : BeatS → BeatS) : (s.setBeat f).fltShown = s.fltShown := rfl
@[simp] theorem State.setBeat_thm (s : State) (f : BeatS → BeatS) : (s.setBeat f).thm = s.thm := rfl
@[simp] theorem State.setBeat_ring (s : State) (f : BeatS → BeatS) : (s.setBeat f).ring = s.ring := rfl
@[simp] theorem State.setBeat_can1 (s : State) (f : BeatS → BeatS) : (s.setBeat f).can1 = s.can1 := rfl
@[simp] theorem State.setBeat_can2 (s : State) (f : BeatS → BeatS) : (s.setBeat f).can2 = s.can2 := rfl
@[simp] theorem State.setBeat_host (s : State) (f : BeatS → BeatS) : (s.setBeat f).host = s.host := rfl
@[simp] theorem State.setBeat_log (s : State) (f : BeatS → BeatS) : (s.setBeat f).log = s.log := rfl
@[simp] theorem State.setBeat_pwr (s : State) (f : BeatS → BeatS) : (s.setBeat f).pwr = s.pwr := rfl
@[simp] theorem State.setBeat_sys (s : State) (f : BeatS → BeatS) : (s.setBeat f).sys = s.sys := rfl
@[simp] theorem State.setBeat_xtalA (s : State) (f : BeatS → BeatS) : (s.setBeat f).xtalA = s.xtalA := rfl
@[simp] theorem State.setBeat_xtalB (s : State) (f : BeatS → BeatS) : (s.setBeat f).xtalB = s.xtalB := rfl
@[simp] theorem State.setBeat_pre (s : State) (f : BeatS → BeatS) : (s.setBeat f).pre = s.pre := rfl
@[simp] theorem State.setBeat_pending (s : State) (f : BeatS → BeatS) : (s.setBeat f).pending = s.pending := rfl

/-! at -/

@[simp] theorem State.at_beat (ns : Nat) (s : State) :
    (s.at ns).beat = { s.beat with offNs := max s.beat.offNs ns } := rfl
@[simp] theorem State.at_mem (ns : Nat) (s : State) : (s.at ns).mem = s.mem := rfl
@[simp] theorem State.at_cfg (ns : Nat) (s : State) : (s.at ns).cfg = s.cfg := rfl
@[simp] theorem State.at_meas (ns : Nat) (s : State) : (s.at ns).meas = s.meas := rfl
@[simp] theorem State.at_integ (ns : Nat) (s : State) : (s.at ns).integ = s.integ := rfl
@[simp] theorem State.at_bal (ns : Nat) (s : State) : (s.at ns).bal = s.bal := rfl
@[simp] theorem State.at_imp (ns : Nat) (s : State) : (s.at ns).imp = s.imp := rfl
@[simp] theorem State.at_chg (ns : Nat) (s : State) : (s.at ns).chg = s.chg := rfl
@[simp] theorem State.at_lim (ns : Nat) (s : State) : (s.at ns).lim = s.lim := rfl
@[simp] theorem State.at_cha (ns : Nat) (s : State) : (s.at ns).cha = s.cha := rfl
@[simp] theorem State.at_chb (ns : Nat) (s : State) : (s.at ns).chb = s.chb := rfl
@[simp] theorem State.at_safe (ns : Nat) (s : State) : (s.at ns).safe = s.safe := rfl
@[simp] theorem State.at_core (ns : Nat) (s : State) : (s.at ns).core = s.core := rfl
@[simp] theorem State.at_flt (ns : Nat) (s : State) : (s.at ns).flt = s.flt := rfl
@[simp] theorem State.at_fltShown (ns : Nat) (s : State) : (s.at ns).fltShown = s.fltShown := rfl
@[simp] theorem State.at_thm (ns : Nat) (s : State) : (s.at ns).thm = s.thm := rfl
@[simp] theorem State.at_ring (ns : Nat) (s : State) : (s.at ns).ring = s.ring := rfl
@[simp] theorem State.at_can1 (ns : Nat) (s : State) : (s.at ns).can1 = s.can1 := rfl
@[simp] theorem State.at_can2 (ns : Nat) (s : State) : (s.at ns).can2 = s.can2 := rfl
@[simp] theorem State.at_host (ns : Nat) (s : State) : (s.at ns).host = s.host := rfl
@[simp] theorem State.at_log (ns : Nat) (s : State) : (s.at ns).log = s.log := rfl
@[simp] theorem State.at_pwr (ns : Nat) (s : State) : (s.at ns).pwr = s.pwr := rfl
@[simp] theorem State.at_sys (ns : Nat) (s : State) : (s.at ns).sys = s.sys := rfl
@[simp] theorem State.at_xtalA (ns : Nat) (s : State) : (s.at ns).xtalA = s.xtalA := rfl
@[simp] theorem State.at_xtalB (ns : Nat) (s : State) : (s.at ns).xtalB = s.xtalB := rfl
@[simp] theorem State.at_pre (ns : Nat) (s : State) : (s.at ns).pre = s.pre := rfl
@[simp] theorem State.at_pending (ns : Nat) (s : State) : (s.at ns).pending = s.pending := rfl

/-! setCfg -/

@[simp] theorem State.setCfg_beat (s : State) (f : CfgS → CfgS) : (s.setCfg f).beat = s.beat := rfl
@[simp] theorem State.setCfg_mem (s : State) (f : CfgS → CfgS) : (s.setCfg f).mem = s.mem := rfl
@[simp] theorem State.setCfg_cfg (s : State) (f : CfgS → CfgS) :
    (s.setCfg f).cfg = f s.cfg := rfl
@[simp] theorem State.setCfg_meas (s : State) (f : CfgS → CfgS) : (s.setCfg f).meas = s.meas := rfl
@[simp] theorem State.setCfg_integ (s : State) (f : CfgS → CfgS) : (s.setCfg f).integ = s.integ := rfl
@[simp] theorem State.setCfg_bal (s : State) (f : CfgS → CfgS) : (s.setCfg f).bal = s.bal := rfl
@[simp] theorem State.setCfg_imp (s : State) (f : CfgS → CfgS) : (s.setCfg f).imp = s.imp := rfl
@[simp] theorem State.setCfg_chg (s : State) (f : CfgS → CfgS) : (s.setCfg f).chg = s.chg := rfl
@[simp] theorem State.setCfg_lim (s : State) (f : CfgS → CfgS) : (s.setCfg f).lim = s.lim := rfl
@[simp] theorem State.setCfg_cha (s : State) (f : CfgS → CfgS) : (s.setCfg f).cha = s.cha := rfl
@[simp] theorem State.setCfg_chb (s : State) (f : CfgS → CfgS) : (s.setCfg f).chb = s.chb := rfl
@[simp] theorem State.setCfg_safe (s : State) (f : CfgS → CfgS) : (s.setCfg f).safe = s.safe := rfl
@[simp] theorem State.setCfg_core (s : State) (f : CfgS → CfgS) : (s.setCfg f).core = s.core := rfl
@[simp] theorem State.setCfg_flt (s : State) (f : CfgS → CfgS) : (s.setCfg f).flt = s.flt := rfl
@[simp] theorem State.setCfg_fltShown (s : State) (f : CfgS → CfgS) : (s.setCfg f).fltShown = s.fltShown := rfl
@[simp] theorem State.setCfg_thm (s : State) (f : CfgS → CfgS) : (s.setCfg f).thm = s.thm := rfl
@[simp] theorem State.setCfg_ring (s : State) (f : CfgS → CfgS) : (s.setCfg f).ring = s.ring := rfl
@[simp] theorem State.setCfg_can1 (s : State) (f : CfgS → CfgS) : (s.setCfg f).can1 = s.can1 := rfl
@[simp] theorem State.setCfg_can2 (s : State) (f : CfgS → CfgS) : (s.setCfg f).can2 = s.can2 := rfl
@[simp] theorem State.setCfg_host (s : State) (f : CfgS → CfgS) : (s.setCfg f).host = s.host := rfl
@[simp] theorem State.setCfg_log (s : State) (f : CfgS → CfgS) : (s.setCfg f).log = s.log := rfl
@[simp] theorem State.setCfg_pwr (s : State) (f : CfgS → CfgS) : (s.setCfg f).pwr = s.pwr := rfl
@[simp] theorem State.setCfg_sys (s : State) (f : CfgS → CfgS) : (s.setCfg f).sys = s.sys := rfl
@[simp] theorem State.setCfg_xtalA (s : State) (f : CfgS → CfgS) : (s.setCfg f).xtalA = s.xtalA := rfl
@[simp] theorem State.setCfg_xtalB (s : State) (f : CfgS → CfgS) : (s.setCfg f).xtalB = s.xtalB := rfl
@[simp] theorem State.setCfg_pre (s : State) (f : CfgS → CfgS) : (s.setCfg f).pre = s.pre := rfl
@[simp] theorem State.setCfg_pending (s : State) (f : CfgS → CfgS) : (s.setCfg f).pending = s.pending := rfl

/-! setPwr -/

@[simp] theorem State.setPwr_beat (s : State) (f : PwrS → PwrS) : (s.setPwr f).beat = s.beat := rfl
@[simp] theorem State.setPwr_mem (s : State) (f : PwrS → PwrS) : (s.setPwr f).mem = s.mem := rfl
@[simp] theorem State.setPwr_cfg (s : State) (f : PwrS → PwrS) : (s.setPwr f).cfg = s.cfg := rfl
@[simp] theorem State.setPwr_meas (s : State) (f : PwrS → PwrS) : (s.setPwr f).meas = s.meas := rfl
@[simp] theorem State.setPwr_integ (s : State) (f : PwrS → PwrS) : (s.setPwr f).integ = s.integ := rfl
@[simp] theorem State.setPwr_bal (s : State) (f : PwrS → PwrS) : (s.setPwr f).bal = s.bal := rfl
@[simp] theorem State.setPwr_imp (s : State) (f : PwrS → PwrS) : (s.setPwr f).imp = s.imp := rfl
@[simp] theorem State.setPwr_chg (s : State) (f : PwrS → PwrS) : (s.setPwr f).chg = s.chg := rfl
@[simp] theorem State.setPwr_lim (s : State) (f : PwrS → PwrS) : (s.setPwr f).lim = s.lim := rfl
@[simp] theorem State.setPwr_cha (s : State) (f : PwrS → PwrS) : (s.setPwr f).cha = s.cha := rfl
@[simp] theorem State.setPwr_chb (s : State) (f : PwrS → PwrS) : (s.setPwr f).chb = s.chb := rfl
@[simp] theorem State.setPwr_safe (s : State) (f : PwrS → PwrS) : (s.setPwr f).safe = s.safe := rfl
@[simp] theorem State.setPwr_core (s : State) (f : PwrS → PwrS) : (s.setPwr f).core = s.core := rfl
@[simp] theorem State.setPwr_flt (s : State) (f : PwrS → PwrS) : (s.setPwr f).flt = s.flt := rfl
@[simp] theorem State.setPwr_fltShown (s : State) (f : PwrS → PwrS) : (s.setPwr f).fltShown = s.fltShown := rfl
@[simp] theorem State.setPwr_thm (s : State) (f : PwrS → PwrS) : (s.setPwr f).thm = s.thm := rfl
@[simp] theorem State.setPwr_ring (s : State) (f : PwrS → PwrS) : (s.setPwr f).ring = s.ring := rfl
@[simp] theorem State.setPwr_can1 (s : State) (f : PwrS → PwrS) : (s.setPwr f).can1 = s.can1 := rfl
@[simp] theorem State.setPwr_can2 (s : State) (f : PwrS → PwrS) : (s.setPwr f).can2 = s.can2 := rfl
@[simp] theorem State.setPwr_host (s : State) (f : PwrS → PwrS) : (s.setPwr f).host = s.host := rfl
@[simp] theorem State.setPwr_log (s : State) (f : PwrS → PwrS) : (s.setPwr f).log = s.log := rfl
@[simp] theorem State.setPwr_pwr (s : State) (f : PwrS → PwrS) :
    (s.setPwr f).pwr = f s.pwr := rfl
@[simp] theorem State.setPwr_sys (s : State) (f : PwrS → PwrS) : (s.setPwr f).sys = s.sys := rfl
@[simp] theorem State.setPwr_xtalA (s : State) (f : PwrS → PwrS) : (s.setPwr f).xtalA = s.xtalA := rfl
@[simp] theorem State.setPwr_xtalB (s : State) (f : PwrS → PwrS) : (s.setPwr f).xtalB = s.xtalB := rfl
@[simp] theorem State.setPwr_pre (s : State) (f : PwrS → PwrS) : (s.setPwr f).pre = s.pre := rfl
@[simp] theorem State.setPwr_pending (s : State) (f : PwrS → PwrS) : (s.setPwr f).pending = s.pending := rfl

/-! setSys -/

@[simp] theorem State.setSys_beat (s : State) (f : SysS → SysS) : (s.setSys f).beat = s.beat := rfl
@[simp] theorem State.setSys_mem (s : State) (f : SysS → SysS) : (s.setSys f).mem = s.mem := rfl
@[simp] theorem State.setSys_cfg (s : State) (f : SysS → SysS) : (s.setSys f).cfg = s.cfg := rfl
@[simp] theorem State.setSys_meas (s : State) (f : SysS → SysS) : (s.setSys f).meas = s.meas := rfl
@[simp] theorem State.setSys_integ (s : State) (f : SysS → SysS) : (s.setSys f).integ = s.integ := rfl
@[simp] theorem State.setSys_bal (s : State) (f : SysS → SysS) : (s.setSys f).bal = s.bal := rfl
@[simp] theorem State.setSys_imp (s : State) (f : SysS → SysS) : (s.setSys f).imp = s.imp := rfl
@[simp] theorem State.setSys_chg (s : State) (f : SysS → SysS) : (s.setSys f).chg = s.chg := rfl
@[simp] theorem State.setSys_lim (s : State) (f : SysS → SysS) : (s.setSys f).lim = s.lim := rfl
@[simp] theorem State.setSys_cha (s : State) (f : SysS → SysS) : (s.setSys f).cha = s.cha := rfl
@[simp] theorem State.setSys_chb (s : State) (f : SysS → SysS) : (s.setSys f).chb = s.chb := rfl
@[simp] theorem State.setSys_safe (s : State) (f : SysS → SysS) : (s.setSys f).safe = s.safe := rfl
@[simp] theorem State.setSys_core (s : State) (f : SysS → SysS) : (s.setSys f).core = s.core := rfl
@[simp] theorem State.setSys_flt (s : State) (f : SysS → SysS) : (s.setSys f).flt = s.flt := rfl
@[simp] theorem State.setSys_fltShown (s : State) (f : SysS → SysS) : (s.setSys f).fltShown = s.fltShown := rfl
@[simp] theorem State.setSys_thm (s : State) (f : SysS → SysS) : (s.setSys f).thm = s.thm := rfl
@[simp] theorem State.setSys_ring (s : State) (f : SysS → SysS) : (s.setSys f).ring = s.ring := rfl
@[simp] theorem State.setSys_can1 (s : State) (f : SysS → SysS) : (s.setSys f).can1 = s.can1 := rfl
@[simp] theorem State.setSys_can2 (s : State) (f : SysS → SysS) : (s.setSys f).can2 = s.can2 := rfl
@[simp] theorem State.setSys_host (s : State) (f : SysS → SysS) : (s.setSys f).host = s.host := rfl
@[simp] theorem State.setSys_log (s : State) (f : SysS → SysS) : (s.setSys f).log = s.log := rfl
@[simp] theorem State.setSys_pwr (s : State) (f : SysS → SysS) : (s.setSys f).pwr = s.pwr := rfl
@[simp] theorem State.setSys_sys (s : State) (f : SysS → SysS) :
    (s.setSys f).sys = f s.sys := rfl
@[simp] theorem State.setSys_xtalA (s : State) (f : SysS → SysS) : (s.setSys f).xtalA = s.xtalA := rfl
@[simp] theorem State.setSys_xtalB (s : State) (f : SysS → SysS) : (s.setSys f).xtalB = s.xtalB := rfl
@[simp] theorem State.setSys_pre (s : State) (f : SysS → SysS) : (s.setSys f).pre = s.pre := rfl
@[simp] theorem State.setSys_pending (s : State) (f : SysS → SysS) : (s.setSys f).pending = s.pending := rfl

/-! setRing -/

@[simp] theorem State.setRing_beat (s : State) (f : RingS → RingS) : (s.setRing f).beat = s.beat := rfl
@[simp] theorem State.setRing_mem (s : State) (f : RingS → RingS) : (s.setRing f).mem = s.mem := rfl
@[simp] theorem State.setRing_cfg (s : State) (f : RingS → RingS) : (s.setRing f).cfg = s.cfg := rfl
@[simp] theorem State.setRing_meas (s : State) (f : RingS → RingS) : (s.setRing f).meas = s.meas := rfl
@[simp] theorem State.setRing_integ (s : State) (f : RingS → RingS) : (s.setRing f).integ = s.integ := rfl
@[simp] theorem State.setRing_bal (s : State) (f : RingS → RingS) : (s.setRing f).bal = s.bal := rfl
@[simp] theorem State.setRing_imp (s : State) (f : RingS → RingS) : (s.setRing f).imp = s.imp := rfl
@[simp] theorem State.setRing_chg (s : State) (f : RingS → RingS) : (s.setRing f).chg = s.chg := rfl
@[simp] theorem State.setRing_lim (s : State) (f : RingS → RingS) : (s.setRing f).lim = s.lim := rfl
@[simp] theorem State.setRing_cha (s : State) (f : RingS → RingS) : (s.setRing f).cha = s.cha := rfl
@[simp] theorem State.setRing_chb (s : State) (f : RingS → RingS) : (s.setRing f).chb = s.chb := rfl
@[simp] theorem State.setRing_safe (s : State) (f : RingS → RingS) : (s.setRing f).safe = s.safe := rfl
@[simp] theorem State.setRing_core (s : State) (f : RingS → RingS) : (s.setRing f).core = s.core := rfl
@[simp] theorem State.setRing_flt (s : State) (f : RingS → RingS) : (s.setRing f).flt = s.flt := rfl
@[simp] theorem State.setRing_fltShown (s : State) (f : RingS → RingS) : (s.setRing f).fltShown = s.fltShown := rfl
@[simp] theorem State.setRing_thm (s : State) (f : RingS → RingS) : (s.setRing f).thm = s.thm := rfl
@[simp] theorem State.setRing_ring (s : State) (f : RingS → RingS) :
    (s.setRing f).ring = f s.ring := rfl
@[simp] theorem State.setRing_can1 (s : State) (f : RingS → RingS) : (s.setRing f).can1 = s.can1 := rfl
@[simp] theorem State.setRing_can2 (s : State) (f : RingS → RingS) : (s.setRing f).can2 = s.can2 := rfl
@[simp] theorem State.setRing_host (s : State) (f : RingS → RingS) : (s.setRing f).host = s.host := rfl
@[simp] theorem State.setRing_log (s : State) (f : RingS → RingS) : (s.setRing f).log = s.log := rfl
@[simp] theorem State.setRing_pwr (s : State) (f : RingS → RingS) : (s.setRing f).pwr = s.pwr := rfl
@[simp] theorem State.setRing_sys (s : State) (f : RingS → RingS) : (s.setRing f).sys = s.sys := rfl
@[simp] theorem State.setRing_xtalA (s : State) (f : RingS → RingS) : (s.setRing f).xtalA = s.xtalA := rfl
@[simp] theorem State.setRing_xtalB (s : State) (f : RingS → RingS) : (s.setRing f).xtalB = s.xtalB := rfl
@[simp] theorem State.setRing_pre (s : State) (f : RingS → RingS) : (s.setRing f).pre = s.pre := rfl
@[simp] theorem State.setRing_pending (s : State) (f : RingS → RingS) : (s.setRing f).pending = s.pending := rfl

/-! setPair -/

@[simp] theorem State.setPair_beat (s : State) (ch : Ch) (f : PairS → PairS) : (s.setPair ch f).beat = s.beat := rfl
@[simp] theorem State.setPair_mem (s : State) (ch : Ch) (f : PairS → PairS) : (s.setPair ch f).mem = s.mem := rfl
@[simp] theorem State.setPair_cfg (s : State) (ch : Ch) (f : PairS → PairS) : (s.setPair ch f).cfg = s.cfg := rfl
@[simp] theorem State.setPair_meas (s : State) (ch : Ch) (f : PairS → PairS) : (s.setPair ch f).meas = s.meas := rfl
@[simp] theorem State.setPair_integ (s : State) (ch : Ch) (f : PairS → PairS) : (s.setPair ch f).integ = s.integ := rfl
@[simp] theorem State.setPair_bal (s : State) (ch : Ch) (f : PairS → PairS) : (s.setPair ch f).bal = s.bal := rfl
@[simp] theorem State.setPair_imp (s : State) (ch : Ch) (f : PairS → PairS) : (s.setPair ch f).imp = s.imp := rfl
@[simp] theorem State.setPair_chg (s : State) (ch : Ch) (f : PairS → PairS) : (s.setPair ch f).chg = s.chg := rfl
@[simp] theorem State.setPair_lim (s : State) (ch : Ch) (f : PairS → PairS) : (s.setPair ch f).lim = s.lim := rfl
@[simp] theorem State.setPair_cha (s : State) (ch : Ch) (f : PairS → PairS) : (s.setPair ch f).cha = s.cha := rfl
@[simp] theorem State.setPair_chb (s : State) (ch : Ch) (f : PairS → PairS) : (s.setPair ch f).chb = s.chb := rfl
@[simp] theorem State.setPair_safe (s : State) (ch : Ch) (f : PairS → PairS) : (s.setPair ch f).safe = s.safe := rfl
@[simp] theorem State.setPair_core (s : State) (ch : Ch) (f : PairS → PairS) :
    (s.setPair ch f).core = s.core.setPair ch f := rfl
@[simp] theorem State.setPair_flt (s : State) (ch : Ch) (f : PairS → PairS) : (s.setPair ch f).flt = s.flt := rfl
@[simp] theorem State.setPair_fltShown (s : State) (ch : Ch) (f : PairS → PairS) : (s.setPair ch f).fltShown = s.fltShown := rfl
@[simp] theorem State.setPair_thm (s : State) (ch : Ch) (f : PairS → PairS) : (s.setPair ch f).thm = s.thm := rfl
@[simp] theorem State.setPair_ring (s : State) (ch : Ch) (f : PairS → PairS) : (s.setPair ch f).ring = s.ring := rfl
@[simp] theorem State.setPair_can1 (s : State) (ch : Ch) (f : PairS → PairS) : (s.setPair ch f).can1 = s.can1 := rfl
@[simp] theorem State.setPair_can2 (s : State) (ch : Ch) (f : PairS → PairS) : (s.setPair ch f).can2 = s.can2 := rfl
@[simp] theorem State.setPair_host (s : State) (ch : Ch) (f : PairS → PairS) : (s.setPair ch f).host = s.host := rfl
@[simp] theorem State.setPair_log (s : State) (ch : Ch) (f : PairS → PairS) : (s.setPair ch f).log = s.log := rfl
@[simp] theorem State.setPair_pwr (s : State) (ch : Ch) (f : PairS → PairS) : (s.setPair ch f).pwr = s.pwr := rfl
@[simp] theorem State.setPair_sys (s : State) (ch : Ch) (f : PairS → PairS) : (s.setPair ch f).sys = s.sys := rfl
@[simp] theorem State.setPair_xtalA (s : State) (ch : Ch) (f : PairS → PairS) : (s.setPair ch f).xtalA = s.xtalA := rfl
@[simp] theorem State.setPair_xtalB (s : State) (ch : Ch) (f : PairS → PairS) : (s.setPair ch f).xtalB = s.xtalB := rfl
@[simp] theorem State.setPair_pre (s : State) (ch : Ch) (f : PairS → PairS) : (s.setPair ch f).pre = s.pre := rfl
@[simp] theorem State.setPair_pending (s : State) (ch : Ch) (f : PairS → PairS) : (s.setPair ch f).pending = s.pending := rfl

/-! setAcc -/

@[simp] theorem State.setAcc_beat (s : State) (f : Acc → Acc) : (s.setAcc f).beat = s.beat := rfl
@[simp] theorem State.setAcc_mem (s : State) (f : Acc → Acc) : (s.setAcc f).mem = s.mem := rfl
@[simp] theorem State.setAcc_cfg (s : State) (f : Acc → Acc) : (s.setAcc f).cfg = s.cfg := rfl
@[simp] theorem State.setAcc_meas (s : State) (f : Acc → Acc) : (s.setAcc f).meas = s.meas := rfl
@[simp] theorem State.setAcc_integ (s : State) (f : Acc → Acc) : (s.setAcc f).integ = s.integ := rfl
@[simp] theorem State.setAcc_bal (s : State) (f : Acc → Acc) : (s.setAcc f).bal = s.bal := rfl
@[simp] theorem State.setAcc_imp (s : State) (f : Acc → Acc) : (s.setAcc f).imp = s.imp := rfl
@[simp] theorem State.setAcc_chg (s : State) (f : Acc → Acc) :
    (s.setAcc f).chg = { s.chg with acc := f s.chg.acc } := rfl
@[simp] theorem State.setAcc_lim (s : State) (f : Acc → Acc) : (s.setAcc f).lim = s.lim := rfl
@[simp] theorem State.setAcc_cha (s : State) (f : Acc → Acc) : (s.setAcc f).cha = s.cha := rfl
@[simp] theorem State.setAcc_chb (s : State) (f : Acc → Acc) : (s.setAcc f).chb = s.chb := rfl
@[simp] theorem State.setAcc_safe (s : State) (f : Acc → Acc) : (s.setAcc f).safe = s.safe := rfl
@[simp] theorem State.setAcc_core (s : State) (f : Acc → Acc) : (s.setAcc f).core = s.core := rfl
@[simp] theorem State.setAcc_flt (s : State) (f : Acc → Acc) : (s.setAcc f).flt = s.flt := rfl
@[simp] theorem State.setAcc_fltShown (s : State) (f : Acc → Acc) : (s.setAcc f).fltShown = s.fltShown := rfl
@[simp] theorem State.setAcc_thm (s : State) (f : Acc → Acc) : (s.setAcc f).thm = s.thm := rfl
@[simp] theorem State.setAcc_ring (s : State) (f : Acc → Acc) : (s.setAcc f).ring = s.ring := rfl
@[simp] theorem State.setAcc_can1 (s : State) (f : Acc → Acc) : (s.setAcc f).can1 = s.can1 := rfl
@[simp] theorem State.setAcc_can2 (s : State) (f : Acc → Acc) : (s.setAcc f).can2 = s.can2 := rfl
@[simp] theorem State.setAcc_host (s : State) (f : Acc → Acc) : (s.setAcc f).host = s.host := rfl
@[simp] theorem State.setAcc_log (s : State) (f : Acc → Acc) : (s.setAcc f).log = s.log := rfl
@[simp] theorem State.setAcc_pwr (s : State) (f : Acc → Acc) : (s.setAcc f).pwr = s.pwr := rfl
@[simp] theorem State.setAcc_sys (s : State) (f : Acc → Acc) : (s.setAcc f).sys = s.sys := rfl
@[simp] theorem State.setAcc_xtalA (s : State) (f : Acc → Acc) : (s.setAcc f).xtalA = s.xtalA := rfl
@[simp] theorem State.setAcc_xtalB (s : State) (f : Acc → Acc) : (s.setAcc f).xtalB = s.xtalB := rfl
@[simp] theorem State.setAcc_pre (s : State) (f : Acc → Acc) : (s.setAcc f).pre = s.pre := rfl
@[simp] theorem State.setAcc_pending (s : State) (f : Acc → Acc) : (s.setAcc f).pending = s.pending := rfl

/-! setChan -/

@[simp] theorem State.setChan_beat (s : State) (c : Ch) (f : ChanS → ChanS) : (s.setChan c f).beat = s.beat := rfl
@[simp] theorem State.setChan_mem (s : State) (c : Ch) (f : ChanS → ChanS) : (s.setChan c f).mem = s.mem := rfl
@[simp] theorem State.setChan_cfg (s : State) (c : Ch) (f : ChanS → ChanS) : (s.setChan c f).cfg = s.cfg := rfl
@[simp] theorem State.setChan_meas (s : State) (c : Ch) (f : ChanS → ChanS) : (s.setChan c f).meas = s.meas := rfl
@[simp] theorem State.setChan_integ (s : State) (c : Ch) (f : ChanS → ChanS) : (s.setChan c f).integ = s.integ := rfl
@[simp] theorem State.setChan_bal (s : State) (c : Ch) (f : ChanS → ChanS) : (s.setChan c f).bal = s.bal := rfl
@[simp] theorem State.setChan_imp (s : State) (c : Ch) (f : ChanS → ChanS) : (s.setChan c f).imp = s.imp := rfl
@[simp] theorem State.setChan_chg (s : State) (c : Ch) (f : ChanS → ChanS) : (s.setChan c f).chg = s.chg := rfl
@[simp] theorem State.setChan_lim (s : State) (c : Ch) (f : ChanS → ChanS) : (s.setChan c f).lim = s.lim := rfl
@[simp] theorem State.setChan_cha (s : State) (c : Ch) (f : ChanS → ChanS) :
    (s.setChan c f).cha = if c = .a then f s.cha else s.cha := rfl
@[simp] theorem State.setChan_chb (s : State) (c : Ch) (f : ChanS → ChanS) :
    (s.setChan c f).chb = if c = .b then f s.chb else s.chb := rfl
@[simp] theorem State.setChan_safe (s : State) (c : Ch) (f : ChanS → ChanS) : (s.setChan c f).safe = s.safe := rfl
@[simp] theorem State.setChan_core (s : State) (c : Ch) (f : ChanS → ChanS) : (s.setChan c f).core = s.core := rfl
@[simp] theorem State.setChan_flt (s : State) (c : Ch) (f : ChanS → ChanS) : (s.setChan c f).flt = s.flt := rfl
@[simp] theorem State.setChan_fltShown (s : State) (c : Ch) (f : ChanS → ChanS) : (s.setChan c f).fltShown = s.fltShown := rfl
@[simp] theorem State.setChan_thm (s : State) (c : Ch) (f : ChanS → ChanS) : (s.setChan c f).thm = s.thm := rfl
@[simp] theorem State.setChan_ring (s : State) (c : Ch) (f : ChanS → ChanS) : (s.setChan c f).ring = s.ring := rfl
@[simp] theorem State.setChan_can1 (s : State) (c : Ch) (f : ChanS → ChanS) : (s.setChan c f).can1 = s.can1 := rfl
@[simp] theorem State.setChan_can2 (s : State) (c : Ch) (f : ChanS → ChanS) : (s.setChan c f).can2 = s.can2 := rfl
@[simp] theorem State.setChan_host (s : State) (c : Ch) (f : ChanS → ChanS) : (s.setChan c f).host = s.host := rfl
@[simp] theorem State.setChan_log (s : State) (c : Ch) (f : ChanS → ChanS) : (s.setChan c f).log = s.log := rfl
@[simp] theorem State.setChan_pwr (s : State) (c : Ch) (f : ChanS → ChanS) : (s.setChan c f).pwr = s.pwr := rfl
@[simp] theorem State.setChan_sys (s : State) (c : Ch) (f : ChanS → ChanS) : (s.setChan c f).sys = s.sys := rfl
@[simp] theorem State.setChan_xtalA (s : State) (c : Ch) (f : ChanS → ChanS) : (s.setChan c f).xtalA = s.xtalA := rfl
@[simp] theorem State.setChan_xtalB (s : State) (c : Ch) (f : ChanS → ChanS) : (s.setChan c f).xtalB = s.xtalB := rfl
@[simp] theorem State.setChan_pre (s : State) (c : Ch) (f : ChanS → ChanS) : (s.setChan c f).pre = s.pre := rfl
@[simp] theorem State.setChan_pending (s : State) (c : Ch) (f : ChanS → ChanS) : (s.setChan c f).pending = s.pending := rfl

/-! setCan -/

@[simp] theorem State.setCan_beat (s : State) (p : CPort) (f : CanS → CanS) : (s.setCan p f).beat = s.beat := rfl
@[simp] theorem State.setCan_mem (s : State) (p : CPort) (f : CanS → CanS) : (s.setCan p f).mem = s.mem := rfl
@[simp] theorem State.setCan_cfg (s : State) (p : CPort) (f : CanS → CanS) : (s.setCan p f).cfg = s.cfg := rfl
@[simp] theorem State.setCan_meas (s : State) (p : CPort) (f : CanS → CanS) : (s.setCan p f).meas = s.meas := rfl
@[simp] theorem State.setCan_integ (s : State) (p : CPort) (f : CanS → CanS) : (s.setCan p f).integ = s.integ := rfl
@[simp] theorem State.setCan_bal (s : State) (p : CPort) (f : CanS → CanS) : (s.setCan p f).bal = s.bal := rfl
@[simp] theorem State.setCan_imp (s : State) (p : CPort) (f : CanS → CanS) : (s.setCan p f).imp = s.imp := rfl
@[simp] theorem State.setCan_chg (s : State) (p : CPort) (f : CanS → CanS) : (s.setCan p f).chg = s.chg := rfl
@[simp] theorem State.setCan_lim (s : State) (p : CPort) (f : CanS → CanS) : (s.setCan p f).lim = s.lim := rfl
@[simp] theorem State.setCan_cha (s : State) (p : CPort) (f : CanS → CanS) : (s.setCan p f).cha = s.cha := rfl
@[simp] theorem State.setCan_chb (s : State) (p : CPort) (f : CanS → CanS) : (s.setCan p f).chb = s.chb := rfl
@[simp] theorem State.setCan_safe (s : State) (p : CPort) (f : CanS → CanS) : (s.setCan p f).safe = s.safe := rfl
@[simp] theorem State.setCan_core (s : State) (p : CPort) (f : CanS → CanS) : (s.setCan p f).core = s.core := rfl
@[simp] theorem State.setCan_flt (s : State) (p : CPort) (f : CanS → CanS) : (s.setCan p f).flt = s.flt := rfl
@[simp] theorem State.setCan_fltShown (s : State) (p : CPort) (f : CanS → CanS) : (s.setCan p f).fltShown = s.fltShown := rfl
@[simp] theorem State.setCan_thm (s : State) (p : CPort) (f : CanS → CanS) : (s.setCan p f).thm = s.thm := rfl
@[simp] theorem State.setCan_ring (s : State) (p : CPort) (f : CanS → CanS) : (s.setCan p f).ring = s.ring := rfl
@[simp] theorem State.setCan_can1 (s : State) (p : CPort) (f : CanS → CanS) :
    (s.setCan p f).can1 = if p = .can1 then f s.can1 else s.can1 := rfl
@[simp] theorem State.setCan_can2 (s : State) (p : CPort) (f : CanS → CanS) :
    (s.setCan p f).can2 = if p = .can2 then f s.can2 else s.can2 := rfl
@[simp] theorem State.setCan_host (s : State) (p : CPort) (f : CanS → CanS) : (s.setCan p f).host = s.host := rfl
@[simp] theorem State.setCan_log (s : State) (p : CPort) (f : CanS → CanS) : (s.setCan p f).log = s.log := rfl
@[simp] theorem State.setCan_pwr (s : State) (p : CPort) (f : CanS → CanS) : (s.setCan p f).pwr = s.pwr := rfl
@[simp] theorem State.setCan_sys (s : State) (p : CPort) (f : CanS → CanS) : (s.setCan p f).sys = s.sys := rfl
@[simp] theorem State.setCan_xtalA (s : State) (p : CPort) (f : CanS → CanS) : (s.setCan p f).xtalA = s.xtalA := rfl
@[simp] theorem State.setCan_xtalB (s : State) (p : CPort) (f : CanS → CanS) : (s.setCan p f).xtalB = s.xtalB := rfl
@[simp] theorem State.setCan_pre (s : State) (p : CPort) (f : CanS → CanS) : (s.setCan p f).pre = s.pre := rfl
@[simp] theorem State.setCan_pending (s : State) (p : CPort) (f : CanS → CanS) : (s.setCan p f).pending = s.pending := rfl

/-! tally -/

@[simp] theorem State.tally_beat (src n : Nat) (s : State) : (s.tally src n).beat = s.beat := rfl
@[simp] theorem State.tally_mem (src n : Nat) (s : State) : (s.tally src n).mem = s.mem := rfl
@[simp] theorem State.tally_cfg (src n : Nat) (s : State) : (s.tally src n).cfg = s.cfg := rfl
@[simp] theorem State.tally_meas (src n : Nat) (s : State) : (s.tally src n).meas = s.meas := rfl
@[simp] theorem State.tally_integ (src n : Nat) (s : State) : (s.tally src n).integ = s.integ := rfl
@[simp] theorem State.tally_bal (src n : Nat) (s : State) : (s.tally src n).bal = s.bal := rfl
@[simp] theorem State.tally_imp (src n : Nat) (s : State) : (s.tally src n).imp = s.imp := rfl
@[simp] theorem State.tally_chg (src n : Nat) (s : State) : (s.tally src n).chg = s.chg := rfl
@[simp] theorem State.tally_lim (src n : Nat) (s : State) : (s.tally src n).lim = s.lim := rfl
@[simp] theorem State.tally_cha (src n : Nat) (s : State) : (s.tally src n).cha = s.cha := rfl
@[simp] theorem State.tally_chb (src n : Nat) (s : State) : (s.tally src n).chb = s.chb := rfl
@[simp] theorem State.tally_safe (src n : Nat) (s : State) : (s.tally src n).safe = s.safe := rfl
@[simp] theorem State.tally_core (src n : Nat) (s : State) : (s.tally src n).core = s.core := rfl
@[simp] theorem State.tally_flt (src n : Nat) (s : State) : (s.tally src n).flt = s.flt := rfl
@[simp] theorem State.tally_fltShown (src n : Nat) (s : State) : (s.tally src n).fltShown = s.fltShown := rfl
@[simp] theorem State.tally_thm (src n : Nat) (s : State) : (s.tally src n).thm = s.thm := rfl
@[simp] theorem State.tally_ring (src n : Nat) (s : State) : (s.tally src n).ring = s.ring := rfl
@[simp] theorem State.tally_can1 (src n : Nat) (s : State) : (s.tally src n).can1 = s.can1 := rfl
@[simp] theorem State.tally_can2 (src n : Nat) (s : State) : (s.tally src n).can2 = s.can2 := rfl
@[simp] theorem State.tally_host (src n : Nat) (s : State) : (s.tally src n).host = s.host := rfl
@[simp] theorem State.tally_log (src n : Nat) (s : State) : (s.tally src n).log = s.log := rfl
@[simp] theorem State.tally_pwr (src n : Nat) (s : State) : (s.tally src n).pwr = s.pwr := rfl
@[simp] theorem State.tally_sys (src n : Nat) (s : State) :
    (s.tally src n).sys = s.sys.tally src n := rfl
@[simp] theorem State.tally_xtalA (src n : Nat) (s : State) : (s.tally src n).xtalA = s.xtalA := rfl
@[simp] theorem State.tally_xtalB (src n : Nat) (s : State) : (s.tally src n).xtalB = s.xtalB := rfl
@[simp] theorem State.tally_pre (src n : Nat) (s : State) : (s.tally src n).pre = s.pre := rfl
@[simp] theorem State.tally_pending (src n : Nat) (s : State) : (s.tally src n).pending = s.pending := rfl

/-! event -/

@[simp] theorem State.event_beat (p : Plane) (code : Nat) (ps : List Word) (s : State) : (s.event p code ps).beat = s.beat := rfl
@[simp] theorem State.event_mem (p : Plane) (code : Nat) (ps : List Word) (s : State) : (s.event p code ps).mem = s.mem := rfl
@[simp] theorem State.event_cfg (p : Plane) (code : Nat) (ps : List Word) (s : State) : (s.event p code ps).cfg = s.cfg := rfl
@[simp] theorem State.event_meas (p : Plane) (code : Nat) (ps : List Word) (s : State) : (s.event p code ps).meas = s.meas := rfl
@[simp] theorem State.event_integ (p : Plane) (code : Nat) (ps : List Word) (s : State) : (s.event p code ps).integ = s.integ := rfl
@[simp] theorem State.event_bal (p : Plane) (code : Nat) (ps : List Word) (s : State) : (s.event p code ps).bal = s.bal := rfl
@[simp] theorem State.event_imp (p : Plane) (code : Nat) (ps : List Word) (s : State) : (s.event p code ps).imp = s.imp := rfl
@[simp] theorem State.event_chg (p : Plane) (code : Nat) (ps : List Word) (s : State) : (s.event p code ps).chg = s.chg := rfl
@[simp] theorem State.event_lim (p : Plane) (code : Nat) (ps : List Word) (s : State) : (s.event p code ps).lim = s.lim := rfl
@[simp] theorem State.event_cha (p : Plane) (code : Nat) (ps : List Word) (s : State) : (s.event p code ps).cha = s.cha := rfl
@[simp] theorem State.event_chb (p : Plane) (code : Nat) (ps : List Word) (s : State) : (s.event p code ps).chb = s.chb := rfl
@[simp] theorem State.event_safe (p : Plane) (code : Nat) (ps : List Word) (s : State) : (s.event p code ps).safe = s.safe := rfl
@[simp] theorem State.event_core (p : Plane) (code : Nat) (ps : List Word) (s : State) : (s.event p code ps).core = s.core := rfl
@[simp] theorem State.event_flt (p : Plane) (code : Nat) (ps : List Word) (s : State) : (s.event p code ps).flt = s.flt := rfl
@[simp] theorem State.event_fltShown (p : Plane) (code : Nat) (ps : List Word) (s : State) : (s.event p code ps).fltShown = s.fltShown := rfl
@[simp] theorem State.event_thm (p : Plane) (code : Nat) (ps : List Word) (s : State) : (s.event p code ps).thm = s.thm := rfl
@[simp] theorem State.event_ring (p : Plane) (code : Nat) (ps : List Word) (s : State) : (s.event p code ps).ring = s.ring := rfl
@[simp] theorem State.event_can1 (p : Plane) (code : Nat) (ps : List Word) (s : State) : (s.event p code ps).can1 = s.can1 := rfl
@[simp] theorem State.event_can2 (p : Plane) (code : Nat) (ps : List Word) (s : State) : (s.event p code ps).can2 = s.can2 := rfl
@[simp] theorem State.event_host (p : Plane) (code : Nat) (ps : List Word) (s : State) : (s.event p code ps).host = s.host := rfl
@[simp] theorem State.event_log (p : Plane) (code : Nat) (ps : List Word) (s : State) :
    (s.event p code ps).log = if s.fltShown.isSome then s.log
      else if s.beat.running then { s.log with intake := s.log.intake ++ [⟨p, code, ps⟩] }
      else { s.log with early := s.log.early ++ [⟨p, code, ps⟩] } := rfl
@[simp] theorem State.event_pwr (p : Plane) (code : Nat) (ps : List Word) (s : State) : (s.event p code ps).pwr = s.pwr := rfl
@[simp] theorem State.event_sys (p : Plane) (code : Nat) (ps : List Word) (s : State) : (s.event p code ps).sys = s.sys := rfl
@[simp] theorem State.event_xtalA (p : Plane) (code : Nat) (ps : List Word) (s : State) : (s.event p code ps).xtalA = s.xtalA := rfl
@[simp] theorem State.event_xtalB (p : Plane) (code : Nat) (ps : List Word) (s : State) : (s.event p code ps).xtalB = s.xtalB := rfl
@[simp] theorem State.event_pre (p : Plane) (code : Nat) (ps : List Word) (s : State) : (s.event p code ps).pre = s.pre := rfl
@[simp] theorem State.event_pending (p : Plane) (code : Nat) (ps : List Word) (s : State) : (s.event p code ps).pending = s.pending := rfl

/-! report -/

@[simp] theorem State.report_beat (type tag : Nat) (w1 w2 w3 : Word) (s : State) : (s.report type tag w1 w2 w3).beat = s.beat := rfl
@[simp] theorem State.report_mem (type tag : Nat) (w1 w2 w3 : Word) (s : State) : (s.report type tag w1 w2 w3).mem = s.mem := rfl
@[simp] theorem State.report_cfg (type tag : Nat) (w1 w2 w3 : Word) (s : State) : (s.report type tag w1 w2 w3).cfg = s.cfg := rfl
@[simp] theorem State.report_meas (type tag : Nat) (w1 w2 w3 : Word) (s : State) : (s.report type tag w1 w2 w3).meas = s.meas := rfl
@[simp] theorem State.report_integ (type tag : Nat) (w1 w2 w3 : Word) (s : State) : (s.report type tag w1 w2 w3).integ = s.integ := rfl
@[simp] theorem State.report_bal (type tag : Nat) (w1 w2 w3 : Word) (s : State) : (s.report type tag w1 w2 w3).bal = s.bal := rfl
@[simp] theorem State.report_imp (type tag : Nat) (w1 w2 w3 : Word) (s : State) : (s.report type tag w1 w2 w3).imp = s.imp := rfl
@[simp] theorem State.report_chg (type tag : Nat) (w1 w2 w3 : Word) (s : State) : (s.report type tag w1 w2 w3).chg = s.chg := rfl
@[simp] theorem State.report_lim (type tag : Nat) (w1 w2 w3 : Word) (s : State) : (s.report type tag w1 w2 w3).lim = s.lim := rfl
@[simp] theorem State.report_cha (type tag : Nat) (w1 w2 w3 : Word) (s : State) : (s.report type tag w1 w2 w3).cha = s.cha := rfl
@[simp] theorem State.report_chb (type tag : Nat) (w1 w2 w3 : Word) (s : State) : (s.report type tag w1 w2 w3).chb = s.chb := rfl
@[simp] theorem State.report_safe (type tag : Nat) (w1 w2 w3 : Word) (s : State) : (s.report type tag w1 w2 w3).safe = s.safe := rfl
@[simp] theorem State.report_core (type tag : Nat) (w1 w2 w3 : Word) (s : State) : (s.report type tag w1 w2 w3).core = s.core := rfl
@[simp] theorem State.report_flt (type tag : Nat) (w1 w2 w3 : Word) (s : State) : (s.report type tag w1 w2 w3).flt = s.flt := rfl
@[simp] theorem State.report_fltShown (type tag : Nat) (w1 w2 w3 : Word) (s : State) : (s.report type tag w1 w2 w3).fltShown = s.fltShown := rfl
@[simp] theorem State.report_thm (type tag : Nat) (w1 w2 w3 : Word) (s : State) : (s.report type tag w1 w2 w3).thm = s.thm := rfl
@[simp] theorem State.report_ring (type tag : Nat) (w1 w2 w3 : Word) (s : State) : (s.report type tag w1 w2 w3).ring = s.ring := rfl
@[simp] theorem State.report_can1 (type tag : Nat) (w1 w2 w3 : Word) (s : State) : (s.report type tag w1 w2 w3).can1 = s.can1 := rfl
@[simp] theorem State.report_can2 (type tag : Nat) (w1 w2 w3 : Word) (s : State) : (s.report type tag w1 w2 w3).can2 = s.can2 := rfl
@[simp] theorem State.report_host (type tag : Nat) (w1 w2 w3 : Word) (s : State) :
    (s.report type tag w1 w2 w3).host = s.host.report type tag w1 w2 w3 := rfl
@[simp] theorem State.report_log (type tag : Nat) (w1 w2 w3 : Word) (s : State) : (s.report type tag w1 w2 w3).log = s.log := rfl
@[simp] theorem State.report_pwr (type tag : Nat) (w1 w2 w3 : Word) (s : State) : (s.report type tag w1 w2 w3).pwr = s.pwr := rfl
@[simp] theorem State.report_sys (type tag : Nat) (w1 w2 w3 : Word) (s : State) : (s.report type tag w1 w2 w3).sys = s.sys := rfl
@[simp] theorem State.report_xtalA (type tag : Nat) (w1 w2 w3 : Word) (s : State) : (s.report type tag w1 w2 w3).xtalA = s.xtalA := rfl
@[simp] theorem State.report_xtalB (type tag : Nat) (w1 w2 w3 : Word) (s : State) : (s.report type tag w1 w2 w3).xtalB = s.xtalB := rfl
@[simp] theorem State.report_pre (type tag : Nat) (w1 w2 w3 : Word) (s : State) : (s.report type tag w1 w2 w3).pre = s.pre := rfl
@[simp] theorem State.report_pending (type tag : Nat) (w1 w2 w3 : Word) (s : State) : (s.report type tag w1 w2 w3).pending = s.pending := rfl

/-! stage -/

@[simp] theorem State.stage_beat (path : Path) (addr : Nat) (data : Word) (s : State) :
    (s.stage path addr data).beat = { s.beat with staged := s.beat.staged ++ [{ path := path, addr := BitVec.ofNat 14 addr, data := data }] } := rfl
@[simp] theorem State.stage_mem (path : Path) (addr : Nat) (data : Word) (s : State) : (s.stage path addr data).mem = s.mem := rfl
@[simp] theorem State.stage_cfg (path : Path) (addr : Nat) (data : Word) (s : State) : (s.stage path addr data).cfg = s.cfg := rfl
@[simp] theorem State.stage_meas (path : Path) (addr : Nat) (data : Word) (s : State) : (s.stage path addr data).meas = s.meas := rfl
@[simp] theorem State.stage_integ (path : Path) (addr : Nat) (data : Word) (s : State) : (s.stage path addr data).integ = s.integ := rfl
@[simp] theorem State.stage_bal (path : Path) (addr : Nat) (data : Word) (s : State) : (s.stage path addr data).bal = s.bal := rfl
@[simp] theorem State.stage_imp (path : Path) (addr : Nat) (data : Word) (s : State) : (s.stage path addr data).imp = s.imp := rfl
@[simp] theorem State.stage_chg (path : Path) (addr : Nat) (data : Word) (s : State) : (s.stage path addr data).chg = s.chg := rfl
@[simp] theorem State.stage_lim (path : Path) (addr : Nat) (data : Word) (s : State) : (s.stage path addr data).lim = s.lim := rfl
@[simp] theorem State.stage_cha (path : Path) (addr : Nat) (data : Word) (s : State) : (s.stage path addr data).cha = s.cha := rfl
@[simp] theorem State.stage_chb (path : Path) (addr : Nat) (data : Word) (s : State) : (s.stage path addr data).chb = s.chb := rfl
@[simp] theorem State.stage_safe (path : Path) (addr : Nat) (data : Word) (s : State) : (s.stage path addr data).safe = s.safe := rfl
@[simp] theorem State.stage_core (path : Path) (addr : Nat) (data : Word) (s : State) : (s.stage path addr data).core = s.core := rfl
@[simp] theorem State.stage_flt (path : Path) (addr : Nat) (data : Word) (s : State) : (s.stage path addr data).flt = s.flt := rfl
@[simp] theorem State.stage_fltShown (path : Path) (addr : Nat) (data : Word) (s : State) : (s.stage path addr data).fltShown = s.fltShown := rfl
@[simp] theorem State.stage_thm (path : Path) (addr : Nat) (data : Word) (s : State) : (s.stage path addr data).thm = s.thm := rfl
@[simp] theorem State.stage_ring (path : Path) (addr : Nat) (data : Word) (s : State) : (s.stage path addr data).ring = s.ring := rfl
@[simp] theorem State.stage_can1 (path : Path) (addr : Nat) (data : Word) (s : State) : (s.stage path addr data).can1 = s.can1 := rfl
@[simp] theorem State.stage_can2 (path : Path) (addr : Nat) (data : Word) (s : State) : (s.stage path addr data).can2 = s.can2 := rfl
@[simp] theorem State.stage_host (path : Path) (addr : Nat) (data : Word) (s : State) : (s.stage path addr data).host = s.host := rfl
@[simp] theorem State.stage_log (path : Path) (addr : Nat) (data : Word) (s : State) : (s.stage path addr data).log = s.log := rfl
@[simp] theorem State.stage_pwr (path : Path) (addr : Nat) (data : Word) (s : State) : (s.stage path addr data).pwr = s.pwr := rfl
@[simp] theorem State.stage_sys (path : Path) (addr : Nat) (data : Word) (s : State) : (s.stage path addr data).sys = s.sys := rfl
@[simp] theorem State.stage_xtalA (path : Path) (addr : Nat) (data : Word) (s : State) : (s.stage path addr data).xtalA = s.xtalA := rfl
@[simp] theorem State.stage_xtalB (path : Path) (addr : Nat) (data : Word) (s : State) : (s.stage path addr data).xtalB = s.xtalB := rfl
@[simp] theorem State.stage_pre (path : Path) (addr : Nat) (data : Word) (s : State) : (s.stage path addr data).pre = s.pre := rfl
@[simp] theorem State.stage_pending (path : Path) (addr : Nat) (data : Word) (s : State) : (s.stage path addr data).pending = s.pending := rfl

/-! endCond -/

@[simp] theorem State.endCond_beat (fs : Nat) (s : State) : (s.endCond fs).beat = s.beat := rfl
@[simp] theorem State.endCond_mem (fs : Nat) (s : State) : (s.endCond fs).mem = s.mem := rfl
@[simp] theorem State.endCond_cfg (fs : Nat) (s : State) : (s.endCond fs).cfg = s.cfg := rfl
@[simp] theorem State.endCond_meas (fs : Nat) (s : State) : (s.endCond fs).meas = s.meas := rfl
@[simp] theorem State.endCond_integ (fs : Nat) (s : State) : (s.endCond fs).integ = s.integ := rfl
@[simp] theorem State.endCond_bal (fs : Nat) (s : State) : (s.endCond fs).bal = s.bal := rfl
@[simp] theorem State.endCond_imp (fs : Nat) (s : State) : (s.endCond fs).imp = s.imp := rfl
@[simp] theorem State.endCond_chg (fs : Nat) (s : State) : (s.endCond fs).chg = s.chg := rfl
@[simp] theorem State.endCond_lim (fs : Nat) (s : State) : (s.endCond fs).lim = s.lim := rfl
@[simp] theorem State.endCond_cha (fs : Nat) (s : State) : (s.endCond fs).cha = s.cha := rfl
@[simp] theorem State.endCond_chb (fs : Nat) (s : State) : (s.endCond fs).chb = s.chb := rfl
@[simp] theorem State.endCond_safe (fs : Nat) (s : State) : (s.endCond fs).safe = s.safe := rfl
@[simp] theorem State.endCond_core (fs : Nat) (s : State) : (s.endCond fs).core = s.core := rfl
@[simp] theorem State.endCond_flt (fs : Nat) (s : State) :
    (s.endCond fs).flt = { s.flt with src := s.flt.src.modify fs fun x => { x with cond := false } } := rfl
@[simp] theorem State.endCond_fltShown (fs : Nat) (s : State) : (s.endCond fs).fltShown = s.fltShown := rfl
@[simp] theorem State.endCond_thm (fs : Nat) (s : State) : (s.endCond fs).thm = s.thm := rfl
@[simp] theorem State.endCond_ring (fs : Nat) (s : State) : (s.endCond fs).ring = s.ring := rfl
@[simp] theorem State.endCond_can1 (fs : Nat) (s : State) : (s.endCond fs).can1 = s.can1 := rfl
@[simp] theorem State.endCond_can2 (fs : Nat) (s : State) : (s.endCond fs).can2 = s.can2 := rfl
@[simp] theorem State.endCond_host (fs : Nat) (s : State) : (s.endCond fs).host = s.host := rfl
@[simp] theorem State.endCond_log (fs : Nat) (s : State) : (s.endCond fs).log = s.log := rfl
@[simp] theorem State.endCond_pwr (fs : Nat) (s : State) : (s.endCond fs).pwr = s.pwr := rfl
@[simp] theorem State.endCond_sys (fs : Nat) (s : State) : (s.endCond fs).sys = s.sys := rfl
@[simp] theorem State.endCond_xtalA (fs : Nat) (s : State) : (s.endCond fs).xtalA = s.xtalA := rfl
@[simp] theorem State.endCond_xtalB (fs : Nat) (s : State) : (s.endCond fs).xtalB = s.xtalB := rfl
@[simp] theorem State.endCond_pre (fs : Nat) (s : State) : (s.endCond fs).pre = s.pre := rfl
@[simp] theorem State.endCond_pending (fs : Nat) (s : State) : (s.endCond fs).pending = s.pending := rfl

/-! sevClear -/

@[simp] theorem State.sevClear_beat (fs : Nat) (s : State) : (s.sevClear fs).beat = s.beat := rfl
@[simp] theorem State.sevClear_mem (fs : Nat) (s : State) : (s.sevClear fs).mem = s.mem := rfl
@[simp] theorem State.sevClear_cfg (fs : Nat) (s : State) : (s.sevClear fs).cfg = s.cfg := rfl
@[simp] theorem State.sevClear_meas (fs : Nat) (s : State) : (s.sevClear fs).meas = s.meas := rfl
@[simp] theorem State.sevClear_integ (fs : Nat) (s : State) : (s.sevClear fs).integ = s.integ := rfl
@[simp] theorem State.sevClear_bal (fs : Nat) (s : State) : (s.sevClear fs).bal = s.bal := rfl
@[simp] theorem State.sevClear_imp (fs : Nat) (s : State) : (s.sevClear fs).imp = s.imp := rfl
@[simp] theorem State.sevClear_chg (fs : Nat) (s : State) : (s.sevClear fs).chg = s.chg := rfl
@[simp] theorem State.sevClear_lim (fs : Nat) (s : State) : (s.sevClear fs).lim = s.lim := rfl
@[simp] theorem State.sevClear_cha (fs : Nat) (s : State) : (s.sevClear fs).cha = s.cha := rfl
@[simp] theorem State.sevClear_chb (fs : Nat) (s : State) : (s.sevClear fs).chb = s.chb := rfl
@[simp] theorem State.sevClear_safe (fs : Nat) (s : State) : (s.sevClear fs).safe = s.safe := rfl
@[simp] theorem State.sevClear_core (fs : Nat) (s : State) : (s.sevClear fs).core = s.core := rfl
@[simp] theorem State.sevClear_flt (fs : Nat) (s : State) :
    (s.sevClear fs).flt = { s.flt with src := s.flt.src.modify fs fun x => { x with sevp := false } } := rfl
@[simp] theorem State.sevClear_fltShown (fs : Nat) (s : State) : (s.sevClear fs).fltShown = s.fltShown := rfl
@[simp] theorem State.sevClear_thm (fs : Nat) (s : State) : (s.sevClear fs).thm = s.thm := rfl
@[simp] theorem State.sevClear_ring (fs : Nat) (s : State) : (s.sevClear fs).ring = s.ring := rfl
@[simp] theorem State.sevClear_can1 (fs : Nat) (s : State) : (s.sevClear fs).can1 = s.can1 := rfl
@[simp] theorem State.sevClear_can2 (fs : Nat) (s : State) : (s.sevClear fs).can2 = s.can2 := rfl
@[simp] theorem State.sevClear_host (fs : Nat) (s : State) : (s.sevClear fs).host = s.host := rfl
@[simp] theorem State.sevClear_log (fs : Nat) (s : State) : (s.sevClear fs).log = s.log := rfl
@[simp] theorem State.sevClear_pwr (fs : Nat) (s : State) : (s.sevClear fs).pwr = s.pwr := rfl
@[simp] theorem State.sevClear_sys (fs : Nat) (s : State) : (s.sevClear fs).sys = s.sys := rfl
@[simp] theorem State.sevClear_xtalA (fs : Nat) (s : State) : (s.sevClear fs).xtalA = s.xtalA := rfl
@[simp] theorem State.sevClear_xtalB (fs : Nat) (s : State) : (s.sevClear fs).xtalB = s.xtalB := rfl
@[simp] theorem State.sevClear_pre (fs : Nat) (s : State) : (s.sevClear fs).pre = s.pre := rfl
@[simp] theorem State.sevClear_pending (fs : Nat) (s : State) : (s.sevClear fs).pending = s.pending := rfl

end Sys2Proof.Machine
end

