-- ==== Sys2Proof/Laws/Raise.lean ====
section
/-! SUPPORT. What a raise can do (R366-R374): it writes the collectors, the intake, the report queue, the performance counters and
a pending reset, and nothing else. -/

namespace Sys2Proof.Machine

/-! fsEntry -/

@[simp] theorem State.fsEntry_beat (fs kind : Nat) (d b : Word) (s : State) : (s.fsEntry fs kind d b).beat = s.beat := rfl
@[simp] theorem State.fsEntry_mem (fs kind : Nat) (d b : Word) (s : State) : (s.fsEntry fs kind d b).mem = s.mem := rfl
@[simp] theorem State.fsEntry_meas (fs kind : Nat) (d b : Word) (s : State) : (s.fsEntry fs kind d b).meas = s.meas := rfl
@[simp] theorem State.fsEntry_integ (fs kind : Nat) (d b : Word) (s : State) : (s.fsEntry fs kind d b).integ = s.integ := rfl
@[simp] theorem State.fsEntry_bal (fs kind : Nat) (d b : Word) (s : State) : (s.fsEntry fs kind d b).bal = s.bal := rfl
@[simp] theorem State.fsEntry_imp (fs kind : Nat) (d b : Word) (s : State) : (s.fsEntry fs kind d b).imp = s.imp := rfl
@[simp] theorem State.fsEntry_chg (fs kind : Nat) (d b : Word) (s : State) : (s.fsEntry fs kind d b).chg = s.chg := rfl
@[simp] theorem State.fsEntry_lim (fs kind : Nat) (d b : Word) (s : State) : (s.fsEntry fs kind d b).lim = s.lim := rfl
@[simp] theorem State.fsEntry_cha (fs kind : Nat) (d b : Word) (s : State) : (s.fsEntry fs kind d b).cha = s.cha := rfl
@[simp] theorem State.fsEntry_chb (fs kind : Nat) (d b : Word) (s : State) : (s.fsEntry fs kind d b).chb = s.chb := rfl
@[simp] theorem State.fsEntry_safe (fs kind : Nat) (d b : Word) (s : State) : (s.fsEntry fs kind d b).safe = s.safe := rfl
@[simp] theorem State.fsEntry_core (fs kind : Nat) (d b : Word) (s : State) : (s.fsEntry fs kind d b).core = s.core := rfl
@[simp] theorem State.fsEntry_fltShown (fs kind : Nat) (d b : Word) (s : State) : (s.fsEntry fs kind d b).fltShown = s.fltShown := rfl
@[simp] theorem State.fsEntry_thm (fs kind : Nat) (d b : Word) (s : State) : (s.fsEntry fs kind d b).thm = s.thm := rfl
@[simp] theorem State.fsEntry_ring (fs kind : Nat) (d b : Word) (s : State) : (s.fsEntry fs kind d b).ring = s.ring := rfl
@[simp] theorem State.fsEntry_can1 (fs kind : Nat) (d b : Word) (s : State) : (s.fsEntry fs kind d b).can1 = s.can1 := rfl
@[simp] theorem State.fsEntry_can2 (fs kind : Nat) (d b : Word) (s : State) : (s.fsEntry fs kind d b).can2 = s.can2 := rfl
@[simp] theorem State.fsEntry_pwr (fs kind : Nat) (d b : Word) (s : State) : (s.fsEntry fs kind d b).pwr = s.pwr := rfl
@[simp] theorem State.fsEntry_xtalA (fs kind : Nat) (d b : Word) (s : State) : (s.fsEntry fs kind d b).xtalA = s.xtalA := rfl
@[simp] theorem State.fsEntry_xtalB (fs kind : Nat) (d b : Word) (s : State) : (s.fsEntry fs kind d b).xtalB = s.xtalB := rfl
@[simp] theorem State.fsEntry_pre (fs kind : Nat) (d b : Word) (s : State) : (s.fsEntry fs kind d b).pre = s.pre := rfl
@[simp] theorem State.fsEntry_pending (fs kind : Nat) (d b : Word) (s : State) : (s.fsEntry fs kind d b).pending = s.pending := rfl
@[simp] theorem State.fsEntry_cfg (fs kind : Nat) (d b : Word) (s : State) : (s.fsEntry fs kind d b).cfg = s.cfg := rfl
@[simp] theorem State.fsEntry_flt (fs kind : Nat) (d b : Word) (s : State) : (s.fsEntry fs kind d b).flt = s.flt := rfl
@[simp] theorem State.fsEntry_host (fs kind : Nat) (d b : Word) (s : State) : (s.fsEntry fs kind d b).host = s.host := rfl
@[simp] theorem State.fsEntry_sys (fs kind : Nat) (d b : Word) (s : State) : (s.fsEntry fs kind d b).sys = s.sys := rfl

/-! react -/

@[simp] theorem State.react_beat (r fs : Nat) (d : Word) (m : Bool) (s : State) : (s.react r fs d m).beat = s.beat := rfl
@[simp] theorem State.react_mem (r fs : Nat) (d : Word) (m : Bool) (s : State) : (s.react r fs d m).mem = s.mem := rfl
@[simp] theorem State.react_meas (r fs : Nat) (d : Word) (m : Bool) (s : State) : (s.react r fs d m).meas = s.meas := rfl
@[simp] theorem State.react_integ (r fs : Nat) (d : Word) (m : Bool) (s : State) : (s.react r fs d m).integ = s.integ := rfl
@[simp] theorem State.react_bal (r fs : Nat) (d : Word) (m : Bool) (s : State) : (s.react r fs d m).bal = s.bal := rfl
@[simp] theorem State.react_imp (r fs : Nat) (d : Word) (m : Bool) (s : State) : (s.react r fs d m).imp = s.imp := rfl
@[simp] theorem State.react_chg (r fs : Nat) (d : Word) (m : Bool) (s : State) : (s.react r fs d m).chg = s.chg := rfl
@[simp] theorem State.react_lim (r fs : Nat) (d : Word) (m : Bool) (s : State) : (s.react r fs d m).lim = s.lim := rfl
@[simp] theorem State.react_cha (r fs : Nat) (d : Word) (m : Bool) (s : State) : (s.react r fs d m).cha = s.cha := rfl
@[simp] theorem State.react_chb (r fs : Nat) (d : Word) (m : Bool) (s : State) : (s.react r fs d m).chb = s.chb := rfl
@[simp] theorem State.react_safe (r fs : Nat) (d : Word) (m : Bool) (s : State) : (s.react r fs d m).safe = s.safe := rfl
@[simp] theorem State.react_core (r fs : Nat) (d : Word) (m : Bool) (s : State) : (s.react r fs d m).core = s.core := rfl
@[simp] theorem State.react_fltShown (r fs : Nat) (d : Word) (m : Bool) (s : State) : (s.react r fs d m).fltShown = s.fltShown := rfl
@[simp] theorem State.react_thm (r fs : Nat) (d : Word) (m : Bool) (s : State) : (s.react r fs d m).thm = s.thm := rfl
@[simp] theorem State.react_ring (r fs : Nat) (d : Word) (m : Bool) (s : State) : (s.react r fs d m).ring = s.ring := rfl
@[simp] theorem State.react_can1 (r fs : Nat) (d : Word) (m : Bool) (s : State) : (s.react r fs d m).can1 = s.can1 := rfl
@[simp] theorem State.react_can2 (r fs : Nat) (d : Word) (m : Bool) (s : State) : (s.react r fs d m).can2 = s.can2 := rfl
@[simp] theorem State.react_pwr (r fs : Nat) (d : Word) (m : Bool) (s : State) : (s.react r fs d m).pwr = s.pwr := rfl
@[simp] theorem State.react_xtalA (r fs : Nat) (d : Word) (m : Bool) (s : State) : (s.react r fs d m).xtalA = s.xtalA := rfl
@[simp] theorem State.react_xtalB (r fs : Nat) (d : Word) (m : Bool) (s : State) : (s.react r fs d m).xtalB = s.xtalB := rfl
@[simp] theorem State.react_pre (r fs : Nat) (d : Word) (m : Bool) (s : State) : (s.react r fs d m).pre = s.pre := rfl
@[simp] theorem State.react_pending (r fs : Nat) (d : Word) (m : Bool) (s : State) : (s.react r fs d m).pending = s.pending := rfl
@[simp] theorem State.react_log (r fs : Nat) (d : Word) (m : Bool) (s : State) : (s.react r fs d m).log = s.log := rfl
@[simp] theorem State.react_host (r fs : Nat) (d : Word) (m : Bool) (s : State) : (s.react r fs d m).host = s.host := rfl
@[simp] theorem State.react_sys (r fs : Nat) (d : Word) (m : Bool) (s : State) : (s.react r fs d m).sys = s.sys := rfl
@[simp] theorem State.react_src (r fs : Nat) (d : Word) (m : Bool) (s : State) : (s.react r fs d m).flt.src = s.flt.src := rfl


/-! openReport -/

@[simp] theorem State.openReport_beat (w : Bool) (fs k : Nat) (b : Word) (s : State) :
    (s.openReport w fs k b).beat = s.beat := by
  unfold State.openReport; split <;> rfl
@[simp] theorem State.openReport_mem (w : Bool) (fs k : Nat) (b : Word) (s : State) :
    (s.openReport w fs k b).mem = s.mem := by
  unfold State.openReport; split <;> rfl
@[simp] theorem State.openReport_meas (w : Bool) (fs k : Nat) (b : Word) (s : State) :
    (s.openReport w fs k b).meas = s.meas := by
  unfold State.openReport; split <;> rfl
@[simp] theorem State.openReport_integ (w : Bool) (fs k : Nat) (b : Word) (s : State) :
    (s.openReport w fs k b).integ = s.integ := by
  unfold State.openReport; split <;> rfl
@[simp] theorem State.openReport_bal (w : Bool) (fs k : Nat) (b : Word) (s : State) :
    (s.openReport w fs k b).bal = s.bal := by
  unfold State.openReport; split <;> rfl
@[simp] theorem State.openReport_imp (w : Bool) (fs k : Nat) (b : Word) (s : State) :
    (s.openReport w fs k b).imp = s.imp := by
  unfold State.openReport; split <;> rfl
@[simp] theorem State.openReport_chg (w : Bool) (fs k : Nat) (b : Word) (s : State) :
    (s.openReport w fs k b).chg = s.chg := by
  unfold State.openReport; split <;> rfl
@[simp] theorem State.openReport_lim (w : Bool) (fs k : Nat) (b : Word) (s : State) :
    (s.openReport w fs k b).lim = s.lim := by
  unfold State.openReport; split <;> rfl
@[simp] theorem State.openReport_cha (w : Bool) (fs k : Nat) (b : Word) (s : State) :
    (s.openReport w fs k b).cha = s.cha := by
  unfold State.openReport; split <;> rfl
@[simp] theorem State.openReport_chb (w : Bool) (fs k : Nat) (b : Word) (s : State) :
    (s.openReport w fs k b).chb = s.chb := by
  unfold State.openReport; split <;> rfl
@[simp] theorem State.openReport_safe (w : Bool) (fs k : Nat) (b : Word) (s : State) :
    (s.openReport w fs k b).safe = s.safe := by
  unfold State.openReport; split <;> rfl
@[simp] theorem State.openReport_core (w : Bool) (fs k : Nat) (b : Word) (s : State) :
    (s.openReport w fs k b).core = s.core := by
  unfold State.openReport; split <;> rfl
@[simp] theorem State.openReport_fltShown (w : Bool) (fs k : Nat) (b : Word) (s : State) :
    (s.openReport w fs k b).fltShown = s.fltShown := by
  unfold State.openReport; split <;> rfl
@[simp] theorem State.openReport_thm (w : Bool) (fs k : Nat) (b : Word) (s : State) :
    (s.openReport w fs k b).thm = s.thm := by
  unfold State.openReport; split <;> rfl
@[simp] theorem State.openReport_ring (w : Bool) (fs k : Nat) (b : Word) (s : State) :
    (s.openReport w fs k b).ring = s.ring := by
  unfold State.openReport; split <;> rfl
@[simp] theorem State.openReport_can1 (w : Bool) (fs k : Nat) (b : Word) (s : State) :
    (s.openReport w fs k b).can1 = s.can1 := by
  unfold State.openReport; split <;> rfl
@[simp] theorem State.openReport_can2 (w : Bool) (fs k : Nat) (b : Word) (s : State) :
    (s.openReport w fs k b).can2 = s.can2 := by
  unfold State.openReport; split <;> rfl
@[simp] theorem State.openReport_pwr (w : Bool) (fs k : Nat) (b : Word) (s : State) :
    (s.openReport w fs k b).pwr = s.pwr := by
  unfold State.openReport; split <;> rfl
@[simp] theorem State.openReport_xtalA (w : Bool) (fs k : Nat) (b : Word) (s : State) :
    (s.openReport w fs k b).xtalA = s.xtalA := by
  unfold State.openReport; split <;> rfl
@[simp] theorem State.openReport_xtalB (w : Bool) (fs k : Nat) (b : Word) (s : State) :
    (s.openReport w fs k b).xtalB = s.xtalB := by
  unfold State.openReport; split <;> rfl
@[simp] theorem State.openReport_pre (w : Bool) (fs k : Nat) (b : Word) (s : State) :
    (s.openReport w fs k b).pre = s.pre := by
  unfold State.openReport; split <;> rfl
@[simp] theorem State.openReport_pending (w : Bool) (fs k : Nat) (b : Word) (s : State) :
    (s.openReport w fs k b).pending = s.pending := by
  unfold State.openReport; split <;> rfl
@[simp] theorem State.openReport_cfg (w : Bool) (fs k : Nat) (b : Word) (s : State) :
    (s.openReport w fs k b).cfg = s.cfg := by
  unfold State.openReport; split <;> rfl
@[simp] theorem State.openReport_flt (w : Bool) (fs k : Nat) (b : Word) (s : State) :
    (s.openReport w fs k b).flt = s.flt := by
  unfold State.openReport; split <;> rfl
@[simp] theorem State.openReport_log (w : Bool) (fs k : Nat) (b : Word) (s : State) :
    (s.openReport w fs k b).log = s.log := by
  unfold State.openReport; split <;> rfl
@[simp] theorem State.openReport_sys (w : Bool) (fs k : Nat) (b : Word) (s : State) :
    (s.openReport w fs k b).sys = s.sys := by
  unfold State.openReport; split <;> rfl

@[simp] theorem FltS.handle_src (f : FltS) (fs kind : Nat) (b now : Word) (r : Nat) : (f.handle fs kind b now r).src = f.src := by
  unfold FltS.handle; split
  · rfl
  · split <;> rfl

/-! w1cNow: a W1C write that became active before a raise acts before it. -/

@[simp] theorem State.w1cNow_beat (fs : Nat) (s : State) : (s.w1cNow fs).beat = s.beat := by
  unfold State.w1cNow; split
  · dsimp only; split <;> rfl
  · rfl
@[simp] theorem State.w1cNow_mem (fs : Nat) (s : State) : (s.w1cNow fs).mem = s.mem := by
  unfold State.w1cNow; split
  · dsimp only; split <;> rfl
  · rfl
@[simp] theorem State.w1cNow_meas (fs : Nat) (s : State) : (s.w1cNow fs).meas = s.meas := by
  unfold State.w1cNow; split
  · dsimp only; split <;> rfl
  · rfl
@[simp] theorem State.w1cNow_integ (fs : Nat) (s : State) : (s.w1cNow fs).integ = s.integ := by
  unfold State.w1cNow; split
  · dsimp only; split <;> rfl
  · rfl
@[simp] theorem State.w1cNow_bal (fs : Nat) (s : State) : (s.w1cNow fs).bal = s.bal := by
  unfold State.w1cNow; split
  · dsimp only; split <;> rfl
  · rfl
@[simp] theorem State.w1cNow_imp (fs : Nat) (s : State) : (s.w1cNow fs).imp = s.imp := by
  unfold State.w1cNow; split
  · dsimp only; split <;> rfl
  · rfl
@[simp] theorem State.w1cNow_chg (fs : Nat) (s : State) : (s.w1cNow fs).chg = s.chg := by
  unfold State.w1cNow; split
  · dsimp only; split <;> rfl
  · rfl
@[simp] theorem State.w1cNow_lim (fs : Nat) (s : State) : (s.w1cNow fs).lim = s.lim := by
  unfold State.w1cNow; split
  · dsimp only; split <;> rfl
  · rfl
@[simp] theorem State.w1cNow_cha (fs : Nat) (s : State) : (s.w1cNow fs).cha = s.cha := by
  unfold State.w1cNow; split
  · dsimp only; split <;> rfl
  · rfl
@[simp] theorem State.w1cNow_chb (fs : Nat) (s : State) : (s.w1cNow fs).chb = s.chb := by
  unfold State.w1cNow; split
  · dsimp only; split <;> rfl
  · rfl
@[simp] theorem State.w1cNow_safe (fs : Nat) (s : State) : (s.w1cNow fs).safe = s.safe := by
  unfold State.w1cNow; split
  · dsimp only; split <;> rfl
  · rfl
@[simp] theorem State.w1cNow_core (fs : Nat) (s : State) : (s.w1cNow fs).core = s.core := by
  unfold State.w1cNow; split
  · dsimp only; split <;> rfl
  · rfl
@[simp] theorem State.w1cNow_fltShown (fs : Nat) (s : State) : (s.w1cNow fs).fltShown = s.fltShown := by
  unfold State.w1cNow; split
  · dsimp only; split <;> rfl
  · rfl
@[simp] theorem State.w1cNow_thm (fs : Nat) (s : State) : (s.w1cNow fs).thm = s.thm := by
  unfold State.w1cNow; split
  · dsimp only; split <;> rfl
  · rfl
@[simp] theorem State.w1cNow_ring (fs : Nat) (s : State) : (s.w1cNow fs).ring = s.ring := by
  unfold State.w1cNow; split
  · dsimp only; split <;> rfl
  · rfl
@[simp] theorem State.w1cNow_can1 (fs : Nat) (s : State) : (s.w1cNow fs).can1 = s.can1 := by
  unfold State.w1cNow; split
  · dsimp only; split <;> rfl
  · rfl
@[simp] theorem State.w1cNow_can2 (fs : Nat) (s : State) : (s.w1cNow fs).can2 = s.can2 := by
  unfold State.w1cNow; split
  · dsimp only; split <;> rfl
  · rfl
@[simp] theorem State.w1cNow_pwr (fs : Nat) (s : State) : (s.w1cNow fs).pwr = s.pwr := by
  unfold State.w1cNow; split
  · dsimp only; split <;> rfl
  · rfl
@[simp] theorem State.w1cNow_xtalA (fs : Nat) (s : State) : (s.w1cNow fs).xtalA = s.xtalA := by
  unfold State.w1cNow; split
  · dsimp only; split <;> rfl
  · rfl
@[simp] theorem State.w1cNow_xtalB (fs : Nat) (s : State) : (s.w1cNow fs).xtalB = s.xtalB := by
  unfold State.w1cNow; split
  · dsimp only; split <;> rfl
  · rfl
@[simp] theorem State.w1cNow_pre (fs : Nat) (s : State) : (s.w1cNow fs).pre = s.pre := by
  unfold State.w1cNow; split
  · dsimp only; split <;> rfl
  · rfl
@[simp] theorem State.w1cNow_pending (fs : Nat) (s : State) : (s.w1cNow fs).pending = s.pending := by
  unfold State.w1cNow; split
  · dsimp only; split <;> rfl
  · rfl
@[simp] theorem State.w1cNow_cfg (fs : Nat) (s : State) : (s.w1cNow fs).cfg = s.cfg := by
  unfold State.w1cNow; split
  · dsimp only; split <;> rfl
  · rfl
@[simp] theorem State.w1cNow_log (fs : Nat) (s : State) : (s.w1cNow fs).log = s.log := by
  unfold State.w1cNow; split
  · dsimp only; split <;> rfl
  · rfl
@[simp] theorem State.w1cNow_host (fs : Nat) (s : State) : (s.w1cNow fs).host = s.host := by
  unfold State.w1cNow; split
  · dsimp only; split <;> rfl
  · rfl
@[simp] theorem State.w1cNow_sys (fs : Nat) (s : State) : (s.w1cNow fs).sys = s.sys := by
  unfold State.w1cNow; split
  · dsimp only; split <;> rfl
  · rfl

/-- With no W1C write of the source waiting, nothing acts before the raise (R14). -/
theorem State.w1cNow_idle (fs : Nat) (s : State) (hl : fs ∉ s.flt.w1cLatch) (hv : fs ∉ s.flt.w1cSevl) : s.w1cNow fs = s := by
  simp [State.w1cNow, hl, hv]

/-! raiseAt -/

@[simp] theorem State.raiseAt_beat (k : RaiseKind) (one : Bool) (fs : Nat) (d b : Word) (s : State) :
    (s.raiseAt k one fs d b).beat = s.beat := by
  simp only [State.raiseAt, State.react_beat, State.openReport_beat]
  split <;> split <;> simp
@[simp] theorem State.raiseAt_mem (k : RaiseKind) (one : Bool) (fs : Nat) (d b : Word) (s : State) :
    (s.raiseAt k one fs d b).mem = s.mem := by
  simp only [State.raiseAt, State.react_mem, State.openReport_mem]
  split <;> split <;> simp
@[simp] theorem State.raiseAt_meas (k : RaiseKind) (one : Bool) (fs : Nat) (d b : Word) (s : State) :
    (s.raiseAt k one fs d b).meas = s.meas := by
  simp only [State.raiseAt, State.react_meas, State.openReport_meas]
  split <;> split <;> simp
@[simp] theorem State.raiseAt_integ (k : RaiseKind) (one : Bool) (fs : Nat) (d b : Word) (s : State) :
    (s.raiseAt k one fs d b).integ = s.integ := by
  simp only [State.raiseAt, State.react_integ, State.openReport_integ]
  split <;> split <;> simp
@[simp] theorem State.raiseAt_bal (k : RaiseKind) (one : Bool) (fs : Nat) (d b : Word) (s : State) :
    (s.raiseAt k one fs d b).bal = s.bal := by
  simp only [State.raiseAt, State.react_bal, State.openReport_bal]
  split <;> split <;> simp
@[simp] theorem State.raiseAt_imp (k : RaiseKind) (one : Bool) (fs : Nat) (d b : Word) (s : State) :
    (s.raiseAt k one fs d b).imp = s.imp := by
  simp only [State.raiseAt, State.react_imp, State.openReport_imp]
  split <;> split <;> simp
@[simp] theorem State.raiseAt_chg (k : RaiseKind) (one : Bool) (fs : Nat) (d b : Word) (s : State) :
    (s.raiseAt k one fs d b).chg = s.chg := by
  simp only [State.raiseAt, State.react_chg, State.openReport_chg]
  split <;> split <;> simp
@[simp] theorem State.raiseAt_lim (k : RaiseKind) (one : Bool) (fs : Nat) (d b : Word) (s : State) :
    (s.raiseAt k one fs d b).lim = s.lim := by
  simp only [State.raiseAt, State.react_lim, State.openReport_lim]
  split <;> split <;> simp
@[simp] theorem State.raiseAt_cha (k : RaiseKind) (one : Bool) (fs : Nat) (d b : Word) (s : State) :
    (s.raiseAt k one fs d b).cha = s.cha := by
  simp only [State.raiseAt, State.react_cha, State.openReport_cha]
  split <;> split <;> simp
@[simp] theorem State.raiseAt_chb (k : RaiseKind) (one : Bool) (fs : Nat) (d b : Word) (s : State) :
    (s.raiseAt k one fs d b).chb = s.chb := by
  simp only [State.raiseAt, State.react_chb, State.openReport_chb]
  split <;> split <;> simp
@[simp] theorem State.raiseAt_safe (k : RaiseKind) (one : Bool) (fs : Nat) (d b : Word) (s : State) :
    (s.raiseAt k one fs d b).safe = s.safe := by
  simp only [State.raiseAt, State.react_safe, State.openReport_safe]
  split <;> split <;> simp
@[simp] theorem State.raiseAt_core (k : RaiseKind) (one : Bool) (fs : Nat) (d b : Word) (s : State) :
    (s.raiseAt k one fs d b).core = s.core := by
  simp only [State.raiseAt, State.react_core, State.openReport_core]
  split <;> split <;> simp
@[simp] theorem State.raiseAt_fltShown (k : RaiseKind) (one : Bool) (fs : Nat) (d b : Word) (s : State) :
    (s.raiseAt k one fs d b).fltShown = s.fltShown := by
  simp only [State.raiseAt, State.react_fltShown, State.openReport_fltShown]
  split <;> split <;> simp
@[simp] theorem State.raiseAt_thm (k : RaiseKind) (one : Bool) (fs : Nat) (d b : Word) (s : State) :
    (s.raiseAt k one fs d b).thm = s.thm := by
  simp only [State.raiseAt, State.react_thm, State.openReport_thm]
  split <;> split <;> simp
@[simp] theorem State.raiseAt_ring (k : RaiseKind) (one : Bool) (fs : Nat) (d b : Word) (s : State) :
    (s.raiseAt k one fs d b).ring = s.ring := by
  simp only [State.raiseAt, State.react_ring, State.openReport_ring]
  split <;> split <;> simp
@[simp] theorem State.raiseAt_can1 (k : RaiseKind) (one : Bool) (fs : Nat) (d b : Word) (s : State) :
    (s.raiseAt k one fs d b).can1 = s.can1 := by
  simp only [State.raiseAt, State.react_can1, State.openReport_can1]
  split <;> split <;> simp
@[simp] theorem State.raiseAt_can2 (k : RaiseKind) (one : Bool) (fs : Nat) (d b : Word) (s : State) :
    (s.raiseAt k one fs d b).can2 = s.can2 := by
  simp only [State.raiseAt, State.react_can2, State.openReport_can2]
  split <;> split <;> simp
@[simp] theorem State.raiseAt_pwr (k : RaiseKind) (one : Bool) (fs : Nat) (d b : Word) (s : State) :
    (s.raiseAt k one fs d b).pwr = s.pwr := by
  simp only [State.raiseAt, State.react_pwr, State.openReport_pwr]
  split <;> split <;> simp
@[simp] theorem State.raiseAt_xtalA (k : RaiseKind) (one : Bool) (fs : Nat) (d b : Word) (s : State) :
    (s.raiseAt k one fs d b).xtalA = s.xtalA := by
  simp only [State.raiseAt, State.react_xtalA, State.openReport_xtalA]
  split <;> split <;> simp
@[simp] theorem State.raiseAt_xtalB (k : RaiseKind) (one : Bool) (fs : Nat) (d b : Word) (s : State) :
    (s.raiseAt k one fs d b).xtalB = s.xtalB := by
  simp only [State.raiseAt, State.react_xtalB, State.openReport_xtalB]
  split <;> split <;> simp
@[simp] theorem State.raiseAt_pre (k : RaiseKind) (one : Bool) (fs : Nat) (d b : Word) (s : State) :
    (s.raiseAt k one fs d b).pre = s.pre := by
  simp only [State.raiseAt, State.react_pre, State.openReport_pre]
  split <;> split <;> simp
@[simp] theorem State.raiseAt_pending (k : RaiseKind) (one : Bool) (fs : Nat) (d b : Word) (s : State) :
    (s.raiseAt k one fs d b).pending = s.pending := by
  simp only [State.raiseAt, State.react_pending, State.openReport_pending]
  split <;> split <;> simp

/-- A raise leaves the image, the banks and the session alone: of the configuration only a pending reset is written (R370). -/
theorem State.raiseAt_cfg (k : RaiseKind) (one : Bool) (fs : Nat) (d b : Word) (s : State) :
    ∃ r, (s.raiseAt k one fs d b).cfg = { s.cfg with resetDue := r } := by
  have h : ∀ (r : Nat) (m : Bool) (t : State), t.cfg = s.cfg → ∃ x, (t.react r fs d m).cfg = { s.cfg with resetDue := x } := by
    intro r m t ht
    simp only [State.react]
    split
    · exact ⟨mergeCause t.cfg.resetDue (modrstCause fs), by rw [ht]⟩
    · exact ⟨s.cfg.resetDue, by rw [ht]⟩
  simp only [State.raiseAt]
  apply h
  simp only [State.openReport_cfg]
  split <;> split <;> simp

/-! raise -/

@[simp] theorem State.raise_beat (fs : Nat) (d : Word) (s : State) : (s.raise fs d).beat = s.beat := State.raiseAt_beat ..
@[simp] theorem State.raise_mem (fs : Nat) (d : Word) (s : State) : (s.raise fs d).mem = s.mem := State.raiseAt_mem ..
@[simp] theorem State.raise_meas (fs : Nat) (d : Word) (s : State) : (s.raise fs d).meas = s.meas := State.raiseAt_meas ..
@[simp] theorem State.raise_integ (fs : Nat) (d : Word) (s : State) : (s.raise fs d).integ = s.integ := State.raiseAt_integ ..
@[simp] theorem State.raise_bal (fs : Nat) (d : Word) (s : State) : (s.raise fs d).bal = s.bal := State.raiseAt_bal ..
@[simp] theorem State.raise_imp (fs : Nat) (d : Word) (s : State) : (s.raise fs d).imp = s.imp := State.raiseAt_imp ..
@[simp] theorem State.raise_chg (fs : Nat) (d : Word) (s : State) : (s.raise fs d).chg = s.chg := State.raiseAt_chg ..
@[simp] theorem State.raise_lim (fs : Nat) (d : Word) (s : State) : (s.raise fs d).lim = s.lim := State.raiseAt_lim ..
@[simp] theorem State.raise_cha (fs : Nat) (d : Word) (s : State) : (s.raise fs d).cha = s.cha := State.raiseAt_cha ..
@[simp] theorem State.raise_chb (fs : Nat) (d : Word) (s : State) : (s.raise fs d).chb = s.chb := State.raiseAt_chb ..
@[simp] theorem State.raise_safe (fs : Nat) (d : Word) (s : State) : (s.raise fs d).safe = s.safe := State.raiseAt_safe ..
@[simp] theorem State.raise_core (fs : Nat) (d : Word) (s : State) : (s.raise fs d).core = s.core := State.raiseAt_core ..
@[simp] theorem State.raise_fltShown (fs : Nat) (d : Word) (s : State) : (s.raise fs d).fltShown = s.fltShown := State.raiseAt_fltShown ..
@[simp] theorem State.raise_thm (fs : Nat) (d : Word) (s : State) : (s.raise fs d).thm = s.thm := State.raiseAt_thm ..
@[simp] theorem State.raise_ring (fs : Nat) (d : Word) (s : State) : (s.raise fs d).ring = s.ring := State.raiseAt_ring ..
@[simp] theorem State.raise_can1 (fs : Nat) (d : Word) (s : State) : (s.raise fs d).can1 = s.can1 := State.raiseAt_can1 ..
@[simp] theorem State.raise_can2 (fs : Nat) (d : Word) (s : State) : (s.raise fs d).can2 = s.can2 := State.raiseAt_can2 ..
@[simp] theorem State.raise_pwr (fs : Nat) (d : Word) (s : State) : (s.raise fs d).pwr = s.pwr := State.raiseAt_pwr ..
@[simp] theorem State.raise_xtalA (fs : Nat) (d : Word) (s : State) : (s.raise fs d).xtalA = s.xtalA := State.raiseAt_xtalA ..
@[simp] theorem State.raise_xtalB (fs : Nat) (d : Word) (s : State) : (s.raise fs d).xtalB = s.xtalB := State.raiseAt_xtalB ..
@[simp] theorem State.raise_pre (fs : Nat) (d : Word) (s : State) : (s.raise fs d).pre = s.pre := State.raiseAt_pre ..
@[simp] theorem State.raise_pending (fs : Nat) (d : Word) (s : State) : (s.raise fs d).pending = s.pending := State.raiseAt_pending ..

/-! raiseTransient -/

@[simp] theorem State.raiseTransient_beat (fs : Nat) (d : Word) (s : State) : (s.raiseTransient fs d).beat = s.beat := State.raiseAt_beat ..
@[simp] theorem State.raiseTransient_mem (fs : Nat) (d : Word) (s : State) : (s.raiseTransient fs d).mem = s.mem := State.raiseAt_mem ..
@[simp] theorem State.raiseTransient_meas (fs : Nat) (d : Word) (s : State) : (s.raiseTransient fs d).meas = s.meas := State.raiseAt_meas ..
@[simp] theorem State.raiseTransient_integ (fs : Nat) (d : Word) (s : State) : (s.raiseTransient fs d).integ = s.integ := State.raiseAt_integ ..
@[simp] theorem State.raiseTransient_bal (fs : Nat) (d : Word) (s : State) : (s.raiseTransient fs d).bal = s.bal := State.raiseAt_bal ..
@[simp] theorem State.raiseTransient_imp (fs : Nat) (d : Word) (s : State) : (s.raiseTransient fs d).imp = s.imp := State.raiseAt_imp ..
@[simp] theorem State.raiseTransient_chg (fs : Nat) (d : Word) (s : State) : (s.raiseTransient fs d).chg = s.chg := State.raiseAt_chg ..
@[simp] theorem State.raiseTransient_lim (fs : Nat) (d : Word) (s : State) : (s.raiseTransient fs d).lim = s.lim := State.raiseAt_lim ..
@[simp] theorem State.raiseTransient_cha (fs : Nat) (d : Word) (s : State) : (s.raiseTransient fs d).cha = s.cha := State.raiseAt_cha ..
@[simp] theorem State.raiseTransient_chb (fs : Nat) (d : Word) (s : State) : (s.raiseTransient fs d).chb = s.chb := State.raiseAt_chb ..
@[simp] theorem State.raiseTransient_safe (fs : Nat) (d : Word) (s : State) : (s.raiseTransient fs d).safe = s.safe := State.raiseAt_safe ..
@[simp] theorem State.raiseTransient_core (fs : Nat) (d : Word) (s : State) : (s.raiseTransient fs d).core = s.core := State.raiseAt_core ..
@[simp] theorem State.raiseTransient_fltShown (fs : Nat) (d : Word) (s : State) : (s.raiseTransient fs d).fltShown = s.fltShown := State.raiseAt_fltShown ..
@[simp] theorem State.raiseTransient_thm (fs : Nat) (d : Word) (s : State) : (s.raiseTransient fs d).thm = s.thm := State.raiseAt_thm ..
@[simp] theorem State.raiseTransient_ring (fs : Nat) (d : Word) (s : State) : (s.raiseTransient fs d).ring = s.ring := State.raiseAt_ring ..
@[simp] theorem State.raiseTransient_can1 (fs : Nat) (d : Word) (s : State) : (s.raiseTransient fs d).can1 = s.can1 := State.raiseAt_can1 ..
@[simp] theorem State.raiseTransient_can2 (fs : Nat) (d : Word) (s : State) : (s.raiseTransient fs d).can2 = s.can2 := State.raiseAt_can2 ..
@[simp] theorem State.raiseTransient_pwr (fs : Nat) (d : Word) (s : State) : (s.raiseTransient fs d).pwr = s.pwr := State.raiseAt_pwr ..
@[simp] theorem State.raiseTransient_xtalA (fs : Nat) (d : Word) (s : State) : (s.raiseTransient fs d).xtalA = s.xtalA := State.raiseAt_xtalA ..
@[simp] theorem State.raiseTransient_xtalB (fs : Nat) (d : Word) (s : State) : (s.raiseTransient fs d).xtalB = s.xtalB := State.raiseAt_xtalB ..
@[simp] theorem State.raiseTransient_pre (fs : Nat) (d : Word) (s : State) : (s.raiseTransient fs d).pre = s.pre := State.raiseAt_pre ..
@[simp] theorem State.raiseTransient_pending (fs : Nat) (d : Word) (s : State) : (s.raiseTransient fs d).pending = s.pending := State.raiseAt_pending ..

/-! raiseCond -/

@[simp] theorem State.raiseCond_beat (fs : Nat) (d : Word) (s : State) : (s.raiseCond fs d).beat = s.beat := State.raiseAt_beat ..
@[simp] theorem State.raiseCond_mem (fs : Nat) (d : Word) (s : State) : (s.raiseCond fs d).mem = s.mem := State.raiseAt_mem ..
@[simp] theorem State.raiseCond_meas (fs : Nat) (d : Word) (s : State) : (s.raiseCond fs d).meas = s.meas := State.raiseAt_meas ..
@[simp] theorem State.raiseCond_integ (fs : Nat) (d : Word) (s : State) : (s.raiseCond fs d).integ = s.integ := State.raiseAt_integ ..
@[simp] theorem State.raiseCond_bal (fs : Nat) (d : Word) (s : State) : (s.raiseCond fs d).bal = s.bal := State.raiseAt_bal ..
@[simp] theorem State.raiseCond_imp (fs : Nat) (d : Word) (s : State) : (s.raiseCond fs d).imp = s.imp := State.raiseAt_imp ..
@[simp] theorem State.raiseCond_chg (fs : Nat) (d : Word) (s : State) : (s.raiseCond fs d).chg = s.chg := State.raiseAt_chg ..
@[simp] theorem State.raiseCond_lim (fs : Nat) (d : Word) (s : State) : (s.raiseCond fs d).lim = s.lim := State.raiseAt_lim ..
@[simp] theorem State.raiseCond_cha (fs : Nat) (d : Word) (s : State) : (s.raiseCond fs d).cha = s.cha := State.raiseAt_cha ..
@[simp] theorem State.raiseCond_chb (fs : Nat) (d : Word) (s : State) : (s.raiseCond fs d).chb = s.chb := State.raiseAt_chb ..
@[simp] theorem State.raiseCond_safe (fs : Nat) (d : Word) (s : State) : (s.raiseCond fs d).safe = s.safe := State.raiseAt_safe ..
@[simp] theorem State.raiseCond_core (fs : Nat) (d : Word) (s : State) : (s.raiseCond fs d).core = s.core := State.raiseAt_core ..
@[simp] theorem State.raiseCond_fltShown (fs : Nat) (d : Word) (s : State) : (s.raiseCond fs d).fltShown = s.fltShown := State.raiseAt_fltShown ..
@[simp] theorem State.raiseCond_thm (fs : Nat) (d : Word) (s : State) : (s.raiseCond fs d).thm = s.thm := State.raiseAt_thm ..
@[simp] theorem State.raiseCond_ring (fs : Nat) (d : Word) (s : State) : (s.raiseCond fs d).ring = s.ring := State.raiseAt_ring ..
@[simp] theorem State.raiseCond_can1 (fs : Nat) (d : Word) (s : State) : (s.raiseCond fs d).can1 = s.can1 := State.raiseAt_can1 ..
@[simp] theorem State.raiseCond_can2 (fs : Nat) (d : Word) (s : State) : (s.raiseCond fs d).can2 = s.can2 := State.raiseAt_can2 ..
@[simp] theorem State.raiseCond_pwr (fs : Nat) (d : Word) (s : State) : (s.raiseCond fs d).pwr = s.pwr := State.raiseAt_pwr ..
@[simp] theorem State.raiseCond_xtalA (fs : Nat) (d : Word) (s : State) : (s.raiseCond fs d).xtalA = s.xtalA := State.raiseAt_xtalA ..
@[simp] theorem State.raiseCond_xtalB (fs : Nat) (d : Word) (s : State) : (s.raiseCond fs d).xtalB = s.xtalB := State.raiseAt_xtalB ..
@[simp] theorem State.raiseCond_pre (fs : Nat) (d : Word) (s : State) : (s.raiseCond fs d).pre = s.pre := State.raiseAt_pre ..
@[simp] theorem State.raiseCond_pending (fs : Nat) (d : Word) (s : State) : (s.raiseCond fs d).pending = s.pending := State.raiseAt_pending ..

/-! follow -/

@[simp] theorem State.follow_beat (fs : Nat) (d : Word) (now : Bool) (s : State) : (State.follow fs d now s).beat = s.beat := by
  simp only [State.follow]; split
  · simp
  · split <;> simp
@[simp] theorem State.follow_mem (fs : Nat) (d : Word) (now : Bool) (s : State) : (State.follow fs d now s).mem = s.mem := by
  simp only [State.follow]; split
  · simp
  · split <;> simp
@[simp] theorem State.follow_meas (fs : Nat) (d : Word) (now : Bool) (s : State) : (State.follow fs d now s).meas = s.meas := by
  simp only [State.follow]; split
  · simp
  · split <;> simp
@[simp] theorem State.follow_integ (fs : Nat) (d : Word) (now : Bool) (s : State) : (State.follow fs d now s).integ = s.integ := by
  simp only [State.follow]; split
  · simp
  · split <;> simp
@[simp] theorem State.follow_bal (fs : Nat) (d : Word) (now : Bool) (s : State) : (State.follow fs d now s).bal = s.bal := by
  simp only [State.follow]; split
  · simp
  · split <;> simp
@[simp] theorem State.follow_imp (fs : Nat) (d : Word) (now : Bool) (s : State) : (State.follow fs d now s).imp = s.imp := by
  simp only [State.follow]; split
  · simp
  · split <;> simp
@[simp] theorem State.follow_chg (fs : Nat) (d : Word) (now : Bool) (s : State) : (State.follow fs d now s).chg = s.chg := by
  simp only [State.follow]; split
  · simp
  · split <;> simp
@[simp] theorem State.follow_lim (fs : Nat) (d : Word) (now : Bool) (s : State) : (State.follow fs d now s).lim = s.lim := by
  simp only [State.follow]; split
  · simp
  · split <;> simp
@[simp] theorem State.follow_cha (fs : Nat) (d : Word) (now : Bool) (s : State) : (State.follow fs d now s).cha = s.cha := by
  simp only [State.follow]; split
  · simp
  · split <;> simp
@[simp] theorem State.follow_chb (fs : Nat) (d : Word) (now : Bool) (s : State) : (State.follow fs d now s).chb = s.chb := by
  simp only [State.follow]; split
  · simp
  · split <;> simp
@[simp] theorem State.follow_safe (fs : Nat) (d : Word) (now : Bool) (s : State) : (State.follow fs d now s).safe = s.safe := by
  simp only [State.follow]; split
  · simp
  · split <;> simp
@[simp] theorem State.follow_core (fs : Nat) (d : Word) (now : Bool) (s : State) : (State.follow fs d now s).core = s.core := by
  simp only [State.follow]; split
  · simp
  · split <;> simp
@[simp] theorem State.follow_fltShown (fs : Nat) (d : Word) (now : Bool) (s : State) : (State.follow fs d now s).fltShown = s.fltShown := by
  simp only [State.follow]; split
  · simp
  · split <;> simp
@[simp] theorem State.follow_thm (fs : Nat) (d : Word) (now : Bool) (s : State) : (State.follow fs d now s).thm = s.thm := by
  simp only [State.follow]; split
  · simp
  · split <;> simp
@[simp] theorem State.follow_ring (fs : Nat) (d : Word) (now : Bool) (s : State) : (State.follow fs d now s).ring = s.ring := by
  simp only [State.follow]; split
  · simp
  · split <;> simp
@[simp] theorem State.follow_can1 (fs : Nat) (d : Word) (now : Bool) (s : State) : (State.follow fs d now s).can1 = s.can1 := by
  simp only [State.follow]; split
  · simp
  · split <;> simp
@[simp] theorem State.follow_can2 (fs : Nat) (d : Word) (now : Bool) (s : State) : (State.follow fs d now s).can2 = s.can2 := by
  simp only [State.follow]; split
  · simp
  · split <;> simp
@[simp] theorem State.follow_pwr (fs : Nat) (d : Word) (now : Bool) (s : State) : (State.follow fs d now s).pwr = s.pwr := by
  simp only [State.follow]; split
  · simp
  · split <;> simp
@[simp] theorem State.follow_xtalA (fs : Nat) (d : Word) (now : Bool) (s : State) : (State.follow fs d now s).xtalA = s.xtalA := by
  simp only [State.follow]; split
  · simp
  · split <;> simp
@[simp] theorem State.follow_xtalB (fs : Nat) (d : Word) (now : Bool) (s : State) : (State.follow fs d now s).xtalB = s.xtalB := by
  simp only [State.follow]; split
  · simp
  · split <;> simp
@[simp] theorem State.follow_pre (fs : Nat) (d : Word) (now : Bool) (s : State) : (State.follow fs d now s).pre = s.pre := by
  simp only [State.follow]; split
  · simp
  · split <;> simp
@[simp] theorem State.follow_pending (fs : Nat) (d : Word) (now : Bool) (s : State) : (State.follow fs d now s).pending = s.pending := by
  simp only [State.follow]; split
  · simp
  · split <;> simp

/-- The status of a source after a raise, over the state in which the W1C writes that became active before it have acted (R14,
R365-R370). -/
theorem State.raiseAt_src (k : RaiseKind) (one : Bool) (fs : Nat) (d b : Word) (s : State) :
    (s.raiseAt k one fs d b).flt.src = (s.w1cNow fs).flt.src.set fs
      (let t := s.w1cNow fs
       let c := !(k == .transient) || (t.on .TR_EV fs && (t.flt.src[fs]?.getD {}).ev.head? != some b)
       let y := (t.flt.src[fs]?.getD {}).raised (k == .transient) one c (t.lasts reactSafe fs) (t.nat .N fs) b
       if (c && !(t.flt.src[fs]?.getD {}).sevp && severe (t.nat .N fs) (t.nat .W fs) b y.ev) = true then y.onset else y) := by
  simp only [State.raiseAt, State.react_src, State.openReport_flt, FltS.handle_src]
  split <;> split <;> rfl

/-- The source's latch, counts and presence after a raise (R365-R367). -/
theorem State.raiseAt_entry (k : RaiseKind) (one : Bool) (fs : Nat) (d b : Word) (s : State) (x : FsSrc)
    (hx : x = (s.w1cNow fs).flt.src[fs]?.getD {}) :
    ∃ y : FsSrc, (s.raiseAt k one fs d b).flt.src = (s.w1cNow fs).flt.src.set fs y ∧ y.latch = true ∧ y.last = b ∧
      y.events = (if (k == .transient) = true then x.events else incSat 65535 x.events) ∧
      y.trans = (if (k == .transient) = true then incSat 65535 x.trans else x.trans) ∧
      y.first = (if x.latch = true then x.first else b) ∧
      y.cond = x.cond ∧
      y.till = (if (one && !(k == .transient)) = true then some b else x.till) := by
  subst hx
  refine ⟨_, State.raiseAt_src k one fs d b s, ?_⟩
  dsimp only
  split <;> simp only [FsSrc.onset, FsSrc.raised, and_self]

end Sys2Proof.Machine
end

