-- ==== Sys2Proof/Laws/Fifo.lean ====
section
/-! SUPPORT. What an entry into a FIFO of R26 can do, what sending a frame leaves alone, and the write check of the memory protection
unit (R26, R27, R30, R392). -/

namespace Sys2Proof.Machine

/-! FIFOs: each push takes the item, or drops it with the FIFO's source -/

/-- XS_AQ with room takes the frame. -/
theorem State.aqPush_fits {p : RPort} {l : List Byte} {s : State} (h : s.aqLeft p + l.length ≤ 4096) :
    s.aqPush p l = (s.setRing fun r => { r with ports := r.ports.modify p.ix fun x =>
      { x with aq := s.aqLeft p + l.length, aqAt := s.beat.offNs } }, true) := by
  simp [State.aqPush, Nat.not_lt.2 h]

/-- XS_AQ without room drops the frame. -/
theorem State.aqPush_full {p : RPort} {l : List Byte} {s : State} (h : 4096 < s.aqLeft p + l.length) :
    s.aqPush p l = (s.raise 71 0, false) := by
  simp [State.aqPush, h]

/-- XS_QA takes a received frame whole or drops it whole. -/
theorem State.rxPush_cases (p : RPort) (l : List Byte) (s : State) :
    (s.rxBytes p + l.length ≤ 4096 ∧ s.rxPush p l = s.setRing fun r => { r with rx := r.rx ++ [{ port := p, bytes := l }] }) ∨
    (4096 < s.rxBytes p + l.length ∧ s.rxPush p l = s.raise 71 0) := by
  unfold State.rxPush
  split
  · exact .inl ⟨‹_›, rfl⟩
  · exact .inr ⟨by omega, rfl⟩

/-- XS_QB is emptied by a channel that works, holds what fits while its cores are halted, and drops the rest. -/
theorem State.qbPush_cases (s : State) :
    (∃ n, s.qbPush = s.setRing fun r => { r with qb := n }) ∨ s.qbPush = s ∨ (2048 < s.ring.qb + qbBytes ∧ s.qbPush = s.raise 71 0) := by
  unfold State.qbPush
  split
  · exact .inl ⟨0, rfl⟩
  · split
    · exact .inr (.inl rfl)
    · split
      · exact .inl ⟨s.ring.qb + qbBytes, rfl⟩
      · exact .inr (.inr ⟨by omega, rfl⟩)

/-- XS_CA and XS_CB take a telegram of a channel that runs, or drop it. -/
theorem State.telPush_cases (x : TelIn) (c : Ch) (s : State) :
    (s.runs c = false ∧ s.telPush x c = s) ∨
    (s.runs c = true ∧ s.telFits c x.port = true ∧ s.telPush x c = s.setChan c fun y => { y with telIn := y.telIn ++ [x] }) ∨
    (s.runs c = true ∧ s.telFits c x.port = false ∧ s.telPush x c = s.raise 72 0) := by
  unfold State.telPush
  cases h : s.runs c <;> cases g : s.telFits c x.port <;> simp

/-- XS_CA is emptied by a channel that works, holds a frame that fits while its cores are halted, and drops the rest. -/
theorem State.caPush_cases (p : CPort) (s : State) :
    (∃ n, s.caPush p = s.setCan p fun c => { c with ca := n }) ∨ s.caPush p = s ∨
    (∃ k, s.caPush p = s.setCan p fun c => { c with ca := c.ca + k }) ∨ s.caPush p = s.raise 72 0 := by
  unfold State.caPush
  split
  · exact .inl ⟨0, rfl⟩
  · split
    · exact .inr (.inl rfl)
    · split
      · exact .inr (.inr (.inl ⟨1, rfl⟩))
      · exact .inr (.inr (.inr rfl))

/-! Sending -/

/-- Fields that a frame sent never touches. -/
theorem State.sendRaw_fields (p : RPort) (l : List Byte) (bad : Bool) (s : State) :
    (s.sendRaw p l bad).beat = s.beat ∧ (s.sendRaw p l bad).cha = s.cha ∧ (s.sendRaw p l bad).chb = s.chb ∧
      (s.sendRaw p l bad).pending = s.pending := by
  unfold State.sendRaw
  split <;> exact ⟨rfl, rfl, rfl, rfl⟩

theorem State.aqPush_fields (p : RPort) (l : List Byte) (s : State) :
    (s.aqPush p l).1.beat = s.beat ∧ (s.aqPush p l).1.cha = s.cha ∧ (s.aqPush p l).1.chb = s.chb ∧
      (s.aqPush p l).1.pending = s.pending := by
  unfold State.aqPush
  split
  · simp
  · exact ⟨rfl, rfl, rfl, rfl⟩

/-- One port of a frame sent. -/
theorem State.sendStep_fields (p : RPort) (l : List Byte) (t : State) :
    let u := if !t.portUp p then t else let x := t.aqPush p l; if x.2 then x.1.sendRaw p l false else x.1
    u.beat = t.beat ∧ u.cha = t.cha ∧ u.chb = t.chb ∧ u.pending = t.pending := by
  obtain ⟨a1, a2, a3, a4⟩ := State.aqPush_fields p l t
  obtain ⟨b1, b2, b3, b4⟩ := State.sendRaw_fields p l false (t.aqPush p l).1
  dsimp only
  split
  · exact ⟨rfl, rfl, rfl, rfl⟩
  · split
    · exact ⟨b1.trans a1, b2.trans a2, b3.trans a3, b4.trans a4⟩
    · exact ⟨a1, a2, a3, a4⟩

/-- A frame sent changes neither the beat, nor a channel, nor the queue. -/
theorem State.sendFrame_fields (ps : List RPort) (h : RHdr) (body : List Byte) (s : State) :
    (s.sendFrame ps h body).beat = s.beat ∧ (s.sendFrame ps h body).cha = s.cha ∧ (s.sendFrame ps h body).chb = s.chb ∧
      (s.sendFrame ps h body).pending = s.pending := by
  have key : ∀ (l : List RPort) (t : State), let u := l.foldl (fun t p => if !t.portUp p then t
      else let x := t.aqPush p (s.frame p h body); if x.2 then x.1.sendRaw p (s.frame p h body) false else x.1) t
      u.beat = t.beat ∧ u.cha = t.cha ∧ u.chb = t.chb ∧ u.pending = t.pending := by
    intro l
    induction l with
    | nil => exact fun t => ⟨rfl, rfl, rfl, rfl⟩
    | cons p l ih =>
      intro t
      obtain ⟨a1, a2, a3, a4⟩ := State.sendStep_fields p (s.frame p h body) t
      obtain ⟨b1, b2, b3, b4⟩ := ih (if !t.portUp p then t
        else let x := t.aqPush p (s.frame p h body); if x.2 then x.1.sendRaw p (s.frame p h body) false else x.1)
      exact ⟨b1.trans a1, b2.trans a2, b3.trans a3, b4.trans a4⟩
  exact key ps s

/-- A port that is not UP sends nothing. -/
theorem State.sendFrame_down {p : RPort} {s : State} (hp : s.portUp p = false) (h : RHdr) (body : List Byte) :
    s.sendFrame [p] h body = s := by
  simp [State.sendFrame, hp]

/-- A port that is UP and has room sends the frame. -/
theorem State.sendFrame_up {p : RPort} {s : State} {h : RHdr} {body : List Byte} (hp : s.portUp p = true)
    (hr : s.aqLeft p + (s.frame p h body).length ≤ 4096) :
    s.sendFrame [p] h body = (s.aqPush p (s.frame p h body)).1.sendRaw p (s.frame p h body) false := by
  simp [State.sendFrame, hp, State.aqPush_fits hr]

/-! The memory protection unit -/

/-- A plane's write passes where the plane runs on that die and owns the address, and is blocked with FS7 elsewhere. -/
theorem State.planeWrite_cases (ch : Ch) (p : Party) (a : Nat) (s : State) :
    ((planesOf ch).contains p = true ∧ mayWrite ch p a = true ∧ s.planeWrite ch p a = s) ∨
    (((planesOf ch).contains p && mayWrite ch p a) = false ∧ s.planeWrite ch p a = s.raise 7 0) := by
  unfold State.planeWrite
  cases h : (planesOf ch).contains p <;> cases g : mayWrite ch p a <;> simp

end Sys2Proof.Machine
end

