-- ==== Sys2Proof/WellFormed.lean ====
section
/-! DEFINITION. Which operands a command may carry: the ranges the manual gives to what comes from outside. -/

namespace Sys2Proof

/-- A raw sample of 22 bits for a cell, of 24 bits for a current or an HV channel (R138). -/
def Raw.fits (bits : Nat) (r : Raw) : Bool :=
  decide (-(2 ^ (bits - 1) : Int) ≤ r.x) && decide (r.x < 2 ^ (bits - 1))

/-- Optional samples of the given width. -/
def rawsFit (bits : Nat) (l : List (Option Raw)) : Bool :=
  l.all fun o => match o with
    | some r => r.fits bits
    | none => true

/-- Optional window contents of the given width, one to eight raw samples each (R88, R138). -/
def winFits (bits : Nat) (l : List (Option WinRaw)) : Bool :=
  l.all fun o => match o with
    | some w => decide (1 ≤ w.xs.length) && decide (w.xs.length ≤ 8) && w.xs.all fun x => Raw.fits bits ⟨x, false⟩
    | none => true

/-- What a sub-beat delivers: 96 cells and switch currents, 8 coils and readbacks (R18, R82). -/
def SubBeatIn.wf (o : SubBeatIn) : Bool :=
  o.cells.length == 96 && o.ib.length == 96 && o.coil.length == 8 && o.coilL.length == 8 && o.rbH.length == 8 && o.rbL.length == 8
    && rawsFit 22 o.cells && rawsFit 24 [o.i1, o.i2]

/-- What a window delivers: 96 cells, 2 currents, 4 HV channels, 24 check conversions of even codes (R138, R146). -/
def WindowIn.wf (o : WindowIn) : Bool :=
  o.cells.length == 96 && o.ib.length == 96 && o.cur.length == 2 && o.hv.length == 4 && o.chk.length == 24
    && winFits 22 o.cells && winFits 24 o.cur && winFits 24 o.hv
    && o.chk.all fun c => match c with
      | some x => decide (-131072 ≤ x) && decide (x ≤ 131071) && x % 4 == 0
      | none => true

/-- A beat is 980 to 1,020 µs long: 196,000 to 204,000 CLK_A cycles (R84). -/
def BoundaryIn.wf (o : BoundaryIn) : Bool :=
  decide (196000 ≤ o.period) && decide (o.period ≤ 204000) && rawsFit 24 [o.slow1, o.slow2]

/-- Number of data bytes of a DLC code: 0 to 8, then the FD lengths (R447 gives codes 10 to 15). -/
def dlcLen (d : BitVec 4) : Nat :=
  if d.toNat ≤ 8 then d.toNat else [12, 16, 20, 24, 32, 48, 64].getD (d.toNat - 9) 64

/-- A CAN frame carries the bytes of its DLC, none when it is a remote frame (R428). -/
def CanFrame.wf (f : CanFrame) : Bool :=
  if f.rtr then f.data.isEmpty && !f.fdf
  else f.data.length == (if f.fdf then dlcLen f.dlc else min 8 f.dlc.toNat)

/-- A command whose operands lie in the ranges the manual gives them. -/
def Instr.wf : Instr → Bool
  | .beatBoundary o => o.wf
  | .subBeat o => o.wf
  | .windowClose _ o => o.wf
  | .hostBurstRead _ _ _ _ b => decide (1 ≤ b.n) && decide (b.n ≤ 256)
  | .hostBurstWrite _ _ _ _ ws => decide (1 ≤ ws.length) && decide (ws.length ≤ 256)
  | .canFrameReceive _ f _ => f.wf
  | .safeTelegramReceive _ f => f.wf
  | .referenceReceive f _ _ => f.wf
  | .calReceive f _ _ => f.wf
  | .canWake _ _ _ f => f.all CanFrame.wf
  | .memoryReadRetry m w _ => decide (w < (if m = .mram then 524288 else 131072))
  | .ringFrameReceive _ b _ => decide (20 ≤ b.length)
  | _ => true

end Sys2Proof
end

