-- ==== Sys2Proof/Laws/PerInstr.lean ====
section
/-! SUPPORT. What the well-formedness check admits, command by command. -/

namespace Sys2Proof.Laws.WellFormed

/-- The operands a command admits, as propositions: the ranges of R18, R82, R84, R88, R138, R428; every command not named takes
any operands. -/
def operandsOk : Instr → Prop
  | .beatBoundary o => 196000 ≤ o.period ∧ o.period ≤ 204000 ∧ rawsFit 24 [o.slow1, o.slow2] = true
  | .subBeat o => (o.cells.length = 96 ∧ o.ib.length = 96) ∧ (o.coil.length = 8 ∧ o.coilL.length = 8 ∧ o.rbH.length = 8 ∧ o.rbL.length = 8) ∧
    rawsFit 22 o.cells = true ∧ rawsFit 24 [o.i1, o.i2] = true
  | .windowClose _ o => (o.cells.length = 96 ∧ o.ib.length = 96 ∧ o.cur.length = 2 ∧ o.hv.length = 4 ∧ o.chk.length = 24) ∧
    (winFits 22 o.cells = true ∧ winFits 24 o.cur = true ∧ winFits 24 o.hv = true) ∧
    ∀ x : Int, some x ∈ o.chk → -131072 ≤ x ∧ x ≤ 131071 ∧ x % 4 = 0
  | .hostBurstRead _ _ _ _ b => 1 ≤ b.n ∧ b.n ≤ 256
  | .hostBurstWrite _ _ _ _ ws => 1 ≤ ws.length ∧ ws.length ≤ 256
  | .canFrameReceive _ f _ => f.wf = true
  | .safeTelegramReceive _ f => f.wf = true
  | .referenceReceive f _ _ => f.wf = true
  | .calReceive f _ _ => f.wf = true
  | .canWake _ _ _ f => ∀ x, f = some x → x.wf = true
  | .memoryReadRetry m w _ => w < if m = .mram then 524288 else 131072
  | .ringFrameReceive _ b _ => 20 ≤ b.length
  | _ => True

/-- The check holds exactly for the operands the manual admits. -/
def Statement (i : Instr) : Prop := i.wf = true ↔ operandsOk i

theorem beatBoundary (o : BoundaryIn) : Statement (.beatBoundary o) := by
  simp [Statement, operandsOk, Instr.wf, BoundaryIn.wf, and_assoc]
theorem subBeat (o : SubBeatIn) : Statement (.subBeat o) := by
  simp [Statement, operandsOk, Instr.wf, SubBeatIn.wf, and_assoc]
theorem windowClose (w : Fin 4) (o : WindowIn) : Statement (.windowClose w o) := by
  simp only [Statement, operandsOk, Instr.wf, WindowIn.wf, Bool.and_eq_true, beq_iff_eq, List.all_eq_true, and_assoc]
  iterate 8 refine and_congr_right fun _ => ?_
  refine ⟨fun h x hx => by simpa [and_assoc] using h _ hx, fun h c hc => ?_⟩
  cases c with
  | none => rfl
  | some x => simpa [and_assoc] using h x hc
theorem balancingGate (w : Fin 4) : Statement (.balancingGate w) := iff_of_true rfl trivial
theorem evaluation (usA usB : Nat) : Statement (.evaluation usA usB) := iff_of_true rfl trivial
theorem beatOverrun (ch : Ch) : Statement (.beatOverrun ch) := iff_of_true rfl trivial
theorem crossComparison (recA recB : Bool) : Statement (.crossComparison recA recB) := iff_of_true rfl trivial
theorem syncRisingEdge (ofs interval : Nat) (dev : Int) : Statement (.syncRisingEdge ofs interval dev) := iff_of_true rfl trivial
theorem syncFallingEdge (ofs : Nat) : Statement (.syncFallingEdge ofs) := iff_of_true rfl trivial
theorem enterAcquiring : Statement (.enterAcquiring) := iff_of_true rfl trivial
theorem enterLocked : Statement (.enterLocked) := iff_of_true rfl trivial
theorem enterHoldover : Statement (.enterHoldover) := iff_of_true rfl trivial
theorem beatSourceLost : Statement (.beatSourceLost) := iff_of_true rfl trivial
theorem srcSelWrite (path : Path) (v : BitVec 2) : Statement (.srcSelWrite path v) := iff_of_true rfl trivial
theorem sbOfsResync : Statement (.sbOfsResync) := iff_of_true rfl trivial
theorem rplStart (path : Path) (bank rawCell : Bool) : Statement (.rplStart path bank rawCell) := iff_of_true rfl trivial
theorem rplStop (path : Path) : Statement (.rplStop path) := iff_of_true rfl trivial
theorem replayRecord (bytes : List Byte) : Statement (.replayRecord bytes) := iff_of_true rfl trivial
theorem replayBeat : Statement (.replayBeat) := iff_of_true rfl trivial
theorem rplOutRead (path : Path) : Statement (.rplOutRead path) := iff_of_true rfl trivial
theorem cfgOpen (path : Path) (key : BitVec 8) : Statement (.cfgOpen path key) := iff_of_true rfl trivial
theorem cfgVerify (path : Path) (key : BitVec 8) : Statement (.cfgVerify path key) := iff_of_true rfl trivial
theorem verifyComplete : Statement (.verifyComplete) := iff_of_true rfl trivial
theorem cfgCommit (path : Path) (key : BitVec 8) : Statement (.cfgCommit path key) := iff_of_true rfl trivial
theorem commitDigestComplete : Statement (.commitDigestComplete) := iff_of_true rfl trivial
theorem cfgConfirm (path : Path) (key : BitVec 8) : Statement (.cfgConfirm path key) := iff_of_true rfl trivial
theorem cfgRollback (path : Path) (key : BitVec 8) : Statement (.cfgRollback path key) := iff_of_true rfl trivial
theorem cfgAbort (path : Path) (key : BitVec 8) : Statement (.cfgAbort path key) := iff_of_true rfl trivial
theorem otpKey (path : Path) (key : BitVec 8) : Statement (.otpKey path key) := iff_of_true rfl trivial
theorem cfgWdataWrite (path : Path) (data : Word) : Statement (.cfgWdataWrite path data) := iff_of_true rfl trivial
theorem crownSwitchChange (second : Bool) : Statement (.crownSwitchChange second) := iff_of_true rfl trivial
theorem crownDisagreement : Statement (.crownDisagreement) := iff_of_true rfl trivial
theorem trialCheckpoint : Statement (.trialCheckpoint) := iff_of_true rfl trivial
theorem trialExpiry : Statement (.trialExpiry) := iff_of_true rfl trivial
theorem revertReset : Statement (.revertReset) := iff_of_true rfl trivial
theorem bankErase (bank : Bool) : Statement (.bankErase bank) := iff_of_true rfl trivial
theorem thermistorConversion (vals : List (Option (BitVec 16))) (retried : BitVec 4) (die : List (Option Int)) : Statement (.thermistorConversion vals retried die) := iff_of_true rfl trivial
theorem insulationCycleStart (peOhm : Nat) : Statement (.insulationCycleStart peOhm) := iff_of_true rfl trivial
theorem insulationPhaseChange : Statement (.insulationPhaseChange) := iff_of_true rfl trivial
theorem referenceSwitchClose : Statement (.referenceSwitchClose) := iff_of_true rfl trivial
theorem insulationResult : Statement (.insulationResult) := iff_of_true rfl trivial
theorem measSnap (path : Path) (on : Bool) : Statement (.measSnap path on) := iff_of_true rfl trivial
theorem loReadLatch (path : Path) (r : LatchReg) : Statement (.loReadLatch path r) := iff_of_true rfl trivial
theorem openWirePass : Statement (.openWirePass) := iff_of_true rfl trivial
theorem openWireSlot (seg : Fin 4) : Statement (.openWireSlot seg) := iff_of_true rfl trivial
theorem openWireSuspect (seg : Fin 4) (pin : Fin 25) : Statement (.openWireSuspect seg pin) := iff_of_true rfl trivial
theorem targetedSlot (seg : Fin 4) : Statement (.targetedSlot seg) := iff_of_true rfl trivial
theorem openWireGraceExpiry (seg : Fin 4) (pin : Fin 25) : Statement (.openWireGraceExpiry seg pin) := iff_of_true rfl trivial
theorem openWireClear (seg : Fin 4) (pin : Fin 25) : Statement (.openWireClear seg pin) := iff_of_true rfl trivial
theorem checkDisagreement (cell : Fin 96) : Statement (.checkDisagreement cell) := iff_of_true rfl trivial
theorem sumMismatch : Statement (.sumMismatch) := iff_of_true rfl trivial
theorem linkRetry (seg : Fin 4) (ch : Ch) (item : LinkItem) (ok : Bool) : Statement (.linkRetry seg ch item ok) := iff_of_true rfl trivial
theorem memoryReadRetry (mem : Mem) (word : Nat) (ok : Bool) : Statement (.memoryReadRetry mem word ok) := by
  show _ = true ↔ _
  simp [operandsOk, Instr.wf]
theorem scrub (mem : Mem) (symbols : Nat) : Statement (.scrub mem symbols) := iff_of_true rfl trivial
theorem balTimeout : Statement (.balTimeout) := iff_of_true rfl trivial
theorem switchOvercurrent (cell : Fin 96) : Statement (.switchOvercurrent cell) := iff_of_true rfl trivial
theorem switchNoCurrent (cell : Fin 96) : Statement (.switchNoCurrent cell) := iff_of_true rfl trivial
theorem switchConductsOff (cell : Fin 96) : Statement (.switchConductsOff cell) := iff_of_true rfl trivial
theorem wireCalStart (path : Path) (key : BitVec 8) : Statement (.wireCalStart path key) := iff_of_true rfl trivial
theorem wireCalAbort (path : Path) (key : BitVec 8) : Statement (.wireCalAbort path key) := iff_of_true rfl trivial
theorem wireCalComplete : Statement (.wireCalComplete) := iff_of_true rfl trivial
theorem excitationRunStart : Statement (.excitationRunStart) := iff_of_true rfl trivial
theorem excitationToggle : Statement (.excitationToggle) := iff_of_true rfl trivial
theorem excitationRunStop : Statement (.excitationRunStop) := iff_of_true rfl trivial
theorem impedanceBlockEnd (slot : Fin 4) : Statement (.impedanceBlockEnd slot) := iff_of_true rfl trivial
theorem currentRequest : Statement (.currentRequest) := iff_of_true rfl trivial
theorem sweepStart (path : Path) (nf : BitVec 4) : Statement (.sweepStart path nf) := iff_of_true rfl trivial
theorem sweepEnd : Statement (.sweepEnd) := iff_of_true rfl trivial
theorem fullAnchor : Statement (.fullAnchor) := iff_of_true rfl trivial
theorem emptyAnchor : Statement (.emptyAnchor) := iff_of_true rfl trivial
theorem voltageAnchor : Statement (.voltageAnchor) := iff_of_true rfl trivial
theorem anchorStarvation : Statement (.anchorStarvation) := iff_of_true rfl trivial
theorem healthWarningClear : Statement (.healthWarningClear) := iff_of_true rfl trivial
theorem cadenceChange : Statement (.cadenceChange) := iff_of_true rfl trivial
theorem cycleCountStore : Statement (.cycleCountStore) := iff_of_true rfl trivial
theorem swapDetected : Statement (.swapDetected) := iff_of_true rfl trivial
theorem recordSelect : Statement (.recordSelect) := iff_of_true rfl trivial
theorem protClose : Statement (.protClose) := iff_of_true rfl trivial
theorem protOpen : Statement (.protOpen) := iff_of_true rfl trivial
theorem safeAcknowledge : Statement (.safeAcknowledge) := iff_of_true rfl trivial
theorem cmdTelegram (tel : Fin 64) : Statement (.cmdTelegram tel) := iff_of_true rfl trivial
theorem protectionLevelChange : Statement (.protectionLevelChange) := iff_of_true rfl trivial
theorem preClose : Statement (.preClose) := iff_of_true rfl trivial
theorem commitPoint : Statement (.commitPoint) := iff_of_true rfl trivial
theorem preOpen : Statement (.preOpen) := iff_of_true rfl trivial
theorem failureToCloseCheck : Statement (.failureToCloseCheck) := iff_of_true rfl trivial
theorem prechargeTimeout : Statement (.prechargeTimeout) := iff_of_true rfl trivial
theorem prechargeCoolEnd : Statement (.prechargeCoolEnd) := iff_of_true rfl trivial
theorem curfreeTimeout : Statement (.curfreeTimeout) := iff_of_true rfl trivial
theorem negOpen : Statement (.negOpen) := iff_of_true rfl trivial
theorem weldTimeout : Statement (.weldTimeout) := iff_of_true rfl trivial
theorem mirrorCheck (out : Fin 8) : Statement (.mirrorCheck out) := iff_of_true rfl trivial
theorem unrequestedOpening : Statement (.unrequestedOpening) := iff_of_true rfl trivial
theorem coilOvercurrent (out : Fin 8) : Statement (.coilOvercurrent out) := iff_of_true rfl trivial
theorem pullinEnd (out : Fin 8) : Statement (.pullinEnd out) := iff_of_true rfl trivial
theorem coilSupplyLow : Statement (.coilSupplyLow) := iff_of_true rfl trivial
theorem inputChange (inp : Fin 8) (ch : Ch) : Statement (.inputChange inp ch) := iff_of_true rfl trivial
theorem monitorWordMissing (pos : BitVec 8) (ch : Ch) : Statement (.monitorWordMissing pos ch) := iff_of_true rfl trivial
theorem channelLoss (declarer : Ch) : Statement (.channelLoss declarer) := iff_of_true rfl trivial
theorem mutualLoss : Statement (.mutualLoss) := iff_of_true rfl trivial
theorem holdLapse (out : Fin 8) (side : Side) : Statement (.holdLapse out side) := iff_of_true rfl trivial
theorem rundownWarning : Statement (.rundownWarning) := iff_of_true rfl trivial
theorem rundownExpiry : Statement (.rundownExpiry) := iff_of_true rfl trivial
theorem testPulse : Statement (.testPulse) := iff_of_true rfl trivial
theorem testPulseEnd (during : List (Level × Level)) (coilMax : Nat) (restored : Bool) : Statement (.testPulseEnd during coilMax restored) := iff_of_true rfl trivial
theorem inputTestGap (ch : Ch) (levels : BitVec 8) : Statement (.inputTestGap ch levels) := iff_of_true rfl trivial
theorem inputDiscrepancy (inp : Fin 8) : Statement (.inputDiscrepancy inp) := iff_of_true rfl trivial
theorem hostLost : Statement (.hostLost) := iff_of_true rfl trivial
theorem safeTelegramSend (tel : Fin 64) : Statement (.safeTelegramSend tel) := iff_of_true rfl trivial
theorem safeTelegramReceive (port : CPort) (f : CanFrame) : Statement (.safeTelegramReceive port f) := by
  show _ = true ↔ _
  simp [operandsOk, Instr.wf]
theorem pairJudgement (tel : Fin 64) : Statement (.pairJudgement tel) := iff_of_true rfl trivial
theorem telegramLost (tel : Fin 64) : Statement (.telegramLost tel) := iff_of_true rfl trivial
theorem lockstepMismatch (ch : Ch) (cls : Fin 8) : Statement (.lockstepMismatch ch cls) := iff_of_true rfl trivial
theorem coreSplit (ch : Ch) : Statement (.coreSplit ch) := iff_of_true rfl trivial
theorem coreJoin (ch : Ch) : Statement (.coreJoin ch) := iff_of_true rfl trivial
theorem joinCopy (ch : Ch) (flagged : Bool) (missed : Fin 8) : Statement (.joinCopy ch flagged missed) := iff_of_true rfl trivial
theorem debugSessionOpen (ch : Ch) : Statement (.debugSessionOpen ch) := iff_of_true rfl trivial
theorem debuggerWrite (target : DbgTarget) (addr value : Word) (met : DbgAt) : Statement (.debuggerWrite target addr value met) := iff_of_true rfl trivial
theorem debugHalt (edge : HaltIn) : Statement (.debugHalt edge) := iff_of_true rfl trivial
theorem faultRaise (fs : Fin 128) (transient : Bool) (detail : Word) (ofsNs : Nat) : Statement (.faultRaise fs transient detail ofsNs) := iff_of_true rfl trivial
theorem severityExpiry (fs : Fin 128) : Statement (.severityExpiry fs) := iff_of_true rfl trivial
theorem blockResetEnd (blk : Blk) (cal : CalIn) : Statement (.blockResetEnd blk cal) := iff_of_true rfl trivial
theorem handlingClose (path : Path) (key : BitVec 8) : Statement (.handlingClose path key) := iff_of_true rfl trivial
theorem handlingTimeout : Statement (.handlingTimeout) := iff_of_true rfl trivial
theorem resetLoopRelease (path : Path) (key : BitVec 8) : Statement (.resetLoopRelease path key) := iff_of_true rfl trivial
theorem latchClear : Statement (.latchClear) := iff_of_true rfl trivial
theorem fltInj (path : Path) (key : BitVec 8) (full : Bool) (target : BitVec 5) : Statement (.fltInj path key full target) := iff_of_true rfl trivial
theorem injectionResult (flagged : Bool) : Statement (.injectionResult flagged) := iff_of_true rfl trivial
theorem thermalEvaluation : Statement (.thermalEvaluation) := iff_of_true rfl trivial
theorem excursionOutOfRating : Statement (.excursionOutOfRating) := iff_of_true rfl trivial
theorem portUp (p : RPort) : Statement (.portUp p) := iff_of_true rfl trivial
theorem portDown (p : RPort) (fail : LineFail) : Statement (.portDown p fail) := iff_of_true rfl trivial
theorem delayExchange (p : RPort) (sentNs backNs : Nat) : Statement (.delayExchange p sentNs backNs) := iff_of_true rfl trivial
theorem ringFrameReceive (p : RPort) (bytes : List Byte) (markedBad : Bool) : Statement (.ringFrameReceive p bytes markedBad) := by
  show _ = true ↔ _
  simp [operandsOk, Instr.wf]
theorem mfSend : Statement (.mfSend) := iff_of_true rfl trivial
theorem mfReceive (arrivalNs : Int) (phaseErr : Int) : Statement (.mfReceive arrivalNs phaseErr) := iff_of_true rfl trivial
theorem cfSend : Statement (.cfSend) := iff_of_true rfl trivial
theorem cfReceive : Statement (.cfReceive) := iff_of_true rfl trivial
theorem rfSend : Statement (.rfSend) := iff_of_true rfl trivial
theorem rfJudgement (unit : UAddr) : Statement (.rfJudgement unit) := iff_of_true rfl trivial
theorem rrReceive : Statement (.rrReceive) := iff_of_true rfl trivial
theorem enum (path : Path) (key : BitVec 8) : Statement (.enum path key) := iff_of_true rfl trivial
theorem enumeration (arcN arcS : List (UAddr × BitVec 2 × Bool × BitVec 16 × RPort)) (serials : List (UAddr × BitVec 64)) : Statement (.enumeration arcN arcS serials) := iff_of_true rfl trivial
theorem erReceive : Statement (.erReceive) := iff_of_true rfl trivial
theorem masterStartListen : Statement (.masterStartListen) := iff_of_true rfl trivial
theorem standbyTakeover : Statement (.standbyTakeover) := iff_of_true rfl trivial
theorem masterYield : Statement (.masterYield) := iff_of_true rfl trivial
theorem ringStateChange : Statement (.ringStateChange) := iff_of_true rfl trivial
theorem ringSilence : Statement (.ringSilence) := iff_of_true rfl trivial
theorem tfSend : Statement (.tfSend) := iff_of_true rfl trivial
theorem tfReceive : Statement (.tfReceive) := iff_of_true rfl trivial
theorem kfSend : Statement (.kfSend) := iff_of_true rfl trivial
theorem kfReceive : Statement (.kfReceive) := iff_of_true rfl trivial
theorem majorityChange : Statement (.majorityChange) := iff_of_true rfl trivial
theorem coordinatorTakeover : Statement (.coordinatorTakeover) := iff_of_true rfl trivial
theorem canPeriodicQueue (port : CPort) (k : Fin 128) : Statement (.canPeriodicQueue port k) := iff_of_true rfl trivial
theorem objSend (port : CPort) (k : Fin 128) (key : BitVec 8) : Statement (.objSend port k key) := iff_of_true rfl trivial
theorem objCancel (port : CPort) (k : Fin 128) (key : BitVec 8) : Statement (.objCancel port k key) := iff_of_true rfl trivial
theorem canFrameEnd (port : CPort) (k : Fin 128) (how : BusEnd) (ofs : BitVec 16) (loopDelay : Nat) : Statement (.canFrameEnd port k how ofs loopDelay) := iff_of_true rfl trivial
theorem canFrameReceive (port : CPort) (f : CanFrame) (endNs : Nat) : Statement (.canFrameReceive port f endNs) := by
  show _ = true ↔ _
  simp [operandsOk, Instr.wf]
theorem fifoPop (path : Path) (port : CPort) (second : Bool) : Statement (.fifoPop path port second) := iff_of_true rfl trivial
theorem fifoFlush (path : Path) (port : CPort) (key : BitVec 8) (f0 f1 : Bool) : Statement (.fifoFlush path port key f0 f1) := iff_of_true rfl trivial
theorem odata0Read (path : Path) (port : CPort) : Statement (.odata0Read path port) := iff_of_true rfl trivial
theorem canErrorState (port : CPort) (tec rec : Nat) (err : Option (Fin 8 × Bool)) : Statement (.canErrorState port tec rec err) := iff_of_true rfl trivial
theorem busOffRecovery (port : CPort) (recessive : Bool) : Statement (.busOffRecovery port recessive) := iff_of_true rfl trivial
theorem canWake (port : CPort) (pattern bad : Bool) (frame : Option CanFrame) : Statement (.canWake port pattern bad frame) := by
  cases frame with
  | some f => simp [Statement, operandsOk, Instr.wf]
  | none => exact iff_of_true rfl nofun
theorem referenceSend (us cycles : Nat) : Statement (.referenceSend us cycles) := iff_of_true rfl trivial
theorem referenceReceive (f : CanFrame) (interval : Nat) (dev : Int) : Statement (.referenceReceive f interval dev) := by
  show _ = true ↔ _
  simp [operandsOk, Instr.wf]
theorem ttMasterResume : Statement (.ttMasterResume) := iff_of_true rfl trivial
theorem calReceive (f : CanFrame) (calSec : Nat) (calFrac : Nat) : Statement (.calReceive f calSec calFrac) := by
  show _ = true ↔ _
  simp [operandsOk, Instr.wf]
theorem hostRead (rseq : BitVec 8) (unit : BitVec 8) (addr : BitVec 14) : Statement (.hostRead rseq unit addr) := iff_of_true rfl trivial
theorem hostWrite (rseq : BitVec 8) (unit : BitVec 8) (addr : BitVec 14) (data : Word) : Statement (.hostWrite rseq unit addr data) := iff_of_true rfl trivial
theorem hostBurstRead (rseq : BitVec 8) (unit : BitVec 8) (addr : BitVec 14) (fix : Bool) (burst : BurstIn) : Statement (.hostBurstRead rseq unit addr fix burst) := by
  show _ = true ↔ _
  simp [operandsOk, Instr.wf]
theorem hostBurstWrite (rseq : BitVec 8) (unit : BitVec 8) (addr : BitVec 14) (fix : Bool) (words : List Word) : Statement (.hostBurstWrite rseq unit addr fix words) := by
  show _ = true ↔ _
  simp [operandsOk, Instr.wf]
theorem hostCrcError (bytes : List Byte) : Statement (.hostCrcError bytes) := iff_of_true rfl trivial
theorem hostFramingError : Statement (.hostFramingError) := iff_of_true rfl trivial
theorem hostPop (path : Path) (seq : BitVec 16) : Statement (.hostPop path seq) := iff_of_true rfl trivial
theorem remoteAnswer (tag : BitVec 8) (status : BitVec 4) (addr : BitVec 14) (data : Word) : Statement (.remoteAnswer tag status addr data) := iff_of_true rfl trivial
theorem remoteTimeout (tag : BitVec 8) : Statement (.remoteTimeout tag) := iff_of_true rfl trivial
theorem recorderWriteSlot : Statement (.recorderWriteSlot) := iff_of_true rfl trivial
theorem logClear (path : Path) (key : BitVec 8) : Statement (.logClear path key) := iff_of_true rfl trivial
theorem logClearComplete : Statement (.logClearComplete) := iff_of_true rfl trivial
theorem logRd0Read (path : Path) : Statement (.logRd0Read path) := iff_of_true rfl trivial
theorem calendarSet (path : Path) (frac : Word) : Statement (.calendarSet path frac) := iff_of_true rfl trivial
theorem supplyGood (vs : Nat) : Statement (.supplyGood vs) := iff_of_true rfl trivial
theorem interruptionBegin (vs : Nat) : Statement (.interruptionBegin vs) := iff_of_true rfl trivial
theorem interruptionEnd (vs : Nat) : Statement (.interruptionEnd vs) := iff_of_true rfl trivial
theorem powerFailStop (reserve : Bool) : Statement (.powerFailStop reserve) := iff_of_true rfl trivial
theorem nrstAssert (lowUs : Nat) : Statement (.nrstAssert lowUs) := iff_of_true rfl trivial
theorem nrstRelease : Statement (.nrstRelease) := iff_of_true rfl trivial
theorem nrstStuck : Statement (.nrstStuck) := iff_of_true rfl trivial
theorem nrstIgnClear : Statement (.nrstIgnClear) := iff_of_true rfl trivial
theorem pwrListen : Statement (.pwrListen) := iff_of_true rfl trivial
theorem pwrDormant : Statement (.pwrDormant) := iff_of_true rfl trivial
theorem listenTimeout : Statement (.listenTimeout) := iff_of_true rfl trivial
theorem dormantTimeout : Statement (.dormantTimeout) := iff_of_true rfl trivial
theorem listenVsLow (vs : Nat) : Statement (.listenVsLow vs) := iff_of_true rfl trivial
theorem dormantStackLow (vstkMv : Nat) : Statement (.dormantStackLow vstkMv) := iff_of_true rfl trivial
theorem wake (sources : BitVec 7) : Statement (.wake sources) := iff_of_true rfl trivial
theorem startSequence (o : StartIn) : Statement (.startSequence o) := iff_of_true rfl trivial
theorem startStepEnd (ms : Nat) : Statement (.startStepEnd ms) := iff_of_true rfl trivial
theorem moduleReset : Statement (.moduleReset) := iff_of_true rfl trivial
theorem pmcSelWrite (path : Path) (i : Fin 16) (src : BitVec 6) : Statement (.pmcSelWrite path i src) := iff_of_true rfl trivial
theorem pmcSnap (path : Path) (on : Bool) : Statement (.pmcSnap path on) := iff_of_true rfl trivial
theorem histCopy (unit : BitVec 8) (words : List (Nat × Word)) : Statement (.histCopy unit words) := iff_of_true rfl trivial
theorem histRestore (path : Path) (key : BitVec 8) : Statement (.histRestore path key) := iff_of_true rfl trivial
theorem histImport (path : Path) (key : BitVec 8) : Statement (.histImport path key) := iff_of_true rfl trivial
theorem histWinAccess (path : Path) (wr : Option Word) : Statement (.histWinAccess path wr) := iff_of_true rfl trivial
theorem registerWrite (path : Path) (addr : BitVec 14) (data : Word) : Statement (.registerWrite path addr data) := iff_of_true rfl trivial
theorem crownAgreement : Statement (.crownAgreement) := iff_of_true rfl trivial
theorem crystalFailure (ch : Ch) : Statement (.crystalFailure ch) := iff_of_true rfl trivial

end Sys2Proof.Laws.WellFormed
end

