-- ==== Sys2Proof/Tests/Slice0.lean ====
section
/-! SUPPORT. Own tests: a concrete state and operands for the hypotheses of every statement, the ill-formed terms that the
well-formedness check refuses, worked examples of the manual and a few single steps. -/

set_option linter.unusedVariables false
namespace Sys2Proof.Tests
set_option Elab.async false
open Sys2Proof.Machine

/-- A module that runs: Active, in the first beat, its boundary settled. -/
def live : State := { pwr.state := .active, beat.running := true, beat.bStage := 1 }

/-- An image with these parameter records at unit address 0. -/
def img (l : List ImgRec) : Option Image := some { recs := l }

/-- One parameter record. -/
def prm (p : Param) (i : Nat) (v : Int) : ImgRec := ⟨p, i, [v]⟩

/-- A frame on the CAN bus. -/
def fr (id : BitVec 29) (dlc : BitVec 4) (l : List Byte) : CanFrame :=
  { ide := false, id := id, fdf := true, brs := true, esi := false, rtr := false, dlc := dlc, data := l, ofs := 0 }

/-- A safe telegram of 14 bytes from source 0, number 0. -/
def tele : List Byte := List.replicate 10 0 ++ bytesOf 4 (crc32c (List.replicate 14 0))

/-- The same telegram with its RD bit set. -/
def teleRd : List Byte :=
  let l := List.replicate 3 0 ++ [1] ++ List.replicate 6 0
  l ++ bytesOf 4 (crc32c (List.replicate 4 0 ++ l))

/-- A string that a close request may close. -/
def closable : State :=
  { live with
    ring.active := true, cfg.image := img [], pwr.vk := 16000, pre.permitA := true, pre.permitB := true,
    meas.shown.hv := List.replicate 4 { code := 16000, valid := true } }

/-- A bank whose digest is right over the smallest extent. -/
def digestBank : Bank :=
  { state := .verified
    cells := (15, 128) :: ((List.range 32).zip
      [113, 86, 35, 208, 168, 33, 9, 1, 127, 116, 232, 222, 0, 191, 91, 112, 11, 198, 193, 97,
       202, 64, 60, 222, 185, 160, 155, 101, 146, 104, 183, 121]).filterMap fun x => if x.2 = 0 then none else some (32 + x.1, x.2) }

/-- A good insulation cycle. -/
def isoGood : IsoCycle :=
  { sums := [(2000000, 3200000, 100), (2000000, 3200000, 100), (800000, 3200000, 100), (800000, 3200000, 100)] }

/-- A beat whose work is done. -/
def quiet : State := { live with beat.doneA := some 900, beat.doneB := some 900, beat.eStage := 37, safe.x.done := true }

/-- Observations with nothing remarkable. -/
def bnd0 : BoundaryIn := ⟨200000, 0, 65, 0, 0, 24000, false, none, none⟩
def sub0 : SubBeatIn := ⟨none, none, [], [], 0, 0, [], [], [], [], 13000, false⟩
def win0 : WindowIn := ⟨[], [], [], [], [], 0⟩
def start0 : StartIn := { bootFail := 0, missA := none, missB := none, memFail := 0, copiesEqual := true, calCell := [], calChk := [], calCur := [], calHv := [] }

/-- The hypotheses of StepRunsFront can be met, clause by clause. -/
theorem test_hyps_StepRunsFront :
    (∃ (s : State), s.pending = []) :=
  ⟨live, by decide⟩

/-- The hypotheses of BanksCanonical can be met, clause by clause. -/
theorem test_hyps_BanksCanonical :
    (∃ (s t : State), s.banksInv ∧ step s = .next t) :=
  ⟨live, live, by decide, rfl⟩

/-- The hypotheses of BankStore can be met, clause by clause. -/
theorem test_hyps_BankStore :
    (∃ (l : List Host.Cell), ∃ (a b : Nat), ∃ (v : Byte), cellsWf l = true) ∧
    (∃ (l : List Host.Cell), ∃ (bs : List Byte), ∃ (a b : Nat), cellsWf l = true ∧ a + bs.length ≤ bankSize) ∧
    (∃ (l m : List Host.Cell), cellsWf l = true ∧ cellsWf m = true ∧ (∀ a, cellsGet a l = cellsGet a m)) ∧
    (∃ (l : List Host.Cell), ∃ (n i : Nat), cellsWf l = true ∧ i < n) :=
  ⟨⟨[(1, 5)], 1, 2, 7, by decide⟩,
   ⟨[(1, 5)], [1, 0], 1, 2, by decide⟩,
   ⟨[(1, 5)], [(1, 5)], by decide, by decide, fun _ => rfl⟩,
   ⟨[(1, 5)], 4, 3, by decide⟩⟩

/-- The hypotheses of BeatBoundary can be met, clause by clause. -/
theorem test_hyps_BeatBoundary :
    (∃ (s : State), ∃ (o : BoundaryIn), s.pwr.stopping = false ∧ s.beatsOn = true ∧ s.beat.running = false) ∧
    (∃ (s q : State), ∃ (o : BoundaryIn), s.pwr.stopping = false ∧ s.evalOn = true ∧ s.settle.evalOn = true ∧ q =
      s.settle.finishBeat ∧ q.pwr.entry = none ∧ q.cfg.resetDue = none) ∧
    (∃ (s q : State), ∃ (o : BoundaryIn), ∃ (d : Bool), ∃ (k : Nat), s.pwr.stopping = false ∧ s.evalOn = true ∧ s.settle.evalOn
      = true ∧ q = s.settle.finishBeat ∧ q.pwr.entry = some (d, k) ∧ q.pwr.wakeLatch = 0) ∧
    (∃ (s q : State), ∃ (o : BoundaryIn), ∃ (c : Nat), s.pwr.stopping = false ∧ s.evalOn = true ∧ s.settle.evalOn = true ∧ q =
      s.settle.finishBeat ∧ q.pwr.entry = none ∧ q.cfg.resetDue = some c ∧ q.beat.running = true) ∧
    (∃ (s : State), ∃ (o : BoundaryIn), s.pwr.stopping = true) ∧
    (∃ (s : State), ∃ (o : BoundaryIn), s.pwr.stopping = false ∧ s.beatsOn = false) :=
  ⟨⟨{ live with beat.running := false }, bnd0, by decide⟩,
   ⟨quiet, quiet.settle.finishBeat, bnd0, by decide +kernel, by decide +kernel, by decide +kernel, rfl, by decide +kernel,
    by decide +kernel⟩,
   ⟨{ quiet with pwr.entry := some (true, 1) }, ({ quiet with pwr.entry := some (true, 1) } : State).settle.finishBeat, bnd0,
    true, 1, by decide +kernel, by decide +kernel, by decide +kernel, rfl, by decide +kernel, by decide +kernel⟩,
   ⟨{ quiet with cfg.resetDue := some 6 }, ({ quiet with cfg.resetDue := some 6 } : State).settle.finishBeat, bnd0, 6,
    by decide +kernel, by decide +kernel, by decide +kernel, rfl, by decide +kernel, by decide +kernel, by decide +kernel⟩,
   ⟨{ live with pwr.stopping := true }, bnd0, by decide⟩,
   ⟨State.reset, bnd0, by decide⟩⟩

/-- The hypotheses of BeatWork can be met, clause by clause. -/
theorem test_hyps_BeatWork :
    (∃ (s : State), ∃ (o : SubBeatIn), s.evalOn = true ∧ s.beat.sub < 16 ∧ s.beat.bStage = 1) ∧
    (∃ (s : State), ∃ (o : SubBeatIn), ∃ (c : Nat), ∃ (q f : Int), ∃ (x : Raw), s.evalOn = true ∧ s.beat.sub < 16 ∧
      s.beat.bStage = 1 ∧ s.works .a = true ∧ s.chg.slow = false ∧ c < 2 ∧ s.curPop c = true ∧ s.meas.failCur.contains c =
      false ∧ s.meas.qA[c]? = some (q, f) ∧ s.curSample .a c (if c = 0 then o.i1 else o.i2) = some x ∧ q.natAbs < 2 ^ 62 ∧
      x.x.natAbs < 2 ^ 62 ∧ 0 ≤ f ∧ f < 16) ∧
    (∃ (s : State), ∃ (o : SubBeatIn), s.evalOn = true ∧ s.beat.sub = 16 ∧ s.pwr.intr = none ∧ 13000 ≤ o.vs) ∧
    (∃ (s : State), ∃ (o : SubBeatIn), ((s.pwr.state = .listen ∨ s.pwr.state = .dormant ∨ s.pwr.state = .off ∨ s.pwr.state =
      .held)) ∧ s.beat.sub = 0) ∧
    (∃ (s : State), ∃ (w : Fin 4), ∃ (o : WindowIn), ∃ (x : WinS), s.edgeWaits w = false ∧ s.winOpen w = true ∧
      s.beat.wins[w.val]? = some x) ∧
    (∃ (s : State), ∃ (w : Fin 4), ∃ (o : WindowIn), ∃ (x : WinS), s.edgeWaits w = true ∧ s.beat.wins[w.val]? = some x ∧
      x.rejected = false ∧ x.closed = false) ∧
    (∃ (s : State), ∃ (w : Fin 4), ∃ (o : WindowIn), s.edgeWaits w = false ∧ s.winOpen w = false) ∧
    (∃ (s : State), ∃ (a b : Nat), s.evalOn = true ∧ s.beat.doneA = none ∧ s.beat.evalWait = none ∧ s.beat.bStage = 1 ∧
      s.beat.eStage ≤ 37 ∧ s.debugHalted .a = false ∧ s.debugHalted .b = false) ∧
    (∃ (s : State), ∃ (a b : Nat), s.evalOn = true ∧ s.beat.doneA = none ∧ s.beat.evalWait = none ∧ s.beat.bStage = 1 ∧
      (s.debugHalted .a = true ∨ s.debugHalted .b = true)) ∧
    (∃ (s : State), ∃ (a b u : Nat), (s.evalOn = false ∨ s.beat.doneA = some u ∨ s.beat.evalWait = some (a, b))) :=
  ⟨⟨{ live with beat.sub := 15 }, sub0, by decide⟩,
   ⟨{ live with cfg.image := img [prm .R_SH 1 100000], meas.qA := [(5, 3), (0, 0)] }, { sub0 with i1 := some { x := 33 } }, 0,
    5, 3, { x := 33 }, by decide⟩,
   ⟨{ live with beat.sub := 16 }, { sub0 with vs := 13000 }, by decide⟩,
   ⟨{ live with pwr.state := .listen }, { sub0 with vs := 12999 }, by decide⟩,
   ⟨{ live with beat.wins := List.replicate 4 { placed := true }, cfg.image := img [prm .EN 3 1] }, 3, win0,
    { placed := true }, by decide⟩,
   ⟨{ live with cfg.image := img [prm .EN 3 1, prm .MODE 3 2] }, 3, win0, {}, by decide⟩,
   ⟨live, 0, win0, by decide⟩,
   ⟨live, 980, 981, by decide⟩,
   ⟨{ live with core.dbg := some .a, core.dbgHalt := true }, 980, 981, by decide⟩,
   ⟨{ live with beat.doneA := some 5 }, 1, 2, 5, by decide⟩⟩

/-- The hypotheses of SyncEdges can be met, clause by clause. -/
theorem test_hyps_SyncEdges :
    (∃ (s : State), ∃ (ofs interval : Nat), ∃ (dev : Int), s.ownBeat = true ∧ s.beat.srcSel = 1 ∧ s.beat.riseBeat = true ∧
      ((s.beat.lock ≠ .locked ∨ dev.natAbs ≤ 5000)) ∧ 196000 ≤ interval ∧ interval ≤ 204000) ∧
    (∃ (s : State), ∃ (ofs interval : Nat), ∃ (dev : Int), s.ownBeat = true ∧ s.beat.srcSel = 1 ∧ s.beat.riseBeat = true ∧
      ((interval < 196000 ∨ 204000 < interval ∨ (s.beat.lock = .locked ∧ 5000 < dev.natAbs)))) ∧
    (∃ (s : State), ∃ (ofs interval : Nat), ∃ (dev : Int), (s.ownBeat = false ∨ s.beat.srcSel ≠ 1 ∨ s.beat.riseBeat = false)) ∧
    (∃ (s : State), ∃ (ofs w : Nat), ∃ (x : WinS), s.beat.fallWin = true ∧ w < 4 ∧ s.beat.wins[w]? = some x ∧ s.edgeWaits w =
      true ∧ usTicks (s.winOfs w) < 100 * ofs) ∧
    (∃ (s : State), ∃ (ofs w : Nat), s.beat.fallWin = true ∧ s.beat.wins.length = 4 ∧ (∀ v < 4, s.edgeWaits v = true → 100 * ofs
      ≤ usTicks (s.winOfs v)) ∧ w < 4 ∧ s.edgeWaits w = true ∧ (∀ v < w, s.edgeWaits v = false)) ∧
    (∃ (s : State), ∃ (ofs : Nat), s.beat.fallWin = true ∧ s.beat.wins.length = 4 ∧ (∀ v < 4, s.edgeWaits v = true → usTicks
      (s.winOfs v) < 100 * ofs)) ∧
    (∃ (s : State), ∃ (ofs : Nat), s.beat.fallWin = false) :=
  ⟨⟨{ live with beat.srcSel := 1, beat.riseBeat := true }, 10, 196000, 0, by decide⟩,
   ⟨{ live with beat.srcSel := 1, beat.riseBeat := true, beat.lock := .locked }, 10, 200000, 5001, by decide⟩,
   ⟨live, 10, 5, 0, by decide⟩,
   ⟨{ live with beat.fallWin := true, cfg.image := img [prm .EN 1 1, prm .MODE 1 2, prm .OFS 1 900] }, 36865, 1, {}, by decide⟩,
   ⟨{ live with beat.fallWin := true, cfg.image := img [prm .EN 1 1, prm .MODE 1 2, prm .OFS 1 900] }, 36864, 1, by decide⟩,
   ⟨{ live with beat.fallWin := true, cfg.image := img [prm .EN 1 1, prm .MODE 1 2, prm .OFS 1 900] }, 36865, by decide⟩,
   ⟨live, 0, by decide⟩⟩

/-- The hypotheses of BeatSource (LockTransitions) can be met, clause by clause. -/
theorem test_hyps_LockTransitions :
    (∃ (s : State), s.beat.lock = .free ∧ (s.beat.srcSel ≠ 0 ∨ s.ownBeat = false) ∧ s.beat.validRefs = 4) ∧
    (∃ (s : State), (s.beat.lock ≠ .free ∨ s.beat.validRefs ≠ 4 ∨ (s.beat.srcSel = 0 ∧ s.ownBeat = true))) ∧
    (∃ (s : State), ((s.beat.lock = .acquiring ∧ 8 ≤ s.beat.phaseOk) ∨ (s.beat.lock = .holdover ∧ (s.beat.refSeen = true ∨
      s.beat.refLast = true))) ∧ ((s.ownBeat = true ∨ s.beat.sbMarked = true ∨ s.beat.sbnSeen = none))) ∧
    (∃ (s : State), ∃ (x : Word), ((s.beat.lock = .acquiring ∧ 8 ≤ s.beat.phaseOk) ∨ (s.beat.lock = .holdover ∧ (s.beat.refSeen
      = true ∨ s.beat.refLast = true))) ∧ s.ownBeat = false ∧ s.beat.sbMarked = false ∧ s.beat.sbnSeen = some x) ∧
    (∃ (s : State), (s.beat.lock = .free ∨ s.beat.lock = .locked ∨ (s.beat.lock = .acquiring ∧ s.beat.phaseOk < 8) ∨
      (s.beat.lock = .holdover ∧ s.beat.refSeen = false ∧ s.beat.refLast = false))) ∧
    (∃ (s : State), s.beat.lock = .locked ∧ s.beat.refLast = false ∧ s.beat.refSeen = false ∧ s.beat.bStage = 0) ∧
    (∃ (s : State), (s.beat.lock ≠ .locked ∨ s.beat.refLast = true ∨ s.beat.refSeen = true)) ∧
    (∃ (s : State), s.beat.lock = .holdover ∧ s.beat.refSeen = false ∧ s.beat.holdover.toNat ≤ s.beat.holdBeats ∧ s.beat.bStage
      = 0) ∧
    (∃ (s : State), (s.beat.lock ≠ .holdover ∨ s.beat.refSeen = true ∨ s.beat.holdBeats < s.beat.holdover.toNat)) ∧
    (∃ (b : BeatS), b.lock = .free ∧ 196000 ≤ b.length ∧ b.length ≤ 204000) ∧
    (∃ (b : BeatS), b.lock = .free ∧ 196000 ≤ b.length ∧ b.length ≤ 204000 ∧ 199600 ≤ b.length ∧ b.length ≤ 200400) ∧
    (∃ (b : BeatS), (b.lock = .holdover ∨ (b.lock = .locked ∧ b.refLast = false))) ∧
    (∃ (b : BeatS), ∃ (i : Nat), b.lock = .locked ∧ b.refLast = true ∧ b.intervals.head? = some i ∧ 196000 ≤ i ∧ i ≤ 204000) ∧
    (∃ (b : BeatS), b.lock = .acquiring ∧ b.intervals ≠ []) :=
  ⟨⟨{ live with beat.srcSel := 1, beat.validRefs := 4 }, by decide⟩,
   ⟨{ live with beat.validRefs := 4 }, by decide⟩,
   ⟨{ live with beat.lock := .holdover, beat.refLast := true }, by decide⟩,
   ⟨{ live with ring.role := 1, beat.lock := .acquiring, beat.phaseOk := 8, beat.sbnSeen := some 7 }, 7, by decide⟩,
   ⟨{ live with beat.lock := .acquiring, beat.phaseOk := 7 }, by decide⟩,
   ⟨{ live with beat.lock := .locked, beat.bStage := 0 }, by decide⟩,
   ⟨{ live with beat.lock := .locked, beat.refLast := true }, by decide⟩,
   ⟨{ live with beat.lock := .holdover, beat.bStage := 0, beat.holdover := 16, beat.holdBeats := 16 }, by decide⟩,
   ⟨{ live with beat.lock := .holdover, beat.holdover := 16, beat.holdBeats := 15 }, by decide⟩,
   ⟨{ length := 204000 }, by decide⟩,
   ⟨{ length := 199600 }, by decide⟩,
   ⟨{ lock := .locked, length := 199000 }, by decide⟩,
   ⟨{ lock := .locked, refLast := true, intervals := [196000], phaseErr := 900 }, 196000, by decide⟩,
   ⟨{ lock := .acquiring, intervals := [204000, 204000], phaseErr := -9000 }, by decide⟩⟩

/-- The hypotheses of BeatSource (SourceWriteResyncOverrun) can be met, clause by clause. -/
theorem test_hyps_SourceWriteResyncOverrun :
    (∃ (s : State), ∃ (p : Path), ∃ (v : BitVec 2), v ≠ 3) ∧
    (∃ (s : State), ∃ (x : Word), s.beat.bStage = 0 ∧ s.ownBeat = false ∧ 3 ≤ s.beat.sbnDiff ∧ s.beat.sbnSeen = some x) ∧
    (∃ (s : State), (s.beat.sbnDiff < 3 ∨ s.ownBeat = true ∨ s.beat.sbnSeen = none)) ∧
    (∃ (s : State), ∃ (ch : Ch), ∃ (us : Nat), s.runs ch = true ∧ (match ch with | .a => s.beat.doneA | .b => s.beat.doneB) =
      some us ∧ 980 < us ∧ s.srcWhole ∧ (s.fs (if ch = .a then 3 else 4)).till ≠ some (s.beat.num + 1)) ∧
    (∃ (s : State), ∃ (ch : Ch), (s.runs ch = false ∨ (∀ us, (match ch with | .a => s.beat.doneA | .b => s.beat.doneB) = some us
      → us ≤ 980))) :=
  ⟨⟨live, .host, 2, by decide⟩,
   ⟨{ live with ring.role := 1, beat.bStage := 0, beat.sbnDiff := 3, beat.sbnSeen := some 7 }, 7, by decide⟩,
   ⟨{ live with ring.role := 1, beat.sbnDiff := 3 }, by decide⟩,
   ⟨{ live with beat.doneB := some 981 }, .b, 981, by decide +kernel⟩,
   ⟨live, .a, .inr fun us h => nomatch h⟩⟩

/-- The hypotheses of FaultRaise can be met, clause by clause. -/
theorem test_hyps_FaultRaise :
    (∃ (s : State), ∃ (fs : Fin 128), ∃ (tr : Bool), ∃ (d : Word), ∃ (ofs : Nat), fs.val < 75 ∧ s.srcWhole) ∧
    (∃ (s : State), ∃ (fs : Nat), fs ∉ s.flt.w1cLatch) ∧
    (∃ (s : State), ∃ (fs : Nat), fs ∈ s.flt.w1cLatch ∧ (s.fs fs).pres = true) ∧
    (∃ (s : State), ∃ (fs : Nat), fs ∈ s.flt.w1cLatch ∧ (s.fs fs).pres = false) ∧
    (∃ (s : State), ∃ (fs : Fin 128), ∃ (tr : Bool), ∃ (d : Word), ∃ (ofs : Nat), 75 ≤ fs.val) :=
  ⟨⟨{ live with flt.hopen := true }, 74, false, 5, 100, by decide +kernel⟩,
   ⟨live, 74, by decide⟩,
   ⟨{ live with flt.w1cLatch := [74], flt.src := (List.replicate 128 {}).set 74 { latch := true, cond := true } }, 74,
    by decide⟩,
   ⟨{ live with flt.w1cLatch := [74], flt.src := (List.replicate 128 {}).set 74 { latch := true } }, 74, by decide⟩,
   ⟨live, 75, false, 5, 100, by decide⟩⟩

/-- The hypotheses of FaultRelease (FaultStatusClears) can be met, clause by clause. -/
theorem test_hyps_FaultStatusClears :
    (∃ (s : State), ∃ (fs : Fin 128), s.srcWhole ∧ (s.fs fs).sevp = true ∧ severe (s.nat .N fs) (s.nat .W fs) s.beat.num (s.fs
      fs).ev = false) ∧
    (∃ (s : State), ∃ (fs : Fin 128), ((s.fs fs).sevp = false ∨ severe (s.nat .N fs) (s.nat .W fs) s.beat.num (s.fs fs).ev =
      true)) ∧
    (∃ (s : State), ∃ (b : Blk), ∃ (c : CalIn), (∀ p, b ≠ .can p) ∧ (∀ g, b ≠ .segment g) ∧ (b, 0) ∈ s.flt.blk) ∧
    (∃ (s : State), ∃ (p : CPort), ∃ (c : CalIn), (.can p, 0) ∈ s.flt.blk) ∧
    (∃ (s : State), ∃ (b : Blk), ∃ (c : CalIn), (∀ n, (b, n) ∈ s.flt.blk → n ≠ 0 ∧ ∀ g, b = .segment g → 50 ≤ n)) ∧
    (∃ (s : State), ∃ (g : Fin 4), ∃ (c : CalIn), ∃ (n : Nat), (.segment g, n) ∈ s.flt.blk ∧ n < 50) ∧
    (∃ (s : State), ∃ (p : Path), ∃ (k : BitVec 8), k ≠ 0xC3) :=
  ⟨⟨{ live with flt.src := (List.replicate 128 {}).set 3 { sevp := true } }, 3, by decide +kernel⟩,
   ⟨live, 127, by decide⟩,
   ⟨{ live with flt.blk := [(.hostRx, 0)] }, .hostRx, {}, by intro p; cases p <;> decide, by intro g; exact nofun, by decide⟩,
   ⟨{ live with flt.blk := [(.can .can2, 0)], can2.state := .active }, .can2, {}, by decide⟩,
   ⟨{ live with flt.blk := [(.hostRx, 1)] }, .hostRx, {}, by intro n h; simp at h; exact ⟨by omega, fun g => nofun⟩⟩,
   ⟨{ live with flt.blk := [(.segment 3, 49)] }, 3, { cell := List.replicate 72 (0, 0) ++ [(1001, 0)] }, 49, by decide⟩,
   ⟨live, .host, 0xC2, by decide⟩⟩

/-- The hypotheses of FaultRelease (HandlingSequence) can be met, clause by clause. -/
theorem test_hyps_HandlingSequence :
    (∃ (s : State), ∃ (p : Path), ∃ (i : Instr), ∃ (c : Nat), s.flt.hopen = true ∧ ((i = .handlingClose p 0xC3 ∧ c = 1) ∨ (i =
      .handlingTimeout ∧ c = 2 ∧ s.nat .FLT_HOLD ≤ (s.beat.num - s.flt.hlast).toNat))) ∧
    (∃ (s : State), ∃ (p : Path), s.flt.hopen = true) ∧
    (∃ (s : State), s.flt.hopen = true ∧ s.nat .FLT_HOLD ≤ (s.beat.num - s.flt.hlast).toNat) ∧
    (∃ (s : State), ∃ (p : Path), ∃ (k : BitVec 8), (k ≠ 0xC3 ∨ s.flt.hopen = false)) ∧
    (∃ (s : State), (s.flt.hopen = false ∨ (s.beat.num - s.flt.hlast).toNat < s.nat .FLT_HOLD)) :=
  ⟨⟨{ live with flt.hopen := true, flt.hmerge := [5, 3] }, .host, .handlingClose .host 0xC3, 1, by decide⟩,
   ⟨{ live with flt.hopen := true }, .host, by decide⟩,
   ⟨{ live with flt.hopen := true, beat.num := 5, cfg.image := img [prm .FLT_HOLD 0 5] }, by decide⟩,
   ⟨live, .host, 0xC3, by decide⟩,
   ⟨{ live with flt.hopen := true, beat.num := 4, cfg.image := img [prm .FLT_HOLD 0 5] }, by decide⟩⟩

/-- The hypotheses of Injection can be met, clause by clause. -/
theorem test_hyps_Injection :
    (∃ (s : State), ∃ (p : Path), ∃ (full : Bool), ∃ (tg : BitVec 5), s.flt.injRun = none ∧ s.flt.injDue = none ∧ (injSource
      tg.toNat).isSome = true ∧ (full = true → s.parked = true)) ∧
    (∃ (s : State), ∃ (p : Path), ∃ (k : BitVec 8), ∃ (full : Bool), ∃ (tg : BitVec 5), k ≠ 0xC3) ∧
    (∃ (s : State), ∃ (p : Path), ∃ (full : Bool), ∃ (tg : BitVec 5), (s.flt.injRun.isSome = true ∨ s.flt.injDue.isSome = true)) ∧
    (∃ (s : State), ∃ (p : Path), ∃ (full : Bool), ∃ (tg : BitVec 5), s.flt.injRun = none ∧ s.flt.injDue = none ∧ ((tg.toNat = 0
      ∨ tg.toNat = 7 ∨ (16 ≤ tg.toNat ∧ tg.toNat ≤ 23) ∨ 30 ≤ tg.toNat))) ∧
    (∃ (s : State), ∃ (p : Path), ∃ (tg : BitVec 5), s.flt.injRun = none ∧ s.flt.injDue = none ∧ (injSource tg.toNat).isSome =
      true ∧ s.parked = false) ∧
    (∃ (s : State), ∃ (i : InjRun), s.flt.injDue = some i ∧ i.full = true ∧ s.parked = false) ∧
    (∃ (s : State), ∃ (i : InjRun), s.flt.injDue = some i ∧ (i.full = false ∨ s.parked = true)) ∧
    (∃ (s : State), ∃ (i : InjRun), ∃ (ok : Bool), s.flt.injRun = some i ∧ i.seen.getD ok = true ∧ ((i.full = false ∨ i.target =
      29)) ∧ s.fltShown = none ∧ s.beat.running = true) ∧
    (∃ (s : State), ∃ (i : InjRun), ∃ (n : Nat), ∃ (ok : Bool), s.flt.injRun = some i ∧ i.seen.getD ok = true ∧ i.full = true ∧
      i.target ≠ 29 ∧ injSource i.target = some n ∧ s.srcWhole) ∧
    (∃ (s : State), ∃ (i : InjRun), ∃ (n : Nat), ∃ (ok : Bool), s.flt.injRun = some i ∧ i.seen.getD ok = false ∧ injSource
      i.target = some n ∧ s.srcWhole) ∧
    (∃ (s : State), ∃ (b : Bool), s.flt.injRun = none) :=
  ⟨⟨live, .host, true, 1, by decide⟩,
   ⟨live, .host, 0, false, 1, by decide⟩,
   ⟨{ live with flt.injDue := some { target := 1, full := false } }, .host, false, 1, by decide⟩,
   ⟨live, .host, true, 30, by decide⟩,
   ⟨{ live with cha.seq.state := .closed }, .host, 1, by decide⟩,
   ⟨{ live with cha.seq.state := .closed, flt.injDue := some { target := 1, full := true } }, { target := 1, full := true },
    by decide⟩,
   ⟨{ live with flt.injDue := some { target := 29, full := true } }, { target := 29, full := true }, by decide⟩,
   ⟨{ live with flt.injRun := some { target := 29, full := true } }, { target := 29, full := true }, true, by decide⟩,
   ⟨{ live with flt.injRun := some { target := 28, full := true } }, { target := 28, full := true }, 64, true,
    by decide +kernel⟩,
   ⟨{ live with flt.injRun := some { target := 28, full := true, seen := some false } },
    { target := 28, full := true, seen := some false }, 64, true, by decide +kernel⟩,
   ⟨live, true, by decide⟩⟩

/-- The hypotheses of ConfigSession (ConfigRefusals) can be met, clause by clause. -/
theorem test_hyps_ConfigRefusals :
    (∃ (s : State), ∃ (p : Path), ∃ (key : BitVec 8), ∃ (c : Instr), ∃ (n : Nat), (c, n) ∈ cfgCommands p key ∧ key ≠ 0xC3) ∧
    (∃ (s : State), ∃ (p : Path), ∃ (key : BitVec 8), ∃ (c : Instr), ∃ (n : Nat), (c, n) ∈ cfgCommands p key ∧ key = 0xC3 ∧
      s.cfg.work ≠ .none) ∧
    (∃ (s : State), ∃ (p : Path), ∃ (key : BitVec 8), ∃ (c : Instr), ∃ (n : Nat), (c, n) ∈ cfgCommands p key ∧ key = 0xC3 ∧
      s.cfg.work = .none ∧ s.cfg.owner ≠ .none ∧ ownedBy s.cfg.owner p = false) :=
  ⟨⟨live, .host, 0, .cfgOpen .host 0, 1, by decide⟩,
   ⟨{ live with cfg.work := .verify }, .host, 0xC3, .otpKey .host 0xC3, 7, by decide⟩,
   ⟨{ live with cfg.owner := .ring }, .host, 0xC3, .cfgOpen .host 0xC3, 1, by decide⟩⟩

/-- The hypotheses of ConfigSession can be met, clause by clause. -/
theorem test_hyps_ConfigSession :
    (∃ (s : State), ∃ (p : Path), ∃ (b : Bool), s.cfgFree p ∧ s.crowns = true ∧ s.parked = true ∧ s.cfg.image.isSome = true ∧
      (s.cfg.bank b).state = .active ∧ (s.cfg.bank (!b)).state ∈ [BankState.empty, .verified, .previous] ∧ s.replays (!b) =
      false) ∧
    (∃ (s : State), ∃ (p : Path), s.cfgFree p ∧ s.crowns = true ∧ s.parked = true ∧ s.cfg.owner ≠ .none ∧ (s.cfg.bank
      s.cfg.workBank).state = .writing ∧ s.replays s.cfg.workBank = false) ∧
    (∃ (s : State), ∃ (p : Path), ∃ (b : Bool), s.cfg.work = .none ∧ ownedBy s.cfg.owner p = true ∧ (s.cfg.bank b).state ∈
      [BankState.writing, .verified] ∧ (s.cfg.bank (!b)).state ∉ [BankState.writing, .verified]) ∧
    (∃ (s : State), ∃ (p : Path), ∃ (d : Word), s.cfg.work = .none ∧ ownedBy s.cfg.owner p = true ∧ (s.cfg.bank
      s.cfg.workBank).state = .writing ∧ s.cfg.waddr < bankSize ∧ (s.cfg.bank s.cfg.workBank).wf = true) ∧
    (∃ (s : State), ∃ (p : Path), ∃ (d : Word), s.cfg.work ≠ .none) :=
  ⟨⟨{ live with cfg.crw1 := true, cfg.crw2 := true, cfg.image := img [], cfg.bank0.state := .active }, .ring, false, by decide⟩,
   ⟨{ live with cfg.crw1 := true, cfg.crw2 := true, cfg.owner := .host, cfg.bank0.state := .writing }, .host, by decide⟩,
   ⟨{ live with cfg.owner := .ring, cfg.bank0.state := .active, cfg.bank1.state := .writing }, .ring, true, by decide⟩,
   ⟨{ live with cfg.owner := .host, cfg.bank0.state := .writing, cfg.waddr := bankSize - 4 }, .host, 5, by decide⟩,
   ⟨{ live with cfg.work := .verify }, .host, 5, by decide⟩⟩

/-- The hypotheses of ConfigCommit can be met, clause by clause. -/
theorem test_hyps_ConfigCommit :
    (∃ (s : State), s.cfg.work = .verify ∧ s.bankSound s.cfg.workBank = true) ∧
    (∃ (s : State), s.cfg.work ≠ .verify) ∧
    (∃ (s : State), ∃ (p : Path), ∃ (b : Bool), s.cfgFree p ∧ s.crowns = true ∧ s.parked = true ∧ (s.cfg.bank b).state = .active
      ∧ (s.cfg.bank (!b)).state = .verified ∧ s.replays (!b) = false) ∧
    (∃ (s : State), s.cfg.work = .commit ∧ (s.cfg.bank s.cfg.workBank).state = .verified ∧ s.bankSound s.cfg.workBank = true ∧
      digestOk (cellsBytes bankSize (s.cfg.bank s.cfg.workBank).cells) = true) ∧
    (∃ (s : State), s.cfg.work ≠ .commit) ∧
    (∃ (s : State), ∃ (p : Path), ∃ (b : Bool), s.cfgFree p ∧ s.cfg.image.isSome = true ∧ s.cfg.rev = .none ∧ (s.cfg.bank
      b).state = .trial ∧ (s.cfg.bank (!b)).state ≠ .trial ∧ s.fltShown = none ∧ s.beat.running = true) :=
  ⟨⟨{ live with cfg.work := .verify }, by decide⟩,
   ⟨live, by decide⟩,
   ⟨{ live with cfg.crw1 := true, cfg.crw2 := true, cfg.bank0.state := .active, cfg.bank1.state := .verified }, .host, false,
    by decide⟩,
   ⟨{ live with cfg.work := .commit, cfg.bank0 := digestBank }, by decide +kernel⟩,
   ⟨live, by decide⟩,
   ⟨{ live with cfg.image := img [], cfg.bank0.state := .previous, cfg.bank1.state := .trial }, .host, true, by decide⟩⟩

/-- The hypotheses of ConfigRevert can be met, clause by clause. -/
theorem test_hyps_ConfigRevert :
    (∃ (s : State), ∃ (p : Path), ∃ (b : Bool), s.cfgFree p ∧ s.crowns = true ∧ s.cfg.image.isSome = true ∧ s.cfg.rev = .none ∧
      (s.cfg.bank b).state ∈ [BankState.active, .trial] ∧ (s.cfg.bank (!b)).state = .previous) ∧
    (∃ (s : State), s.cfg.image.isSome = true ∧ s.cfg.bank1.state = .trial ∧ s.cfg.trialLimit ≤ s.cfg.trialElapsed ∧ s.cfg.rev =
      .none) ∧
    (∃ (s : State), s.cfg.bank0.state ≠ .trial ∧ s.cfg.bank1.state ≠ .trial) ∧
    (∃ (s : State), s.cfg.image.isSome = true ∧ s.cfg.bank1.state = .trial ∧ s.cfg.trialElapsed % 1000 = 0 ∧ s.cfg.trialElapsed
      ≠ s.cfg.trialSaved) ∧
    (∃ (s : State), s.cfg.trialElapsed % 1000 ≠ 0) ∧
    (∃ (s : State), ∃ (b : Bool), s.cfg.rev = .expiry ∧ s.parked = true ∧ (s.cfg.bank (!b)).state = .previous ∧ (s.cfg.bank
      b).state = .trial ∧ s.cfg.jseq + 1 < 2 ^ 32) ∧
    (∃ (s : State), s.cfg.rev = .none) ∧
    (∃ (s : State), ∃ (p : Path), ∃ (b : Bool), s.cfgFree p ∧ s.crowns = true ∧ s.parked = true ∧ (s.cfg.bank b).state = .active
      ∧ (s.cfg.bank (!b)).state = .verified ∧ imgSigned (cellsBytes bankSize (s.cfg.bank (!b)).cells) = true ∧
      s.cfg.keys.length < 4 ∧ s.replays (!b) = false) :=
  ⟨⟨{ live with cfg.crw1 := true, cfg.crw2 := true, cfg.image := img [], cfg.bank0.state := .active, cfg.bank1.state := .previous },
    .host, false, by decide⟩,
   ⟨{ live with cfg.image := img [], cfg.bank1.state := .trial, cfg.trialLimit := 5, cfg.trialElapsed := 5 }, by decide⟩,
   ⟨live, by decide⟩,
   ⟨{ live with cfg.image := img [], cfg.bank1.state := .trial, cfg.trialElapsed := 1000 }, by decide⟩,
   ⟨{ live with cfg.trialElapsed := 999 }, by decide⟩,
   ⟨{ live with cfg.rev := .expiry, cfg.bank0.state := .previous, cfg.bank1.state := .trial }, true, by decide⟩,
   ⟨live, by decide⟩,
   ⟨{ live with cfg.crw1 := true, cfg.crw2 := true, cfg.bank0.state := .active, cfg.bank1 := { state := .verified, cells := [(19, 1)] } },
    .host, false, by decide⟩⟩

/-- The hypotheses of ConfigRevert (CrownAndErase) can be met, clause by clause. -/
theorem test_hyps_CrownAndErase :
    (∃ (s : State), 10 ≤ s.cfg.crw1Cnt ∧ s.cfg.crw1 = false ∧ s.cfg.crw2 = true ∧ s.cfg.crwOpen = false) ∧
    (∃ (s : State), 10 ≤ s.cfg.crw2Cnt ∧ s.cfg.crw2 = true ∧ s.cfg.owner = .host ∧ s.core.dbg = none ∧ s.core.a.task ≠
      .verification) ∧
    (∃ (s : State), s.cfg.crw1Cnt < 10) ∧
    (∃ (s : State), 50 ≤ s.cfg.crwDiff ∧ s.cfg.crwOpen = false ∧ s.srcWhole ∧ s.cfg.owner = .none ∧ s.core.dbg = none) ∧
    (∃ (s : State), s.cfg.crwDiff < 50) ∧
    (∃ (s : State), s.cfg.crwOpen = true ∧ 10 ≤ s.cfg.crwAgree ∧ s.srcWhole) ∧
    (∃ (s : State), s.cfg.crwAgree < 10) ∧
    (∃ (s : State), ∃ (b : Bool), s.cfg.work = .erase ∧ s.cfg.workBank = b) :=
  ⟨⟨{ live with cfg.crw1Cnt := 10, cfg.crw2 := true }, by decide⟩,
   ⟨{ live with cfg.crw2Cnt := 10, cfg.crw2 := true, cfg.owner := .host }, by decide⟩,
   ⟨{ live with cfg.crw1Cnt := 9 }, by decide⟩,
   ⟨{ live with cfg.crwDiff := 50 }, by decide +kernel⟩,
   ⟨{ live with cfg.crwDiff := 49 }, by decide⟩,
   ⟨{ live with cfg.crwOpen := true, cfg.crwAgree := 10 }, by decide +kernel⟩,
   ⟨{ live with cfg.crwAgree := 9 }, by decide⟩,
   ⟨{ live with cfg.work := .erase, cfg.workBank := true }, true, by decide⟩⟩

/-- The hypotheses of CorePairs can be met, clause by clause. -/
theorem test_hyps_CorePairs :
    (∃ (s : State), ∃ (ch : Ch), ∃ (cls : Fin 8), s.runs ch = true ∧ (s.core.pair ch).pair = .joined ∧ s.srcWhole) ∧
    (∃ (s : State), ∃ (ch : Ch), ∃ (cls : Fin 8), (s.core.pair ch).pair ≠ .joined) ∧
    (∃ (s : State), ∃ (ch : Ch), ∃ (r : CoreReq), s.beat.bStage = 0 ∧ s.core.req = some r ∧ (if ch = .a then r.splitA else
      r.splitB) = true ∧ s.pre.ctlA = .parked ∧ s.pre.ctlB = .parked ∧ s.pre.debug = false ∧ (s.core.pair ch).pair =
      .joined) ∧
    (∃ (s : State), ∃ (ch : Ch), ∃ (r : CoreReq), s.beat.bStage = 0 ∧ s.core.req = some r ∧ (if ch = .a then r.splitA else
      r.splitB) = true ∧ s.pre.ctlA ≠ .parked) ∧
    (∃ (s : State), ∃ (ch : Ch), ∃ (r : CoreReq), s.beat.bStage = 0 ∧ s.core.req = some r ∧ (if ch = .a then r.splitA else
      r.splitB) = true ∧ s.pre.ctlA = .parked ∧ s.pre.ctlB = .parked ∧ s.pre.debug = true) ∧
    (∃ (s : State), ∃ (x : Staged), x.addr = 0x1C00 ∧ keyOf x.data ≠ 0xC3) ∧
    (∃ (s : State), ∃ (x : Staged), x.addr = 0x1C00 ∧ keyOf x.data = 0xC3) ∧
    (∃ (s : State), ∃ (ch : Ch), s.core.req = none) ∧
    (∃ (s : State), ∃ (ch : Ch), ∃ (r : CoreReq), s.beat.bStage = 0 ∧ s.core.req = some r ∧ (if ch = .a then r.joinA else
      r.joinB) = true ∧ (s.core.pair ch).pair = .split ∧ (s.core.pair ch).task = .none ∧ (ch = .a → s.core.swp.state ≠ 1)) ∧
    (∃ (s : State), ∃ (ch : Ch), ∃ (r : CoreReq), s.beat.bStage = 0 ∧ s.core.req = some r ∧ (if ch = .a then r.joinA else
      r.joinB) = true ∧ (s.core.pair ch).pair = .split ∧ (s.core.pair ch).task = .verification) ∧
    (∃ (s : State), ∃ (ch : Ch), ∃ (r : CoreReq), s.beat.bStage = 0 ∧ s.core.req = some r ∧ (if ch = .a then r.joinA else
      r.joinB) = true ∧ (s.core.pair ch).pair = .split ∧ s.core.swp.state ≠ 1 ∧ s.core.rpl.live = true ∧ s.core.a.task =
      .replay ∧ s.core.b.task = .replay) ∧
    (∃ (s : State), ∃ (r : CoreReq), s.beat.bStage = 0 ∧ s.core.req = some r ∧ r.joinA = true ∧ s.core.a.pair = .split ∧
      s.core.a.task = .sweep ∧ s.core.swp.state = 1) ∧
    (∃ (s : State), ∃ (ch : Ch), ∃ (us : Nat), ∃ (x : Fin 8), (s.core.pair ch).pair = .joining ∧ (s.core.pair ch).copied = false
      ∧ s.doneAt ch = some us ∧ us ≤ 959) ∧
    (∃ (s : State), ∃ (ch : Ch), ∃ (us : Nat), ∃ (x : Fin 8), (s.core.pair ch).pair = .joining ∧ (s.core.pair ch).copied = false
      ∧ s.doneAt ch = some us ∧ 959 < us ∧ (s.core.pair ch).defer < 2) ∧
    (∃ (s : State), ∃ (ch : Ch), ∃ (us : Nat), ∃ (x : Fin 8), (s.core.pair ch).pair = .joining ∧ (s.core.pair ch).copied = false
      ∧ s.doneAt ch = some us ∧ 959 < us ∧ 2 ≤ (s.core.pair ch).defer) ∧
    (∃ (s : State), ∃ (ch : Ch), ∃ (us : Nat), ∃ (c : Fin 8), (s.core.pair ch).pair = .joining ∧ (s.core.pair ch).copied = false
      ∧ s.doneAt ch = some us ∧ us ≤ 959 ∧ s.srcWhole) ∧
    (∃ (s : State), ∃ (ch : Ch), ∃ (b : Bool), ∃ (c : Fin 8), ((s.core.pair ch).pair ≠ .joining ∨ s.doneAt ch = none)) :=
  ⟨⟨live, .b, 7, by decide +kernel⟩,
   ⟨{ live with core.a.pair := .split }, .a, 0, by decide⟩,
   ⟨{ live with beat.bStage := 0, core.req := some { splitA := true, splitB := true } }, .b,
    { splitA := true, splitB := true }, by decide⟩,
   ⟨{ live with beat.bStage := 0, pre.ctlA := .closed, core.req := some { splitA := true, splitB := true } }, .a,
    { splitA := true, splitB := true }, by decide⟩,
   ⟨{ live with beat.bStage := 0, pre.debug := true, core.req := some { splitA := true, splitB := true } }, .a,
    { splitA := true, splitB := true }, by decide⟩,
   ⟨live, ⟨.host, 0x1C00, 0x5A01⟩, by decide⟩,
   ⟨live, ⟨.host, 0x1C00, 0xC309⟩, by decide⟩,
   ⟨live, .a, by decide⟩,
   ⟨{ live with beat.bStage := 0, core.a.pair := .split, core.req := some { joinA := true } }, .a, { joinA := true },
    by decide⟩,
   ⟨{ live with beat.bStage := 0, core.a := { pair := .split, task := .verification }, core.req := some { joinA := true, joinB := true } },
    .a, { joinA := true, joinB := true }, by decide⟩,
   ⟨{ live with beat.bStage := 0, core.a := { pair := .split, task := .replay }, core.b := { pair := .split, task := .replay }, core.rpl.state := .running, core.req := some { joinA := true, joinB := true } },
    .b, { joinA := true, joinB := true }, by decide⟩,
   ⟨{ live with beat.bStage := 0, core.a := { pair := .split, task := .sweep }, core.swp.state := 1, core.req := some { joinA := true, joinB := true } },
    { joinA := true, joinB := true }, by decide⟩,
   ⟨{ live with beat.doneA := some 959, core.a.pair := .joining }, .a, 959, 0, by decide⟩,
   ⟨{ live with beat.doneB := some 960, core.b.pair := .joining }, .b, 960, 0, by decide⟩,
   ⟨{ live with beat.doneB := some 960, core.b.pair := .joining, core.b.defer := 2 }, .b, 960, 0, by decide⟩,
   ⟨{ live with beat.doneB := some 959, core.b.pair := .joining }, .b, 959, 7, by decide +kernel⟩,
   ⟨live, .a, true, 0, by decide⟩⟩

/-- The hypotheses of CheckerTasks (DebugAccess) can be met, clause by clause. -/
theorem test_hyps_DebugAccess :
    (∃ (s : State), ∃ (ch : Ch), s.crowns = true ∧ (s.runs .a = true → s.cha.seq.state = .parked) ∧ (s.runs .b = true →
      s.chb.seq.state = .parked) ∧ s.core.dbg = none) ∧
    (∃ (s : State), ∃ (ch : Ch), s.crowns = false) ∧
    (∃ (s : State), ∃ (ch : Ch), ((s.runs .a = true ∧ s.cha.seq.state ≠ .parked) ∨ (s.runs .b = true ∧ s.chb.seq.state ≠
      .parked))) ∧
    (∃ (s : State), ∃ (ch : Ch), ∃ (tg : DbgTarget), ∃ (a v : Word), ∃ (n : Nat), ∃ (sl : Party), s.core.dbg = some ch ∧
      (s.core.pair ch).pair = .joined ∧ tg ≠ .memory ∧ sl ≠ .checker ∧ s.core.log.length < 64 + n) ∧
    (∃ (s : State), ∃ (ch : Ch), ∃ (tg : DbgTarget), ∃ (a v : Word), ∃ (n : Nat), ∃ (sl : Party), s.core.dbg = some ch ∧
      (s.core.pair ch).pair ≠ .joined ∧ tg ≠ .memory ∧ sl ≠ .checker) ∧
    (∃ (s : State), ∃ (ch : Ch), ∃ (a v : Word), ∃ (n : Nat), ∃ (sl : Party), s.core.dbg = some ch ∧ sl ≠ .checker ∧
      ((s.core.pair ch).pair = .joined → s.core.log.length < 64 + n)) ∧
    (∃ (s : State), ∃ (ch : Ch), ∃ (tg : DbgTarget), ∃ (a v : Word), ∃ (n : Nat), ∃ (sl : Party), s.core.dbg = some ch ∧
      (s.core.pair ch).pair = .joined ∧ sl ≠ .checker ∧ 64 + n ≤ s.core.log.length) ∧
    (∃ (s : State), ∃ (tg : DbgTarget), ∃ (a v : Word), ∃ (n : Nat), ∃ (sl : Party), (s.core.dbg = none ∨ sl = .checker)) ∧
    (∃ (s : State), ∃ (ch : Ch), ∃ (ofs : Nat), s.core.dbg = some ch ∧ s.core.dbgHalt = false) ∧
    (∃ (s : State), ∃ (ch : Ch), ∃ (ofs : Nat), s.core.dbg = some ch ∧ s.core.dbgHalt = true) ∧
    (∃ (s : State), ∃ (ch : Ch), ∃ (ofs : Nat), s.core.dbg = some ch ∧ s.core.dbgHalt = false ∧ s.beat.evalWait = none) ∧
    (∃ (b : BeatS), ∃ (us : Nat), b.doneA = some us) ∧
    (∃ (b : BeatS), ∃ (us : Nat), b.doneB = some us) ∧
    (∃ (s : State), ∃ (h : Bool), ∃ (ofs : Nat), s.core.dbg = none) :=
  ⟨⟨{ live with cfg.crw1 := true, cfg.crw2 := true }, .b, by decide⟩,
   ⟨live, .a, by decide⟩,
   ⟨{ live with cfg.crw1 := true, cfg.crw2 := true, chb.seq.state := .closed }, .b, by decide⟩,
   ⟨{ live with core.dbg := some .a, core.log := List.replicate 63 ⟨.csr, 0, 0⟩ }, .a, .coreReg, 4, 5, 0, .data, by decide⟩,
   ⟨{ live with core.dbg := some .b, core.b.pair := .split }, .b, .csr, 4, 5, 0, .control, by decide⟩,
   ⟨{ live with core.dbg := some .a, core.log := List.replicate 64 ⟨.csr, 0, 0⟩ }, .a, 0x20000, 5, 1, .control, by decide⟩,
   ⟨{ live with core.dbg := some .a, core.log := List.replicate 64 ⟨.csr, 0, 0⟩ }, .a, .memory, 4, 5, 0, .management,
    by decide⟩,
   ⟨live, .csr, 0, 0, 0, .data, by decide⟩,
   ⟨{ live with core.dbg := some .a }, .a, 700000, by decide⟩,
   ⟨{ live with core.dbg := some .a, core.dbgHalt := true }, .a, 700000, by decide⟩,
   ⟨{ live with core.dbg := some .a }, .a, 700000, by decide⟩,
   ⟨{ doneA := some 900 }, 900, by decide⟩,
   ⟨{ doneB := some 900 }, 900, by decide⟩,
   ⟨live, true, 0, by decide⟩⟩

/-- The hypotheses of CheckerTasks (Sweep) can be met, clause by clause. -/
theorem test_hyps_Sweep :
    (∃ (s : State), ∃ (p : Path), ∃ (nf : BitVec 4), s.core.a.pair = .split ∧ s.core.a.task = .none ∧ (∀ f ∈
      s.core.swp.freqs.take (nf.toNat + 1), 500 ≤ f.toNat ∧ f.toNat ≤ 2000000)) ∧
    (∃ (s : State), ∃ (p : Path), ∃ (nf : BitVec 4), ((s.core.a.pair ≠ .split ∨ s.core.a.task ≠ .none))) ∧
    (∃ (s : State), s.core.swp.state = 1 ∧ s.core.swp.nf.toNat < s.core.swp.idx ∧ s.core.a.task = .sweep) ∧
    (∃ (s : State), s.core.swp.state = 1 ∧ s.core.swp.idx ≤ s.core.swp.nf.toNat ∧ s.analysisOn = false) ∧
    (∃ (s : State), s.core.swp.state ≠ 1) :=
  ⟨⟨{ live with core.a.pair := .split, core.swp.freqs := [500, 2000000] }, .host, 1, by decide, by decide,
    by intro f hf; simp at hf; rcases hf with rfl | rfl <;> decide⟩,
   ⟨live, .host, 0, by decide⟩,
   ⟨{ live with core.a.task := .sweep, core.swp.state := 1, core.swp.idx := 1 }, by decide⟩,
   ⟨{ live with core.swp.state := 1 }, by decide⟩,
   ⟨live, by decide⟩⟩

/-- The hypotheses of CheckerTasks (Replay) can be met, clause by clause. -/
theorem test_hyps_Replay :
    (∃ (s : State), ∃ (p : Path), ∃ (bank raw : Bool), s.parked = true ∧ s.core.a.pair = .split ∧ s.core.b.pair = .split ∧
      s.core.a.task = .none ∧ s.core.b.task = .none ∧ s.core.rpl.live = false) ∧
    (∃ (s : State), ∃ (p : Path), ∃ (bank raw : Bool), s.core.rpl.live = false ∧ ((s.parked = false ∨ s.core.a.pair ≠ .split ∨
      s.core.b.pair ≠ .split ∨ s.core.a.task ≠ .none ∨ s.core.b.task ≠ .none))) ∧
    (∃ (s : State), ∃ (p : Path), ∃ (bank raw : Bool), s.core.rpl.live = true ∧ s.core.a.task = .replay) ∧
    (∃ (s : State), ∃ (p : Path), s.core.rpl.live = true ∧ s.core.a.task = .replay ∧ s.core.b.task = .replay) ∧
    (∃ (s : State), ∃ (p : Path), s.core.rpl.live = false) ∧
    (∃ (s : State), ∃ (l : List Byte), s.core.rpl.state = .waiting ∧ rplCrcOk l = true) ∧
    (∃ (s : State), ∃ (l : List Byte), s.core.rpl.state = .running ∧ rplCrcOk l = true ∧ rplBeatOf l = s.core.rpl.expect) ∧
    (∃ (s : State), ∃ (l : List Byte), s.core.rpl.live = true ∧ rplCrcOk l = false) ∧
    (∃ (s : State), ∃ (l : List Byte), s.core.rpl.state = .running ∧ rplCrcOk l = true ∧ rplBeatOf l ≠ s.core.rpl.expect) ∧
    (∃ (s : State), ∃ (l : List Byte), s.core.rpl.live = false) ∧
    (∃ (s : State), ∃ (l : List Byte), ∃ (r : List (List Byte)), s.core.rpl.state = .running ∧ s.core.rpl.ready = l :: r ∧
      s.core.rpl.lastRun ≠ some s.beat.num) ∧
    (∃ (s : State), ((s.core.rpl.ready = [] ∨ s.core.rpl.lastRun = some s.beat.num))) :=
  ⟨⟨{ live with core.a.pair := .split, core.b.pair := .split }, .host, false, true, by decide⟩,
   ⟨{ live with cha.seq.state := .safe }, .host, false, true, by decide⟩,
   ⟨{ live with core.a := { pair := .split, task := .replay }, core.b := { pair := .split, task := .replay }, core.rpl.state := .running },
    .host, true, true, by decide⟩,
   ⟨{ live with core.a := { pair := .split, task := .replay }, core.b := { pair := .split, task := .replay }, core.rpl.state := .running },
    .host, by decide⟩,
   ⟨live, .ring, by decide⟩,
   ⟨{ live with core.rpl.state := .waiting }, sealFrame (List.replicate 16 0), by decide +kernel⟩,
   ⟨{ live with core.rpl.state := .running }, sealFrame (List.replicate 16 0), by decide +kernel⟩,
   ⟨{ live with core.rpl.state := .running }, [], by decide⟩,
   ⟨{ live with core.rpl.state := .running, core.rpl.expect := 9 }, sealFrame (List.replicate 16 0), by decide +kernel⟩,
   ⟨live, [], by decide⟩,
   ⟨{ live with core.rpl.state := .running, core.rpl.ready := [[0]] }, [0], [], by decide⟩,
   ⟨live, by decide⟩⟩

/-- The hypotheses of Requests can be met, clause by clause. -/
theorem test_hyps_Requests :
    (∃ (s : State), ∃ (src : ReqSrc), s.beat.bStage = 0 ∧ s.safe.req = some ⟨.close, src⟩ ∧ s.pre.ctlA = .parked ∧ s.pre.ctlB =
      .parked ∧ s.closeCause src = none) ∧
    (∃ (s : State), ∃ (src : ReqSrc), ∃ (k : Nat), s.beat.bStage = 0 ∧ s.safe.req = some ⟨.close, src⟩ ∧ s.pre.ctlA ≠
      .precharging ∧ s.pre.ctlB ≠ .precharging ∧ s.closeCause src = some k ∧ 16000 ≤ s.pwr.vk ∧ s.fltShown = none ∧
      s.beat.running = true) ∧
    (∃ (s : State), ∃ (src : ReqSrc), ∃ (k : Nat), s.beat.bStage = 0 ∧ s.safe.req = some ⟨.close, src⟩ ∧ s.pre.ctlA ≠
      .precharging ∧ s.pre.ctlB ≠ .precharging ∧ s.closeCause src = some k ∧ s.pwr.vk < 16000 ∧ s.srcWhole) ∧
    (∃ (s : State), ∃ (src : ReqSrc), s.beat.bStage = 0 ∧ s.safe.req = some ⟨.close, src⟩ ∧ 16000 ≤ s.pwr.vk ∧ ((s.pre.ctlA =
      .precharging ∨ s.pre.ctlB = .precharging))) ∧
    (∃ (s : State), s.safe.req = none) ∧
    (∃ (s : State), ∃ (src : ReqSrc), ∃ (ch : Ch), s.beat.bStage = 0 ∧ s.safe.req = some ⟨.openReq, src⟩ ∧ s.pre.loss = false ∧
      s.runs ch = true ∧ (((s.chan ch).seq.state = .closed ∨ (s.chan ch).seq.state = .rundown))) ∧
    (∃ (s : State), ∃ (src : ReqSrc), ∃ (ch : Ch), s.beat.bStage = 0 ∧ s.safe.req = some ⟨.openReq, src⟩ ∧ s.pre.loss = false ∧
      s.runs ch = true ∧ (s.chan ch).seq.state = .precharging) ∧
    (∃ (s : State), ∃ (src : ReqSrc), s.beat.bStage = 0 ∧ s.safe.req = some ⟨.openReq, src⟩ ∧ s.pre.loss = true) ∧
    (∃ (s : State), ∃ (src : ReqSrc), s.beat.bStage = 0 ∧ s.safe.req = some ⟨.ack, src⟩ ∧ ((src = .host ∨ src = .ring)) ∧
      (s.cha.shownCond ||| s.chb.shownCond) &&& tripMask = 0 ∧ s.cha.out.safeReq = false ∧ s.chb.out.safeReq = false ∧
      s.cha.hitLast = false ∧ s.chb.hitLast = false ∧ s.cha.seq.state = .safe ∧ s.chb.seq.state = .safe) ∧
    (∃ (s : State), ∃ (src : ReqSrc), s.beat.bStage = 0 ∧ s.safe.req = some ⟨.ack, src⟩ ∧ s.cha.seq.state = .safe ∧
      (((s.cha.shownCond ||| s.chb.shownCond) &&& tripMask ≠ 0 ∨ s.cha.out.safeReq = true ∨ s.chb.out.safeReq = true ∨
      s.cha.hitLast = true ∨ s.chb.hitLast = true ∨ (src ≠ .host ∧ src ≠ .ring)))) :=
  ⟨⟨{ closable with beat.bStage := 0, safe.req := some ⟨.close, .host⟩ }, .host, by decide⟩,
   ⟨{ live with beat.bStage := 0, pre.ctlA := .closed, pwr.vk := 16000, safe.req := some ⟨.close, .host⟩ }, .host, 1,
    by decide⟩,
   ⟨{ live with beat.bStage := 0, pre.ctlA := .closed, pwr.vk := 15999, safe.req := some ⟨.close, .can⟩ }, .can, 1,
    by decide +kernel⟩,
   ⟨{ live with beat.bStage := 0, pre.ctlB := .precharging, pwr.vk := 16000, safe.req := some ⟨.close, .ring⟩ }, .ring,
    by decide⟩,
   ⟨live, by decide⟩,
   ⟨{ live with beat.bStage := 0, safe.req := some ⟨.openReq, .can⟩, cha.seq.state := .closed }, .can, .a, by decide⟩,
   ⟨{ live with beat.bStage := 0, safe.req := some ⟨.openReq, .can⟩, chb.seq.state := .precharging }, .can, .b, by decide⟩,
   ⟨{ live with beat.bStage := 0, pre.loss := true, safe.req := some ⟨.openReq, .host⟩ }, .host, by decide⟩,
   ⟨{ live with beat.bStage := 0, safe.req := some ⟨.ack, .ring⟩, cha.seq.state := .safe, chb.seq.state := .safe }, .ring,
    by decide⟩,
   ⟨{ live with beat.bStage := 0, safe.req := some ⟨.ack, .host⟩, cha.seq.state := .safe, cha.out.safeReq := true }, .host,
    by decide⟩⟩

/-- The hypotheses of CloseCauses can be met, clause by clause. -/
theorem test_hyps_CloseCauses :
    (∃ (s : State), ∃ (src : ReqSrc), ((s.pre.ctlA ≠ .parked ∨ s.pre.ctlB ≠ .parked))) ∧
    (∃ (s : State), ∃ (src : ReqSrc), s.pre.ctlA = .parked ∧ s.pre.ctlB = .parked ∧ s.starting = false ∧ s.pre.session = true) ∧
    (∃ (s : State), ∃ (src : ReqSrc), s.pre.ctlA = .parked ∧ s.pre.ctlB = .parked ∧ s.starting = false ∧ s.pre.session = false ∧
      ((s.pre.joinedA = false ∨ s.pre.joinedB = false))) ∧
    (∃ (s : State), ∃ (src : ReqSrc), s.pre.ctlA = .parked ∧ s.pre.ctlB = .parked ∧ s.starting = false ∧ s.pre.session = false ∧
      ((∃ r, s.core.req = some r ∧ (r.splitA = true ∨ r.splitB = true)))) ∧
    (∃ (s : State), ∃ (src : ReqSrc), s.pre.ctlA = .parked ∧ s.pre.ctlB = .parked ∧ s.starting = false ∧ s.pre.session = false ∧
      s.pre.joinedA = true ∧ s.pre.joinedB = true ∧ s.pre.debug = false ∧ s.core.req = none ∧ s.core.a.pair = .joined ∧
      s.core.b.pair = .joined ∧ ((s.pre.permitA = false ∨ s.pre.permitB = false))) ∧
    (∃ (s : State), ∃ (src : ReqSrc), s.pre.ctlA = .parked ∧ s.pre.ctlB = .parked ∧ s.starting = false ∧ s.pre.session = false ∧
      s.pre.joinedA = true ∧ s.pre.joinedB = true ∧ s.pre.debug = false ∧ s.core.req = none ∧ s.core.a.pair = .joined ∧
      s.core.b.pair = .joined ∧ s.closeCause src = none) ∧
    (∃ (s : State), ∃ (src : ReqSrc), s.pre.ctlA = .parked ∧ s.pre.ctlB = .parked ∧ s.starting = false ∧ s.pre.session = false ∧
      s.pre.joinedA = true ∧ s.pre.joinedB = true ∧ s.pre.debug = false ∧ s.core.req = none ∧ s.core.a.pair = .joined ∧
      s.core.b.pair = .joined ∧ s.pre.permitA = true ∧ s.pre.permitB = true ∧ s.drives = true ∧ s.ring.addrConflict = false
      ∧ s.flt.rloop = false ∧ s.cfg.image.isSome = true ∧ s.cfg.copiesOk = true ∧ (s.fs 28).cond = false ∧ s.pwr.vk < 16000) ∧
    (∃ (s : State), ∃ (src : ReqSrc), s.pre.ctlA = .parked ∧ s.pre.ctlB = .parked ∧ s.starting = false ∧ s.pre.session = false ∧
      s.pre.joinedA = true ∧ s.pre.joinedB = true ∧ s.pre.debug = false ∧ s.core.req = none ∧ s.core.a.pair = .joined ∧
      s.core.b.pair = .joined ∧ s.pre.permitA = true ∧ s.pre.permitB = true ∧ s.drives = true ∧ s.ring.addrConflict = false
      ∧ s.flt.rloop = false ∧ s.cfg.image.isSome = true ∧ s.cfg.copiesOk = true ∧ (s.fs 28).cond = false ∧ 16000 ≤ s.pwr.vk
      ∧ s.pre.latched = true) ∧
    (∃ (s : State), ∃ (src : ReqSrc), s.pre.ctlA = .parked ∧ s.pre.ctlB = .parked ∧ s.starting = false ∧ s.pre.session = false ∧
      s.pre.joinedA = true ∧ s.pre.joinedB = true ∧ s.pre.debug = false ∧ s.core.req = none ∧ s.core.a.pair = .joined ∧
      s.core.b.pair = .joined ∧ s.pre.permitA = true ∧ s.pre.permitB = true ∧ s.drives = true ∧ s.ring.addrConflict = false
      ∧ s.flt.rloop = false ∧ s.cfg.image.isSome = true ∧ s.cfg.copiesOk = true ∧ (s.fs 28).cond = false ∧ 16000 ≤ s.pwr.vk
      ∧ s.pre.latched = false ∧ ((s.hv 0).valid = false ∨ (s.hv 0).code < 16000)) ∧
    (∃ (s : State), ∃ (src : ReqSrc), s.pre.ctlA = .parked ∧ s.pre.ctlB = .parked ∧ s.starting = false ∧ s.pre.session = false ∧
      s.pre.joinedA = true ∧ s.pre.joinedB = true ∧ s.pre.debug = false ∧ s.core.req = none ∧ s.core.a.pair = .joined ∧
      s.core.b.pair = .joined ∧ s.pre.permitA = true ∧ s.pre.permitB = true ∧ s.drives = true ∧ s.ring.addrConflict = false
      ∧ s.flt.rloop = false ∧ s.cfg.image.isSome = true ∧ s.cfg.copiesOk = true ∧ (s.fs 28).cond = false ∧ 16000 ≤ s.pwr.vk
      ∧ s.pre.latched = false ∧ (s.hv 0).valid = true ∧ 16000 ≤ (s.hv 0).code ∧ s.srcEnabled src = false) ∧
    (∃ (s : State), ∃ (src : ReqSrc), s.pre.ctlA = .parked ∧ s.pre.ctlB = .parked ∧ s.starting = false ∧ s.pre.session = false ∧
      s.pre.joinedA = true ∧ s.pre.joinedB = true ∧ s.pre.debug = false ∧ s.core.req = none ∧ s.core.a.pair = .joined ∧
      s.core.b.pair = .joined ∧ s.pre.permitA = true ∧ s.pre.permitB = true ∧ s.drives = true ∧ s.ring.addrConflict = false
      ∧ s.flt.rloop = false ∧ s.cfg.image.isSome = true ∧ s.cfg.copiesOk = true ∧ (s.fs 28).cond = false ∧ 16000 ≤ s.pwr.vk
      ∧ s.pre.latched = false ∧ (s.hv 0).valid = true ∧ 16000 ≤ (s.hv 0).code ∧ s.srcEnabled src = true ∧ (s.pre.trip = true
      ∨ s.pre.loss = true ∨ s.pre.safeReqA = true ∨ s.pre.safeReqB = true ∨ s.pre.openReqA = true ∨ s.pre.openReqB = true)) ∧
    (∃ (s : State), ∃ (src : ReqSrc), s.pre.ctlA = .parked ∧ s.pre.ctlB = .parked ∧ s.starting = false ∧ s.pre.session = false ∧
      s.pre.joinedA = true ∧ s.pre.joinedB = true ∧ s.pre.debug = false ∧ s.core.req = none ∧ s.core.a.pair = .joined ∧
      s.core.b.pair = .joined ∧ s.pre.permitA = true ∧ s.pre.permitB = true ∧ s.drives = true ∧ s.ring.addrConflict = false
      ∧ s.flt.rloop = false ∧ s.cfg.image.isSome = true ∧ s.cfg.copiesOk = true ∧ (s.fs 28).cond = false ∧ 16000 ≤ s.pwr.vk
      ∧ s.pre.latched = false ∧ (s.hv 0).valid = true ∧ 16000 ≤ (s.hv 0).code ∧ s.srcEnabled src = true ∧ s.pre.trip = false
      ∧ s.pre.loss = false ∧ s.pre.safeReqA = false ∧ s.pre.safeReqB = false ∧ s.pre.openReqA = false ∧ s.pre.openReqB =
      false ∧ s.inputOpens .a = false ∧ s.inputOpens .b = false) :=
  ⟨⟨{ live with pre.ctlB := .safe }, .host, by decide⟩,
   ⟨{ live with pre.session := true }, .host, by decide⟩,
   ⟨{ live with pre.joinedB := false }, .can, by decide⟩,
   ⟨{ live with core.req := some { splitB := true } }, .can, by decide, by decide, by decide, by decide, by decide⟩,
   ⟨{ live with pre.permitA := true }, .ring, by decide⟩,
   ⟨closable, .host, by decide⟩,
   ⟨{ closable with pwr.vk := 15999 }, .ring, by decide⟩,
   ⟨{ closable with pre.latched := true }, .esc, by decide⟩,
   ⟨{ closable with meas.shown.hv := List.replicate 4 { code := 15999, valid := true } }, .host, by decide⟩,
   ⟨{ closable with cfg.image := img [prm .REQ_SRC 0 0] }, .host, by decide⟩,
   ⟨{ closable with pre.trip := true }, .host, by decide⟩,
   ⟨closable, .host, by decide⟩⟩

/-- The hypotheses of PrechargeSteps can be met, clause by clause. -/
theorem test_hyps_PrechargeSteps :
    (∃ (s : State), ∃ (ch : Ch), s.beat.bStage = 0 ∧ s.runs ch = true ∧ (s.chan ch).seq.state = .precharging ∧ (s.chan
      ch).seq.step = 1 ∧ 1 + s.nat .T_PULLIN ≤ (s.chan ch).seq.c ∧ (s.chan ch).seq.fail = false) ∧
    (∃ (s : State), ∃ (ch : Ch), s.beat.bStage = 0 ∧ s.runs ch = true ∧ (s.chan ch).seq.state = .precharging ∧ (s.chan
      ch).seq.posCmd = true ∧ s.openWanted ch = false ∧ s.reports ch = true) ∧
    (∃ (s : State), ∃ (ch : Ch), s.beat.bStage = 0 ∧ s.runs ch = true ∧ (s.chan ch).seq.state = .closed ∧ (s.chan ch).seq.step =
      4 ∧ s.nat .T_OVL ≤ (s.chan ch).seq.m) ∧
    (∃ (s : State), ∃ (ch : Ch), s.beat.bStage = 0 ∧ s.runs ch = true ∧ (s.chan ch).seq.state = .precharging ∧ (s.chan
      ch).seq.step = 6 ∧ s.nat .PC_COOL ≤ (s.chan ch).seq.cool) :=
  ⟨⟨{ live with beat.bStage := 0, cha.seq.state := .precharging, cha.seq.step := 1, cha.seq.c := 51 }, .a, by decide⟩,
   ⟨{ live with beat.bStage := 0, cha.seq.state := .precharging, cha.seq.posCmd := true }, .a, by decide⟩,
   ⟨{ live with beat.bStage := 0, chb.seq.state := .closed, chb.seq.step := 4, chb.seq.m := 20 }, .b, by decide⟩,
   ⟨{ live with beat.bStage := 0, chb.seq.state := .precharging, chb.seq.step := 6, chb.seq.cool := 30000 }, .b, by decide⟩⟩

/-- The hypotheses of OpeningSteps can be met, clause by clause. -/
theorem test_hyps_OpeningSteps :
    (∃ (s : State), ∃ (ch : Ch), s.beat.bStage = 0 ∧ s.runs ch = true ∧ (s.chan ch).seq.state = .opening ∧ (s.chan
      ch).seq.posOpen = false ∧ s.nat .T_CURFREE ≤ (s.chan ch).seq.o) ∧
    (∃ (s : State), ∃ (ch : Ch), s.beat.bStage = 0 ∧ s.runs ch = true ∧ (s.chan ch).seq.state = .opening ∧ (s.chan
      ch).seq.posOpen = true ∧ (s.chan ch).seq.w = none ∧ s.nat .T_NEG_DLY ≤ (s.chan ch).seq.k) ∧
    (∃ (s : State), ∃ (ch : Ch), s.beat.bStage = 0 ∧ s.runs ch = true ∧ (s.chan ch).seq.state = .rundown ∧ (s.chan
      ch).seq.rdWarned = false ∧ beatsOfSec (s.nat .RUNDOWN_MAX) - 60000 ≤ (s.chan ch).seq.rd) ∧
    (∃ (s : State), ∃ (ch : Ch), s.beat.bStage = 0 ∧ s.runs ch = true ∧ (s.chan ch).seq.state = .rundown ∧ beatsOfSec (s.nat
      .RUNDOWN_MAX) ≤ (s.chan ch).seq.rd) ∧
    (∃ (s : State), s.beat.bStage = 0 ∧ s.cha.declared = true ∧ s.chb.declared = true ∧ s.cha.applied = true ∧ s.chb.applied =
      true ∧ s.safe.bothLost = false ∧ s.cha.seq.state = .closed ∧ s.chb.seq.state = .rundown) :=
  ⟨⟨{ live with beat.bStage := 0, cha.seq.state := .opening, cha.seq.o := 200 }, .a, by decide⟩,
   ⟨{ live with beat.bStage := 0, chb.seq.state := .opening, chb.seq.posOpen := true, chb.seq.k := 10 }, .b, by decide⟩,
   ⟨{ live with beat.bStage := 0, cha.seq.state := .rundown, cha.seq.rd := 1000, cfg.image := img [prm .RUNDOWN_MAX 0 61] },
    .a, by decide⟩,
   ⟨{ live with beat.bStage := 0, chb.seq.state := .rundown, chb.seq.rd := 61000, cfg.image := img [prm .RUNDOWN_MAX 0 61] },
    .b, by decide⟩,
   ⟨{ live with beat.bStage := 0, cha.declared := true, chb.declared := true, cha.applied := true, chb.applied := true, cha.seq.state := .closed, chb.seq.state := .rundown },
    by decide⟩⟩

/-- The hypotheses of BoundaryOnly can be met, clause by clause. -/
theorem test_hyps_BoundaryOnly :
    (∃ (s : State), ∃ (c : Instr), s.beat.bStage ≠ 0 ∧ c ∈ [Instr.protClose, .protOpen, .safeAcknowledge, .preClose,
      .commitPoint, .preOpen, .prechargeCoolEnd, .curfreeTimeout, .negOpen, .mutualLoss, .rundownWarning, .rundownExpiry,
      .enterHoldover, .beatSourceLost, .sbOfsResync] ++ (List.finRange 8).flatMap (fun n => [Instr.pullinEnd n, .holdLapse n
      .h, .holdLapse n .l]) ++ [Instr.coreSplit .a, .coreSplit .b, .coreJoin .a, .coreJoin .b]) :=
  ⟨live, .coreJoin .b, by decide⟩

/-- The hypotheses of OutputRows can be met, clause by clause. -/
theorem test_hyps_OutputRows :
    (∃ (s : State), ∃ (n : Fin 8), ∃ (x : OutS), s.beat.bStage = 0 ∧ s.safe.out[n.val]? = some x ∧ x.h = true ∧ s.runs .a =
      false ∧ 2 ≤ x.lapseH) ∧
    (∃ (s : State), ∃ (n : Fin 8), ∃ (x : OutS), s.beat.bStage = 0 ∧ s.safe.out[n.val]? = some x ∧ x.l = true ∧ s.runs .b =
      false ∧ 2 ≤ x.lapseL) ∧
    (∃ (s : State), ∃ (n : Fin 8), ∃ (x : OutS), s.beat.bStage = 0 ∧ s.safe.out[n.val]? = some x ∧ x.pullDue = true ∧ x.closed =
      true ∧ s.nat .T_PULLIN ≤ x.since ∧ 20 ≤ x.coil ∧ 20 ≤ x.coilB) ∧
    (∃ (s : State), ∃ (n : Fin 8), ∃ (x : OutS), s.beat.bStage = 0 ∧ s.safe.out[n.val]? = some x ∧ x.pullDue = true ∧ x.closed =
      true ∧ s.nat .T_PULLIN ≤ x.since ∧ ((x.coil < 20 ∨ x.coilB < 20)) ∧ s.srcWhole) ∧
    (∃ (s : State), ∃ (n : Fin 8), s.safe.out.length = 8 ∧ s.srcWhole) ∧
    (∃ (s : State), s.pwr.vk < 16000 ∧ (∃ x ∈ s.safe.out, x.closed = true) ∧ s.safe.vkRaised = false ∧ s.srcWhole) ∧
    (∃ (s : State), 16000 ≤ s.pwr.vk) :=
  ⟨⟨{ live with beat.bStage := 0, safe.out := List.replicate 8 { h := true, lapseH := 2 }, cha.alive := false }, 7,
    { h := true, lapseH := 2 }, by decide⟩,
   ⟨{ live with beat.bStage := 0, safe.out := List.replicate 8 { l := true, lapseL := 2 }, chb.alive := false }, 0,
    { l := true, lapseL := 2 }, by decide⟩,
   ⟨{ live with beat.bStage := 0, safe.out := List.replicate 8 { pullDue := true, closed := true, since := 50, coil := 20, coilB := 20 } },
    0, { pullDue := true, closed := true, since := 50, coil := 20, coilB := 20 }, by decide⟩,
   ⟨{ live with beat.bStage := 0, safe.out := List.replicate 8 { pullDue := true, closed := true, since := 50, coil := 20, coilB := 19 } },
    7, { pullDue := true, closed := true, since := 50, coil := 20, coilB := 19 }, by decide +kernel⟩,
   ⟨live, 7, by decide +kernel⟩,
   ⟨{ live with pwr.vk := 15999, safe.out := List.replicate 8 { closed := true } }, by decide +kernel,
    ⟨{ closed := true }, List.mem_replicate.2 ⟨by decide, rfl⟩, rfl⟩, by decide +kernel, by decide +kernel⟩,
   ⟨{ live with pwr.vk := 16000 }, by decide⟩⟩

/-- The hypotheses of Supervision can be met, clause by clause. -/
theorem test_hyps_Supervision :
    (∃ (s : State), s.on .HOST_SUP = true ∧ 3 ≤ s.host.silent) ∧
    (∃ (s : State), s.host.silent < 3) ∧
    (∃ (s : State), ∃ (ch : Ch), s.runs ch = true ∧ 3 ≤ (s.chan ch).missing ∧ (s.chan ch).declared = false ∧ s.srcWhole) ∧
    (∃ (s : State), ∃ (ch : Ch), (s.chan ch).missing < 3) ∧
    (∃ (s : State), s.beat.running = true ∧ 0 < s.beat.eStage ∧ s.safe.x.done = false ∧ s.runs .a = true ∧ s.runs .b = true) ∧
    (∃ (s : State), ∃ (x y : XRec), s.beat.running = true ∧ 0 < s.beat.eStage ∧ s.safe.x.done = false ∧ s.evals .a = true ∧
      s.evals .b = true ∧ s.cha.declared = false ∧ s.chb.declared = false ∧ s.cha.post = some x ∧ s.chb.post = some y ∧
      x.beat = s.beat.num ∧ y.beat = s.beat.num ∧ s.srcWhole ∧ s.flt.injRun = none) ∧
    (∃ (s : State), ∃ (a b : Bool), s.safe.x.done = true) ∧
    (∃ (s : State), ∃ (x y : XRec), ∃ (k : Nat), s.beat.running = true ∧ 0 < s.beat.eStage ∧ s.safe.x.done = false ∧ s.evals .a
      = true ∧ s.evals .b = true ∧ s.cha.declared = false ∧ s.chb.declared = false ∧ s.cha.post = some x ∧ s.chb.post = some
      y ∧ x.beat = s.beat.num ∧ y.beat = s.beat.num ∧ s.xInverted = some k ∧ s.injFull = false) ∧
    (∃ (s : State), ∃ (u : UnitS), ∃ (pos : BitVec 8), s.ring.roster = [u] ∧ u.addr = uAddr (uStr s.addr) pos.toNat ∧ 3 ≤
      u.missA ∧ u.lostA = false) ∧
    (∃ (s : State), ∃ (u : UnitS), ∃ (pos : BitVec 8), s.ring.roster = [u] ∧ u.addr = uAddr (uStr s.addr) pos.toNat ∧ 3 ≤
      u.missB ∧ u.lostB = false) ∧
    (∃ (s : State), s.fltShown = none) :=
  ⟨⟨{ live with host.silent := 3, cfg.image := img [prm .HOST_SUP 0 1] }, by decide⟩,
   ⟨{ live with host.silent := 2 }, by decide⟩,
   ⟨{ live with cha.missing := 3 }, .a, by decide +kernel⟩,
   ⟨{ live with chb.missing := 2 }, .b, by decide⟩,
   ⟨{ live with beat.eStage := 1 }, by decide⟩,
   ⟨{ live with beat.eStage := 37, cha.post := some ⟨0, [true], {}, .parked, []⟩, chb.post := some ⟨0, [], {}, .parked, []⟩ },
    ⟨0, [true], {}, .parked, []⟩, ⟨0, [], {}, .parked, []⟩, by decide +kernel⟩,
   ⟨{ live with safe.x.done := true }, true, true, by decide⟩,
   ⟨{ live with beat.eStage := 37, cha.post := some ⟨0, [true], {}, .parked, []⟩, chb.post := some ⟨0, [], {}, .parked, []⟩, safe.x.invert := 1, flt.injRun := some { target := 29, full := false } },
    ⟨0, [true], {}, .parked, []⟩, ⟨0, [], {}, .parked, []⟩, 0, by decide⟩,
   ⟨{ live with ring.roster := [{ addr := 5, missA := 3 }] }, { addr := 5, missA := 3 }, 5, by decide⟩,
   ⟨{ live with ring.roster := [{ addr := 5, missB := 3 }] }, { addr := 5, missB := 3 }, 5, by decide⟩,
   ⟨live, by decide⟩⟩

/-- The hypotheses of TestPulses can be met, clause by clause. -/
theorem test_hyps_TestPulses :
    (∃ (s : State), ∃ (n : Nat), ∃ (side : Side), ∃ (rep : Bool), s.beat.running = true ∧ s.beat.sub = 15 ∧ s.safe.tp.taken =
      false ∧ s.safe.tp.pulse = none ∧ s.pulseSlot = some (n, side, rep) ∧ s.pulseOk n = true) ∧
    (∃ (s : State), s.beat.sub ≠ 15) ∧
    (∃ (s : State), ∃ (p : Pulse), ∃ (d : List (Level × Level)), ∃ (coil : Nat), s.safe.tp.pulse = some p ∧ p.absorbed = false ∧
      p.passes d coil = true) ∧
    (∃ (s : State), ∃ (p : Pulse), ∃ (d : List (Level × Level)), ∃ (coil : Nat), s.safe.tp.pulse = some p ∧ p.absorbed = false ∧
      p.again = false) ∧
    (∃ (s : State), ∃ (p : Pulse), ∃ (d : List (Level × Level)), ∃ (coil : Nat), s.safe.tp.pulse = some p ∧ p.absorbed = false ∧
      p.again = true ∧ s.srcWhole) ∧
    (∃ (s : State), ∃ (p : Pulse), ∃ (d : List (Level × Level)), ∃ (coil : Nat), ∃ (r : Bool), s.safe.tp.pulse = some p ∧
      p.absorbed = true) ∧
    (∃ (s : State), ∃ (d : List (Level × Level)), ∃ (coil : Nat), ∃ (r : Bool), s.safe.tp.pulse = none) ∧
    (∃ (s : State), ∃ (v : BitVec 8), s.beat.num.toNat % 100 = 0 ∧ s.beat.sub = 5 ∧ s.safe.gapDone = false ∧ (∀ i < 8, s.inFunc
      i = 0)) ∧
    (∃ (s : State), ∃ (v : BitVec 8), s.beat.num.toNat % 100 = 0 ∧ s.beat.sub = 5 ∧ s.safe.gapDone = false ∧ s.runs .a = true ∧
      s.inFunc 0 ≠ 0 ∧ (∀ i, 0 < i → i < 8 → s.inFunc i = 0) ∧ v.toNat.testBit 0 = false ∧ s.runs .b = false) ∧
    (∃ (s : State), ∃ (v : BitVec 8), s.beat.sub ≠ 5) ∧
    (∃ (s : State), ∃ (n : Nat), ∃ (x : OutS), 1 ≤ n ∧ n ≤ 8 ∧ s.beat.running = true ∧ s.beat.sub = 15 ∧ s.safe.tp.taken = false
      ∧ s.safe.tp.pulse = none ∧ s.safe.tp.again = none ∧ 14 < 1000 * s.nat .TP_PER ∧ s.beat.num.toNat % (1000 * s.nat
      .TP_PER) = 2 * (n - 1) ∧ s.upAndRunning = true ∧ s.outRole n ≠ 0 ∧ s.safe.out[n - 1]? = some x ∧ x.locked = false ∧
      x.pullDue = false ∧ s.runs .a = true ∧ s.runs .b = true ∧ s.cha.seq.app[n - 1]?.getD false = s.chb.seq.app[n -
      1]?.getD false ∧ (s.cmdClosed (n - 1) = true → x.rbH = .high ∧ x.rbL = .low) ∧ (s.cmdClosed (n - 1) = false → x.rbH ≠
      .high ∧ x.rbL ≠ .low)) ∧
    (∃ (s : State), ∃ (p : Pulse), ∃ (x : OutS), s.beat.running = true ∧ s.beat.sub = 15 ∧ s.safe.tp.taken = false ∧
      s.safe.tp.pulse = none ∧ s.safe.tp.again = some p ∧ s.upAndRunning = true ∧ s.outRole p.out ≠ 0 ∧ s.safe.out[p.out -
      1]? = some x ∧ x.locked = false ∧ x.pullDue = false ∧ s.runs .a = true ∧ s.runs .b = true ∧ s.cha.seq.app[p.out -
      1]?.getD false = s.chb.seq.app[p.out - 1]?.getD false ∧ (s.cmdClosed (p.out - 1) = true → x.rbH = .high ∧ x.rbL =
      .low) ∧ (s.cmdClosed (p.out - 1) = false → x.rbH ≠ .high ∧ x.rbL ≠ .low)) ∧
    (∃ (s : State), ∃ (p : Pulse), ∃ (d : List (Level × Level)), ∃ (coil : Nat), s.safe.tp.pulse = some p ∧ p.absorbed = false ∧
      (p.on = false → (∀ r ∈ d.drop 25, if p.side = .h then r.1 ≠ .high else r.2 ≠ .low) ∧ ∀ r ∈ d, if p.side = .h then r.2
      = .low else r.1 = .high) ∧ (p.on = true → coil < 50 ∧ ∀ r ∈ d.drop 25, if p.side = .h then r = (.high, .high) else r =
      (.low, .low))) ∧
    (∃ (s : State), ∃ (p : Pulse), ∃ (d : List (Level × Level)), ∃ (coil : Nat), ∃ (r : Level × Level), s.safe.tp.pulse = some p
      ∧ p.absorbed = false ∧ p.again = false ∧ ((p.on = false ∧ (r ∈ d.drop 25 ∧ (if p.side = .h then r.1 = .high else r.2 =
      .low) ∨ r ∈ d ∧ (if p.side = .h then r.2 ≠ .low else r.1 ≠ .high)) ∨ p.on = true ∧ (50 ≤ coil ∨ r ∈ d.drop 25 ∧ (if
      p.side = .h then r ≠ (.high, .high) else r ≠ (.low, .low)))))) ∧
    (∃ (s : State), ∃ (ch : Ch), ∃ (v : BitVec 8), s.beat.num.toNat % 100 = (if ch = .a then 0 else 50) ∧ s.beat.sub = 5 ∧
      s.safe.gapDone = false) :=
  ⟨⟨{ live with beat.sub := 15, beat.num := 0, cfg.image := img [prm .ROLE 1 1] }, 1, .h, false, by decide⟩,
   ⟨live, by decide⟩,
   ⟨{ live with safe.tp.pulse := some { out := 1, side := .h, on := false } }, { out := 1, side := .h, on := false }, [(.low,
    .low)], 0, by decide⟩,
   ⟨{ live with safe.tp.pulse := some { out := 1, side := .h, on := false } }, { out := 1, side := .h, on := false }, [], 0,
    by decide⟩,
   ⟨{ live with safe.tp.pulse := some { out := 1, side := .h, on := false, again := true } },
    { out := 1, side := .h, on := false, again := true }, [], 0, by decide +kernel⟩,
   ⟨{ live with safe.tp.pulse := some { out := 1, side := .h, on := false, absorbed := true } },
    { out := 1, side := .h, on := false, absorbed := true }, [], 0, true, by decide⟩,
   ⟨live, [], 0, true, by decide⟩,
   ⟨{ live with beat.sub := 5 }, 0, by decide⟩,
   ⟨{ live with beat.sub := 5, chb.alive := false, cfg.image := img [prm .FUNC 1 1] }, 0, by decide, by decide, by decide,
    by decide, by decide, by intro i h1 h2; interval_cases i <;> decide, by decide, by decide⟩,
   ⟨live, 0, by decide⟩,
   ⟨{ live with beat.sub := 15, cfg.image := img [prm .ROLE 1 1, prm .TP_PER 0 1], safe.out := List.replicate 8 { rbH := .low, rbL := .high } },
    1, { rbH := .low, rbL := .high }, by decide⟩,
   ⟨{ live with beat.sub := 15, cfg.image := img [prm .ROLE 1 1, prm .TP_PER 0 1], safe.out := List.replicate 8 { rbH := .low, rbL := .high }, safe.tp.again := some { out := 1, side := .h, on := false } },
    { out := 1, side := .h, on := false }, { rbH := .low, rbL := .high }, by decide⟩,
   ⟨{ live with safe.tp.pulse := some { out := 1, side := .h, on := false } }, { out := 1, side := .h, on := false },
    List.replicate 30 (.low, .low), 0, by decide⟩,
   ⟨{ live with safe.tp.pulse := some { out := 1, side := .h, on := false } }, { out := 1, side := .h, on := false },
    List.replicate 30 (.high, .low), 0, (.high, .low), by decide⟩,
   ⟨{ live with beat.num := 50, beat.sub := 5, cfg.image := img [prm .FUNC 1 1] }, .b, 255, by decide⟩⟩

/-- The hypotheses of EvaluationOrder can be met, clause by clause. -/
theorem test_hyps_EvaluationOrder :
    (∃ (s : State), ∃ (k : Nat), s.evalOn = true ∧ s.beat.bStage = 1 ∧ k < s.beat.eStage) ∧
    (∃ (s : State), ∃ c, c ∈ [Instr.sumMismatch, .thermalEvaluation, .excursionOutOfRating, .swapDetected, .recordSelect,
      .emptyAnchor, .fullAnchor, .voltageAnchor, .anchorStarvation, .cycleCountStore, .protectionLevelChange,
      .failureToCloseCheck, .prechargeTimeout, .weldTimeout, .unrequestedOpening, .healthWarningClear, .evaluation 0 0] ∧
      s.evalOn = false) :=
  ⟨⟨{ live with beat.eStage := 5 }, 4, by decide⟩,
   ⟨State.reset, .sumMismatch, by decide⟩⟩

/-- The hypotheses of SequencerJudgements can be met, clause by clause. -/
theorem test_hyps_SequencerJudgements :
    (∃ (s : State), ∃ (ch : Ch), s.evalAt 27 ∧ s.evals ch = true ∧ (s.chan ch).seq.state = .precharging ∧ (s.chan ch).seq.step =
      2 ∧ s.nat .T_PULLIN ≤ (s.chan ch).seq.e ∧ (s.chan ch).seq.fail = false) ∧
    (∃ (s : State), ∃ (ch : Ch), s.evalAt 27 ∧ s.evals ch = true ∧ (s.chan ch).seq.state = .closed ∧ (s.chan ch).seq.m = s.nat
      .T_OVL + s.nat .T_FTC) ∧
    (∃ (s : State), ∃ (ch : Ch), s.evalAt 29 ∧ s.evals ch = true ∧ (s.chan ch).seq.state = .precharging ∧ (s.chan ch).seq.step =
      3 ∧ (s.chan ch).seq.fail = false ∧ (s.chan ch).seq.timedOut = false ∧ (s.chan ch).seq.posCmd = false ∧ (s.chan
      ch).seq.crit = false ∧ s.nat .PC_TMAX ≤ (s.chan ch).seq.e) ∧
    (∃ (s : State), ∃ (ch : Ch), ∃ (w : Nat), s.evalAt 31 ∧ s.evals ch = true ∧ (s.chan ch).seq.w = some w ∧ s.nat .T_WELD ≤ w ∧
      (s.chan ch).seq.weldDone = false) ∧
    (∃ (s : State), ∃ (ch : Ch), ∃ (n : Fin 8), ∃ (x : OutS), s.evalAt 33 ∧ s.evals ch = true ∧ (((s.chan ch).seq.state =
      .closed ∨ (s.chan ch).seq.state = .rundown)) ∧ (s.chan ch).unreq = false ∧ s.safe.out[n.val]? = some x ∧ ((s.outRole
      (n.val + 1) = 1 ∨ s.outRole (n.val + 1) = 3)) ∧ (s.chan ch).seq.app[n.val]? = some true ∧ 3 ≤ x.lowOn ch) ∧
    (∃ (s : State), ∃ (ch : Ch), ∃ (n : Fin 8), s.evalAt 32 ∧ s.evals ch = true ∧ s.drives = true ∧ (s.chan ch).seq.state ≠
      .precharging ∧ s.mirrorFtc ch (n.val + 1) = true) ∧
    (∃ (s : State), ∃ (ch : Ch), ∃ (n : Fin 8), s.evalAt 32 ∧ s.evals ch = true ∧ s.drives = true ∧ (s.chan ch).seq.state =
      .precharging ∧ (s.chan ch).seq.fail = false ∧ s.mirrorFtc ch (n.val + 1) = true) ∧
    (∃ (s : State), ∃ (ch : Ch), ∃ (n : Fin 8), s.evalAt 32 ∧ s.evals ch = true ∧ s.drives = true ∧ s.mirrorWeld ch (n.val + 1)
      = true) :=
  ⟨⟨{ live with beat.eStage := 27, cha.seq.state := .precharging, cha.seq.step := 2, cha.seq.e := 50 }, .a, by decide⟩,
   ⟨{ live with beat.eStage := 27, chb.seq.state := .closed, chb.seq.m := 120 }, .b, by decide⟩,
   ⟨{ live with beat.eStage := 29, cha.seq.state := .precharging, cha.seq.step := 3, cha.seq.e := 2000 }, .a, by decide⟩,
   ⟨{ live with beat.eStage := 31, chb.seq.w := some 1000 }, .b, 1000, by decide⟩,
   ⟨{ live with beat.eStage := 33, cha.seq.state := .closed, cha.seq.app := List.replicate 8 true, safe.out := List.replicate 8 { lowBeats := 3 }, cfg.image := img [prm .ROLE 1 1] },
    .a, 0, { lowBeats := 3 }, by decide⟩,
   ⟨{ live with beat.eStage := 32, ring.active := true, cha.seq.state := .closed, cha.seq.app := List.replicate 8 true, cha.inp := List.replicate 8 true, safe.out := List.replicate 8 { edge := 100 }, cfg.image := img [prm .FUNC 1 1, prm .IN_OUT 1 1] },
    .a, 0, by decide⟩,
   ⟨{ live with beat.eStage := 32, ring.active := true, cha.seq.state := .precharging, cha.seq.app := List.replicate 8 true, cha.inp := List.replicate 8 true, safe.out := List.replicate 8 { edge := 100 }, cfg.image := img [prm .FUNC 1 1, prm .IN_OUT 1 1] },
    .a, 0, by decide⟩,
   ⟨{ live with beat.eStage := 32, ring.active := true, safe.out := List.replicate 8 { edge := 100 }, cfg.image := img [prm .FUNC 1 1, prm .IN_OUT 1 1] },
    .a, 0, by decide⟩⟩

/-- The hypotheses of Anchors can be met, clause by clause. -/
theorem test_hyps_Anchors :
    (∃ (s : State), s.evalAt 14 ∧ s.evals .a = true ∧ s.countersRun = true ∧ s.chg.anchored = false ∧ beatsOfSec (s.nat
      .T_TAPER) ≤ s.chg.acc.taper) ∧
    (∃ (s : State), s.evalAt 13 ∧ s.evals .a = true ∧ s.countersRun = true ∧ s.chg.anchored = false ∧ beatsOfSec (s.nat
      .T_EMPTY) ≤ s.chg.acc.empty) ∧
    (∃ (s : State), s.evalAt 15 ∧ s.evals .a = true ∧ s.countersRun = true ∧ s.chg.anchored = false ∧ ((beatsOfSec (s.nat
      .T_REST) ≤ s.chg.acc.rest ∨ beatsOfSec (s.nat .VA_TIME) ≤ s.chg.acc.confCnt)) ∧ ((s.chg.acc.conflict = true ∨ s.par
      .U_VA < s.chg.acc.bound))) ∧
    (∃ (s : State), ∃ (k : Nat), ∃ (c : Instr), (k, c) ∈ [(13, Instr.emptyAnchor), (14, .fullAnchor), (15, .voltageAnchor)] ∧
      s.evalAt k ∧ s.chg.anchored = true) :=
  ⟨⟨{ live with ring.active := true, chg.inForce := some 0, chg.acc.haveSocV := true, beat.eStage := 14, chg.acc.taper := 10000, cfg.image := img [prm .T_TAPER 0 10] },
    by decide⟩,
   ⟨{ live with ring.active := true, chg.inForce := some 0, chg.acc.haveSocV := true, beat.eStage := 13, chg.acc.empty := 10000, cfg.image := img [prm .T_EMPTY 0 10] },
    by decide⟩,
   ⟨{ live with ring.active := true, chg.inForce := some 0, chg.acc.haveSocV := true, beat.eStage := 15, chg.acc.conflict := true, chg.acc.rest := 1000, cfg.image := img [prm .T_REST 0 1] },
    by decide⟩,
   ⟨{ live with beat.eStage := 13, chg.anchored := true }, 13, .emptyAnchor, by decide⟩⟩

/-- The hypotheses of Anchors (EmptyCounter) can be met, clause by clause. -/
theorem test_hyps_EmptyCounter :
    (∃ (s : State), s.countersRun = true ∧ s.chg.acc.vmin.code ≤ s.par .V_EMPTY) ∧
    (∃ (s : State), s.countersRun = true ∧ s.par .V_EMPTY < s.chg.acc.vmin.code) ∧
    (∃ (s : State), s.countersRun = false) :=
  ⟨⟨{ live with ring.active := true, chg.inForce := some 0, chg.acc.haveSocV := true, chg.acc.vmin.code := 64000, cfg.image := img [prm .V_EMPTY 0 64000] },
    by decide⟩,
   ⟨{ live with ring.active := true, chg.inForce := some 0, chg.acc.haveSocV := true, chg.acc.vmin.code := 64001, cfg.image := img [prm .V_EMPTY 0 64000] },
    by decide⟩,
   ⟨live, by decide⟩⟩

/-- The hypotheses of Accounting can be met, clause by clause. -/
theorem test_hyps_Accounting :
    (∃ (s : State), s.evalAt 17 ∧ s.evals .a = true ∧ s.accounting = true ∧ s.chg.acc.starved = false ∧ 3600000 * s.nat
      .T_STARVE ≤ s.chg.acc.age ∧ s.srcWhole) ∧
    (∃ (s : State), ∃ (r : Nat), ∃ (x : IdRec), s.evalAt 19 ∧ s.evals .a = true ∧ s.accounting = true ∧ 1000 ≤ s.chg.cycEval ∧
      s.chg.inForce = some r ∧ s.chg.recs[r]? = some x) ∧
    (∃ (s : State), s.evalAt 10 ∧ s.evals .a = true ∧ s.accounting = true ∧ ((s.on .ID_EN = true ∧ s.currentUnit = true ∧ 3 ≤
      s.chg.idDiff ∨ 2000 ≤ s.chg.openBeats))) ∧
    (∃ (s : State), s.evalAt 10 ∧ s.evals .a = true ∧ s.chg.idDiff < 3 ∧ s.chg.openBeats < 2000) ∧
    (∃ (s : State), s.evalAt 11 ∧ s.evals .a = true ∧ s.master = true ∧ ((s.chg.inForce = none ∨ s.chg.swapPend = true)) ∧ 3 ≤
      s.chg.okConv ∧ s.on .ID_EN = false ∧ s.currentUnit = true) ∧
    (∃ (s : State), ∃ (k : Nat), ∃ (c : Ckpt), s.evalAt 11 ∧ s.evals .a = true ∧ s.master = true ∧ ((s.chg.inForce = none ∨
      s.chg.swapPend = true)) ∧ 3 ≤ s.chg.okConv ∧ s.on .ID_EN = true ∧ s.currentUnit = true ∧ k < 8 ∧ (s.recAt k).used =
      true ∧ (s.recAt k).code = s.chg.idCode ∧ ((∀ j < k, (s.recAt j).used = false ∨ (s.recAt j).code ≠ s.chg.idCode)) ∧
      (s.recAt k).lsb1 = s.lsb1 ∧ (s.recAt k).governing = some c) ∧
    (∃ (s : State), ∃ (k : Nat), s.evalAt 11 ∧ s.evals .a = true ∧ s.master = true ∧ ((s.chg.inForce = none ∨ s.chg.swapPend =
      true)) ∧ 3 ≤ s.chg.okConv ∧ s.on .ID_EN = true ∧ s.currentUnit = true ∧ k < 8 ∧ ((∀ j < 8, (s.recAt j).used = false ∨
      (s.recAt j).code ≠ s.chg.idCode)) ∧ (s.recAt k).used = false ∧ (∀ j < k, (s.recAt j).used = true)) ∧
    (∃ (s : State), s.evalAt 11 ∧ s.evals .a = true ∧ s.master = true ∧ ((s.chg.inForce = none ∨ s.chg.swapPend = true)) ∧ 3 ≤
      s.chg.okConv ∧ s.currentUnit = false) ∧
    (∃ (s : State), s.evalAt 10 ∧ s.evals .a = true ∧ s.accounting = true ∧ s.currentUnit = false ∧ 3 ≤ s.chg.idDiff) ∧
    (∃ (s : State), s.evalAt 11 ∧ s.evals .a = true ∧ s.chg.okConv < 3) ∧
    (∃ (s : State), s.evalAt 35 ∧ s.evals .a = true ∧ s.lim.sohRWarn = true ∧ s.lim.sohROk = 10000 ∧ s.lim.sohCWarn = false) ∧
    (∃ (s : State), s.evalAt 35 ∧ s.evals .a = true ∧ s.lim.sohCWarn = true ∧ s.lim.sohCOk = 10000 ∧ s.lim.sohRWarn = false) ∧
    (∃ (s : State), ∃ (n : Word), ∃ (v : Bool), ∃ (l : List (Word × Bool)), s.chg.slowPend = (n, v) :: l ∧ (s.beat.num -
      n).toNat < 2 ^ 31 ∧ ((s.pwr.state = .active ∨ s.pwr.state = .idle))) ∧
    (∃ (s : State), ∃ (n : Word), ∃ (v : Bool), ∃ (l : List (Word × Bool)), s.chg.slowPend = (n, v) :: l ∧ 2 ^ 31 ≤ (s.beat.num
      - n).toNat) ∧
    (∃ (s : State), s.chg.slowPend = []) :=
  ⟨⟨{ live with ring.active := true, chg.inForce := some 0, chg.acc.haveSocV := true, beat.eStage := 17, chg.acc.age := 3600000, cfg.image := img [prm .T_STARVE 0 1] },
    by decide +kernel⟩,
   ⟨{ live with ring.active := true, chg.inForce := some 0, chg.acc.haveSocV := true, beat.eStage := 19, chg.cycEval := 1000 },
    0, {}, by decide⟩,
   ⟨{ live with ring.active := true, chg.inForce := some 0, chg.acc.haveSocV := true, beat.eStage := 10, chg.idDiff := 3, cfg.image := img [prm .ID_EN 0 1, prm .R_SH 1 100000] },
    by decide⟩,
   ⟨{ live with beat.eStage := 10, chg.idDiff := 2 }, by decide⟩,
   ⟨{ live with ring.active := true, beat.eStage := 11, chg.okConv := 3, cfg.image := img [prm .R_SH 1 100000] }, by decide⟩,
   ⟨{ live with ring.active := true, beat.eStage := 11, chg.okConv := 3, cfg.image := img [prm .ID_EN 0 1, prm .R_SH 1 100000], chg.idCode := 4, chg.recs := [{}, { used := true, code := 4, lsb1 := 5000000, slotA := some ⟨5, 6, 7, 8, 9, 10, 11, false, false, false, false, false, 0, 1⟩ }] },
    1, ⟨5, 6, 7, 8, 9, 10, 11, false, false, false, false, false, 0, 1⟩, by decide⟩,
   ⟨{ live with ring.active := true, beat.eStage := 11, chg.okConv := 3, cfg.image := img [prm .ID_EN 0 1, prm .R_SH 1 100000], chg.idCode := 4 },
    0, by decide⟩,
   ⟨{ live with ring.active := true, beat.eStage := 11, chg.okConv := 3 }, by decide⟩,
   ⟨{ live with ring.active := true, chg.inForce := some 0, chg.acc.haveSocV := true, beat.eStage := 10, chg.idDiff := 3 },
    by decide⟩,
   ⟨{ live with beat.eStage := 11, chg.okConv := 2 }, by decide⟩,
   ⟨{ live with beat.eStage := 35, lim.sohRWarn := true, lim.sohROk := 10000 }, by decide⟩,
   ⟨{ live with beat.eStage := 35, lim.sohCWarn := true, lim.sohCOk := 10000 }, by decide⟩,
   ⟨{ live with chg.slowPend := [(0, true)] }, 0, true, [], by decide⟩,
   ⟨{ live with chg.slowPend := [(1, true)] }, 1, true, [], by decide⟩,
   ⟨live, by decide⟩⟩

/-- The hypotheses of LevelsAndInputs can be met, clause by clause. -/
theorem test_hyps_LevelsAndInputs :
    (∃ (s : State), s.evalAt 21 ∧ s.evals .a = true ∧ s.evals .b = false ∧ (∀ i < 8, s.inDeb i > s.cha.inCnt[i]?.getD 0) ∧ (∀ i
      < 8, s.inDeb i > s.chb.inCnt[i]?.getD 0) ∧ s.safe.disc = List.replicate 8 false) ∧
    (∃ (s : State), ∃ (i : Fin 8), ∃ (ch : Ch), s.evalAt 21 ∧ s.inDeb i ≤ (s.chan ch).inCnt[i.val]?.getD 0) ∧
    (∃ (s : State), ∃ (i : Fin 8), ∃ (ch : Ch), s.evalAt 21 ∧ (s.chan ch).inCnt[i.val]?.getD 0 < s.inDeb i) ∧
    (∃ (s : State), ∃ (i : Fin 8), s.evalAt 22 ∧ s.nat .IN_DISC ≤ s.safe.discCnt[i.val]?.getD 0 ∧ 0 <
      s.safe.discCnt[i.val]?.getD 0 ∧ s.safe.disc[i.val]? = some false ∧ s.srcWhole) :=
  ⟨⟨{ live with beat.eStage := 21, chb.alive := false }, by decide⟩,
   ⟨{ live with beat.eStage := 21, cha.inCnt := List.replicate 8 5 }, 0, .a, by decide⟩,
   ⟨{ live with beat.eStage := 21, chb.inCnt := List.replicate 8 4 }, 7, .b, by decide⟩,
   ⟨{ live with beat.eStage := 22, safe.discCnt := List.replicate 8 5, cfg.image := img [prm .IN_DISC 0 5] }, 7,
    by decide +kernel⟩⟩

/-- The hypotheses of LevelFunction can be met, clause by clause. -/
theorem test_hyps_LevelFunction :
    (∃ (l : Lv), ∃ (x thr hys : Int), ∃ (deb : Nat), l.st = false ∧ x < thr) ∧
    (∃ (l : Lv), ∃ (x thr hys : Int), ∃ (deb : Nat), l.st = false ∧ thr ≤ x ∧ deb ≤ l.cnt + 1) ∧
    (∃ (l : Lv), ∃ (x thr hys : Int), ∃ (deb : Nat), l.st = false ∧ thr ≤ x ∧ l.cnt + 1 < deb) ∧
    (∃ (l : Lv), ∃ (x thr hys : Int), ∃ (deb : Nat), l.st = true ∧ thr - hys ≤ x) ∧
    (∃ (x thr hys : Int), ∃ (deb : Nat), thr ≤ x ∧ 1 ≤ deb) ∧
    (∃ (x thr hys : Int), ∃ (deb : Nat), ∃ k, k < deb ∧ thr ≤ x ∧ 1 ≤ deb) :=
  ⟨⟨{ cnt := 2 }, 4, 5, 1, 3, by decide⟩,
   ⟨{ cnt := 2 }, 5, 5, 1, 3, by decide⟩,
   ⟨{ cnt := 1 }, 5, 5, 1, 3, by decide⟩,
   ⟨{ st := true }, 4, 5, 1, 3, by decide⟩,
   ⟨5, 5, 1, 1, by decide⟩,
   ⟨5, 5, 1, 2, 1, by decide⟩⟩

/-- The hypotheses of Thermal can be met, clause by clause. -/
theorem test_hyps_Thermal :
    (∃ (s : State), s.evalAt 7 ∧ s.evals .a = true ∧ s.beat.num.toNat % 10 = 9 ∧ ((s.thm.fast = true ∨ s.beat.num.toNat % 100 =
      99)) ∧ s.thm.exc = none) ∧
    (∃ (s : State), ∃ (n : Nat), ∃ (hi : Int), s.evalAt 7 ∧ s.evals .a = true ∧ s.beat.num.toNat % 10 = 9 ∧ ((s.thm.fast = true
      ∨ s.beat.num.toNat % 100 = 99)) ∧ s.thm.exc = some (n, hi)) ∧
    (∃ (s : State), ∃ (g : Nat), ∃ (x : GrpS), s.groupTemp g = none) ∧
    (∃ (s : State), ∃ (g k : Nat), ∃ (v : Int), ∃ (x : GrpS), s.groupTemp g = some (k, v)) ∧
    (∃ (s : State), ∃ (g k : Nat), ∃ (v : Int), ∃ (x : GrpS), s.groupTemp g = some (k, v) ∧ s.par .TS_g g ≤ v) ∧
    (∃ (s : State), ∃ (g k : Nat), ∃ (v : Int), ∃ (x : GrpS), s.groupTemp g = some (k, v) ∧ v < s.par .TS_g g ∧ s.par .TS_g g -
      s.par .HYS_g g ≤ v ∧ x.ts = true) ∧
    (∃ (s : State), ∃ (g k : Nat), ∃ (v : Int), ∃ (x : GrpS), s.groupTemp g = some (k, v) ∧ v < s.par .TS_g g ∧ v < s.par .TS_g
      g - s.par .HYS_g g ∧ s.par .TT_g g ≤ v) ∧
    (∃ (s : State), ∃ (g k : Nat), ∃ (v : Int), ∃ (x : GrpS), s.groupTemp g = some (k, v) ∧ v < s.par .TS_g g ∧ v < s.par .TS_g
      g - s.par .HYS_g g ∧ v < s.par .TT_g g ∧ v < s.par .TT_g g - s.par .HYS_g g ∧ s.par .TW_g g ≤ v) ∧
    (∃ (s : State), ∃ (g k : Nat), ∃ (v : Int), ∃ (x : GrpS), s.groupTemp g = some (k, v) ∧ v < s.par .TS_g g ∧ v < s.par .TS_g
      g - s.par .HYS_g g ∧ v < s.par .TT_g g ∧ v < s.par .TT_g g - s.par .HYS_g g ∧ v < s.par .TW_g g ∧ v < s.par .TW_g g -
      s.par .HYS_g g) ∧
    (∃ (s : State), s.evalAt 7 ∧ ((s.beat.num.toNat % 10 ≠ 9 ∨ (s.thm.fast = false ∧ s.beat.num.toNat % 100 ≠ 99)))) ∧
    (∃ (s : State), ∃ (n : Nat), ∃ (hi : Int), s.evalAt 8 ∧ s.evals .a = true ∧ s.thm.exc = some (n, hi) ∧ s.thm.oorThis = false
      ∧ ((s.sys.order = 0 ∨ 600000 < n ∨ ∃ k, s.thm.sinceEnd = some k ∧ k < 3600000)) ∧ s.srcWhole) ∧
    (∃ (s : State), s.evalAt 8 ∧ ((s.thm.exc = none ∨ s.thm.oorThis = true))) :=
  ⟨⟨{ live with beat.eStage := 7, beat.num := 99 }, by decide⟩,
   ⟨{ live with beat.eStage := 7, beat.num := 99, thm.exc := some (5, 9000) }, 5, 9000, by decide⟩,
   ⟨{ live with meas.shown.die := [-6000] }, 0, {}, by decide⟩,
   ⟨{ live with meas.shown.die := [4000] }, 0, 32, 4000, {}, by decide⟩,
   ⟨{ live with meas.shown.die := [12500] }, 0, 32, 12500, {}, by decide⟩,
   ⟨{ live with meas.shown.die := [12499] }, 0, 32, 12499, { ts := true }, by decide⟩,
   ⟨{ live with meas.shown.die := [11500] }, 0, 32, 11500, { tt := true }, by decide⟩,
   ⟨{ live with meas.shown.die := [10000] }, 0, 32, 10000, {}, by decide⟩,
   ⟨{ live with meas.shown.die := [4000] }, 0, 32, 4000, {}, by decide⟩,
   ⟨{ live with beat.eStage := 7 }, by decide⟩,
   ⟨{ live with beat.eStage := 8, thm.exc := some (600001, 9000), sys.order := 1 }, 600001, 9000, by decide +kernel⟩,
   ⟨{ live with beat.eStage := 8 }, by decide⟩⟩

/-- The hypotheses of BalancingFaults can be met, clause by clause. -/
theorem test_hyps_BalancingFaults :
    (∃ (s : State), s.bal.src = 2 ∧ s.bal.tmo.toNat ≤ s.bal.reqAge ∧ s.bal.reqDone = false ∧ s.fltShown = none ∧ s.beat.running
      = true) ∧
    (∃ (s : State), ((s.bal.src ≠ 2 ∨ s.bal.reqAge < s.bal.tmo.toNat ∨ s.bal.reqDone = true))) ∧
    (∃ (s : State), ∃ (c : Fin 96), ∃ (x : SwS), s.bal.sw[c.val]? = some x ∧ x.cut = false ∧ x.lock = false ∧ x.cutRun = 0) ∧
    (∃ (s : State), ∃ (c : Fin 96), ∃ (x : SwS), s.bal.sw[c.val]? = some x ∧ x.cut = false ∧ x.lock = false ∧ 1 ≤ x.cutRun ∧
      s.srcWhole) ∧
    (∃ (s : State), ∃ (c : Fin 96), ∃ (x : SwS), s.bal.sw[c.val]? = some x ∧ x.noRun = 4 ∧ s.srcWhole) ∧
    (∃ (s : State), ∃ (c : Fin 96), ∃ (x : SwS), s.bal.sw[c.val]? = some x ∧ x.offRun = 2 ∧ s.srcWhole) ∧
    (∃ (s : State), ∃ (c : Fin 96), ∃ (x : SwS), s.bal.sw[c.val]? = some x ∧ x.noRun < 4 ∧ x.offRun < 2) ∧
    (∃ (s : State), ∃ (w : Fin 4), s.gatesNow w = true ∧ s.bal.gate[w.val]? = some false) ∧
    (∃ (s : State), ∃ (w : Fin 4), (s.gatesNow w = false ∨ s.bal.gate[w.val]? = some true) ∧ s.gatesNext w = true) ∧
    (∃ (s : State), ∃ (w : Fin 4), (s.gatesNow w = false ∨ s.bal.gate[w.val]? = some true) ∧ s.gatesNext w = false) :=
  ⟨⟨{ live with bal.src := 2, bal.tmo := 10, bal.reqAge := 10 }, by decide⟩,
   ⟨{ live with bal.src := 2, bal.tmo := 10, bal.reqAge := 9 }, by decide⟩,
   ⟨{ live with bal.sw := List.replicate 96 {  } }, 95, {}, by decide⟩,
   ⟨{ live with bal.sw := List.replicate 96 { cutRun := 1 } }, 0, { cutRun := 1 }, by decide +kernel⟩,
   ⟨{ live with bal.sw := List.replicate 96 { noRun := 4 } }, 95, { noRun := 4 }, by decide +kernel⟩,
   ⟨{ live with bal.sw := List.replicate 96 { offRun := 2 } }, 0, { offRun := 2 }, by decide +kernel⟩,
   ⟨{ live with bal.sw := List.replicate 96 { noRun := 3, offRun := 1 } }, 0, { noRun := 3, offRun := 1 }, by decide⟩,
   ⟨{ live with cfg.image := img [prm .EN 3 1, prm .GROUP 3 1, prm .OFS 3 49] }, 3, by decide⟩,
   ⟨{ live with beat.wins := List.replicate 4 { closed := true }, cfg.image := img [prm .EN 3 1, prm .GROUP 3 1, prm .OFS 3 49] },
    3, by decide⟩,
   ⟨live, 0, by decide⟩⟩

/-- The hypotheses of DutyPattern can be met, clause by clause. -/
theorem test_hyps_DutyPattern :
    (∃ (s : State), ∃ (n j : Nat), 1 ≤ n ∧ n ≤ 96 ∧ j < 16 ∧ s.bal.duty.toNat ≤ 16 ∧ (s.sw n).duty = true ∧ (s.sw n).level =
      false ∧ (s.sw n).lock = false ∧ (s.sw n).cut = false) ∧
    (∃ (s : State), ∃ (n j : Nat), (((s.sw n).lock = true ∨ (s.sw n).cut = true))) ∧
    (∃ (s : State), ∃ (n j : Nat), (s.sw n).duty = false ∧ (s.sw n).level = false) :=
  ⟨⟨{ live with bal.duty := 16, bal.sw := List.replicate 96 { duty := true } }, 96, 15, by decide⟩,
   ⟨{ live with bal.sw := List.replicate 96 { duty := true, lock := true } }, 1, 0, by decide⟩,
   ⟨live, 1, 0, by decide⟩⟩

/-- The hypotheses of CalibrationAndExcitation (WireCalibration) can be met, clause by clause. -/
theorem test_hyps_WireCalibration :
    (∃ (s : State), ∃ (p : Path), s.bal.cal = none ∧ s.parked = true ∧ s.i1Quiet = true) ∧
    (∃ (s : State), ∃ (seg : Fin 4), s.cellPop (24 * seg.val + 1) = true) ∧
    (∃ (s : State), ∃ (p : Nat), ∃ (q : Nat), ∃ (seg : Fin 4), p ≤ q ∧ q ≤ 24 ∧ s.cellPop (24 * seg.val + q) = true) ∧
    (∃ (s : State), ∃ (p : Path), ∃ (c : WireCal), s.bal.cal = some c) ∧
    (∃ (s : State), ∃ (p : Path), s.bal.cal = none) ∧
    (∃ (s : State), ∃ (p : Path), ∃ (k : BitVec 8), k ≠ 0xC3) ∧
    (∃ (s : State), ∃ (p : Path), s.bal.cal = none ∧ s.parked = false) ∧
    (∃ (s : State), ∃ (p : Path), s.bal.cal = none ∧ s.parked = true ∧ s.i1Quiet = false) ∧
    (∃ (s : State), ∃ (c : WireCal), s.bal.cal = some c ∧ 25 ≤ c.pos ∧ 1 ≤ c.beat) ∧
    (∃ (s : State), s.bal.cal = none) :=
  ⟨⟨{ live with cfg.image := img [prm .R_SH 1 100000, prm .I_QUIET 0 500, prm .CELL 73 1], meas.shown.cur := [{ valid := true }, {}] },
    .host, by decide⟩,
   ⟨{ live with cfg.image := img [prm .CELL 73 1] }, 3, by decide⟩,
   ⟨{ live with cfg.image := img [prm .CELL 75 1] }, 2, 3, 3, by decide⟩,
   ⟨{ live with bal.cal := some {} }, .host, {}, by decide⟩,
   ⟨live, .ring, by decide⟩,
   ⟨live, .host, 0, by decide⟩,
   ⟨{ live with cha.seq.state := .closed }, .host, by decide⟩,
   ⟨{ live with cfg.image := img [prm .R_SH 1 100000, prm .I_QUIET 0 500, prm .CELL 73 1], meas.shown.cur := [{ valid := true, code := 20000 }, {}] },
    .host, by decide⟩,
   ⟨{ live with bal.cal := some { pos := 25, beat := 1 } }, { pos := 25, beat := 1 }, by decide⟩,
   ⟨live, by decide⟩⟩

/-- The hypotheses of CalibrationAndExcitation (Excitation) can be met, clause by clause. -/
theorem test_hyps_Excitation :
    (∃ (s : State), ∃ (e : Nat × Nat), s.imp.swEn = true ∧ s.bal.run = none ∧ s.bal.stopped = false ∧ rotationAt s.rotation
      s.bal.next = some e ∧ s.blockStarts e.1 = true ∧ s.on .EXC_EN = true ∧ s.fullCadence = true ∧ s.excCells e.2 ≠ [] ∧
      s.bal.cal = none) ∧
    (∃ (s : State), ∃ (e : Nat × Nat), s.imp.swEn = true ∧ s.bal.run = none ∧ s.bal.stopped = false ∧ rotationAt s.rotation
      s.bal.next = some e ∧ s.blockStarts e.1 = true ∧ ((s.on .EXC_EN = false ∨ s.fullCadence = false ∨ s.excCells e.2 =
      []))) ∧
    (∃ (s : State), ((s.bal.run ≠ none ∨ s.imp.swEn = false))) ∧
    (∃ (s : State), s.bal.run = none) ∧
    (∃ (s : State), ∃ (r : ExcRun), s.bal.run = some r) ∧
    (∃ (s : State), ∃ (r : ExcRun), s.bal.run = some r ∧ ((s.fullCadence = false ∨ ∃ n ∈ r.cells, s.cellBlocked n = true))) ∧
    (∃ (s : State), ∃ (k : Nat), s.imp.req = none ∧ s.reqSlot = some k ∧ s.reqAllowed = true ∧ s.blockStarts k = true) ∧
    (∃ (s : State), ∃ (r : CurReq), s.imp.req = some r ∧ r.stop = s.beat.num ∧ s.reqAllowed = false) ∧
    (∃ (s : State), ∃ (r : CurReq), s.imp.req = some r ∧ r.stop ≠ s.beat.num ∧ s.reqAllowed = false) ∧
    (∃ (s : State), ∃ (r : CurReq), s.imp.req = some r ∧ r.stop ≠ s.beat.num ∧ s.reqAllowed = true) ∧
    (∃ (s : State), ∃ (k : Fin 4), ∃ (x : SlotS), s.evalAt 1 ∧ s.works .a = true ∧ s.imp.slots[k.val]? = some x ∧ x.ended =
      true) ∧
    (∃ (s : State), ∃ (k : Fin 4), ∃ (x : SlotS), s.evalAt 1 ∧ s.imp.slots[k.val]? = some x ∧ x.ended = false) :=
  ⟨⟨{ live with imp.swEn := true, cfg.image := img [prm .FREQ 0 1000, prm .IMP_SRC 0 1, prm .EXC_EN 0 1, prm .CELL 1 1], bal.rw := List.replicate 96 (true, 1000), meas.shown.cell := List.replicate 96 { valid := true } },
    (0, 0), by decide⟩,
   ⟨{ live with imp.swEn := true, cfg.image := img [prm .FREQ 0 1000, prm .IMP_SRC 0 1] }, (0, 0), by decide⟩,
   ⟨live, by decide⟩,
   ⟨live, by decide⟩,
   ⟨{ live with bal.run := some { slot := 0, group := 0, cells := [1], half := 1, start := 0, stop := 10 } },
    { slot := 0, group := 0, cells := [1], half := 1, start := 0, stop := 10 }, by decide⟩,
   ⟨{ live with bal.run := some { slot := 0, group := 0, cells := [1], half := 1, start := 0, stop := 10 }, chg.slow := true },
    { slot := 0, group := 0, cells := [1], half := 1, start := 0, stop := 10 }, by decide⟩,
   ⟨{ live with imp.en := true, imp.reqEn := true, cha.seq.state := .closed, cfg.image := img [prm .FREQ 0 1000, prm .IMP_SRC 0 2, prm .R_SH 1 100000] },
    0, by decide⟩,
   ⟨{ live with imp.req := some { slot := 0, freq := 1, amp := 1, stop := 0 } }, { slot := 0, freq := 1, amp := 1, stop := 0 },
    by decide⟩,
   ⟨{ live with imp.req := some { slot := 0, freq := 1, amp := 1, stop := 9 } }, { slot := 0, freq := 1, amp := 1, stop := 9 },
    by decide⟩,
   ⟨{ live with imp.en := true, imp.reqEn := true, cha.seq.state := .closed, cfg.image := img [prm .FREQ 0 1000, prm .IMP_SRC 0 2, prm .R_SH 1 100000], imp.req := some { slot := 0, freq := 1, amp := 1, stop := 9 } },
    { slot := 0, freq := 1, amp := 1, stop := 9 }, by decide⟩,
   ⟨{ live with beat.eStage := 1, imp.slots := List.replicate 4 { ended := true } }, 3, { ended := true }, by decide⟩,
   ⟨{ live with beat.eStage := 1 }, 0, {}, by decide⟩⟩

/-- The hypotheses of OpenWireSlots can be met, clause by clause. -/
theorem test_hyps_OpenWireSlots :
    (∃ (s : State), s.passDue = true) ∧
    (∃ (s : State), s.beat.num.toNat % (s.nat .OW_PERIOD * 1000) ≠ 0) ∧
    (∃ (s : State), ∃ (g : Fin 4), ∃ (x : OwSeg), ∃ (j p : Nat), s.integ.seg[g.val]? = some x ∧ x.due = some j ∧ x.pass = some p
      ∧ p < 100 ∧ (s.pinKind g j).isSome = true) ∧
    (∃ (s : State), ∃ (g : Fin 4), ∃ (x : OwSeg), ∃ (j p : Nat), s.integ.seg[g.val]? = some x ∧ x.due = some j ∧ x.pass = some p
      ∧ 100 ≤ p ∧ j ∈ x.again ∧ (s.pinKind g j).isSome = true) ∧
    (∃ (s : State), ∃ (g : Fin 4), ∃ (x : OwSeg), ∃ (j : Nat), s.integ.seg[g.val]? = some x ∧ x.due = some j ∧ x.pass = none ∧
      (s.pinKind g j).isSome = true) ∧
    (∃ (s : State), ∃ (g : Fin 4), ∃ (x : OwSeg), s.integ.seg[g.val]? = some x ∧ x.due = none) ∧
    (∃ (s : State), ∃ (g : Fin 4), ∃ (x : OwSeg), ∃ (j p : Nat), s.integ.seg[g.val]? = some x ∧ x.due = some j ∧ x.pass = some p
      ∧ p < 100 ∧ s.pinKind g j = none) ∧
    (∃ (s : State), ∃ (g : Fin 4), ∃ (j : Fin 25), (s.pin g j).clearDue = true ∧ s.integ.seg.length = 4 ∧ (s.owSeg
      g).pins.length = 25 ∧ s.fltShown = none ∧ s.beat.running = true) ∧
    (∃ (s : State), ∃ (g : Fin 4), ∃ (j : Fin 25), (s.pin g j).clearDue = false) :=
  ⟨⟨{ live with cfg.image := img [prm .CELL 96 1] }, by decide⟩,
   ⟨{ live with beat.num := 1 }, by decide⟩,
   ⟨{ live with integ.seg := List.replicate 4 { due := some 24, pass := some 99 }, cfg.image := img [prm .CELL 96 1] }, 3,
    { due := some 24, pass := some 99 }, 24, 99, by decide⟩,
   ⟨{ live with integ.seg := List.replicate 4 { due := some 0, pass := some 100, again := [0] }, cfg.image := img [prm .CELL 1 1] },
    0, { due := some 0, pass := some 100, again := [0] }, 0, 100, by decide⟩,
   ⟨{ live with integ.seg := List.replicate 4 { due := some 0 }, cfg.image := img [prm .CELL 1 1] }, 0, { due := some 0 }, 0,
    by decide⟩,
   ⟨live, 3, {}, by decide⟩,
   ⟨{ live with integ.seg := List.replicate 4 { due := some 24, pass := some 99 }, cfg.image := img [prm .CELL 24 0] }, 0,
    { due := some 24, pass := some 99 }, 24, 99, by decide⟩,
   ⟨{ live with integ.seg := List.replicate 4 { pins := List.replicate 25 { clearDue := true } } }, 3, 24, by decide⟩,
   ⟨live, 0, 0, by decide⟩⟩

/-- The hypotheses of IntegrityChecks can be met, clause by clause. -/
theorem test_hyps_IntegrityChecks :
    (∃ (s : State), ∃ (g : Fin 4), ∃ (j : Fin 25), s.evalAt 5 ∧ s.works .a = true ∧ s.suspectDue g j = true ∧ s.integ.seg.length
      = 4 ∧ (s.owSeg g).pins.length = 25) ∧
    (∃ (s : State), ∃ (g : Fin 4), ∃ (j : Fin 25), s.evalAt 6 ∧ (s.pin g j).opn = true ∧ (s.pin g j).expired = false ∧ 1000 *
      s.nat .OW_GRACE ≤ (s.pin g j).graceBeats ∧ s.integ.seg.length = 4 ∧ (s.owSeg g).pins.length = 25) ∧
    (∃ (s : State), ∃ (c : Fin 96), s.evalAt 3 ∧ s.checkDue (c.val + 1) = true ∧ s.meas.shown.cell.length = 96 ∧ s.srcWhole ∧
      s.integ.seg.length = 4 ∧ (s.owSeg (c / 24)).pins.length = 25) ∧
    (∃ (s : State), s.evalAt 4 ∧ s.integ.sumA.overs = 10 ∧ s.integ.sumA.mis = false ∧ s.integ.seg.length = 4 ∧ s.integ.seg.all
      (fun x => x.pins.length == 25) = true) ∧
    (∃ (s : State), s.evalAt 4) ∧
    (∃ (s : State), s.evalAt 4 ∧ s.integ.sumA.withins = 10 ∧ s.integ.sumA.mis = true ∧ s.integ.sumB = s.integ.sumA) ∧
    (∃ (s : State), ∃ (g : Fin 4), ∃ (j : Fin 25), ∃ (c : Fin 96), ∃ (k : Nat), s.evalAt k ∧ k ≤ 3) :=
  ⟨⟨{ live with beat.eStage := 5, cfg.image := img [prm .CELL 3 1, prm .CELL 4 1], integ.seg := List.replicate 4 { pins := List.replicate 25 { sign := 2 } } },
    0, 3, by decide⟩,
   ⟨{ live with beat.eStage := 6, integ.seg := List.replicate 4 { pins := List.replicate 25 { opn := true, graceBeats := 30000 } } },
    3, 24, by decide⟩,
   ⟨{ live with beat.eStage := 3, cfg.image := img [prm .CELL 96 1], meas.shown.cell := List.replicate 96 {}, meas.shown.chk := List.replicate 96 { overCnt := 2 } },
    95, by decide +kernel⟩,
   ⟨{ live with beat.eStage := 4, integ.sumA.overs := 10 }, by decide⟩,
   ⟨{ live with beat.eStage := 4, integ.sumA.withins := 10, integ.sumA.mis := true, integ.sumB.overs := 10 }, by decide⟩,
   ⟨{ live with beat.eStage := 4, integ.sumA := { withins := 10, mis := true }, integ.sumB := { withins := 10, mis := true } },
    by decide⟩,
   ⟨{ live with beat.eStage := 3 }, 3, 24, 95, 3, by decide⟩⟩

/-- The hypotheses of RetriesAndScrub can be met, clause by clause. -/
theorem test_hyps_RetriesAndScrub :
    (∃ (s : State), ∃ (g : Fin 4), ∃ (ch : Ch), ∃ (it : LinkItem), s.srcWhole ∧ s.injects (8 + 2 * g.val + (if ch = .a then 0
      else 1)) = false) ∧
    (∃ (s : State), ∃ (g : Fin 4), ∃ (ch : Ch), ∃ (it : LinkItem), ∃ (i : InjRun), s.flt.injRun = some i ∧ i.target = 8 + 2 *
      g.val + (if ch = .a then 0 else 1) ∧ i.hit = false ∧ i.seen = none) ∧
    (∃ (s : State), ∃ (m : Mem), ∃ (w : Nat), ∃ (i : InjRun), ∃ (ok : Bool), s.flt.injRun = some i ∧ i.target = 2 + 2 * memIx m
      ∧ i.hit = false ∧ i.seen = none ∧ w = injWord m) ∧
    (∃ (s : State), ∃ (m : Mem), ∃ (w : Nat), s.srcWhole ∧ s.injRead m w = false) :=
  ⟨⟨live, 3, .b, .current true, by decide +kernel⟩,
   ⟨{ live with flt.injRun := some { target := 15, full := true } }, 3, .b, .current true, { target := 15, full := true },
    by decide +kernel⟩,
   ⟨{ live with flt.injRun := some { target := 2, full := true } }, .sramA, 0x002B0000 / 32, { target := 2, full := true },
    true, by decide⟩,
   ⟨live, .mram, 5, by decide +kernel⟩⟩

/-- The hypotheses of Insulation can be met, clause by clause. -/
theorem test_hyps_Insulation :
    (∃ (s : State), ∃ (pe : Nat), ∃ (i : IsoS), s.srcWhole ∧ s.on .ISO_EN = true ∧ s.beat.running = true ∧ s.works .a = true ∧
      s.beat.num.toNat % (2 * s.isoP) = 0 ∧ ((s.meas.iso.cycle = none ∧ i = s.meas.iso ∨ ∃ c, s.meas.iso.cycle = some c ∧ 2
      * s.isoP ≤ (s.beat.num - c.start).toNat ∧ i = s.meas.iso.afterCycle c (s.nat .ISO_WARN) (s.nat .ISO_TRIP)))) ∧
    (∃ (s : State), ∃ (c : IsoCycle), s.meas.iso.cycle = some c ∧ (s.beat.num - c.start).toNat = s.isoP ∧ s.meas.iso.phaseN =
      false ∧ s.works .a = true) ∧
    (∃ (s : State), s.meas.iso.cycle = none) ∧
    (∃ (s : State), s.meas.iso.closeDue = some false) ∧
    (∃ (s : State), s.meas.iso.closeDue = some true) ∧
    (∃ (s : State), ∃ (c : IsoCycle), ∃ (k : Nat), s.meas.iso.cycle = some c ∧ 2 * s.isoP ≤ (s.beat.num - c.start).toNat ∧
      c.outcome = .inl k) ∧
    (∃ (s : State), ∃ (c : IsoCycle), ∃ (rp rn : Int), s.meas.iso.cycle = some c ∧ 2 * s.isoP ≤ (s.beat.num - c.start).toNat ∧
      c.outcome = .inr (rp, rn)) ∧
    (∃ (s : State), s.meas.iso.closeDue = none) ∧
    (∃ (s : State), ∃ (c : IsoCycle), s.meas.iso.cycle = some c ∧ (s.beat.num - c.start).toNat < 2 * s.isoP) :=
  ⟨⟨{ live with cfg.image := img [prm .ISO_EN 0 1] }, 1001, {}, by decide +kernel, by decide +kernel, by decide +kernel,
    by decide +kernel, by decide +kernel, .inl ⟨rfl, rfl⟩⟩,
   ⟨{ live with beat.num := 1000, meas.iso.cycle := some {} }, {}, by decide⟩,
   ⟨live, by decide⟩,
   ⟨{ live with meas.iso.closeDue := some false }, by decide⟩,
   ⟨{ live with meas.iso.closeDue := some true }, by decide⟩,
   ⟨{ live with beat.num := 2000, meas.iso.cycle := some { peOpen := true } }, { peOpen := true }, 5, by decide⟩,
   ⟨{ live with beat.num := 2000, meas.iso.cycle := some isoGood }, isoGood, 375000, 253165, by decide⟩,
   ⟨live, by decide⟩,
   ⟨{ live with beat.num := 1999, meas.iso.cycle := some {} }, {}, by decide⟩⟩

/-- The hypotheses of ConversionsAndLatches can be met, clause by clause. -/
theorem test_hyps_ConversionsAndLatches :
    (∃ (s : State), ∃ (vals : List (Option (BitVec 16))), ∃ (retried : BitVec 4), ∃ (die : List (Option Int)), ∃ (i : Nat),
      s.beat.num.toNat % 10 < 8 ∧ s.ratioUp = true ∧ s.meas.thm.length = 32 ∧ s.srcWhole ∧ i < 32) ∧
    (∃ (s : State), ∃ (a : BitVec 16), ∃ (l : List (Option (BitVec 16))), ∃ (retried : BitVec 4), ∃ (die : List (Option Int)),
      s.beat.num.toNat % 10 = 8 ∧ s.ratioUp = true ∧ s.on .ID_EN = true) ∧
    (∃ (s : State), ∃ (a : BitVec 16), ∃ (l : List (Option (BitVec 16))), ∃ (retried : BitVec 4), ∃ (die : List (Option Int)),
      s.beat.num.toNat % 10 = 9 ∧ s.ratioUp = true ∧ s.srcWhole) ∧
    (∃ (s : State), ∃ (l : List (Option (BitVec 16))), ∃ (retried : BitVec 4), ∃ (die : List (Option Int)), s.beat.num.toNat %
      10 = 8 ∧ s.ratioUp = true ∧ s.on .ID_EN = true ∧ s.srcWhole) ∧
    (∃ (s : State), ∃ (l : List (Option (BitVec 16))), ∃ (retried : BitVec 4), ∃ (die : List (Option Int)), s.beat.num.toNat %
      10 = 9 ∧ s.ratioUp = true ∧ s.srcWhole) ∧
    (∃ (t : List (Int × Int)), ∃ (a : Nat), 64888 ≤ a) ∧
    (∃ (t : List (Int × Int)), ∃ (a : Nat), a ≤ 326) ∧
    (∃ (t : List (Int × Int)), ∃ (a : Nat), 326 < a ∧ a < 64888) ∧
    (∃ (s : State), ∃ (p : Path), s.meas.snap = none) ∧
    (∃ (s : State), ∃ (p : Path), s.meas.snap.isSome = true) ∧
    (∃ (s : State), ∃ (p : Path), ∃ (q : Int × Int), s.visible.q[0]? = some q) ∧
    (∃ (s : State), ∃ (p : Path), ∃ (q : Int × Int), s.visible.q[1]? = some q) :=
  ⟨⟨live, List.replicate 4 (some 1000), 0, [], 31, by decide +kernel⟩,
   ⟨{ live with beat.num := 8, cfg.image := img [prm .ID_EN 0 1] }, 5, [], 0, [], by decide⟩,
   ⟨{ live with beat.num := 9 }, 32704, [], 1, [], by decide +kernel⟩,
   ⟨{ live with beat.num := 8, cfg.image := img [prm .ID_EN 0 1] }, [], 0, [], by decide +kernel⟩,
   ⟨{ live with beat.num := 9, cfg.image := img [] }, [], 0, [], by decide +kernel⟩,
   ⟨[], 64888, by decide⟩,
   ⟨[], 326, by decide⟩,
   ⟨[], 327, by decide⟩,
   ⟨live, .host, by decide⟩,
   ⟨{ live with meas.snap := some (live.live, {}) }, .host, by decide⟩,
   ⟨live, .host, (0, 0), by decide⟩,
   ⟨live, .ring, (0, 0), by decide⟩⟩

/-- The hypotheses of TransmitObjects can be met, clause by clause. -/
theorem test_hyps_TransmitObjects :
    (∃ (s : State), ∃ (p : CPort), ∃ (k : Fin 128), ∃ (d x : List Byte), ∃ (o : ObjS), (s.can p).due.find? (fun y => y.1 ==
      k.val) = some (k.val, d) ∧ (s.can p).obj[k.val]? = some o ∧ s.xtalB = true ∧ x = padTo (dlcLen (s.objDlc p k)) (if
      s.objCont p k = 3 then s.reqWithdraw.reqStart.ireqData else if s.objCont p k = 6 then bytesOf 1 ((s.can p).txCyc % 64)
      ++ [0, 0, 0] else if s.objCont p k = 7 then s.calData (s.can p).txCyc else d)) ∧
    (∃ (s : State), ∃ (p : CPort), ∃ (k : Fin 128), ∃ (d : List Byte), (s.can p).due.find? (fun y => y.1 == k.val) = some
      (k.val, d) ∧ s.xtalB = false) ∧
    (∃ (s : State), ∃ (p : CPort), ∃ (k : Fin 128), (s.can p).due.find? (fun x => x.1 == k.val) = none) ∧
    (∃ (s : State), ∃ (p : CPort), ∃ (k : Fin 128), ∃ (o : ObjS), (s.can p).obj[k.val]? = some o ∧ s.objTx p k = true ∧
      s.objCont p k = 0 ∧ o.txs ≠ .pending ∧ o.txs ≠ .onBus ∧ s.plainFed = true ∧ s.xtalB = true) ∧
    (∃ (s : State), ∃ (p : CPort), ∃ (k : Fin 128), ∃ (key : BitVec 8), (key ≠ 0xC3 ∨ s.objTx p k = false ∨ s.objCont p k ≠ 0 ∨
      (s.objAt p k).txs = .pending ∨ (s.objAt p k).txs = .onBus ∨ s.plainFed = false)) ∧
    (∃ (s : State), ∃ (p : CPort), ∃ (k : Fin 128), ∃ (key : BitVec 8), (key ≠ 0xC3 ∨ s.objTx p k = false)) ∧
    (∃ (s : State), ∃ (p : CPort), ∃ (k : Fin 128), ∃ (o : ObjS), (s.can p).obj[k.val]? = some o ∧ s.objTx p k = true ∧ o.txs =
      .pending) ∧
    (∃ (s : State), ∃ (p : CPort), ∃ (k : Fin 128), ∃ (o : ObjS), (s.can p).obj[k.val]? = some o ∧ s.objTx p k = true ∧ o.txs =
      .onBus) ∧
    (∃ (s : State), ∃ (p : CPort), ∃ (k : Fin 128), ∃ (o : ObjS), (s.can p).obj[k.val]? = some o ∧ s.objTx p k = true ∧ o.txs ≠
      .pending ∧ o.txs ≠ .onBus) ∧
    (∃ (s : State), ∃ (p : CPort), ∃ (k : Fin 128), ∃ (o : ObjS), ∃ (how : BusEnd), ∃ (ofs : BitVec 16), ∃ (dly : Nat), ∃ (once
      fast : Bool), (s.can p).obj[k.val]? = some o ∧ s.canLive p = true ∧ ((o.txs = .onBus ∨ o.txs = .pending)) ∧ once =
      (o.cancel || (s.on .ONESHOT (objIx p k) && s.objCont p k != 1)) ∧ fast = (s.objPar .FMT p k == 2 && s.on .TDC (portIx
      p)) ∧ (how = .complete → fast = true → dly + s.nat .TDCO (portIx p) ≤ 127)) ∧
    (∃ (s : State), ∃ (p : CPort), ∃ (k : Fin 128), ∃ (o : ObjS), ∃ (ofs : BitVec 16), ∃ (dly : Nat), (s.can p).obj[k.val]? =
      some o ∧ s.canLive p = true ∧ o.txs = .onBus ∧ o.cancel = false ∧ s.on .ONESHOT (objIx p k) = false ∧ s.objPar .FMT p
      k = 2 ∧ s.on .TDC (portIx p) = true ∧ 127 < dly + s.nat .TDCO (portIx p) ∧ (s.can p).txErr < 120) ∧
    (∃ (s : State), ∃ (p : CPort), ∃ (k : Fin 128), ∃ (how : BusEnd), ∃ (ofs : BitVec 16), ∃ (dly : Nat), s.canLive p = false) :=
  ⟨⟨{ live with can1.due := [(0, [1])], can1.state := .active, cfg.image := img [prm .CAN_MODE 1 1] }, .can1, 0, [1], [], {},
    by decide⟩,
   ⟨{ live with xtalB := false, can1.due := [(0, [1])], can1.state := .active, cfg.image := img [prm .CAN_MODE 1 1] }, .can1,
    0, [1], by decide⟩,
   ⟨live, .can2, 127, by decide⟩,
   ⟨{ live with can1.state := .active, cfg.image := img [prm .CAN_MODE 1 1, prm .ID 0 5, prm .DIR 0 1, prm .CONT 0 0] }, .can1,
    0, {}, by decide⟩,
   ⟨live, .can1, 0, 0, by decide⟩,
   ⟨live, .can1, 127, 0, by decide⟩,
   ⟨{ live with can1.obj := List.replicate 128 { txs := .pending }, cfg.image := img [prm .ID 0 5, prm .DIR 0 1] }, .can1, 0,
    { txs := .pending }, by decide⟩,
   ⟨{ live with can2.obj := List.replicate 128 { txs := .onBus }, cfg.image := img [prm .ID 255 5, prm .DIR 255 1] }, .can2,
    127, { txs := .onBus }, by decide⟩,
   ⟨{ live with cfg.image := img [prm .ID 255 5, prm .DIR 255 1] }, .can2, 127, {}, by decide⟩,
   ⟨{ live with can1.state := .active, can1.obj := List.replicate 128 { txs := .onBus } }, .can1, 0, { txs := .onBus },
    .complete, 0, 0, false, false, by decide⟩,
   ⟨{ live with can1.state := .active, can1.obj := List.replicate 128 { txs := .onBus }, cfg.image := img [prm .FMT 0 2, prm .TDC 1 1] },
    .can1, 0, { txs := .onBus }, 0, 128, by decide⟩,
   ⟨live, .can2, 127, .complete, 0, 0, by decide⟩⟩

/-- The hypotheses of ReceiveObjects can be met, clause by clause. -/
theorem test_hyps_ReceiveObjects :
    (∃ (s : State), ∃ (p : CPort), ∃ (f : CanFrame), ∃ (endNs k : Nat), ∃ (o : ObjS), s.canLive p = true ∧ s.rxObj p f = some k
      ∧ (s.can p).obj[k]? = some o) ∧
    (∃ (s : State), ∃ (p : CPort), ∃ (f : CanFrame), ∃ (endNs : Nat), s.canLive p = true ∧ s.rxObj p f = none ∧ (∀ i < 32,
      s.filterHits p f i = false)) ∧
    (∃ (s : State), ∃ (p : CPort), ∃ (f : CanFrame), ∃ (endNs i : Nat), s.canLive p = true ∧ s.rxObj p f = none ∧ i < 32 ∧
      s.filterHits p f i = true ∧ (∀ j < i, s.filterHits p f j = false)) ∧
    (∃ (s : State), ∃ (p : CPort), ∃ (f : CanFrame), ∃ (endNs : Nat), s.canLive p = false) ∧
    (∃ (s : State), ∃ (pa : Path), ∃ (p : CPort), ∃ (o : ObjS), (s.can p).obj[(s.can p).osel.toNat]? = some o) :=
  ⟨⟨{ live with can1.state := .active, cfg.image := img [prm .ID 0 5] }, .can1, fr 5 1 [7], 0, 0, {}, by decide⟩,
   ⟨{ live with can1.state := .active }, .can1, fr 5 1 [7], 0, by decide⟩,
   ⟨{ live with can1.state := .active, cfg.image := img [prm .TARGET 0 1, prm .MASK 0 0] }, .can1, fr 5 1 [7], 0, 0, by decide⟩,
   ⟨live, .can1, fr 5 1 [7], 0, by decide⟩,
   ⟨live, .host, .can1, {}, by decide⟩⟩

/-- The hypotheses of CanPorts (PortStates) can be met, clause by clause. -/
theorem test_hyps_PortStates :
    (∃ (s : State), ∃ (p : CPort), ∃ (tec rxc : Nat), ∃ (e : Option (Fin 8 × Bool)), s.canLive p = true ∧ tec ≤ 255 ∧ ((127 <
      tec ∨ 127 < rxc))) ∧
    (∃ (s : State), ∃ (p : CPort), ∃ (tec rxc : Nat), ∃ (e : Option (Fin 8 × Bool)), s.canLive p = true ∧ 255 < tec) ∧
    (∃ (s : State), ∃ (p : CPort), ∃ (tec rxc : Nat), ∃ (e : Option (Fin 8 × Bool)), s.canLive p = true ∧ tec ≤ 127 ∧ rxc ≤ 127) ∧
    (∃ (s : State), ∃ (p : CPort), ∃ (tec rxc : Nat), ∃ (e : Fin 8), ∃ (dp : Bool), s.canLive p = true) ∧
    (∃ (s : State), ∃ (p : CPort), ∃ (tec rxc : Nat), s.canLive p = true) ∧
    (∃ (s : State), ∃ (p : CPort), ∃ (tec rxc : Nat), ∃ (e : Option (Fin 8 × Bool)), s.canLive p = false) ∧
    (∃ (s : State), ∃ (p : CPort), (s.can p).state = .recovery) ∧
    (∃ (s : State), ∃ (p : CPort), ∃ (b : Bool), (s.can p).state = .hold ∧ (s.can p).holdRun = true ∧ (s.can p).left = 0 ∧
      s.srcWhole) ∧
    (∃ (s : State), ∃ (p : CPort), ∃ (b : Bool), (s.can p).state ≠ .recovery ∧ ((s.can p).state ≠ .hold ∨ (s.can p).holdRun =
      false ∨ (s.can p).left ≠ 0)) ∧
    (∃ (s : State), ∃ (p : CPort), ∃ (m : Nat), ∃ (w : Wuf), ∃ (x : WakeSeen), ∃ (n : Nat), ∃ (k : BitVec 3), s.pwr.state =
      .listen ∧ s.pwr.canModes[portIx p - 1]? = some m ∧ s.pwr.canWufs[portIx p - 1]? = some w ∧ ((x = .pattern ∧ m.testBit
      0 = true ∧ n = (s.can p).wakeErrs ∧ k = 1 ∨ (∃ f, x = .frame f ∧ f.fdf = false ∧ m.testBit 1 = true ∧ w.hits f = true
      ∧ n = (s.can p).wakeErrs - 1 ∧ k = 2) ∨ x = .badFrame ∧ m.testBit 1 = true ∧ 31 ≤ (s.can p).wakeErrs ∧ n = 32 ∧ k =
      4)) ∧ (if p = .can1 then 0x20 else 0x40) &&& s.pwr.wakeEn ≠ 0 ∧ s.pwr.vsGood = true) ∧
    (∃ (s : State), ∃ (p : CPort), ∃ (x : WakeSeen), s.pwr.state ≠ .listen) ∧
    (∃ (s : State), ∃ (p : CPort), ∃ (x : WakeSeen), s.pwr.state = .listen ∧ (((if p = .can1 then 0x20 else 0x40) &&&
      s.pwr.wakeEn = 0 ∨ s.pwr.canModes[portIx p - 1]? = some 0 ∨ (x = .badFrame ∧ (s.can p).wakeErrs < 31)))) ∧
    (∃ (w : Wuf), ∃ (f : CanFrame), ∃ i, i < 29 ∧ w.idMask.getLsbD i = true) ∧
    (∃ (w : Wuf), ∃ (f : CanFrame), ∃ i, i < 8 ∧ w.dmask.testBit i = true ∧ i < f.dlc.toNat) :=
  ⟨⟨{ live with can1.state := .active }, .can1, 128, 0, none, by decide +kernel⟩,
   ⟨{ live with can1.state := .passive }, .can1, 256, 0, some (3, true), by decide⟩,
   ⟨{ live with can2.state := .passive }, .can2, 127, 127, none, by decide⟩,
   ⟨{ live with can1.state := .active }, .can1, 8, 0, 4, true, by decide +kernel⟩,
   ⟨{ live with can1.state := .active }, .can1, 8, 0, by decide⟩,
   ⟨live, .can1, 8, 0, none, by decide⟩,
   ⟨{ live with can2.state := .recovery }, .can2, by decide⟩,
   ⟨{ live with can1.state := .hold, can1.holdRun := true }, .can1, false, by decide +kernel⟩,
   ⟨live, .can1, false, by decide⟩,
   ⟨{ live with pwr.state := .listen, pwr.canModes := [3, 0], pwr.wakeEn := 0x7D, pwr.vsGood := true, pwr.canWufs := [{}, {}] },
    .can1, 3, {}, .pattern, 0, 1, by decide, by decide, by decide, .inl ⟨rfl, by decide, rfl, rfl⟩, by decide, by decide⟩,
   ⟨live, .can1, .badFrame, by decide⟩,
   ⟨{ live with pwr.state := .listen, pwr.canModes := [3, 0], pwr.wakeEn := 0x7D, pwr.vsGood := true, pwr.canWufs := [{}, {}] },
    .can1, .badFrame, by decide, .inr (.inr ⟨rfl, by decide⟩)⟩,
   ⟨{ id := 5, idMask := 7, dlc := 1 }, fr 5 1 [4], 2, by decide⟩,
   ⟨{ dlc := 2, dmask := 2, d0 := 0x00070000 }, fr 5 2 [4, 7], 1, by decide⟩⟩

/-- The hypotheses of CanPorts (TimeTriggered) can be met, clause by clause. -/
theorem test_hyps_TimeTriggered :
    (∃ (s : State), ∃ (us cy mark k : Nat), ∃ (o : ObjS), mark = 80 * us + cy ∧ s.nat .TT_ROLE = 2 ∧ (s.can s.ttPort).ttState ≠
      2 ∧ s.canLive s.ttPort = true ∧ (∀ x ∈ (s.can s.ttPort).obj, x.txs ≠ .onBus) ∧ s.nominalMark ≤ mark ∧ (s.can
      s.ttPort).obj[k]? = some o ∧ o.txs = .pending ∧ s.objCont s.ttPort k = 6 ∧ (∀ (j : Nat) (x : ObjS), j < k → (s.can
      s.ttPort).obj[j]? = some x → x.txs = .pending → s.objCont s.ttPort j ≠ 6)) ∧
    (∃ (s : State), ∃ (us cy : Nat), ((s.can s.ttPort).ttState = 2 ∨ s.nat .TT_ROLE ≠ 2 ∨ 80 * us + cy < s.nominalMark ∨
      s.canLive s.ttPort = false ∨ (∃ x ∈ (s.can s.ttPort).obj, x.txs = .onBus))) ∧
    (∃ (s : State), ∃ (f : CanFrame), ∃ (iv : Nat), ∃ (dev : Int), s.nat .TT_ROLE = 1 ∧ s.canLive s.ttPort = true ∧ s.refOk f =
      true ∧ (s.can s.ttPort).refId.any (fun i => decide (i ≤ f.id.toNat)) = false) ∧
    (∃ (s : State), ∃ (f : CanFrame), ∃ (iv : Nat), ∃ (dev : Int), s.nat .TT_ROLE = 2 ∧ s.canLive s.ttPort = true ∧ s.refOk f =
      true ∧ (s.can s.ttPort).refId.any (fun i => decide (i ≤ f.id.toNat)) = false) ∧
    (∃ (s : State), ∃ (f : CanFrame), ∃ (iv : Nat), ∃ (dev : Int), (s.refOk f = false ∨ s.nat .TT_ROLE = 0 ∨ (s.can
      s.ttPort).refId.any (fun i => decide (i ≤ f.id.toNat)) = true)) ∧
    (∃ (s : State), (s.can s.ttPort).ttState = 2 ∧ 3 ≤ (s.can s.ttPort).higherMissed) ∧
    (∃ (s : State), ∃ (f : CanFrame), ∃ (n : Nat), (s.can s.ttPort).refPrev = some n) ∧
    (∃ (s : State), ((s.can s.ttPort).higherMissed < 3 ∨ (s.can s.ttPort).ttState ≠ 2)) ∧
    (∃ (s : State), ∃ (f : CanFrame), ∃ (sec frac : Nat), ∃ (d x : Int), s.nat .TT_ROLE = 1 ∧ s.on .CAL_EN = true ∧ f.dlc = 8 ∧
      (numAt f.data 7 1).testBit 0 = true ∧ numAt f.data 6 1 ∈ (s.can s.ttPort).refCycs ∧ d = ((numAt f.data 0 4 * 65536 +
      numAt f.data 4 2 : Nat) : Int) - ((sec * 65536 + frac : Nat) : Int) ∧ x = ((s.log.calSec.toNat * 65536 +
      s.log.calFrac.toNat : Nat) : Int) + d ∧ s.fltShown = none ∧ s.beat.running = true ∧ s.nat .CAL_STEP * 65536 < 1000 *
      d.natAbs) ∧
    (∃ (s : State), ∃ (f : CanFrame), ∃ (sec frac : Nat), ∃ (d x : Int), s.nat .TT_ROLE = 1 ∧ s.on .CAL_EN = true ∧ f.dlc = 8 ∧
      (numAt f.data 7 1).testBit 0 = true ∧ numAt f.data 6 1 ∈ (s.can s.ttPort).refCycs ∧ d = ((numAt f.data 0 4 * 65536 +
      numAt f.data 4 2 : Nat) : Int) - ((sec * 65536 + frac : Nat) : Int) ∧ x = ((s.log.calSec.toNat * 65536 +
      s.log.calFrac.toNat : Nat) : Int) + d ∧ s.fltShown = none ∧ s.beat.running = true ∧ 1000 * d.natAbs ≤ s.nat .CAL_STEP
      * 65536) ∧
    (∃ (s : State), ∃ (f : CanFrame), ∃ (sec frac : Nat), (s.on .CAL_EN = false ∨ s.nat .TT_ROLE ≠ 1 ∨ numAt f.data 6 1 ∉ (s.can
      s.ttPort).refCycs)) :=
  ⟨⟨{ live with can1.state := .active, cfg.image := img [prm .TT_ROLE 0 2, prm .CAN_MODE 1 1, prm .ID 0 5, prm .DIR 0 1, prm .CONT 0 6], can1.obj := List.replicate 128 { txs := .pending } },
    62, 40, 5000, 0, { txs := .pending }, by decide, by decide, by decide, by decide,
    by intro x h; rw [List.eq_of_mem_replicate h]; decide, by decide, by decide, by decide, by decide,
    fun j _ h => absurd h (Nat.not_lt_zero j)⟩,
   ⟨{ live with can1.ttState := 2 }, 0, 0, .inl rfl⟩,
   ⟨{ live with can1.state := .active, cfg.image := img [prm .TT_ROLE 0 1, prm .REF_ID 0 0] }, fr 0 1 [0], 0, 0, by decide⟩,
   ⟨{ live with can1.state := .active, cfg.image := img [prm .TT_ROLE 0 2, prm .REF_ID 0 5] }, fr 4 1 [0], 0, 0, by decide⟩,
   ⟨live, fr 0 0 [], 0, 0, by decide⟩,
   ⟨{ live with can1.ttState := 2, can1.higherMissed := 3 }, by decide⟩,
   ⟨{ live with can1.refPrev := some 3 }, fr 9 4 [4, 0, 0, 0], 3, by decide⟩,
   ⟨{ live with can1.ttState := 2, can1.higherMissed := 2 }, by decide⟩,
   ⟨{ live with can1.refCycs := [0], cfg.image := img [prm .TT_ROLE 0 1, prm .CAL_EN 0 1, prm .CAL_STEP 0 500] }, fr 9 8 [0, 0,
    0, 1, 0, 0, 0, 1], 0, 0, 65536, 65536, by decide⟩,
   ⟨{ live with can1.refCycs := [0], cfg.image := img [prm .TT_ROLE 0 1, prm .CAL_EN 0 1, prm .CAL_STEP 0 500] }, fr 9 8 [0, 0,
    0, 0, 0, 5, 0, 1], 0, 0, 5, 5, by decide⟩,
   ⟨live, fr 0 0 [], 0, 0, by decide⟩⟩

/-- The hypotheses of SafeTelegrams can be met, clause by clause. -/
theorem test_hyps_SafeTelegrams :
    (∃ (s : State), ∃ (n : Fin 64), ∃ (p : CPort), ∃ (k : Nat), ∃ (d : List Byte), ∃ (o : ObjS), (((s.can p).due.map
      (·.1)).filter fun j => s.objCont p j == 1 && s.nat .TEL (objIx p j) == n.val) = [k] ∧ (s.can p).due.find? (fun y =>
      y.1 == k) = some (k, d) ∧ (s.can p).obj[k]? = some o ∧ s.xtalB = true ∧ s.canOn p = true ∧ s.canMode p = 1) ∧
    (∃ (s : State), ∃ (n : Fin 64), (∀ p : CPort, (((s.can p).due.map (·.1)).filter fun j => s.objCont p j == 1 && s.nat .TEL
      (objIx p j) == n.val) = [])) ∧
    (∃ (s : State), ∃ (p : CPort), ∃ (f : CanFrame), ∃ (n : Nat), ∃ (ch : Ch), ∃ (x : TelRx), ∃ (i : TelIn), s.telOf p f = some
      n ∧ n < 64 ∧ s.runs ch = true ∧ (s.chan ch).tel[n]? = some x ∧ i = ⟨n, p, f.data, if s.beat.offNs < 840000 then
      s.beat.num else s.beat.num + 1⟩) ∧
    (∃ (s : State), ∃ (p : CPort), ∃ (f : CanFrame), s.telOf p f = none) ∧
    (∃ (s : State), ∃ (n : Fin 64), ∃ (ch : Ch), ∃ (x : TelRx), s.evalAt 23 ∧ s.telUsed (64 + n.val) = true ∧ s.evals ch = true
      ∧ n.val ∉ s.safe.telJudged ∧ (s.chan ch).tel[n.val]? = some x) ∧
    (∃ (s : State), ∃ (n : Fin 64), ∃ (ch : Ch), ∃ (x : TelRx), s.evalAt 24 ∧ s.telUsed (64 + n.val) = true ∧ s.evals ch = true
      ∧ n.val ∈ s.safe.telJudged ∧ n.val ∉ s.safe.telTimed ∧ (s.chan ch).tel[n.val]? = some x) ∧
    (∃ (s : State), ∃ (n : Fin 64), ∃ (a b : TelRx), ∃ (k : ReqKind), s.nat .TCONT (64 + n.val) = 1 ∧ s.telUsed (64 + n.val) =
      true ∧ s.cha.tel[n.val]? = some a ∧ s.chb.tel[n.val]? = some b ∧ (s.present .a = true ∨ s.present .b = true) ∧
      (s.present .a = true → a.cmd = true) ∧ (s.present .b = true → b.cmd = true) ∧ (s.present .a = true → s.present .b =
      true → a.payload = b.payload) ∧ cmdKind (if s.present .a then a.payload else b.payload) = some k) ∧
    (∃ (s : State), ∃ (n : Fin 64), ∃ (a b : TelRx), s.nat .TCONT (64 + n.val) = 1 ∧ s.telUsed (64 + n.val) = true ∧
      s.cha.tel[n.val]? = some a ∧ s.chb.tel[n.val]? = some b ∧ (a.cmd = true ∨ b.cmd = true) ∧ ((s.present .a = true ∧
      a.cmd = false) ∨ (s.present .b = true ∧ b.cmd = false) ∨ (s.present .a = true ∧ s.present .b = true ∧ a.payload ≠
      b.payload) ∨ cmdKind (if s.present .a then a.payload else b.payload) = none)) ∧
    (∃ (s : State), ∃ (n : Fin 64), s.cmdDue n.val = false) ∧
    (∃ (l : List Byte), numAt l 1 1 ≠ 255 - numAt l 0 1) :=
  ⟨⟨{ live with can1.state := .active, can1.due := [(0, [])], can1.obj := [{ txs := .sent }], cfg.image := img [prm .CONT 0 1, prm .TEL 0 3, prm .CAN_MODE 1 1] },
    3, .can1, 0, [], { txs := .sent }, by decide⟩,
   ⟨live, 63, fun p => by cases p <;> rfl⟩,
   ⟨{ live with cfg.image := img [prm .L 64 14, prm .ID 0 5, prm .CONT 0 1, prm .TEL 0 0] }, .can1, fr 5 14 tele, 0, .a, {},
    ⟨0, .can1, tele, 0⟩, by decide +kernel⟩,
   ⟨live, .can1, fr 5 0 [], by decide⟩,
   ⟨{ live with beat.eStage := 23, cfg.image := img [prm .L 64 14] }, 0, .a, {}, by decide⟩,
   ⟨{ live with beat.eStage := 24, safe.telJudged := [0], cfg.image := img [prm .L 64 14] }, 0, .b, {}, by decide⟩,
   ⟨{ live with cfg.image := img [prm .L 64 14, prm .TCONT 64 1, prm .REQ_SRC 0 2], cha.tel := [{ cmd := true, payload := [1, 254] }], chb.tel := [{ cmd := true, payload := [1, 254] }] },
    0, { cmd := true, payload := [1, 254] }, { cmd := true, payload := [1, 254] }, .close, by decide⟩,
   ⟨{ live with cfg.image := img [prm .L 64 14, prm .TCONT 64 1, prm .REQ_SRC 0 2], cha.tel := [{ cmd := true, payload := [1, 254] }], chb.tel := [{}] },
    0, { cmd := true, payload := [1, 254] }, {}, by decide⟩,
   ⟨live, 63, by decide⟩,
   ⟨[1, 0], by decide⟩⟩

/-- The hypotheses of SafeTelegrams (TelegramCopies) can be met, clause by clause. -/
theorem test_hyps_TelegramCopies :
    (∃ (s : State), ∃ (n : Nat), ∃ (p : CPort), ∃ (l : List Byte), ∃ (x : TelRx), ∃ (c : TelCopy), s.telOk n x l = false) ∧
    (∃ (s : State), ∃ (n : Nat), ∃ (p : CPort), ∃ (l : List Byte), ∃ (x : TelRx), ∃ (c : TelCopy), s.telOk n x l = true ∧ (numAt
      l 3 1).testBit 0 = true ∧ s.rdOver x = true) ∧
    (∃ (s : State), ∃ (n : Nat), ∃ (p : CPort), ∃ (l : List Byte), ∃ (x : TelRx), ∃ (c : TelCopy), s.telOk n x l = true ∧
      ((numAt l 3 1).testBit 0 = false ∨ s.rdOver x = false) ∧ (x.copies.all fun c => c.seq != BitVec.ofNat 16 (numAt l 4
      2)) = true) ∧
    (∃ (s : State), ∃ (n : Nat), ∃ (p : CPort), ∃ (l : List Byte), ∃ (x : TelRx), ∃ (c : TelCopy), s.telOk n x l = true ∧
      ((numAt l 3 1).testBit 0 = false ∨ s.rdOver x = false) ∧ x.copies = [c] ∧ c.seq = BitVec.ofNat 16 (numAt l 4 2) ∧
      c.port ≠ p ∧ c.bytes = l) ∧
    (∃ (s : State), ∃ (n : Nat), ∃ (p : CPort), ∃ (l : List Byte), ∃ (x : TelRx), ∃ (c : TelCopy), s.telOk n x l = true ∧
      ((numAt l 3 1).testBit 0 = false ∨ s.rdOver x = false) ∧ x.copies = [c] ∧ c.seq = BitVec.ofNat 16 (numAt l 4 2) ∧
      c.port ≠ p ∧ c.bytes ≠ l) ∧
    (∃ (s : State), ∃ (n : Nat), ∃ (p : CPort), ∃ (l : List Byte), ∃ (x : TelRx), ∃ (c : TelCopy), s.telOk n x l = true ∧
      ((numAt l 3 1).testBit 0 = false ∨ s.rdOver x = false) ∧ x.copies = [c] ∧ c.seq = BitVec.ofNat 16 (numAt l 4 2) ∧
      c.port = p) ∧
    (∃ (s : State), ∃ (n : Nat), ∃ (p : CPort), ∃ (l : List Byte), ∃ (x : TelRx), ∃ (c : TelCopy), x.copies = [c] ∧ s.nat
      .T_PAIR ≤ c.wait ∧ c.rd = false ∧ s.telOk n { x with copies := [] } c.bytes = true ∧ x.single.getD 0 < s.nat
      .T_SINGLE) ∧
    (∃ (s : State), ∃ (n : Nat), ∃ (p : CPort), ∃ (l : List Byte), ∃ (x : TelRx), ∃ (c : TelCopy), x.copies = [c] ∧ s.nat
      .T_PAIR ≤ c.wait ∧ c.rd = false ∧ s.telOk n { x with copies := [] } c.bytes = true ∧ s.nat .T_SINGLE ≤ x.single.getD
      0) ∧
    (∃ (s : State), ∃ (n : Nat), ∃ (p : CPort), ∃ (l : List Byte), ∃ (x : TelRx), ∃ (c : TelCopy), x.copies = [c] ∧ c.wait <
      s.nat .T_PAIR) :=
  ⟨⟨live, 0, .can1, [1], {}, { port := .can2, seq := 0, stamp := 0, rd := false, bytes := [] }, by decide⟩,
   ⟨{ live with cfg.image := img [prm .L 64 14, prm .T_RDRX 0 1] }, 0, .can1, teleRd, { rd := some 2000 },
    { port := .can2, seq := 0, stamp := 0, rd := false, bytes := [] }, by decide +kernel⟩,
   ⟨{ live with cfg.image := img [prm .L 64 14] }, 0, .can1, tele, {},
    { port := .can2, seq := 0, stamp := 0, rd := false, bytes := [] }, by decide +kernel⟩,
   ⟨{ live with cfg.image := img [prm .L 64 14] }, 0, .can1, tele,
    { copies := [{ port := .can2, seq := 0, stamp := 0, rd := false, bytes := tele }] },
    { port := .can2, seq := 0, stamp := 0, rd := false, bytes := tele }, by decide +kernel⟩,
   ⟨{ live with cfg.image := img [prm .L 64 14] }, 0, .can1, tele,
    { copies := [{ port := .can2, seq := 0, stamp := 0, rd := false, bytes := [] }] },
    { port := .can2, seq := 0, stamp := 0, rd := false, bytes := [] }, by decide +kernel⟩,
   ⟨{ live with cfg.image := img [prm .L 64 14] }, 0, .can1, tele,
    { copies := [{ port := .can1, seq := 0, stamp := 0, rd := false, bytes := tele }] },
    { port := .can1, seq := 0, stamp := 0, rd := false, bytes := tele }, by decide +kernel⟩,
   ⟨{ live with cfg.image := img [prm .L 64 14, prm .T_PAIR 0 2, prm .T_SINGLE 0 5] }, 0, .can1, tele,
    { copies := [{ port := .can1, seq := 0, stamp := 0, rd := false, bytes := tele , wait := 2 }] },
    { port := .can1, seq := 0, stamp := 0, rd := false, bytes := tele , wait := 2 }, by decide +kernel⟩,
   ⟨{ live with cfg.image := img [prm .L 64 14, prm .T_PAIR 0 2, prm .T_SINGLE 0 5] }, 0, .can1, tele,
    { single := some 5, copies := [{ port := .can1, seq := 0, stamp := 0, rd := false, bytes := tele , wait := 2 }] },
    { port := .can1, seq := 0, stamp := 0, rd := false, bytes := tele , wait := 2 }, by decide +kernel⟩,
   ⟨{ live with cfg.image := img [prm .L 64 14, prm .T_PAIR 0 2] }, 0, .can1, tele,
    { copies := [{ port := .can1, seq := 0, stamp := 0, rd := false, bytes := tele }] },
    { port := .can1, seq := 0, stamp := 0, rd := false, bytes := tele }, by decide +kernel⟩⟩

/-- The hypotheses of RingPorts can be met, clause by clause. -/
theorem test_hyps_RingPorts :
    (∃ (s : State), ∃ (p : RPort), ∃ (x : PortS), s.ringOn = true ∧ ((p = .n ∨ p = .s ∨ 2 ≤ s.ring.role.toNat)) ∧
      s.ring.ports[p.ix]? = some x) ∧
    (∃ (s : State), ∃ (p : RPort), (s.ringOn = false ∨ ((p = .e ∨ p = .w) ∧ s.ring.role.toNat < 2))) ∧
    (∃ (s : State), ∃ (p : RPort), ∃ (x : PortS), ∃ (v : Nat), ∃ (loss : Bool), s.ring.ports[p.ix]? = some x) ∧
    (∃ (s : State), ∃ (p : RPort), ∃ (x : PortS), ∃ (a b ta : Nat), s.ring.ports[p.ix]? = some x ∧ x.turn = some ta ∧ x.up =
      true) ∧
    (∃ (s : State), ∃ (p : RPort), ∃ (x : PortS), ∃ (a b : Nat), s.ring.ports[p.ix]? = some x ∧ (x.turn = none ∨ x.up = false)) :=
  ⟨⟨{ live with cfg.image := img [] }, .n, {}, by decide⟩,
   ⟨{ live with cfg.image := img [] }, .w, by decide⟩,
   ⟨{ live with ring.ports := List.replicate 4 { up := true } }, .w, { up := true }, 16, false, by decide⟩,
   ⟨{ live with ring.ports := List.replicate 4 { up := true, turn := some 2 } }, .e, { up := true, turn := some 2 }, 0, 100, 2,
    by decide⟩,
   ⟨{ live with ring.ports := List.replicate 4 { up := true } }, .e, { up := true }, 0, 100, by decide⟩⟩

/-- The hypotheses of RingPorts (FrameReception) can be met, clause by clause. -/
theorem test_hyps_FrameReception :
    (∃ (s : State), ∃ (p : RPort), ∃ (l : List Byte), ∃ (b : Bool), (s.portUp p = false ∨ l.length < 20)) ∧
    (∃ (s : State), ∃ (p : RPort), ∃ (l : List Byte), ∃ (x : PortS), s.portUp p = true ∧ s.portUp p.opposite = true ∧ 20 ≤
      l.length ∧ frameOk l = false ∧ s.injectsPort p = false ∧ (hdrOf l).src ≠ s.addr ∧ (hdrOf l).delivery ≠ 0 ∧ (hdrOf
      l).type ≠ 7 ∧ s.ring.ports[p.ix]? = some x) ∧
    (∃ (s : State), ∃ (p : RPort), ∃ (l : List Byte), s.portUp p = true ∧ s.portUp p.opposite = true ∧ 20 ≤ l.length ∧
      s.injectsPort p = false ∧ (hdrOf l).src ≠ s.addr ∧ (hdrOf l).delivery ≠ 0 ∧ (hdrOf l).type ≠ 7) ∧
    (∃ (s : State), ∃ (p : RPort), ∃ (l : List Byte), ∃ (x : PortS), s.portUp p = true ∧ s.portUp p.opposite = true ∧ 20 ≤
      l.length ∧ s.injectsPort p = true ∧ (hdrOf l).src ≠ s.addr ∧ (hdrOf l).delivery ≠ 0 ∧ (hdrOf l).type ≠ 7 ∧
      s.ring.ports[p.ix]? = some x) ∧
    (∃ (s : State), ∃ (p : RPort), ∃ (l : List Byte), s.portUp p = true ∧ s.portUp p.opposite = true ∧ ((p = .n ∨ p = .s)) ∧
      frameOk l = true ∧ s.injectsPort p = false ∧ (hdrOf l).src ≠ s.addr ∧ (hdrOf l).delivery = 2 ∧ (hdrOf l).type = 2 ∧
      s.injFrame (hdrOf l).src 2 = false ∧ s.rxBytes p + l.length ≤ 4096) ∧
    (∃ (s : State), ∃ (p : RPort), ∃ (l : List Byte), ∃ (x : PortS), s.portUp p = true ∧ s.portUp p.opposite = true ∧ ((p = .n ∨
      p = .s)) ∧ frameOk l = true ∧ s.injectsPort p = false ∧ (hdrOf l).src ≠ s.addr ∧ uStr (hdrOf l).src = uStr s.addr ∧
      (hdrOf l).delivery = 2 ∧ (hdrOf l).type = 1 ∧ s.ring.active = false ∧ s.injFrame (hdrOf l).src 1 = false ∧ 24 ≤
      l.length ∧ s.rxBytes p + l.length ≤ 4096 ∧ s.ring.ports[p.ix]? = some x) ∧
    (∃ (s : State), ∃ (p : RPort), ∃ (l : List Byte), s.portUp p = true ∧ ((p = .n ∨ p = .s)) ∧ frameOk l = true ∧ s.injectsPort
      p = false ∧ (hdrOf l).src ≠ s.addr ∧ (hdrOf l).delivery = 0 ∧ (hdrOf l).dst = s.addr ∧ s.roleMatches (hdrOf l) = true
      ∧ (hdrOf l).type = 4 ∧ s.injFrame (hdrOf l).src 4 = false ∧ s.rxBytes p + l.length ≤ 4096) ∧
    (∃ (s : State), ∃ (p : RPort), ∃ (l : List Byte), s.portUp p = true ∧ frameOk l = true ∧ s.injectsPort p = false ∧ (hdrOf
      l).src ≠ s.addr ∧ (hdrOf l).delivery = 0 ∧ (hdrOf l).dst = s.addr ∧ s.roleMatches (hdrOf l) = false) ∧
    (∃ (s : State), ∃ (p : RPort), ∃ (l : List Byte), s.portUp p = true ∧ frameOk l = true ∧ s.injectsPort p = false ∧ (hdrOf
      l).src = s.addr) ∧
    (∃ (s : State), ∃ (p : RPort), ∃ (l : List Byte), s.portUp p = true ∧ frameOk l = true ∧ s.injectsPort p = false ∧ (hdrOf
      l).src ≠ s.addr ∧ (hdrOf l).delivery = 2 ∧ (hdrOf l).type = 7 ∧ s.injFrame (hdrOf l).src 7 = false ∧ (numAt l 16
      1).testBit 0 = false ∧ s.aqLeft p + 28 ≤ 4096) ∧
    (∃ (s : State), ∃ (p : RPort), ∃ (l : List Byte), ∃ (x : PortS), s.portUp p = true ∧ frameOk l = true ∧ s.injectsPort p =
      false ∧ (hdrOf l).src ≠ s.addr ∧ (hdrOf l).delivery = 2 ∧ (hdrOf l).type = 7 ∧ s.injFrame (hdrOf l).src 7 = false ∧
      (numAt l 16 1).testBit 0 = true ∧ s.ring.ports[p.ix]? = some x) :=
  ⟨⟨live, .n, [], false, by decide⟩,
   ⟨{ live with ring.ports := List.replicate 4 { up := true } }, .n, [2, 2, 0, 0, 0, 0, 0, 0, 9] ++ List.replicate 11 9,
    { up := true }, by decide +kernel⟩,
   ⟨{ live with ring.ports := List.replicate 4 { up := true } }, .s, sealFrame ([2, 2, 0, 0, 0, 0, 0, 0, 9, 0] ++
    List.replicate 6 0), by decide⟩,
   ⟨{ live with ring.ports := List.replicate 4 { up := true }, flt.injRun := some { target := 24, full := false } }, .n,
    sealFrame ([2, 2, 0, 0, 0, 0, 0, 0, 9, 0] ++ List.replicate 6 0), { up := true }, by decide⟩,
   ⟨{ live with ring.ports := List.replicate 4 { up := true } }, .n, sealFrame ([2, 2, 0, 0, 0, 0, 0, 0, 9, 0] ++
    List.replicate 6 0), by decide +kernel⟩,
   ⟨{ live with ring.ports := List.replicate 4 { up := true } }, .s, sealFrame ([1, 2, 0, 0, 0, 0, 0, 0, 0, 9] ++
    List.replicate 20 0), { up := true }, by decide +kernel⟩,
   ⟨{ live with ring.ports := List.replicate 4 { up := true } }, .n, sealFrame ([4, 0, 0, 0, 0, 0, 0, 0, 9, 0] ++
    List.replicate 6 0), by decide +kernel⟩,
   ⟨{ live with ring.ports := List.replicate 4 { up := true } }, .n, sealFrame ([4, 0, 0, 0, 255, 0, 0, 0, 9, 0] ++
    List.replicate 6 0), by decide +kernel⟩,
   ⟨{ live with ring.ports := List.replicate 4 { up := true } }, .n, sealFrame ([4, 0, 0, 0, 255, 0, 0, 0, 0, 0] ++
    List.replicate 6 0), by decide +kernel⟩,
   ⟨{ live with ring.ports := List.replicate 4 { up := true } }, .n, sealFrame ([7, 2, 0, 0, 0, 0, 0, 0, 9, 0] ++
    List.replicate 6 0 ++ [0, 0, 0, 0, 0, 0, 0, 5]), by decide +kernel⟩,
   ⟨{ live with ring.ports := List.replicate 4 { up := true, asked := true } }, .s, sealFrame ([7, 2, 0, 0, 0, 0, 0, 0, 9, 0]
    ++ List.replicate 6 0 ++ [1, 0, 0, 0, 0, 0, 0, 5]), { up := true, asked := true }, by decide +kernel⟩⟩

/-- The hypotheses of RingSends can be met, clause by clause. -/
theorem test_hyps_RingSends :
    (∃ (s : State), s.mfDue = true ∧ (s.at 1000).aqRoom [.n, .s] 244) ∧
    (∃ (s : State), s.cfDue = true ∧ s.aqRoom s.cfPorts 92) ∧
    (∃ (s : State), ∃ (p : RPort), s.cfDue = true ∧ s.cfPorts = [p] ∧ s.portUp p = true ∧ 4096 < s.aqLeft p + 92 ∧ s.srcWhole) ∧
    (∃ (s : State), s.rfDue = true ∧ s.aqRoom [.n, .s] (if s.cellSetDue then 444 else 156)) ∧
    (∃ (s : State), s.tfDue = true ∧ (s.at 950000).aqRoom [.e, .w] 92) ∧
    (∃ (s : State), s.kfDue = true ∧ (s.at 960000).aqRoom [.e, .w] (228 * s.fragments.length)) ∧
    (∃ (s : State), ∃ (f : RxFrame), s.ring.rx.find? (fun f => numAt f.bytes 0 1 == 4) = some f ∧ s.runs .a = true ∧
      s.ring.rfSent = true) ∧
    (∃ (s : State), ∃ (f : RxFrame), s.ring.rx.find? (fun f => numAt f.bytes 0 1 == 4) = some f ∧ s.runs .a = true ∧
      s.ring.rfSent = false) ∧
    (∃ (s : State), s.mfDue = false) ∧
    (∃ (s : State), s.cfDue = false) ∧
    (∃ (s : State), s.rfDue = false) ∧
    (∃ (s : State), s.tfDue = false) ∧
    (∃ (s : State), s.kfDue = false) ∧
    (∃ (s : State), s.ring.rx = []) :=
  ⟨⟨{ live with ring.ports := List.replicate 4 { up := true }, ring.active := true }, by decide⟩,
   ⟨{ live with ring.ports := List.replicate 4 { up := true }, ring.role := 1, ring.mfOn := [.s], beat.sbOfs := some 0, cfg.image := img [prm .R_SH 1 100000, ⟨.RING_ORDER, 0, [1, 2]⟩] },
    by decide⟩,
   ⟨{ live with ring.ports := List.replicate 4 { up := true, aq := 4005 }, ring.role := 1, ring.mfOn := [.s], beat.sbOfs := some 0, cfg.image := img [prm .R_SH 1 100000, ⟨.RING_ORDER, 0, [1, 2]⟩] },
    .n, by decide +kernel⟩,
   ⟨{ live with ring.ports := List.replicate 4 { up := true }, ring.role := 1, ring.reporting := true, beat.sbOfs := some 0, ring.master := 1, cfg.image := img [⟨.RING_ORDER, 0, [0, 1]⟩] },
    by decide⟩,
   ⟨{ live with ring.ports := List.replicate 4 { up := true }, ring.role := 2, ring.active := true }, by decide⟩,
   ⟨{ live with ring.ports := List.replicate 4 { up := true }, ring.role := 3, ring.active := true, cfg.image := img [prm .MASTERS 0 0] },
    by decide⟩,
   ⟨{ live with ring.ports := List.replicate 4 { up := true }, ring.rfSent := true, ring.rx := [⟨.n, [4]⟩] }, ⟨.n, [4]⟩,
    by decide⟩,
   ⟨{ live with ring.ports := List.replicate 4 { up := true }, ring.rx := [⟨.n, [4]⟩] }, ⟨.n, [4]⟩, by decide⟩,
   ⟨live, by decide⟩,
   ⟨live, by decide⟩,
   ⟨live, by decide⟩,
   ⟨live, by decide⟩,
   ⟨live, by decide⟩,
   ⟨live, by decide⟩⟩

/-- The hypotheses of StringFrames can be met, clause by clause. -/
theorem test_hyps_StringFrames :
    (∃ (s : State), ∃ (f : RxFrame), ∃ (arr ph : Int), s.ring.rx.find? (fun f => numAt f.bytes 0 1 == 1) = some f ∧ s.runs .a =
      true ∧ s.ring.active = false ∧ s.ring.mfSeen = false ∧ ((mfEntries f.bytes).all fun e => e.dst != s.addr) = true) ∧
    (∃ (s : State), ∃ (f : RxFrame), ∃ (arr ph : Int), ∃ (e : RingEnt), s.ring.rx.find? (fun f => numAt f.bytes 0 1 == 1) = some
      f ∧ s.runs .a = true ∧ s.ring.active = false ∧ s.ring.mfSeen = false ∧ mfEntries f.bytes = [e] ∧ e.dst = s.addr ∧
      ((e.op = 1 ∨ e.op = 2)) ∧ ((e.dstRole ≠ s.roleByte ∨ e.dstEpoch ≠ s.ring.epoch))) ∧
    (∃ (s : State), ∃ (f : RxFrame), ∃ (arr ph : Int), s.ring.rx.find? (fun f => numAt f.bytes 0 1 == 1) = some f ∧ s.runs .a =
      true ∧ (s.ring.mfSeen = true ∨ s.ring.active = true)) ∧
    (∃ (s : State), ∃ (f : RxFrame), s.ring.rx.find? (fun f => numAt f.bytes 0 1 == 2) = some f ∧ s.runs .a = true ∧ s.curPop 0
      = false) ∧
    (∃ (s : State), ∃ (f : RxFrame), s.ring.rx.find? (fun f => numAt f.bytes 0 1 == 2) = some f ∧ s.runs .a = true ∧ s.curPop 0
      = true) ∧
    (∃ (s : State), ∃ (f : RxFrame), s.ring.rx.find? (fun f => numAt f.bytes 0 1 == 6) = some f ∧ s.runs .a = true ∧ ((f.port =
      .n ∨ f.port = .s)) ∧ s.ring.active = false ∧ s.srcWhole) ∧
    (∃ (s : State), ∃ (f : RxFrame), s.ring.rx.find? (fun f => numAt f.bytes 0 1 == 6) = some f ∧ s.runs .a = true ∧
      s.ring.active = true ∧ ((f.port = .n ∨ f.port = .s))) ∧
    (∃ (s : State), ∃ (f : RxFrame), ∃ (k : BitVec 8), ∃ (x : StrS), s.ring.rx.find? (fun f => numAt f.bytes 0 1 == 6) = some f
      ∧ s.runs .a = true ∧ ((f.port = .e ∨ f.port = .w)) ∧ 2 ≤ s.ring.role.toNat ∧ f.bytes.length = 28 ∧ k = BitVec.ofNat 8
      (uStr (erUnit [] f.bytes 16).addr) ∧ k.toNat ≠ uStr s.addr ∧ s.ring.strings.find? (fun x => x.str == k) = some x) ∧
    (∃ (s : State), ∃ (a b : Int), (s.ring.rx = [] ∨ s.runs .a = false)) ∧
    (∃ (s : State), (s.ring.rx = [] ∨ s.runs .a = false)) :=
  ⟨⟨{ live with ring.rx := [⟨.n, [1]⟩] }, ⟨.n, [1]⟩, 200000, 0, by decide⟩,
   ⟨{ live with ring.rx := [⟨.n, ([1] ++ List.replicate 107 0 ++ [1, 0, 0, 0] ++ [0, 0, 255, 1] ++ List.replicate 12 0)⟩] },
    ⟨.n, ([1] ++ List.replicate 107 0 ++ [1, 0, 0, 0] ++ [0, 0, 255, 1] ++ List.replicate 12 0)⟩, 0, 0,
    { dst := 0, dstRole := 255, op := 1 }, by decide, by decide, by decide, by decide, by decide, by decide, by decide,
    .inl (by decide)⟩,
   ⟨{ live with ring.mfSeen := true, ring.rx := [⟨.s, [1]⟩] }, ⟨.s, [1]⟩, 0, 0, by decide⟩,
   ⟨{ live with ring.rx := [⟨.n, [2]⟩] }, ⟨.n, [2]⟩, by decide⟩,
   ⟨{ live with ring.rx := [⟨.n, [2]⟩], cfg.image := img [prm .R_SH 1 100000] }, ⟨.n, [2]⟩, by decide⟩,
   ⟨{ live with ring.rx := [⟨.n, [6]⟩] }, ⟨.n, [6]⟩, by decide +kernel⟩,
   ⟨{ live with ring.active := true, ring.rx := [⟨.n, [6]⟩] }, ⟨.n, [6]⟩, by decide⟩,
   ⟨{ live with ring.role := 2, ring.rx := [⟨.e, [6] ++ List.replicate 15 0 ++ [2, 1, 0, 7, 6, 0, 0, 0] ++ [0, 0, 0, 0]⟩], ring.strings := [{ str := 2 }] },
    ⟨.e, [6] ++ List.replicate 15 0 ++ [2, 1, 0, 7, 6, 0, 0, 0] ++ [0, 0, 0, 0]⟩, 2, { str := 2 }, by decide⟩,
   ⟨live, 0, 0, by decide⟩,
   ⟨live, by decide⟩⟩

/-- The hypotheses of StringFrames (ReportJudgement) can be met, clause by clause. -/
theorem test_hyps_ReportJudgement :
    (∃ (s : State), ∃ (a : UAddr), ∃ (u : UnitS), s.unit? a = some u ∧ s.rfOpen u = true ∧ ((u.gotN = true ∨ u.gotS = true))) ∧
    (∃ (s : State), ∃ (a : UAddr), ∃ (u : UnitS), s.unit? a = some u ∧ s.rfOpen u = true ∧ u.gotN = false ∧ u.gotS = false ∧
      u.asked = false ∧ (s.afterSlots a).resendFits u = true ∧ (s.afterSlots a).aqRoom [u.shorter] 28) ∧
    (∃ (s : State), ∃ (a : UAddr), ∃ (u : UnitS), s.unit? a = some u ∧ s.rfOpen u = true ∧ u.gotN = false ∧ u.gotS = false ∧
      (u.asked = true ∨ (s.afterSlots a).resendFits u = false) ∧ s.srcWhole) ∧
    (∃ (s : State), ∃ (a : UAddr), ∃ (u : UnitS), ∃ (p : RPort), s.unit? a = some u ∧ (s.afterSlots a).resendFits u = true ∧ p =
      u.shorter) ∧
    (∃ (s : State), ∃ (a : UAddr), s.unit? a = none) ∧
    (∃ (s : State), ∃ (a : UAddr), ∃ (u : UnitS), s.unit? a = some u ∧ s.rfOpen u = false) :=
  ⟨⟨{ live with ring.active := true, ring.roster := [{ addr := 7, gotN := true }] }, 7, { addr := 7, gotN := true }, by decide⟩,
   ⟨{ live with ring.ports := List.replicate 4 { up := true }, ring.active := true, ring.rp := 150, ring.roster := [{ addr := 1 }], cfg.image := img [⟨.RING_ORDER, 0, [0, 1]⟩] },
    1, { addr := 1 }, by decide⟩,
   ⟨{ live with ring.ports := List.replicate 4 { up := true }, ring.active := true, ring.rp := 150, ring.roster := [{ addr := 1, asked := true }], cfg.image := img [⟨.RING_ORDER, 0, [0, 1]⟩] },
    1, { addr := 1, asked := true }, by decide +kernel⟩,
   ⟨{ live with ring.ports := List.replicate 4 { up := true }, ring.active := true, ring.rp := 150, ring.roster := [{ addr := 1 }], cfg.image := img [⟨.RING_ORDER, 0, [0, 1]⟩] },
    1, { addr := 1 }, .s, by decide⟩,
   ⟨live, 7, by decide⟩,
   ⟨{ live with ring.roster := [{ addr := 7 }] }, 7, { addr := 7 }, by decide⟩⟩

/-- The hypotheses of TrunkFrames can be met, clause by clause. -/
theorem test_hyps_TrunkFrames :
    (∃ (s : State), ∃ (f : RxFrame), ∃ (k : BitVec 8), s.ring.rx.find? (fun f => numAt f.bytes 0 1 == 16) = some f ∧ s.runs .a =
      true ∧ k = BitVec.ofNat 8 (uStr (hdrOf f.bytes).src) ∧ k.toNat ≠ uStr s.addr ∧ numAt (slice 80 8 f.bytes) 1 1 = 0) ∧
    (∃ (s : State), ∃ (f : RxFrame), s.ring.rx.find? (fun f => numAt f.bytes 0 1 == 17) = some f ∧ s.runs .a = true ∧
      BitVec.ofNat 16 (numAt f.bytes 16 2) ≠ s.ring.cepoch) ∧
    (∃ (s : State), ∃ (f : RxFrame), s.ring.rx.find? (fun f => numAt f.bytes 0 1 == 17) = some f ∧ s.runs .a = true ∧
      BitVec.ofNat 16 (numAt f.bytes 16 2) = s.ring.cepoch ∧ numAt f.bytes 18 1 ≠ uStr s.addr / 32) ∧
    (∃ (s : State), ∃ (f : RxFrame), ∃ (c : Nat), s.ring.rx.find? (fun f => numAt f.bytes 0 1 == 17) = some f ∧ s.runs .a = true
      ∧ BitVec.ofNat 16 (numAt f.bytes 16 2) = s.ring.cepoch ∧ numAt f.bytes 18 1 = uStr s.addr / 32 ∧ (((kfEntries
      f.bytes).all fun e => uStr e.dst != uStr s.addr) = true ∨ s.ring.active = false) ∧ c = numAt f.bytes (24 + uStr s.addr
      % 32 / 4) 1 / 4 ^ (uStr s.addr % 32 % 4) % 4) ∧
    (∃ (s : State), ∃ (f : RxFrame), ∃ (e : RingEnt), s.ring.rx.find? (fun f => numAt f.bytes 0 1 == 17) = some f ∧ s.runs .a =
      true ∧ BitVec.ofNat 16 (numAt f.bytes 16 2) = s.ring.cepoch ∧ numAt f.bytes 18 1 = uStr s.addr / 32 ∧ s.ring.active =
      true ∧ kfEntries f.bytes = [e] ∧ uStr e.dst = uStr s.addr ∧ e.dst ≠ s.addr) :=
  ⟨⟨{ live with ring.rx := [⟨.e, [16, 0, 0, 0, 0, 0, 0, 0, 9]⟩] }, ⟨.e, [16, 0, 0, 0, 0, 0, 0, 0, 9]⟩, 9, by decide⟩,
   ⟨{ live with ring.rx := [⟨.e, [17]⟩], ring.cepoch := 1 }, ⟨.e, [17]⟩, by decide⟩,
   ⟨{ live with ring.rx := [⟨.e, [17] ++ List.replicate 17 0 ++ [1]⟩] }, ⟨.e, [17] ++ List.replicate 17 0 ++ [1]⟩, by decide⟩,
   ⟨{ live with ring.rx := [⟨.e, [17]⟩], ring.active := true }, ⟨.e, [17]⟩, 0, by decide, by decide, by decide, by decide,
    .inl (by decide), by decide⟩,
   ⟨{ live with ring.rx := [⟨.e, [17] ++ List.replicate 159 0 ++ [0, 5, 255, 1]⟩], ring.active := true }, ⟨.e, [17] ++
    List.replicate 159 0 ++ [0, 5, 255, 1]⟩, { dst := 5, dstRole := 255, op := 1 }, by decide +kernel⟩⟩

/-- The hypotheses of MasterRoles can be met, clause by clause. -/
theorem test_hyps_MasterRoles :
    (∃ (s : State), ∃ (an az : List Found), ∃ (sn : List (UAddr × BitVec 64)), s.ring.active = true ∧ s.ring.enumRun = false ∧
      s.aqRoom [.n, .s, .e, .w] 48) ∧
    (∃ (s : State), ∃ (an az fd : List Found), ∃ (sn : List (UAddr × BitVec 64)), ∃ (cl : Bool), s.ring.active = true ∧
      s.ring.enumRun = true ∧ s.srcWhole ∧ cl = (s.ring.enBack.any fun x => x.1 == .n || x.1 == .s) ∧ fd = (if cl then
      (s.ring.enBack.filter fun x => x.1 == .n || x.1 == .s).flatMap fun x => enFound x.2 else an ++ az) ++
      (s.ring.enBack.filter fun x => x.1 == .e || x.1 == .w).flatMap (fun x => enFound x.2)) ∧
    (∃ (s : State), ∃ (an az : List Found), ∃ (sn : List (UAddr × BitVec 64)), s.ring.active = false) ∧
    (∃ (s : State), ∃ (n : Nat), s.ring.listen = some n ∧ s.ring.active = false ∧ 2 ≤ s.ring.role.toNat ∧ s.on .START = false ∧
      20 ≤ n ∧ s.ring.masterEpoch = 0) ∧
    (∃ (s : State), ∃ (n : Nat), s.ring.listen = some n ∧ s.ring.active = false ∧ 2 ≤ s.ring.role.toNat ∧ s.on .START = false ∧
      20 ≤ n ∧ s.ring.masterEpoch ≠ 0) ∧
    (∃ (s : State), ∃ (n : Nat), s.ring.listen = some n ∧ s.ring.active = false ∧ 2 ≤ s.ring.role.toNat ∧ s.on .START = true ∧
      100 ≤ n ∧ s.ring.masterEpoch = 0) ∧
    (∃ (s : State), (s.ring.listen = none ∨ s.ring.active = true ∨ s.ring.role.toNat < 2 ∨ (∃ n, s.ring.listen = some n ∧ n <
      (if s.on .START then 100 else 20)))) ∧
    (∃ (s : State), 2 ≤ s.ring.role.toNat ∧ s.ring.active = false ∧ s.ring.listen = none ∧ s.ring.masterEpoch ≠ 0 ∧ 2 ≤
      s.ring.mfMissed ∧ s.ring.mfEarly = false ∧ s.ring.takeDue = false) ∧
    (∃ (s : State), (s.ring.active = true ∨ s.ring.mfEarly = true ∨ s.ring.mfMissed < 2 ∨ s.ring.takeDue = true ∨
      s.ring.role.toNat < 2)) ∧
    (∃ (s : State), ∃ (a : UAddr), ∃ (c n : Nat), ∃ (e : BitVec 16), s.ring.active = true ∧ s.ring.rival = some (a, c, n, e) ∧
      s.ring.yieldDue = false) ∧
    (∃ (s : State), (s.ring.active = false ∨ s.ring.rival = none)) :=
  ⟨⟨{ live with ring.ports := List.replicate 4 { up := true }, ring.active := true, cfg.image := img [⟨.RING_ORDER, 0, [0, 1]⟩] },
    [], [], [], by decide +kernel⟩,
   ⟨{ live with ring.active := true, ring.enumRun := true, cfg.image := img [⟨.RING_ORDER, 0, [0, 1]⟩] }, [(1, 1, false, 0,
    .n)], [], [(1, 1, false, 0, .n)], [(1, 77)], false, by decide +kernel⟩,
   ⟨live, [], [], [], by decide⟩,
   ⟨{ live with ring.listen := some 20, ring.role := 2 }, 20, by decide⟩,
   ⟨{ live with ring.listen := some 20, ring.role := 2, ring.masterEpoch := 1 }, 20, by decide⟩,
   ⟨{ live with ring.listen := some 100, ring.role := 2, cfg.image := img [prm .START 0 1] }, 100, by decide⟩,
   ⟨live, by decide⟩,
   ⟨{ live with ring.role := 2, ring.masterEpoch := 1, ring.mfMissed := 2 }, by decide⟩,
   ⟨{ live with ring.active := true }, by decide⟩,
   ⟨{ live with ring.active := true, ring.rival := some (5, 0, 1, 0) }, 5, 0, 1, 0, by decide⟩,
   ⟨live, by decide⟩⟩

/-- The hypotheses of RingStates can be met, clause by clause. -/
theorem test_hyps_RingStates :
    (∃ (s : State), s.ring.strNext ≠ s.ring.str ∧ s.srcWhole) ∧
    (∃ (s : State), s.ring.strNext = s.ring.str) ∧
    (∃ (s : State), s.ring.role = 1 ∧ ((s.pwr.state = .active ∨ s.pwr.state = .idle)) ∧ s.nat .RING_SILENCE ≤ s.ring.quiet ∧
      s.pwr.entry = none) ∧
    (∃ (s : State), (s.ring.role ≠ 1 ∨ s.ring.quiet < s.nat .RING_SILENCE)) ∧
    (∃ (s : State), s.ring.active = true ∧ s.ring.majNow = false ∧ s.ring.majority = true) ∧
    (∃ (s : State), s.ring.active = true ∧ s.ring.majNow = true ∧ s.ring.majority = false) ∧
    (∃ (s : State), (s.ring.majNow = s.ring.majority ∨ s.ring.active = false)) ∧
    (∃ (s : State), s.ring.active = true ∧ s.ring.coordTake = true) ∧
    (∃ (s : State), (s.ring.coordTake = false ∨ s.ring.active = false)) :=
  ⟨⟨{ live with ring.strNext := .closed }, by decide +kernel⟩,
   ⟨live, by decide⟩,
   ⟨{ live with ring.role := 1, ring.quiet := 10, cfg.image := img [prm .RING_SILENCE 0 10] }, by decide⟩,
   ⟨live, by decide⟩,
   ⟨{ live with ring.active := true, ring.majNow := false }, by decide⟩,
   ⟨{ live with ring.active := true, ring.majority := false }, by decide⟩,
   ⟨live, by decide⟩,
   ⟨{ live with ring.active := true, ring.coordTake := true }, by decide⟩,
   ⟨live, by decide⟩⟩

/-- The hypotheses of WireFormats can be met, clause by clause. -/
theorem test_hyps_WireFormats :
    (∃ (l : List Byte), 16 ≤ l.length) ∧
    (∃ (h : RHdr), ∃ (l : List Byte), h.type < 256 ∧ h.flags < 256 ∧ h.dstRole < 256 ∧ h.srcRole < 256) ∧
    (∃ (e : RingEnt), ∃ (a b : List Byte), e.dstRole < 256 ∧ e.op < 256) ∧
    (∃ (c : Ckpt), -(2 ^ 63) ≤ c.qc ∧ c.qc < 2 ^ 63 ∧ -(2 ^ 63) ≤ c.uqc ∧ c.uqc < 2 ^ 63 ∧ -(2 ^ 63) ≤ c.qref1 ∧ c.qref1 < 2 ^
      63 ∧ -(2 ^ 63) ≤ c.qref2 ∧ c.qref2 < 2 ^ 63 ∧ -(2 ^ 31) ≤ c.ua ∧ c.ua < 2 ^ 31 ∧ c.age < 2 ^ 32 ∧ c.anchType < 4) :=
  ⟨⟨List.replicate 16 0, by decide⟩,
   ⟨{ type := 255, flags := 255, dstRole := 255, srcRole := 255 }, [], by decide⟩,
   ⟨{ dst := 0, dstRole := 255, op := 255 }, [1], [2], by decide⟩,
   ⟨⟨-(2 ^ 63), 2 ^ 63 - 1, 0, 0, -(2 ^ 31), 4294967295, 0, true, false, true, false, true, 3, 0⟩, by decide⟩⟩

/-- The hypotheses of StringHistory can be met, clause by clause. -/
theorem test_hyps_StringHistory :
    (∃ (s : State), ∃ (u : BitVec 8), ∃ (k : Nat), ∃ (w : Word), ∃ (h : HistSlot), s.ring.active = true ∧ s.powered = true ∧
      s.ringOrder.contains (uAddr (uStr s.addr) u.toNat) = true ∧ s.chg.swapPend = false ∧ 8 ≤ k ∧ k < 7688 ∧
      s.sys.hist[u.toNat]? = some h) ∧
    (∃ (s : State), ∃ (u : BitVec 8), ∃ (l : List (Nat × Word)), (s.chg.swapPend = true ∨ s.ring.active = false ∨
      s.ringOrder.contains (uAddr (uStr s.addr) u.toNat) = false)) ∧
    (∃ (s : State), s.restorable (s.sys.histUnit.toNat % 256) = true ∧ s.unitAt (s.sys.histUnit.toNat % 256) ≠ s.addr) ∧
    (∃ (s : State), ∃ (r : IdRec), s.restorable (s.sys.histUnit.toNat % 256) = true ∧ s.unitAt (s.sys.histUnit.toNat % 256) =
      s.addr ∧ s.record = some r) ∧
    (∃ (s : State), s.restorable (s.sys.histUnit.toNat % 256) = false) ∧
    (∃ (s : State), ∃ (r : IdRec), s.parked = true ∧ s.chg.inForce.isSome = true ∧ s.record = some r) ∧
    (∃ (s : State), (s.parked = false ∨ s.chg.inForce = none)) ∧
    (∃ (s : State), ∃ (p : Path), ∃ (key : BitVec 8), key ≠ 0xC3) ∧
    (∃ (s : State), ∃ (p : Path), 2 ≤ s.ring.role.toNat ∧ s.crowns = true ∧ s.parked = true) ∧
    (∃ (s : State), ∃ (p : Path), ∃ (key : BitVec 8), (key ≠ 0xC3 ∨ s.crowns = false ∨ s.parked = false ∨ s.ring.role.toNat <
      2)) ∧
    (∃ (s : State), ∃ (p : Path), ∃ (w : Word), s.sys.importing = false ∧ s.sys.restoreIn = false) ∧
    (∃ (s : State), ∃ (p : Path), ∃ (w : Word), s.sys.importing = false ∧ s.sys.restoreIn = true) ∧
    (∃ (s : State), ∃ (p : Path), ∃ (w : Word), s.sys.importing = true) :=
  ⟨⟨{ live with ring.active := true, cfg.image := img [prm .RING_ORDER 0 1] }, 1, 7687, 5, {}, by decide⟩,
   ⟨live, 1, [], by decide⟩,
   ⟨{ live with ring.active := true, sys.hist := List.replicate 256 { used := true, code := 255 }, chg.inForce := some 0, sys.histUnit := 1 },
    by decide⟩,
   ⟨{ live with ring.active := true, sys.hist := List.replicate 256 { used := true, code := 255 }, chg.inForce := some 0 }, {},
    by decide⟩,
   ⟨live, by decide⟩,
   ⟨{ live with chg.inForce := some 0 }, {}, by decide⟩,
   ⟨live, by decide⟩,
   ⟨live, .ring, 5, by decide⟩,
   ⟨{ live with ring.role := 2, cfg.crw1 := true, cfg.crw2 := true }, .host, by decide⟩,
   ⟨live, .host, 0, by decide⟩,
   ⟨live, .host, 5, by decide⟩,
   ⟨{ live with sys.restoreIn := true }, .host, 5, by decide⟩,
   ⟨{ live with sys.importing := true }, .host, 5, by decide⟩⟩

/-- The hypotheses of HostAccess can be met, clause by clause. -/
theorem test_hyps_HostAccess :
    (∃ (s : State), ∃ (rseq u : BitVec 8), ∃ (a : BitVec 14), s.hostUp = true ∧ s.injectsHost = false ∧ s.hostLocal u = true ∧
      s.nmiHit = none ∧ ((s.host.lastReq.any fun l => l.bytes == reqBytes (reqHeader rseq 0 u a) none []) = false ∨ a.toNat
      = 4 ∨ a.toNat = 5)) ∧
    (∃ (s : State), ∃ (rseq u : BitVec 8), ∃ (a : BitVec 14), ∃ (d : Word), s.hostUp = true ∧ s.injectsHost = false ∧
      s.hostLocal u = true ∧ s.nmiHit = none ∧ (s.host.lastReq.any fun l => l.bytes == reqBytes (reqHeader rseq 1 u a) none
      [d]) = false) ∧
    (∃ (s : State), ∃ (rseq u : BitVec 8), ∃ (a : BitVec 14), ∃ (d : Word), ∃ (n : Nat), s.hostUp = true ∧ s.injectsHost = false
      ∧ s.hostLocal u = true ∧ s.flt.nmi = some (s.beat.num, n) ∧ s.beat.offNs ≤ n + 5000 ∧ s.host.lastReq = none) ∧
    (∃ (s : State), ∃ (rseq u : BitVec 8), ∃ (a : BitVec 14), ∃ (r : Reply), s.hostUp = true ∧ s.injectsHost = false ∧
      s.hostLocal u = true ∧ a.toNat ≠ 4 ∧ a.toNat ≠ 5 ∧ s.host.lastReq = some ⟨reqBytes (reqHeader rseq 0 u a) none [], r⟩) ∧
    (∃ (s : State), ∃ (rseq u : BitVec 8), ∃ (a : BitVec 14), ∃ (d : Word), ∃ (r : Reply), s.hostUp = true ∧ s.injectsHost =
      false ∧ s.hostLocal u = true ∧ s.host.lastReq = some ⟨reqBytes (reqHeader rseq 1 u a) none [d], r⟩) ∧
    (∃ (s : State), ∃ (rseq u : BitVec 8), ∃ (a : BitVec 14), ∃ (d : Word), s.hostUp = false) :=
  ⟨⟨{ live with cfg.image := img [] }, 1, 0, 0x101, by decide, by decide, by decide, by decide, .inl rfl⟩,
   ⟨{ live with cfg.image := img [] }, 1, 0, 0x1206, 5, by decide⟩,
   ⟨{ live with flt.nmi := some (0, 0) }, 1, 0, 0x101, 5, 0, by decide⟩,
   ⟨{ live with host.lastReq := some ⟨reqBytes (reqHeader 1 0 0 0x101) none [], {}⟩ }, 1, 0, 0x101, {}, by decide⟩,
   ⟨{ live with host.lastReq := some ⟨reqBytes (reqHeader 1 1 0 0x101) none [5], {}⟩ }, 1, 0, 0x101, 5, {}, by decide⟩,
   ⟨State.reset, 1, 0, 0x101, 5, by decide⟩⟩

/-- The hypotheses of HostAccess (HostBursts) can be met, clause by clause. -/
theorem test_hyps_HostBursts :
    (∃ (s : State), ∃ (rseq u : BitVec 8), ∃ (a : BitVec 14), ∃ (fx : Bool), ∃ (n : Nat), ∃ (ps l : List Nat), s.hostUp = true ∧
      s.injectsHost = false ∧ s.hostLocal u = true ∧ s.nmiHit = none ∧ (s.host.lastReq.any fun l => l.bytes == reqBytes
      (reqHeader rseq 2 u a) (some (countWord fx n)) []) = false ∧ 1 ≤ n ∧ n ≤ 256 ∧ ((fx = true ∨ a.toNat + (n - 1) ≤
      0x3FFF)) ∧ l = (List.range n).map (fun i => if fx then a.toNat else a.toNat + i)) ∧
    (∃ (s : State), ∃ (b : BurstRead), ∃ (r : Reply), s.host.burst = some b ∧ s.host.reply = some r) ∧
    (∃ (s : State), ∃ (rseq u : BitVec 8), ∃ (a : BitVec 14), ∃ (fx : Bool), ∃ (n : Nat), ∃ (ps : List Nat), s.hostUp = true ∧
      s.injectsHost = false ∧ s.host.lastReq = none ∧ (s.hostLocal u = false ∨ n = 0 ∨ 256 < n ∨ (fx = false ∧ 0x3FFF <
      a.toNat + (n - 1)))) ∧
    (∃ (s : State), ∃ (rseq u : BitVec 8), ∃ (a : BitVec 14), ∃ (fx : Bool), ∃ (ws : List Word), s.hostUp = true ∧ s.injectsHost
      = false ∧ s.hostLocal u = true ∧ s.nmiHit = none ∧ (s.host.lastReq.any fun l => l.bytes == reqBytes (reqHeader rseq 3
      u a) (some (countWord fx ws.length)) ws) = false ∧ 1 ≤ ws.length ∧ ws.length ≤ 256 ∧ ((fx = true ∨ a.toNat +
      (ws.length - 1) ≤ 0x3FFF))) ∧
    (∃ (s : State), ∃ (a b : Nat), ∃ (v w : Word), s.regStatus true a = 1 ∧ (s.regWrite .host a v).regStatus true b = 1) ∧
    (∃ (s : State), ∃ (a : Nat), ∃ (v : Word), s.regStatus true a ≠ 1) ∧
    (∃ (s : State), ∃ (rseq u : BitVec 8), ∃ (a : BitVec 14), ∃ (fx : Bool), ∃ (ws : List Word), s.hostUp = true ∧ s.injectsHost
      = false ∧ s.host.lastReq = none ∧ (s.hostLocal u = false ∨ ws = [] ∨ 256 < ws.length ∨ (fx = false ∧ 0x3FFF < a.toNat
      + (ws.length - 1)))) ∧
    (∃ (s : State), ∃ (rseq u : BitVec 8), ∃ (a : BitVec 14), ∃ (fx : Bool), ∃ (n : Nat), ∃ (ps : List Nat), ∃ (ws : List Word),
      s.hostUp = false) :=
  ⟨⟨live, 1, 0, 0x3FFF, true, 256, [200, 56], List.replicate 256 0x3FFF, by decide +kernel, by decide +kernel,
    by decide +kernel, by decide +kernel, by decide +kernel, by decide +kernel, by decide +kernel, .inl rfl,
    by decide +kernel⟩,
   ⟨{ live with host.burst := some ⟨[4, 5], [1, 1]⟩, host.reply := some ⟨1, 1, 0, false, false, [7], 0⟩ }, ⟨[4, 5], [1, 1]⟩,
    ⟨1, 1, 0, false, false, [7], 0⟩, by decide⟩,
   ⟨live, 1, 0, 0x3FFF, false, 2, [2], by decide⟩,
   ⟨live, 1, 0, 0x1206, false, [1, 2], by decide, by decide, by decide, by decide, by decide, by decide, by decide,
    .inr (by decide)⟩,
   ⟨{ live with cfg.image := img [] }, 0x1206, 0x1207, 1, 2, by decide⟩,
   ⟨live, 0x3FFF, 1, by decide⟩,
   ⟨live, 1, 0, 0x3FFF, false, [1, 2], by decide⟩,
   ⟨State.reset, 1, 0, 0, false, 1, [1], [], by decide⟩⟩

/-- The hypotheses of HostAccess (HostErrors) can be met, clause by clause. -/
theorem test_hyps_HostErrors :
    (∃ (s : State), ∃ (l : List Byte), s.hostUp = true ∧ s.srcWhole ∧ 4 ≤ l.length ∧ reqLen l + 2 ≤ l.length ∧ reqCrcOk l =
      false) ∧
    (∃ (s : State), ∃ (l : List Byte), (l.length < 4 ∨ l.length < reqLen l + 2)) ∧
    (∃ (s : State), ∃ (l : List Byte), ∃ (rseq u : BitVec 8), ∃ (a : BitVec 14), 4 ≤ l.length ∧ reqLen l + 2 ≤ l.length ∧
      reqCrcOk l = true ∧ rseq = BitVec.ofNat 8 (numAt l 0 1) ∧ u = BitVec.ofNat 8 (numAt l 0 4 / 2 ^ 14) ∧ a = BitVec.ofNat
      14 (numAt l 0 4) ∧ numAt l 0 4 / 2 ^ 22 % 4 = 0) ∧
    (∃ (s : State), ∃ (l : List Byte), ∃ (rseq u : BitVec 8), ∃ (a : BitVec 14), 4 ≤ l.length ∧ reqLen l + 2 ≤ l.length ∧
      reqCrcOk l = true ∧ rseq = BitVec.ofNat 8 (numAt l 0 1) ∧ u = BitVec.ofNat 8 (numAt l 0 4 / 2 ^ 14) ∧ a = BitVec.ofNat
      14 (numAt l 0 4) ∧ numAt l 0 4 / 2 ^ 22 % 4 = 1) ∧
    (∃ (s : State), ∃ (l : List Byte), ∃ (rseq u : BitVec 8), ∃ (a : BitVec 14), 4 ≤ l.length ∧ reqLen l + 2 ≤ l.length ∧
      reqCrcOk l = true ∧ rseq = BitVec.ofNat 8 (numAt l 0 1) ∧ u = BitVec.ofNat 8 (numAt l 0 4 / 2 ^ 14) ∧ a = BitVec.ofNat
      14 (numAt l 0 4) ∧ numAt l 0 4 / 2 ^ 22 % 4 = 2) ∧
    (∃ (s : State), ∃ (l : List Byte), ∃ (rseq u : BitVec 8), ∃ (a : BitVec 14), 4 ≤ l.length ∧ reqLen l + 2 ≤ l.length ∧
      reqCrcOk l = true ∧ rseq = BitVec.ofNat 8 (numAt l 0 1) ∧ u = BitVec.ofNat 8 (numAt l 0 4 / 2 ^ 14) ∧ a = BitVec.ofNat
      14 (numAt l 0 4) ∧ numAt l 0 4 / 2 ^ 22 % 4 = 3) ∧
    (∃ (s : State), s.hostUp = true ∧ s.srcWhole) ∧
    (∃ (s : State), ∃ (l : List Byte), s.hostUp = false) ∧
    (∃ (s : State), ∃ (rseq u : BitVec 8), ∃ (a : BitVec 14), ∃ (d : Word), s.hostUp = true ∧ s.injectsHost = true) :=
  ⟨⟨live, (wordBytes (reqHeader 9 0 3 5) ++ []) ++ [0, 0], by decide +kernel⟩,
   ⟨live, [1, 2, 3], by decide +kernel⟩,
   ⟨live, (wordBytes (reqHeader 9 0 3 5) ++ []) ++ bytesOf 2 (crc16 (wordBytes (reqHeader 9 0 3 5) ++ [])), 9, 3, 5,
    by decide +kernel⟩,
   ⟨live, (wordBytes (reqHeader 9 1 3 5) ++ [0, 0, 0, 7]) ++ bytesOf 2 (crc16 (wordBytes (reqHeader 9 1 3 5) ++ [0, 0, 0, 7])),
    9, 3, 5, by decide +kernel⟩,
   ⟨live, (wordBytes (reqHeader 9 2 3 5) ++ [128, 0, 0, 2]) ++ bytesOf 2 (crc16 (wordBytes (reqHeader 9 2 3 5) ++ [128, 0, 0,
    2])), 9, 3, 5, by decide +kernel⟩,
   ⟨live, (wordBytes (reqHeader 9 3 3 5) ++ [0, 0, 0, 1, 0, 0, 0, 7]) ++ bytesOf 2 (crc16 (wordBytes (reqHeader 9 3 3 5) ++ [0,
    0, 0, 1, 0, 0, 0, 7])), 9, 3, 5, by decide +kernel⟩,
   ⟨live, by decide +kernel⟩,
   ⟨State.reset, [1], by decide⟩,
   ⟨{ live with flt.injRun := some { target := 28, full := false } }, 1, 0, 0x101, 5, by decide⟩⟩

/-- The hypotheses of OldestReport can be met, clause by clause. -/
theorem test_hyps_OldestReport :
    (∃ (s : State), ∃ (p : Path), ∃ (r : List Word), ∃ (l : List (List Word)), ∃ (k : Nat), ∃ (w : Word), s.host.reports = r ::
      l ∧ k < 4 ∧ r[k]? = some w) ∧
    (∃ (s : State), ∃ (p : Path), ∃ (w : Word), ∃ (r : List Word), ∃ (l : List (List Word)), s.host.reports = (w :: r) :: l) ∧
    (∃ (s : State), ∃ (p : Path), ∃ (w : Word), ∃ (r : List Word), ∃ (l : List (List Word)), ∃ (q : BitVec 16), s.host.reports =
      (w :: r) :: l ∧ q ≠ BitVec.ofNat 16 (w.toNat / 65536)) ∧
    (∃ (s : State), ∃ (p : Path), ∃ (q : BitVec 16), s.host.reports = []) :=
  ⟨⟨{ live with host.reports := [[1, 2, 3, 4]] }, .host, [1, 2, 3, 4], [], 3, 4, by decide⟩,
   ⟨{ live with host.reports := [[65536, 2, 3, 4]] }, .host, 65536, [2, 3, 4], [], by decide⟩,
   ⟨{ live with host.reports := [[65536, 2, 3, 4]] }, .host, 65536, [2, 3, 4], [], 2, by decide⟩,
   ⟨live, .host, 0, by decide⟩⟩

/-- The hypotheses of RemoteRequests can be met, clause by clause. -/
theorem test_hyps_RemoteRequests :
    (∃ (s : State), ∃ (rseq u : BitVec 8), ∃ (a : BitVec 14), ∃ (tr : Bool), s.hostUp = true ∧ s.injectsHost = false ∧
      s.hostLocal u = false ∧ s.nmiHit = none ∧ (s.host.lastReq.any fun l => l.bytes == reqBytes (reqHeader rseq 0 u a) none
      []) = false) ∧
    (∃ (s : State), ∃ (rseq u : BitVec 8), ∃ (a : BitVec 14), ∃ (d : Word), ∃ (tr : Bool), s.hostUp = true ∧ s.injectsHost =
      false ∧ s.hostLocal u = false ∧ s.nmiHit = none ∧ (s.host.lastReq.any fun l => l.bytes == reqBytes (reqHeader rseq 1 u
      a) none [d]) = false) ∧
    (∃ (s : State), ∃ (r : Relay), ∃ (st : BitVec 4), ∃ (a : BitVec 14), ∃ (d : Word), s.relayOf r.tag = some r ∧ st ≠ 4) ∧
    (∃ (s : State), ∃ (r : Relay), ∃ (a : BitVec 14), ∃ (d : Word), s.relayOf r.tag = some r ∧ r.resent = true) ∧
    (∃ (s : State), ∃ (r : Relay), ∃ (a : BitVec 14), ∃ (d : Word), s.relayOf r.tag = some r ∧ r.resent = false) ∧
    (∃ (s : State), ∃ (tag : BitVec 8), ∃ (st : BitVec 4), ∃ (a : BitVec 14), ∃ (d : Word), s.relayOf tag = none) ∧
    (∃ (s : State), ∃ (r : Relay), ∃ (b : Word), s.relayOf r.tag = some r ∧ r.sentAt = some b ∧ (if r.trunk then 11 else 4) ≤
      (s.beat.num - b).toNat) ∧
    (∃ (s : State), ∃ (r : Relay), ∃ (b : Word), s.relayOf r.tag = some r ∧ r.sentAt = some b ∧ (s.beat.num - b).toNat < (if
      r.trunk then 11 else 4)) :=
  ⟨⟨{ live with cfg.image := img [] }, 1, 5, 0x101, true, by decide⟩,
   ⟨{ live with cfg.image := img [] }, 1, 5, 0x101, 7, true, by decide⟩,
   ⟨{ live with host.relays := [{ tag := 1, unit := 5, write := false, addr := 0, sentAt := some 0 }] },
    { tag := 1, unit := 5, write := false, addr := 0, sentAt := some 0 }, 1, 0, 0, by decide⟩,
   ⟨{ live with host.relays := [{ tag := 1, unit := 5, write := false, addr := 0, resent := true, sentAt := some 0 }] },
    { tag := 1, unit := 5, write := false, addr := 0, resent := true, sentAt := some 0 }, 0, 0, by decide⟩,
   ⟨{ live with host.relays := [{ tag := 1, unit := 5, write := false, addr := 0, sentAt := some 0 }] },
    { tag := 1, unit := 5, write := false, addr := 0, sentAt := some 0 }, 0, 0, by decide⟩,
   ⟨live, 1, 1, 0, 0, by decide⟩,
   ⟨{ live with beat.num := 4, host.relays := [{ tag := 1, unit := 5, write := false, addr := 0, sentAt := some 0 }] },
    { tag := 1, unit := 5, write := false, addr := 0, sentAt := some 0 }, 0, by decide⟩,
   ⟨{ live with beat.num := 3, host.relays := [{ tag := 1, unit := 5, write := false, addr := 0, sentAt := some 0 }] },
    { tag := 1, unit := 5, write := false, addr := 0, sentAt := some 0 }, 0, by decide⟩⟩

/-- The hypotheses of RegisterWrites can be met, clause by clause. -/
theorem test_hyps_RegisterWrites :
    (∃ (s : State), ∃ (p : Path), ∃ (a : BitVec 14), ∃ (d : Word), regAt a.toNat ≠ some true) ∧
    (∃ (s : State), ∃ (p : Path), ∃ (d : Word), ∃ (k : Nat), k < 3) ∧
    (∃ (s : State), ∃ (p : Path), ∃ (d : Word), bits d 0 2 = 1 ∧ bits d 8 8 = 0xC3) ∧
    (∃ (s : State), ∃ (p : Path), s.sys.pmcSnap = false) :=
  ⟨⟨live, .host, 0x3FFF, 5, by decide⟩,
   ⟨live, .ring, 5, 2, by decide⟩,
   ⟨live, .host, 0xC301, by decide⟩,
   ⟨live, .host, by decide⟩⟩

/-- The hypotheses of Recorder can be met, clause by clause. -/
theorem test_hyps_Recorder :
    (∃ (s : State), ∃ (e : QEnt), ∃ (l : List QEnt), s.log.slotDue = true ∧ s.log.queue = e :: l ∧ ((e.kind = .new ∨ e.kind =
      .marker)) ∧ s.log.clear = none ∧ s.log.clearPtr = none) ∧
    (∃ (s : State), ∃ (e : QEnt), ∃ (l : List QEnt), ∃ (q : Word), ∃ (r : LogRec), s.log.slotDue = true ∧ s.log.queue = e :: l ∧
      e.kind = .repeatOf q ∧ s.log.clear = none ∧ s.log.clearPtr = none ∧ s.log.lost = none ∧ s.log.store.find? (fun x =>
      x.1 == q.toNat % 131072) = some (q.toNat % 131072, r) ∧ r.seq = q) ∧
    (∃ (s : State), s.log.slotDue = true ∧ s.log.queue = [] ∧ s.log.clear = none ∧ s.log.clearPtr = none ∧ s.log.lost = none) ∧
    (∃ (s : State), s.log.slotDue = false) ∧
    (∃ (s : State), ∃ (q : Word), s.log.slotDue = true ∧ s.log.clear = some q ∧ s.log.clearPtr = none) ∧
    (∃ (s : State), ∃ (i : Nat), s.log.slotDue = true ∧ s.log.clearPtr = some i) ∧
    (∃ (s : State), ∃ (p : Path), s.crowns = true ∧ s.parked = true ∧ s.log.clear = none) ∧
    (∃ (s : State), ∃ (p : Path), ∃ (k : BitVec 8), (k ≠ 0xC3 ∨ s.crowns = false ∨ s.parked = false ∨ s.log.clear.isSome =
      true)) ∧
    (∃ (s : State), ∃ (q : Word), s.log.clear = some q ∧ s.log.clearPtr = some 131072) ∧
    (∃ (s : State), (s.log.clear = none ∨ s.log.clearPtr ≠ some 131072)) ∧
    (∃ (s : State), ∃ (r : LogRec), storeGet (s.log.rsel.toNat % 131072) s.log.store = some r) ∧
    (∃ (s : State), storeGet (s.log.rsel.toNat % 131072) s.log.store = none) :=
  ⟨⟨{ live with log.slotDue := true, log.queue := [{ kind := .new, code := 1, p := [] }] },
    { kind := .new, code := 1, p := [] }, [], by decide⟩,
   ⟨{ live with log.slotDue := true, log.store := [(5, { code := 1, seq := 5 })], log.queue := [{ kind := .repeatOf 5, code := 1, p := [] }] },
    { kind := .repeatOf 5, code := 1, p := [] }, [], 5, { code := 1, seq := 5 }, by decide⟩,
   ⟨{ live with log.slotDue := true }, by decide⟩,
   ⟨live, by decide⟩,
   ⟨{ live with log.slotDue := true, log.clear := some 5 }, 5, by decide⟩,
   ⟨{ live with log.slotDue := true, log.clearPtr := some 5 }, 5, by decide⟩,
   ⟨{ live with cfg.crw1 := true, cfg.crw2 := true }, .host, by decide⟩,
   ⟨live, .host, 0, by decide⟩,
   ⟨{ live with log.clear := some 5, log.clearPtr := some 131072 }, 5, by decide⟩,
   ⟨live, by decide⟩,
   ⟨{ live with log.store := [(0, { code := 1, seq := 5 })] }, { code := 1, seq := 5 }, by decide⟩,
   ⟨live, by decide⟩⟩

/-- The hypotheses of SupplyAndResets (Supply) can be met, clause by clause. -/
theorem test_hyps_Supply :
    (∃ (s : State), ∃ (vs : Nat), s.pwr.state = .off ∧ 13000 ≤ vs) ∧
    (∃ (s : State), ∃ (vs : Nat), ((s.pwr.state = .listen ∨ s.pwr.state = .dormant)) ∧ 13000 ≤ vs ∧ s.pwr.wakeLatch ≠ 0) ∧
    (∃ (s : State), ∃ (vs : Nat), 13000 ≤ vs ∧ s.pwr.state ≠ .off ∧ ((s.pwr.state = .listen ∨ s.pwr.state = .dormant →
      s.pwr.wakeLatch = 0))) ∧
    (∃ (s : State), ∃ (vs : Nat), vs < 13000) ∧
    (∃ (s : State), ∃ (vs k : Nat), vs < 12000 ∧ ((s.pwr.state = .active ∨ s.pwr.state = .idle ∨ (s.pwr.state = .start k ∧ 6 ≤
      k))) ∧ s.pwr.intr = none ∧ s.pwr.stopping = false) ∧
    (∃ (s : State), ∃ (vs k : Nat), vs < 12000 ∧ s.pwr.state = .start k ∧ k ≤ 5) ∧
    (∃ (s : State), ∃ (vs : Nat), (12000 ≤ vs ∨ s.pwr.state = .off ∨ s.pwr.state = .listen ∨ s.pwr.state = .dormant ∨
      s.pwr.state = .held ∨ ((s.pwr.state = .active ∨ s.pwr.state = .idle) ∧ (s.pwr.intr.isSome = true ∨ s.pwr.stopping =
      true)))) ∧
    (∃ (s : State), ∃ (vs low j : Nat), ∃ (b : Word), 13000 ≤ vs ∧ s.pwr.stopping = false ∧ s.pwr.intr = some (low, b, j) ∧
      s.srcWhole) ∧
    (∃ (s : State), ∃ (vs : Nat), (vs < 13000 ∨ s.pwr.stopping = true ∨ s.pwr.intr = none)) ∧
    (∃ (s : State), ∃ (r : Bool), ((s.pwr.stopping = true ∨ (s.pwr.intr.isSome = true ∧ r = true)))) ∧
    (∃ (s : State), ∃ (r : Bool), s.pwr.stopping = false ∧ (s.pwr.intr = none ∨ r = false)) :=
  ⟨⟨{ live with pwr.state := .off }, 13000, by decide⟩,
   ⟨{ live with pwr.state := .listen, pwr.wakeLatch := 1 }, 13000, by decide⟩,
   ⟨live, 13000, by decide⟩,
   ⟨live, 12999, by decide⟩,
   ⟨live, 11999, 0, by decide, .inl rfl, by decide, by decide⟩,
   ⟨{ live with pwr.state := .start 5 }, 11999, 5, by decide⟩,
   ⟨live, 12000, by decide⟩,
   ⟨{ live with pwr.intr := some (11000, 0, 0) }, 13000, 11000, 0, 0, by decide +kernel⟩,
   ⟨live, 12999, by decide⟩,
   ⟨{ live with pwr.stopping := true }, false, .inl rfl⟩,
   ⟨live, true, by decide⟩⟩

/-- The hypotheses of SupplyAndResets (Resets) can be met, clause by clause. -/
theorem test_hyps_Resets :
    (∃ (s : State), ∃ (us : Nat), s.pwr.state ≠ .off ∧ s.pwr.state ≠ .dormant ∧ s.pwr.nrstIgn = false ∧ s.pwr.stopping = false ∧
      10 ≤ us) ∧
    (∃ (s : State), ∃ (us : Nat), s.pwr.state ≠ .off ∧ s.pwr.state ≠ .dormant ∧ s.pwr.nrstIgn = false ∧ s.pwr.stopping = false ∧
      us < 2) ∧
    (∃ (s : State), ∃ (us : Nat), s.pwr.state ≠ .off ∧ s.pwr.state ≠ .dormant ∧ s.pwr.nrstIgn = false ∧ s.pwr.stopping = false ∧
      2 ≤ us ∧ us < 10) ∧
    (∃ (s : State), ∃ (us : Nat), (s.pwr.nrstIgn = true ∨ s.pwr.stopping = true ∨ s.pwr.state = .off ∨ s.pwr.state = .dormant)) ∧
    (∃ (s : State), s.pwr.state = .held) ∧
    (∃ (s : State), s.pwr.state ≠ .held) ∧
    (∃ (s : State), s.pwr.state = .held ∧ s.pwr.nrstLow = true) ∧
    (∃ (s : State), (s.pwr.state ≠ .held ∨ s.pwr.nrstLow = false)) ∧
    (∃ (s : State), s.pwr.nrstIgn = true) ∧
    (∃ (s : State), s.pwr.nrstIgn = false) ∧
    (∃ (s : State), ∃ (c : Nat), s.cfg.resetDue = some c ∧ s.beat.running = true) ∧
    (∃ (s : State), (s.cfg.resetDue = none ∨ s.beat.running = false)) :=
  ⟨⟨live, 10, by decide⟩,
   ⟨live, 1, by decide⟩,
   ⟨live, 2, by decide⟩,
   ⟨{ live with pwr.nrstIgn := true }, 2, by decide⟩,
   ⟨{ live with pwr.state := .held }, by decide⟩,
   ⟨live, by decide⟩,
   ⟨{ live with pwr.state := .held, pwr.nrstLow := true }, by decide⟩,
   ⟨live, by decide⟩,
   ⟨{ live with pwr.nrstIgn := true }, by decide⟩,
   ⟨live, by decide⟩,
   ⟨{ live with cfg.resetDue := some 6 }, 6, by decide⟩,
   ⟨live, by decide⟩⟩

/-- The hypotheses of LowPower can be met, clause by clause. -/
theorem test_hyps_LowPower :
    (∃ (s : State), ∃ (key : Bool), ((s.pwr.state = .active ∨ s.pwr.state = .idle)) ∧ s.pwr.req = some (1, key) ∧ s.pwrRefusal
      false key = none) ∧
    (∃ (s : State), ∃ (key : Bool), ∃ (r : Nat), ((s.pwr.state = .active ∨ s.pwr.state = .idle)) ∧ s.pwr.req = some (1, key) ∧
      s.pwrRefusal false key = some r) ∧
    (∃ (s : State), ∃ (key : Bool), ((s.pwr.state = .active ∨ s.pwr.state = .idle)) ∧ s.pwr.req = some (2, key) ∧ s.pwrRefusal
      true key = none) ∧
    (∃ (s : State), ∃ (key : Bool), ∃ (r : Nat), ((s.pwr.state = .active ∨ s.pwr.state = .idle)) ∧ s.pwr.req = some (2, key) ∧
      s.pwrRefusal true key = some r) ∧
    (∃ (s : State), (s.pwr.req = none ∨ (s.pwr.state ≠ .active ∧ s.pwr.state ≠ .idle))) ∧
    (∃ (s : State), ∃ (d : Bool), ∃ (c : Ctl), c = (if s.runs .a then s.pre.ctlA else s.pre.ctlB) ∧ c ≠ .parked ∧ c ≠ .safe) ∧
    (∃ (s : State), ∃ (d : Bool), ∃ (c : Ctl), c = (if s.runs .a then s.pre.ctlA else s.pre.ctlB) ∧ (c = .parked ∨ c = .safe) ∧
      s.pre.busy = true) ∧
    (∃ (s : State), ∃ (d : Bool), ∃ (c : Ctl), c = (if s.runs .a then s.pre.ctlA else s.pre.ctlB) ∧ (c = .parked ∨ c = .safe) ∧
      s.pre.busy = false ∧ s.pre.closeStaged = true) ∧
    (∃ (s : State), ∃ (d : Bool), ∃ (c : Ctl), c = (if s.runs .a then s.pre.ctlA else s.pre.ctlB) ∧ (c = .parked ∨ c = .safe) ∧
      s.pre.busy = false ∧ s.pre.closeStaged = false ∧ s.wakeActive d = true) ∧
    (∃ (s : State), ∃ (d : Bool), ∃ (c : Ctl), c = (if s.runs .a then s.pre.ctlA else s.pre.ctlB) ∧ (c = .parked ∨ c = .safe) ∧
      s.pre.busy = false ∧ s.pre.closeStaged = false ∧ s.wakeActive d = false ∧ d = false) ∧
    (∃ (s : State), ∃ (d : Bool), ∃ (c : Ctl), c = (if s.runs .a then s.pre.ctlA else s.pre.ctlB) ∧ (c = .parked ∨ c = .safe) ∧
      s.pre.busy = false ∧ s.pre.closeStaged = false ∧ s.wakeActive d = false ∧ d = true) ∧
    (∃ (s : State), s.pwr.state = .idle ∧ 0 < s.nat .LSN_TMO ∧ 1000 * s.nat .LSN_TMO ≤ s.pwr.idleBeats ∧ s.pwr.entry = none ∧
      s.pwrRefusal false true = none) ∧
    (∃ (s : State), ∃ (r : Nat), s.pwr.state = .idle ∧ 0 < s.nat .LSN_TMO ∧ 1000 * s.nat .LSN_TMO ≤ s.pwr.idleBeats ∧
      s.pwr.entry = none ∧ s.pwrRefusal false true = some r) ∧
    (∃ (s : State), (s.pwr.state ≠ .idle ∨ s.nat .LSN_TMO = 0 ∨ s.pwr.idleBeats < 1000 * s.nat .LSN_TMO)) ∧
    (∃ (s : State), ∃ (d : Bool), ∃ (k : Nat), s.pwr.entry = some (d, k) ∧ (s.pwr.wakeLatch &&& wakeMask d = 0 ∨ s.pwr.vsGood =
      false)) ∧
    (∃ (s : State), ∃ (d : Bool), ∃ (k : Nat), s.pwr.entry = some (d, k) ∧ (s.pwr.wakeLatch &&& wakeMask d = 0 ∨ s.pwr.vsGood =
      false) ∧ s.runs .a = true) ∧
    (∃ (s : State), s.pwr.state = .listen ∧ s.pwr.dormTmo ≠ 0) ∧
    (∃ (s : State), (s.pwr.state ≠ .listen ∨ s.pwr.dormTmo = 0)) ∧
    (∃ (s : State), ∃ (vs : Nat), s.pwr.state = .listen ∧ vs < 12000) ∧
    (∃ (s : State), ∃ (vs : Nat), (s.pwr.state ≠ .listen ∨ 12000 ≤ vs)) ∧
    (∃ (s : State), ∃ (mv : Nat), s.pwr.state = .dormant ∧ mv < 40000) ∧
    (∃ (s : State), ∃ (mv : Nat), (s.pwr.state ≠ .dormant ∨ 40000 ≤ mv)) ∧
    (∃ (s : State), ∃ (x : BitVec 7), (s.pwr.state = .listen ∨ s.pwr.state = .dormant) ∧ s.wakeSources (s.pwr.state == .dormant)
      x &&& s.pwr.wakeEn ≠ 0) ∧
    (∃ (s : State), ∃ (x : BitVec 7), (s.pwr.state = .listen ∨ s.pwr.state = .dormant) ∧ s.wakeSources (s.pwr.state == .dormant)
      x &&& s.pwr.wakeEn = 0) ∧
    (∃ (s : State), ∃ (x : BitVec 7), ∃ (d : Bool), ∃ (k : Nat), s.pwr.state ≠ .listen ∧ s.pwr.state ≠ .dormant ∧ s.pwr.entry =
      some (d, k) ∧ s.wakeSources d x &&& BitVec.ofNat 7 (s.nat .WAKE_EN) ≠ 0) ∧
    (∃ (s : State), ∃ (x : BitVec 7), s.pwr.state ≠ .listen ∧ s.pwr.state ≠ .dormant ∧ s.pwr.entry = none) ∧
    (∃ (s : State), ∃ (x : BitVec 7), ∃ (d : Bool), s.pwr.alarm = 0) :=
  ⟨⟨{ live with pwr.req := some (1, true) }, true, by decide⟩,
   ⟨{ live with pwr.req := some (1, false) }, false, 1, by decide⟩,
   ⟨{ live with pwr.req := some (2, true), meas.shown.hv := List.replicate 4 { code := 12800, valid := true } }, true,
    by decide⟩,
   ⟨{ live with pwr.req := some (2, true) }, true, 6, by decide⟩,
   ⟨live, by decide⟩,
   ⟨{ live with pre.ctlA := .closed }, true, .closed, by decide⟩,
   ⟨{ live with pre.busy := true }, true, .parked, by decide⟩,
   ⟨{ live with pre.closeStaged := true }, true, .parked, by decide⟩,
   ⟨{ live with pwr.wakePin := true, cfg.image := img [prm .WAKE_EN 0 1] }, true, .parked, by decide⟩,
   ⟨live, false, .parked, by decide⟩,
   ⟨live, true, .parked, by decide⟩,
   ⟨{ live with cfg.image := img [prm .LSN_TMO 0 1], pwr.state := .idle, pwr.idleBeats := 1000 }, by decide⟩,
   ⟨{ live with cfg.image := img [prm .LSN_TMO 0 1], pwr.state := .idle, pwr.idleBeats := 1000, pre.busy := true }, 3,
    by decide⟩,
   ⟨live, by decide⟩,
   ⟨{ live with pwr.entry := some (true, 1) }, true, 1, by decide⟩,
   ⟨{ live with pwr.entry := some (true, 1) }, true, 1, by decide⟩,
   ⟨{ live with pwr.state := .listen, pwr.dormTmo := 1 }, by decide⟩,
   ⟨live, by decide⟩,
   ⟨{ live with pwr.state := .listen }, 11999, by decide⟩,
   ⟨live, 11999, by decide⟩,
   ⟨{ live with pwr.state := .dormant }, 39999, by decide⟩,
   ⟨live, 0, by decide⟩,
   ⟨{ live with pwr.state := .listen, pwr.wakeEn := 1 }, 1, by decide⟩,
   ⟨{ live with pwr.state := .dormant }, 1, by decide⟩,
   ⟨{ live with pwr.entry := some (true, 1), cfg.image := img [prm .WAKE_EN 0 1] }, 1, true, 1, by decide⟩,
   ⟨live, 1, by decide⟩,
   ⟨live, 0, true, by decide⟩⟩

/-- The hypotheses of LowPower (Start) can be met, clause by clause. -/
theorem test_hyps_Start :
    (∃ (s : State), ∃ (o : StartIn), s.pwr.state = .start 1) ∧
    (∃ (s : State), ∃ (o : StartIn), s.pwr.state = .start 2) ∧
    (∃ (s : State), ∃ (o : StartIn), s.pwr.state = .start 3) ∧
    (∃ (s : State), ∃ (o : StartIn), s.pwr.state = .start 4 ∧ s.pwr.cause ≠ 1) ∧
    (∃ (s : State), ∃ (o : StartIn), s.pwr.state = .start 4 ∧ s.pwr.cause = 1 ∧ s.log.calTrim = 0 ∧ s.log.calTrimAcc = 0 ∧ 65536
      * (s.log.savedSec.toNat + s.log.calSec.toNat) + s.log.savedFrac.toNat + s.log.calFrac.toNat < 65536 * 2 ^ 32) ∧
    (∃ (s : State), ∃ (o : StartIn), s.pwr.state = .start 5) ∧
    (∃ (s : State), ∃ (b : Bool), s.cfg.find [.trial] = some b ∧ s.bankLoads b = true) ∧
    (∃ (s : State), ∃ (b : Bool), s.cfg.find [.trial] = none ∧ s.cfg.find [.active] = some b ∧ s.bankLoads b = true) ∧
    (∃ (s : State), ∃ (b : Bool), s.cfg.find [.trial] = none ∧ s.cfg.find [.active] = some b ∧ s.bankLoads b = false) ∧
    (∃ (s : State), ∃ (o : StartIn), s.pwr.state = .start 6 ∧ s.srcWhole) ∧
    (∃ (s : State), ∃ (o : StartIn), s.pwr.state = .start 7 ∧ s.passRuns = true) ∧
    (∃ (s : State), ∃ (o : StartIn), s.pwr.state = .start 7 ∧ s.passRuns = false ∧ s.misPopulated = false) ∧
    (∃ (s : State), ∃ (o : StartIn), s.pwr.state = .start 7 ∧ s.passRuns = false ∧ s.misPopulated = true ∧ s.srcWhole) ∧
    (∃ (s : State), ∃ (o : StartIn), (s.pwr.state = .start 8 ∨ s.pwr.state = .active ∨ s.pwr.state = .idle ∨ s.pwr.state = .off
      ∨ s.pwr.state = .held ∨ s.pwr.state = .listen ∨ s.pwr.state = .dormant)) ∧
    (∃ (s : State), ∃ (ms : Nat), s.startDone = true) ∧
    (∃ (s : State), ∃ (ms : Nat), s.startDone = false) ∧
    (∃ (s : State), s.pwr.state = .start 8) :=
  ⟨⟨{ live with pwr.state := .start 1 }, start0, by decide⟩,
   ⟨State.reset, start0, by decide⟩,
   ⟨{ live with pwr.state := .start 3 }, start0, by decide⟩,
   ⟨{ live with pwr.state := .start 4, pwr.cause := 2 }, start0, by decide⟩,
   ⟨{ live with pwr.state := .start 4, pwr.cause := 1 }, start0, by decide⟩,
   ⟨{ live with pwr.state := .start 5 }, start0, by decide⟩,
   ⟨{ live with cfg.bank1 := { digestBank with state := .trial } }, true, by decide +kernel⟩,
   ⟨{ live with cfg.bank0 := { digestBank with state := .active } }, false, by decide +kernel⟩,
   ⟨{ live with cfg.bank0.state := .active }, false, by decide +kernel⟩,
   ⟨{ live with pwr.state := .start 6 }, start0, by decide +kernel⟩,
   ⟨{ live with pwr.state := .start 7, integ.seg := List.replicate 4 { pass := some 5 } }, start0, by decide⟩,
   ⟨{ live with pwr.state := .start 7 }, start0, by decide⟩,
   ⟨{ live with pwr.state := .start 7, meas.posCodes := List.replicate 96 (some 0), cfg.image := img [prm .CELL 5 1] }, start0,
    by decide +kernel⟩,
   ⟨live, start0, by decide⟩,
   ⟨{ live with pwr.state := .start 8 }, 100, by decide⟩,
   ⟨live, 0, by decide⟩,
   ⟨{ live with pwr.state := .start 8 }, by decide⟩⟩

/-! The ill-formed terms that the check refuses, one for each condition. -/

theorem test_wf_beat : Instr.wf (.beatBoundary bnd0) = true ∧ Instr.wf (.beatBoundary { bnd0 with period := 195999 }) = false ∧
    Instr.wf (.beatBoundary { bnd0 with period := 204001 }) = false ∧
    Instr.wf (.beatBoundary { bnd0 with slow1 := some ⟨8388608, false⟩ }) = false := by decide

/-- A sub-beat with every list of its right length. -/
def subOk : SubBeatIn :=
  { sub0 with cells := List.replicate 96 none, ib := List.replicate 96 0, coil := List.replicate 8 0, coilL := List.replicate 8 0
              rbH := List.replicate 8 .high, rbL := List.replicate 8 .high }

theorem test_wf_subBeat : Instr.wf (.subBeat subOk) = true ∧ Instr.wf (.subBeat { subOk with cells := [] }) = false ∧
    Instr.wf (.subBeat { subOk with ib := [] }) = false ∧ Instr.wf (.subBeat { subOk with coil := [0] }) = false ∧
    Instr.wf (.subBeat { subOk with coilL := [] }) = false ∧
    Instr.wf (.subBeat { subOk with rbH := [] }) = false ∧ Instr.wf (.subBeat { subOk with rbL := [] }) = false := by
  decide +kernel

theorem test_wf_subBeat_samples :
    Instr.wf (.subBeat { subOk with cells := some ⟨2097152, false⟩ :: List.replicate 95 none }) = false ∧
    Instr.wf (.subBeat { subOk with i1 := some ⟨-8388609, false⟩ }) = false ∧
    Instr.wf (.subBeat { subOk with i2 := some ⟨8388608, false⟩ }) = false := by decide +kernel

/-- A window with every list of its right length. -/
def winOk : WindowIn := ⟨List.replicate 96 none, List.replicate 96 0, [none, none], [none, none, none, none], List.replicate 24 none, 0⟩

theorem test_wf_window : Instr.wf (.windowClose 0 winOk) = true ∧ Instr.wf (.windowClose 0 { winOk with cells := [] }) = false ∧
    Instr.wf (.windowClose 0 { winOk with ib := [] }) = false ∧ Instr.wf (.windowClose 0 { winOk with cur := [] }) = false ∧
    Instr.wf (.windowClose 0 { winOk with hv := [] }) = false ∧ Instr.wf (.windowClose 0 { winOk with chk := [] }) = false := by
  decide +kernel

theorem test_wf_window_samples :
    Instr.wf (.windowClose 3 { winOk with cells := some ⟨[], false⟩ :: List.replicate 95 none }) = false ∧
    Instr.wf (.windowClose 3 { winOk with cur := [some ⟨[8388608], false⟩, none] }) = false ∧
    Instr.wf (.windowClose 3 { winOk with hv := [none, none, none, some ⟨List.replicate 9 0, false⟩] }) = false ∧
    Instr.wf (.windowClose 3 { winOk with chk := some 2 :: List.replicate 23 none }) = false ∧
    Instr.wf (.windowClose 3 { winOk with chk := some 131072 :: List.replicate 23 none }) = false := by decide +kernel

theorem test_wf_bursts : Instr.wf (.hostBurstRead 0 0 0 false ⟨256, []⟩) = true ∧ Instr.wf (.hostBurstRead 0 0 0 false ⟨0, []⟩) = false ∧
    Instr.wf (.hostBurstRead 0 0 0 false ⟨257, []⟩) = false ∧ Instr.wf (.hostBurstWrite 0 0 0 false [0]) = true ∧
    Instr.wf (.hostBurstWrite 0 0 0 false []) = false ∧
    Instr.wf (.hostBurstWrite 0 0 0 false (List.replicate 257 0)) = false := by decide +kernel

theorem test_wf_frames : Instr.wf (.canFrameReceive .can1 (fr 1 9 (List.replicate 12 0)) 0) = true ∧
    Instr.wf (.canFrameReceive .can1 (fr 1 9 []) 0) = false ∧ Instr.wf (.safeTelegramReceive .can1 (fr 1 1 [])) = false ∧
    Instr.wf (.referenceReceive (fr 1 1 []) 0 0) = false ∧ Instr.wf (.calReceive (fr 1 1 []) 0 0) = false ∧
    Instr.wf (.canFrameReceive .can1 { fr 1 1 [] with rtr := true } 0) = false ∧
    Instr.wf (.canWake .can1 false false (some (fr 1 1 []))) = false := by decide

theorem test_wf_memory_ring : Instr.wf (.memoryReadRetry .mram 524287 true) = true ∧
    Instr.wf (.memoryReadRetry .mram 524288 true) = false ∧ Instr.wf (.memoryReadRetry .sramA 131072 true) = false ∧
    Instr.wf (.ringFrameReceive .n (List.replicate 19 0) false) = false := by decide

/-! Worked examples of the manual. -/

/-- The pooling example under R98. -/
theorem test_pooling : divRnd 8519726 80 = 106497 ∧ divRnd (-80) 64 = -1 ∧ divRnd (-96) 64 = -1 := by decide

/-- The accumulator example of R155, with the negative sample that follows. -/
theorem test_accumulator : [1600003, 1599998, 1600011, 1599990].foldl accum (0, 0) = (400000, 2) ∧
    accum (400000, 2) (-25) = (399998, 9) ∧ ({ sum := 6400002, n := 4 } : Pool).code = 100000 := by decide

/-- The insulation example of R162. -/
theorem test_insulation : isoCalc 230631 256000 46126 256000 = .inr (1000005, 2000038) := by decide

/-- The thermistor example of R166. -/
theorem test_thermistor : (thmConv [(23000, 4500), (25000, 3900)] 24180).temp = 4146 := by decide

/-- The identity code example of R79. -/
theorem test_identity : idOhm 37 = 17246 ∧ (idDecode 41441).code = 37 ∧ (idDecode 41441).valid = true := by decide +kernel

/-- The open-wire example under R197, and the wire correction example of R200. -/
theorem test_open_wire : owJudge .interior (-22620) 22608 (-6) = .opn ∧ floorDiv 190106 2 = 95053 ∧ floorDiv 190107 2 = 95053 ∧
    divRnd (2 * 221000 * 100) 78125 = 566 := by decide

/-- The duty example of R214: cell 40 conducts in sub-beats 8 to 15 at D = 8. -/
theorem test_duty : (List.range 16).filter (fun j => dutyPattern 40 j 8) = [8, 9, 10, 11, 12, 13, 14, 15] := by decide

/-- The excitation and impedance examples of R217 and R233. -/
theorem test_impedance_numbers : halfPeriod 1000000 = 20480 ∧ halfPeriod 700000 = 29257 ∧ phiOf 20480 = 268435456 := by decide

/-- The impedance result example of R233 and R234, and its table entry by R242. -/
theorem test_impedance_result :
    let r := State.result { cfg.image := img [prm .R_SH 1 250000, prm .IMP_COHMIN 0 8100] }
      { re := 89600000000000000, im := -6400000000000000, rr := 4000000000000000000, vv := 2100000000000000, n := 8 } 0
    let e := updateEntry 32 (some { cell := 38, tbin := 5, sbin := 6, slot := 2, mag := 430, ph := -400, coh := 9000, n := 3 }) 38 5 6 2 r
    r.mag = 439 ∧ r.ph = -409 ∧ r.coh = 9606 ∧ r.valid = true ∧ e.mag = 431 ∧ e.ph = -401 := by decide +kernel

/-- The accounting example of R255: the drop, the confidence and SOC_V of the lowest cell. -/
theorem test_compensation : rreOf 1200 (-500) = 1195 ∧
    (StrCell.mk 0 1 80000 80000 80000 1195 9606 0 none).drop (-150000) = -4589 ∧
    (StrCell.mk 0 1 80000 80000 80000 1195 9606 0 none).conf (-150000) 1000 12800 = 6162 ∧
    thmSegment [(83200, 5000), (85760, 15000)] 84589 = 10426 := by decide +kernel

/-- The limit example of R282 to R287. -/
theorem test_limits : cellLimit 12909 1195 384 = 281236 ∧ cellLimit 12909 1195 640 = 168760 ∧ cellLimit 12909 1195 1024 = 105493 ∧
    curveAt [(0, 500), (1500, 1000)] 500 = 667 ∧ limStep 667 100000 300000 false none none 250000 = (166750, false) ∧
    limStep 500 100000 300000 false none none 105493 = (52747, false) := by decide

/-- The CVL example of R289. -/
theorem test_charge_voltage : cvlOf (StrCell.mk 0 1 130080 0 86000 0 0 0 none ::
    List.replicate 95 (StrCell.mk 0 2 84000 0 84000 0 0 0 none)) 96 106496 = 393660 := by decide +kernel

/-- The Local mode example of R424. -/
theorem test_local_decay : decay 120000 40000 12000 = 88000 := by decide

/-- The bit timing example of R433. -/
theorem test_bit_timing :
    let s : State := { cfg.image := img [prm .TRIPLE 1 0, prm .BRP 1 2, prm .TSEG1 1 63, prm .TSEG2 1 16, prm .SJW 1 16, prm .DBRP 1 1,
      prm .DTSEG1 1 14, prm .DTSEG2 1 5, prm .DSJW 1 5, prm .TDC 1 1, prm .TDCO 1 15] }
    s.regWord .host 0x1602 = 0x009F0F1E ∧ s.regWord .host 0x1603 = 0x8F035100 := by decide +kernel

/-- The history example of R517: word 377 holds cell 38, tbin 5, sbin 6 in its bytes 20 to 23. -/
theorem test_history_place : condPlace (8 * 377 + 5) = (38, 5, 6) := by decide

/-- Published check values of the codes over the digits 1 to 9 (log entry 17). -/
theorem test_check_codes :
    let m : List Byte := [49, 50, 51, 52, 53, 54, 55, 56, 57]
    crc8 m = 0xF4 ∧ crc16 m = 0x29B1 ∧ crc32 m = 0xCBF43926 ∧ crc32c m = 0xE3069283 := by decide +kernel

/-- The digest of the three letters abc in FIPS 180-4 (log entry 17). -/
theorem test_digest : (sha256 [97, 98, 99]).take 8 = [0xba, 0x78, 0x16, 0xbf, 0x8f, 0x01, 0xcf, 0xea] := by decide +kernel

/-! One step each. -/

/-- The next state satisfies p. -/
def nextIs (o : Host.Outcome State Fault Refusal) (p : State → Bool) : Bool :=
  match o with
  | .next t => p t
  | _ => false

/-- Log entry 10: an empty queue leaves the block as it is. -/
theorem test_idle : step live = .next live := rfl

/-- R33, R80: the boundary of a beat whose work is done counts one beat. -/
theorem test_beat_counts : nextIs (exec (.beatBoundary bnd0) quiet) (fun t => t.beat.num == 1 && t.beat.sub == 0) = true := by
  decide +kernel

/-- R126, R129: OPEN with a wrong key is refused with RESULT 1. -/
theorem test_open_wrong_key : nextIs (exec (.cfgOpen .host 0) live) (fun t => t.cfg.result == 1) = true := by decide +kernel

/-- R366, R367: a lasting raise of FS32 sets its latch and no other source's. -/
theorem test_raise : nextIs (exec (.faultRaise 32 false 7 0) live)
    (fun t => (t.fs 32).latch && !(t.fs 33).latch) = true := by decide +kernel

/-- R465: HOST_POP removes the oldest report only by its own REPSEQ. -/
theorem test_pop :
    let s : State := { live with host.reports := [[0x00050001, 0, 0, 0], [0x00060001, 0, 0, 0]] }
    nextIs (exec (.hostPop .host 5) s) (fun t => t.host.reports.length == 1) = true ∧
    nextIs (exec (.hostPop .host 6) s) (fun t => t.host.reports.length == 2) = true := by decide +kernel

end Sys2Proof.Tests
end

section
/-! PROOFS. The W1C writes that act before a raise (R14, R367). -/

namespace Sys2Proof.Machine

/-- The severity of a source after a boundary that ends it when `due`, and after a write of 1 to SEVL when `sevl` (R367, R369). -/
def FsSrc.w1cSevl (sevl due : Bool) (x : FsSrc) : FsSrc :=
  let y := if due then { x with sevp := false } else x
  if sevl then y.clearSevl else y

/-- What the W1C writes of one source do to its status: that of SEVL first, then that of LATCH (R367). -/
def FsSrc.w1c (latch sevl due : Bool) (x : FsSrc) : FsSrc :=
  if latch then (x.w1cSevl sevl due).clearLatch else x.w1cSevl sevl due

/-- On a status without any bit set they do nothing. -/
theorem FsSrc.w1c_empty (latch sevl due : Bool) : FsSrc.w1c latch sevl due {} = {} := by
  cases latch <;> cases sevl <;> cases due <;> rfl

/-- The end of a severity and the write of SEVL reach only the two severity bits. -/
theorem FsSrc.w1cSevl_frame (sevl due : Bool) (x : FsSrc) : ∃ p l, x.w1cSevl sevl due = { x with sevp := p, sevl := l } := by
  refine ⟨(x.w1cSevl sevl due).sevp, (x.w1cSevl sevl due).sevl, ?_⟩
  simp only [FsSrc.w1cSevl, FsSrc.clearSevl]
  cases sevl
  · cases due <;> rfl
  · cases due
    · cases hp : x.sevp
      · simp [hp]
      · simp only [hp, Bool.false_eq_true, if_false, if_true]
        rw [← hp]
    · rfl

/-- FIRST and the beat of a single occurrence stay. -/
theorem FsSrc.w1c_keeps (latch sevl due : Bool) (x : FsSrc) :
    (x.w1c latch sevl due).first = x.first ∧ (x.w1c latch sevl due).till = x.till := by
  obtain ⟨p, l, h⟩ := x.w1cSevl_frame sevl due
  rw [FsSrc.w1c, h, FsSrc.clearLatch]
  cases latch
  · exact ⟨rfl, rfl⟩
  · simp only [if_true]
    split <;> exact ⟨rfl, rfl⟩

/-- LATCH and the counts clear exactly when LATCH was written and the source is not present (R367). -/
theorem FsSrc.w1c_counts (latch sevl due : Bool) (x : FsSrc) :
    (x.w1c latch sevl due).latch = (x.latch && !(latch && !x.pres)) ∧
    (x.w1c latch sevl due).events = (if latch = true ∧ x.pres = false then 0 else x.events) ∧
    (x.w1c latch sevl due).trans = (if latch = true ∧ x.pres = false then 0 else x.trans) := by
  obtain ⟨p, l, h⟩ := x.w1cSevl_frame sevl due
  have hpres : FsSrc.pres { x with sevp := p, sevl := l } = x.pres := rfl
  rw [FsSrc.w1c, h, FsSrc.clearLatch, hpres]
  cases latch
  · simp
  · cases x.pres <;> simp

/-- A severity of the source ends before its waiting W1C writes act (R369). -/
def State.w1cDue (s : State) (n : Nat) : Bool := (s.flt.w1cLatch.contains n || s.flt.w1cSevl.contains n) && s.sevDue n

/-- Of the collectors, only the status of the source and the two lists of waiting writes change (R14). -/
theorem State.w1cNow_flt (n : Nat) (s : State) :
    (s.w1cNow n).flt = { s.flt with
      src := s.flt.src.modify n (FsSrc.w1c (s.flt.w1cLatch.contains n) (s.flt.w1cSevl.contains n) (s.w1cDue n))
      w1cLatch := s.flt.w1cLatch.filter (· != n)
      w1cSevl := s.flt.w1cSevl.filter (· != n) } := by
  by_cases hw : (s.flt.w1cLatch.contains n || s.flt.w1cSevl.contains n) = true
  · simp only [State.w1cNow, State.w1cDue, hw, if_true, Bool.true_and]
    cases s.sevDue n
    · rfl
    · simp only [if_true, State.sevClear_flt, List.modify_modify_eq]
      rfl
  · obtain ⟨hl, hv⟩ : n ∉ s.flt.w1cLatch ∧ n ∉ s.flt.w1cSevl := by simpa using hw
    have keep (l : List Nat) (h : n ∉ l) : l.filter (· != n) = l :=
      List.filter_eq_self.2 fun a ha => by simpa using fun e : a = n => h (e ▸ ha)
    have same : FsSrc.w1c (s.flt.w1cLatch.contains n) (s.flt.w1cSevl.contains n) (s.w1cDue n) = id := by
      funext x; simp [FsSrc.w1c, FsSrc.w1cSevl, State.w1cDue, hl, hv]
    rw [State.w1cNow_idle n s hl hv, keep _ hl, keep _ hv, same, List.modify_id]

@[simp] theorem State.w1cNow_hopen (n : Nat) (s : State) : (s.w1cNow n).flt.hopen = s.flt.hopen := by rw [State.w1cNow_flt]

@[simp] theorem State.w1cNow_srcLength (n : Nat) (s : State) : (s.w1cNow n).flt.src.length = s.flt.src.length := by
  rw [State.w1cNow_flt]; exact List.length_modify ..

/-- The W1C writes of one source leave every other source alone. -/
theorem State.w1cNow_fs_ne {n k : Nat} (h : k ≠ n) (s : State) : (s.w1cNow n).fs k = s.fs k := by
  simp [State.fs, State.w1cNow_flt, h.symm]

/-- The status of a source as a raise finds it. -/
theorem State.fsIn_eq (n : Nat) (s : State) :
    s.fsIn n = (s.fs n).w1c (s.flt.w1cLatch.contains n) (s.flt.w1cSevl.contains n) (s.w1cDue n) := by
  simp only [State.fsIn, State.fs, State.w1cNow_flt, List.getElem?_modify_eq]
  cases s.flt.src[n]? with
  | some x => rfl
  | none => exact (FsSrc.w1c_empty ..).symm

/-! What a raise does to the handling sequence and to the log (R368, R374). -/

/-- The raised source's own status. -/
theorem State.raiseAt_fs {n : Nat} {s : State} (hn : n < s.flt.src.length) (k : RaiseKind) (d b : Word) :
    ((s.raiseAt k true n d b).fs n).latch = true ∧ ((s.raiseAt k true n d b).fs n).last = b ∧
    ((s.raiseAt k true n d b).fs n).first = (if (s.fsIn n).latch then (s.fsIn n).first else b) ∧
    ((s.raiseAt k true n d b).fs n).events =
      (if k = .transient then (s.fsIn n).events else incSat 65535 (s.fsIn n).events) ∧
    ((s.raiseAt k true n d b).fs n).trans = (if k = .transient then incSat 65535 (s.fsIn n).trans else (s.fsIn n).trans) ∧
    ((s.raiseAt k true n d b).fs n).till = (if k = .transient then (s.fs n).till else some b) := by
  obtain ⟨y, hsrc, hlatch, hlast, hev, htr, hfirst, -, htill⟩ := State.raiseAt_entry k true n d b s (s.fsIn n) rfl
  have hfs : (s.raiseAt k true n d b).fs n = y := by simp [State.fs, hsrc, hn]
  have hin : (s.fsIn n).till = (s.fs n).till := by rw [State.fsIn_eq]; exact (FsSrc.w1c_keeps ..).2
  rw [hfs]
  refine ⟨hlatch, hlast, hfirst, ?_, ?_, ?_⟩
  · simpa using hev
  · simpa using htr
  · cases k <;> simp [htill, hin]

/-- A raise leaves every other source alone. -/
theorem State.raiseAt_fs_ne {n j : Nat} (h : j ≠ n) (k : RaiseKind) (one : Bool) (d b : Word) (s : State) :
    (s.raiseAt k one n d b).fs j = s.fs j := by
  rw [← State.w1cNow_fs_ne h s]
  simp only [State.fs, State.raiseAt_src, List.getElem?_set_ne h.symm]

/-- A raise keeps one collector entry per source (R364). -/
theorem State.raiseAt_srcLength (n : Nat) (k : RaiseKind) (one : Bool) (d b : Word) (s : State) :
    (s.raiseAt k one n d b).flt.src.length = s.flt.src.length := by
  rw [State.raiseAt_src, List.length_set, State.w1cNow_srcLength]

/-- While a handling sequence is open a raise writes no entry (R374). -/
theorem State.raiseAt_log_merged {s : State} (h : s.flt.hopen = true) (k : RaiseKind) (one : Bool) (n : Nat) (d b : Word) :
    (s.raiseAt k one n d b).log = s.log := by
  simp only [State.raiseAt, State.w1cNow_hopen, h, State.react_log, State.openReport_log, Bool.true_or, if_true,
    State.tally_log, State.w1cNow_log]

/-- While a handling sequence is open a raise merges into it and sets off no NMI (R374). -/
theorem State.raiseAt_flt_merged {s : State} (h : s.flt.hopen = true) (k : RaiseKind) (one : Bool) (n : Nat) (d b : Word) :
    (s.raiseAt k one n d b).flt.hopen = true ∧ (s.raiseAt k one n d b).flt.hcnt = incSat 65535 s.flt.hcnt ∧
    (s.raiseAt k one n d b).flt.hmerge = (if s.flt.hmerge.contains n then s.flt.hmerge else s.flt.hmerge ++ [n]) ∧
    (s.raiseAt k one n d b).flt.hsrc = s.flt.hsrc ∧ (s.raiseAt k one n d b).flt.nmi = s.flt.nmi := by
  simp [State.raiseAt, State.react, FltS.handle, State.w1cNow_flt, h]

/-- A fault entry goes to the intake while beats run and the recorder's die runs (R35, R368). -/
theorem State.fsEntry_intake {s : State} (hshown : s.fltShown = none) (hrun : s.beat.running = true) (n kind : Nat)
    (d b : Word) : (s.fsEntry n kind d b).log.intake = s.log.intake ++
      [⟨.control, 0x300 + n, [nword kind, d, b, nword (s.fs n).events]⟩] := by
  simp [State.fsEntry, State.fs, hshown, hrun]

/-- Entering further events only appends to the intake. -/
theorem State.fsEntry_intake_append (n kind : Nat) (d b : Word) (s : State) :
    ∃ l, (s.fsEntry n kind d b).log.intake = s.log.intake ++ l := by
  simp only [State.fsEntry, State.event_log]
  split
  · exact ⟨[], by simp⟩
  · split
    · exact ⟨_, rfl⟩
    · exact ⟨[], by simp⟩

/-- Without an open sequence a raise hands its entry to the recorder over the status that it leaves, then only appends (R368). -/
theorem State.raiseAt_enters {s : State} (h : s.flt.hopen = false) (k : RaiseKind) (one : Bool) (n : Nat) (d b : Word) :
    ∃ u : State, u.flt.src = (s.raiseAt k one n d b).flt.src ∧ u.log = s.log ∧ u.beat = s.beat ∧ u.fltShown = s.fltShown ∧
      ∃ l, (s.raiseAt k one n d b).log.intake = (u.fsEntry n k.code d b).log.intake ++ l := by
  have hsrc := State.raiseAt_src k one n d b s
  dsimp only at hsrc
  rw [hsrc]
  unfold State.raiseAt
  extract_lets t _ _ _ _ onset merged _ _ _ _ s1 s2 s3 s4
  have hm : merged = false := by simpa [merged, t] using h
  refine ⟨s1, rfl, State.w1cNow_log .., State.w1cNow_beat .., State.w1cNow_fltShown .., ?_⟩
  rw [State.react_log, State.openReport_log, show s4.log = s3.log from rfl,
    show s1.fsEntry n k.code d b = s2 by simp [s2, hm]]
  by_cases ho : onset = true
  · rw [show s3 = s2.fsEntry n 2 d b by simp [s3, hm, ho]]
    exact State.fsEntry_intake_append ..
  · exact ⟨[], by simp [s3, ho]⟩

/-- Without an open sequence a raise writes its entry first, with the event count that it leaves (R368). -/
theorem State.raiseAt_log_entry {s : State} (h : s.flt.hopen = false) (hshown : s.fltShown = none)
    (hrun : s.beat.running = true) (k : RaiseKind) (one : Bool) (n : Nat) (d b : Word) :
    ∃ l, (s.raiseAt k one n d b).log.intake = s.log.intake ++
      ⟨.control, 0x300 + n, [nword k.code, d, b, nword ((s.raiseAt k one n d b).fs n).events]⟩ :: l := by
  obtain ⟨u, hsrc, hlog, hbeat, hfs, l, hl⟩ := State.raiseAt_enters h k one n d b
  have hu := State.fsEntry_intake (s := u) (hfs.trans hshown) (by rw [hbeat]; exact hrun) n k.code d b
  exact ⟨l, by rw [hl, hu, hlog, State.fs, State.fs, hsrc, List.append_assoc]; rfl⟩

end Sys2Proof.Machine
end

section
/-! PROOFS. FAULT_RAISE. -/

namespace Sys2Proof.Machine

/-- The instant of an event inside the beat does not enter into what the W1C writes do. -/
theorem State.at_fsIn (ns n : Nat) (s : State) : (s.at ns).fsIn n = s.fsIn n := by
  simp only [State.fsIn_eq]
  rfl

/-- A used source is raised at the command's instant, under the event beat of that instant (R364, R366). -/
theorem exec_faultRaise_used {fs : Fin 128} (h : fs.val < 75) (tr : Bool) (d : Word) (ofs : Nat) (s : State) :
    exec (.faultRaise fs tr d ofs) s = .next
      ((s.at ofs).raiseAt (if tr then .transient else .lasting) true fs d (s.at ofs).evBeat) := by
  show execFaultRaise fs tr d ofs s = _
  unfold execFaultRaise
  rw [if_pos h]
  cases tr <;> rfl

/-- A source that is not used is never raised (R364). -/
theorem exec_faultRaise_unused {fs : Fin 128} (h : 75 ≤ fs.val) (tr : Bool) (d : Word) (ofs : Nat) (s : State) :
    exec (.faultRaise fs tr d ofs) s = .next s := by
  show execFaultRaise fs tr d ofs s = _
  unfold execFaultRaise
  rw [if_neg (by omega)]

/-- A merged raise adds its source to the merged ones and drops none. -/
theorem mem_merge (n k : Nat) (l : List Nat) : k ∈ (if l.contains n then l else l ++ [n]) ↔ k = n ∨ k ∈ l := by
  by_cases h : n ∈ l
  · simpa [h] using fun e : k = n => e ▸ h
  · simp [h, or_comm]

end Sys2Proof.Machine

namespace Sys2Proof.Proofs
open Sys2Proof.Machine

/-- Settles O10: the raise of a used source is one `raiseAt` at the command's instant, whose effect on the raised source, the other
sources, the log and the handling sequence each has its lemma; what the W1C writes do before it follows from `FsSrc.w1c`. -/
theorem faultRaise : Obligations.FaultRaise := by
  refine ⟨fun s fs tr d ofs hfs hwhole => ⟨_, exec_faultRaise_used hfs tr d ofs s, ?_⟩, fun s n => ?_,
    fun s fs tr d ofs hfs => exec_faultRaise_unused hfs tr d ofs s⟩
  · obtain ⟨hlatch, hlast, hfirst, hev, htrans, htill⟩ := State.raiseAt_fs (s := s.at ofs) (n := fs)
      (by rw [State.at_flt, hwhole]; exact fs.isLt) (if tr then .transient else .lasting) d (s.at ofs).evBeat
    rw [State.at_fsIn] at hfirst hev htrans
    refine ⟨hlatch, hlast, hfirst, ?_, ?_, ?_, fun k hk => State.raiseAt_fs_ne hk .., ?_, ?_, ?_, ?_⟩
    · cases tr <;> exact hev
    · cases tr <;> exact htrans
    · cases tr <;> exact htill
    · exact (State.raiseAt_srcLength ..).trans hwhole
    · intro hclosed hshown hrun
      obtain ⟨l, hl⟩ := State.raiseAt_log_entry (s := s.at ofs) hclosed hshown hrun
        (if tr then .transient else .lasting) true fs d (s.at ofs).evBeat
      exact ⟨l, by rw [hl]; cases tr <;> rfl⟩
    · intro hopen
      obtain ⟨hstays, hcnt, hmerge, hsrc, hnmi⟩ := State.raiseAt_flt_merged (s := s.at ofs) hopen
        (if tr then .transient else .lasting) true fs d (s.at ofs).evBeat
      refine ⟨State.raiseAt_log_merged (s := s.at ofs) hopen .., hstays, hcnt, ?_, fun k hk => ?_, hsrc, hnmi⟩
      · rw [hmerge]; exact (mem_merge ..).2 (.inl rfl)
      · rw [hmerge]; exact (mem_merge ..).2 (.inr hk)
    · simp
  · obtain ⟨hlatch, hev, htrans⟩ := FsSrc.w1c_counts (s.flt.w1cLatch.contains n) (s.flt.w1cSevl.contains n) (s.w1cDue n) (s.fs n)
    obtain ⟨hfirst, -⟩ := FsSrc.w1c_keeps (s.flt.w1cLatch.contains n) (s.flt.w1cSevl.contains n) (s.w1cDue n) (s.fs n)
    rw [State.fsIn_eq, hlatch, hev, htrans]
    refine ⟨fun hn => ?_, fun hn hp => ?_, fun hn hp => ?_, hfirst⟩
    · simp [hn]
    · simp [hn, hp]
    · simp [hn, hp]

end Sys2Proof.Proofs
end

section
/-! PROOFS. Register writes by address (R13, R15). -/

namespace Sys2Proof.Machine

/-- A reserved address and a register without a writable field take nothing (R15). -/
theorem State.regWrite_not_writable {a : Nat} (h : regAt a ≠ some true) (p : Path) (d : Word) (s : State) :
    s.regWrite p a d = s := by
  simp [State.regWrite, h]

/-- Below the message objects an address holds none of their registers. -/
theorem objBlock_none {a : Nat} (h : a < 0x2000) : objBlock a = none := by
  rw [objBlock, if_neg (by omega), if_neg (by omega)]

/-- Outside the two CAN blocks an address holds no register of a port. -/
theorem canBlock_none {a : Nat} (h : a < 0x1600 ∨ 0x1A00 ≤ a) : canBlock a = none := by
  rw [canBlock, if_neg (by omega), if_neg (by omega)]

/-- The addresses that `writeHigh` takes: from 0x0700 on, without the CAN ports, PMC_SEL and the sweep's frequencies. -/
def highAddr (a : Nat) : Prop :=
  (0x700 ≤ a ∧ a < 0x1600) ∨ (0x1A00 ≤ a ∧ a < 0x1A10) ∨ (0x1A20 ≤ a ∧ a < 0x1C10) ∨ (0x1C20 ≤ a ∧ a < 0x2000)

/-- A write of a register below 0x0700. -/
theorem exec_registerWrite_low {a : BitVec 14} (hr : regAt a.toNat = some true) (ha : a.toNat < 0x700) (p : Path) (d : Word)
    (s : State) : exec (.registerWrite p a d) s = .next (s.writeLow p a.toNat d) := by
  show Host.Outcome.next (s.regWrite p a.toNat d) = _
  rw [State.regWrite, hr, objBlock_none (by omega), canBlock_none (by omega)]
  simp only [bne_self_eq_false, Bool.false_eq_true, if_false]
  rw [if_neg (by omega), if_neg (by omega), if_pos ha]

/-- A write of a register from 0x0700 on. -/
theorem exec_registerWrite_high {a : BitVec 14} (hr : regAt a.toNat = some true) (ha : highAddr a.toNat) (p : Path) (d : Word)
    (s : State) : exec (.registerWrite p a d) s = .next (s.writeHigh p a.toNat d) := by
  unfold highAddr at ha
  show Host.Outcome.next (s.regWrite p a.toNat d) = _
  rw [State.regWrite, hr, objBlock_none (by omega), canBlock_none (by omega)]
  simp only [bne_self_eq_false, Bool.false_eq_true, if_false]
  rw [if_neg (by omega), if_neg (by omega), if_neg (by omega)]

/-- The three words of BAL_REQ wait for the boundary (R33, R211). -/
theorem exec_registerWrite_balReq {k : Nat} (hk : k < 3) (p : Path) (d : Word) (s : State) :
    exec (.registerWrite p (BitVec.ofNat 14 (0x708 + k)) d) s = .next (s.stage p (0x708 + k) d) := by
  obtain rfl | rfl | rfl : k = 0 ∨ k = 1 ∨ k = 2 := by omega
  all_goals exact exec_registerWrite_high (by decide) (by simp [highAddr]) p d s

/-- With the key a request of PROT_CTRL waits for the boundary (R305, R318). -/
theorem State.writeProt_close {d : Word} (hreq : bits d 0 2 = 1) (hkey : bits d 8 8 = 0xC3) (p : Path) (s : State) :
    s.writeProt p d = { s with safe := { s.safe with reqStaged := some ⟨.close, reqSrc p⟩ } } := by
  simp [State.writeProt, keyOf, reqKind, hreq, hkey]

/-- At its boundary a write of PMC_SELi selects the source and clears the counter (R33, R514). -/
theorem State.activateStaged_pmcSel (i : Fin 16) (src : BitVec 6) (p : Path) (s : State) :
    State.activateStaged ⟨p, BitVec.ofNat 14 (0x1A10 + i.val), nword src.toNat⟩ s =
      s.setSys fun y => y.pmcSelect i src := by
  have hi := i.isLt
  have ha : (BitVec.ofNat 14 (0x1A10 + i.val)).toNat = 0x1A10 + i.val := by
    rw [BitVec.toNat_ofNat]; omega
  have hs : BitVec.ofNat 6 (nword src.toNat).toNat = src := by
    apply BitVec.eq_of_toNat_eq
    have := src.isLt
    simp only [nword, BitVec.toNat_ofNat]
    omega
  have hrange : 0x1A10 ≤ 0x1A10 + i.val ∧ 0x1A10 + i.val ≤ 0x1A1F := by omega
  simp only [State.activateStaged, ha, hs, hrange, and_self, if_true, Nat.add_sub_cancel_left]

/-- SNAP freezes the counters as they stand (R514). -/
theorem SysS.snapTo_freezes {y : SysS} (h : y.pmcSnap = false) : y.snapTo true = { y with pmcSnap := true, pmcFrozen := y.pmc } := by
  simp [SysS.snapTo, h]

end Sys2Proof.Machine

namespace Sys2Proof.Proofs
open Sys2Proof.Machine

/-- Settles O57: a write of a register is the write of its address in `writeLow` or `writeHigh`; a staged write of PMC_SELi reaches the
counter at the boundary. -/
theorem registerWrites : Obligations.RegisterWrites := by
  refine ⟨fun s p a d h => congrArg _ (State.regWrite_not_writable h p d s), fun s p d k hk => ?staged,
    fun s p d => ⟨?calS, ?rsel, ?alarm, ?latch, ?beatStat, ?pmcOvf⟩, fun s p d hreq hkey => ?close, fun _ _ _ _ => rfl,
    fun s i src p => State.activateStaged_pmcSel i src p s, fun s p h => ?snap, fun _ _ => rfl⟩
  case staged => exact exec_registerWrite_balReq hk p d s
  case calS | rsel | alarm | latch | pmcOvf => exact exec_registerWrite_high (by decide) (by simp [highAddr]) p d s
  case beatStat => exact exec_registerWrite_low (by decide) (by decide) p d s
  case close =>
    rw [← State.writeProt_close hreq hkey]
    exact exec_registerWrite_high (by decide) (by simp [highAddr]) p d s
  case snap => exact congrArg (fun y => Host.Outcome.next { s with sys := y }) (SysS.snapTo_freezes h)

end Sys2Proof.Proofs
end

section
/-! PROOFS. Lists with their positions. -/

namespace Sys2Proof.Machine

/-- The element at a position, with the position. -/
theorem indexed_getElem? {α : Type} (l : List α) (i : Nat) : (indexed l)[i]? = l[i]?.map fun x => (i, x) := by
  simp only [indexed, List.zip, List.getElem?_zipWith]
  by_cases h : i < l.length
  · simp [h]
  · simp [h]

theorem indexed_length {α : Type} (l : List α) : (indexed l).length = l.length := by
  simp [indexed]

/-- What lies at a position. -/
theorem mem_indexed {α : Type} {l : List α} {x : Nat × α} : x ∈ indexed l ↔ l[x.1]? = some x.2 := by
  rw [List.mem_iff_getElem?]
  simp only [indexed_getElem?, Option.map_eq_some_iff]
  constructor
  · rintro ⟨i, a, ha, rfl⟩
    exact ha
  · exact fun h => ⟨x.1, x.2, h, rfl⟩

/-- An element computed from its position. -/
theorem indexed_map_getElem? {α β : Type} (l : List α) (f : Nat × α → β) (i : Nat) :
    ((indexed l).map f)[i]? = l[i]?.map fun x => f (i, x) := by
  rw [List.getElem?_map, indexed_getElem?, Option.map_map]
  rfl

end Sys2Proof.Machine
end

section
/-! PROOFS. What each kind of raise leaves of its own source, of the others and of the injection (R365-R367, R377). -/

namespace Sys2Proof.Machine

/-- A lasting or injected raise latches and counts its source and leaves the other sources alone (R365, R366). -/
theorem State.raiseAt_counts {s : State} {n : Nat} {k : RaiseKind} (hn : n < s.flt.src.length) (hk : k ≠ .transient) (d b : Word) :
    ((s.raiseAt k true n d b).fs n).latch = true ∧
      ((s.raiseAt k true n d b).fs n).events = incSat 65535 (s.fsIn n).events ∧
      ∀ j, j ≠ n → (s.raiseAt k true n d b).fs j = s.fs j := by
  obtain ⟨hlatch, -, -, hev, -, -⟩ := State.raiseAt_fs hn k d b
  exact ⟨hlatch, by rw [hev, if_neg hk], fun j hj => State.raiseAt_fs_ne hj ..⟩

/-- A lasting raise latches its source, which is present from then on (R365). -/
theorem State.raise_fs {s : State} {n : Nat} (hn : n < s.flt.src.length) (d : Word) :
    ((s.raise n d).fs n).latch = true ∧ ((s.raise n d).fs n).pres = true := by
  obtain ⟨hlatch, -, -, -, -, htill⟩ := State.raiseAt_fs hn .lasting d s.evBeat
  exact ⟨hlatch, by simp [State.raise, FsSrc.pres, htill]⟩

/-- A transient raise latches its source and leaves its presence as it was (R365). -/
theorem State.raiseTransient_fs {s : State} {n : Nat} (hn : n < s.flt.src.length) (d : Word) :
    ((s.raiseTransient n d).fs n).latch = true ∧ ((s.raiseTransient n d).fs n).till = (s.fs n).till := by
  obtain ⟨hlatch, -, -, -, -, htill⟩ := State.raiseAt_fs hn .transient d s.evBeat
  exact ⟨hlatch, htill⟩

/-- The onset of a condition latches its source, whose condition then holds (R365). -/
theorem State.raiseCondAs_fs {s : State} {n : Nat} (hn : n < s.flt.src.length) (k : RaiseKind) (d : Word) :
    ((s.raiseCondAs k n d).fs n).latch = true ∧ ((s.raiseCondAs k n d).fs n).cond = true := by
  obtain ⟨y, hsrc, hlatch, -⟩ := State.raiseAt_entry k false n d s.evBeat s _ rfl
  simp [State.raiseCondAs, State.fs, hsrc, hn, hlatch]

theorem State.raiseCond_fs {s : State} {n : Nat} (hn : n < s.flt.src.length) (d : Word) :
    ((s.raiseCond n d).fs n).latch = true ∧ ((s.raiseCond n d).fs n).cond = true :=
  State.raiseCondAs_fs hn .lasting d

/-- The end of a condition (R365). -/
theorem State.endCond_fs (n : Nat) (s : State) : (s.endCond n).fs n = { s.fs n with cond := false } := by
  simp only [State.endCond, State.fs, List.getElem?_modify_eq]
  cases s.flt.src[n]? <;> rfl

/-- A raise leaves every other source alone. -/
@[simp] theorem State.raise_fs_ne {n j : Nat} (h : j ≠ n) (d : Word) (s : State) : (s.raise n d).fs j = s.fs j :=
  State.raiseAt_fs_ne h ..

@[simp] theorem State.raiseTransient_fs_ne {n j : Nat} (h : j ≠ n) (d : Word) (s : State) : (s.raiseTransient n d).fs j = s.fs j :=
  State.raiseAt_fs_ne h ..

@[simp] theorem State.raiseCond_fs_ne {n j : Nat} (h : j ≠ n) (d : Word) (s : State) : (s.raiseCond n d).fs j = s.fs j := by
  rw [← State.raiseAt_fs_ne h .lasting false d s.evBeat s]
  simp [State.raiseCond, State.raiseCondAs, State.fs, h.symm]

@[simp] theorem State.endCond_fs_ne {n j : Nat} (h : j ≠ n) (s : State) : (s.endCond n).fs j = s.fs j := by
  simp [State.endCond, State.fs, h.symm]

/-- Every raise keeps one entry per source (R364). -/
@[simp] theorem State.raise_srcLength (n : Nat) (d : Word) (s : State) : (s.raise n d).flt.src.length = s.flt.src.length :=
  State.raiseAt_srcLength ..

@[simp] theorem State.raiseTransient_srcLength (n : Nat) (d : Word) (s : State) :
    (s.raiseTransient n d).flt.src.length = s.flt.src.length :=
  State.raiseAt_srcLength ..

@[simp] theorem State.raiseCond_srcLength (n : Nat) (d : Word) (s : State) :
    (s.raiseCond n d).flt.src.length = s.flt.src.length := by
  rw [← State.raiseAt_srcLength n .lasting false d s.evBeat s]
  simp [State.raiseCond, State.raiseCondAs]

@[simp] theorem State.endCond_srcLength (n : Nat) (s : State) : (s.endCond n).flt.src.length = s.flt.src.length := by
  simp [State.endCond]

@[simp] theorem FltS.handle_injRun (f : FltS) (n k : Nat) (b now : Word) (r : Nat) : (f.handle n k b now r).injRun = f.injRun := by
  unfold FltS.handle
  split
  · rfl
  · split <;> rfl

@[simp] theorem FltS.handle_injState (f : FltS) (n k : Nat) (b now : Word) (r : Nat) :
    (f.handle n k b now r).injState = f.injState := by
  unfold FltS.handle
  split
  · rfl
  · split <;> rfl

/-- A raise leaves the injection under way and its result alone (R377). -/
@[simp] theorem State.raiseAt_injRun (k : RaiseKind) (one : Bool) (n : Nat) (d b : Word) (s : State) :
    (s.raiseAt k one n d b).flt.injRun = s.flt.injRun := by
  simp only [State.raiseAt, State.react, State.openReport_flt, FltS.handle_injRun]
  split <;> split <;> simp [State.w1cNow_flt]

@[simp] theorem State.raiseAt_injState (k : RaiseKind) (one : Bool) (n : Nat) (d b : Word) (s : State) :
    (s.raiseAt k one n d b).flt.injState = s.flt.injState := by
  simp only [State.raiseAt, State.react, State.openReport_flt, FltS.handle_injState]
  split <;> split <;> simp [State.w1cNow_flt]

end Sys2Proof.Machine
end

section
/-! PROOFS. The CAN ports: what an update of one port leaves of the other, and what the error counters do to the state (R439, R440). -/

namespace Sys2Proof.Machine

/-! One port -/

@[simp] theorem State.setCan_can (s : State) (p : CPort) (f : CanS → CanS) : (s.setCan p f).can p = f (s.can p) := by
  cases p <;> rfl

@[simp] theorem State.setCan_can_ne {p q : CPort} (h : q ≠ p) (s : State) (f : CanS → CanS) : (s.setCan p f).can q = s.can q := by
  cases p <;> cases q <;> first | rfl | exact absurd rfl h

/-- An update counts by what it makes of the port as it stands. -/
theorem State.setCan_congr {s : State} {p : CPort} {f g : CanS → CanS} (h : f (s.can p) = g (s.can p)) : s.setCan p f = s.setCan p g := by
  cases p <;> simp only [State.can] at h <;> simp [State.setCan, h]

/-- An update that keeps the port keeps the state. -/
theorem State.setCan_self {s : State} {p : CPort} {f : CanS → CanS} (h : f (s.can p) = s.can p) : s.setCan p f = s := by
  cases p <;> simp only [State.can] at h <;> simp [State.setCan, h]

/-- Updates of the same port compose. -/
theorem State.setCan_setCan (s : State) (p : CPort) (f g : CanS → CanS) : (s.setCan p f).setCan p g = s.setCan p (g ∘ f) := by
  cases p <;> rfl

@[simp] theorem State.raise_can (n : Nat) (d : Word) (s : State) (p : CPort) : (s.raise n d).can p = s.can p := by
  cases p <;> simp [State.can]

@[simp] theorem State.raiseCond_can (n : Nat) (d : Word) (s : State) (p : CPort) : (s.raiseCond n d).can p = s.can p := by
  cases p <;> simp [State.can]

@[simp] theorem State.endCond_can (n : Nat) (s : State) (p : CPort) : (s.endCond n).can p = s.can p := by
  cases p <;> rfl

/-! One object -/

/-- An object changed at its place. -/
theorem modify_eq_set {α : Type} {l : List α} {k : Nat} {o : α} (h : l[k]? = some o) (f : α → α) : l.modify k f = l.set k (f o) := by
  rw [List.modify_eq_set_getElem?, h]
  rfl

/-- An object that its change keeps. -/
theorem modify_eq_self {α : Type} {l : List α} {k : Nat} {o : α} {f : α → α} (h : l[k]? = some o) (hf : f o = o) : l.modify k f = l := by
  obtain ⟨hk, rfl⟩ := List.getElem?_eq_some_iff.1 h
  rw [modify_eq_set h, hf, List.set_getElem_self]

theorem State.objAt_eq {s : State} {p : CPort} {k : Nat} {o : ObjS} (h : (s.can p).obj[k]? = some o) : s.objAt p k = o := by
  rw [State.objAt, h]
  rfl

/-- A changed object and the others. -/
theorem State.setObj_get {s : State} {p : CPort} {k : Nat} {o : ObjS} (h : (s.can p).obj[k]? = some o) (f : ObjS → ObjS) :
    ((s.setObj p k f).can p).obj[k]? = some (f o) ∧ ∀ j, j ≠ k → ((s.setObj p k f).can p).obj[j]? = (s.can p).obj[j]? := by
  refine ⟨by simp [State.setObj, h], fun j hj => ?_⟩
  simp [State.setObj, hj.symm]

/-! Error states -/

theorem canFs_lt (p : CPort) {s : State} (h : s.srcWhole) : canFs p < s.flt.src.length := by
  rw [h]
  cases p <;> decide

/-- What the counters make of the controller (R439, R440). -/
def CanS.followed (c : CanS) : CanS :=
  if c.errState = c.state then c
  else match c.errState with
    | .recovery => { c with state := .recovery, boff := incSat 255 c.boff, obj := c.obj.map ObjS.offBus }
    | .passive => { c with state := .passive, pasv := incSat 255 c.pasv }
    | _ => { c with state := .active }

/-- The counters give one of three states (R439). -/
theorem CanS.errState_cases (c : CanS) : (255 < c.txErr ∧ c.errState = .recovery) ∨
    (c.txErr ≤ 255 ∧ (127 < c.txErr ∨ 127 < c.rxErr) ∧ c.errState = .passive) ∨
    (c.txErr ≤ 127 ∧ c.rxErr ≤ 127 ∧ c.errState = .active) := by
  unfold CanS.errState
  split
  · exact .inl ⟨‹_›, rfl⟩
  · split
    · exact .inr (.inl ⟨by omega, ‹_›, rfl⟩)
    · exact .inr (.inr ⟨by omega, by omega, rfl⟩)

/-- The controller is in the state that its counters give. -/
theorem CanS.followed_state (c : CanS) : c.followed.state = c.errState := by
  unfold CanS.followed
  split
  · exact ‹c.errState = c.state›.symm
  · rcases c.errState_cases with ⟨-, h⟩ | ⟨-, -, h⟩ | ⟨-, -, h⟩ <;> rw [h]

/-- What the controller keeps of its registers when its state changes. -/
theorem CanS.followed_keeps (c : CanS) : c.followed.txErr = c.txErr ∧ c.followed.rxErr = c.rxErr ∧ c.followed.errs = c.errs ∧
    c.followed.lecCode = c.lecCode ∧ c.followed.lecData = c.lecData ∧ c.followed.tdc = c.tdc := by
  unfold CanS.followed
  split
  · exact ⟨rfl, rfl, rfl, rfl, rfl, rfl⟩
  · split <;> exact ⟨rfl, rfl, rfl, rfl, rfl, rfl⟩

/-- Each entry to error passive and to bus-off counts (R451). -/
theorem CanS.followed_counts (c : CanS) :
    c.followed.pasv = (if c.errState = .passive ∧ c.state ≠ .passive then incSat 255 c.pasv else c.pasv) ∧
    c.followed.boff = (if c.errState = .recovery ∧ c.state ≠ .recovery then incSat 255 c.boff else c.boff) := by
  unfold CanS.followed
  by_cases h : c.errState = c.state
  · rw [if_pos h, h, if_neg (by tauto), if_neg (by tauto)]
    exact ⟨rfl, rfl⟩
  · rw [if_neg h]
    rcases c.errState_cases with ⟨-, he⟩ | ⟨-, -, he⟩ | ⟨-, -, he⟩ <;> rw [he] at h ⊢ <;> simp [Ne.symm h]

/-- Only the way into bus-off touches the objects (R440). -/
theorem CanS.followed_obj (c : CanS) :
    c.followed.obj = if c.errState = .recovery ∧ c.state ≠ .recovery then c.obj.map ObjS.offBus else c.obj := by
  unfold CanS.followed
  by_cases h : c.errState = c.state
  · rw [if_pos h, if_neg (by rw [h]; simp)]
  · rcases c.errState_cases with ⟨-, he⟩ | ⟨-, -, he⟩ | ⟨-, -, he⟩
    · rw [if_neg h, he, if_pos ⟨rfl, fun hs => h (he.trans hs.symm)⟩]
    · rw [if_neg h, he, if_neg (by simp)]
    · rw [if_neg h, he, if_neg (by simp)]

/-- A live port follows its counters, and its source follows the state: raised on the way into error passive and bus-off, ended on the
way back (R439). -/
theorem State.canFollow_cases {s : State} {p : CPort} (h : s.canLive p = true) :
    ((s.can p).errState = (s.can p).state ∧ s.canFollow p = s) ∨
    ((s.can p).errState ≠ (s.can p).state ∧ (s.can p).errState ≠ .active ∧
      s.canFollow p = (s.setCan p CanS.followed).raiseCond (canFs p) 0) ∨
    ((s.can p).errState ≠ (s.can p).state ∧ (s.can p).errState = .active ∧
      s.canFollow p = (s.setCan p CanS.followed).endCond (canFs p)) := by
  by_cases hs : (s.can p).errState = (s.can p).state
  · exact .inl ⟨hs, by simp [State.canFollow, hs]⟩
  · refine .inr ?_
    have hne : ((s.can p).errState == (s.can p).state) = false := by simpa using hs
    have hfollow := State.canFollow.eq_def p s
    simp only [h, hne, Bool.not_true, Bool.false_or, Bool.false_eq_true, if_false] at hfollow
    rcases (s.can p).errState_cases with ⟨-, he⟩ | ⟨-, -, he⟩ | ⟨-, -, he⟩
    · refine .inl ⟨hs, by simp [he], ?_⟩
      simp only [hfollow, he]
      exact congrArg _ (State.setCan_congr (by rw [CanS.followed, if_neg hs, he]))
    · refine .inl ⟨hs, by simp [he], ?_⟩
      simp only [hfollow, he]
      exact congrArg _ (State.setCan_congr (by rw [CanS.followed, if_neg hs, he]))
    · refine .inr ⟨hs, he, ?_⟩
      simp only [hfollow, he]
      exact congrArg _ (State.setCan_congr (by rw [CanS.followed, if_neg hs, he]))

/-- A live port follows its counters; of the rest only the collectors and what a raise reaches can change (R439). -/
theorem State.canFollow_keeps {s : State} {p : CPort} (h : s.canLive p = true) :
    (s.canFollow p).can p = (s.can p).followed ∧ (∀ q, q ≠ p → (s.canFollow p).can q = s.can q) ∧ (s.canFollow p).beat = s.beat ∧
    (s.canFollow p).cha = s.cha ∧ (s.canFollow p).chb = s.chb ∧ (s.canFollow p).meas = s.meas := by
  rcases State.canFollow_cases h with ⟨hs, heq⟩ | ⟨-, -, heq⟩ | ⟨-, -, heq⟩
  · rw [heq]
    exact ⟨by rw [CanS.followed, if_pos hs], fun _ _ => rfl, rfl, rfl, rfl, rfl⟩
  · rw [heq]
    refine ⟨by simp, fun q hq => by simp [hq], ?_, ?_, ?_, ?_⟩ <;> simp
  · rw [heq]
    exact ⟨by simp, fun q hq => by simp [hq], rfl, rfl, rfl, rfl⟩

end Sys2Proof.Machine
end

section
/-! PROOFS. FLT_INJ and INJECTION_RESULT. -/

namespace Sys2Proof.Machine

/-- Every inverted test word shows what the word code makes of it: one symbol is corrected, five are not (R42, R376). -/
theorem InjRun.shows_true (i : InjRun) : i.shows = true := by
  unfold InjRun.shows
  split
  · split <;> rfl
  · rfl

/-- The injection under way has ended, with the result (R377). -/
def State.injEnded (result : Nat) (s : State) : State := { s with flt := { s.flt with injRun := none, injState := result } }

/-- The entry of an injection that passed (R377). -/
def State.injEntry (i : InjRun) (s : State) : State := s.event .control 0x381 [nword i.target, if i.full then 1 else 0]

/-- A flagged injection passes; with FULL it raises its source, that of target 29 excepted (R377). -/
theorem State.injResult_pass {s : State} {i : InjRun} {ok : Bool} (h : s.flt.injRun = some i) (hok : i.seen.getD ok = true) :
    s.injResult ok =
      if i.full && i.target != 29 then
        ((s.injEnded 2).injEntry i).raiseAt .injected true ((injSource i.target).getD 0) 0 ((s.injEnded 2).injEntry i).evBeat
      else (s.injEnded 2).injEntry i := by
  simp only [State.injResult, h, InjRun.shows_true, Bool.and_true, hok]
  rfl

/-- An unflagged injection fails and raises its source (R377). -/
theorem State.injResult_fail {s : State} {i : InjRun} {ok : Bool} (h : s.flt.injRun = some i) (hok : i.seen.getD ok = false) :
    s.injResult ok = (s.injEnded 3).raise ((injSource i.target).getD 0) 0 := by
  simp only [State.injResult, h, InjRun.shows_true, Bool.and_true, hok]
  rfl

/-- The sources of the checkers are collected (R364, R376). -/
theorem injSource_lt {t n : Nat} (h : injSource t = some n) : n < 128 := by
  unfold injSource at h
  split_ifs at h <;> simp only [Option.some.injEq] at h <;> omega

/-- What the W1C writes make of a source does not depend on the injection. -/
theorem State.injEnded_fsIn (r n : Nat) (i : InjRun) (s : State) :
    (s.injEnded r).fsIn n = s.fsIn n ∧ ((s.injEnded r).injEntry i).fsIn n = s.fsIn n := by
  simp only [State.fsIn_eq]
  exact ⟨rfl, rfl⟩

/-- The unused targets have no source (R376). -/
theorem injSource_unused {t : Nat} (h : t = 0 ∨ t = 7 ∨ (16 ≤ t ∧ t ≤ 23) ∨ 30 ≤ t) : injSource t = none := by
  unfold injSource
  split_ifs <;> first | rfl | omega

end Sys2Proof.Machine

namespace Sys2Proof.Proofs
open Sys2Proof.Machine

/-- Settles O12: the write is one branch of `inject`, the start one of `injBoundary`, and the end is `injResult`, which passes or fails by
what has been seen first; what it raises then follows from `raiseAt`. -/
theorem injection : Obligations.Injection := by
  refine ⟨?staged, ?wrongKey, ?busy, ?unused, ?notParked, ?boundary, ?passes, ?passesFull, ?fails, ?idle⟩
  case staged =>
    intro s p full tg hrun hdue hsrc hfull
    have h2 : (full && !s.parked) = false := by cases full <;> simp_all
    have h4 : (injSource tg.toNat).isNone = false := by simpa using hsrc
    simp [exec, execFltInj, State.inject, State.injBusy, hrun, hdue, h2, h4]
  case wrongKey =>
    intro s p k full tg hk
    have hne : (k != 0xC3) = true := bne_iff_ne.2 hk
    simp only [exec, execFltInj, State.inject, hne, if_true]
    rfl
  case busy =>
    intro s p full tg h
    have hb : s.injBusy = true := by simpa [State.injBusy] using h
    simp [exec, execFltInj, State.inject, hb]
  case unused =>
    intro s p full tg hrun hdue h
    simp [exec, execFltInj, State.inject, State.injBusy, hrun, hdue, injSource_unused h]
  case notParked =>
    intro s p tg hrun hdue hsrc hp
    have h4 : (injSource tg.toNat).isNone = false := by simpa using hsrc
    simp [exec, execFltInj, State.inject, State.injBusy, hrun, hdue, hp, h4]
  case boundary =>
    intro s i hdue
    refine ⟨fun hfull hp => ?_, fun h => ?_⟩
    · simp [State.injBoundary, hdue, hfull, hp]
    · have h2 : (i.full && !s.parked) = false := by cases hf : i.full <;> simp_all
      simp [State.injBoundary, hdue, h2]
  case passes =>
    intro s i ok hrun hok h hshown hbeat
    have hn : (i.full && i.target != 29) = false := by rcases h with h | h <;> simp [h]
    show Host.Outcome.next (s.injResult ok) = _
    rw [State.injResult_pass hrun hok, hn]
    simp [State.injEntry, State.injEnded, State.event, hshown, hbeat, nword]
  case passesFull =>
    intro s i n ok hrun hok hfull ht hsrc hwhole
    have hlt : n < ((s.injEnded 2).injEntry i).flt.src.length := by
      rw [show ((s.injEnded 2).injEntry i).flt.src.length = 128 from hwhole]; exact injSource_lt hsrc
    obtain ⟨hlatch, hev, hne⟩ := State.raiseAt_counts hlt (k := .injected) (by decide) 0 ((s.injEnded 2).injEntry i).evBeat
    refine ⟨_, congrArg Host.Outcome.next (State.injResult_pass hrun hok), ?_⟩
    rw [if_pos (by simp [hfull, ht]), hsrc, Option.getD_some]
    rw [(State.injEnded_fsIn ..).2] at hev
    exact ⟨State.raiseAt_injState .., State.raiseAt_injRun .., hlatch, hev, hne, State.raiseAt_cha .., State.raiseAt_chb ..,
      State.raiseAt_safe .., State.raiseAt_beat ..⟩
  case fails =>
    intro s i n ok hrun hok hsrc hwhole
    have hlt : n < (s.injEnded 3).flt.src.length := by
      rw [show (s.injEnded 3).flt.src.length = 128 from hwhole]; exact injSource_lt hsrc
    obtain ⟨hlatch, hev, hne⟩ := State.raiseAt_counts hlt (k := .lasting) (by decide) 0 (s.injEnded 3).evBeat
    refine ⟨_, congrArg Host.Outcome.next (State.injResult_fail hrun hok), ?_⟩
    rw [hsrc, Option.getD_some]
    rw [(State.injEnded_fsIn 3 n i s).1] at hev
    exact ⟨State.raiseAt_injState .., State.raiseAt_injRun .., hlatch, hev, hne, State.raiseAt_cha .., State.raiseAt_chb ..,
      State.raiseAt_safe .., State.raiseAt_beat ..⟩
  case idle =>
    intro s b hrun
    show Host.Outcome.next (s.injResult b) = _
    simp [State.injResult, hrun]

end Sys2Proof.Proofs
end

section
/-! PROOFS. Debug access, sweeps and replay on the checkers. -/

namespace Sys2Proof.Machine

/-- A session opens only with the crowns closed, the running channels Parked and none open (R360). -/
theorem State.debugOk_iff (s : State) : s.debugOk = true ↔ s.crowns = true ∧ (s.runs .a = true → s.cha.seq.state = .parked) ∧
    (s.runs .b = true → s.chb.seq.state = .parked) ∧ s.core.dbg = none := by
  simp only [State.debugOk, State.allParked, Bool.and_eq_true, Bool.or_eq_true, Bool.not_eq_true', beq_iff_eq,
    Option.isNone_iff_eq_none, and_assoc, ← Bool.not_eq_true, ← imp_iff_not_or]

/-- Refused conditions open nothing (R360). -/
theorem exec_debugSessionOpen_refused {s : State} (h : s.debugOk ≠ true) (ch : Ch) : exec (.debugSessionOpen ch) s = .next s := by
  show Host.Outcome.next { s with core := { s.core with dbg := if s.debugOk then some ch else s.core.dbg } } = _
  rw [if_neg h]

/-- The write of an open session that the port takes: its place in the log, and what the registers show of it (R361). -/
def State.dbgTaken (t : DbgTarget) (a v : Word) (l : List DbgEnt) (s : State) : State :=
  { s with
    core := { s.core with log := l, dbgLast := some { target := t, addr := a, value := v }, dbgWr := incSat 65535 s.core.dbgWr }
    beat := { s.beat with detVoid := true } }

/-- A write to a core is logged while the pair is joined (R361). -/
theorem State.dbgWrite_core {s : State} {ch : Ch} {tg : DbgTarget} {sl : Party} {n : Nat} (hdbg : s.core.dbg = some ch)
    (htg : tg ≠ .memory) (hsl : sl ≠ .checker) (hroom : (s.core.pair ch).pair = .joined → s.core.log.length < 64 + n) (a v : Word) :
    s.dbgWrite tg a v n sl = s.dbgTaken tg a v (if (s.core.pair ch).pair = .joined then
      s.core.log.drop n ++ [{ target := tg, addr := a, value := v }] else s.core.log.drop n) := by
  by_cases hj : (s.core.pair ch).pair = .joined
  · have := hroom hj
    simp [State.dbgWrite, State.dbgTaken, hdbg, htg, hsl, hj, show s.core.log.length - n < 64 by omega]
  · simp [State.dbgWrite, State.dbgTaken, hdbg, htg, hsl, hj]

/-- A write to memory passes the memory protection unit as a write of the slot's plane and is not logged (R30, R361). -/
theorem State.dbgWrite_memory {s : State} {ch : Ch} {sl : Party} {n : Nat} (hdbg : s.core.dbg = some ch) (hsl : sl ≠ .checker)
    (hroom : (s.core.pair ch).pair = .joined → s.core.log.length < 64 + n) (a v : Word) :
    s.dbgWrite .memory a v n sl = (s.dbgTaken .memory a v (s.core.log.drop n)).planeWrite ch sl a.toNat := by
  by_cases hj : (s.core.pair ch).pair = .joined
  · have := hroom hj
    simp [State.dbgWrite, State.dbgTaken, hdbg, hsl, hj, show s.core.log.length - n < 64 by omega]
  · simp [State.dbgWrite, State.dbgTaken, hdbg, hsl, hj]

/-- While the log of a joined pair is full the port refuses the write (R361). -/
theorem State.dbgWrite_full {s : State} {ch : Ch} {sl : Party} {n : Nat} (hdbg : s.core.dbg = some ch) (hsl : sl ≠ .checker)
    (hj : (s.core.pair ch).pair = .joined) (hfull : 64 + n ≤ s.core.log.length) (tg : DbgTarget) (a v : Word) :
    s.dbgWrite tg a v n sl = { s with core := { s.core with log := s.core.log.drop n } } := by
  simp [State.dbgWrite, hdbg, hsl, hj, show 64 ≤ s.core.log.length - n by omega]

/-- A halted core resumes: late after a halt that spans 980 µs, else delayed (R362). -/
theorem State.resumeCore_halted {s : State} {ch : Ch} (hdbg : s.core.dbg = some ch) (hhalt : s.core.dbgHalt = true) :
    s.resumeCore = { s with
      core := { s.core with dbgHalt := false }
      beat := if s.core.dbgFrom ≤ 980000 ∧ 980000 < s.beat.offNs then s.beat.late ch
        else s.beat.delay (s.beat.offNs - max s.core.dbgFrom 850000) ch } := by
  simp [State.resumeCore, hdbg, hhalt, State.setBeat]

/-- A core that is not halted does not resume. -/
theorem State.resumeCore_running {s : State} (hhalt : s.core.dbgHalt = false) : s.resumeCore = s := by
  unfold State.resumeCore
  split
  · rfl
  · simp [hhalt]

/-- Neither a late nor a delayed evaluation touches one that waits. -/
theorem BeatS.late_or_delay_evalWait (b : BeatS) (p : Prop) [Decidable p] (n : Nat) (ch : Ch) :
    (if p then b.late ch else b.delay n ch).evalWait = b.evalWait := by
  cases ch <;> split <;> rfl

/-- What waits runs at the release, once (R362; log entry 101). -/
theorem State.evalOwed_some {s : State} {x y : Nat} (h : s.beat.evalWait = some (x, y)) :
    s.evalOwed = State.evaluation x y { s with beat := { s.beat with evalWait := none } } := by
  simp [State.evalOwed, h, State.setBeat]

theorem State.evalOwed_none {s : State} (h : s.beat.evalWait = none) : s.evalOwed = s := by
  simp [State.evalOwed, h]

/-- A sweep ends once and frees its checker; the completion is reported (R356, R464). -/
theorem State.sweepStop_eq {s : State} (h : s.core.swp.state = 1) (st cause : Nat) :
    ∃ w host, s.sweepStop st cause = { s with core := w, host := host } ∧ w.swp = { s.core.swp with
        state := st, cause := cause, slot := {}, cleared := [] } ∧
      w.a = { s.core.a with task := if s.core.a.task = .sweep then .none else s.core.a.task } := by
  simp only [State.sweepStop, h, bne_self_eq_false, Bool.false_eq_true, if_false]
  exact ⟨_, _, rfl, rfl, rfl⟩

/-- A live replay that stops frees the checkers that replay; the completion is reported (R105, R107). -/
theorem State.rplStop_eq {s : State} (h : s.core.rpl.live = true) (cause : Nat) :
    ∃ w host, s.rplStop cause = { s with core := w, host := host } ∧
      w.rpl = { s.core.rpl with state := .stopped, cause := cause, ready := [] } ∧
      w.a = { s.core.a with task := if s.core.a.task = .replay then .none else s.core.a.task } ∧
      w.b = { s.core.b with task := if s.core.b.task = .replay then .none else s.core.b.task } := by
  simp only [State.rplStop, h, Bool.not_true, Bool.false_eq_true, if_false]
  exact ⟨_, _, rfl, rfl, rfl, rfl⟩

/-- Without a live replay there is nothing to stop. -/
theorem State.rplStop_idle {s : State} (h : s.core.rpl.live = false) (cause : Nat) : s.rplStop cause = s := by
  simp [State.rplStop, h]

/-- Replay starts on both free checkers of split pairs while Parked (R104). -/
theorem State.rplOk_iff (s : State) : s.rplOk = true ↔ s.parked = true ∧ s.core.a.pair = .split ∧ s.core.b.pair = .split ∧
    s.core.a.task = .none ∧ s.core.b.task = .none := by
  simp [State.rplOk, and_assoc]

/-- A sweep starts on the free checker of CDA's split pair with usable frequencies (R355, R356). -/
theorem State.sweepOk_iff (s : State) (nf : BitVec 4) : s.sweepOk nf = true ↔ s.core.a.pair = .split ∧ s.core.a.task = .none ∧
    ∀ f ∈ s.core.swp.freqs.take (nf.toNat + 1), 500 ≤ f.toNat ∧ f.toNat ≤ 2000000 := by
  simp only [State.sweepOk, Bool.and_eq_true, beq_iff_eq, List.all_eq_true, sweepFreqOk, decide_eq_true_eq, and_assoc]

/-- A running replay is live. -/
theorem RplS.live_of_state {r : RplS} (h : r.state = .waiting ∨ r.state = .running) : r.live = true := by
  rcases h with h | h <;> simp [RplS.live, h]

end Sys2Proof.Machine

namespace Sys2Proof.Proofs
open Sys2Proof.Machine

/-- Settles O17: a debugger write is one of three (logged or not, to memory, refused by the port), a release is a resume and what was
owed, and sweep and replay each have one start, one stop and one step. -/
theorem checkerTasks : Obligations.CheckerTasks := by
  refine ⟨?opens, ?crownsOpen, ?notParked, ?logged, ?unlogged, ?toMemory, ?logFull, ?noSession, ?halts, ?haltsOn, ?notHalted,
    ?released, ?lateDone, ?noHalt, ?sweepStarts, ?sweepRefused, ?sweepDone, ?sweepEnded, ?noSweep, ?rplStarts, ?rplRefused, ?rplLive,
    ?rplStops, ?rplNotLive, ?startRecord, ?nextRecord, ?badCrc, ?outOfSequence, ?noReplay, ?runs, ?notReady, fun _ _ => rfl⟩
  case opens =>
    intro s ch hc ha hb hd
    show Host.Outcome.next { s with core := { s.core with dbg := if s.debugOk then some ch else s.core.dbg } } = _
    rw [if_pos (s.debugOk_iff.2 ⟨hc, ha, hb, hd⟩)]
  case crownsOpen =>
    exact fun s ch hc => exec_debugSessionOpen_refused (fun h => by
      obtain ⟨hcrowns, -⟩ := s.debugOk_iff.1 h
      simp [hcrowns] at hc) ch
  case notParked =>
    intro s ch h
    refine exec_debugSessionOpen_refused (fun hok => ?_) ch
    obtain ⟨-, ha, hb, -⟩ := s.debugOk_iff.1 hok
    rcases h with ⟨hr, hp⟩ | ⟨hr, hp⟩
    · exact hp (ha hr)
    · exact hp (hb hr)
  case logged =>
    intro s ch tg a v n sl hd hj ht hs hl
    refine congrArg Host.Outcome.next ((State.dbgWrite_core hd ht hs (fun _ => hl) a v).trans ?_)
    rw [if_pos hj]
    rfl
  case unlogged =>
    intro s ch tg a v n sl hd hj ht hs
    refine congrArg Host.Outcome.next ((State.dbgWrite_core hd ht hs (fun h => absurd h hj) a v).trans ?_)
    rw [if_neg hj]
    rfl
  case toMemory =>
    intro s ch a v n sl hd hs hl
    refine ⟨_, congrArg Host.Outcome.next (State.dbgWrite_memory hd hs hl a v), ?_⟩
    rcases State.planeWrite_cases ch sl a.toNat (s.dbgTaken .memory a v (s.core.log.drop n)) with ⟨hp, hw, h⟩ | ⟨hpw, h⟩
    · rw [h]
      refine ⟨rfl, rfl, rfl, rfl, rfl, rfl, fun _ _ => rfl, fun hno _ => ?_⟩
      rcases hno with hno | hno
      · exact absurd (List.contains_iff_mem.1 hp) hno
      · simp [hw] at hno
    · rw [h]
      refine ⟨by simp [State.dbgTaken], by simp [State.dbgTaken], by simp [State.dbgTaken], by simp [State.dbgTaken],
        by simp [State.dbgTaken], by simp [State.dbgTaken], fun hp hw => ?_, fun _ hwhole => ?_⟩
      · simp [hp, hw] at hpw
      · have hlt : 7 < (s.dbgTaken .memory a v (s.core.log.drop n)).flt.src.length := by
          rw [show (s.dbgTaken .memory a v (s.core.log.drop n)).flt.src.length = 128 from hwhole]; decide
        exact (State.raise_fs hlt 0).1
  case logFull => exact fun s ch tg a v n sl hd hj hs hl => congrArg Host.Outcome.next (State.dbgWrite_full hd hs hj hl tg a v)
  case noSession =>
    intro s tg a v n sl h
    show Host.Outcome.next (s.dbgWrite tg a v n sl) = _
    rcases h with h | h <;> simp [State.dbgWrite, h]
  case halts =>
    intro s ch ofs hd hh
    simp [exec, execDebugHalt, State.debugHalt, hd, hh]
  case haltsOn =>
    intro s ch ofs hd hh
    simp [exec, execDebugHalt, State.debugHalt, hd, hh]
  case notHalted =>
    intro s ch ofs hd hh he
    have h1 : (s.at ofs).resumeCore = s.at ofs := State.resumeCore_running hh
    have h2 : (s.at ofs).evalOwed = s.at ofs := State.evalOwed_none he
    simp only [exec, execDebugHalt, State.debugHalt, hd, Option.isSome_some, if_true, Bool.false_eq_true, if_false, h1, h2]
    rfl
  case released =>
    intro s ch ofs hd hh
    have hr := State.resumeCore_halted (s := s.at ofs) hd hh
    have hw : (s.at ofs).resumeCore.beat.evalWait = s.beat.evalWait := by rw [hr]; exact BeatS.late_or_delay_evalWait ..
    have hx : exec (.debugHalt ⟨false, ofs⟩) s = .next (s.at ofs).resumeCore.evalOwed := by
      simp [exec, execDebugHalt, State.debugHalt, hd]
    refine ⟨_, rfl, fun he => ?_, fun x y he => ?_⟩
    · rw [hx, State.evalOwed_none (hw.trans he), hr]
      rfl
    · rw [hx, State.evalOwed_some (hw.trans he), hr]
      rfl
  case lateDone => exact fun b us => ⟨fun h => by simp [BeatS.late, h], fun h => by simp [BeatS.late, h]⟩
  case noHalt =>
    intro s h ofs hd
    simp [exec, execDebugHalt, hd]
  case sweepStarts =>
    intro s p nf hp ht hf
    have hok := (s.sweepOk_iff nf).2 ⟨hp, ht, hf⟩
    simp only [exec, execSweepStart, State.sweepStart, hok, if_true]
    rfl
  case sweepRefused =>
    intro s p nf h
    have hno : s.sweepOk nf ≠ true := fun hok => by
      obtain ⟨hp, ht, -⟩ := (s.sweepOk_iff nf).1 hok
      simp [hp, ht] at h
    simp only [exec, execSweepStart, State.sweepStart, hno, Bool.false_eq_true, if_false]
  case sweepDone =>
    intro s hs hidx ht
    obtain ⟨w, host, hstop, hw, ha⟩ := State.sweepStop_eq hs 2 0
    have hx : exec .sweepEnd s = .next (s.sweepStop 2 0) := by
      simp [exec, execSweepEnd, State.sweepDue, State.sweepEnd, hs, hidx]
    refine ⟨_, hx, ?_⟩
    rw [hstop]
    simp only [ha, hw, ht, if_true, and_self]
  case sweepEnded =>
    intro s hs hidx hoff
    obtain ⟨w, host, hstop, hw, -⟩ := State.sweepStop_eq hs 3 2
    have hx : exec .sweepEnd s = .next (s.sweepStop 3 2) := by
      simp [exec, execSweepEnd, State.sweepDue, State.sweepEnd, hs, hoff, Nat.not_lt.2 hidx]
    refine ⟨_, hx, ?_⟩
    rw [hstop]
    simp only [hw, and_self]
  case noSweep =>
    intro s hs
    simp [exec, execSweepEnd, State.sweepDue, hs]
  case rplStarts =>
    intro s p bank raw hp ha hb hta htb hlive
    have hok := s.rplOk_iff.2 ⟨hp, ha, hb, hta, htb⟩
    simp only [exec, execRplStart, State.rplStart, hok, hlive, if_true, Bool.false_eq_true, if_false]
    exact ⟨_, rfl, rfl, rfl, rfl, rfl⟩
  case rplRefused =>
    intro s p bank raw hlive h
    have hno : s.rplOk ≠ true := fun hok => by
      obtain ⟨hp, ha, hb, hta, htb⟩ := s.rplOk_iff.1 hok
      simp [hp, ha, hb, hta, htb] at h
    simp only [exec, execRplStart, State.rplStart, hno, hlive, Bool.false_eq_true, if_false]
  case rplLive =>
    intro s p bank raw hlive ht
    have hno : s.rplOk ≠ true := fun hok => by
      obtain ⟨-, -, -, hta, -⟩ := s.rplOk_iff.1 hok
      simp [hta] at ht
    simp only [exec, execRplStart, State.rplStart, hno, hlive, Bool.false_eq_true, if_false, if_true]
  case rplStops =>
    intro s p hlive hta htb
    obtain ⟨w, host, hstop, hw, ha, hb⟩ := State.rplStop_eq hlive 3
    simp only [exec, execRplStop, hstop]
    refine ⟨_, rfl, ?_⟩
    simp only [ha, hb, hw, hta, htb, if_true, and_self]
  case rplNotLive =>
    intro s p hlive
    simp only [exec, execRplStop, State.rplStop_idle hlive]
  case startRecord =>
    intro s l hs hcrc
    simp only [exec, execReplayRecord, State.rplRecord, RplS.live_of_state (.inl hs), hcrc, hs, Bool.not_true, Bool.false_eq_true,
      if_false]
  case nextRecord =>
    intro s l hs hcrc hseq
    simp only [exec, execReplayRecord, State.rplRecord, RplS.live_of_state (.inr hs), hcrc, hs, Bool.not_true, Bool.false_eq_true,
      if_false, hseq, if_true]
  case badCrc =>
    intro s l hlive hcrc
    obtain ⟨w, host, hstop, hw, -⟩ := State.rplStop_eq hlive 1
    refine ⟨s.rplStop 1, by simp [exec, execReplayRecord, State.rplRecord, hlive, hcrc], ?_⟩
    rw [hstop]
    exact ⟨hw, rfl⟩
  case outOfSequence =>
    intro s l hs hcrc hseq
    have hlive := RplS.live_of_state (.inr hs)
    obtain ⟨w, host, hstop, hw, -⟩ := State.rplStop_eq hlive 2
    refine ⟨s.rplStop 2, by simp [exec, execReplayRecord, State.rplRecord, hlive, hcrc, hs, hseq], ?_⟩
    rw [hstop]
    exact ⟨hw, rfl⟩
  case noReplay =>
    intro s l hlive
    simp [exec, execReplayRecord, State.rplRecord, hlive]
  case runs =>
    intro s l r hs hready hlast
    have hdue : s.rplBeatDue = true := by simp [State.rplBeatDue, hs, hready, hlast]
    simp only [exec, execReplayBeat, hdue, if_true, State.rplBeat, hready]
    exact ⟨_, _, rfl, rfl⟩
  case notReady =>
    intro s h
    have hdue : s.rplBeatDue = false := by rcases h with h | h <;> simp [State.rplBeatDue, h]
    simp [exec, execReplayBeat, hdue]

end Sys2Proof.Proofs
end

section
/-! PROOFS. Commands of a boundary. -/

namespace Sys2Proof.Machine

/-- Once the boundary is over its rows do nothing (R33, R305). -/
theorem State.boundaryRow_over {s : State} (h : s.beat.bStage ≠ 0) (due : State → Bool) (op : State → State) :
    s.boundaryRow due op = s := by
  simp [State.boundaryRow, State.atBoundary, h]

/-- Nothing of the beat source is due once the boundary is over (R81, R85, R86). -/
theorem State.sourceDue_over {s : State} (h : s.beat.bStage ≠ 0) :
    s.holdoverDue = false ∧ s.sourceLostDue = false ∧ s.resyncDue = false := by
  simp [State.holdoverDue, State.sourceLostDue, State.resyncDue, State.atBoundary, h]

end Sys2Proof.Machine

namespace Sys2Proof.Proofs
open Sys2Proof.Machine

/-- Settles O22: a command of a boundary is a boundary row, or its own condition asks whether the boundary still lasts. -/
theorem boundaryOnly : Obligations.BoundaryOnly := by
  intro s c hover hc
  obtain ⟨hold, hlost, hsync⟩ := State.sourceDue_over hover
  have row (due : State → Bool) (op : State → State) :
      (.next (s.boundaryRow due op) : Host.Outcome State Fault Refusal) = .next s :=
    congrArg _ (State.boundaryRow_over hover due op)
  simp only [List.append_assoc, List.mem_append, List.mem_cons, List.mem_flatMap, List.not_mem_nil, or_false] at hc
  rcases hc with hc | ⟨n, -, hc⟩ | hc
  · rcases hc with rfl | rfl | rfl | rfl | rfl | rfl | rfl | rfl | rfl | rfl | rfl | rfl | rfl | rfl | rfl
    iterate 12 exact row ..
    · simp [exec, execEnterHoldover, hold]
    · simp [exec, execBeatSourceLost, hlost]
    · simp [exec, execSbOfsResync, hsync]
  · rcases hc with rfl | rfl | rfl <;> exact row ..
  · rcases hc with rfl | rfl | rfl | rfl <;> exact row ..

end Sys2Proof.Proofs
end

section
/-! PROOFS. The supervision of the host, the channels, the Monitors and the crystals. -/

namespace Sys2Proof.Machine

/-! Counts of the cross-comparison (R328) -/

/-- An item's count goes on while it differs, and one that an injection inverts stands still (R328, R377). -/
theorem xCounts_getElem? (skip : Option Nat) (cnt : List Nat) (diff : List Bool) (i : Nat) :
    (xCounts skip cnt diff)[i]? = cnt[i]?.map fun n => if skip = some i then n else if diff[i]?.getD false then n + 1 else 0 := by
  simp only [xCounts, indexed_map_getElem?, beq_iff_eq]

/-- An item lies beyond its tolerance. -/
theorem State.xBeyond_iff (s : State) (blks : List (Nat × EscBlk)) (cnt : List Nat) :
    s.xBeyond blks cnt = true ↔ ∃ i n, cnt[i]? = some n ∧ 0 < n ∧ s.xTolerance blks i ≤ n := by
  simp [State.xBeyond, List.any_eq_true, mem_indexed]

/-- An item reaches its tolerance. -/
theorem State.xReached_iff (s : State) (blks : List (Nat × EscBlk)) (cnt : List Nat) :
    s.xReached blks cnt = true ↔ ∃ i n, cnt[i]? = some n ∧ 0 < n ∧ n = s.xTolerance blks i := by
  simp [State.xReached, List.any_eq_true, mem_indexed]

/-- The tolerances are the image's (R328). -/
theorem State.xTolerance_of_img {s t : State} (h : t.img = s.img) (i : Nat) : t.xTolerance t.blocks i = s.xTolerance s.blocks i := by
  have hblocks : t.blocks = s.blocks := by rw [State.blocks, h, State.blocks]
  have hnat (p : Param) : t.nat p = s.nat p := by rw [State.nat, h, State.nat]
  have hdriven : t.drivenDiverse = s.drivenDiverse := by
    funext blks p
    simp only [State.drivenDiverse, hnat]
  have hdiverse : t.xDiverse s.blocks i = s.xDiverse s.blocks i := by simp only [State.xDiverse, hdriven]
  rw [State.xTolerance, hblocks, hdiverse, hnat, State.xTolerance]

/-- Counts of 0 lie beyond nothing and reach nothing. -/
theorem State.xNone {cnt : List Nat} (h : ∀ (i n : Nat), cnt[i]? = some n → n = 0) (s : State) (blks : List (Nat × EscBlk)) :
    s.xBeyond blks cnt = false ∧ s.xReached blks cnt = false := by
  rw [← Bool.not_eq_true, ← Bool.not_eq_true, State.xBeyond_iff, State.xReached_iff]
  constructor
  · rintro ⟨i, n, hn, hpos, -⟩
    have := h i n hn
    omega
  · rintro ⟨i, n, hn, hpos, -⟩
    have := h i n hn
    omega

/-! One comparison (R328) -/

/-- The item whose counts an injection holds: that of an injection without FULL (R377). -/
def State.xSkip (s : State) : Option Nat := if s.injFull then none else s.xInverted

/-- A comparison writes the counts of the channels that compare, and of the outputs and the channels nothing. -/
theorem State.compare_counts (a b : XRec) (byA byB : Bool) (s : State) :
    (s.compare a b byA byB).safe.x.cnt = (if byA then xCounts s.xSkip s.safe.x.cnt (s.xItems a b) else s.safe.x.cnt) ∧
    (s.compare a b byA byB).safe.x.cntB = (if byB then xCounts s.xSkip s.safe.x.cntB (s.xItems a b) else s.safe.x.cntB) ∧
    (s.compare a b byA byB).cha = s.cha ∧ (s.compare a b byA byB).chb = s.chb ∧ (s.compare a b byA byB).meas = s.meas ∧
    (s.compare a b byA byB).safe.out = s.safe.out := by
  unfold State.compare
  extract_lets diff blks inv skip cntA cntB beyA beyB reached any counts shows blk _ _ _ t u kind
  have hu : u.safe = t.safe ∧ u.cha = s.cha ∧ u.chb = s.chb ∧ u.meas = s.meas := by
    simp only [u]
    split <;> exact ⟨rfl, rfl, rfl, rfl⟩
  obtain ⟨hsafe, ha, hb, hm⟩ := hu
  have raised (k : RaiseKind) (one : Bool) (w : Word) : (u.raiseAt k one 5 0 w).safe = t.safe ∧ (u.raiseAt k one 5 0 w).cha = s.cha ∧
      (u.raiseAt k one 5 0 w).chb = s.chb ∧ (u.raiseAt k one 5 0 w).meas = s.meas :=
    ⟨(State.raiseAt_safe ..).trans hsafe, (State.raiseAt_cha ..).trans ha, (State.raiseAt_chb ..).trans hb,
      (State.raiseAt_meas ..).trans hm⟩
  generalize hr : (if reached = true then _ else _ : State) = r
  have hends : r.safe = t.safe ∧ r.cha = s.cha ∧ r.chb = s.chb ∧ r.meas = s.meas := by
    rw [← hr]
    split
    · exact raised kind false u.evBeat
    · split
      · exact raised .injected true u.evBeat
      · split
        · exact ⟨hsafe, ha, hb, hm⟩
        · exact ⟨hsafe, ha, hb, hm⟩
  obtain ⟨rsafe, ra, rb, rm⟩ := hends
  rw [rsafe]
  exact ⟨rfl, rfl, ra, rb, rm, rfl⟩

/-- Without an injection, a comparison in which every count is 0 ends FS5 (R328). -/
theorem State.compare_agrees {a b : XRec} {s : State} (hinj : s.flt.injRun = none) (h : ∀ d ∈ s.xItems a b, d = false) :
    (s.compare a b true true).safe.x.present = false ∧ (s.compare a b true true).safe.x.diffCnt = s.safe.x.diffCnt ∧
    (s.compare a b true true).safe.x.xflt = s.safe.x.xflt ∧ ((s.compare a b true true).fs 5).cond = false := by
  have hzero (cnt : List Nat) (i n : Nat) (hn : (xCounts none cnt (s.xItems a b))[i]? = some n) : n = 0 := by
    have hd : (s.xItems a b)[i]?.getD false = false := by
      cases hi : (s.xItems a b)[i]? with
      | none => rfl
      | some d => exact h d (List.mem_of_getElem? hi)
    rw [xCounts_getElem?, hd] at hn
    simp only [reduceCtorEq, Bool.false_eq_true, if_false, Option.map_eq_some_iff] at hn
    obtain ⟨-, -, rfl⟩ := hn
    rfl
  have hfull : s.injFull = false := by simp [State.injFull, hinj]
  have hinv : s.xInverted = none := by simp [State.xInverted, hinj]
  have hany : (s.xItems a b).any id = false := by simpa using h
  obtain ⟨beyA, reachA⟩ := State.xNone (hzero s.safe.x.cnt) s s.blocks
  obtain ⟨beyB, reachB⟩ := State.xNone (hzero s.safe.x.cntB) s s.blocks
  simp only [State.compare, hfull, hinv, hany, beyA, beyB, reachA, reachB, if_true, Bool.false_eq_true, if_false, ite_self,
    Bool.and_false, Bool.false_and, Bool.or_false, Option.isSome_none]
  exact ⟨rfl, rfl, rfl, by rw [State.endCond_fs]⟩

/-- Without an injection, an item that reaches its tolerance raises FS5 (R328). -/
theorem State.compare_reaches {a b : XRec} {s : State} (hinj : s.flt.injRun = none) (hwhole : s.srcWhole) {i n : Nat}
    (hd : (s.xItems a b)[i]? = some true) (hn : s.safe.x.cnt[i]? = some n) (htol : n + 1 = s.xTolerance s.blocks i) :
    (s.compare a b true true).safe.x.xflt = true ∧ ((s.compare a b true true).fs 5).latch = true := by
  have hfull : s.injFull = false := by simp [State.injFull, hinj]
  have hinv : s.xInverted = none := by simp [State.xInverted, hinj]
  have hreach : s.xReached s.blocks (xCounts none s.safe.x.cnt (s.xItems a b)) = true :=
    (State.xReached_iff ..).2 ⟨i, n + 1, by simp [xCounts_getElem?, hn, hd], by omega, htol⟩
  simp only [State.compare, hfull, hinv, hreach, if_true, Bool.false_eq_true, if_false, Bool.true_and, Bool.true_or,
    Option.isSome_none, Bool.false_and]
  refine ⟨?_, (State.raiseCondAs_fs (by rw [State.srcWhole] at hwhole; simp [hwhole]) .lasting 0).1⟩
  rw [State.raiseCondAs]
  simp

/-! The records that have arrived (R328, R329) -/

/-- A channel that evaluates runs. -/
theorem State.runs_of_evals {s : State} {c : Ch} (h : s.evals c = true) : s.runs c = true := by
  simp only [State.evals, State.works, Bool.and_eq_true] at h
  exact h.1.1

/-- The record of this beat is there for the other channel when it has arrived (R328). -/
theorem State.posted_eq {s : State} {c : Ch} {r : XRec} (he : s.evals c = true) (hp : (s.chan c).post = some r)
    (hb : r.beat = s.beat.num) (arrived : Bool) : s.posted c arrived = if arrived then some r else none := by
  cases arrived <;> simp [State.posted, he, hp, hb]

/-- The counts of beats without the other channel's record after a comparison (R329). -/
def State.missed (recA recB : Bool) (s : State) : State :=
  { s with
    cha := { s.cha with missing := if recB then 0 else incSat 3 s.cha.missing }
    chb := { s.chb with missing := if recA then 0 else incSat 3 s.chb.missing } }

/-- Two running channels count the records that they miss (R329). -/
theorem State.countMissing_both {s : State} (ha : s.runs .a = true) (hb : s.runs .b = true) {xA xB : Option XRec} {recA recB : Bool}
    (hA : xA.isSome = recA) (hB : xB.isSome = recB) : (s.countMissing .a xB).countMissing .b xA = s.missed recA recB := by
  subst hA hB
  have hb' : (s.countMissing .a xB).runs .b = true := by
    simp only [State.countMissing, ha, if_true]
    exact hb
  rw [State.countMissing, if_pos hb', State.countMissing, if_pos ha]
  rfl

/-- What both channels must have for a comparison: each evaluates, has not declared the other lost and has posted its record of the beat
(R328, R329). -/
structure State.PostedBoth (s : State) (x y : XRec) : Prop where
  evalsA : s.evals .a = true
  evalsB : s.evals .b = true
  knownA : s.cha.declared = false
  knownB : s.chb.declared = false
  postA : s.cha.post = some x
  postB : s.chb.post = some y
  beatA : x.beat = s.beat.num
  beatB : y.beat = s.beat.num

/-- A channel that holds both records compares (R328). -/
theorem State.crossCompare_posted {s : State} {x y : XRec} (h : s.PostedBoth x y) {recA recB : Bool} (harr : (recB || recA) = true) :
    s.crossCompare recA recB = (s.missed recA recB).compare x y recB recA := by
  have hA (arr : Bool) := State.posted_eq (c := .a) h.evalsA h.postA h.beatA arr
  have hB (arr : Bool) := State.posted_eq (c := .b) h.evalsB h.postB h.beatB arr
  have hmiss : (s.countMissing .a (s.posted .b recB)).countMissing .b (s.posted .a recA) = s.missed recA recB :=
    State.countMissing_both (State.runs_of_evals h.evalsA) (State.runs_of_evals h.evalsB)
      (by rw [hA]; cases recA <;> rfl) (by rw [hB]; cases recB <;> rfl)
  simp only [State.crossCompare, hmiss, hA true, hB true, h.knownA, h.knownB, Bool.not_false, Bool.and_true, harr, if_true]

/-- The comparison of this beat has been made (R328). -/
def State.xDone (s : State) : State := { s with safe := { s.safe with x := { s.safe.x with done := true } } }

/-- The comparison of the beat is made once, at 980 µs (R328). -/
theorem exec_crossComparison_due {s : State} (hrun : s.beat.running = true) (hst : 0 < s.beat.eStage) (hdone : s.safe.x.done = false)
    (recA recB : Bool) : exec (.crossComparison recA recB) s = .next ((s.at 980000).crossCompare recA recB).xDone := by
  have hdue : s.compareDue = true := by simp [State.compareDue, hrun, hst, hdone]
  simp only [exec, execCrossComparison, hdue, if_true]
  rfl

/-- Channels that have both records, and at least one of them in time, compare at 980 µs. -/
theorem exec_crossComparison_posted {s : State} {x y : XRec} (hrun : s.beat.running = true) (hst : 0 < s.beat.eStage)
    (hdone : s.safe.x.done = false) (h : s.PostedBoth x y) {recA recB : Bool} (harr : (recB || recA) = true) :
    ∃ r, exec (.crossComparison recA recB) s = .next r.xDone ∧ ((s.at 980000).missed recA recB).compare x y recB recA = r := by
  have hat : (s.at 980000).PostedBoth x y := ⟨h.1, h.2, h.3, h.4, h.5, h.6, h.7, h.8⟩
  exact ⟨_, by rw [exec_crossComparison_due hrun hst hdone, State.crossCompare_posted hat harr], rfl⟩

end Sys2Proof.Machine

namespace Sys2Proof.Proofs
open Sys2Proof.Machine

/-- Settles O24: a comparison is `compare` over the counts of missing records; which counts move, when FS5 begins and when it ends are
lemmas about it, and the other rows are one field each. -/
theorem supervision : Obligations.Supervision := by
  refine ⟨?hostLost, ?hostHeard, ?loss, ?noLoss, ?noRecords, ?compares, ?onlyB, ?done, ?inverted, ?wordA, ?wordB, fun _ => rfl, ?xtalA⟩
  case hostLost =>
    intro s hon h3
    cases hl : s.safe.hostLost
    · simp [exec, execHostLost, State.hostLostDue, State.setHostLost, hon, h3, hl]
    · simp only [exec, execHostLost, State.hostLostDue, hl, Bool.not_true, Bool.and_false, Bool.false_eq_true, if_false]
      rw [← hl]
  case hostHeard =>
    intro s h
    simp [exec, execHostLost, State.hostLostDue, Nat.not_le.2 h]
  case loss =>
    intro s ch hr h3 hd hwhole
    have hdue : s.lossDue ch = true := by simp [State.lossDue, hr, h3, hd]
    obtain ⟨u, hu, hflt, hbeat, hsafe, hmeas, hch, hother⟩ : ∃ u : State, s.declareLoss ch = u.raiseCond 6 0 ∧ u.flt = s.flt ∧
        u.beat = s.beat ∧ u.safe = s.safe ∧ u.meas = s.meas ∧ u.chan ch = { s.chan ch with declared := true } ∧
        u.chan ch.other = s.chan ch.other := by
      refine ⟨_, rfl, ?_⟩
      cases ch <;> split <;> split <;> exact ⟨rfl, rfl, rfl, rfl, rfl, rfl⟩
    refine ⟨s.declareLoss ch, by simp [exec, execChannelLoss, hdue], ?_⟩
    obtain ⟨hlatch, hcond⟩ := State.raiseCond_fs (s := u) (n := 6) (by rw [hflt, hwhole]; decide) 0
    have hchan (c : Ch) : (u.raiseCond 6 0).chan c = u.chan c := by cases c <;> simp [State.chan]
    rw [hu, hchan, hchan, State.raiseCond_beat, State.raiseCond_safe, State.raiseCond_meas]
    exact ⟨hch, hother, hlatch, hcond, hbeat, hsafe, hmeas⟩
  case noLoss =>
    intro s ch h
    simp [exec, execChannelLoss, State.lossDue, Nat.not_le.2 h]
  case noRecords =>
    intro s hrun hst hdone ha hb
    have hmiss : ((s.at 980000).countMissing .a ((s.at 980000).posted .b false)).countMissing .b ((s.at 980000).posted .a false) =
        (s.at 980000).missed false false := State.countMissing_both (s := s.at 980000) ha hb rfl rfl
    have hcross : (s.at 980000).crossCompare false false = (s.at 980000).missed false false := by
      simp only [State.crossCompare, hmiss, Bool.false_and, Bool.or_false, Bool.false_eq_true, if_false]
      split <;> rfl
    refine ⟨_, exec_crossComparison_due hrun hst hdone false false, ?_⟩
    rw [hcross]
    exact ⟨rfl, rfl, rfl, rfl, rfl, rfl⟩
  case compares =>
    intro s x y hrun hst hdone ha hb hda hdb hpa hpb hba hbb hwhole hinj
    have hitems : ((s.at 980000).missed true true).xItems x y = s.xItems x y := rfl
    have htols := State.xTolerance_of_img (s := s) (t := (s.at 980000).missed true true) rfl
    have hinj' : ((s.at 980000).missed true true).flt.injRun = none := hinj
    have hwhole' : ((s.at 980000).missed true true).srcWhole := hwhole
    obtain ⟨r, hx, hr⟩ := exec_crossComparison_posted hrun hst hdone ⟨ha, hb, hda, hdb, hpa, hpb, hba, hbb⟩ (recA := true) (recB := true) rfl
    obtain ⟨hcnt, hcntB, hcha, hchb, hmeas, hout⟩ := State.compare_counts x y true true ((s.at 980000).missed true true)
    have hskip : ((s.at 980000).missed true true).xSkip = none := by
      have hinv : ((s.at 980000).missed true true).xInverted = none := by simp [State.xInverted, State.missed, hinj]
      simp [State.xSkip, hinv]
    rw [hr] at hcnt hcntB hcha hchb hmeas hout
    rw [hskip, if_pos rfl] at hcnt hcntB
    refine ⟨_, hx, rfl, fun i => ?_, fun i => ?_,
      fun hagree => ?_, fun i n hd hn htol => ?_, hcha, hchb, hmeas, hout⟩
    · refine (congrArg (fun l : List Nat => l[i]?) hcnt).trans ?_
      rw [xCounts_getElem?]
      rfl
    · refine (congrArg (fun l : List Nat => l[i]?) hcntB).trans ?_
      rw [xCounts_getElem?]
      rfl
    · rw [← hitems] at hagree
      obtain ⟨hpres, hdiff, hxflt, hcond⟩ := State.compare_agrees hinj' hagree
      rw [hr] at hpres hdiff hxflt hcond
      exact ⟨hpres, hdiff, hxflt, hcond⟩
    · rw [← hitems] at hd
      rw [← htols i] at htol
      obtain ⟨hxflt, hlatch⟩ := State.compare_reaches hinj' hwhole' hd hn htol
      rw [hr] at hxflt hlatch
      exact ⟨hxflt, hlatch⟩
  case onlyB =>
    intro s x y hrun hst hdone ha hb hda hdb hpa hpb hba hbb _ hinj
    obtain ⟨r, hx, hr⟩ := exec_crossComparison_posted hrun hst hdone ⟨ha, hb, hda, hdb, hpa, hpb, hba, hbb⟩ (recA := true) (recB := false) rfl
    obtain ⟨hcnt, hcntB, hcha, hchb, -, -⟩ := State.compare_counts x y false true ((s.at 980000).missed true false)
    have hskip : ((s.at 980000).missed true false).xSkip = none := by
      have hinv : ((s.at 980000).missed true false).xInverted = none := by simp [State.xInverted, State.missed, hinj]
      simp [State.xSkip, hinv]
    rw [hr] at hcnt hcntB hcha hchb
    rw [hskip, if_pos rfl] at hcntB
    refine ⟨_, hx, hcnt, fun i => ?_, hcha, hchb⟩
    refine (congrArg (fun l : List Nat => l[i]?) hcntB).trans ?_
    rw [xCounts_getElem?]
    rfl
  case done =>
    intro s a b hd
    simp [exec, execCrossComparison, State.compareDue, hd]
  case inverted =>
    intro s x y k hrun hst hdone ha hb hda hdb hpa hpb hba hbb hinv hfull
    obtain ⟨r, hx, hr⟩ := exec_crossComparison_posted hrun hst hdone ⟨ha, hb, hda, hdb, hpa, hpb, hba, hbb⟩ (recA := true) (recB := true) rfl
    obtain ⟨hcnt, hcntB, hcha, hchb, hmeas, hout⟩ := State.compare_counts x y true true ((s.at 980000).missed true true)
    have hskip : ((s.at 980000).missed true true).xSkip = some k := by
      have hinv' : ((s.at 980000).missed true true).xInverted = some k := hinv
      have hfull' : ((s.at 980000).missed true true).injFull = false := hfull
      simp [State.xSkip, hinv', hfull']
    rw [hr] at hcnt hcntB hcha hchb hmeas hout
    rw [hskip, if_pos rfl] at hcnt hcntB
    refine ⟨_, hx, rfl, ?_, ?_, fun i hi => ?_,
      hcha, hchb, hmeas, hout⟩
    · refine (congrArg (fun l : List Nat => l[k]?) hcnt).trans ?_
      simp only [xCounts_getElem?, if_true, Option.map_id']
      rfl
    · refine (congrArg (fun l : List Nat => l[k]?) hcntB).trans ?_
      simp only [xCounts_getElem?, if_true, Option.map_id']
      rfl
    · refine (congrArg (fun l : List Nat => l[i]?) hcnt).trans ?_
      simp only [xCounts_getElem?, Option.some.injEq, hi.symm, if_false]
      rfl
  case wordA =>
    intro s u pos hro hu hm hl
    simp [exec, execMonitorWordMissing, State.wordMissing, UnitS.wordDue, UnitS.wordMissing, hro, hu, hm, hl]
  case wordB =>
    intro s u pos hro hu hm hl
    simp [exec, execMonitorWordMissing, State.wordMissing, UnitS.wordDue, UnitS.wordMissing, hro, hu, hm, hl]
  case xtalA =>
    intro s hshown
    simp only [exec, execCrystalFailure, State.crystalFails, State.freezeFlt, hshown, Option.getD_none]
    rfl

end Sys2Proof.Proofs
end

section
/-! PROOFS. Retries of the links and of the memories, and the scrubber. -/

namespace Sys2Proof.Machine

/-- A raise leaves the configuration alone but for a pending reset: its journal words stay (R370). -/
theorem State.raiseAt_journal (k : RaiseKind) (one : Bool) (n : Nat) (d b : Word) (s : State) :
    (s.raiseAt k one n d b).cfg.j0 = s.cfg.j0 ∧ (s.raiseAt k one n d b).cfg.j1 = s.cfg.j1 := by
  obtain ⟨r, hr⟩ := State.raiseAt_cfg k one n d b s
  rw [hr]
  exact ⟨rfl, rfl⟩

/-- The end of an injection leaves what it does not collect (R377). -/
theorem State.injResult_keeps (ok : Bool) (s : State) :
    (s.injResult ok).mem = s.mem ∧ (s.injResult ok).integ = s.integ ∧ (s.injResult ok).beat = s.beat ∧
    (s.injResult ok).meas = s.meas ∧ (s.injResult ok).cha = s.cha ∧ (s.injResult ok).chb = s.chb ∧
    (s.injResult ok).cfg.j0 = s.cfg.j0 ∧ (s.injResult ok).cfg.j1 = s.cfg.j1 := by
  cases hrun : s.flt.injRun with
  | none => simp [State.injResult, hrun]
  | some i =>
    cases hok : i.seen.getD ok with
    | true =>
      rw [State.injResult_pass hrun hok]
      split
      · exact ⟨State.raiseAt_mem .., State.raiseAt_integ .., State.raiseAt_beat .., State.raiseAt_meas .., State.raiseAt_cha ..,
          State.raiseAt_chb .., State.raiseAt_journal ..⟩
      · exact ⟨rfl, rfl, rfl, rfl, rfl, rfl, rfl, rfl⟩
    | false =>
      rw [State.injResult_fail hrun hok]
      exact ⟨State.raiseAt_mem .., State.raiseAt_integ .., State.raiseAt_beat .., State.raiseAt_meas .., State.raiseAt_cha ..,
        State.raiseAt_chb .., State.raiseAt_journal ..⟩

/-- An injection that passes ends; without FULL it writes no collector (R377). -/
theorem State.injResult_passes {s : State} {i : InjRun} {ok : Bool} (hrun : s.flt.injRun = some i) (hok : i.seen.getD ok = true) :
    (s.injResult ok).flt.injState = 2 ∧ (s.injResult ok).flt.injRun = none ∧
      (i.full = false → (s.injResult ok).flt.src = s.flt.src) := by
  rw [State.injResult_pass hrun hok]
  split
  · next h =>
    refine ⟨State.raiseAt_injState .., State.raiseAt_injRun .., fun hfull => ?_⟩
    rw [hfull] at h
    cases h
  · exact ⟨rfl, rfl, fun _ => rfl⟩

/-- A full injection that passes latches its source, unless the comparison does (R377). -/
theorem State.injResult_full {s : State} {i : InjRun} {ok : Bool} {n : Nat} (hrun : s.flt.injRun = some i) (hok : i.seen.getD ok = true)
    (hfull : i.full = true) (ht : i.target ≠ 29) (hsrc : injSource i.target = some n) (hwhole : s.srcWhole) :
    ((s.injResult ok).fs n).latch = true := by
  have hlt : n < ((s.injEnded 2).injEntry i).flt.src.length := by
    rw [show ((s.injEnded 2).injEntry i).flt.src.length = 128 from hwhole]; exact injSource_lt hsrc
  rw [State.injResult_pass hrun hok, if_pos (by simp [hfull, ht]), hsrc]
  exact (State.raiseAt_counts hlt (k := .injected) (by decide) 0 _).1

/-- Number of a link: its segment and its channel (R364, R376). -/
def linkIx (g : Fin 4) (ch : Ch) : Nat := 2 * g.val + if ch = .a then 0 else 1

theorem linkIx_lt (g : Fin 4) (ch : Ch) : linkIx g ch < 8 := by
  unfold linkIx
  split <;> omega

/-- The source of a link's injection is the link's own (R376). -/
theorem injSource_link (g : Fin 4) (ch : Ch) : injSource (8 + linkIx g ch) = some (16 + linkIx g ch) := by
  have := linkIx_lt g ch
  unfold injSource
  rw [if_neg (by omega), if_neg (by omega), if_neg (by omega), if_pos (by omega)]
  congr 1
  omega

/-- What a resend that failed drops (R204, R205). -/
def MeasS.drop (m : MeasS) (g : Fin 4) (ch : Ch) : LinkItem → MeasS
  | .window w => { m with dropped := m.dropped ++ [(g.val, ch, w.val)] }
  | .current second => { m with lostCur := m.lostCur ++ [(ch, second)] }
  | .cell n => { m with lostCell := m.lostCell ++ [(ch, n.val + 1)] }

/-- A resend that came right counts; the word that an injection inverted passes the injection, and counts with FULL (R204, R376). -/
theorem exec_linkRetry_ok (g : Fin 4) (ch : Ch) (it : LinkItem) (s : State) :
    exec (.linkRetry g ch it true) s = .next (
      let t := { s with integ := { s.integ with linkRetries := s.integ.linkRetries.modify (linkIx g ch) (· + 1) } }.tally 28 1
      if s.injects (8 + linkIx g ch) then (if s.injFull then t else s).injResult true
      else t.raiseTransient (16 + linkIx g ch) 0) := by
  cases ch <;> simp only [exec, execLinkRetry, linkIx, if_true, Nat.add_assoc, reduceCtorEq, if_false, apply_ite Host.Outcome.next]

/-- A resend that failed drops its item (R205). -/
theorem exec_linkRetry_failed (g : Fin 4) (ch : Ch) (it : LinkItem) (s : State) :
    exec (.linkRetry g ch it false) s = .next (
      let t := { s with meas := s.meas.drop g ch it }
      if s.injects (8 + linkIx g ch) then t.injResult false else t.raise (16 + linkIx g ch) 0) := by
  cases it <;> cases ch <;>
    simp only [exec, execLinkRetry, linkIx, MeasS.drop, if_true, Nat.add_assoc, reduceCtorEq, if_false, Bool.false_eq_true,
      apply_ite Host.Outcome.next]

/-- A word that stays bad is poisoned, its readers receive an error, and the source of its memory is raised (R43). -/
theorem State.poison_keeps (m : Mem) (w : Nat) (s : State) :
    (s.poison m w).mem = { s.mem with
        poisoned := if s.mem.poisoned.contains (m, w) then s.mem.poisoned else s.mem.poisoned ++ [(m, w)]
        errors := s.mem.errors ++ (wordUsers m w).filter fun p => !s.mem.errors.contains p } ∧
    (s.poison m w).cfg.j0 = (if m = .mram ∧ w = 16384 then none else s.cfg.j0) ∧
    (s.poison m w).cfg.j1 = (if m = .mram ∧ w = 16385 then none else s.cfg.j1) ∧
    (s.poison m w).beat = s.beat ∧ (s.poison m w).meas = s.meas := by
  unfold State.poison
  obtain ⟨h0, h1⟩ := State.raiseAt_journal .lasting true (9 + memIx m) 0 s.evBeat
    { s with
      mem := { s.mem with
        poisoned := if s.mem.poisoned.contains (m, w) then s.mem.poisoned else s.mem.poisoned ++ [(m, w)]
        errors := s.mem.errors ++ (wordUsers m w).filter fun p => !s.mem.errors.contains p }
      cfg := s.cfg.journalLost m w }
  exact ⟨State.raise_mem .., h0, h1, State.raise_beat .., State.raise_meas ..⟩

/-- The memories' sources are collected (R364). -/
theorem memSource_lt (m : Mem) {s : State} (h : s.srcWhole) : 9 + memIx m < s.flt.src.length := by
  rw [h]
  cases m <;> decide

/-- A poisoned word's memory shows its source (R43). -/
theorem State.poison_fs (m : Mem) (w : Nat) (s : State) (h : s.srcWhole) :
    ((s.poison m w).fs (9 + memIx m)).latch = true ∧ ((s.poison m w).fs (9 + memIx m)).pres = true := by
  unfold State.poison
  refine State.raise_fs ?_ 0
  exact memSource_lt m h

end Sys2Proof.Machine

namespace Sys2Proof.Proofs
open Sys2Proof.Machine

/-- Settles O38: a link and a memory each answer a read that came right, one that did not, and one of an injection's word; the injection
ends in `injResult`, the others raise the link's or the memory's source. -/
theorem retriesAndScrub : Obligations.RetriesAndScrub := by
  have linkLt (g : Fin 4) (ch : Ch) {s : State} (h : s.srcWhole) : 16 + linkIx g ch < s.flt.src.length := by
    have := linkIx_lt g ch
    rw [h]
    omega
  have linkAt (a : Nat) (g : Fin 4) (ch : Ch) : a + 2 * g.val + (if ch = .a then 0 else 1) = a + linkIx g ch := Nat.add_assoc ..
  simp only [Obligations.RetriesAndScrub, linkAt]
  refine ⟨?linkOk, ?linkFailed, ?linkInjected, ?memInjected, ?memOk, ?memFailed, fun _ _ _ => ⟨_, rfl, rfl, rfl⟩⟩
  case linkOk =>
    intro s g ch it hwhole hinj
    refine ⟨_, exec_linkRetry_ok g ch it s, ?_⟩
    dsimp only
    rw [if_neg (by rw [hinj]; decide)]
    obtain ⟨hlatch, htill⟩ := State.raiseTransient_fs (s := State.tally 28 1 { s with integ := { s.integ with
      linkRetries := s.integ.linkRetries.modify (linkIx g ch) (· + 1) } }) (linkLt g ch hwhole) 0
    exact ⟨State.raiseTransient_integ .., hlatch, htill, State.raiseTransient_meas .., State.raiseTransient_cha ..,
      State.raiseTransient_chb ..⟩
  case linkFailed =>
    intro s g ch it hwhole hinj
    refine ⟨_, exec_linkRetry_failed g ch it s, ?_⟩
    dsimp only
    rw [if_neg (by rw [hinj]; decide), State.raise_meas]
    obtain ⟨hlatch, hpres⟩ := State.raise_fs (s := { s with meas := s.meas.drop g ch it }) (linkLt g ch hwhole) 0
    refine ⟨?_, ?_, ?_, State.raise_integ .., hlatch, hpres, State.raise_cha .., State.raise_chb ..⟩
    · rintro w rfl; rfl
    · rintro second rfl; rfl
    · rintro n rfl; rfl
  case linkInjected =>
    intro s g ch it i hrun ht hhit hseen
    have hinj : s.injects (8 + linkIx g ch) = true := by simp [State.injects, hrun, ht, hhit]
    have hfull : s.injFull = i.full := by simp [State.injFull, hrun]
    have hok : i.seen.getD true = true := by rw [hseen]; rfl
    refine ⟨_, exec_linkRetry_ok g ch it s, ?_⟩
    dsimp only
    rw [if_pos hinj, hfull]
    cases hf : i.full with
    | false =>
      obtain ⟨hstate, hnone, hsrc⟩ := State.injResult_passes hrun hok
      obtain ⟨-, hinteg, -, hmeas, hcha, hchb, -⟩ := State.injResult_keeps true s
      exact ⟨hstate, hnone, fun _ => ⟨hinteg, hsrc hf⟩, fun h => absurd h (by decide), hmeas, hcha, hchb⟩
    | true =>
      generalize hu : State.tally 28 1 _ = u
      have hrun' : u.flt.injRun = some i := hu ▸ hrun
      obtain ⟨hstate, hnone, -⟩ := State.injResult_passes hrun' hok
      obtain ⟨-, -, -, hmeas, hcha, hchb, -⟩ := State.injResult_keeps true u
      have h29 : i.target ≠ 29 := by
        have := linkIx_lt g ch
        omega
      have hsrc : injSource i.target = some (16 + linkIx g ch) := ht ▸ injSource_link g ch
      refine ⟨hstate, hnone, fun h => absurd h (by decide), fun _ hwhole => ?_, hmeas.trans (hu ▸ rfl), hcha.trans (hu ▸ rfl),
        hchb.trans (hu ▸ rfl)⟩
      exact State.injResult_full hrun' hok hf h29 hsrc (hu ▸ hwhole)
  case memInjected =>
    intro s m w i hrun ht hhit hseen hw ok
    have hread : s.injRead m w = true := by simp [State.injRead, State.injects, hrun, ht, hhit, hw]
    have hok : i.seen.getD true = true := by rw [hseen]; rfl
    obtain ⟨hstate, hnone, hsrc⟩ := State.injResult_passes hrun hok
    obtain ⟨hmem, -, hbeat, hmeas, -, -, h0, h1⟩ := State.injResult_keeps true s
    exact ⟨_, by simp only [exec, execMemoryReadRetry, hread, if_true], hstate, hnone, hmem, hsrc, h0, h1, hbeat, hmeas⟩
  case memOk =>
    intro s m w hwhole hread
    generalize hu : State.tally (24 + memIx m) 1
      { s with mem := { s.mem with transient := s.mem.transient.modify (memIx m) (· + 1) } } = u
    refine ⟨u.raiseTransient (9 + memIx m) 0, by subst hu; simp [exec, execMemoryReadRetry, hread], ?_⟩
    have hlt := memSource_lt m (s := u) (hu ▸ hwhole)
    obtain ⟨h0, h1⟩ := State.raiseAt_journal .transient true (9 + memIx m) 0 u.evBeat u
    exact ⟨(State.raiseTransient_mem ..).trans (hu ▸ rfl), (State.raiseTransient_fs hlt 0).1, h0.trans (hu ▸ rfl), h1.trans (hu ▸ rfl),
      (State.raiseTransient_beat ..).trans (hu ▸ rfl), (State.raiseTransient_meas ..).trans (hu ▸ rfl)⟩
  case memFailed =>
    intro s m w hwhole hread
    obtain ⟨hmem, h0, h1, hbeat, hmeas⟩ := State.poison_keeps m w s
    obtain ⟨hlatch, hpres⟩ := s.poison_fs m w hwhole
    refine ⟨s.poison m w, by simp [exec, execMemoryReadRetry, hread], ?_⟩
    rw [hmem]
    refine ⟨?_, fun p => ?_, fun x hx => ?_, rfl, h0, h1, hlatch, hpres, hbeat, hmeas⟩
    · split
      · next h => exact List.contains_iff_mem.1 h
      · simp
    · by_cases hp : p ∈ s.mem.errors <;> simp [hp]
    · split <;> simp [hx]

end Sys2Proof.Proofs
end

section
/-! PROOFS. The transmit objects of the CAN ports. -/

namespace Sys2Proof.Machine

/-! Queueing (R435) -/

/-- Where sending is forbidden a queued frame is discarded, elsewhere it waits (R435). -/
def State.queuedAs (s : State) (p : CPort) (d : List Byte) (o : ObjS) : ObjS :=
  if s.canOn p && s.canMode p == 1 then o.queued d else { o with data := d, txs := .discarded, next := none }

/-- With CLK_BUS the frame enters its object (R435). -/
theorem State.queueObj_clocked {s : State} (h : s.xtalB = true) (p : CPort) (k : Nat) (d : List Byte) :
    s.queueObj p k d = s.setObj p k (s.queuedAs p (padTo (dlcLen (s.objDlc p k)) d)) := by
  have hif : ∀ o : ObjS, s.queuedAs p (padTo (dlcLen (s.objDlc p k)) d) o =
      if !s.canOn p || s.canMode p != 1 then { o with data := padTo (dlcLen (s.objDlc p k)) d, txs := .discarded, next := none }
      else o.queued (padTo (dlcLen (s.objDlc p k)) d) := by
    intro o
    unfold State.queuedAs
    cases s.canOn p
    · rfl
    · by_cases hm : s.canMode p = 1 <;> simp [hm]
  simp only [State.queueObj, h, Bool.not_true, Bool.false_eq_true, if_false]
  exact congrArg (s.setObj p k) (funext fun o => (hif o).symm)

/-- Without it the frame waits in XS_AC (R26). -/
theorem State.queueObj_unclocked {s : State} (h : s.xtalB = false) (p : CPort) (k : Nat) (d : List Byte) :
    s.queueObj p k d = s.acPush p := by
  simp [State.queueObj, h]

/-- A frame that has not started is replaced. -/
theorem ObjS.queued_replaces {o : ObjS} (ht : o.txs = .pending) (hn : o.next = none) (d : List Byte) :
    o.queued d = { o with data := d, drop := incSat 255 o.drop } := by
  simp [ObjS.queued, ht, hn]

/-- A frame waits behind one that has started, and replaces the one that waited there. -/
theorem ObjS.queued_behind {o : ObjS} (h : o.txs = .onBus ∨ (o.txs = .pending ∧ o.next.isSome = true)) (d : List Byte) :
    o.queued d = { o with next := some d, drop := if o.next.isSome then incSat 255 o.drop else o.drop } := by
  rcases h with ht | ⟨ht, hn⟩
  · cases hn : o.next <;> simp [ObjS.queued, ht, hn]
  · obtain ⟨x, hx⟩ := Option.isSome_iff_exists.1 hn
    simp [ObjS.queued, ht, hx]

/-- An idle object's frame becomes pending. -/
theorem ObjS.queued_fresh {o : ObjS} (hp : o.txs ≠ .pending) (hb : o.txs ≠ .onBus) (d : List Byte) :
    o.queued d = { o with data := d, txs := .pending, cancel := false } := by
  unfold ObjS.queued
  split <;> simp_all

/-- The object's due entry is taken from the list. -/
def CanS.dueTaken (k : Nat) (c : CanS) : CanS := { c with due := c.due.filter fun y => y.1 != k }

theorem State.queueDue_some {s : State} {p : CPort} {k : Nat} {d : List Byte}
    (h : (s.can p).due.find? (fun y => y.1 == k) = some (k, d)) :
    s.queueDue p k = (s.setCan p (CanS.dueTaken k)).queueObj p k (s.dueData p k d) := by
  simp only [State.queueDue, h]
  rfl

/-- With CLK_BUS a due object takes its data at the boundary (R435). -/
theorem exec_canPeriodicQueue_clocked {s : State} {p : CPort} {k : Fin 128} {d : List Byte}
    (hdue : (s.can p).due.find? (fun y => y.1 == k.val) = some (k.val, d)) (hx : s.xtalB = true) :
    exec (.canPeriodicQueue p k) s = .next ((s.setCan p (CanS.dueTaken k)).setObj p k
      ((s.setCan p (CanS.dueTaken k)).queuedAs p (padTo (dlcLen (s.objDlc p k)) (s.dueData p k d)))) := by
  have hq := State.queueDue_some hdue
  rw [State.queueObj_clocked (s := s.setCan p (CanS.dueTaken k)) hx] at hq
  exact congrArg Host.Outcome.next hq

/-- XS_AC takes a frame while fewer than 32 of the port wait in it, and drops it with FS72 then (R26, R27). -/
theorem State.acPush_cases (p : CPort) (s : State) :
    ((s.can p).ac < 32 ∧ s.acPush p = s.setCan p fun c => { c with ac := c.ac + 1 }) ∨
    (32 ≤ (s.can p).ac ∧ s.acPush p = s.raise 72 0) := by
  unfold State.acPush
  split
  · exact .inl ⟨‹_›, rfl⟩
  · exact .inr ⟨by omega, rfl⟩

/-! The end of a frame (R432, R435, R436) -/

/-- A frame that ends leaves its object either for good or pending: never on the bus. -/
theorem ObjS.leave_cases (o : ObjS) (t : Txs) :
    (o.leave t).cancel = false ∧ (o.leave t).next = none ∧ (o.leave t).cnt = o.cnt ∧
    (∀ d, o.next = some d → (o.leave t).txs = .pending ∧ (o.leave t).data = d) ∧
    (o.next = none → (o.leave t).data = o.data ∧ (o.leave t).txs = t) := by
  unfold ObjS.leave
  cases o.next <;> simp

theorem ObjS.leave_not_onBus {t : Txs} (ht : t ≠ .onBus) (o : ObjS) : (o.leave t).txs ≠ .onBus := by
  unfold ObjS.leave
  cases o.next <;> simp [ht]

/-- An ended frame is no longer on the bus. -/
theorem ObjS.ended_not_onBus (o : ObjS) (how : BusEnd) (once : Bool) (beat : Word) (ofs : BitVec 16) :
    (o.ended how once beat ofs).txs ≠ .onBus := by
  have fails (t : Txs) (ht : t ≠ .onBus) :
      (if o.cancel || once then o.leave t else { o with txs := .pending } : ObjS).txs ≠ .onBus := by
    split
    · exact ObjS.leave_not_onBus ht o
    · simp
  cases how with
  | complete => exact ObjS.leave_not_onBus (by split <;> simp) o
  | lostArbitration => exact fails .cancelled (by simp)
  | error code dp => exact fails .error (by simp)

theorem ObjS.offBus_of_ne {o : ObjS} (h : o.txs ≠ .onBus) : o.offBus = o := by
  simp [ObjS.offBus, h]

/-- A frame end writes neither the objects nor the state of the controller by itself. -/
theorem CanS.ended_keeps (c : CanS) (how : BusEnd) (fast : Bool) (dly : Nat) :
    (c.ended how fast dly).obj = c.obj ∧ (c.ended how fast dly).state = c.state := by
  cases how <;> exact ⟨rfl, rfl⟩

/-- A live port takes part in traffic in one of two states. -/
theorem State.canLive_state {s : State} {p : CPort} (h : s.canLive p = true) :
    (s.can p).state = .active ∨ (s.can p).state = .passive := by
  simp only [State.canLive, Bool.and_eq_true, Bool.or_eq_true, beq_iff_eq] at h
  exact h.1.1

/-- Taking part needs nothing but the port's state, CLK_BUS and that no reset holds the port. -/
theorem State.canLive_of_state {s t : State} {p : CPort} (hs : (t.can p).state = (s.can p).state) (hx : t.xtalB = s.xtalB)
    (hf : t.flt = s.flt) : t.canLive p = s.canLive p := by
  rw [State.canLive, hs, hx, hf, State.canLive]

/-- The object ended and the port's registers written, the port follows its counters (R435, R436, R439). -/
theorem State.follow_ended {s t : State} {p : CPort} {k : Nat} {o : ObjS} (ht : t = { s with sys := t.sys })
    (ho : (s.can p).obj[k]? = some o) (hlive : s.canLive p = true) (how : BusEnd) (once fast : Bool) (beat : Word) (ofs : BitVec 16)
    (dly : Nat) (v : State)
    (hv : v = ((t.setObj p k fun o => o.ended how once beat ofs).setCan p fun c => c.ended how fast dly).canFollow p) :
    v.can p = CanS.followed { (s.can p).ended how fast dly with obj := (s.can p).obj.set k (o.ended how once beat ofs) } ∧
    (∀ q, q ≠ p → v.can q = s.can q) ∧ v.beat = s.beat ∧ v.cha = s.cha ∧ v.chb = s.chb ∧ v.meas = s.meas := by
  have htcan (q : CPort) : t.can q = s.can q := by rw [ht]; cases q <;> rfl
  have hport : ((t.setObj p k fun o => o.ended how once beat ofs).setCan p fun c => c.ended how fast dly).can p =
      { (s.can p).ended how fast dly with obj := (s.can p).obj.set k (o.ended how once beat ofs) } := by
    rw [State.setCan_can, State.setObj, State.setCan_can, htcan, ← modify_eq_set ho fun o => o.ended how once beat ofs]
    cases how <;> rfl
  obtain ⟨-, hstate⟩ := CanS.ended_keeps (s.can p) how fast dly
  have hlive' : ((t.setObj p k fun o => o.ended how once beat ofs).setCan p fun c => c.ended how fast dly).canLive p = true := by
    rw [State.canLive_of_state (s := s) (by rw [hport]; exact hstate) (by rw [ht]; rfl) (by rw [ht]; rfl), hlive]
  obtain ⟨hcan, hother, hbeat, hcha, hchb, hmeas⟩ := State.canFollow_keeps hlive'
  rw [hv, hcan, hport, hbeat, hcha, hchb, hmeas]
  refine ⟨rfl, fun q hq => ?_, ?_, ?_, ?_, ?_⟩
  · rw [hother q hq, State.setCan_can_ne hq, State.setObj, State.setCan_can_ne hq, htcan]
  all_goals rw [ht]; rfl

/-- A frame end leaves the object ended, and the port follows the counters that the end gives (R435, R436, R439). -/
theorem State.frameEnd_live {s : State} {p : CPort} {k : Nat} {o : ObjS} {seen how : BusEnd} {ofs : BitVec 16} {dly : Nat} {fast : Bool}
    (ho : (s.can p).obj[k]? = some o) (hlive : s.canLive p = true) (htxs : o.txs = .onBus ∨ o.txs = .pending)
    (hfast : fast = (s.objPar .FMT p k == 2 && s.on .TDC (portIx p))) (hhow : s.delayError p fast dly seen = how) :
    ∃ v, s.frameEnd p k seen ofs dly = v ∧ v.can p = CanS.followed { (s.can p).ended how fast dly with
      obj := (s.can p).obj.set k (o.ended how (s.on .ONESHOT (objIx p k) && s.objCont p k != 1) (s.txBeat ofs) ofs) } ∧
    (∀ q, q ≠ p → v.can q = s.can q) ∧ v.beat = s.beat ∧ v.cha = s.cha ∧ v.chb = s.chb ∧ v.meas = s.meas := by
  have hgo : (!s.canLive p || !((s.objAt p k).txs == .onBus || (s.objAt p k).txs == .pending)) = false := by
    rw [State.objAt_eq ho, hlive]
    rcases htxs with h | h <;> rw [h] <;> rfl
  refine ⟨_, rfl, ?_⟩
  simp only [State.frameEnd, hgo, ← hfast, hhow, Bool.false_eq_true, if_false]
  cases how <;> exact State.follow_ended rfl ho hlive _ _ _ _ _ _ _ rfl

/-- On its way into bus-off a controller keeps an object that is not on the bus (R440). -/
theorem CanS.followed_get {c : CanS} {k : Nat} {u : ObjS} (h : c.obj[k]? = some u) (hu : u.txs ≠ .onBus) :
    c.followed.obj[k]? = some u := by
  rw [CanS.followed_obj]
  split
  · rw [List.getElem?_map, h, Option.map_some, ObjS.offBus_of_ne hu]
  · exact h

/-- On no other way it touches any object. -/
theorem CanS.followed_obj_eq {c : CanS} (h : c.followed.state ≠ .recovery ∨ c.state = .recovery) : c.followed.obj = c.obj := by
  rw [CanS.followed_state] at h
  rw [CanS.followed_obj, if_neg (by tauto)]

/-- A frame that fails is offered again, unless it is cancelled or goes once (R435, R436). -/
theorem ObjS.ended_fails {o : ObjS} {how : BusEnd} (h : how ≠ .complete) (once : Bool) (beat : Word) (ofs : BitVec 16) :
    ∃ x, (o.ended how once beat ofs = if o.cancel || once then o.leave x else { o with txs := .pending }) ∧
      (how = .lostArbitration → x = .cancelled) ∧ (∀ code dp, how = .error code dp → x = .error) := by
  cases how with
  | complete => exact absurd rfl h
  | lostArbitration => exact ⟨.cancelled, rfl, fun _ => rfl, fun _ _ h => by cases h⟩
  | error code dp => exact ⟨.error, rfl, fun h => by (cases h), fun _ _ _ => rfl⟩

/-- A complete frame is sent, or late, and counts (R436). -/
theorem ObjS.ended_complete (o : ObjS) (once : Bool) (beat : Word) (ofs : BitVec 16) :
    o.ended .complete once beat ofs =
      { o.leave (if o.cancel then .late else .sent) with cnt := incSat 65535 o.cnt, beat := beat, ofs := ofs } := rfl

/-- An end that its loop delay does not spoil counts as it was seen (R432). -/
theorem State.delayError_of_ok {s : State} {p : CPort} {fast : Bool} {dly : Nat} {how : BusEnd}
    (h : how = .complete → fast = true → dly + s.nat .TDCO (portIx p) ≤ 127) : s.delayError p fast dly how = how := by
  unfold State.delayError
  rw [if_neg]
  intro hd
  simp only [Bool.and_eq_true, beq_iff_eq, decide_eq_true_eq] at hd
  obtain ⟨⟨hc, hf⟩, hlt⟩ := hd
  have := h hc hf
  omega

/-- A complete frame whose loop delay lies beyond 127 cycles has a bit error in its data phase (R432). -/
theorem State.delayError_spoiled {s : State} {p : CPort} {dly : Nat} (h : 127 < dly + s.nat .TDCO (portIx p)) :
    ∃ code : Fin 8, (code.val = 4 ∨ code.val = 5) ∧ s.delayError p true dly .complete = .error code true := by
  refine ⟨if Config.tdcBit (s.can p).errs then 4 else 5, ?_, by simp [State.delayError, h]⟩
  split
  · exact .inl rfl
  · exact .inr rfl

end Sys2Proof.Machine

namespace Sys2Proof.Proofs
open Sys2Proof.Machine

/-- Settles O42: queueing is `ObjS.queued` or XS_AC, a cancel one change of the object, and a frame end `ObjS.ended`, after which the port
follows its counters. -/
theorem transmitObjects : Obligations.TransmitObjects := by
  refine ⟨?queued, ?unclocked, ?notDue, ?sends, ?sendRefused, ?cancelRefused, ?cancels, ?ends, ?spoiled, ?notLive⟩
  case queued =>
    intro s p k d x o hdue ho hx hxdef
    have hdata : s.dueData p k d = if s.objCont p k = 3 then s.reqWithdraw.reqStart.ireqData
        else if s.objCont p k = 6 then bytesOf 1 ((s.can p).txCyc % 64) ++ [0, 0, 0]
        else if s.objCont p k = 7 then s.calData (s.can p).txCyc else d := by
      unfold State.dueData
      split
      all_goals simp_all [refData]
      rfl
    rw [← hdata] at hxdef
    subst hxdef
    rw [exec_canPeriodicQueue_clocked hdue hx]
    generalize hu : s.setCan p (CanS.dueTaken k) = u
    have hcan : u.can p = (s.can p).dueTaken k := by rw [← hu, State.setCan_can]
    have hon : u.canOn p = s.canOn p := by rw [State.canOn, hcan]; rfl
    have hmode : u.canMode p = s.canMode p := by rw [← hu]; rfl
    generalize hxd : padTo (Machine.dlcLen (s.objDlc p k)) (s.dueData p k d) = x
    obtain ⟨hk, hother⟩ := State.setObj_get (s := u) (by rw [hcan]; exact ho) (u.queuedAs p x)
    have hdue' : ((u.setObj p k (u.queuedAs p x)).can p).due = (s.can p).due.filter fun y => y.1 != k.val := by
      rw [State.setObj, State.setCan_can, hcan]; rfl
    refine ⟨_, rfl, hdue', ?_, ?_, ?_, ?_, fun j hj => ?_, ?_⟩
    · intro hoff
      rw [hk, State.queuedAs, hon, hmode, if_neg (by rcases hoff with h | h <;> simp [h])]
    · intro hc hm ht hn
      rw [hk, State.queuedAs, hon, hmode, if_pos (by simp [hc, hm]), ObjS.queued_replaces ht hn]
    · intro hc hm h
      rw [hk, State.queuedAs, hon, hmode, if_pos (by simp [hc, hm]), ObjS.queued_behind h]
    · intro hc hm hp hb
      rw [hk, State.queuedAs, hon, hmode, if_pos (by simp [hc, hm]), ObjS.queued_fresh hp hb]
    · rw [hother j hj, hcan]; rfl
    · rw [← hu, State.setObj, State.setCan_setCan]
      exact State.setCan_congr (by rw [State.setCan_can]; rfl)
  case unclocked =>
    intro s p k d hdue hx
    have hq := State.queueDue_some hdue
    rw [State.queueObj_unclocked (s := s.setCan p (CanS.dueTaken k)) hx] at hq
    refine ⟨_, congrArg Host.Outcome.next hq, ?_⟩
    generalize hu : s.setCan p (CanS.dueTaken k) = u
    have hcan : u.can p = (s.can p).dueTaken k := by rw [← hu, State.setCan_can]
    have hac : (u.can p).ac = (s.can p).ac := by rw [hcan]; rfl
    have hne (q : CPort) (h : q ≠ p) : u.can q = s.can q := by rw [← hu, State.setCan_can_ne h]
    rcases u.acPush_cases p with ⟨h, hp⟩ | ⟨h, hp⟩
    · rw [hp, State.setCan_can, hcan]
      refine ⟨rfl, rfl, fun _ => ⟨rfl, hu ▸ rfl⟩, fun hfull => by omega, fun q hq => ?_, hu ▸ rfl, hu ▸ rfl, hu ▸ rfl⟩
      rw [State.setCan_can_ne hq, hne q hq]
    · rw [hp, State.raise_can, hcan]
      refine ⟨rfl, rfl, fun hroom => by omega, fun _ => ⟨rfl, fun hwhole => ?_⟩, fun q hq => ?_, ?_, ?_, ?_⟩
      · have hlt : 72 < u.flt.src.length := by
          rw [← hu, State.setCan_flt, hwhole]
          decide
        exact (State.raise_fs hlt 0).1
      · rw [State.raise_can, hne q hq]
      all_goals simp [← hu]
  case notDue =>
    intro s p k h
    show Host.Outcome.next (s.queueDue p k) = _
    simp [State.queueDue, h]
  case sends =>
    intro s p k o ho htx hcont hp hb hfed hx
    have hgo : (s.plainFed && s.objTx p k && s.objCont p k == 0 && (s.objAt p k).txs != .pending && (s.objAt p k).txs != .onBus) =
        true := by
      rw [State.objAt_eq ho, hfed, htx, hcont]
      simp [hp, hb]
    show Host.Outcome.next (s.objSend p k) = _
    rw [State.objSend, if_pos hgo, State.objAt_eq ho, State.queueObj_clocked hx, State.setObj]
    refine congrArg Host.Outcome.next (State.setCan_congr ?_)
    rw [modify_eq_set ho, State.queuedAs, ObjS.queued_fresh hp hb]
  case sendRefused =>
    intro s p k key h
    by_cases hkey : key = 0xC3
    · have hno : (s.plainFed && s.objTx p k && s.objCont p k == 0 && (s.objAt p k).txs != .pending && (s.objAt p k).txs != .onBus) =
          false := by
        rcases h with h | h | h | h | h | h
        · exact absurd hkey h
        all_goals simp [h]
      have hsend : s.objSend p k = s := by rw [State.objSend, if_neg (by rw [hno]; decide)]
      simp only [exec, execObjSend, hsend, ite_self]
    · have hne : (key == 0xC3) = false := beq_eq_false_iff_ne.2 hkey
      simp only [exec, execObjSend, hne, Bool.false_eq_true, if_false]
  case cancelRefused =>
    intro s p k key h
    have hno : (key == 0xC3 && s.objTx p k) = false := by
      rcases h with h | h
      · rw [beq_eq_false_iff_ne.2 h, Bool.false_and]
      · rw [h, Bool.and_false]
    simp only [exec, execObjCancel, hno, Bool.false_eq_true, if_false]
  case cancels =>
    intro s p k o ho htx
    have hcancel : exec (.objCancel p k 0xC3) s = .next (s.objCancel p k) := by
      simp [exec, execObjCancel, htx]
    rw [hcancel, State.objCancel, State.setObj]
    refine ⟨fun ht => ?_, fun ht => ?_, fun hp hb => ?_⟩
    · refine congrArg Host.Outcome.next (State.setCan_congr ?_)
      rw [modify_eq_set ho, ht]
    · refine congrArg Host.Outcome.next (State.setCan_congr ?_)
      rw [modify_eq_set ho, ht]
    · refine congrArg Host.Outcome.next (State.setCan_self ?_)
      rw [modify_eq_self ho]
      split <;> simp_all
  case ends =>
    intro s p k o how ofs dly once fast ho hlive htxs honce hfast hok
    obtain ⟨v, hv, hcan, hother, hbeat, hcha, hchb, hmeas⟩ := State.frameEnd_live (ofs := ofs) ho hlive htxs hfast
      (State.delayError_of_ok hok)
    generalize hu : o.ended how (s.on .ONESHOT (objIx p k) && s.objCont p k != 1) (s.txBeat ofs) ofs = u at hcan
    generalize hc : ({ (s.can p).ended how fast dly with obj := (s.can p).obj.set k u } : CanS) = c at hcan
    have hget : c.obj[k.val]? = some u := by
      have hk := (List.getElem?_eq_some_iff.1 ho).1
      simp [← hc, hk]
    have hbus : u.txs ≠ .onBus := by rw [← hu]; exact o.ended_not_onBus how _ _ _
    obtain ⟨htx, hrx, herrs, hcode, hdata, htdc⟩ := c.followed_keeps
    refine ⟨v, u, congrArg Host.Outcome.next hv, ?_⟩
    rw [hcan]
    refine ⟨CanS.followed_get hget hbus, ?complete, ?failed, ?lost, ?error, ?state, ?others, hother, hbeat, hcha, hchb, hmeas⟩
    case complete =>
      rintro rfl
      obtain ⟨lcancel, lnext, -, lwait, lnone⟩ := o.leave_cases (if o.cancel then .late else .sent)
      rw [ObjS.ended_complete] at hu
      rw [htx, herrs, htdc, ← hc, ← hu]
      exact ⟨rfl, rfl, lcancel, lnext, rfl, lwait, lnone, rfl, rfl, rfl⟩
    case failed =>
      intro hne
      obtain ⟨x, hx, -⟩ := ObjS.ended_fails (o := o) hne (s.on .ONESHOT (objIx p k) && s.objCont p k != 1) (s.txBeat ofs) ofs
      obtain ⟨lcancel, lnext, lcnt, lwait, lnone⟩ := o.leave_cases x
      rw [hu, ← honce] at hx
      cases once with
      | false => exact ⟨by rw [hx]; rfl, fun _ => hx, fun h => absurd h (by decide)⟩
      | true =>
        rw [if_pos rfl] at hx
        rw [hx]
        exact ⟨lcnt, fun h => absurd h (by decide), fun _ => ⟨lcancel, lnext, lwait, fun hn => (lnone hn).1⟩⟩
    case lost =>
      rintro rfl
      obtain ⟨x, hx, hxl, -⟩ := ObjS.ended_fails (o := o) (how := .lostArbitration) (by simp)
        (s.on .ONESHOT (objIx p k) && s.objCont p k != 1) (s.txBeat ofs) ofs
      rw [hu, ← honce, hxl rfl] at hx
      rw [htx, herrs, htdc, ← hc]
      refine ⟨fun h hn => ?_, rfl, rfl, rfl⟩
      rw [hx, if_pos h]
      exact ((o.leave_cases _).2.2.2.2 hn).2
    case error =>
      rintro code dp rfl
      obtain ⟨x, hx, -, hxe⟩ := ObjS.ended_fails (o := o) (how := .error code dp) (by simp)
        (s.on .ONESHOT (objIx p k) && s.objCont p k != 1) (s.txBeat ofs) ofs
      rw [hu, ← honce, hxe code dp rfl] at hx
      rw [htx, herrs, hcode, hdata, htdc, ← hc]
      refine ⟨fun h hn => ?_, fun hack => ?_, rfl, rfl, rfl, ?_⟩
      · rw [hx, if_pos h]
        exact ((o.leave_cases _).2.2.2.2 hn).2
      · have hno : (s.can p).ackPassive code = false := by
          rcases hack with h | h <;> simp [CanS.ackPassive, h]
        simp [CanS.ended, hno]
      · simp [CanS.ended]
    case state => rw [CanS.followed_state, CanS.errState, htx, hrx]
    case others =>
      intro hrec j hj
      have hstate : c.state = (s.can p).state := by rw [← hc]; exact (CanS.ended_keeps ..).2
      rw [CanS.followed_obj_eq (hstate ▸ hrec), ← hc]
      exact List.getElem?_set_ne hj.symm
  case spoiled =>
    intro s p k o ofs dly ho hlive htxs hcancel hshot hfmt htdc hlong htx
    obtain ⟨code, hcode, hhow⟩ := State.delayError_spoiled (s := s) hlong
    obtain ⟨v, hv, hcan, -⟩ := State.frameEnd_live (ofs := ofs) (fast := true) ho hlive (.inl htxs) (by simp [hfmt, htdc]) hhow
    have hu : o.ended (.error code true) (s.on .ONESHOT (objIx p k) && s.objCont p k != 1) (s.txBeat ofs) ofs =
        { o with txs := .pending } := by
      simp [ObjS.ended, hcancel, hshot]
    rw [hu] at hcan
    generalize hc : ({ (s.can p).ended (.error code true) true dly with obj := (s.can p).obj.set k { o with txs := .pending } } : CanS) =
      c at hcan
    have hget : c.obj[k.val]? = some { o with txs := .pending } := by
      have hk := (List.getElem?_eq_some_iff.1 ho).1
      simp [← hc, hk]
    obtain ⟨ktx, -, kerrs, kcode, kdata, -⟩ := c.followed_keeps
    have hno : (s.can p).ackPassive code = false := by
      have h3 : code ≠ 3 := by rintro rfl; simp at hcode
      simp [CanS.ackPassive, h3]
    refine ⟨v, congrArg Host.Outcome.next hv, ?_⟩
    rw [hcan, ktx, kerrs, kcode, kdata]
    refine ⟨CanS.followed_get hget (by simp), ?_, ?_, ?_, ?_⟩ <;> rw [← hc]
    · rfl
    · simp [CanS.ended, hno]
      omega
    · rfl
    · exact hcode
  case notLive =>
    intro s p k how ofs dly h
    simp [exec, execCanFrameEnd, State.frameEnd, h]

end Sys2Proof.Proofs
end

section
/-! PROOFS. The CAN ports: error states and bus-off, the wake decoders, time triggering and the calendar messages. -/

namespace Sys2Proof.Machine

/-- The registers after an error that is not an own frame's (R439, R451). -/
def CanS.erred (tec rxc : Nat) (err : Option (Fin 8 × Bool)) (c : CanS) : CanS :=
  let d := { c with txErr := min 256 tec, rxErr := min 255 rxc }
  match err with
  | some e => { d with errs := incSat 65535 c.errs, lecCode := e.1.val, lecData := e.2 }
  | none => d

theorem CanS.erred_keeps (tec rxc : Nat) (err : Option (Fin 8 × Bool)) (c : CanS) :
    (c.erred tec rxc err).state = c.state ∧ (c.erred tec rxc err).obj = c.obj ∧ (c.erred tec rxc err).pasv = c.pasv ∧
    (c.erred tec rxc err).boff = c.boff ∧ (c.erred tec rxc err).txErr = min 256 tec ∧ (c.erred tec rxc err).rxErr = min 255 rxc := by
  cases err <;> exact ⟨rfl, rfl, rfl, rfl, rfl, rfl⟩

/-- A live port takes the counters, and follows them (R439). -/
theorem exec_canErrorState_live {s : State} {p : CPort} (h : s.canLive p = true) (tec rxc : Nat) (err : Option (Fin 8 × Bool)) :
    ∃ u : State, exec (.canErrorState p tec rxc err) s = .next (u.canFollow p) ∧ u.canLive p = true ∧
      u.can p = (s.can p).erred tec rxc err ∧ (∀ q, q ≠ p → u.can q = s.can q) ∧ u = { s with can1 := u.can1, can2 := u.can2 } := by
  refine ⟨s.setCan p (CanS.erred tec rxc err), ?_, ?_, State.setCan_can .., fun q hq => State.setCan_can_ne hq .., rfl⟩
  · show Host.Outcome.next (s.canError p tec rxc err) = _
    simp only [State.canError, h, Bool.not_true, Bool.false_eq_true, if_false]
    rfl
  · exact (State.canLive_of_state (s := s) (t := s.setCan p (CanS.erred tec rxc err)) (by rw [State.setCan_can]; exact (CanS.erred_keeps ..).1) rfl rfl).trans h

/-- A port that takes no part in traffic meets no error. -/
theorem exec_canErrorState_idle {s : State} {p : CPort} (h : s.canLive p = false) (tec rxc : Nat) (err : Option (Fin 8 × Bool)) :
    exec (.canErrorState p tec rxc err) s = .next s := by
  show Host.Outcome.next (s.canError p tec rxc err) = _
  simp only [State.canError, h, Bool.not_false, if_true]

/-- The port's source is raised on the way into error passive and bus-off, and ends on the way back (R439). -/
theorem State.canFollow_source {s : State} {p : CPort} (h : s.canLive p = true) (hne : (s.can p).errState ≠ (s.can p).state) :
    (s.srcWhole → (s.can p).errState ≠ .active →
      ((s.canFollow p).fs (canFs p)).latch = true ∧ ((s.canFollow p).fs (canFs p)).cond = true) ∧
    ((s.can p).errState = .active → ((s.canFollow p).fs (canFs p)).cond = false) := by
  rcases State.canFollow_cases h with ⟨hs, -⟩ | ⟨-, hact, heq⟩ | ⟨-, hact, heq⟩
  · exact absurd hs hne
  · refine ⟨fun hwhole _ => ?_, fun ha => absurd ha hact⟩
    rw [heq]
    exact State.raiseCond_fs (s := s.setCan p CanS.followed) (canFs_lt p hwhole) 0
  · refine ⟨fun _ ha => absurd hact ha, fun _ => ?_⟩
    rw [heq, State.endCond_fs]

/-- On the way back to error active only the port and its source change (R439). -/
theorem State.canFollow_active {s : State} {p : CPort} (h : s.canLive p = true) (hact : (s.can p).errState = .active) :
    s.canFollow p = { s with can1 := (s.canFollow p).can1, can2 := (s.canFollow p).can2, flt := (s.canFollow p).flt } := by
  rcases State.canFollow_cases h with ⟨-, heq⟩ | ⟨-, hno, -⟩ | ⟨-, -, heq⟩
  · rw [heq]
  · exact absurd hact hno
  · rw [heq]
    rfl

/-- An error that is not an own frame's leaves the port with the error code of what was detected (R451). -/
theorem CanS.erred_code (tec rxc : Nat) (err : Option (Fin 8 × Bool)) (c : CanS) :
    (c.erred tec rxc err).errs = (if err.isSome then incSat 65535 c.errs else c.errs) ∧
    (c.erred tec rxc err).lecCode = (match err with | some e => e.1.val | none => c.lecCode) ∧
    (c.erred tec rxc err).lecData = (match err with | some e => e.2 | none => c.lecData) := by
  cases err <;> exact ⟨rfl, rfl, rfl⟩

/-! The wake decoders (R442) -/

theorem exec_canWakeOf (p : CPort) (x : WakeSeen) (s : State) : exec (canWakeOf p x) s = .next (s.canWake p x) := by
  cases x <;> rfl

/-- Outside Listen the wake decoder meets nothing (R442). -/
theorem State.canWake_awake {s : State} (h : s.pwr.state ≠ .listen) (p : CPort) (x : WakeSeen) : s.canWake p x = s := by
  simp [State.canWake, h]

theorem State.canWakes_awake {s : State} (h : s.pwr.state ≠ .listen) (p : CPort) (l : List WakeSeen) :
    l.foldl (fun t x => t.canWake p x) s = s := by
  induction l with
  | nil => rfl
  | cons x l ih => rw [List.foldl_cons, State.canWake_awake h, ih]

/-- The wake source of a port (R497). -/
def canWakeSource (p : CPort) : BitVec 7 := if p = .can1 then 0x20 else 0x40

/-- A port is a wake source of Listen, whatever the alarm (R497). -/
theorem State.wakeSources_can (s : State) (p : CPort) : s.wakeSources false (canWakeSource p) = canWakeSource p := by
  unfold State.wakeSources
  split <;> cases p <;> decide

/-- The port with what its wake decoder has met (R442). -/
def State.wakeMet (p : CPort) (n : Nat) (c : BitVec 3) (s : State) : State :=
  s.setCan p fun x => { x with wakeErrs := n, wakeCause := c }

/-- The start from a wake of a port (R497). -/
def State.wokenBy (p : CPort) (s : State) : State :=
  s.setPwr fun q => { q with
    state := .start 2, cause := 8, wakeLatch := 0, wakeCause := q.wakeLatch ||| canWakeSource p, wakes := incSat 65535 q.wakes }

/-- An enabled port wakes the module from Listen when VS allows it (R497). -/
theorem State.wake_can {s : State} {p : CPort} (hl : s.pwr.state = .listen) (hen : canWakeSource p &&& s.pwr.wakeEn ≠ 0)
    (hgood : s.pwr.vsGood = true) : s.wake (canWakeSource p) = s.wokenBy p := by
  have hsrc : s.wakeSources (s.pwr.state == .dormant) (canWakeSource p) = canWakeSource p := by
    rw [hl]
    exact s.wakeSources_can p
  unfold State.wake
  dsimp only
  rw [hsrc, hl]
  dsimp only
  rw [if_neg hen, if_pos hgood, State.wakeStart, hl]
  rfl

/-- A wake in Listen with good supply starts the module and is recorded (R442, R497). -/
theorem State.canWake_wakes {s : State} {p : CPort} {x : WakeSeen} {m : Nat} {w : Wuf} (hl : s.pwr.state = .listen)
    (hm : s.pwr.canModes[portIx p - 1]? = some m) (hw : s.pwr.canWufs[portIx p - 1]? = some w) {n : Nat} {c : BitVec 3}
    (hn : wakeCount (s.can p).wakeErrs x = n) (hbits : canWakeBits m w n x = c) (hc : c ≠ 0)
    (hen : canWakeSource p &&& s.pwr.wakeEn ≠ 0) (hgood : s.pwr.vsGood = true) :
    s.canWake p x = (s.wakeMet p n c).wokenBy p := by
  simp only [State.canWake, hl, hm, hw, hn, hbits, Option.getD_some, bne_self_eq_false, Bool.false_eq_true, if_false]
  rw [if_pos ⟨hc, hen⟩, State.setCan_setCan]
  exact State.wake_can hl hen hgood

/-- What the wake decoder meets in Listen and does not take as a wake moves its error counter only (R442). -/
theorem State.canWake_counts {s : State} {p : CPort} {x : WakeSeen} (hl : s.pwr.state = .listen)
    (h : canWakeBits (s.pwr.canModes[portIx p - 1]?.getD 0) (s.pwr.canWufs[portIx p - 1]?.getD {}) (wakeCount (s.can p).wakeErrs x) x = 0 ∨
      canWakeSource p &&& s.pwr.wakeEn = 0) :
    s.canWake p x = s.setCan p fun c => { c with wakeErrs := wakeCount (s.can p).wakeErrs x } := by
  simp only [State.canWake, hl, bne_self_eq_false, Bool.false_eq_true, if_false]
  rw [if_neg (by rintro ⟨h1, h2⟩; rcases h with h | h; exacts [h1 h, h2 h])]

/-- Eight data bytes of two words, by their place (R9). -/
theorem wordBytes_append_getElem? (a b : Word) {i : Nat} (hi : i < 8) :
    (wordBytes a ++ wordBytes b)[i]? = some (BitVec.ofNat 8 ((if i < 4 then a else b).toNat / 256 ^ (3 - i % 4))) := by
  have h : i = 0 ∨ i = 1 ∨ i = 2 ∨ i = 3 ∨ i = 4 ∨ i = 5 ∨ i = 6 ∨ i = 7 := by omega
  rcases h with rfl | rfl | rfl | rfl | rfl | rfl | rfl | rfl <;> rfl

/-- An identifier matches under the mask's low 29 bits, bit by bit (R442). -/
theorem wufId_iff (w : Wuf) (f : CanFrame) : (w.id ^^^ f.id.setWidth 32) &&& w.idMask &&& 0x1FFFFFFF = 0 ↔
    ∀ i < 29, w.idMask.getLsbD i = true → f.id.getLsbD i = w.id.getLsbD i := by
  rw [BitVec.eq_of_getLsbD_eq_iff]
  have hmask (i : Nat) (hi : i < 32) : (0x1FFFFFFF : BitVec 32).getLsbD i = decide (i < 29) := by
    interval_cases i <;> rfl
  constructor
  · intro h i hi hm
    have := h i (by omega)
    rw [BitVec.getLsbD_and, BitVec.getLsbD_and, hmask i (by omega), hm] at this
    simp [hi, show i < 32 by omega] at this
    exact this.symm
  · intro h i hi
    rw [BitVec.getLsbD_and, BitVec.getLsbD_and, hmask i hi]
    by_cases hlt : i < 29
    · cases hm : w.idMask.getLsbD i
      · simp
      · simp [h i hlt hm, hi]
    · simp [hlt]

/-- What the wake-up frame is (R442). -/
theorem Wuf.hits_iff (w : Wuf) (f : CanFrame) : w.hits f = true ↔ f.fdf = false ∧ f.ide = w.id.getLsbD 31 ∧
    (∀ i < 29, w.idMask.getLsbD i = true → f.id.getLsbD i = w.id.getLsbD i) ∧ f.dlc.toNat = w.dlc ∧
    ∀ i < 8, w.dmask.testBit i = true → i < f.dlc.toNat →
      f.data[i]? = some (BitVec.ofNat 8 ((if i < 4 then w.d0 else w.d1).toNat / 256 ^ (3 - i % 4))) := by
  have hdata (i : Nat) (hi : i < 8) : (!(w.dmask.testBit i && decide (i < f.dlc.toNat)) ||
        f.data[i]? == (wordBytes w.d0 ++ wordBytes w.d1)[i]?) = true ↔
      (w.dmask.testBit i = true → i < f.dlc.toNat →
        f.data[i]? = some (BitVec.ofNat 8 ((if i < 4 then w.d0 else w.d1).toNat / 256 ^ (3 - i % 4)))) := by
    rw [wordBytes_append_getElem? _ _ hi, Bool.or_eq_true, beq_iff_eq, Bool.not_eq_true', Bool.and_eq_false_iff,
      decide_eq_false_iff_not]
    cases w.dmask.testBit i <;> simp [imp_iff_not_or]
  simp only [Wuf.hits, Bool.and_eq_true, wufId_iff, List.all_eq_true, List.mem_range, Bool.not_eq_true', beq_iff_eq, and_assoc]
  constructor
  · rintro ⟨h1, h2, h3, h4, h5⟩
    exact ⟨h1, h2, h3, h4, fun i hi => (hdata i hi).1 (h5 i hi)⟩
  · rintro ⟨h1, h2, h3, h4, h5⟩
    exact ⟨h1, h2, h3, h4, fun i hi => (hdata i hi).2 (h5 i hi)⟩

/-! Time-triggered operation -/

/-- The first position at which both p holds of the element and q of the position. -/
theorem positions_find? {α : Type} {p : α → Bool} {q : Nat → Bool} {l : List α} {k : Nat} {a : α} (hk : l[k]? = some a) (hp : p a = true)
    (hq : q k = true) (hfirst : ∀ j b, j < k → l[j]? = some b → p b = true → q j = false) : (positions p l).find? q = some k := by
  have h : (indexed l).find? (fun x => p x.2 && q x.1) = some (k, a) := by
    rw [List.find?_eq_some_iff_getElem]
    refine ⟨by simp [hp, hq], k, ?_, ?_, fun j hj => ?_⟩
    · rw [indexed_length]
      exact (List.getElem?_eq_some_iff.1 hk).1
    · obtain ⟨_, h⟩ := List.getElem_of_getElem? (l := indexed l) (i := k) (a := (k, a)) (by rw [indexed_getElem?, hk]; rfl)
      exact h
    · have hlt : j < (indexed l).length := by
        have := (List.getElem?_eq_some_iff.1 hk).1
        rw [indexed_length]
        omega
      have hj? : (indexed l)[j]? = some (indexed l)[j] := List.getElem?_eq_getElem hlt
      rw [indexed_getElem?, Option.map_eq_some_iff] at hj?
      obtain ⟨b, hb, heq⟩ := hj?
      rw [← heq]
      cases hpb : p b
      · simp
      · simp [hfirst j b hj hb hpb]
  have hboth : (fun x : Nat × α => decide (p x.2 = true ∧ (q ∘ fun x => x.1) x = true)) = fun x => p x.2 && q x.1 :=
    funext fun x => by rw [Function.comp_apply, Bool.decide_and, Bool.decide_eq_true, Bool.decide_eq_true]
  rw [positions, List.find?_map, List.find?_filter, hboth, h]
  rfl

/-- No frame is on the bus. -/
theorem CanS.busy_eq_false {c : CanS} (h : ∀ x ∈ c.obj, x.txs ≠ .onBus) : c.busy = false := by
  simpa [CanS.busy] using h

theorem CanS.busy_eq_true {c : CanS} (h : ∃ x ∈ c.obj, x.txs = .onBus) : c.busy = true := by
  simpa [CanS.busy] using h

/-- The reference that waits (R444). -/
theorem State.refWaits_eq {s : State} {p : CPort} {k : Nat} {o : ObjS} (hk : (s.can p).obj[k]? = some o) (hp : o.txs = .pending)
    (hc : s.objCont p k = 6)
    (hfirst : ∀ (j : Nat) (x : ObjS), j < k → (s.can p).obj[j]? = some x → x.txs = .pending → s.objCont p j ≠ 6) :
    s.refWaits p = some k :=
  positions_find? hk (by simp [hp]) (by simp [hc]) fun j b hj hb hpb => by
    simpa using hfirst j b hj hb (by simpa using hpb)

/-- An object of a port changed. -/
def CanS.withObj (k : Nat) (o : ObjS) (c : CanS) : CanS := { c with obj := c.obj.set k o }

theorem State.setObj_eq {s : State} {p : CPort} {k : Nat} {o : ObjS} (h : (s.can p).obj[k]? = some o) (f : ObjS → ObjS) :
    s.setObj p k f = s.setCan p (CanS.withObj k (f o)) :=
  State.setCan_congr (by rw [modify_eq_set h]; rfl)

/-- The frame that starts, and whether it tells of error passive (R427, R436). -/
theorem State.startFrame_eq {s : State} {p : CPort} {k : Nat} {o : ObjS} (h : (s.can p).obj[k]? = some o) :
    s.startFrame p k = s.setCan p (CanS.withObj k
      { o with txs := .onBus, esi := decide (1 ≤ s.objPar .FMT p k) && (s.can p).state == .passive }) :=
  State.setObj_eq h _

/-- The registers of the time master's port after its reference has started (R444). -/
def CanS.refStarted (k : Nat) (o : ObjS) (ext ofs : BitVec 16) (c : CanS) : CanS :=
  { c with ttState := 1, refExt := ext, refOfs := ofs, cyc := c.txCyc, obj := c.obj.set k o }

/-- The reference starts as a frame of its object (R444). -/
theorem State.refSend_starts {s : State} {mark k : Nat} {o : ObjS} (hsends : s.sendsRef s.ttPort = true)
    (hlive : s.canLive s.ttPort = true) (hidle : (s.can s.ttPort).busy = false) (hmark : s.nominalMark ≤ mark)
    (hw : s.refWaits s.ttPort = some k) (hk : (s.can s.ttPort).obj[k]? = some o) :
    s.refSend mark = s.setCan s.ttPort (CanS.refStarted k
      { o with
        data := refData (s.can s.ttPort).txCyc (BitVec.ofNat 16 (min 65535 (mark - s.nominalMark))), cancel := false, txs := .onBus
        esi := decide (1 ≤ s.objPar .FMT s.ttPort k) && (s.can s.ttPort).state == .passive }
      (BitVec.ofNat 16 (min 65535 (mark - s.nominalMark))) (BitVec.ofNat 16 (mark / 2))) := by
  have hnot : decide (mark < s.nominalMark) = false := by simp [hmark]
  simp only [State.refSend, hsends, hlive, hidle, hnot, hw, Bool.not_true, Bool.or_false, Bool.false_eq_true, if_false]
  generalize BitVec.ofNat 16 (min 65535 (mark - s.nominalMark)) = ext
  generalize ht : s.setCan s.ttPort (fun c => { c with ttState := 1, refExt := ext, refOfs := BitVec.ofNat 16 (mark / 2), cyc := c.txCyc }) = t
  have htk : (t.can s.ttPort).obj[k]? = some o := by rw [← ht, State.setCan_can]; exact hk
  have htstate : (t.can s.ttPort).state = (s.can s.ttPort).state := by rw [← ht, State.setCan_can]
  have htpar : t.objPar .FMT s.ttPort k = s.objPar .FMT s.ttPort k := by rw [← ht]; rfl
  rw [State.setObj_eq htk]
  generalize hu : t.setCan s.ttPort (CanS.withObj k { o with data := refData (s.can s.ttPort).txCyc ext, cancel := false }) = u
  have huk : (u.can s.ttPort).obj[k]? = some { o with data := refData (s.can s.ttPort).txCyc ext, cancel := false } := by
    rw [← hu, State.setCan_can]
    exact List.getElem?_set_self (List.getElem?_eq_some_iff.1 htk).1
  have hustate : (u.can s.ttPort).state = (t.can s.ttPort).state := by rw [← hu, State.setCan_can]; rfl
  have hupar : u.objPar .FMT s.ttPort k = t.objPar .FMT s.ttPort k := by rw [← hu]; rfl
  rw [State.startFrame_eq huk, hustate, hupar, htstate, htpar, ← hu, ← ht, State.setCan_setCan, State.setCan_setCan]
  exact State.setCan_congr (by simp [CanS.withObj, CanS.refStarted])

/-- A trim is at most 100 ppm, towards the bus time (R446). -/
theorem calTrimOf_bound (d : Int) : (calTrimOf d).natAbs ≤ 100 ∧ 0 ≤ calTrimOf d * d := by
  unfold calTrimOf
  generalize hm : min 100 (Config.calTrim d) = m
  constructor
  · rw [Int.natAbs_mul, Int.natAbs_natCast]
    have : d.sign.natAbs ≤ 1 := by rcases lt_trichotomy d 0 with h | h | h <;> simp [h, Int.sign_eq_neg_one_of_neg, Int.sign_eq_one_of_pos]
    exact (Nat.mul_le_mul this (hm ▸ min_le_left ..)).trans (by norm_num)
  · rw [mul_right_comm, Int.sign_mul_self_eq_natAbs]
    positivity

/-- What a valid reference notes of the beat (R445, R451). -/
theorem CanS.noteRef_keeps (c : CanS) (f : CanFrame) (lag : Int) :
    (c.noteRef f lag).refId = some f.id.toNat ∧ (c.noteRef f lag).cyc = refCycle f ∧ (c.noteRef f lag).refOfs = f.ofs ∧
    (c.noteRef f lag).refLag = lag ∧ (c.noteRef f lag).higher = c.higher ∧ (c.noteRef f lag).ttState = c.ttState :=
  ⟨rfl, rfl, rfl, rfl, rfl, rfl⟩

/-- The reference that counts in its beat reaches a slave (R85, R445). -/
theorem State.refReceive_slave {s : State} {f : CanFrame} (hrole : s.nat .TT_ROLE = 1) (hlive : s.canLive s.ttPort = true)
    (hok : s.refOk f = true) (hid : (s.can s.ttPort).refId.any (fun i => decide (i ≤ f.id.toNat)) = false) (iv : Nat) (dev : Int) :
    s.refReceive f iv dev =
      let t := s.setCan s.ttPort fun c => { c.noteRef f (s.targetLag f) with ttState := 3 }
      let n := ((iv : Int) + s.targetLag f - (s.can s.ttPort).lagPrev).toNat
      { t with beat := if s.ownBeat && s.beat.srcSel == 2 then
          s.beat.busReference (intervalOk n && (s.beat.lock != .locked || decide ((dev + s.targetLag f).natAbs ≤ 5000))) n
        else s.beat } := by
  simp only [State.refReceive, hrole, hlive, hok, hid, Bool.not_true, Bool.or_false, OfNat.one_ne_ofNat, decide_false,
    one_ne_zero, Bool.false_eq_true, if_false]
  rfl

/-- The reference that counts in its beat reaches a time master, who yields to a lower identifier than its own (R444). -/
theorem State.refReceive_master {s : State} {f : CanFrame} (hrole : s.nat .TT_ROLE = 2) (hlive : s.canLive s.ttPort = true)
    (hok : s.refOk f = true) (hid : (s.can s.ttPort).refId.any (fun i => decide (i ≤ f.id.toNat)) = false) (iv : Nat) (dev : Int) :
    s.refReceive f iv dev = if f.id.toNat < s.nat .REF_ID
      then s.setCan s.ttPort fun c => { c.noteRef f (s.targetLag f) with higher := true, higherMissed := 0, ttState := 2 }
      else s.setCan s.ttPort fun c => c.noteRef f (s.targetLag f) := by
  by_cases h : f.id.toNat < s.nat .REF_ID <;> simp [State.refReceive, hrole, hlive, hok, hid, h]

/-- What a yielded master keeps of its state while its reference is queued. -/
theorem State.queueObj_ttState (p : CPort) (k : Nat) (d : List Byte) (s : State) :
    ((s.queueObj p k d).can p).ttState = (s.can p).ttState ∧ ((s.queueObj p k d).can p).higherMissed = (s.can p).higherMissed := by
  cases hx : s.xtalB
  · rw [State.queueObj_unclocked hx]
    rcases s.acPush_cases p with ⟨-, h⟩ | ⟨-, h⟩ <;> rw [h]
    · rw [State.setCan_can]
      exact ⟨rfl, rfl⟩
    · rw [State.raise_can]
      exact ⟨rfl, rfl⟩
  · rw [State.queueObj_clocked hx, State.setObj, State.setCan_can]
    exact ⟨rfl, rfl⟩

/-- The port of a master that sends again (R444). -/
def CanS.ttAgain (c : CanS) : CanS := { c with ttState := 1, higherMissed := 0 }

theorem State.ttResume_idle {s : State} (h : s.txObjOf s.ttPort 6 = none) : s.ttResume = s.setCan s.ttPort CanS.ttAgain := by
  simp only [State.ttResume, h]
  rfl

/-- A reference is queued at once (R444). -/
theorem State.ttResume_sends {s : State} {k : Nat} (h : s.txObjOf s.ttPort 6 = some k) (hf : s.plainFed = true) :
    s.ttResume = (s.setCan s.ttPort CanS.ttAgain).queueObj s.ttPort k (refData (s.can s.ttPort).txCyc 0) := by
  simp only [State.ttResume, h, hf, if_true]
  rfl

/-- The master sends again, whatever it queues (R444). -/
theorem State.ttResume_state (s : State) : (s.ttResume.can s.ttPort).ttState = 1 ∧ (s.ttResume.can s.ttPort).higherMissed = 0 := by
  have hagain : ((s.setCan s.ttPort CanS.ttAgain).can s.ttPort).ttState = 1 ∧
      ((s.setCan s.ttPort CanS.ttAgain).can s.ttPort).higherMissed = 0 := by
    rw [State.setCan_can]
    exact ⟨rfl, rfl⟩
  cases h : s.txObjOf s.ttPort 6 with
  | none => rwa [State.ttResume_idle h]
  | some k =>
    cases hf : s.plainFed
    · have : s.ttResume = s.setCan s.ttPort CanS.ttAgain := by
        simp only [State.ttResume, h, hf, Bool.false_eq_true, if_false]
        rfl
      rwa [this]
    · rw [State.ttResume_sends h hf]
      obtain ⟨h1, h2⟩ := State.queueObj_ttState s.ttPort k (refData (s.can s.ttPort).txCyc 0) (s.setCan s.ttPort CanS.ttAgain)
      rwa [h1, h2]

/-- What the calendar takes from a calendar message (R446). -/
theorem State.calReceive_taken {s : State} {f : CanFrame} {sec frac : Nat} {d : Int} (hrole : s.nat .TT_ROLE = 1) (hen : s.on .CAL_EN = true)
    (hdlc : f.dlc = 8) (hvalid : (numAt f.data 7 1).testBit 0 = true) (hcyc : numAt f.data 6 1 ∈ (s.can s.ttPort).refCycs)
    (hd : d = ((numAt f.data 0 4 * 65536 + numAt f.data 4 2 : Nat) : Int) - ((sec * 65536 + frac : Nat) : Int)) :
    s.calReceive f sec frac =
      if s.nat .CAL_STEP * 65536 < 1000 * d.natAbs then
        let now : Int := ((s.log.calSec.toNat * 65536 + s.log.calFrac.toNat : Nat) : Int) + d
        s.setCalendar (nword (now / 65536).toNat) (BitVec.ofNat 16 (now % 65536).toNat) 2
      else s.trimCalendar d := by
  have hmem : (s.can s.ttPort).refCycs.contains (numAt f.data 6 1) = true := by simpa using hcyc
  simp only [State.calReceive, hrole, hen, hdlc, hvalid, hmem, bne_self_eq_false, Bool.not_true, Bool.or_false, Bool.false_eq_true, if_false,
    ← hd]

end Sys2Proof.Machine

namespace Sys2Proof.Proofs
open Sys2Proof.Machine

/-- Settles O44: a port follows its error counters and its wake decoder what it meets; the reference of the time master starts once on
an idle bus, the one with the lowest identifier counts, and a calendar message moves or trims the calendar. -/
theorem canPorts : Obligations.CanPorts := by
  refine ⟨?passive, ?busOff, ?active, ?detected, ?undetected, ?dead, ?sequences, ?rejoins, ?stays, ?wakes, ?awake, ?inOrder, ?notWaking, ?wuf,
    ?refStarts, ?refWaits, ?mark, ?slave, ?master, ?refRefused, ?resumes, ?lag, ?refOk, ?noResume, ?calendar, ?calRefused⟩
  case passive =>
    intro s p tec rxc e hlive htec hpass
    obtain ⟨u, hx, hl, hcan, hother, hframe⟩ := exec_canErrorState_live hlive tec rxc e
    obtain ⟨kcan, kother, kbeat, kcha, kchb, kmeas⟩ := State.canFollow_keeps hl
    obtain ⟨estate, eobj, epasv, -, etx, erx⟩ := CanS.erred_keeps tec rxc e (s.can p)
    rw [← hcan] at estate eobj epasv etx erx
    have herr : (u.can p).errState = .passive := by
      rw [CanS.errState, etx, erx, if_neg (by omega), if_pos (by omega)]
    obtain ⟨ktx, krx, -⟩ := (u.can p).followed_keeps
    refine ⟨_, hx, ?_⟩
    rw [kcan, kbeat, kcha, kchb, kmeas, CanS.followed_state, CanS.followed_obj_eq (.inl (by rw [CanS.followed_state, herr]; simp)), ktx,
      krx, etx, erx]
    refine ⟨herr, ?_, by omega, rfl, eobj, fun hwhole hne => ?_, fun q hq => (kother q hq).trans (hother q hq), by rw [hframe],
      by rw [hframe], by rw [hframe], by rw [hframe]⟩
    · rw [(u.can p).followed_counts.1, herr, estate, epasv]
      by_cases hp : (s.can p).state = .passive <;> simp [hp]
    · exact (State.canFollow_source hl (by rw [herr, estate]; exact fun h => hne h.symm)).1 (by rw [hframe]; exact hwhole) (by simp [herr])
  case busOff =>
    intro s p tec rxc e hlive htec
    obtain ⟨u, hx, hl, hcan, hother, hframe⟩ := exec_canErrorState_live hlive tec rxc e
    obtain ⟨kcan, kother, kbeat, kcha, kchb, kmeas⟩ := State.canFollow_keeps hl
    obtain ⟨estate, eobj, -, eboff, etx, -⟩ := CanS.erred_keeps tec rxc e (s.can p)
    rw [← hcan] at estate eobj eboff etx
    have herr : (u.can p).errState = .recovery := by rw [CanS.errState, etx, if_pos (by omega)]
    have hne : (u.can p).state ≠ .recovery := by rcases State.canLive_state hl with h | h <;> simp [h]
    obtain ⟨ktx, -⟩ := (u.can p).followed_keeps
    refine ⟨_, hx, ?_⟩
    rw [kcan, kbeat, kcha, kchb, kmeas, CanS.followed_state, ktx, etx, CanS.followed_obj, if_pos ⟨herr, hne⟩, eobj]
    refine ⟨herr, ?_, by omega, rfl, fun hwhole => ?_, fun q hq => (kother q hq).trans (hother q hq), by rw [hframe],
      by rw [hframe], by rw [hframe], by rw [hframe]⟩
    · rw [(u.can p).followed_counts.2, if_pos ⟨herr, hne⟩, eboff]
    · exact (State.canFollow_source hl (by rw [herr]; exact hne.symm)).1 (by rw [hframe]; exact hwhole) (by simp [herr])
  case active =>
    intro s p tec rxc e hlive htec hrxc
    obtain ⟨u, hx, hl, hcan, hother, hframe⟩ := exec_canErrorState_live hlive tec rxc e
    obtain ⟨kcan, kother, -⟩ := State.canFollow_keeps hl
    obtain ⟨estate, eobj, -, -, etx, erx⟩ := CanS.erred_keeps tec rxc e (s.can p)
    rw [← hcan] at estate eobj etx erx
    have herr : (u.can p).errState = .active := by
      rw [CanS.errState, etx, erx, if_neg (by omega), if_neg (by omega)]
    obtain ⟨ktx, krx, -⟩ := (u.can p).followed_keeps
    refine ⟨_, hx, ?_⟩
    rw [kcan, CanS.followed_state, CanS.followed_obj_eq (.inl (by rw [CanS.followed_state, herr]; simp)), ktx, krx, etx, erx]
    refine ⟨herr, by omega, by omega, eobj, fun hpass => ?_, fun q hq => (kother q hq).trans (hother q hq), ?_⟩
    · exact (State.canFollow_source hl (by rw [herr, estate, hpass]; simp)).2 herr
    · rw [State.canFollow_active hl herr, hframe]
  case detected =>
    intro s p tec rxc e dp hlive
    obtain ⟨u, hx, hl, hcan, -⟩ := exec_canErrorState_live hlive tec rxc (some (e, dp))
    obtain ⟨-, -, kerrs, kcode, kdata, -⟩ := (u.can p).followed_keeps
    refine ⟨_, hx, ?_⟩
    rw [(State.canFollow_keeps hl).1, kerrs, kcode, kdata, hcan]
    exact CanS.erred_code tec rxc (some (e, dp)) (s.can p)
  case undetected =>
    intro s p tec rxc hlive
    obtain ⟨u, hx, hl, hcan, -⟩ := exec_canErrorState_live hlive tec rxc none
    obtain ⟨-, -, kerrs, kcode, -⟩ := (u.can p).followed_keeps
    refine ⟨_, hx, ?_⟩
    rw [(State.canFollow_keeps hl).1, kerrs, kcode, hcan]
    exact ⟨rfl, rfl⟩
  case dead => exact fun s p tec rxc e h => exec_canErrorState_idle h tec rxc e
  case sequences =>
    intro s p h
    have hx (b : Bool) : exec (.busOffRecovery p b) s = .next (s.canRecover p b) := rfl
    rw [hx, hx]
    simp [State.canRecover, h]
  case rejoins =>
    intro s p b hs hrun hleft _
    have hx : s.canRecover p b = s.canRejoin p := by simp [State.canRecover, hs, hrun, hleft]
    refine ⟨s.canRejoin p, congrArg Host.Outcome.next hx, ?_⟩
    have hcan : (s.canRejoin p).can p = { s.can p with state := .active, txErr := 0, rxErr := 0, left := 0, holdRun := false } := by
      rw [State.canRejoin, State.endCond_can, State.setCan_can]
    rw [hcan]
    refine ⟨rfl, rfl, rfl, rfl, ?_, fun q hq => ?_, rfl⟩
    · exact congrArg FsSrc.cond (State.endCond_fs (canFs p) _)
    · rw [State.canRejoin, State.endCond_can, State.setCan_can_ne hq]
  case stays =>
    intro s p b hrec hhold
    show Host.Outcome.next (s.canRecover p b) = _
    cases hs : (s.can p).state with
    | recovery => exact absurd hs hrec
    | hold =>
      have hno : ((s.can p).holdRun && (s.can p).left == 0) = false := by
        rcases hhold with h | h | h
        · exact absurd hs h
        all_goals simp [h]
      simp [State.canRecover, hs, hno]
    | _ => simp [State.canRecover, hs]
  case wakes =>
    intro s p m w x n k hl hm hw hx hen hgood
    have hbits : wakeCount (s.can p).wakeErrs x = n ∧ canWakeBits m w n x = k ∧ k ≠ 0 := by
      rcases hx with ⟨rfl, h1, rfl, rfl⟩ | ⟨f, rfl, h0, h1, h2, rfl, rfl⟩ | ⟨rfl, h1, h2, rfl, rfl⟩
      · simp [wakeCount, canWakeBits, h1]
      · simp [wakeCount, canWakeBits, h0, h1, h2]
      · simp [wakeCount, canWakeBits, h1, h2]
    obtain ⟨hn, hk, hk0⟩ := hbits
    refine ⟨_, (exec_canWakeOf p x s).trans (congrArg _ (State.canWake_wakes hl hm hw hn hk hk0 hen hgood)), ?_⟩
    have hcan : ((s.wakeMet p n k).wokenBy p).can p = { s.can p with wakeErrs := n, wakeCause := k } := by cases p <;> rfl
    rw [hcan]
    exact ⟨rfl, rfl, rfl, rfl, rfl, rfl, by cases p <;> rfl⟩
  case awake => exact fun s p x h => (exec_canWakeOf p x s).trans (congrArg _ (State.canWake_awake h p x))
  case inOrder =>
    intro s p w b f
    refine ⟨_, _, _, rfl, rfl, rfl, ?_, fun h => ?_⟩
    · show Host.Outcome.next _ = Host.Outcome.next _
      simp [wakeSeen]
    · rw [State.canWakes_awake h, State.canWakes_awake h, State.canWakes_awake h]
  case notWaking =>
    intro s p x hl h
    rw [exec_canWakeOf, State.canWake_counts hl ?_]
    · refine congrArg Host.Outcome.next (State.setCan_congr ?_)
      cases x <;> rfl
    · rcases h with h | h | ⟨rfl, h⟩
      · exact .inr h
      · left
        cases x <;> simp [h, canWakeBits]
      · left
        have : ¬ 31 < min 32 ((s.can p).wakeErrs + 1) := by omega
        simp [canWakeBits, wakeCount, this]
  case wuf => exact Wuf.hits_iff
  case refStarts =>
    rintro s us cy _ k o rfl hrole hyield hlive hbus hmark hk hp hc hfirst
    have hsends : s.sendsRef s.ttPort = true := by simp [State.sendsRef, hrole, hyield]
    have hx := State.refSend_starts hsends hlive (CanS.busy_eq_false hbus) hmark (State.refWaits_eq hk hp hc hfirst) hk
    refine ⟨_, _, congrArg Host.Outcome.next hx, rfl, ?_⟩
    rw [State.setCan_can]
    refine ⟨rfl, rfl, rfl, rfl, rfl, fun q hq => State.setCan_can_ne hq .., rfl⟩
  case refWaits =>
    intro s us cy h
    refine congrArg Host.Outcome.next ?_
    rcases h with h | h | h | h | h
    · simp [State.refSend, State.sendsRef, h]
    · simp [State.refSend, State.sendsRef, h]
    · simp [State.refSend, h]
    · simp [State.refSend, h]
    · simp [State.refSend, CanS.busy_eq_true h]
  case mark => exact fun s => rfl
  case slave =>
    intro s f iv dev hrole hlive hok hid
    refine ⟨_, congrArg Host.Outcome.next (State.refReceive_slave hrole hlive hok hid iv dev), ?_⟩
    dsimp only
    generalize hu : (s.setCan s.ttPort fun c => { c.noteRef f (s.targetLag f) with ttState := 3 }) = u
    have hcan (b : BeatS) : ({ u with beat := b } : State).can s.ttPort = { (s.can s.ttPort).noteRef f (s.targetLag f) with ttState := 3 } := by
      have : u.can s.ttPort = { (s.can s.ttPort).noteRef f (s.targetLag f) with ttState := 3 } := by
        rw [← hu]
        exact State.setCan_can ..
      exact this
    have hother (b : BeatS) (q : CPort) (hq : q ≠ s.ttPort) : ({ u with beat := b } : State).can q = s.can q := by
      have : u.can q = s.can q := by rw [← hu]; exact State.setCan_can_ne hq ..
      exact this
    rw [hcan]
    refine ⟨rfl, rfl, rfl, rfl, rfl, fun n hown hsel hn => ?_, fun h => if_neg ?_, hother _, by rw [← hu]; rfl⟩
    · rw [if_pos (by simp [hown, hsel]), ← hn, Int.toNat_natCast]
    · rcases h with h | h
      · simp [h]
      · rw [beq_eq_false_iff_ne.2 h, Bool.and_false]
        exact Bool.false_ne_true
  case master =>
    intro s f iv dev hrole hlive hok hid
    refine ⟨_, congrArg Host.Outcome.next (State.refReceive_master hrole hlive hok hid iv dev), ?_⟩
    by_cases h : f.id.toNat < s.nat .REF_ID
    · rw [if_pos h, State.setCan_can]
      exact ⟨rfl, rfl, fun _ => ⟨rfl, rfl⟩, fun h' => absurd h (by omega), fun q hq => State.setCan_can_ne hq .., rfl⟩
    · rw [if_neg h, State.setCan_can]
      exact ⟨rfl, rfl, fun h' => absurd h' h, fun _ => ⟨rfl, rfl⟩, fun q hq => State.setCan_can_ne hq .., rfl⟩
  case refRefused =>
    intro s f iv dev h
    refine congrArg Host.Outcome.next ?_
    rcases h with h | h | h <;> simp [State.refReceive, h]
  case resumes =>
    intro s h2 h3
    have hdue : s.ttResumeDue = true := by simp [State.ttResumeDue, h2, h3]
    obtain ⟨hstate, hmissed⟩ := s.ttResume_state
    refine ⟨s.ttResume, congrArg Host.Outcome.next (if_pos hdue), hstate, hmissed, State.ttResume_idle, ?_⟩
    intro k o hk ho hfed hx hon hmode hp hb
    generalize hd : refData (s.can s.ttPort).txCyc 0 = d
    rw [State.ttResume_sends hk hfed, hd]
    generalize hu : s.setCan s.ttPort CanS.ttAgain = u
    have hcan : u.can s.ttPort = (s.can s.ttPort).ttAgain := by rw [← hu, State.setCan_can]
    have huo : (u.can s.ttPort).obj[k]? = some o := by rw [hcan]; exact ho
    have hclear : (u.canOn s.ttPort && u.canMode s.ttPort == 1) = true := by
      have : u.canMode s.ttPort = s.canMode s.ttPort := by rw [← hu]; rfl
      have hon' : u.canOn s.ttPort = s.canOn s.ttPort := by
        rw [State.canOn, hcan]
        rfl
      rw [this, hmode, hon', hon]
      rfl
    have hlen : u.objDlc s.ttPort k = s.objDlc s.ttPort k := by rw [← hu]; rfl
    rw [State.queueObj_clocked (by rw [← hu]; exact hx), State.setObj_eq huo, State.setCan_can, State.queuedAs, if_pos hclear,
      ObjS.queued_fresh hp hb, hlen, hcan, ← hd]
    rfl
  case lag =>
    intro s f
    unfold State.targetLag refExtOf
    by_cases hon : s.on .REF_EXT = true <;> by_cases h4 : 4 ≤ f.dlc.toNat <;> simp [hon, h4]
  case refOk =>
    intro s f
    simp only [State.refOk, Bool.and_eq_true, Bool.not_eq_true', beq_iff_eq, decide_eq_true_eq, Option.all_eq_true, and_assoc,
      refCycle]
  case noResume =>
    intro s h
    refine congrArg Host.Outcome.next (if_neg ?_)
    rcases h with h | h
    · simp [State.ttResumeDue, h]
    · simp [State.ttResumeDue, h]
  case calendar =>
    intro s f sec frac d x hrole hen hdlc hvalid hcyc hd hx hshown hrun
    have htaken := State.calReceive_taken hrole hen hdlc hvalid hcyc hd
    constructor
    · intro hstep
      refine congrArg Host.Outcome.next ?_
      rw [htaken, if_pos hstep]
      dsimp only
      rw [← hx]
      simp [State.setCalendar, State.event, hshown, hrun, nword]
    · intro hstep
      obtain ⟨h1, h2⟩ := calTrimOf_bound d
      refine ⟨_, congrArg Host.Outcome.next (htaken.trans (if_neg (by omega))), h1, h2⟩
  case calRefused =>
    intro s f sec frac h
    refine congrArg Host.Outcome.next ?_
    rcases h with h | h | h <;> simp [State.calReceive, h]

end Sys2Proof.Proofs
end

section
/-! PROOFS. Safe telegrams: the copies that are sent, the receipt and the judgement of a copy in each channel, command telegrams. -/

namespace Sys2Proof.Machine

/-! Sending (R340, R435) -/

/-- A due object's frame on a port that sends: the list loses its entry and the object takes the data (R435). -/
theorem State.queueDue_can {s : State} {p : CPort} {k : Nat} {d : List Byte} {o : ObjS}
    (hdue : (s.can p).due.find? (fun y => y.1 == k) = some (k, d)) (ho : (s.can p).obj[k]? = some o) (hx : s.xtalB = true)
    (hon : s.canOn p = true) (hmode : s.canMode p = 1) :
    s.queueDue p k = s.setCan p (CanS.withObj k (o.queued (padTo (dlcLen (s.objDlc p k)) (s.dueData p k d))) ∘ CanS.dueTaken k) := by
  rw [State.queueDue_some hdue]
  generalize hu : s.setCan p (CanS.dueTaken k) = u
  have hcan : u.can p = (s.can p).dueTaken k := by rw [← hu, State.setCan_can]
  have huo : (u.can p).obj[k]? = some o := by rw [hcan]; exact ho
  have hlen : u.objDlc p k = s.objDlc p k := by rw [← hu]; rfl
  have hsends : (u.canOn p && u.canMode p == 1) = true := by
    have hm : u.canMode p = s.canMode p := by rw [← hu]; rfl
    have ho : u.canOn p = s.canOn p := by
      rw [State.canOn, hcan]
      rfl
    rw [hm, ho, hon, hmode]
    rfl
  rw [State.queueObj_clocked (by rw [← hu]; exact hx), State.setObj_eq huo, State.queuedAs, if_pos hsends, hlen, ← hu, State.setCan_setCan]

theorem State.setCan_const (s : State) (p : CPort) (f : CanS → CanS) : s.setCan p f = s.setCan p fun _ => f (s.can p) :=
  State.setCan_congr rfl

/-- With CLK_BUS queueing reaches its port only (R435). -/
theorem State.queueDue_port {s : State} (hx : s.xtalB = true) (p : CPort) (k : Nat) : ∃ c, s.queueDue p k = s.setCan p fun _ => c := by
  cases h : (s.can p).due.find? (fun y => y.1 == k) with
  | none =>
    refine ⟨s.can p, ?_⟩
    rw [State.setCan_self rfl]
    simp only [State.queueDue, h]
  | some y =>
    obtain ⟨j, d⟩ := y
    have hj : j = k := by simpa using List.find?_some h
    subst hj
    rw [State.queueDue_some h, State.queueObj_clocked (s := s.setCan p (CanS.dueTaken j)) hx, State.setObj, State.setCan_setCan]
    exact ⟨_, State.setCan_const ..⟩

/-- So does queueing any number of objects of the port. -/
theorem State.queueDues_port (p : CPort) (l : List Nat) {s : State} (hx : s.xtalB = true) :
    ∃ c, runAll (State.queueDue p) l s = s.setCan p fun _ => c := by
  induction l generalizing s with
  | nil => exact ⟨s.can p, (State.setCan_self rfl).symm⟩
  | cons k l ih =>
    obtain ⟨c, hc⟩ := State.queueDue_port hx p k
    obtain ⟨e, he⟩ := ih (s := s.setCan p fun _ => c) hx
    refine ⟨e, ?_⟩
    rw [runAll, List.foldl_cons, hc]
    exact he.trans (State.setCan_setCan ..)

/-- A telegram takes the copy that was composed for it (R340). -/
theorem State.dueData_telegram {s : State} {p : CPort} {k : Nat} (h : s.objCont p k = 1) (d : List Byte) : s.dueData p k d = d := by
  simp [State.dueData, h]

/-- The objects of a port whose frame is due and carries send telegram n (R340). -/
def State.telObjects (s : State) (n : Nat) (p : CPort) : List Nat :=
  ((s.can p).due.map (·.1)).filter fun k => s.objCont p k == 1 && s.nat .TEL (objIx p k) == n

theorem State.telSend_eq (s : State) (n : Nat) : s.telSend n =
    runAll (State.queueDue .can2) (s.telObjects n .can2) (runAll (State.queueDue .can1) (s.telObjects n .can1) s) := rfl

/-- The copy of a port takes its object, whatever the other port sends (R340). -/
theorem State.telSend_can {s : State} {n k : Nat} {p : CPort} {d : List Byte} {o : ObjS} (hmine : s.telObjects n p = [k])
    (hdue : (s.can p).due.find? (fun y => y.1 == k) = some (k, d)) (ho : (s.can p).obj[k]? = some o) (hx : s.xtalB = true)
    (hon : s.canOn p = true) (hmode : s.canMode p = 1) :
    (s.telSend n).can p = ((s.can p).dueTaken k).withObj k (o.queued (padTo (dlcLen (s.objDlc p k)) d)) ∧
    s.telSend n = { s with can1 := (s.telSend n).can1, can2 := (s.telSend n).can2 } := by
  have hcont : s.objCont p k = 1 := by
    have : k ∈ s.telObjects n p := by simp [hmine]
    simp only [State.telObjects, List.mem_filter, Bool.and_eq_true, beq_iff_eq] at this
    exact this.2.1
  cases p with
  | can1 =>
    have hq := State.queueDue_can hdue ho hx hon hmode
    rw [State.dueData_telegram hcont] at hq
    obtain ⟨c, hc⟩ := State.queueDues_port .can2 (s.telObjects n .can2) (s := s.queueDue .can1 k) (by rw [hq]; exact hx)
    have heq : s.telSend n = (s.queueDue .can1 k).setCan .can2 fun _ => c := by
      rw [State.telSend_eq, hmine]
      exact hc
    rw [heq, hq]
    exact ⟨rfl, rfl⟩
  | can2 =>
    obtain ⟨c, hc⟩ := State.queueDues_port .can1 (s.telObjects n .can1) hx
    have hq := State.queueDue_can (s := s.setCan .can1 fun _ => c) (p := .can2) hdue ho hx hon hmode
    have heq : s.telSend n = (s.setCan .can1 fun _ => c).queueDue .can2 k := by
      rw [State.telSend_eq, hmine, hc]
      rfl
    rw [State.dueData_telegram (s := s.setCan .can1 fun _ => c) hcont] at hq
    rw [heq, hq]
    exact ⟨rfl, rfl⟩

/-! What a telegram leaves alone -/

/-- Beside the channels, the fault manager, the recorder and the host's reports nothing has changed that a telegram's check or
judgement reads. -/
def State.telSame (s t : State) : Prop :=
  t.beat = s.beat ∧ t.meas = s.meas ∧ t.safe = s.safe ∧ t.can1 = s.can1 ∧ t.can2 = s.can2 ∧ t.core = s.core ∧ t.xtalA = s.xtalA ∧
  t.xtalB = s.xtalB ∧ t.img = s.img

theorem State.telSame.trans {s t u : State} (h : s.telSame t) (g : t.telSame u) : s.telSame u := by
  obtain ⟨h1, h2, h3, h4, h5, h6, h7, h8, h9⟩ := h
  obtain ⟨g1, g2, g3, g4, g5, g6, g7, g8, g9⟩ := g
  exact ⟨g1.trans h1, g2.trans h2, g3.trans h3, g4.trans h4, g5.trans h5, g6.trans h6, g7.trans h7, g8.trans h8, g9.trans h9⟩

theorem State.telSame_setChan (s : State) (c : Ch) (f : ChanS → ChanS) : s.telSame (s.setChan c f) :=
  ⟨rfl, rfl, rfl, rfl, rfl, rfl, rfl, rfl, rfl⟩

theorem State.w1cNow_img (n : Nat) (s : State) : (s.w1cNow n).img = s.img := by
  unfold State.w1cNow
  split
  · dsimp only
    split <;> rfl
  · rfl

theorem State.react_img (r fs : Nat) (d : Word) (m : Bool) (s : State) : (s.react r fs d m).img = s.img := by
  simp only [State.react, State.img]
  split <;> rfl

theorem State.openReport_img (was : Bool) (fs kind : Nat) (b : Word) (s : State) : (s.openReport was fs kind b).img = s.img := by
  unfold State.openReport
  split <;> rfl

/-- A raise leaves the loaded image (R366, R370). -/
theorem State.raise_img (n : Nat) (d : Word) (s : State) : (s.raise n d).img = s.img := by
  simp only [State.raise, State.raiseAt, State.react_img, State.openReport_img]
  refine Eq.trans ?_ (State.w1cNow_img n s)
  simp only [State.img]
  split <;> split <;> rfl

theorem State.telSame_raise (n : Nat) (d : Word) (s : State) : s.telSame (s.raise n d) := by
  refine ⟨?_, ?_, ?_, ?_, ?_, ?_, ?_, ?_, State.raise_img n d s⟩ <;> simp

@[simp] theorem State.raise_chan (n : Nat) (d : Word) (s : State) (c : Ch) : (s.raise n d).chan c = s.chan c := by
  cases c <;> simp [State.chan]

@[simp] theorem State.setChan_chan (s : State) (c : Ch) (f : ChanS → ChanS) : (s.setChan c f).chan c = f (s.chan c) := by
  cases c <;> rfl

theorem State.setChan_chan_ne {c e : Ch} (h : e ≠ c) (s : State) (f : ChanS → ChanS) : (s.setChan c f).chan e = s.chan e := by
  cases c <;> cases e <;> first | rfl | exact absurd rfl h

/-! What the channels read of the rest of the state -/

section
variable {s t : State}

theorem State.nat_of_img (h : t.img = s.img) (p : Param) (i : Nat) : t.nat p i = s.nat p i := by
  rw [State.nat, h, State.nat]

theorem State.par_of_img (h : t.img = s.img) (p : Param) (i : Nat) : t.par p i = s.par p i := by
  rw [State.par, h, State.par]

/-- The checks, the count of RD copies and the judgement read the image and the number of the beat (R341, R342). -/
theorem State.telOk_of_img (h : t.img = s.img) (n : Nat) (x : TelRx) (l : List Byte) : t.telOk n x l = s.telOk n x l := by
  simp only [State.telOk, State.nat_of_img h, State.par_of_img h]

theorem State.rdOver_of_img (h : t.img = s.img) (x : TelRx) : t.rdOver x = s.rdOver x := by
  simp only [State.rdOver, State.nat_of_img h]

theorem State.telJudge_of_img (h : t.img = s.img) (hbeat : t.beat.num = s.beat.num) (c : ChanS) (n : Nat) (x : TelRx) :
    t.telJudge c n x = s.telJudge c n x := by
  simp only [State.telJudge, State.telEnter, State.telSingles, State.telOk_of_img h, State.rdOver_of_img h, State.nat_of_img h, hbeat]

theorem State.telSame.img (h : s.telSame t) : t.img = s.img := by
  obtain ⟨-, -, -, -, -, -, -, -, himg⟩ := h
  exact himg

theorem State.telSame.runs {c : Ch} (h : s.telSame t) (hc : t.chan c = s.chan c) : t.runs c = s.runs c := by
  obtain ⟨-, -, -, -, -, hcore, ha, hb, -⟩ := h
  simp only [State.runs, hc, hcore, ha, hb]

theorem State.telSame.evals {c : Ch} (h : s.telSame t) (hc : t.chan c = s.chan c) : t.evals c = s.evals c := by
  obtain ⟨hbeat, -, -, -, -, hcore, -⟩ := id h
  simp only [State.evals, State.works, State.debugHalted, h.runs hc, hbeat, hcore]

theorem State.telSame.telFits {c : Ch} (h : s.telSame t) (hc : t.chan c = s.chan c) (p : CPort) : t.telFits c p = s.telFits c p := by
  obtain ⟨-, -, -, h1, h2, -⟩ := h
  have hcan : t.can p = s.can p := by cases p <;> assumption
  simp only [State.telFits, hc, hcan]

end

/-! Receipt (R341) -/

theorem State.telPush_same (x : TelIn) (c : Ch) (s : State) : s.telSame (s.telPush x c) ∧ ∀ e, e ≠ c → (s.telPush x c).chan e = s.chan e := by
  rcases s.telPush_cases x c with ⟨-, h⟩ | ⟨-, -, h⟩ | ⟨-, -, h⟩ <;> rw [h]
  · exact ⟨⟨rfl, rfl, rfl, rfl, rfl, rfl, rfl, rfl, rfl⟩, fun _ _ => rfl⟩
  · exact ⟨State.telSame_setChan .., fun e he => State.setChan_chan_ne he ..⟩
  · exact ⟨State.telSame_raise .., fun e _ => State.raise_chan ..⟩

theorem State.telSame_refl (s : State) : s.telSame s := ⟨rfl, rfl, rfl, rfl, rfl, rfl, rfl, rfl, rfl⟩

/-- A copy that reaches a channel reaches nothing of the other (R341). -/
theorem State.telCheckIn_same (n : Nat) (x : TelIn) (c : Ch) (s : State) :
    s.telSame (s.telCheckIn n x c) ∧ ∀ e, e ≠ c → (s.telCheckIn n x c).chan e = s.chan e := by
  unfold State.telCheckIn
  split
  · exact ⟨s.telSame_refl, fun _ _ => rfl⟩
  · split
    · split
      · exact ⟨s.telSame_refl, fun _ _ => rfl⟩
      · exact State.telPush_same ..
    · exact ⟨State.telSame_setChan .., fun e he => State.setChan_chan_ne he ..⟩

/-- What the channel makes of a copy: one that passes the checks waits where there is room, another is counted (R27, R341). -/
theorem State.telCheckIn_own {s : State} {n : Nat} {i : TelIn} {c : Ch} {x : TelRx} (hruns : s.runs c = true)
    (hx : (s.chan c).tel[n]? = some x) :
    ((s.telCheckIn n i c).chan c).seq = (s.chan c).seq ∧
    (s.telOk n x i.bytes = true → ((s.telCheckIn n i c).chan c).tel = (s.chan c).tel ∧ ((s.telCheckIn n i c).chan c).telIn =
      if i ∈ (s.chan c).telIn ∨ s.telFits c i.port = false then (s.chan c).telIn else (s.chan c).telIn ++ [i]) ∧
    (s.telOk n x i.bytes = false → ((s.telCheckIn n i c).chan c).tel = (s.chan c).tel.set n { x with bad := incSat 65535 x.bad } ∧
      ((s.telCheckIn n i c).chan c).telIn = (s.chan c).telIn.erase i) := by
  have hget : (s.chan c).tel[n]?.getD {} = x := by rw [hx]; rfl
  cases hok : s.telOk n x i.bytes
  · have h : s.telCheckIn n i c = s.setChan c fun y =>
        { y with tel := y.tel.modify n fun z => { z with bad := incSat 65535 z.bad }, telIn := y.telIn.erase i } := by
      simp [State.telCheckIn, hruns, hget, hok]
    rw [h, State.setChan_chan]
    exact ⟨rfl, fun h => absurd h (by simp), fun _ => ⟨modify_eq_set hx _, rfl⟩⟩
  · by_cases hin : i ∈ (s.chan c).telIn
    · have h : s.telCheckIn n i c = s := by simp [State.telCheckIn, hruns, hget, hok, hin]
      rw [h, if_pos (.inl hin)]
      exact ⟨rfl, fun _ => ⟨rfl, rfl⟩, fun h => absurd h (by simp)⟩
    · have h : s.telCheckIn n i c = s.telPush i c := by simp [State.telCheckIn, hruns, hget, hok, hin]
      rw [h]
      rcases s.telPush_cases i c with ⟨hno, -⟩ | ⟨-, hfits, hp⟩ | ⟨-, hfull, hp⟩
      · exact absurd hruns (by simp [hno])
      · rw [hp, State.setChan_chan, if_neg (by simp [hin, hfits])]
        exact ⟨rfl, fun _ => ⟨rfl, rfl⟩, fun h => absurd h (by simp)⟩
      · rw [hp, State.raise_chan, if_pos (.inr hfull)]
        exact ⟨rfl, fun _ => ⟨rfl, rfl⟩, fun h => absurd h (by simp)⟩

/-! Judgement (R342) -/

/-- Up to its own stage a command of an evaluation finds nothing to make, and acts 850 µs on (R31; log entry 8). -/
theorem State.evalItem_at {s : State} {k : Nat} (h : s.evalAt k) (due : State → Bool) (op : State → State) :
    s.evalItem k due op = (s.at 850000).doIf due op := by
  obtain ⟨hon, hb, he⟩ := h
  have hsettle : s.settle = s := by simp [State.settle, State.atBoundary, hb]
  have hstages : ∀ (l : List Nat) (t : State), (∀ i ∈ l, i < k) → t.beat.eStage = k → runAll State.evalStage l t = t := by
    intro l
    induction l with
    | nil => exact fun _ _ _ => rfl
    | cons i l ih =>
      intro t hl ht
      have : t.evalStage i = t := by
        have := hl i (by simp)
        rw [State.evalStage, if_neg (by omega)]
      rw [runAll, List.foldl_cons, this]
      exact ih t (fun j hj => hl j (by simp [hj])) ht
  have hfrom : s.evalFrom k = s.at 850000 := hstages _ _ (by simp) he
  have hlt : (!s.evalOn || decide (k < s.beat.eStage)) = false := by simp [hon, he]
  rw [State.evalItem, if_neg (by rw [hlt]; exact Bool.false_ne_true), State.inBeat, hsettle, State.doIf, if_pos hon, hfrom]

/-- The channel after the judgement of telegram n: its entry of the beat table, and no copy of the beat waits (R342). -/
def ChanS.telTaken (n : Nat) (beat : Word) (r : TelRx) (c : ChanS) : ChanS :=
  { c with tel := c.tel.set n r, telIn := c.telIn.filter fun i => !(i.tel == n && i.beat == beat) }

/-- A judgement changes its channel, the performance counters, and through FS52 what a raise reaches (R342). -/
theorem State.telJudgeIn_eq {s : State} {n : Nat} {c : Ch} (hev : s.evals c = true) (hused : s.telUsed (64 + n) = true)
    (hnot : n ∉ s.safe.telJudged) : ∃ u : State, u = { s with sys := u.sys } ∧
      (s.telJudgeIn c n = u.setChan c (ChanS.telTaken n s.beat.num (s.telJudge (s.chan c) n ((s.chan c).tel[n]?.getD {})).1) ∨
       s.telJudgeIn c n =
         (u.setChan c (ChanS.telTaken n s.beat.num (s.telJudge (s.chan c) n ((s.chan c).tel[n]?.getD {})).1)).raise 52 0) := by
  have hgo : (!s.evals c || !s.telUsed (64 + n) || s.safe.telJudged.contains n) = false := by simp [hev, hused, hnot]
  unfold State.telJudgeIn
  rw [if_neg (by rw [hgo]; exact Bool.false_ne_true)]
  extract_lets c' x' r v w
  refine ⟨v, ?_, ?_⟩
  · simp only [v]
    split <;> rfl
  · have hw : w = v.setChan c (ChanS.telTaken n s.beat.num r.1) := by
      have : v.beat = s.beat := by
        simp only [v]
        split <;> rfl
      rw [← this]
      rfl
    rw [← hw]
    split
    · exact .inr rfl
    · exact .inl rfl

/-- A channel that judges nothing stays (R342). -/
theorem State.telJudgeIn_idle {s : State} {n : Nat} {c : Ch} (h : s.evals c = false ∨ s.telUsed (64 + n) = false ∨ n ∈ s.safe.telJudged) :
    s.telJudgeIn c n = s := by
  unfold State.telJudgeIn
  rw [if_pos (by rcases h with h | h | h <;> simp [h])]

/-- A channel's judgement reaches nothing of the other (R342). -/
theorem State.telJudgeIn_same (c : Ch) (n : Nat) (s : State) :
    s.telSame (s.telJudgeIn c n) ∧ ∀ e, e ≠ c → (s.telJudgeIn c n).chan e = s.chan e := by
  by_cases h : s.evals c = true ∧ s.telUsed (64 + n) = true ∧ n ∉ s.safe.telJudged
  · obtain ⟨hev, hused, hnot⟩ := h
    obtain ⟨u, hu, heq⟩ := State.telJudgeIn_eq hev hused hnot
    generalize s.telJudge (s.chan c) n ((s.chan c).tel[n]?.getD {}) = r at heq
    have hset : s.telSame (u.setChan c (ChanS.telTaken n s.beat.num r.1)) := by
      rw [hu]
      exact ⟨rfl, rfl, rfl, rfl, rfl, rfl, rfl, rfl, rfl⟩
    have hne : ∀ e, e ≠ c → (u.setChan c (ChanS.telTaken n s.beat.num r.1)).chan e = s.chan e := fun e he => by
      rw [State.setChan_chan_ne he, hu]
      cases e <;> rfl
    rcases heq with heq | heq <;> rw [heq]
    · exact ⟨hset, hne⟩
    · exact ⟨hset.trans (State.telSame_raise ..), fun e he => by rw [State.raise_chan, hne e he]⟩
  · rw [State.telJudgeIn_idle (by
      by_contra! hno
      exact h ⟨by simpa using hno.1, by simpa using hno.2.1, hno.2.2⟩)]
    exact ⟨s.telSame_refl, fun _ _ => rfl⟩

/-- What the channel's judgement makes of the telegram and its copies (R342). -/
theorem State.telJudgeIn_own {s : State} {n : Nat} {c : Ch} {x : TelRx} (hev : s.evals c = true) (hused : s.telUsed (64 + n) = true)
    (hnot : n ∉ s.safe.telJudged) (hx : (s.chan c).tel[n]? = some x) :
    (s.telJudgeIn c n).chan c = (s.chan c).telTaken n s.beat.num (s.telJudge (s.chan c) n x).1 := by
  obtain ⟨u, hu, heq⟩ := State.telJudgeIn_eq hev hused hnot
  have hget : (s.chan c).tel[n]?.getD {} = x := by rw [hx]; rfl
  have hchan : u.chan c = s.chan c := by
    rw [hu]
    cases c <;> rfl
  rw [hget] at heq
  rcases heq with heq | heq <;> rw [heq]
  · rw [State.setChan_chan, hchan]
  · rw [State.raise_chan, State.setChan_chan, hchan]

/-- Both channels judge the telegram, each on its own copies, and once a beat (R342). -/
theorem State.telJudged_own {s : State} {n : Nat} {c : Ch} {x : TelRx} (hev : s.evals c = true) (hused : s.telUsed (64 + n) = true)
    (hnot : n ∉ s.safe.telJudged) (hx : (s.chan c).tel[n]? = some x) :
    (s.telJudged n).chan c = (s.chan c).telTaken n s.beat.num (s.telJudge (s.chan c) n x).1 ∧
    (s.telJudged n).safe = { s.safe with telJudged := s.safe.telJudged ++ [n] } ∧ (s.telJudged n).meas = s.meas ∧
    (s.telJudged n).can1 = s.can1 ∧ (s.telJudged n).can2 = s.can2 := by
  obtain ⟨hsa, hca⟩ := s.telJudgeIn_same .a n
  generalize hu : s.telJudgeIn .a n = u at hsa hca
  obtain ⟨hsb, hcb⟩ := u.telJudgeIn_same .b n
  have hchan : (u.telJudgeIn .b n).chan c = (s.chan c).telTaken n s.beat.num (s.telJudge (s.chan c) n x).1 := by
    cases c with
    | a => rw [hcb .a (by simp), ← hu, State.telJudgeIn_own hev hused hnot hx]
    | b =>
      have hc := hca .b (by simp)
      obtain ⟨hbeat, -, hsafe, -⟩ := id hsa
      rw [State.telJudgeIn_own ((hsa.evals hc).trans hev) (by rw [State.telUsed, State.nat_of_img hsa.img]; exact hused) (by rwa [hsafe]) (by rwa [hc]),
        hc, State.telJudge_of_img hsa.img (by rw [hbeat]), hbeat]
  obtain ⟨-, hmeas, hsafe, h1, h2, -⟩ := hsa.trans hsb
  have heq : s.telJudged n = { u.telJudgeIn .b n with
      safe := { (u.telJudgeIn .b n).safe with telJudged := (u.telJudgeIn .b n).safe.telJudged ++ [n] } } := by
    rw [← hu]
    rfl
  rw [heq]
  generalize u.telJudgeIn .b n = v at hchan hmeas hsafe h1 h2
  refine ⟨?_, by rw [← hsafe], hmeas, h1, h2⟩
  rw [← hchan]
  cases c <;> rfl

/-- The timers of a telegram read the image only (R342). -/
theorem State.telTimers_of_img {s t : State} (h : t.img = s.img) : t.telTimers = s.telTimers := by
  funext x
  simp only [State.telTimers, State.rdOver_of_img h, State.nat_of_img h]

/-- The timers reach the channel only (R342). -/
theorem State.telTimeIn_channel (c : Ch) (n : Nat) (s : State) : ∃ f, s.telTimeIn c n = s.setChan c f := by
  unfold State.telTimeIn
  split
  · exact ⟨id, by cases c <;> rfl⟩
  · exact ⟨_, rfl⟩

theorem State.telTimeIn_eq {s : State} {c : Ch} {n : Nat} (hev : s.evals c = true) (hused : s.telUsed (64 + n) = true)
    (ht : n ∉ s.safe.telTimed) : s.telTimeIn c n = s.setChan c fun y => { y with tel := y.tel.modify n s.telTimers } := by
  unfold State.telTimeIn
  rw [if_neg (by simp [hev, hused, ht])]

/-- A telegram that has been judged is timed in each channel (R342). -/
theorem State.telTimed_judged {s : State} {n : Nat} {c : Ch} {x : TelRx} (hev : s.evals c = true) (hused : s.telUsed (64 + n) = true)
    (hj : n ∈ s.safe.telJudged) (ht : n ∉ s.safe.telTimed) (hx : (s.chan c).tel[n]? = some x) :
    (s.telTimed n).chan c = { s.chan c with tel := (s.chan c).tel.set n (s.telTimers x) } ∧
    n ∈ (s.telTimed n).safe.telTimed ∧ (s.telTimed n).meas = s.meas ∧ (s.telTimed n).can1 = s.can1 ∧ (s.telTimed n).can2 = s.can2 ∧
    (s.telTimed n).flt = s.flt := by
  generalize hv : ({ s with safe := { s.safe with telJudged := s.safe.telJudged ++ [n] } } : State) = v
  have hjudged : s.telJudged n = v := by
    rw [← hv, State.telJudged, State.telJudgeIn_idle (.inr (.inr hj)), State.telJudgeIn_idle (.inr (.inr hj))]
  have heq : s.telTimed n = { (v.telTimeIn .a n).telTimeIn .b n with
      safe := { ((v.telTimeIn .a n).telTimeIn .b n).safe with telTimed := ((v.telTimeIn .a n).telTimeIn .b n).safe.telTimed ++ [n] } } := by
    rw [← hjudged]
    rfl
  obtain ⟨f, hf⟩ := v.telTimeIn_channel .a n
  obtain ⟨g, hg⟩ := (v.setChan .a f).telTimeIn_channel .b n
  have hown : (s.telTimed n).chan c = ((v.telTimeIn .a n).telTimeIn .b n).chan c := by
    rw [heq]
    cases c <;> rfl
  have htimers : v.telTimers = s.telTimers := State.telTimers_of_img (by rw [← hv]; rfl)
  refine ⟨?_, ?_⟩
  · rw [hown]
    cases c with
    | a =>
      have hx' : (v.chan .a).tel[n]? = some x := by rw [← hv]; exact hx
      rw [hf, hg, State.setChan_chan_ne (by simp), ← hf, State.telTimeIn_eq (by rw [← hv]; exact hev) (by rw [← hv]; exact hused)
        (by rw [← hv]; exact ht), State.setChan_chan, modify_eq_set hx', htimers, ← hv]
      rfl
    | b =>
      have hx' : ((v.setChan .a f).chan .b).tel[n]? = some x := by rw [← hv]; exact hx
      rw [hf, State.telTimeIn_eq (by rw [← hv]; exact hev) (by rw [← hv]; exact hused) (by rw [← hv]; exact ht), State.setChan_chan,
        modify_eq_set hx', State.telTimers_of_img (s := v) (by rfl), htimers, ← hv]
      rfl
  · rw [heq, hf, hg]
    refine ⟨by simp, ?_⟩
    rw [← hv]
    exact ⟨rfl, rfl, rfl, rfl⟩

/-! The beat table (R341, R342) -/

/-- The judgement of a lone copy that has waited for its pair (R342). -/
theorem State.telSingles_lone {s : State} {n : Nat} {x : TelRx} {c : TelCopy} (hx : x.copies = [c]) (hw : s.nat .T_PAIR ≤ c.wait) :
    s.telSingles n x =
      if s.telOk n { x with copies := [] } c.bytes && decide (x.single.getD 0 < s.nat .T_SINGLE) &&
          !(c.rd && s.rdOver { x with copies := [] }) then
        ({ x with copies := [] } : TelRx).accept c false
      else { x with copies := [] } := by
  simp [State.telSingles, hx, hw]

theorem State.telSingles_waits {s : State} {n : Nat} {x : TelRx} {c : TelCopy} (hx : x.copies = [c]) (hw : c.wait < s.nat .T_PAIR) :
    s.telSingles n x = x := by
  have hnot : ¬ s.nat .T_PAIR ≤ c.wait := by omega
  have hsame : ({ x with copies := [c] } : TelRx) = x := by rw [← hx]
  simp [State.telSingles, hx, hnot, hsame]

/-- A received copy as the beat table keeps it (R339, R341). -/
def telCopyOf (p : CPort) (l : List Byte) : TelCopy :=
  { port := p, seq := BitVec.ofNat 16 (numAt l 4 2), stamp := nword (numAt l 6 4), rd := (numAt l 3 1).testBit 0, bytes := l }

/-- The first copy that passes the checks, of a telegram whose RD copies still count, waits for its pair (R341, R342). -/
theorem State.telEnter_first {s : State} {n : Nat} {p : CPort} {l : List Byte} {x : TelRx} (hok : s.telOk n x l = true)
    (hrd : (numAt l 3 1).testBit 0 = false ∨ s.rdOver x = false)
    (hnone : (x.copies.find? fun y => y.seq == BitVec.ofNat 16 (numAt l 4 2)) = none) :
    s.telEnter n p l x = ({ x with copies := x.copies ++ [telCopyOf p l] }, false) := by
  have hcounts : ((numAt l 3 1).testBit 0 && s.rdOver x) = false := by rcases hrd with h | h <;> simp [h]
  simp only [State.telEnter, hok, hcounts, hnone, Bool.not_true, Bool.false_eq_true, if_false, telCopyOf]

/-- The second is compared with the one that waits, unless it came by the same port (R342). -/
theorem State.telEnter_second {s : State} {n : Nat} {p : CPort} {l : List Byte} {x : TelRx} {y : TelCopy} (hok : s.telOk n x l = true)
    (hrd : (numAt l 3 1).testBit 0 = false ∨ s.rdOver x = false)
    (hsome : (x.copies.find? fun y => y.seq == BitVec.ofNat 16 (numAt l 4 2)) = some y) :
    s.telEnter n p l x = if y.port == p then (x, false)
      else if y.bytes == l then (({ x with copies := x.copies.erase y } : TelRx).accept (telCopyOf p l) true, false)
      else ({ x with copies := x.copies.erase y, diff := incSat 65535 x.diff }, true) := by
  have hcounts : ((numAt l 3 1).testBit 0 && s.rdOver x) = false := by rcases hrd with h | h <;> simp [h]
  simp only [State.telEnter, hok, hcounts, hsome, Bool.not_true, Bool.false_eq_true, if_false, telCopyOf]

/-! Command telegrams (R448) -/

/-- A command telegram whose request every present channel accepted is staged where CAN is a source of requests (R298, R448). -/
theorem State.cmdTake_staged {s : State} {n : Nat} {a b : TelRx} {k : ReqKind} (ha : s.cha.tel[n]? = some a) (hb : s.chb.tel[n]? = some b)
    (hall : (s.present .a = true → a.cmd = true) ∧ (s.present .b = true → b.cmd = true) ∧
      (s.present .a = true → s.present .b = true → a.payload = b.payload))
    (hk : cmdKind (if s.present .a then a.payload else b.payload) = some k) :
    s.cmdTake n = { s with
      cha := { s.cha with tel := s.cha.tel.set n { a with cmd := false } }
      chb := { s.chb with tel := s.chb.tel.set n { b with cmd := false } }
      safe := if (s.nat .REQ_SRC).testBit 1 then { s.safe with reqStaged := some ⟨k, .can⟩ } else s.safe } := by
  obtain ⟨h1, h2, h3⟩ := hall
  have hgood : (((!s.present .a || a.cmd) && (!s.present .b || b.cmd)) &&
      (!s.present .a || !s.present .b || a.payload == b.payload)) = true := by
    cases hpa : s.present .a <;> cases hpb : s.present .b <;> simp_all
  simp only [State.cmdTake, ha, hb, Option.getD_some, hgood, if_true, hk, modify_eq_set ha, modify_eq_set hb, Bool.false_eq_true, if_false]

/-- Another is discarded and counted in both channels (R448). -/
theorem State.cmdTake_discarded {s : State} {n : Nat} {a b : TelRx} (ha : s.cha.tel[n]? = some a) (hb : s.chb.tel[n]? = some b)
    (hbad : (s.present .a = true ∧ a.cmd = false) ∨ (s.present .b = true ∧ b.cmd = false) ∨
      (s.present .a = true ∧ s.present .b = true ∧ a.payload ≠ b.payload) ∨
      cmdKind (if s.present .a then a.payload else b.payload) = none) :
    s.cmdTake n = { s with
      cha := { s.cha with tel := s.cha.tel.set n { a with cmd := false, bad := incSat 65535 a.bad } }
      chb := { s.chb with tel := s.chb.tel.set n { b with cmd := false, bad := incSat 65535 b.bad } } } := by
  have hnone : (if (((!s.present .a || a.cmd) && (!s.present .b || b.cmd)) &&
      (!s.present .a || !s.present .b || a.payload == b.payload)) = true
      then cmdKind (if s.present .a then a.payload else b.payload) else none) = none := by
    rcases hbad with ⟨h1, h2⟩ | ⟨h1, h2⟩ | ⟨h1, h2, h3⟩ | h
    · simp [h1, h2]
    · simp [h1, h2]
    · simp [h1, h2, h3]
    · simp [h]
  simp only [State.cmdTake, ha, hb, Option.getD_some, hnone, modify_eq_set ha, modify_eq_set hb, if_true]

theorem State.cmdDue_eq {s : State} {n : Nat} {a b : TelRx} (ha : s.cha.tel[n]? = some a) (hb : s.chb.tel[n]? = some b)
    (hc : s.nat .TCONT (64 + n) = 1) (hu : s.telUsed (64 + n) = true) : s.cmdDue n = (a.cmd || b.cmd) := by
  simp [State.cmdDue, ha, hb, hc, hu]

end Sys2Proof.Machine

namespace Sys2Proof.Proofs
open Sys2Proof.Machine

/-- Settles O45: what a telegram's commands do to its objects, to each channel's copies and to the staged request, and what one copy
does in the beat table. -/
theorem safeTelegrams : Obligations.SafeTelegrams := by
  refine ⟨?sends, ?idle, ?received, ?foreign, ?judged, ?lost, ?staged, ?discarded, ?noCommand, ⟨by decide, by decide, by decide, ?kinds⟩,
    ?table⟩
  case sends =>
    intro s n p k d o hmine hdue ho hx hon hmode
    obtain ⟨hcan, hframe⟩ := State.telSend_can hmine hdue ho hx hon hmode
    have hobj : ((s.telSend n).can p).obj = (s.can p).obj.set k (o.queued (padTo (Machine.dlcLen (s.objDlc p k)) d)) := by
      rw [hcan]
      rfl
    have hat (v : ObjS) : ((s.can p).obj.set k v)[k]? = some v := List.getElem?_set_self (List.getElem?_eq_some_iff.1 ho).1
    refine ⟨_, rfl, by rw [hcan]; rfl, fun ht hn => ?_, fun ht hn => ?_, fun ht => ?_, fun hp hb => ?_, fun j hj => ?_, hframe⟩
    · rw [hobj, ObjS.queued_replaces ht hn]
      exact hat _
    · rw [hobj, ObjS.queued_behind (.inr ⟨ht, hn⟩), if_pos hn]
      exact hat _
    · rw [hobj, ObjS.queued_behind (.inl ht)]
      exact hat _
    · rw [hobj, ObjS.queued_fresh hp hb]
      exact hat _
    · rw [hobj, List.getElem?_set_ne (Ne.symm hj)]
  case idle =>
    intro s n h
    show Host.Outcome.next (s.telSend n) = _
    rw [State.telSend_eq, State.telObjects, State.telObjects, h, h]
    rfl
  case received =>
    intro s p f n ch x i htel hn hruns hx hi
    have hrx : s.telReceive p f = (s.telCheckIn n i .a).telCheckIn n i .b := by
      simp only [State.telReceive, htel, Nat.mod_eq_of_lt hn, hi]
    obtain ⟨hsa, hca⟩ := s.telCheckIn_same n i .a
    have howna := State.telCheckIn_own (s := s) (i := i) (c := .a) (n := n) (x := x)
    generalize s.telCheckIn n i .a = u at hrx hsa hca howna
    obtain ⟨hsb, hcb⟩ := u.telCheckIn_same n i .b
    have hownb := State.telCheckIn_own (s := u) (i := i) (c := .b) (n := n) (x := x)
    obtain ⟨hbeat, hmeas, hsafe, h1, h2, -⟩ := hsa.trans hsb
    refine ⟨_, congrArg Host.Outcome.next hrx, hbeat, hmeas, hsafe, h1, h2, ?_⟩
    have hbytes : i.bytes = f.data ∧ i.port = p := by rw [hi]; exact ⟨rfl, rfl⟩
    rw [hbytes.1, hbytes.2] at howna hownb
    cases ch with
    | a =>
      rw [hcb .a (by simp)]
      exact howna hruns hx
    | b =>
      have hc := hca .b (by simp)
      rw [hc, State.telOk_of_img hsa.img, hsa.telFits hc] at hownb
      exact hownb ((hsa.runs hc).trans hruns) hx
  case foreign =>
    intro s p f h
    show Host.Outcome.next (s.telReceive p f) = _
    simp only [State.telReceive, h]
  case judged =>
    intro s n ch x hat hused hev hnot hx
    have hx' : exec (.pairJudgement n) s = .next ((s.at 850000).telJudged n.val) :=
      congrArg Host.Outcome.next ((State.evalItem_at hat ..).trans (if_pos hused))
    obtain ⟨hown, hsafe, hmeas, h1, h2⟩ := State.telJudged_own (s := s.at 850000) hev hused hnot hx
    refine ⟨_, hx', ?_⟩
    rw [hown, hsafe, State.telJudge_of_img (s := s) (t := s.at 850000) rfl rfl]
    exact ⟨rfl, rfl, by simp, fun i hi => by simp [hi], rfl, hmeas, h1, h2⟩
  case lost =>
    intro s n ch x hat hused hev hj ht hx
    have hx' : exec (.telegramLost n) s = .next ((s.at 850000).telTimed n.val) :=
      congrArg Host.Outcome.next ((State.evalItem_at hat ..).trans (if_pos hused))
    obtain ⟨hown, htimed, hmeas, h1, h2, hflt⟩ := State.telTimed_judged (s := s.at 850000) hev hused hj ht hx
    refine ⟨_, (s.at 850000).telTimers x, hx', ?_⟩
    rw [hown, State.telTimers_of_img (s := s) (t := s.at 850000) rfl]
    refine ⟨rfl, fun h => ?_, fun h hr => ?_, fun hr ho => ?_, rfl, rfl, htimed, rfl, hmeas, h1, h2, hflt⟩
    · simp [State.telTimers, h]
    · simp [State.telTimers, hr, Nat.not_le.2 h]
    · simp [State.telTimers, hr, ho]
  case staged =>
    intro s n a b k hc hu ha hb hpres h1 h2 h3 hk
    have hdue : s.cmdDue n = true := by
      rw [State.cmdDue_eq ha hb hc hu]
      rcases hpres with h | h
      · simp [h1 h]
      · simp [h2 h]
    exact congrArg Host.Outcome.next ((if_pos hdue).trans (State.cmdTake_staged ha hb ⟨h1, h2, h3⟩ hk))
  case discarded =>
    intro s n a b hc hu ha hb hcmd hbad
    have hdue : s.cmdDue n = true := by
      rw [State.cmdDue_eq ha hb hc hu]
      simpa using hcmd
    exact congrArg Host.Outcome.next ((if_pos hdue).trans (State.cmdTake_discarded ha hb hbad))
  case noCommand => exact fun s n h => congrArg Host.Outcome.next (if_neg (by simp [h]))
  case kinds =>
    intro l h
    simp [cmdKind, h]
  case table =>
    intro s n p l x c
    have hfound (hx : x.copies = [c]) (hs : c.seq = BitVec.ofNat 16 (numAt l 4 2)) :
        (x.copies.find? fun y => y.seq == BitVec.ofNat 16 (numAt l 4 2)) = some c := by
      simp [hx, hs]
    refine ⟨fun hok => ?_, fun hok hr ho => ?_, fun hok hr => ⟨fun hfree => ?_, fun hx hs hp hb => ?_, fun hx hs hp hb => ?_,
      fun hx hs hp => ?_⟩, fun hx hw hrd hok => ⟨fun hlt => ?_, fun hge => ?_⟩, fun hx hw => State.telSingles_waits hx hw⟩
    · simp [State.telEnter, hok]
    · simp [State.telEnter, hok, hr, ho]
    · have hnone : (x.copies.find? fun y => y.seq == BitVec.ofNat 16 (numAt l 4 2)) = none := by
        rw [List.find?_eq_none]
        intro y hy
        simpa using List.all_eq_true.1 hfree y hy
      exact ⟨_, State.telEnter_first hok hr hnone, rfl, rfl, rfl⟩
    · rw [State.telEnter_second hok hr (hfound hx hs), if_neg (by simpa using hp), if_pos (by simpa using hb), hx, List.erase_cons_head]
      refine ⟨_, rfl, rfl, ?_, rfl, rfl, rfl, rfl, rfl, rfl, rfl⟩
      simp [TelRx.accept]
    · rw [State.telEnter_second hok hr (hfound hx hs), if_neg (by simpa using hp), if_neg (by simpa using hb), hx, List.erase_cons_head]
    · rw [State.telEnter_second hok hr (hfound hx hs), if_pos (by simpa using hp)]
    · rw [State.telSingles_lone hx hw, if_pos (by simp [hok, hlt, hrd])]
      refine ⟨_, rfl, rfl, rfl, rfl, rfl, rfl, ?_, rfl⟩
      simp [TelRx.accept]
    · rw [State.telSingles_lone hx hw, if_neg (by simp; omega)]

end Sys2Proof.Proofs
end

section
/-! PROOFS. Ring frames as bytes, and what sending does to the ports: the FIFO of each port that is UP takes the frame, nothing else of
the ports changes (R26, R392, R393). -/

namespace Sys2Proof.Machine

/-! Bytes -/

@[simp] theorem bytesOf_length (n x : Nat) : (bytesOf n x).length = n := by
  induction n with
  | zero => rfl
  | succ n ih => simp [bytesOf, ih]

@[simp] theorem sbytes_length (n : Nat) (x : Int) : (sbytes n x).length = n := bytesOf_length ..

@[simp] theorem wordBytes_length (w : Word) : (wordBytes w).length = 4 := bytesOf_length ..

@[simp] theorem RHdr.bytes_length (h : RHdr) : h.bytes.length = 16 := by
  simp [RHdr.bytes]

@[simp] theorem sealFrame_length (l : List Byte) : (sealFrame l).length = l.length + 4 := by
  simp [sealFrame]

/-- A frame of this unit is its body with 20 bytes around it (R393). -/
@[simp] theorem State.frame_length (s : State) (p : RPort) (h : RHdr) (body : List Byte) :
    (s.frame p h body).length = body.length + 20 := by
  simp [State.frame]
  omega

/-- The bytes of a number spell it back, modulo their width (R9). -/
theorem numOf_bytesOf (n x : Nat) : numOf (bytesOf n x) = x % 256 ^ n := by
  have h : ∀ (n a : Nat), (bytesOf n x).foldl (fun a b => a * 256 + b.toNat) a = a * 256 ^ n + x % 256 ^ n := by
    intro n
    induction n with
    | zero => intro a; simp [bytesOf, Nat.mod_one]
    | succ n ih =>
      intro a
      have hsplit : x % 256 ^ (n + 1) = x % 256 ^ n + 256 ^ n * (x / 256 ^ n % 256) := Nat.mod_pow_succ
      rw [bytesOf, List.foldl_cons, ih, BitVec.toNat_ofNat, hsplit, show 2 ^ 8 = 256 from rfl]
      ring
  rw [numOf, h, Nat.zero_mul, Nat.zero_add]

/-- The number that stands at an offset of a list of fields (R9, R393). -/
theorem numAt_append {a b : List Byte} {o n : Nat} (ha : a.length = o) (hb : b.length = n) (c : List Byte) :
    numAt (a ++ (b ++ c)) o n = numOf b := by
  subst ha hb
  simp [numAt, slice]

/-! Ports -/

theorem RPort.ix_inj {p q : RPort} : p.ix = q.ix ↔ p = q := by
  cases p <;> cases q <;> simp [RPort.ix]

theorem RPort.opposite_ne (p : RPort) : p.opposite ≠ p := by
  cases p <;> simp [RPort.opposite]

@[simp] theorem State.setPort_get (p : RPort) (f : PortS → PortS) (s : State) :
    (s.setPort p f).ring.ports[p.ix]? = s.ring.ports[p.ix]?.map f := by
  simp [State.setPort, State.setRing]

theorem State.setPort_get_ne {p : RPort} {j : Nat} (h : j ≠ p.ix) (f : PortS → PortS) (s : State) :
    (s.setPort p f).ring.ports[j]? = s.ring.ports[j]? := by
  simp [State.setPort, State.setRing, List.getElem?_modify_ne _ _ h.symm]

/-- What sending reads of a port beside its FIFO: the role, the links, the blocks in reset and channel A's die (R41, R391). -/
theorem State.portUp_congr {s t : State} {p : RPort} (hrole : t.ring.role = s.ring.role)
    (hlink : (t.ring.ports[p.ix]?).map PortS.link = (s.ring.ports[p.ix]?).map PortS.link) (hblk : t.flt.blk = s.flt.blk)
    (hruns : t.runs .a = s.runs .a) : t.portUp p = s.portUp p := by
  have hup (l : List PortS) : (l[p.ix]?.getD {}).up = ((l[p.ix]?.map PortS.link).getD {}).up := by
    cases l[p.ix]? <;> rfl
  simp only [State.portUp, State.portUsed, hrole, hblk, hruns, hup, hlink]

/-- A port that is UP is one of the unit's ports. -/
theorem State.portUp_get {s : State} {p : RPort} (h : s.portUp p = true) : ∃ x, s.ring.ports[p.ix]? = some x := by
  cases hx : s.ring.ports[p.ix]? with
  | some x => exact ⟨x, rfl⟩
  | none => simp [State.portUp, hx] at h

/-! Sending -/

/-- The bytes F p on each port of a list (R392). -/
def State.sendOn (ps : List RPort) (F : RPort → List Byte) (s : State) : State :=
  ps.foldl (fun t p =>
    if !t.portUp p then t
    else
      let x := t.aqPush p (F p)
      if x.2 then x.1.sendRaw p (F p) false else x.1) s

theorem State.sendFrame_eq (ps : List RPort) (h : RHdr) (body : List Byte) (s : State) :
    s.sendFrame ps h body = s.sendOn ps fun p => s.frame p h body := rfl

/-- The state after bytes have entered a port's XS_AQ and left by the port. -/
def State.aqSent (p : RPort) (l : List Byte) (s : State) : State :=
  { s with
    sys := s.sys.tally 5 1
    ring := { s.ring with
      ports := s.ring.ports.modify p.ix fun x => { x with aq := s.aqLeft p + l.length, aqAt := s.beat.offNs }
      sent := s.ring.sent ++ [(p, l, false)] } }

theorem State.aqSent_link (p q : RPort) (l : List Byte) (s : State) :
    ((s.aqSent p l).ring.ports[q.ix]?).map PortS.link = (s.ring.ports[q.ix]?).map PortS.link := by
  by_cases h : q = p
  · subst h
    simp only [State.aqSent, List.getElem?_modify_eq]
    cases s.ring.ports[q.ix]? <;> rfl
  · have : p.ix ≠ q.ix := fun he => h (RPort.ix_inj.1 he).symm
    simp [State.aqSent, this]

theorem State.aqSent_portUp (p q : RPort) (l : List Byte) (s : State) : (s.aqSent p l).portUp q = s.portUp q :=
  State.portUp_congr rfl (State.aqSent_link ..) rfl rfl

theorem State.aqSent_aqLeft {p : RPort} {s : State} (hp : s.portUp p = true) (q : RPort) (l : List Byte) :
    (s.aqSent p l).aqLeft q = if q = p then s.aqLeft p + l.length else s.aqLeft q := by
  by_cases h : q = p
  · subst h
    obtain ⟨x, hx⟩ := State.portUp_get hp
    have : (s.aqSent q l).ring.ports[q.ix]? = some { x with aq := s.aqLeft q + l.length, aqAt := s.beat.offNs } := by
      simp [State.aqSent, hx]
    rw [if_pos rfl, State.aqLeft, this]
    simp [State.aqSent]
  · have hne : p.ix ≠ q.ix := fun he => h (RPort.ix_inj.1 he).symm
    have : (s.aqSent p l).ring.ports[q.ix]? = s.ring.ports[q.ix]? := by
      simp [State.aqSent, hne]
    rw [if_neg h, State.aqLeft, this]
    rfl

/-- A port that is UP and has room sends the bytes; one that is not UP sends nothing (R26, R392). -/
theorem State.sendOn_cons {p : RPort} {s : State} {F : RPort → List Byte} (hroom : s.portUp p = true → s.aqLeft p + (F p).length ≤ 4096)
    (ps : List RPort) :
    s.sendOn (p :: ps) F = (if s.portUp p = true then s.aqSent p (F p) else s).sendOn ps F := by
  rw [State.sendOn, List.foldl_cons]
  cases hp : s.portUp p
  · rfl
  · have hup : (s.aqPush p (F p)).1.portUp p = true := by
      rw [State.aqPush_fits (hroom hp)]
      exact (State.aqSent_portUp p p (F p) s).trans hp
    have hsent : (s.aqPush p (F p)).1.sendRaw p (F p) false = s.aqSent p (F p) := by
      rw [State.sendRaw, if_pos hup, State.aqPush_fits (hroom hp)]
      rfl
    rw [if_pos rfl]
    simp only [Bool.not_true, Bool.false_eq_true, if_false, hsent]
    rw [State.aqPush_fits (hroom hp)]
    rfl

/-- Bytes of one length leave on every port of the list that is UP, each into the room of its XS_AQ; nothing else changes but the
performance counters (R26, R392). -/
theorem State.sendOn_room {ps : List RPort} (hps : ps.Nodup) {F : RPort → List Byte} {n : Nat} (hF : ∀ p, (F p).length = n) {s : State}
    (hroom : s.aqRoom ps n) :
    s.aqTook (s.sendOn ps F) ps n ∧
    s.sendOn ps F = { s with sys := (s.sendOn ps F).sys, ring := { s.ring with
      sent := s.ring.sent ++ (ps.filter s.portUp).map fun p => (p, F p, false), ports := (s.sendOn ps F).ring.ports } } := by
  induction ps generalizing s with
  | nil => exact ⟨fun p => ⟨by simp [State.sendOn], rfl⟩, by simp [State.sendOn]⟩
  | cons p ps ih =>
    obtain ⟨hp, hps⟩ := List.nodup_cons.1 hps
    rw [State.sendOn_cons (fun hup => by rw [hF]; exact hroom p (by simp) hup)]
    cases hup : s.portUp p
    · obtain ⟨htook, heq⟩ := ih hps (s := s) fun q hq => hroom q (by simp [hq])
      simp only [Bool.false_eq_true, if_false]
      refine ⟨fun q => ?_, ?_⟩
      · obtain ⟨hleft, hlink⟩ := htook q
        refine ⟨?_, hlink⟩
        rw [hleft]
        by_cases hq : q = p
        · subst hq
          simp [hup]
        · simp [hq]
      · simpa [hup] using heq
    · obtain ⟨htook, heq⟩ := ih hps (s := s.aqSent p (F p)) fun q hq hqup => by
        have hne : q ≠ p := fun h => hp (h ▸ hq)
        rw [State.aqSent_aqLeft hup, if_neg hne]
        exact hroom q (by simp [hq]) ((State.aqSent_portUp ..).symm.trans hqup)
      rw [if_pos rfl]
      refine ⟨fun q => ?_, ?_⟩
      · obtain ⟨hleft, hlink⟩ := htook q
        refine ⟨?_, hlink.trans (State.aqSent_link ..)⟩
        rw [hleft, State.aqSent_aqLeft hup, State.aqSent_portUp, hF]
        by_cases hq : q = p
        · subst hq
          simp [hp, hup]
        · simp [hq]
      · have hfilter : ps.filter (s.aqSent p (F p)).portUp = ps.filter s.portUp :=
          List.filter_congr fun q _ => State.aqSent_portUp ..
        rw [hfilter] at heq
        generalize (s.aqSent p (F p)).sendOn ps F = v at heq ⊢
        refine heq.trans ?_
        simp [State.aqSent, hup]

/-- A frame of this unit with its room on each of its ports (R26, R392, R393). -/
theorem State.sendFrame_room {ps : List RPort} (hps : ps.Nodup) {s : State} {n : Nat} (h : RHdr) {body : List Byte}
    (hn : body.length + 20 = n) (hroom : s.aqRoom ps n) :
    s.aqTook (s.sendFrame ps h body) ps n ∧
    s.sendFrame ps h body = { s with sys := (s.sendFrame ps h body).sys, ring := { s.ring with
      sent := s.ring.sent ++ (ps.filter s.portUp).map fun p => (p, s.frame p h body, false)
      ports := (s.sendFrame ps h body).ring.ports } } :=
  State.sendOn_room (F := fun p => s.frame p h body) hps (fun p => by rw [State.frame_length, hn]) hroom

/-- What the header of a frame reads of the unit (R393). -/
theorem State.frame_congr {s t : State} (hrole : t.ring.role = s.ring.role) (hact : t.ring.active = s.ring.active)
    (hepoch : t.ring.epoch = s.ring.epoch) (himg : t.img = s.img) (hsbn : t.sbn = s.sbn) : t.frame = s.frame := by
  funext p h body
  have haddr : t.addr = s.addr := by rw [State.addr, himg, State.addr]
  simp only [State.frame, State.roleByte, hrole, hact, hepoch, haddr, hsbn]

end Sys2Proof.Machine
end

section
/-! PROOFS. Ring ports and the reception of ring frames. -/

namespace Sys2Proof.Machine

/-- A port changed at its place. -/
theorem State.setPort_eq {s : State} {p : RPort} {x : PortS} (h : s.ring.ports[p.ix]? = some x) (f : PortS → PortS) :
    s.setPort p f = { s with ring := { s.ring with ports := s.ring.ports.set p.ix (f x) } } := by
  rw [State.setPort, State.setRing, modify_eq_set h]

theorem State.setPort_self {s : State} {p : RPort} {x : PortS} (h : s.ring.ports[p.ix]? = some x) {f : PortS → PortS} (hf : f x = x) :
    s.setPort p f = s := by
  rw [State.setPort, State.setRing, modify_eq_self h hf]

/-- A change of one port does not bring another UP or DOWN. -/
theorem State.setPort_portUp {p q : RPort} (h : q ≠ p) (f : PortS → PortS) (s : State) : (s.setPort p f).portUp q = s.portUp q :=
  State.portUp_congr rfl (by rw [State.setPort_get_ne (fun he => h (RPort.ix_inj.1 he))]) rfl rfl

/-- The string ports serve every role, the trunk ports a Master's (R41). -/
theorem State.portUsed_iff (s : State) (p : RPort) : s.portUsed p = true ↔ p = .n ∨ p = .s ∨ 2 ≤ s.ring.role.toNat := by
  simp [State.portUsed, or_assoc]

/-! Reception -/

/-- A port that is not UP takes nothing, and no frame is shorter than its header and its CRC (R392, R393). -/
theorem State.receive_refused {s : State} {p : RPort} {l : List Byte} (h : s.portUp p = false ∨ l.length < 20) (b : Bool) :
    s.receive p l b = s := by
  unfold State.receive
  rw [if_pos (by rcases h with h | h <;> simp [h])]

theorem State.portInjected_not {s : State} {p : RPort} (h : s.injectsPort p = false) (hd : RHdr) : s.portInjected p hd = s := by
  simp [State.portInjected, h]

theorem exec_ringFrameReceive (p : RPort) (l : List Byte) (b : Bool) (s : State) :
    exec (.ringFrameReceive p l b) s = .next (s.receive p l b) := rfl

/-- What a port counts of a frame that is not intact (R377, R392). -/
def State.badCounted (s : State) (p : RPort) (good marked : Bool) (s0 : State) : State :=
  if !good && !marked && s0.countsCrc p then (s.tally 7 1).setPort p fun x => { x with crc := incSat 65535 x.crc } else s.tally 6 0

/-- A frame that is not intact goes on marked (R392). -/
theorem State.receive_bad {s : State} {p : RPort} {l : List Byte} {b : Bool} (hup : s.portUp p = true) (hlen : 20 ≤ l.length)
    (hbad : (frameOk l && !s.injectsPort p && !b) = false) (hsrc : (hdrOf l).src ≠ s.addr) (hdel : (hdrOf l).delivery ≠ 0)
    (htype : (hdrOf l).type ≠ 7) :
    s.receive p l b = ((s.portInjected p (hdrOf l)).badCounted p (frameOk l && !s.injectsPort p) b s).sendRaw p.opposite l true := by
  have hgo : (!s.portUp p || decide (l.length < 20)) = false := by simp [hup, hlen]
  have haddr : (s.portInjected p (hdrOf l)).addr = s.addr := by
    unfold State.portInjected
    split <;> rfl
  have hdel' : ((hdrOf l).delivery == 0) = false := by simpa using hdel
  have htype' : ((hdrOf l).type == 7) = false := by simpa using htype
  have hfwd : (s.portInjected p (hdrOf l)).forwarded p l true = l := rfl
  simp only [State.receive, hgo, hbad, haddr, hsrc, hdel', htype', hfwd, Bool.false_eq_true, if_false, Bool.false_and, Bool.or_self,
    Bool.not_false, Bool.true_or, if_true]
  rfl

/-- What a port keeps of every intact frame of another unit: the roster, and that something has been heard (R398, R412). -/
def State.heardFrame (p : RPort) (l : List Byte) (s : State) : State :=
  ((s.tally 6 1).heardFrom (hdrOf l)).setRing fun r =>
    { r with heard := r.heard || p == .n || p == .s
             mfOn := if (hdrOf l).type == 1 && (p == .n || p == .s) then r.mfOn ++ [p] else r.mfOn }

/-- What becomes of an intact frame that another unit sent (R392-R395). -/
theorem State.receive_intact {s : State} {p : RPort} {l : List Byte} (hup : s.portUp p = true) (hok : frameOk l = true)
    (hinj : s.injectsPort p = false) (hsrc : (hdrOf l).src ≠ s.addr) :
    s.receive p l false =
      let h := hdrOf l
      let v := s.heardFrame p l
      let w := if !s.isFor h then v
        else if h.delivery == 0 && !s.roleMatches h then v.staleReply h
        else (v.deliver p l).injRecovered h true
      if (h.delivery == 0 && h.dst == s.addr) || h.type == 7 then w else w.sendRaw p.opposite (s.forwarded p l false) false := by
  have hgo : (!s.portUp p || decide (l.length < 20)) = false := by
    have : 20 ≤ l.length := by
      by_contra hlt
      simp [frameOk, hlt] at hok
    simp [hup, this]
  have hgood : (frameOk l && !s.injectsPort p) = true := by simp [hok, hinj]
  simp only [State.receive, hgo, State.portInjected_not hinj, hgood, hsrc, Bool.false_eq_true, if_false, Bool.not_false, Bool.and_self,
    Bool.not_true, Bool.false_and, if_true, Bool.false_or]
  rfl

/-- A frame that no injection has spoiled recovers nothing (R376). -/
theorem State.injRecovered_not {s : State} {h : RHdr} (hno : s.injFrame h.src h.type = false) : s.injRecovered h true = s := by
  simp [State.injRecovered, hno]

/-- XS_QA with room takes the frame (R26). -/
theorem State.rxPush_fits {s : State} {p : RPort} {l : List Byte} (h : s.rxBytes p + l.length ≤ 4096) :
    s.rxPush p l = s.setRing fun r => { r with rx := r.rx ++ [{ port := p, bytes := l }] } := by
  rw [State.rxPush, if_pos h]

/-- A port that is UP sends (R392). -/
theorem State.sendRaw_up {s : State} {p : RPort} (h : s.portUp p = true) (l : List Byte) (b : Bool) :
    s.sendRaw p l b = { s with sys := s.sys.tally 5 1, ring := { s.ring with sent := s.ring.sent ++ [(p, l, b)] } } := by
  rw [State.sendRaw, if_pos h]
  rfl

/-- A CRC error is counted on its port (R392). -/
theorem State.crcCounted_eq {s : State} {p : RPort} {x : PortS} (h : s.ring.ports[p.ix]? = some x) :
    ((s.tally 7 1).setPort p fun x => { x with crc := incSat 65535 x.crc }) = { s with
      sys := s.sys.tally 7 1
      ring := { s.ring with ports := s.ring.ports.set p.ix { x with crc := incSat 65535 x.crc } } } :=
  State.setPort_eq (s := s.tally 7 1) h _

/-- A broadcast frame is delivered and goes on, unless it is the neighbour's own (R391-R394). -/
theorem State.receive_broadcast {s : State} {p : RPort} {l : List Byte} (hup : s.portUp p = true) (hok : frameOk l = true)
    (hinj : s.injectsPort p = false) (hsrc : (hdrOf l).src ≠ s.addr) (hdel : (hdrOf l).delivery = 2) :
    s.receive p l false =
      let w := ((s.heardFrame p l).deliver p l).injRecovered (hdrOf l) true
      if (hdrOf l).type == 7 then w else w.sendRaw p.opposite (s.forwarded p l false) false := by
  have hfor : s.isFor (hdrOf l) = true := by simp [State.isFor, hdel]
  rw [State.receive_intact hup hok hinj hsrc]
  simp [hfor, hdel]

/-- A unicast frame for this unit under its role and epoch is delivered, and goes no further (R393, R394). -/
theorem State.receive_unicast {s : State} {p : RPort} {l : List Byte} (hup : s.portUp p = true) (hok : frameOk l = true)
    (hinj : s.injectsPort p = false) (hsrc : (hdrOf l).src ≠ s.addr) (hdel : (hdrOf l).delivery = 0) (hdst : (hdrOf l).dst = s.addr) :
    s.receive p l false = if s.roleMatches (hdrOf l) then ((s.heardFrame p l).deliver p l).injRecovered (hdrOf l) true
      else (s.heardFrame p l).staleReply (hdrOf l) := by
  have hfor : s.isFor (hdrOf l) = true := by simp [State.isFor, hdel, hdst]
  rw [State.receive_intact hup hok hinj hsrc]
  cases hrole : s.roleMatches (hdrOf l) <;> simp [hfor, hdel, hdst, hrole]

/-- What an intact frame leaves of the rest of the rings (R398, R412). -/
theorem State.heardFrame_eq (p : RPort) (l : List Byte) (s : State) : ∃ R, s.heardFrame p l = { s with
    sys := s.sys.tally 6 1
    ring := { s.ring with
      roster := R, heard := s.ring.heard || p == .n || p == .s
      mfOn := if (hdrOf l).type == 1 && (p == .n || p == .s) then s.ring.mfOn ++ [p] else s.ring.mfOn } } := ⟨_, rfl⟩

/-- A string port hears (R398). -/
theorem State.heardFrame_string {p : RPort} {l : List Byte} (hp : p = .n ∨ p = .s) (s : State) : ∃ R, s.heardFrame p l = { s with
    sys := s.sys.tally 6 1
    ring := { s.ring with
      roster := R, heard := true, mfOn := if (hdrOf l).type = 1 then s.ring.mfOn ++ [p] else s.ring.mfOn } } := by
  obtain ⟨R, hR⟩ := s.heardFrame_eq p l
  refine ⟨R, hR.trans ?_⟩
  have hheard : (s.ring.heard || p == .n || p == .s) = true := by
    rcases hp with rfl | rfl <;> simp
  have hstr : (p == .n || p == .s) = true := by simpa using hp
  simp only [hheard, hstr, Bool.and_true, beq_iff_eq]

/-- A current frame or a resend request enters XS_QA of a string port (R396, R405). -/
theorem State.deliver_string {s : State} {p : RPort} {l : List Byte} (hp : p = .n ∨ p = .s)
    (htype : (hdrOf l).type = 2 ∨ (hdrOf l).type = 4 ∨ ((hdrOf l).type = 1 ∧ uStr (hdrOf l).src = uStr s.addr ∧ s.ring.active = false)) :
    s.deliver p l = s.rxPush p l := by
  have hstr : (p == .n || p == .s) = true := by simpa using hp
  rcases htype with h | h | ⟨h, hs, ha⟩
  · simp [State.deliver, h, hstr]
  · simp [State.deliver, h, hstr]
  · simp [State.deliver, h, hstr, hs, ha]

/-- The frame waits in XS_QA, and nothing of it was spoiled (R26, R376). -/
theorem State.delivered_string {s : State} {p : RPort} {l : List Byte} (hp : p = .n ∨ p = .s)
    (htype : (hdrOf l).type = 2 ∨ (hdrOf l).type = 4 ∨ ((hdrOf l).type = 1 ∧ uStr (hdrOf l).src = uStr s.addr ∧ s.ring.active = false))
    (hframe : s.injFrame (hdrOf l).src (hdrOf l).type = false) (hroom : s.rxBytes p + l.length ≤ 4096) :
    ∃ R, ((s.heardFrame p l).deliver p l).injRecovered (hdrOf l) true = { s with
      sys := s.sys.tally 6 1
      ring := { s.ring with
        roster := R, heard := true, mfOn := if (hdrOf l).type = 1 then s.ring.mfOn ++ [p] else s.ring.mfOn
        rx := s.ring.rx ++ [{ port := p, bytes := l }] } } := by
  obtain ⟨R, hR⟩ := s.heardFrame_string (l := l) hp
  refine ⟨R, ?_⟩
  generalize s.heardFrame p l = u at hR ⊢
  rw [State.deliver_string hp (by rw [hR]; exact htype), State.rxPush_fits (by rw [hR]; exact hroom),
    State.injRecovered_not (by rw [hR]; exact hframe), hR]
  rfl

/-- A Master frame goes on with the delay of its link and of this unit added (R398). -/
theorem State.forwarded_master {s : State} {p : RPort} {l : List Byte} {x : PortS} (htype : (hdrOf l).type = 1)
    (hx : s.ring.ports[p.ix]? = some x) :
    s.forwarded p l false = l.take 18 ++ (bytesOf 2 (numAt l 18 2 + x.delay + Config.residence p l) ++ ((l.take (l.length - 4)).drop 20 ++
      bytesOf 4 (crc32 (l.take 18 ++ bytesOf 2 (numAt l 18 2 + x.delay + Config.residence p l) ++ (l.take (l.length - 4)).drop 20)))) := by
  have hfirst : numAt l 0 1 = 1 := htype
  simp [State.forwarded, hfirst, hx, sealFrame]

/-- Every byte of a Master frame but its delay field and its CRC goes on as it came (R398). -/
theorem delayField_getElem? {l b c : List Byte} (hl : 24 ≤ l.length) (hb : b.length = 2) {i : Nat} (hi : i < l.length - 4)
    (hfield : i < 18 ∨ 20 ≤ i) : (l.take 18 ++ (b ++ ((l.take (l.length - 4)).drop 20 ++ c)))[i]? = l[i]? := by
  have h18 : (l.take 18).length = 18 := by simp; omega
  rcases hfield with h | h
  · rw [List.getElem?_append_left (by omega), List.getElem?_take_of_lt h]
  · rw [List.getElem?_append_right (by omega), h18, List.getElem?_append_right (by omega), hb, List.getElem?_append_left (by simp; omega),
      List.getElem?_drop, List.getElem?_take_of_lt (by omega)]
    congr 1
    omega

/-- The role byte and the epoch as one word (R395, R406). -/
theorem staleWord_eq {r e : Nat} (hr : r < 2 ^ 8) (he : e < 2 ^ 16) : place r 24 8 ||| place e 0 16 = BitVec.ofNat 32 (r * 2 ^ 24 + e) := by
  apply BitVec.eq_of_toNat_eq
  rw [BitVec.toNat_or, place, place, BitVec.toNat_ofNat, BitVec.toNat_ofNat, BitVec.toNat_ofNat, Nat.mod_eq_of_lt hr, Nat.mod_eq_of_lt he,
    Nat.mod_eq_of_lt (a := r * 2 ^ 24) (by omega), Nat.pow_zero, Nat.mul_one, Nat.mod_eq_of_lt (a := e) (by omega),
    Nat.mod_eq_of_lt (a := r * 2 ^ 24 + e) (by omega), Nat.mul_comm r, Nat.two_pow_add_eq_or_of_lt (by omega)]

theorem State.roleByte_lt (s : State) : s.roleByte < 2 ^ 8 := by
  have := s.ring.role.isLt
  unfold State.roleByte
  split <;> omega

/-- An own frame is stripped (R392). -/
theorem State.receive_own {s : State} {p : RPort} {l : List Byte} (hup : s.portUp p = true) (hok : frameOk l = true)
    (hinj : s.injectsPort p = false) (hsrc : (hdrOf l).src = s.addr) :
    s.receive p l false = ((s.tally 6 1).stripOwn p l true).setRing fun r => { r with heard := r.heard || (true && (p == .n || p == .s)) } := by
  have hgo : (!s.portUp p || decide (l.length < 20)) = false := by
    have : 20 ≤ l.length := by
      by_contra hlt
      simp [frameOk, hlt] at hok
    simp [hup, this]
  have hgood : (frameOk l && !s.injectsPort p) = true := by simp [hok, hinj]
  simp only [State.receive, hgo, State.portInjected_not hinj, hgood, hsrc, Bool.false_eq_true, if_false, Bool.not_false, Bool.and_self,
    Bool.not_true, Bool.false_and, if_true]

/-- What a returning copy of an own frame tells the rings (R392, R417). -/
theorem State.stripOwn_keeps (p : RPort) (l : List Byte) (b : Bool) (s : State) :
    (s.stripOwn p l b).ring.rx = s.ring.rx ∧ (s.stripOwn p l b).ring.sent = s.ring.sent ∧
    (s.stripOwn p l b).ring.roster = s.ring.roster ∧ s.stripOwn p l b = { s with ring := (s.stripOwn p l b).ring } := by
  unfold State.stripOwn
  split
  · exact ⟨rfl, rfl, rfl, rfl⟩
  · split <;> exact ⟨rfl, rfl, rfl, rfl⟩

/-- A delay frame is answered, or gives the turnaround, on its own port, and goes no further (R391). -/
theorem State.receive_delay {s : State} {p : RPort} {l : List Byte} (hup : s.portUp p = true) (hok : frameOk l = true)
    (hinj : s.injectsPort p = false) (hsrc : (hdrOf l).src ≠ s.addr) (hdel : (hdrOf l).delivery = 2) (htype : (hdrOf l).type = 7) :
    ∃ (u : State) (R : List UnitS), s.receive p l false = (u.dlTake p l).injRecovered (hdrOf l) true ∧ u = { s with
      sys := s.sys.tally 6 1, ring := { s.ring with roster := R, heard := s.ring.heard || p == .n || p == .s } } := by
  have hdeliver (t : State) : t.deliver p l = t.dlTake p l := by simp [State.deliver, htype]
  obtain ⟨R, hR⟩ := s.heardFrame_eq p l
  have hnot : ((hdrOf l).type == 1 && (p == .n || p == .s)) = false := by simp [htype]
  rw [hnot, if_neg Bool.false_ne_true] at hR
  refine ⟨_, R, ?_, hR⟩
  rw [State.receive_broadcast hup hok hinj hsrc hdel, hdeliver, htype]
  rfl

end Sys2Proof.Machine

namespace Sys2Proof.Proofs
open Sys2Proof.Machine

/-- Settles O46: what comes UP or DOWN, what a delay exchange gives, and what becomes of a received frame by its CRC, its sender, its
delivery and its type. -/
theorem ringPorts : Obligations.RingPorts := by
  refine ⟨?up, ?unused, ?down, ?delay, ?noDelay, ?refused, ?wrongCrc, ?marked, ?injected, ?current, ?master, ?unicast, ?stale, ?own,
    ?request, ?answer⟩
  case up =>
    intro s p x hon hused hx
    have hgo : (s.ringOn && s.portUsed p) = true := by rw [hon, (s.portUsed_iff p).2 hused]; rfl
    refine ⟨_, congrArg Host.Outcome.next (if_pos hgo), ?_, fun j hj => ?_, fun hl ha hr he hp => ?_, fun hp => ?_, ?_⟩
    · show (s.setPort p _).ring.ports[p.ix]? = _
      rw [State.setPort_get, hx]
      rfl
    · exact State.setPort_get_ne hj ..
    · simp [State.portComesUp, State.setPort, State.setRing, hl, ha, hr, he, hp]
    · have hno : ¬ (p = .n ∨ p = .s) := by rcases hp with rfl | rfl <;> simp
      simp [State.portComesUp, State.setPort, State.setRing, hno]
    · rfl
  case unused =>
    intro s p h
    refine congrArg Host.Outcome.next (if_neg ?_)
    rcases h with h | ⟨hp, hr⟩
    · simp [h]
    · have : s.portUsed p = false := by
        rw [← Bool.not_eq_true, State.portUsed_iff]
        rcases hp with rfl | rfl <;> simp <;> omega
      simp [this]
  case down =>
    intro s p x v loss hx
    refine congrArg Host.Outcome.next ((State.setPort_eq hx _).trans ?_)
    by_cases h : loss = true ∨ 16 ≤ v
    · have : (loss || decide (16 ≤ v)) = true := by simpa using h
      simp [h, this]
    · have : (loss || decide (16 ≤ v)) = false := by simpa using h
      simp [h, this]
  case delay =>
    intro s p x a b ta hx ht hu
    refine congrArg Host.Outcome.next ((State.setPort_eq hx _).trans ?_)
    simp [PortS.exchanged, ht, hu]
  case noDelay =>
    intro s p x a b hx h
    refine congrArg Host.Outcome.next (State.setPort_self hx ?_)
    rcases h with h | h
    · simp [PortS.exchanged, h]
    · cases ht : x.turn <;> simp [PortS.exchanged, ht, h]
  case refused => exact fun s p l b h => congrArg Host.Outcome.next (State.receive_refused h b)
  case wrongCrc =>
    intro s p l x hup hopp hlen hbad hinj hsrc hdel htype hx
    have hrx := State.receive_bad (b := false) hup hlen (by simp [hbad]) hsrc hdel htype
    have hcount : (s.portInjected p (hdrOf l)).badCounted p (frameOk l && !s.injectsPort p) false s =
        (s.tally 7 1).setPort p fun x => { x with crc := incSat 65535 x.crc } := by
      simp [State.badCounted, State.portInjected_not hinj, hbad, State.countsCrc, hinj]
    have hopp' : ((s.tally 7 1).setPort p fun x => { x with crc := incSat 65535 x.crc }).portUp p.opposite = true :=
      (State.setPort_portUp (RPort.opposite_ne p) ..).trans hopp
    rw [hcount, State.sendRaw_up hopp', State.crcCounted_eq hx] at hrx
    refine ⟨_, (exec_ringFrameReceive ..).trans (congrArg _ hrx), ?_, rfl, rfl⟩
    exact List.getElem?_set_self (List.getElem?_eq_some_iff.1 hx).1
  case marked =>
    intro s p l hup hopp hlen hinj hsrc hdel htype
    have hrx := State.receive_bad (b := true) hup hlen (by simp) hsrc hdel htype
    have hcount : (s.portInjected p (hdrOf l)).badCounted p (frameOk l && !s.injectsPort p) true s = s.tally 6 0 := by
      simp [State.badCounted, State.portInjected_not hinj]
    rw [hcount, State.sendRaw_up (s := s.tally 6 0) hopp] at hrx
    exact ⟨_, (exec_ringFrameReceive ..).trans (congrArg _ hrx), rfl, rfl⟩
  case injected =>
    intro s p l x hup hopp hlen hinj hsrc hdel htype hx
    have hrx := State.receive_bad (b := false) hup hlen (by simp [hinj]) hsrc hdel htype
    rw [State.portInjected, if_pos hinj] at hrx
    generalize hacts : s.flt.injRun.map (fun i => { i with hit := true, frame := some ((hdrOf l).src, (hdrOf l).type) }) = acts at hrx
    have hacted : (acts.any fun i => i.target == 24 + p.ix && !i.hit) = false := by
      rw [← hacts]
      cases s.flt.injRun <;> simp
    have hcount : ({ s with flt := { s.flt with injRun := acts } } : State).badCounted p (frameOk l && !s.injectsPort p) false s =
        if s.flt.injRun.any (·.full) then
          (({ s with flt := { s.flt with injRun := acts } } : State).tally 7 1).setPort p fun x => { x with crc := incSat 65535 x.crc }
        else ({ s with flt := { s.flt with injRun := acts } } : State).tally 6 0 := by
      simp [State.badCounted, hinj, State.countsCrc, State.injFull]
    rw [hcount] at hrx
    cases hfull : s.flt.injRun.any (·.full)
    · rw [hfull, if_neg Bool.false_ne_true, State.sendRaw_up] at hrx
      · exact ⟨_, (exec_ringFrameReceive ..).trans (congrArg _ hrx), hacted, hx, rfl, rfl⟩
      · exact hopp
    · rw [hfull, if_pos rfl, State.crcCounted_eq (s := { s with flt := { s.flt with injRun := acts } }) hx, State.sendRaw_up] at hrx
      · refine ⟨_, (exec_ringFrameReceive ..).trans (congrArg _ hrx), hacted, ?_, rfl, rfl⟩
        exact List.getElem?_set_self (List.getElem?_eq_some_iff.1 hx).1
      · have hup' := State.setPort_portUp (RPort.opposite_ne p) (fun x => { x with crc := incSat 65535 x.crc })
          (({ s with flt := { s.flt with injRun := acts } } : State).tally 7 1)
        rw [State.crcCounted_eq (s := { s with flt := { s.flt with injRun := acts } }) hx] at hup'
        exact hup'.trans hopp
  case current =>
    intro s p l hup hopp hp hok hinj hsrc hdel htype hframe hroom
    obtain ⟨R, hR⟩ := State.delivered_string hp (.inl htype) (by rw [htype]; exact hframe) hroom
    have hfwd : s.forwarded p l false = l := by
      have : numAt l 0 1 = 2 := htype
      simp [State.forwarded, this]
    have hrx := State.receive_broadcast hup hok hinj hsrc hdel
    rw [hR, hfwd, htype] at hrx
    simp only [Nat.reduceBEq, Bool.false_eq_true, if_false, OfNat.ofNat_ne_one] at hrx
    rw [State.sendRaw_up (by exact hopp)] at hrx
    exact ⟨_, (exec_ringFrameReceive ..).trans (congrArg _ hrx), rfl, rfl, rfl, rfl, rfl⟩
  case master =>
    intro s p l x hup hopp hp hok hinj hsrc hstr hdel htype hact hframe hlen hroom hx
    obtain ⟨R, hR⟩ := State.delivered_string hp (.inr (.inr ⟨htype, hstr, hact⟩)) (by rw [htype]; exact hframe) hroom
    have hrx := State.receive_broadcast hup hok hinj hsrc hdel
    rw [hR, htype] at hrx
    simp only [Nat.reduceBEq, Bool.false_eq_true, if_false, if_true] at hrx
    rw [State.sendRaw_up (by exact hopp)] at hrx
    refine ⟨_, s.forwarded p l false, (exec_ringFrameReceive ..).trans (congrArg _ hrx), rfl, rfl, ?_, ?_, fun i hi hfield => ?_, rfl⟩
    · rw [State.forwarded_master htype hx]
      simp
      omega
    · rw [State.forwarded_master htype hx, numAt_append (by simp; omega) (bytesOf_length ..), numOf_bytesOf, show 256 ^ 2 = 65536 from rfl]
    · rw [State.forwarded_master htype hx, delayField_getElem? hlen (bytesOf_length ..) hi hfield]
  case unicast =>
    intro s p l hup hp hok hinj hsrc hdel hdst hrole htype hframe hroom
    obtain ⟨R, hR⟩ := State.delivered_string hp (.inr (.inl htype)) (by rw [htype]; exact hframe) hroom
    have hrx := State.receive_unicast hup hok hinj hsrc hdel hdst
    rw [hR, if_pos hrole, htype] at hrx
    simp only [OfNat.ofNat_ne_one, if_false] at hrx
    exact ⟨_, (exec_ringFrameReceive ..).trans (congrArg _ hrx), rfl, rfl, rfl⟩
  case stale =>
    intro s p l hup hok hinj hsrc hdel hdst hrole
    have hrx := State.receive_unicast hup hok hinj hsrc hdel hdst
    obtain ⟨R, hR⟩ := s.heardFrame_eq p l
    rw [hR, if_neg (by simp [hrole])] at hrx
    refine ⟨_, (exec_ringFrameReceive ..).trans (congrArg _ hrx), rfl, fun ha => ?_, rfl, rfl, rfl⟩
    rw [← staleWord_eq s.roleByte_lt s.ring.epoch.isLt]
    simp [State.staleReply, State.setRing, ha, State.roleByte]
  case own =>
    intro s p l hup hok hinj hsrc
    obtain ⟨hrx, hsent, hroster, hframe⟩ := (s.tally 6 1).stripOwn_keeps p l true
    refine ⟨_, (exec_ringFrameReceive ..).trans (congrArg _ (State.receive_own hup hok hinj hsrc)), hrx, hsent, hroster, ?_⟩
    rw [hframe]
    rfl
  case request =>
    intro s p l hup hok hinj hsrc hdel htype hframe hbit hroom
    obtain ⟨u, R, hrx, hR⟩ := State.receive_delay hup hok hinj hsrc hdel htype
    rw [State.dlTake, if_neg (by simp [hbit])] at hrx
    have hroom' : u.aqRoom [p] 28 := by
      intro q hq _
      obtain rfl : q = p := by simpa using hq
      rw [hR]
      exact hroom
    obtain ⟨htook, hsends⟩ := State.sendFrame_room (ps := [p]) (by simp) { type := 7, flags := 2 } (body := dlBody true (Config.turnaround p l))
      (by simp [dlBody]) hroom'
    have hup' : u.portUp p = true := by rw [hR]; exact hup
    have hfr : u.frame = s.frame := by rw [hR]; exact State.frame_congr rfl rfl rfl rfl rfl
    generalize u.sendFrame [p] { type := 7, flags := 2 } (dlBody true (Config.turnaround p l)) = v at htook hsends hrx
    rw [List.filter_cons_of_pos hup', List.filter_nil, List.map_singleton, hfr, hR] at hsends
    rw [State.injRecovered_not (by rw [hsends, htype]; exact hframe)] at hrx
    refine ⟨v, (exec_ringFrameReceive ..).trans (congrArg _ hrx), by rw [hsends], ?_, by rw [hsends]⟩
    rw [hR] at htook
    exact htook
  case answer =>
    intro s p l x hup hok hinj hsrc hdel htype hframe hbit hx
    obtain ⟨u, R, hrx, hR⟩ := State.receive_delay hup hok hinj hsrc hdel htype
    rw [State.dlTake, if_pos hbit, hR, State.setPort_eq (by exact hx), State.injRecovered_not (by rw [htype]; exact hframe)] at hrx
    exact ⟨_, (exec_ringFrameReceive ..).trans (congrArg _ hrx), rfl, rfl, rfl⟩

end Sys2Proof.Proofs
end

section
/-! PROOFS. The frames that are due: the length of a string frame. -/

namespace Sys2Proof.Machine

/-- An active Master in the first beat, its four ports UP and its FIFOs empty, whose limit publication holds no charge limit: such a
string frame is 12 bytes shorter than the 92 of R420. -/
def shortPublication : State :=
  { pwr.state := .active, beat.running := true, beat.bStage := 1, ring.ports := List.replicate 4 { up := true }, ring.role := 2,
    ring.active := true, lim.pub.chg := [] }

/-- The state after its string frame has left. -/
def shortPublicationSent : State :=
  ((shortPublication.at 950000).sendFrame [.e, .w] { type := 16, flags := 2 } shortPublication.tfBody).setRing fun r =>
    { r with tfSent := true, trunkReplies := r.trunkReplies.drop 1, staleTrunk := false }

theorem shortPublication_due : shortPublication.tfDue = true ∧ (shortPublication.at 950000).aqRoom [.e, .w] 92 := by
  decide +kernel

theorem exec_tfSend_shortPublication : exec .tfSend shortPublication = .next shortPublicationSent :=
  congrArg Host.Outcome.next (if_pos shortPublication_due.1)

/-- 80 bytes enter XS_AQ of port E. -/
theorem shortPublicationSent_aqLeft : shortPublicationSent.aqLeft .e = 80 ∧ (shortPublication.at 950000).aqLeft .e = 0 ∧
    (shortPublication.at 950000).portUp .e = true := by
  decide +kernel

end Sys2Proof.Machine

namespace Sys2Proof.Proofs
open Sys2Proof.Machine

/-- Refutes O47: the clause of TF_SEND gives every string frame 92 bytes, but its body holds the lists of the limit publication as they
stand, and the statement does not ask that they have their three charge and three discharge values; with an empty list of charge limits
80 bytes enter the port's FIFO. -/
theorem not_ringSends : ¬ Obligations.RingSends := by
  rintro ⟨-, -, -, -, tfSend, -⟩
  obtain ⟨hdue, hroom⟩ := shortPublication_due
  obtain ⟨t, hx, htook, -⟩ := tfSend shortPublication hdue hroom
  obtain rfl : shortPublicationSent = t := by
    rw [exec_tfSend_shortPublication] at hx
    exact Host.Outcome.next.inj hx
  obtain ⟨hafter, hbefore, hup⟩ := shortPublicationSent_aqLeft
  obtain ⟨hbytes, -⟩ := htook .e
  rw [if_pos ⟨by decide, hup⟩, hafter, hbefore] at hbytes
  exact absurd hbytes (by decide)

end Sys2Proof.Proofs
end

section
/-! PROOFS. The frames of the string ring: the accounting copy that a standby Master takes. -/

namespace Sys2Proof.Machine

/-- A Master frame without entries, with the accounting copy of an empty checkpoint (R269, R406). -/
def copyFrame : List Byte := [1] ++ List.replicate 43 0 ++ sealFrame (List.replicate 28 0) ++ sealFrame (List.replicate 28 0) ++ List.replicate 4 0

/-- A standby Master that has such a frame before it, while a word of its record's next checkpoint slot cannot be read. -/
def copyPoisoned : State :=
  { pwr.state := .active, beat.running := true, beat.bStage := 1, ring.role := 2, ring.rx := [⟨.n, copyFrame⟩],
    mem.poisoned := [(.mram, recWord 0 3), (.mram, recWord 0 5)] }

/-- The state after the frame has been taken. -/
def copyTaken : State := (copyPoisoned.setRing fun r => { r with rx := r.rx.erase ⟨.n, copyFrame⟩ }).mfTake 0 0 .n copyFrame

theorem copyPoisoned_receives : copyPoisoned.ring.rx.find? (fun f => numAt f.bytes 0 1 == 1) = some ⟨.n, copyFrame⟩ ∧
    copyPoisoned.runs .a = true ∧ copyPoisoned.ring.active = false ∧ copyPoisoned.ring.mfSeen = false ∧
    ((mfEntries copyFrame).all fun e => e.dst != copyPoisoned.addr) = true := by
  decide +kernel

theorem exec_mfReceive_copyPoisoned : exec (.mfReceive 0 0) copyPoisoned = .next copyTaken := by
  obtain ⟨hfind, hruns, -⟩ := copyPoisoned_receives
  have hpop : copyPoisoned.rxPop 1 = some (⟨.n, copyFrame⟩, copyPoisoned.setRing fun r => { r with rx := r.rx.erase ⟨.n, copyFrame⟩ }) := by
    simp only [State.rxPop, hruns, Bool.true_and, hfind]
  have hexec : exec (.mfReceive 0 0) copyPoisoned = execMfReceive 0 0 copyPoisoned := rfl
  rw [hexec, execMfReceive, hpop]
  rfl

/-- The checkpoint slot is written whole, and its word is poisoned no longer (R43, R249). -/
theorem copyTaken_poisoned : copyTaken.mem.poisoned.length = 1 := by
  decide +kernel

end Sys2Proof.Machine

namespace Sys2Proof.Proofs
open Sys2Proof.Machine

/-- Refutes O48: the clause of the first Master frame lets only the beat, the rings, the charge counting and the balancing change; a
standby Master keeps the frame's accounting copy in its own record (R249), and so heals a poisoned word of the slot that it writes: the
memory's list of poisoned words changes too. -/
theorem not_stringFrames : ¬ Obligations.StringFrames := by
  rintro ⟨mfReceive, -⟩
  obtain ⟨hfind, hruns, hact, hseen, hent⟩ := copyPoisoned_receives
  obtain ⟨t, hx, hrest⟩ := mfReceive copyPoisoned ⟨.n, copyFrame⟩ 0 0 hfind hruns hact hseen hent
  obtain ⟨-, -, -, -, -, -, -, -, -, -, -, -, -, hframe⟩ := hrest
  obtain rfl : copyTaken = t := by
    rw [exec_mfReceive_copyPoisoned] at hx
    exact Host.Outcome.next.inj hx
  have hmem : copyTaken.mem = copyPoisoned.mem := by rw [hframe]
  have hlen := copyTaken_poisoned
  rw [hmem] at hlen
  exact absurd hlen (by decide)

end Sys2Proof.Proofs
end

section
/-! PROOFS. The boundary of a unit whose die A stands still: the accumulator is neither saved nor shown. -/

namespace Sys2Proof.Machine

/-- A beat whose work is done in a unit whose crystal A has failed, with one count in its accumulator. -/
def dieStopped : State :=
  { pwr.state := .active, beat.running := true, beat.bStage := 1, beat.doneA := some 900, beat.doneB := some 900,
    beat.eStage := 37, safe.x.done := true, xtalA := false, meas.qA := [(1, 0), (0, 0)] }

/-- A boundary with nothing remarkable. -/
def stillBoundary : BoundaryIn := ⟨200000, 0, 65, 0, 0, 24000, false, none, none⟩

/-- The ended beat, with nothing owed. -/
theorem dieStopped_ended : dieStopped.pwr.stopping = false ∧ dieStopped.evalOn = true ∧ dieStopped.settle.evalOn = true ∧
    dieStopped.settle.finishBeat.pwr.entry = none ∧ dieStopped.settle.finishBeat.cfg.resetDue = none ∧
    dieStopped.settle.finishBeat.chg.slow = false ∧ dieStopped.settle.finishBeat.meas.qA = [(1, 0), (0, 0)] := by
  decide +kernel

/-- Without channel A the comparison, the saving and the showing of the accumulator do not happen (R24, R174). -/
theorem dieStopped_notSaved : (dieStopped.beatBoundary stillBoundary).meas.qSaved ≠ [(1, 0), (0, 0)] := by
  decide +kernel

end Sys2Proof.Machine

namespace Sys2Proof.Proofs
open Sys2Proof.Machine

/-- Refutes O6: the clause of the ordinary boundary has the accumulator saved and shown whenever the cadence is not slow; the charge of
a boundary is work of channel A (R174, R248), and in a unit whose crystal A has failed while B goes on it is not done. -/
theorem not_beatBoundary : ¬ Obligations.BeatBoundary := by
  rintro ⟨-, ordinary, -⟩
  obtain ⟨hstop, hon, hsettled, hentry, hreset, hslow, hqA⟩ := dieStopped_ended
  obtain ⟨t, hx, hrest⟩ := ordinary dieStopped _ stillBoundary hstop hon hsettled rfl hentry hreset
  obtain ⟨-, -, -, -, -, -, -, -, -, -, -, -, hcharge, -⟩ := hrest
  obtain rfl : dieStopped.beatBoundary stillBoundary = t := Host.Outcome.next.inj hx
  exact dieStopped_notSaved ((hcharge hslow).1.trans hqA)

end Sys2Proof.Proofs
end

section
/-! PROOFS. Enumeration and the roles of Masters (R38, R40, R391, R411-R415). -/

namespace Sys2Proof.Machine

/-! Step 1 of an enumeration: EN and the delay requests -/

/-- One delay request leaves by a port that is UP and has room for it (R391). -/
def State.dlAsked (p : RPort) (s : State) : State :=
  (s.aqSent p (s.frame p { type := 7, flags := 2 } (dlBody false 0))).setPort p fun x => { x with asked := true, turn := none }

theorem State.dlAsked_eq {p : RPort} {s : State} (hup : s.portUp p = true) (hroom : s.aqLeft p + 28 ≤ 4096) :
    (s.sendFrame [p] { type := 7, flags := 2 } (dlBody false 0)).setPort p (fun x => { x with asked := true, turn := none }) =
      s.dlAsked p := by
  have hlen : (s.frame p { type := 7, flags := 2 } (dlBody false 0)).length = 28 := by simp [dlBody]
  rw [State.sendFrame_eq, State.sendOn_cons (fun _ => by rw [hlen]; exact hroom), if_pos hup]
  rfl

theorem State.dlAsked_ne {p q : RPort} (h : q ≠ p) (s : State) :
    (s.dlAsked p).portUp q = s.portUp q ∧ (s.dlAsked p).aqLeft q = s.aqLeft q := by
  have hix : q.ix ≠ p.ix := fun he => h (RPort.ix_inj.1 he)
  refine ⟨(State.setPort_portUp h ..).trans (State.aqSent_portUp ..), ?_⟩
  have hports : (s.dlAsked p).ring.ports[q.ix]? = s.ring.ports[q.ix]? := by
    rw [State.dlAsked, State.setPort_get_ne hix]
    simp [State.aqSent, Ne.symm hix]
  rw [State.aqLeft, hports]
  rfl

/-- What a delay request leaves in a port depends on its link alone. -/
theorem PortS.map_asked (c : Prop) [Decidable c] (x : Option PortS) :
    (x.map fun x => if c then { x.link with asked := true, turn := none } else x.link) =
      (x.map PortS.link).map fun y => if c then { y with asked := true, turn := none } else y := by
  rw [Option.map_map]
  rfl

theorem State.dlAsked_link (p q : RPort) (s : State) :
    ((s.dlAsked p).ring.ports[q.ix]?).map PortS.link =
      (s.ring.ports[q.ix]?).map fun x => if q = p then { x.link with asked := true, turn := none } else x.link := by
  have hsent := State.aqSent_link p q (s.frame p { type := 7, flags := 2 } (dlBody false 0)) s
  by_cases h : q = p
  · subst h
    rw [State.dlAsked, State.setPort_get]
    cases hx : (s.aqSent q (s.frame q { type := 7, flags := 2 } (dlBody false 0))).ring.ports[q.ix]? <;> rw [hx] at hsent <;>
      cases hy : s.ring.ports[q.ix]? <;> rw [hy] at hsent <;> simp_all [PortS.link]
  · rw [State.dlAsked, State.setPort_get_ne (fun he => h (RPort.ix_inj.1 he)), hsent]
    simp [h]

/-- Delay requests on distinct ports that are UP and have room (R391): one frame a port, and every one of them asked. -/
theorem State.dlAsked_all {qs : List RPort} (hqs : qs.Nodup) {s : State}
    (hroom : ∀ q ∈ qs, s.portUp q = true ∧ s.aqLeft q + 28 ≤ 4096) {t : State}
    (ht : t = qs.foldl (fun t p =>
      (t.sendFrame [p] { type := 7, flags := 2 } (dlBody false 0)).setPort p fun x => { x with asked := true, turn := none }) s) :
    t.ring.sent = s.ring.sent ++ qs.map (fun p => (p, s.frame p { type := 7, flags := 2 } (dlBody false 0), false)) ∧
    (∀ p : RPort, (t.ring.ports[p.ix]?).map PortS.link = (s.ring.ports[p.ix]?).map fun x =>
      if p ∈ qs then { x.link with asked := true, turn := none } else x.link) ∧
    t = { s with sys := t.sys, ring := { s.ring with sent := t.ring.sent, ports := t.ring.ports } } := by
  induction qs generalizing s with
  | nil =>
    subst ht
    exact ⟨by simp, fun p => by simp only [List.not_mem_nil, if_false], rfl⟩
  | cons q qs ih =>
    obtain ⟨hq, hqs⟩ := List.nodup_cons.1 hqs
    obtain ⟨hup, hleft⟩ := hroom q (by simp)
    rw [List.foldl_cons, State.dlAsked_eq hup hleft] at ht
    obtain ⟨hsent, hlink, heq⟩ := ih hqs (s := s.dlAsked q) (fun p hp => by
      obtain ⟨hpu, hpl⟩ := State.dlAsked_ne (p := q) (fun h => hq (h ▸ hp)) s
      rw [hpu, hpl]
      exact hroom p (by simp [hp])) ht
    refine ⟨?_, fun p => ?_, heq⟩
    · rw [hsent]
      simp only [State.dlAsked, List.map_cons]
      show (s.ring.sent ++ [_]) ++ _ = _
      rw [List.append_assoc]
      rfl
    · rw [hlink, PortS.map_asked, State.dlAsked_link, PortS.map_asked, PortS.map_asked, Option.map_map]
      refine congrArg (fun f => Option.map f _) (funext fun y => ?_)
      by_cases hpq : p = q
      · subst hpq
        simp [hq]
      · simp [hpq]

/-- The four ports of a unit. -/
theorem allPorts_nodup : [RPort.n, .s, .e, .w].Nodup := by decide

theorem RPort.mem_all (p : RPort) : p ∈ [RPort.n, .s, .e, .w] := by cases p <;> decide

/-- Step 1 of an enumeration with room for its two frames on every port that is UP (R391, R411). -/
theorem State.enumStart_room {s t : State} (hroom : s.aqRoom [.n, .s, .e, .w] 48) (ht : t = s.enumStart) :
    t.ring.enumRun = true ∧ t.ring.enumDue = true ∧ t.ring.enBack = [] ∧
    t.ring.sent = s.ring.sent ++
      ([RPort.n, .s, .e, .w].filter s.portUp).map (fun p => (p, s.frame p { type := 5, flags := 2 } [], false)) ++
      ([RPort.n, .s, .e, .w].filter s.portUp).map (fun p => (p, s.frame p { type := 7, flags := 2 } (dlBody false 0), false)) ∧
    (∀ p : RPort, (t.ring.ports[p.ix]?).map PortS.link = (s.ring.ports[p.ix]?).map fun x =>
      if s.portUp p then { x.link with asked := true, turn := none } else x.link) ∧
    t = { s with sys := t.sys, ring := { s.ring with
      enumRun := true, enumDue := true, enBack := [], sent := t.ring.sent, ports := t.ring.ports } } := by
  obtain ⟨htook, hen⟩ := State.sendFrame_room allPorts_nodup (s := s) (n := 20) { type := 5, flags := 2 } (body := []) (by simp)
    fun p hp hup => by have := hroom p hp hup; omega
  rw [State.enumStart] at ht
  generalize s.sendFrame [.n, .s, .e, .w] { type := 5, flags := 2 } [] = u at ht htook hen
  have hup : u.portUp = s.portUp := funext fun p =>
    State.portUp_congr (by rw [hen]) (htook p).2 (by rw [hen]) (by rw [hen]; rfl)
  have hframe : u.frame = s.frame := by rw [hen]; rfl
  generalize hv : u.dlAsk [.n, .s, .e, .w] = v at ht
  obtain ⟨hsent, hlink, heq⟩ := State.dlAsked_all (allPorts_nodup.filter _) (s := u) (fun q hq => by
    obtain ⟨hmem, hq⟩ := List.mem_filter.1 hq
    have hleft := (htook q).1
    rw [hup] at hq
    have := hroom q hmem hq
    rw [if_pos ⟨hmem, hq⟩] at hleft
    exact ⟨by rw [hup]; exact hq, by omega⟩) hv.symm
  subst ht
  refine ⟨rfl, rfl, rfl, ?_, fun p => ?_, ?_⟩
  · show v.ring.sent = _
    rw [hsent, hframe, hup]
    congr 1
    rw [hen]
  · show v.ring.ports[p.ix]?.map PortS.link = _
    simp only [hlink, List.mem_filter, RPort.mem_all, true_and, hup, PortS.map_asked, (htook p).2]
  · rw [heq, hen]
    rfl

/-! The roster of an enumeration -/

theorem eraseDups_nodup {α : Type} [BEq α] [LawfulBEq α] (l : List α) : l.eraseDups.Nodup := by
  match l with
  | [] => simp
  | a :: l =>
    have : (l.filter fun b => !b == a).length < l.length + 1 := Nat.lt_succ_of_le (List.length_filter_le ..)
    rw [List.eraseDups_cons, List.nodup_cons]
    exact ⟨by simp, eraseDups_nodup _⟩
termination_by l.length

/-- Entries that carry the name of their group: those of one name are its group. -/
theorem filter_flatMap_key {α β : Type} [DecidableEq α] {names : List α} (hn : names.Nodup) {R : α → List β} {key : β → α}
    (hR : ∀ u, ∀ e ∈ R u, key e = u) {a : α} (ha : a ∈ names) : (names.flatMap R).filter (fun e => key e == a) = R a := by
  have hone (u : α) : (R u).filter (fun e => key e == a) = if u = a then R u else [] := by
    by_cases h : u = a
    · rw [if_pos h, List.filter_eq_self]
      exact fun e he => by simp [hR u e he, h]
    · rw [if_neg h, List.filter_eq_nil_iff]
      exact fun e he => by simp [hR u e he, h]
  induction names with
  | nil => simp at ha
  | cons u us ih =>
    obtain ⟨hu, hus⟩ := List.nodup_cons.1 hn
    rw [List.flatMap_cons, List.filter_append, hone]
    by_cases h : u = a
    · subst h
      have hrest : (us.flatMap R).filter (fun e => key e == u) = [] := by
        rw [List.filter_eq_nil_iff]
        intro e he
        obtain ⟨v, hv, hev⟩ := List.mem_flatMap.1 he
        simp only [hR v e hev, beq_iff_eq]
        exact fun hvu => hu (hvu ▸ hv)
      rw [if_pos rfl, hrest, List.append_nil]
    · rw [if_neg h, List.nil_append]
      exact ih hus ((List.mem_cons.1 ha).resolve_left (Ne.symm h))

theorem positions_eq_nil {α : Type} {p : α → Bool} {l : List α} : positions p l = [] ↔ ∀ x ∈ l, p x = false := by
  simp only [positions, List.map_eq_nil_iff, List.filter_eq_nil_iff, Bool.not_eq_true]
  constructor
  · intro h x hx
    obtain ⟨i, hi⟩ := List.getElem?_of_mem hx
    exact h (i, x) (mem_indexed.2 hi)
  · intro h x hx
    exact h x.2 (List.mem_of_getElem? (mem_indexed.1 hx))

theorem hopsAt_eq_nil {fd : List Found} {p : RPort} {u : UAddr} :
    hopsAt fd p u = [] ↔ ∀ f ∈ fd, f.2.2.2.2 = p → f.1 ≠ u := by
  simp [hopsAt, positions_eq_nil]

/-- A unit has a place exactly when a copy on a string port met it (R411). -/
theorem placesOf_isEmpty (cl : Bool) (fd : List Found) (u : UAddr) :
    (placesOf cl fd u).isEmpty = !(fd.any fun f => f.1 == u && (f.2.2.2.2 == .n || f.2.2.2.2 == .s)) := by
  have hempty : placesOf cl fd u = [] ↔ hopsAt fd .n u = [] ∧ hopsAt fd .s u = [] := by
    rw [placesOf]
    split
    · next h =>
      have hn : hopsAt fd .n u ≠ [] := by
        intro hn
        simp [hn] at h
      have hlen : (indexed (hopsAt fd .n u)) ≠ [] := by
        intro h0
        exact hn (List.length_eq_zero_iff.1 (by rw [← indexed_length, h0]; rfl))
      simp [hn, hlen]
    · simp
  rw [Bool.eq_iff_iff, List.isEmpty_iff, hempty, hopsAt_eq_nil, hopsAt_eq_nil]
  simp only [Bool.not_eq_true', List.any_eq_false, Bool.and_eq_true, Bool.or_eq_true, beq_iff_eq]
  constructor
  · rintro ⟨hn, hs⟩ f hf ⟨ha, hp | hp⟩
    · exact hn f hf hp ha
    · exact hs f hf hp ha
  · exact fun h => ⟨fun f hf hp ha => h f hf ⟨ha, .inl hp⟩, fun f hf hp ha => h f hf ⟨ha, .inr hp⟩⟩

theorem State.unit?_addr (s : State) (u : UAddr) : ((s.unit? u).getD { addr := u }).addr = u := by
  cases h : s.unit? u with
  | none => rfl
  | some x => simpa using List.find?_some h

/-- The entries of one address (R38, R411, R412): one of it, or of the other units that answer to it. -/
structure EntriesOf (s : State) (cl : Bool) (fd : List Found) (u : UAddr) (l : List UnitS) : Prop where
  addr : ∀ e ∈ l, e.addr = u
  length : l.length = if u = s.addr then (placesOf cl fd u).length + 1 else max 1 (placesOf cl fd u).length
  pres : u ≠ s.addr → ∀ e ∈ l, e.pres = !(placesOf cl fd u).isEmpty
  expect : u ≠ s.addr → ∀ e ∈ l, e.expect = true → s.ringOrder.contains u = true
  noSlot : u ≠ s.addr → ∀ e ∈ l, e.pres = true → e.expect = false → e.noSlot = true

theorem State.rosterEntries_of (s : State) (cl : Bool) (fd : List Found) (sn : List (UAddr × BitVec 64)) (u : UAddr) :
    EntriesOf s cl fd u (s.rosterEntries cl fd sn u) := by
  have hold := s.unit?_addr u
  unfold State.rosterEntries
  extract_lets old listed places here others
  have hhere (x : Nat × Nat) : (here x).addr = u ∧ (here x).pres = true := by
    simp only [here]
    split <;> exact ⟨rfl, rfl⟩
  have hothers {l : List (Nat × Nat)} {e : UnitS} (he : e ∈ others l) :
      e.addr = u ∧ e.pres = true ∧ e.expect = false ∧ e.noSlot = true := by
    obtain ⟨x, -, rfl⟩ := List.mem_map.1 he
    exact ⟨(hhere x).1, (hhere x).2, rfl, rfl⟩
  split
  · next hu =>
    refine ⟨?_, by simp [others, hu, places], fun h => absurd hu h, fun h => absurd hu h, fun h => absurd hu h⟩
    intro e he
    rcases List.mem_cons.1 he with rfl | he
    · exact hold
    · exact (hothers he).1
  · next hu =>
    split
    · next hnone =>
      have hplaces : placesOf cl fd u = [] := List.head?_eq_none_iff.1 (Option.or_eq_none_iff.1 hnone).2
      refine ⟨?_, by simp [hu, hplaces], fun _ => ?_, fun _ => ?_, fun _ => ?_⟩ <;>
        (intro e he; obtain rfl := List.mem_singleton.1 he)
      · exact hold
      · rw [hplaces]
        rfl
      · exact id
      · exact fun h => absurd h Bool.false_ne_true
    · next x hx =>
      have hmem : x ∈ places := by
        rcases Option.or_eq_some_iff.1 hx with hx | ⟨-, hx⟩
        · exact List.mem_of_find?_eq_some hx
        · exact List.mem_of_head? hx
      have hpos : 0 < places.length := List.length_pos_of_mem hmem
      have hnonempty : (placesOf cl fd u).isEmpty = false := by
        rw [List.isEmpty_eq_false_iff]
        exact List.ne_nil_of_mem hmem
      refine ⟨?_, ?_, fun _ => ?_, fun _ => ?_, fun _ => ?_⟩
      · intro e he
        rcases List.mem_cons.1 he with rfl | he
        · exact hold
        · exact (hothers he).1
      · rw [if_neg hu, List.length_cons, List.length_map, List.length_erase_of_mem hmem]
        show places.length - 1 + 1 = max 1 places.length
        omega
      · intro e he
        rw [hnonempty]
        rcases List.mem_cons.1 he with rfl | he
        · rfl
        · exact (hothers he).2.1
      · intro e he
        rcases List.mem_cons.1 he with rfl | he
        · exact id
        · exact fun h => absurd ((hothers he).2.2.1.symm.trans h) Bool.false_ne_true
      · intro e he
        rcases List.mem_cons.1 he with rfl | he
        · exact fun _ h => by simp [show listed = false from h]
        · exact fun _ _ => (hothers he).2.2.2

/-- The addresses of a roster (R38, R411): those that RING_ORDER lists and those that a copy on a string port met. -/
def State.rosterNames (s : State) (fd : List Found) : List UAddr :=
  (s.ringOrder ++ ((fd.filter fun f => f.2.2.2.2 == .n || f.2.2.2.2 == .s).map (·.1)).filter
    fun u => !s.ringOrder.contains u).eraseDups

theorem State.rosterNames_nodup (s : State) (fd : List Found) : (s.rosterNames fd).Nodup := eraseDups_nodup _

theorem State.mem_rosterNames {s : State} {fd : List Found} {a : UAddr} :
    a ∈ s.rosterNames fd ↔ a ∈ s.ringOrder ∨ ∃ f ∈ fd, f.1 = a ∧ (f.2.2.2.2 = .n ∨ f.2.2.2.2 = .s) := by
  simp only [State.rosterNames, List.mem_eraseDups, List.mem_append, List.mem_filter, List.mem_map, Bool.not_eq_true',
    List.contains_eq_mem, decide_eq_false_iff_not, Bool.or_eq_true, beq_iff_eq]
  constructor
  · rintro (h | ⟨⟨f, ⟨hf, hp⟩, rfl⟩, -⟩)
    · exact .inl h
    · exact .inr ⟨f, hf, rfl, hp⟩
  · rintro (h | ⟨f, hf, rfl, hp⟩)
    · exact .inl h
    · by_cases hl : f.1 ∈ s.ringOrder
      · exact .inl hl
      · exact .inr ⟨⟨f, ⟨hf, hp⟩, rfl⟩, hl⟩

/-- The roster that an enumeration makes (R38, R411, R412). -/
def State.newRoster (s : State) (cl : Bool) (fd : List Found) (sn : List (UAddr × BitVec 64)) : List UnitS :=
  (s.rosterNames fd).flatMap (s.rosterEntries cl fd sn)

theorem State.mem_newRoster {s : State} {cl : Bool} {fd : List Found} {sn : List (UAddr × BitVec 64)} {e : UnitS}
    (he : e ∈ s.newRoster cl fd sn) : e.addr ∈ s.rosterNames fd ∧ e ∈ s.rosterEntries cl fd sn e.addr := by
  obtain ⟨u, hu, heu⟩ := List.mem_flatMap.1 he
  obtain rfl := (s.rosterEntries_of cl fd sn u).addr e heu
  exact ⟨hu, heu⟩

theorem State.rosterEntries_ne_nil (s : State) (cl : Bool) (fd : List Found) (sn : List (UAddr × BitVec 64)) (u : UAddr) :
    s.rosterEntries cl fd sn u ≠ [] := by
  intro h
  have hlen := (s.rosterEntries_of cl fd sn u).length
  rw [h] at hlen
  split at hlen
  · simp at hlen
  · simp only [List.length_nil] at hlen
    omega

theorem State.newRoster_addr {s : State} {cl : Bool} {fd : List Found} {sn : List (UAddr × BitVec 64)} {a : UAddr} :
    (∃ u ∈ s.newRoster cl fd sn, u.addr = a) ↔ a ∈ s.rosterNames fd := by
  constructor
  · rintro ⟨u, hu, rfl⟩
    exact (State.mem_newRoster hu).1
  · intro ha
    obtain ⟨e, he⟩ := List.exists_mem_of_ne_nil _ (s.rosterEntries_ne_nil cl fd sn a)
    exact ⟨e, List.mem_flatMap.2 ⟨a, ha, he⟩, (s.rosterEntries_of cl fd sn a).addr e he⟩

theorem State.newRoster_count {s : State} {cl : Bool} {fd : List Found} {sn : List (UAddr × BitVec 64)} {a : UAddr}
    (ha : a ∈ s.rosterNames fd) : ((s.newRoster cl fd sn).filter fun u => u.addr == a).length =
      if a = s.addr then (placesOf cl fd a).length + 1 else max 1 (placesOf cl fd a).length := by
  rw [State.newRoster, filter_flatMap_key (s.rosterNames_nodup fd) (fun u => (s.rosterEntries_of cl fd sn u).addr) ha]
  exact (s.rosterEntries_of cl fd sn a).length

/-! What an enumeration leaves alone -/

/-- From s to t only ring frames have been sent, or dropped with FS71. -/
structure SentOnly (s t : State) : Prop where
  ring : t.ring = { s.ring with sent := t.ring.sent, ports := t.ring.ports }
  beat : t.beat = s.beat
  cha : t.cha = s.cha
  chb : t.chb = s.chb
  meas : t.meas = s.meas
  safe : t.safe = s.safe
  srcs : t.flt.src.length = s.flt.src.length

theorem SentOnly.refl (s : State) : SentOnly s s := ⟨rfl, rfl, rfl, rfl, rfl, rfl, rfl⟩

theorem SentOnly.trans {s t u : State} (h : SentOnly s t) (g : SentOnly t u) : SentOnly s u := by
  refine ⟨?_, g.beat.trans h.beat, g.cha.trans h.cha, g.chb.trans h.chb, g.meas.trans h.meas, g.safe.trans h.safe, g.srcs.trans h.srcs⟩
  have hring := g.ring
  rw [h.ring] at hring
  exact hring

theorem State.aqPush_sentOnly (p : RPort) (l : List Byte) (s : State) : SentOnly s (s.aqPush p l).1 := by
  unfold State.aqPush
  split
  · exact ⟨by simp, by simp, by simp, by simp, by simp, by simp, by simp⟩
  · exact ⟨rfl, rfl, rfl, rfl, rfl, rfl, rfl⟩

theorem State.sendRaw_sentOnly (p : RPort) (l : List Byte) (b : Bool) (s : State) : SentOnly s (s.sendRaw p l b) := by
  unfold State.sendRaw
  split
  · exact ⟨rfl, rfl, rfl, rfl, rfl, rfl, rfl⟩
  · exact .refl s

theorem State.sendFrame_sentOnly (ps : List RPort) (h : RHdr) (body : List Byte) (s : State) : SentOnly s (s.sendFrame ps h body) := by
  rw [State.sendFrame_eq]
  generalize (fun p => s.frame p h body) = F
  induction ps generalizing s with
  | nil => exact .refl s
  | cons p ps ih =>
    rw [State.sendOn, List.foldl_cons]
    refine SentOnly.trans ?_ (ih _)
    split
    · exact .refl s
    · dsimp only
      split
      · exact (s.aqPush_sentOnly p (F p)).trans (State.sendRaw_sentOnly ..)
      · exact s.aqPush_sentOnly p (F p)

/-! The result of an enumeration -/

/-- The Master with its new roster, before ER leaves (R38, R411, R412). -/
def State.rostered (s : State) (cl : Bool) (fd : List Found) (sn : List (UAddr × BitVec 64)) : State :=
  s.setRing fun r =>
    { r with
      roster := s.newRoster cl fd sn, enumDue := false, enumRun := false, enBack := []
      addrConflict := fd.any fun f => f.1 == s.addr && (f.2.2.2.2 == .n || f.2.2.2.2 == .s)
      strNext := if !s.multiUnit then .lost else if cl then .closed else .opn
      mfBackN := r.mfBackN || cl, mfBackS := r.mfBackS || cl }

/-- ER on both rings (R396, R411). -/
def State.erSent (s : State) (cl : Bool) (fd : List Found) (sn : List (UAddr × BitVec 64)) : State :=
  let t := s.rostered cl fd sn
  (t.sendFrame [.n, .s] { type := 6, flags := 2 } ((s.newRoster cl fd sn).flatMap UnitS.erBytes)).sendFrame [.e, .w]
    { type := 6, flags := 2 } ((s.trunkUnits fd).flatMap UnitS.erBytes)

theorem State.erSent_sentOnly (s : State) (cl : Bool) (fd : List Found) (sn : List (UAddr × BitVec 64)) :
    SentOnly (s.rostered cl fd sn) (s.erSent cl fd sn) :=
  (State.sendFrame_sentOnly ..).trans (State.sendFrame_sentOnly ..)

theorem State.erSent_roster (s : State) (cl : Bool) (fd : List Found) (sn : List (UAddr × BitVec 64)) :
    (s.erSent cl fd sn).ring.roster = s.newRoster cl fd sn := by
  rw [(s.erSent_sentOnly cl fd sn).ring]
  rfl

theorem State.enumResult_eq (cl : Bool) (fd : List Found) (sn : List (UAddr × BitVec 64)) (s : State) :
    s.enumResult cl fd sn = (onlyIf ((s.newRoster cl fd sn).any (·.noSlot)) (State.raise 59 0) (s.erSent cl fd sn)).follow 14 0
      (fd.any fun f => f.1 == s.addr && (f.2.2.2.2 == .n || f.2.2.2.2 == .s)) := by
  rw [← s.erSent_roster cl fd sn]
  rfl

theorem UnitS.erBytes_length (u : UnitS) : u.erBytes.length = 8 := by
  simp [UnitS.erBytes]

theorem erBody_length (l : List UnitS) : (l.flatMap UnitS.erBytes).length = 8 * l.length := by
  simp [List.length_flatMap, UnitS.erBytes_length, Nat.mul_comm]

/-- ER of both rings with room on every port that is UP (R392, R411). -/
theorem State.erSent_room {s : State} {cl : Bool} {fd : List Found} {sn : List (UAddr × BitVec 64)}
    (hstring : s.aqRoom [.n, .s] (20 + 8 * (s.newRoster cl fd sn).length))
    (htrunk : s.aqRoom [.e, .w] (20 + 8 * (s.trunkUnits fd).length)) :
    (s.erSent cl fd sn).ring.sent = s.ring.sent ++ ([RPort.n, .s].filter s.portUp).map (fun p =>
        (p, s.frame p { type := 6, flags := 2 } ((s.newRoster cl fd sn).flatMap UnitS.erBytes), false)) ++
      ([RPort.e, .w].filter s.portUp).map (fun p =>
        (p, s.frame p { type := 6, flags := 2 } ((s.trunkUnits fd).flatMap UnitS.erBytes), false)) := by
  have hframe : (s.rostered cl fd sn).frame = s.frame := rfl
  have hup0 : (s.rostered cl fd sn).portUp = s.portUp := rfl
  obtain ⟨htook, heq⟩ := State.sendFrame_room (ps := [.n, .s]) (by decide) (s := s.rostered cl fd sn) { type := 6, flags := 2 }
    (by rw [erBody_length, Nat.add_comm]) (fun p hp hup => hstring p hp hup)
  rw [State.erSent]
  generalize (s.rostered cl fd sn).sendFrame [.n, .s] { type := 6, flags := 2 } ((s.newRoster cl fd sn).flatMap UnitS.erBytes) = u
    at htook heq
  have hup : u.portUp = s.portUp := funext fun p =>
    State.portUp_congr (by rw [heq]; rfl) (htook p).2 (by rw [heq]; rfl) (by rw [heq]; rfl)
  have hsent : u.ring.sent = s.ring.sent ++ ([RPort.n, .s].filter s.portUp).map (fun p =>
      (p, s.frame p { type := 6, flags := 2 } ((s.newRoster cl fd sn).flatMap UnitS.erBytes), false)) := by
    rw [heq]
    rfl
  have hframe' : u.frame = s.frame := by
    rw [heq]
    rfl
  obtain ⟨-, heq'⟩ := State.sendFrame_room (ps := [.e, .w]) (by decide) (s := u) { type := 6, flags := 2 }
    (body := (s.trunkUnits fd).flatMap UnitS.erBytes) (by rw [erBody_length, Nat.add_comm]) (fun p hp hpu => by
      have hnot : p ∉ [RPort.n, .s] := by
        intro hmem
        simp only [List.mem_cons, List.not_mem_nil, or_false] at hp hmem
        rcases hp with rfl | rfl <;> simp at hmem
      rw [hup] at hpu
      rw [(htook p).1, if_neg fun h => hnot h.1]
      exact htrunk p hp hpu)
  rw [heq', hup, hsent, hframe']

/-- A condition follows what holds (R365). -/
theorem State.follow_cond {s : State} {n : Nat} (hn : n < s.flt.src.length) (d : Word) (now : Bool) :
    ((s.follow n d now).fs n).cond = now := by
  unfold State.follow
  have hwas : (s.flt.src[n]?.getD {}).cond = (s.fs n).cond := rfl
  rw [hwas]
  cases hc : (s.fs n).cond <;> cases now
  · simpa using hc
  · simpa using (State.raiseCond_fs hn d).2
  · simp [State.endCond_fs]
  · simpa using hc

theorem State.follow_fs_ne {n j : Nat} (h : j ≠ n) (d : Word) (now : Bool) (s : State) : (s.follow n d now).fs j = s.fs j := by
  unfold State.follow
  dsimp only
  split
  · exact State.raiseCond_fs_ne h d s
  · split
    · exact State.endCond_fs_ne h s
    · rfl

/-- A string port on which EN has come back shows a closed ring (R411). -/
theorem State.enumerate_result {s : State} (hrun : s.ring.enumRun = true) (arcs : List Found) (sn : List (UAddr × BitVec 64))
    {fd : List Found} {cl : Bool} (hcl : cl = (s.ring.enBack.any fun x => x.1 == .n || x.1 == .s))
    (hfd : fd = (if cl then (s.ring.enBack.filter fun x => x.1 == .n || x.1 == .s).flatMap fun x => enFound x.2 else arcs) ++
      (s.ring.enBack.filter fun x => x.1 == .e || x.1 == .w).flatMap (fun x => enFound x.2)) :
    s.enumerate arcs sn = s.enumResult cl fd sn := by
  have hempty : (s.ring.enBack.filter fun x => x.1 == .n || x.1 == .s).isEmpty = !cl := by
    rw [hcl, Bool.eq_iff_iff]
    simp [List.filter_eq_nil_iff]
  subst hfd
  rw [State.enumerate, hrun]
  dsimp only
  rw [hempty]
  cases cl <;> rfl

/-- The roster that RING_ORDER and the copies of EN give, the address check, FS59 and what stays as it was (R38, R411, R412). -/
theorem State.enumResult_keeps (s : State) (cl : Bool) (fd : List Found) (sn : List (UAddr × BitVec 64)) (hsrc : s.srcWhole) {t : State}
    (ht : t = s.enumResult cl fd sn) :
    t.ring = (s.erSent cl fd sn).ring ∧ (t.fs 14).cond = t.ring.addrConflict ∧
    ((∃ u ∈ t.ring.roster, u.noSlot = true) → (t.fs 59).latch = true) ∧
    t.beat = s.beat ∧ t.cha = s.cha ∧ t.chb = s.chb ∧ t.meas = s.meas ∧ t.safe = s.safe := by
  have hsent := s.erSent_sentOnly cl fd sn
  rw [State.enumResult_eq] at ht
  have hroster := s.erSent_roster cl fd sn
  have hconf : (s.erSent cl fd sn).ring.addrConflict = (fd.any fun f => f.1 == s.addr && (f.2.2.2.2 == .n || f.2.2.2.2 == .s)) := by
    rw [hsent.ring]
    rfl
  have hlen : (s.erSent cl fd sn).flt.src.length = 128 := hsent.srcs.trans hsrc
  rw [← hconf] at ht
  have hbeat : (s.erSent cl fd sn).beat = s.beat := hsent.beat
  have hcha : (s.erSent cl fd sn).cha = s.cha := hsent.cha
  have hchb : (s.erSent cl fd sn).chb = s.chb := hsent.chb
  have hmeas : (s.erSent cl fd sn).meas = s.meas := hsent.meas
  have hsafe : (s.erSent cl fd sn).safe = s.safe := hsent.safe
  generalize s.erSent cl fd sn = u at ht hroster hlen hbeat hcha hchb hmeas hsafe ⊢
  cases hany : (s.newRoster cl fd sn).any (·.noSlot)
  · rw [hany] at ht
    obtain rfl : t = u.follow 14 0 u.ring.addrConflict := ht
    refine ⟨by simp, by rw [State.follow_cond (by omega), State.follow_ring], ?_, by simpa using hbeat, by simpa using hcha,
      by simpa using hchb, by simpa using hmeas, by simpa using hsafe⟩
    rintro ⟨e, he, hslot⟩
    rw [State.follow_ring, hroster] at he
    rw [List.any_eq_false] at hany
    exact absurd hslot (hany e he)
  · rw [hany] at ht
    obtain rfl : t = (u.raise 59 0).follow 14 0 u.ring.addrConflict := ht
    refine ⟨by simp, by rw [State.follow_cond (by rw [State.raise_srcLength]; omega), State.follow_ring, State.raise_ring], fun _ => ?_,
      by simpa using hbeat, by simpa using hcha, by simpa using hchb, by simpa using hmeas, by simpa using hsafe⟩
    rw [State.follow_fs_ne (by decide)]
    exact (State.raise_fs (by omega) 0).1

/-! Listening, takeover, yielding -/

theorem State.listenEnds_none {s : State} (h : s.ring.listen = none ∨ s.ring.active = true ∨ s.ring.role.toNat < 2 ∨
      (∃ n, s.ring.listen = some n ∧ n < (if s.on .START then 100 else 20))) : s.listenEnds = none := by
  rcases h with h | h | h | ⟨n, hn, hlt⟩
  · simp [State.listenEnds, h]
  · unfold State.listenEnds
    split
    · rfl
    · simp [h]
  · unfold State.listenEnds
    split
    · rfl
    · simp [h]
  · rw [State.listenEnds, hn]
    cases hs : s.on .START <;> simp only [hs, Bool.false_eq_true, if_false, if_true] at hlt <;>
      simp [Nat.not_le.2 hlt]

/-- The end of a listen period that starts active (R413): a Master that has heard another becomes standby. -/
theorem State.listenEnds_active {s : State} {n : Nat} (hl : s.ring.listen = some n) (hact : s.ring.active = false)
    (hrole : 2 ≤ s.ring.role.toNat) (hs : s.on .START = false) (hn : 20 ≤ n) : s.listenEnds = some (s.ring.masterEpoch == 0) := by
  simp [State.listenEnds, hl, hact, Nat.not_lt.2 hrole, hs, hn]

theorem State.listenEnds_standby {s : State} {n : Nat} (hl : s.ring.listen = some n) (hact : s.ring.active = false)
    (hrole : 2 ≤ s.ring.role.toNat) (hs : s.on .START = true) (hn : 100 ≤ n) (hep : s.ring.masterEpoch = 0) :
    s.listenEnds = some true := by
  simp [State.listenEnds, hl, hact, Nat.not_lt.2 hrole, hs, hn, hep]

theorem State.takeJudge_iff (s : State) : s.takeJudge = true ↔ 2 ≤ s.ring.role.toNat ∧ s.ring.active = false ∧ s.ring.listen = none ∧
    s.ring.masterEpoch ≠ 0 ∧ 2 ≤ s.ring.mfMissed ∧ s.ring.mfEarly = false ∧ s.ring.takeDue = false := by
  simp [State.takeJudge, and_assoc]

/-- Which of two active Masters yields (R415). -/
theorem State.yields_eq {s : State} {a : UAddr} {c n : Nat} {e : BitVec 16} (h : s.ring.rival = some (a, c, n, e)) :
    s.yields = if ctlBusy s.ctl.code ≠ ctlBusy c then ctlBusy c
      else if n ≠ s.unitsPresent then decide (s.unitsPresent < n) else decide (uPos a < uPos s.addr) := by
  rw [State.yields, h]
  simp

end Sys2Proof.Machine

namespace Sys2Proof.Proofs
open Sys2Proof.Machine

/-- Settles O50: step 1 of an enumeration by induction over the ports that are asked, its result by the entries that each address of
the roster has, and the roles of Masters case by case. -/
theorem masterRoles : Obligations.MasterRoles := by
  refine ⟨?_, ?_, ?_, ?_, ?_, ?_, ?_, ?_, ?_, ?_, ?_⟩
  · intro s p key
    have hexec : exec (.enum p key) s = .next
        (if key == 0xC3 && s.ring.active then s.setRing fun r => { r with enumDue := true } else s) := rfl
    rw [hexec]
    simp only [Bool.and_eq_true, beq_iff_eq]
    rfl
  · intro s an az sn hact hrun hroom
    have hexec : exec (.enumeration an az sn) s = .next s.enumStart := by
      show Host.Outcome.next (if s.ring.active then s.enumerate (an ++ az) sn else s) = _
      rw [hact, if_pos rfl, State.enumerate, hrun]
      rfl
    exact ⟨_, hexec, State.enumStart_room hroom rfl⟩
  · intro s an az fd sn cl hact hrun hsrc hcl hfd
    have hexec : exec (.enumeration an az sn) s = .next (s.enumResult cl fd sn) := by
      show Host.Outcome.next (if s.ring.active then s.enumerate (an ++ az) sn else s) = _
      rw [hact, if_pos rfl, State.enumerate_result hrun _ sn hcl hfd]
    refine ⟨_, hexec, ?_⟩
    obtain ⟨hring, h14, h59, hbeat, hcha, hchb, hmeas, hsafe⟩ := State.enumResult_keeps s cl fd sn hsrc rfl
    have hroster := s.erSent_roster cl fd sn
    have hsent := (s.erSent_sentOnly cl fd sn).ring
    generalize s.enumResult cl fd sn = t at *
    have hdue : t.ring.enumDue = false := by rw [hring, hsent]; rfl
    have hrun' : t.ring.enumRun = false := by rw [hring, hsent]; rfl
    have hback : t.ring.enBack = [] := by rw [hring, hsent]; rfl
    have hnext : t.ring.strNext = if s.multiUnit = false then .lost else if cl then .closed else .opn := by
      rw [hring, hsent]
      cases h : s.multiUnit <;> simp [State.rostered, State.setRing, h]
    have hconf : t.ring.addrConflict = (fd.any fun f => f.1 == s.addr && (f.2.2.2.2 == .n || f.2.2.2.2 == .s)) := by
      rw [hring, hsent]
      rfl
    have hr : t.ring.roster = s.newRoster cl fd sn := by rw [hring, hroster]
    refine ⟨hdue, hrun', hback, hnext, hconf, h14, h59, fun a => ?_, fun a ha => ?_, fun u hu hne => ?_, fun hstring htrunk => ?_,
      hbeat, hcha, hchb, hmeas, hsafe⟩
    · rw [hr, State.newRoster_addr, State.mem_rosterNames]
    · rw [hr]
      exact State.newRoster_count (State.mem_rosterNames.2 (.inl ha))
    · rw [hr] at hu
      obtain ⟨-, hmem⟩ := State.mem_newRoster hu
      have hof := s.rosterEntries_of cl fd sn u.addr
      refine ⟨?_, hof.expect hne u hmem, hof.noSlot hne u hmem⟩
      rw [hof.pres hne u hmem, placesOf_isEmpty, Bool.not_not]
    · rw [hr] at hstring ⊢
      rw [hring]
      exact State.erSent_room hstring htrunk
  · intro s an az sn hact
    show Host.Outcome.next (if s.ring.active then s.enumerate (an ++ az) sn else s) = _
    rw [hact]
    rfl
  · intro s n hl hact hrole hs hn
    have hends := State.listenEnds_active hl hact hrole hs hn
    refine ⟨fun hep => ?_, fun hep => ?_⟩
    · show Host.Outcome.next s.startListen = _
      rw [State.startListen, hends, hep]
      simp only [hs]
      rfl
    · have hno : (s.ring.masterEpoch == 0) = false := beq_false_of_ne hep
      show Host.Outcome.next s.startListen = _
      rw [State.startListen, hends, hno]
      rfl
  · intro s n hl hact hrole hs hn hep
    show Host.Outcome.next s.startListen = _
    rw [State.startListen, State.listenEnds_standby hl hact hrole hs hn hep]
    simp only [hs]
    rfl
  · intro s h
    show Host.Outcome.next s.startListen = _
    rw [State.startListen, State.listenEnds_none h]
  · intro s hrole hact hl hep hmiss hearly hdue
    show Host.Outcome.next (if s.takeJudge then (s.at 200000).takeover else s) = _
    rw [if_pos (s.takeJudge_iff.2 ⟨hrole, hact, hl, hep, hmiss, hearly, hdue⟩)]
    rfl
  · intro s h
    show Host.Outcome.next (if s.takeJudge then (s.at 200000).takeover else s) = _
    rw [if_neg]
    intro hj
    obtain ⟨hrole, hact, -, -, hmiss, hearly, hdue⟩ := s.takeJudge_iff.1 hj
    rcases h with h | h | h | h | h
    · exact absurd (hact.symm.trans h) (by decide)
    · exact absurd (hearly.symm.trans h) (by decide)
    · omega
    · exact absurd (hdue.symm.trans h) (by decide)
    · omega
  · intro s a c n e hact hrival hyd
    have hy := State.yields_eq hrival
    have hjudge : s.yieldJudge = { s with ring := { s.ring with
        yieldDue := s.yields, rival := if s.yields then s.ring.rival else none } } := by
      rw [State.yieldJudge, if_pos hact, State.setRing, hyd]
      rfl
    refine ⟨s.yieldJudge, rfl, ?_⟩
    rw [hjudge]
    refine ⟨fun hme hc => ?_, fun hme hc => ?_, fun hsame hn => ?_, fun hsame hn => ?_, rfl⟩
    · rw [hy, hme, hc]
      rfl
    · rw [hy, hme, hc]
      exact ⟨rfl, rfl⟩
    · show s.yields = true ↔ _
      rw [hy, if_neg (not_not.2 hsame), if_pos hn, decide_eq_true_iff]
    · show s.yields = true ↔ _
      rw [hy, if_neg (not_not.2 hsame), if_neg (not_not.2 hn), decide_eq_true_iff]
  · rintro s (h | h)
    · show Host.Outcome.next s.yieldJudge = _
      rw [State.yieldJudge, h]
      rfl
    · have hy : s.yields = false := by rw [State.yields, h]
      show Host.Outcome.next s.yieldJudge = _
      rw [State.yieldJudge]
      split
      · simp only [hy, Bool.or_false, Bool.false_eq_true, if_false, ← h]
        rfl
      · rfl

end Sys2Proof.Proofs
end

section
/-! PROOFS. What an evaluation leaves of the beat's own state: everything but the offset and DET_VOID (R31, R96). -/

namespace Sys2Proof.Machine

/-! Steps put together -/

theorem runAll_beat {α : Type} {f : α → State → State} (hf : ∀ x s, (f x s).beat = s.beat) (l : List α) (s : State) :
    (runAll f l s).beat = s.beat := by
  induction l generalizing s with
  | nil => rfl
  | cons x l ih => exact (ih (f x s)).trans (hf x s)

theorem State.doIf_beat {op : State → State} (h : ∀ s, (op s).beat = s.beat) (due : State → Bool) (s : State) :
    (s.doIf due op).beat = s.beat := by
  unfold State.doIf
  split
  · exact h s
  · rfl

theorem State.dataA_beat {f : State → State} (h : ∀ s, (f s).beat = s.beat) (s : State) : (s.dataA f).beat = s.beat := by
  unfold State.dataA
  split
  · exact h s
  · rfl

theorem State.onA_beat {f : State → State} (h : ∀ s, (f s).beat = s.beat) (s : State) : (s.onA f).beat = s.beat := by
  unfold State.onA
  split
  · exact h s
  · rfl

theorem onlyIf_beat {f : State → State} (h : ∀ s, (f s).beat = s.beat) (c : Bool) (s : State) : (onlyIf c f s).beat = s.beat := by
  unfold onlyIf
  split
  · exact h s
  · rfl

theorem State.onBoth_beat {f : Ch → State → State} (h : ∀ c s, (f c s).beat = s.beat) (s : State) : (s.onBoth f).beat = s.beat :=
  (h .b _).trans (h .a s)

theorem State.onPins_beat {f : Nat → Nat → State → State} (h : ∀ g j s, (f g j s).beat = s.beat) (s : State) :
    (s.onPins f).beat = s.beat :=
  runAll_beat (fun g => runAll_beat (h g) _) _ s

/-! Measurement: the freeze, open wires, cells, checks, sums (R31, R92, R181-R197) -/

@[simp] theorem State.isoCollect_beat (s : State) : s.isoCollect.beat = s.beat := rfl

@[simp] theorem State.freeze_beat (s : State) : s.freeze.beat = s.beat := by
  unfold State.freeze State.dataA
  dsimp only
  split <;> split <;> rfl

@[simp] theorem State.setSeg_beat (g : Nat) (f : OwSeg → OwSeg) (s : State) : (s.setSeg g f).beat = s.beat := rfl
@[simp] theorem State.setPin_beat (g j : Nat) (f : PinS → PinS) (s : State) : (s.setPin g j f).beat = s.beat := rfl
@[simp] theorem State.wireEvent_beat (w g j : Nat) (s : State) : (s.wireEvent w g j).beat = s.beat := rfl
@[simp] theorem State.markIntact_beat (g j : Nat) (t : Bool) (s : State) : (s.markIntact g j t).beat = s.beat := rfl

@[simp] theorem State.markOpen_beat (g j : Nat) (s : State) : (s.markOpen g j).beat = s.beat := by
  unfold State.markOpen
  dsimp only
  split <;> simp

@[simp] theorem State.judged_beat (g : Nat) (t : OwSlot) (j : OwJudge) (s : State) : (s.judged g t j).beat = s.beat := by
  cases j
  · simp [State.judged]
  · simp [State.judged]
  · simp only [State.judged]
    split <;> simp

@[simp] theorem State.owEval_beat (s : State) : s.owEval.beat = s.beat := by
  refine runAll_beat (fun g s => ?_) _ s
  unfold State.owEvalSeg
  split
  · rfl
  · extract_lets d
    split
    · rfl
    · split <;> simp

@[simp] theorem State.formCells_beat (s : State) : s.formCells.beat = s.beat := by
  unfold State.formCells State.dataA
  dsimp only
  split <;> split <;> rfl

@[simp] theorem State.senseAll_beat (s : State) : s.senseAll.beat = s.beat := rfl
@[simp] theorem State.suspect_beat (g j : Nat) (s : State) : (s.suspect g j).beat = s.beat := rfl
@[simp] theorem State.wantPin_beat (g j : Nat) (s : State) : (s.wantPin g j).beat = s.beat := rfl
@[simp] theorem State.graceExpire_beat (g j : Nat) (s : State) : (s.graceExpire g j).beat = s.beat := rfl
@[simp] theorem State.checkCompare_beat (s : State) : s.checkCompare.beat = s.beat := rfl
@[simp] theorem State.sumCount_beat (s : State) : s.sumCount.beat = s.beat := rfl

@[simp] theorem State.checkFollow_beat (s : State) : s.checkFollow.beat = s.beat := by
  refine runAll_beat (fun g t => ?_) _ s
  split <;> rfl

@[simp] theorem State.checkDiff_beat (n : Nat) (s : State) : (s.checkDiff n).beat = s.beat := by
  simp [State.checkDiff]

@[simp] theorem State.wantEnds_beat (s : State) : s.wantEnds.beat = s.beat :=
  runAll_beat (fun g => runAll_beat (State.wantPin_beat g) _) _ s

@[simp] theorem State.sumChange_beat (s : State) : s.sumChange.beat = s.beat := by
  unfold State.sumChange
  dsimp only
  split
  · exact State.wantEnds_beat _
  · rfl

/-! Balancing and the wire calibration (R202, R213) -/

@[simp] theorem State.balWantAll_beat (s : State) : s.balWantAll.beat = s.beat := rfl

@[simp] theorem State.rwFollow_beat (s : State) : s.rwFollow.beat = s.beat :=
  runAll_beat (fun _ _ => State.follow_beat ..) _ s

@[simp] theorem State.calEnd_beat (st c : Nat) (s : State) : (s.calEnd st c).beat = s.beat := by
  unfold State.calEnd
  split
  · rfl
  · simp

@[simp] theorem State.calEval_beat (s : State) : s.calEval.beat = s.beat := by
  unfold State.calEval
  split
  · rfl
  · split
    · rfl
    · dsimp only
      split
      · split <;> simp
      · split
        · rfl
        · split <;> rfl

@[simp] theorem State.strMinStep_beat (s : State) : s.strMinStep.beat = s.beat := by
  unfold State.strMinStep
  split
  · rfl
  · split <;> rfl

/-! The thermal evaluation (R384-R389) -/


@[simp] theorem State.groupChange_beat (g : Nat) (old : GrpS) (s : State) : (s.groupChange g old).beat = s.beat := by
  unfold State.groupChange
  dsimp only
  split
  · rfl
  · split <;> split <;> split <;> simp

@[simp] theorem State.excursion_beat (s : State) : s.excursion.beat = s.beat := by
  unfold State.excursion
  split
  · split <;> rfl
  · split <;> rfl

@[simp] theorem State.thermalEnd_beat (s : State) : s.thermalEnd.beat = s.beat := by
  unfold State.thermalEnd
  dsimp only
  split <;> split <;> rfl

@[simp] theorem State.thermal_beat (s : State) : s.thermal.beat = s.beat := by
  simp only [State.thermal, State.thermalEnd_beat, State.excursion_beat]
  rw [runAll_beat fun _ _ => State.groupChange_beat ..]
  rfl

@[simp] theorem State.outOfRating_beat (s : State) : s.outOfRating.beat = s.beat := by
  unfold State.outOfRating
  split <;> simp

/-! Impedance (R227-R243) -/

@[simp] theorem State.impBeat_beat (s : State) : s.impBeat.beat = s.beat := rfl
@[simp] theorem State.blockEnd_beat (k : Nat) (s : State) : (s.blockEnd k).beat = s.beat := rfl

@[simp] theorem State.sweepBeat_beat (s : State) : s.sweepBeat.beat = s.beat := by
  unfold State.sweepBeat
  split <;> rfl

@[simp] theorem State.sweepBlock_beat (s : State) : s.sweepBlock.beat = s.beat := by
  unfold State.sweepBlock
  dsimp only
  split <;> rfl

/-! Charge accounting (R246-R283) -/

@[simp] theorem State.cycStore_beat (s : State) : s.cycStore.beat = s.beat := rfl
@[simp] theorem State.anchor_beat (k : Nat) (q u : Int) (s : State) : (s.anchor k q u).beat = s.beat := rfl
@[simp] theorem State.anchorVoltage_beat (s : State) : s.anchorVoltage.beat = s.beat := rfl

@[simp] theorem State.checkpoint_beat (s : State) : s.checkpoint.beat = s.beat := by
  unfold State.checkpoint
  split <;> rfl

@[simp] theorem State.learnCap_beat (c : Int) (s : State) : (s.learnCap c).beat = s.beat := by
  unfold State.learnCap
  dsimp only
  split <;> rfl

@[simp] theorem State.anchorFull_beat (s : State) : s.anchorFull.beat = s.beat := by
  unfold State.anchorFull
  dsimp only
  split <;> simp

@[simp] theorem State.anchorEmpty_beat (s : State) : s.anchorEmpty.beat = s.beat := by
  unfold State.anchorEmpty
  dsimp only
  split <;> simp

@[simp] theorem State.accCompensate_beat (s : State) : s.accCompensate.beat = s.beat := by
  unfold State.accCompensate
  split
  · rfl
  · split <;> rfl

@[simp] theorem State.accCounters_beat (s : State) : s.accCounters.beat = s.beat := by
  unfold State.accCounters
  split <;> rfl

@[simp] theorem State.accConflict_beat (s : State) : s.accConflict.beat = s.beat := by
  unfold State.accConflict
  dsimp only
  split <;> simp

@[simp] theorem State.starve_beat (s : State) : s.starve.beat = s.beat := by
  simp [State.starve]

@[simp] theorem State.accFinish_beat (s : State) : s.accFinish.beat = s.beat := by
  unfold State.accFinish
  dsimp only
  split
  · rfl
  · exact State.checkpoint_beat _

@[simp] theorem State.cadence_beat (s : State) : s.cadence.beat = s.beat := by
  unfold State.cadence
  split <;> rfl

@[simp] theorem State.swapCount_beat (s : State) : s.swapCount.beat = s.beat := by
  unfold State.swapCount
  split <;> rfl

@[simp] theorem State.swap_beat (s : State) : s.swap.beat = s.beat := by
  unfold State.swap
  split
  · rfl
  · exact State.checkpoint_beat s

@[simp] theorem State.selectRecord_beat (s : State) : s.selectRecord.beat = s.beat := by
  unfold State.selectRecord
  dsimp only
  rw [onlyIf_beat (fun _ => State.raiseCond_beat ..), onlyIf_beat (fun _ => State.raiseCond_beat ..)]
  rfl

/-! Protection (R284-R321) -/

@[simp] theorem State.levels_beat (ch : Ch) (s : State) : (s.levels ch).beat = s.beat := by
  unfold State.levels
  split <;> rfl

@[simp] theorem State.protectionLevels_beat (s : State) : s.protectionLevels.beat = s.beat :=
  (State.levels_beat .b _).trans (State.levels_beat .a s)

@[simp] theorem State.i2tStep_beat (ch : Ch) (s : State) : (s.i2tStep ch).beat = s.beat := by
  unfold State.i2tStep
  split
  · rfl
  · split <;> rfl

@[simp] theorem State.conditions_beat (ch : Ch) (s : State) : (s.conditions ch).beat = s.beat := by
  unfold State.conditions
  split <;> rfl

@[simp] theorem State.latchCond_beat (s : State) : s.latchCond.beat = s.beat := rfl

@[simp] theorem State.conditionStage_beat (s : State) : s.conditionStage.beat = s.beat := by
  simp [State.conditionStage]

@[simp] theorem State.wordsMissing_beat (s : State) : s.wordsMissing.beat = s.beat := rfl

@[simp] theorem State.escapement_beat (ch : Ch) (s : State) : (s.escapement ch).beat = s.beat := by
  unfold State.escapement
  split <;> rfl

@[simp] theorem State.escapementEnd_beat (s : State) : s.escapementEnd.beat = s.beat := rfl

/-! Inputs (R317, R338) -/

@[simp] theorem State.discCounts_beat (s : State) : s.discCounts.beat = s.beat := rfl

@[simp] theorem State.inputChanges_beat (s : State) : s.inputChanges.beat = s.beat := by
  refine runAll_beat (fun i t => ?_) _ s
  dsimp only
  split <;> split <;> rfl

@[simp] theorem State.discClear_beat (s : State) : s.discClear.beat = s.beat := by
  unfold State.discClear
  dsimp only
  split <;> rfl

@[simp] theorem State.discrepancies_beat (s : State) : s.discrepancies.beat = s.beat := by
  refine runAll_beat (fun i t => ?_) _ s
  split
  · simp [State.discrepancy]
  · rfl

/-! Telegrams (R340-R343) -/

@[simp] theorem State.telJudgeIn_beat (ch : Ch) (n : Nat) (s : State) : (s.telJudgeIn ch n).beat = s.beat := by
  unfold State.telJudgeIn
  split
  · rfl
  · extract_lets c x r s' t
    have ht : t.beat = s.beat := by
      show s'.beat = s.beat
      simp only [s']
      split <;> rfl
    split
    · exact (State.raise_beat ..).trans ht
    · exact ht

@[simp] theorem State.telJudged_beat (n : Nat) (s : State) : (s.telJudged n).beat = s.beat := by
  simp [State.telJudged]

@[simp] theorem State.telTimeIn_beat (ch : Ch) (n : Nat) (s : State) : (s.telTimeIn ch n).beat = s.beat := by
  unfold State.telTimeIn
  split <;> rfl

@[simp] theorem State.telegrams_beat (s : State) : s.telegrams.beat = s.beat :=
  runAll_beat (fun _ _ => by simp [State.telTimed]) _ s

@[simp] theorem State.cmdAll_beat (s : State) : s.cmdAll.beat = s.beat := by
  refine runAll_beat (fun n t => ?_) _ s
  unfold State.cmdTake
  dsimp only
  split <;> rfl

/-! The sequencers' judgements (R309-R316) -/

@[simp] theorem State.setSeq_beat (s : State) (ch : Ch) (f : Seq → Seq) : (s.setSeq ch f).beat = s.beat := rfl

@[simp] theorem State.attempt_beat (ch : Ch) (s : State) : (s.attempt ch).beat = s.beat := by
  unfold State.attempt
  split <;> rfl

@[simp] theorem State.attemptEnd_beat (ch : Ch) (s : State) : (s.attemptEnd ch).beat = s.beat := by
  unfold State.attemptEnd
  dsimp only
  split <;> simp

@[simp] theorem State.clearOneOffs_beat (ch : Ch) (s : State) : (s.clearOneOffs ch).beat = s.beat := by
  unfold State.clearOneOffs
  split <;> rfl

@[simp] theorem State.preCheck_beat (ch : Ch) (s : State) : (s.preCheck ch).beat = s.beat := by
  unfold State.preCheck
  split <;> simp

@[simp] theorem State.posCheck_beat (ch : Ch) (s : State) : (s.posCheck ch).beat = s.beat := rfl

@[simp] theorem State.ftcChecks_beat (s : State) : s.ftcChecks.beat = s.beat := by
  refine State.onBoth_beat (f := fun ch s => if s.preCheckDue ch then s.preCheck ch else if s.posCheckDue ch then s.posCheck ch else s)
    (fun ch t => ?_) s
  split
  · simp
  · split <;> simp

@[simp] theorem State.criterion_beat (ch : Ch) (s : State) : (s.criterion ch).beat = s.beat := by
  unfold State.criterion
  dsimp only
  split
  · rfl
  · split
    · rfl
    · split
      · simp
      · split <;> simp

@[simp] theorem State.pcTimeouts_beat (s : State) : s.pcTimeouts.beat = s.beat := by
  refine State.onBoth_beat (f := fun ch s => if s.pcTimeoutDue ch then s.pcTimeout ch else s) (fun ch t => ?_) s
  split
  · simp [State.pcTimeout]
  · rfl

@[simp] theorem State.currentFree_beat (ch : Ch) (s : State) : (s.currentFree ch).beat = s.beat := by
  unfold State.currentFree
  dsimp only
  split <;> rfl

@[simp] theorem State.weldPass_beat (ch : Ch) (s : State) : (s.weldPass ch).beat = s.beat := by
  unfold State.weldPass
  extract_lets q low decayed
  split <;> rfl

@[simp] theorem State.weldTimeouts_beat (s : State) : s.weldTimeouts.beat = s.beat := by
  refine State.onBoth_beat (f := fun ch s => if s.weldDue ch then s.weldTimeout ch else s) (fun ch t => ?_) s
  split <;> rfl

@[simp] theorem State.mirrorCheck_beat (ch : Ch) (s : State) : (s.mirrorCheck ch).beat = s.beat := by
  unfold State.mirrorCheck
  split
  · rfl
  · dsimp only
    split <;> simp

@[simp] theorem State.unrequested_beat (s : State) : s.unrequested.beat = s.beat := by
  refine State.onBoth_beat (f := fun ch s => if s.unreqDue ch then s.setChan ch fun c => { c with unreq := true } else s)
    (fun ch t => ?_) s
  split <;> rfl

/-! Publication (R285-R296, R328) -/

@[simp] theorem State.health_beat (s : State) : s.health.beat = s.beat := by
  unfold State.health
  dsimp only
  split <;> split <;> rfl

@[simp] theorem State.publish_beat (s : State) : s.publish.beat = s.beat := by
  unfold State.publish
  split
  · split <;> rfl
  · split
    · rfl
    · split
      · rfl
      · dsimp only
        split <;> exact State.health_beat _

@[simp] theorem State.healthClear_beat (s : State) : s.healthClear.beat = s.beat := rfl

@[simp] theorem State.postRec_beat (ch : Ch) (s : State) : (s.postRec ch).beat = s.beat := by
  unfold State.postRec
  split <;> rfl

@[simp] theorem State.trunkJudge_beat (s : State) : s.trunkJudge.beat = s.beat := by
  unfold State.trunkJudge
  dsimp only
  split
  · rfl
  · split
    · rfl
    · simp

/-! What moves the offset or DET_VOID: the ring window and a charge that saturates (R96, R99, R404) -/

/-- The beat without its offset and DET_VOID. -/
def BeatS.work (b : BeatS) : BeatS := { b with offNs := 0, detVoid := false }

@[simp] theorem State.at_work (ns : Nat) (s : State) : (s.at ns).beat.work = s.beat.work := rfl

@[simp] theorem State.saturated_work (s : State) : s.saturated.beat.work = s.beat.work := by
  show BeatS.work { (s.raise 8 0).beat with detVoid := true } = _
  rw [State.raise_beat]
  rfl

theorem runAll_work {α : Type} {f : α → State → State} (hf : ∀ x s, (f x s).beat.work = s.beat.work) (l : List α) (s : State) :
    (runAll f l s).beat.work = s.beat.work := by
  induction l generalizing s with
  | nil => rfl
  | cons x l ih => exact (ih (f x s)).trans (hf x s)

@[simp] theorem State.afterSlots_work (a : UAddr) (s : State) : (s.afterSlots a).beat.work = s.beat.work := by
  unfold State.afterSlots
  split <;> rfl

@[simp] theorem State.setUnit_beat (u : UAddr) (f : UnitS → UnitS) (s : State) : (s.setUnit u f).beat = s.beat := rfl

@[simp] theorem State.sendFrame_beat (ps : List RPort) (h : RHdr) (body : List Byte) (s : State) :
    (s.sendFrame ps h body).beat = s.beat := (State.sendFrame_fields ps h body s).1

@[simp] theorem State.injSeen_beat (b : Bool) (s : State) : (s.injSeen b).beat = s.beat := rfl

@[simp] theorem State.rfJudge_work (a : UAddr) (s : State) : (s.rfJudge a).beat.work = s.beat.work := by
  unfold State.rfJudge
  split
  · rfl
  · extract_lets t
    have ht : t.beat.work = s.beat.work := State.afterSlots_work a s
    split
    · rfl
    · split
      · exact ht
      · split
        · simpa using ht
        · dsimp only
          split <;> simpa using ht

@[simp] theorem State.ringWindow_work (s : State) : s.ringWindow.beat.work = s.beat.work := by
  have hall : (runAll (fun u s => State.rfJudge u s) (s.ring.roster.map (·.addr)) (s.at 850000)).beat.work = s.beat.work :=
    runAll_work (fun u t => State.rfJudge_work u t) _ _
  unfold State.ringWindow
  extract_lets t
  split <;> exact hall

@[simp] theorem State.accCount_work (s : State) : s.accCount.beat.work = s.beat.work := by
  unfold State.accCount
  split
  · rfl
  · split
    · rfl
    · extract_lets v1 v2 a
      unfold onlyIf
      split
      · exact State.saturated_work _
      · rfl

/-! Stages -/

theorem State.onA_work {f : State → State} (h : ∀ s, (f s).beat.work = s.beat.work) (s : State) :
    (s.onA f).beat.work = s.beat.work := by
  unfold State.onA
  split
  · exact h s
  · rfl

theorem State.dataA_work {f : State → State} (h : ∀ s, (f s).beat.work = s.beat.work) (s : State) :
    (s.dataA f).beat.work = s.beat.work := by
  unfold State.dataA
  split
  · exact h s
  · rfl

theorem State.stageLow_work (i : Nat) (s : State) : (s.stageLow i).beat.work = s.beat.work := by
  unfold State.stageLow
  split
  case h_1 => exact State.dataA_work (fun t => by simp) _
  case h_13 => exact State.onA_work (fun t => by simp) _
  all_goals refine congrArg BeatS.work ?_
  case h_2 => exact State.dataA_beat (fun t =>
    (State.sweepBlock_beat _).trans (runAll_beat (fun k => State.doIf_beat (State.blockEnd_beat k) _) _ t)) s
  case h_3 =>
    rw [State.dataA_beat (fun t => by simp)]
    simp only [State.sumCount_beat, State.checkFollow_beat, State.checkCompare_beat, State.isoCollect_beat, State.formCells_beat]
    rw [State.dataA_beat State.owEval_beat, State.freeze_beat]
  case h_4 => exact runAll_beat (fun n => State.doIf_beat (State.checkDiff_beat n) _) _ s
  case h_5 => exact State.doIf_beat State.sumChange_beat _ s
  case h_6 => exact State.dataA_beat (State.onPins_beat fun g j => State.doIf_beat (State.suspect_beat g j) _) s
  case h_7 => exact State.onPins_beat (fun g j => State.doIf_beat (State.graceExpire_beat g j) _) s
  case h_8 => exact State.onA_beat (State.doIf_beat State.thermal_beat _) s
  case h_9 => exact State.onA_beat (State.doIf_beat State.outOfRating_beat _) s
  case h_10 => exact State.onA_beat State.swapCount_beat s
  case h_11 => exact State.onA_beat (State.doIf_beat State.swap_beat _) s
  case h_12 => exact State.onA_beat (State.doIf_beat State.selectRecord_beat _) s
  case h_14 => exact State.onA_beat (State.doIf_beat State.anchorEmpty_beat _) s
  case h_15 => exact State.onA_beat (State.doIf_beat State.anchorFull_beat _) s
  case h_16 => exact State.onA_beat (State.doIf_beat State.anchorVoltage_beat _) s
  case h_17 => exact State.onA_beat State.accConflict_beat s
  case h_18 => exact State.onA_beat (State.doIf_beat State.starve_beat _) s
  case h_19 => exact State.onA_beat State.accFinish_beat s
  case h_20 => rfl

theorem State.stageHigh_beat (i : Nat) (s : State) : (s.stageHigh i).beat = s.beat := by
  unfold State.stageHigh
  split
  · exact State.onA_beat (State.doIf_beat State.cycStore_beat _) s
  · exact State.onA_beat (fun t => by simp) s
  · simp
  · simp
  · exact runAll_beat State.telJudged_beat _ s
  · exact State.telegrams_beat s
  · rw [State.escapementEnd_beat, State.onBoth_beat State.escapement_beat, State.onA_beat State.trunkJudge_beat]
  · exact State.onBoth_beat State.clearOneOffs_beat s
  · exact State.doIf_beat State.ftcChecks_beat _ s
  · exact State.onBoth_beat State.criterion_beat s
  · exact State.pcTimeouts_beat s
  · rw [State.onBoth_beat State.weldPass_beat, State.onBoth_beat State.currentFree_beat]
  · exact State.weldTimeouts_beat s
  · exact State.onBoth_beat State.mirrorCheck_beat s
  · simp
  · exact State.publish_beat s
  · exact State.onA_beat (State.doIf_beat State.healthClear_beat _) s
  · rw [State.cmdAll_beat, State.onBoth_beat State.postRec_beat]
  · rfl

/-- A stage that is due leaves of the beat all but the offset, DET_VOID and the count of stages (R31). -/
theorem State.evalStage_work {i : Nat} {s : State} (h : s.beat.eStage = i) :
    (s.evalStage i).beat.work = { s.beat.work with eStage := i + 1 } := by
  rw [State.evalStage, if_pos h]
  split
  · show ({ (s.stageLow i).beat with eStage := i + 1 } : BeatS).work = _
    rw [← s.stageLow_work i]
    rfl
  · show ({ (s.stageHigh i).beat with eStage := i + 1 } : BeatS).work = _
    rw [s.stageHigh_beat i]
    rfl

theorem State.evalTo_succ (k : Nat) (s : State) : s.evalTo (k + 1) = (s.evalTo k).evalStage k := by
  simp [State.evalTo, runAll, List.range_succ]

/-- Stages that have run do not run again. -/
theorem State.evalTo_done {k : Nat} {s : State} (h : k ≤ s.beat.eStage) : s.evalTo k = s := by
  induction k with
  | zero => rfl
  | succ k ih => rw [State.evalTo_succ, ih (by omega), State.evalStage, if_neg (by omega)]

/-- The stages before stage k, from a stage that is not later: all of them have run (R31). -/
theorem State.evalTo_work {k : Nat} {s : State} (h : s.beat.eStage ≤ k) :
    (s.evalTo k).beat.work = { s.beat.work with eStage := k } := by
  induction k with
  | zero =>
    rw [State.evalTo_done (Nat.zero_le _), ← Nat.le_zero.1 h]
    rfl
  | succ k ih =>
    by_cases hk : s.beat.eStage = k + 1
    · rw [State.evalTo_done (by omega), ← hk]
      rfl
    · have hprev := ih (by omega)
      have hnow : (s.evalTo k).beat.eStage = k := congrArg BeatS.eStage hprev
      rw [State.evalTo_succ, State.evalStage_work hnow, hprev]

end Sys2Proof.Machine
end

section
/-! PROOFS. The work of a beat: sub-beats, windows that close, the evaluation (R31, R70, R82, R89, R92, R96, R151). -/

namespace Sys2Proof.Machine

/-! What a sub-beat's first steps leave alone -/

theorem State.raiseAt_blk (k : RaiseKind) (one : Bool) (n : Nat) (d b : Word) (s : State) :
    (s.raiseAt k one n d b).flt.blk = s.flt.blk := by
  have hhandle (f : FltS) (k : Nat) (b now : Word) (r : Nat) : (f.handle n k b now r).blk = f.blk := by
    unfold FltS.handle
    split
    · rfl
    · split <;> rfl
  simp only [State.raiseAt, State.react, State.openReport_flt, hhandle]
  split <;> split <;> simp [State.w1cNow_flt]

theorem State.raiseAt_img (k : RaiseKind) (one : Bool) (n : Nat) (d b : Word) (s : State) : (s.raiseAt k one n d b).img = s.img := by
  obtain ⟨r, hr⟩ := State.raiseAt_cfg k one n d b s
  rw [State.img, hr]
  rfl

/-- The beat without its offset, DET_VOID and windows. -/
def BeatS.steady (b : BeatS) : BeatS := { b with offNs := 0, detVoid := false, wins := [] }

/-- From s to t nothing has changed that a sub-beat reads of the beat, the power, the current measurement and the links; the FIFOs
of the segments, the contacts and the fault manager have. -/
structure Quiet (s t : State) : Prop where
  beat : t.beat.steady = s.beat.steady
  imp : t.imp = s.imp
  pwr : t.pwr = s.pwr
  chg : t.chg = s.chg
  core : t.core = s.core
  img : t.img = s.img
  blk : t.flt.blk = s.flt.blk
  meas : t.meas = { s.meas with xsA := t.meas.xsA, xsB := t.meas.xsB }
  runs : ∀ c, t.runs c = s.runs c

theorem Quiet.refl (s : State) : Quiet s s := ⟨rfl, rfl, rfl, rfl, rfl, rfl, rfl, rfl, fun _ => rfl⟩

theorem Quiet.trans {s t u : State} (h : Quiet s t) (g : Quiet t u) : Quiet s u := by
  refine ⟨g.beat.trans h.beat, g.imp.trans h.imp, g.pwr.trans h.pwr, g.chg.trans h.chg, g.core.trans h.core, g.img.trans h.img,
    g.blk.trans h.blk, ?_, fun c => (g.runs c).trans (h.runs c)⟩
  have hmeas := g.meas
  rw [h.meas] at hmeas
  exact hmeas

theorem Quiet.raise (n : Nat) (d : Word) (s : State) : Quiet s (s.raise n d) := by
  refine ⟨by simp, by simp, by simp, by simp, by simp, State.raise_img n d s, State.raiseAt_blk .., by simp, fun c => ?_⟩
  simp only [State.runs, State.raise_chan, State.raise_core, State.raise_xtalA, State.raise_xtalB]

/-- A change of a channel that leaves its die alone. -/
theorem Quiet.setChan (s : State) (c : Ch) {f : ChanS → ChanS} (hf : ∀ x, (f x).alive = x.alive) : Quiet s (s.setChan c f) := by
  refine ⟨rfl, rfl, rfl, rfl, rfl, rfl, rfl, rfl, fun e => ?_⟩
  cases c <;> cases e <;> simp [State.runs, State.chan, State.setChan, hf]

theorem Quiet.runAll {α : Type} {f : α → State → State} (hf : ∀ x s, Quiet s (f x s)) (l : List α) (s : State) :
    Quiet s (runAll f l s) := by
  induction l generalizing s with
  | nil => exact .refl s
  | cons x l ih => exact (hf x s).trans (ih (f x s))

theorem Quiet.setSafe (s : State) (x : SafeS) : Quiet s { s with safe := x } := ⟨rfl, rfl, rfl, rfl, rfl, rfl, rfl, rfl, fun _ => rfl⟩

theorem Quiet.at (ns : Nat) (s : State) : Quiet s (s.at ns) := ⟨rfl, rfl, rfl, rfl, rfl, rfl, rfl, rfl, fun _ => rfl⟩

theorem Quiet.testContact (g c : Ch) (read : Nat → Bool) (i : Nat) (s : State) : Quiet s (s.testContact g c read i) := by
  unfold State.testContact
  split
  · exact .refl s
  · extract_lets before t
    have ht : Quiet s t := by
      simp only [t]
      split
      · exact .setChan s c fun _ => rfl
      · split
        · exact .setChan s c fun _ => rfl
        · exact .refl s
    split
    · refine (ht.trans ?_).trans (.raise 50 0 _)
      exact .setChan t c fun _ => rfl
    · exact ht

theorem Quiet.inputTest (g : Ch) (levels : BitVec 8) (s : State) : Quiet s (s.inputTest g levels) := by
  unfold State.inputTest
  extract_lets own oth t u
  have ht : Quiet s t := .runAll (fun i x => .testContact g g own i x) _ s
  have hu : Quiet t u := .runAll (fun i x => .testContact g g.other oth i x) _ t
  exact (ht.trans hu).trans (.setSafe u _)

/-- The test of a gap just past and the pulse of sub-beat 15 (R334, R337). -/
theorem Quiet.subBeatReady (s : State) : Quiet s s.subBeatReady := by
  have hgap : Quiet s s.gapSettle := by
    unfold State.gapSettle
    split
    · exact .inputTest ..
    · split
      · exact .inputTest ..
      · exact .refl s
  unfold State.subBeatReady
  extract_lets t
  split
  · exact (hgap.trans (.at 937500 t)).trans (.setSafe _ _)
  · exact hgap

theorem Quiet.fallBack (before : Nat) (s : State) : Quiet s (s.fallBack before) :=
  ⟨rfl, rfl, rfl, rfl, rfl, rfl, rfl, rfl, fun _ => rfl⟩

theorem Quiet.segPush (n : Nat) (c : Ch) (s : State) : Quiet s (s.segPush n c) := by
  unfold State.segPush
  split
  · exact .refl s
  · extract_lets come full m t
    have ht : Quiet s t := ⟨rfl, rfl, rfl, rfl, rfl, rfl, rfl, by cases c <;> rfl, fun _ => rfl⟩
    split
    · exact ht
    · exact ht.trans (.raise ..)

theorem Quiet.takeInputs (j : Nat) (a b : BitVec 8) (s : State) : Quiet s (s.takeInputs j a b) := by
  unfold State.takeInputs
  extract_lets take
  have htake (v : BitVec 8) (c : ChanS) : (take v c).alive = c.alive := by
    simp only [take]
    split <;> rfl
  exact (Quiet.setChan s .a (htake a)).trans (.setChan _ .b (htake b))

/-- The state in which the samples of sub-beat j are accumulated (R82). -/
def State.subBeatTaken (s : State) (j : Nat) (o : SubBeatIn) : State :=
  ((((s.at ((j + 1) * 62500)).fallBack (256000 * (j + 1))).segPush s.subWords .a).segPush s.subWords .b).takeInputs j o.inA o.inB

theorem Quiet.subBeatTaken (s : State) (j : Nat) (o : SubBeatIn) : Quiet s (s.subBeatTaken j o) := by
  exact ((((Quiet.at ((j + 1) * 62500) s).trans (.fallBack ..)).trans (.segPush ..)).trans (.segPush ..)).trans (.takeInputs ..)

/-! What the fast path and the end of a sub-beat leave alone -/

/-- From s to t neither the beat's counts, nor the impedance stream, nor the power, nor the accumulators have changed. -/
structure Steady (s t : State) : Prop where
  beat : t.beat.steady = s.beat.steady
  imp : t.imp = s.imp
  pwr : t.pwr = s.pwr
  qA : t.meas.qA = s.meas.qA

theorem Steady.refl (s : State) : Steady s s := ⟨rfl, rfl, rfl, rfl⟩

theorem Steady.trans {s t u : State} (h : Steady s t) (g : Steady t u) : Steady s u :=
  ⟨g.beat.trans h.beat, g.imp.trans h.imp, g.pwr.trans h.pwr, g.qA.trans h.qA⟩

theorem Quiet.steady {s t : State} (h : Quiet s t) : Steady s t :=
  ⟨h.beat, h.imp, h.pwr, by rw [h.meas]⟩

theorem Steady.setChan (c : Ch) (f : ChanS → ChanS) (s : State) : Steady s (s.setChan c f) := ⟨rfl, rfl, rfl, rfl⟩

theorem Steady.setSafe (s : State) (x : SafeS) : Steady s { s with safe := x } := ⟨rfl, rfl, rfl, rfl⟩

theorem Steady.fastOpen (c : Ch) (is : List Nat) (s : State) : Steady s (s.fastOpen c is) := by
  unfold State.fastOpen
  extract_lets drop t tp
  exact ((Steady.setChan c _ s).trans (.setSafe t _)).trans (.setSafe _ _)

theorem Steady.fastTrip (c : Ch) (s : State) : Steady s (s.fastTrip c) :=
  ((Steady.fastOpen .a _ s).trans (.fastOpen .b _ _)).trans (.setChan c _ _)

theorem Steady.fastPath (c : Ch) (j : Nat) (o : SubBeatIn) (s : State) : Steady s (s.fastPath c j o) := by
  have htrip (t : State) : Steady t (t.instantTrip c o.i1 o.i2) := by
    unfold State.instantTrip
    split
    · exact .refl t
    · extract_lets h1 h2 u
      split
      · exact (Steady.setChan c _ t).trans (.fastTrip c u)
      · exact .setChan c _ t
  have hblocks (t : State) : Steady t (t.fastBlocks c j) := by
    unfold State.fastBlocks
    split
    · exact .refl t
    · exact .setChan c _ t
  have houts (was : EscOut) (t : State) : Steady t (t.fastOutputs c was) := by
    unfold State.fastOutputs
    split
    · exact .refl t
    · extract_lets x opens u
      have hu : Steady t u := by
        simp only [u]
        split
        · exact .refl t
        · exact .fastOpen c _ t
      split
      · split
        · exact hu.trans (.setChan c _ u)
        · exact hu.trans (.fastTrip c u)
      · exact hu
  exact ((htrip s).trans (hblocks _)).trans (houts _ _)

theorem Steady.canOffer (p : CPort) (s : State) : Steady s (s.canOffer p) := by
  unfold State.canOffer
  split
  · exact .refl s
  · split
    · exact .refl s
    · next k hk => cases p <;> exact ⟨rfl, rfl, rfl, rfl⟩

/-! The supervisor's sample of VS (R70, R71) -/

/-- Out of start steps 1 to 5 an interruption touches its own record alone. -/
theorem State.intrBegin_keeps {s : State} (hb : s.booting = false) (vs : Nat) :
    (s.intrBegin vs).beat = s.beat ∧ (s.intrBegin vs).imp = s.imp ∧ (s.intrBegin vs).meas = s.meas ∧
      (s.intrBegin vs).pwr.vs = s.pwr.vs := by
  unfold State.intrBegin
  rw [hb]
  split
  · exact ⟨rfl, rfl, rfl, rfl⟩
  · split
    · exact absurd ‹false = true› Bool.false_ne_true
    · split <;> exact ⟨rfl, rfl, rfl, rfl⟩

theorem State.intrOver_keeps (s : State) : s.intrOver.beat = s.beat ∧ s.intrOver.imp = s.imp ∧ s.intrOver.meas = s.meas ∧
    s.intrOver.pwr.vs = s.pwr.vs := by
  unfold State.intrOver
  split
  · exact ⟨rfl, rfl, rfl, rfl⟩
  · simp

theorem State.intrSample_keeps {s : State} (hb : s.booting = false) (vs : Nat) (r : Bool) :
    (s.intrSample vs r).beat = s.beat ∧ (s.intrSample vs r).imp = s.imp ∧ (s.intrSample vs r).meas = s.meas ∧
      (s.intrSample vs r).pwr.vs = s.pwr.vs := by
  unfold State.intrSample
  split
  · exact State.intrBegin_keeps hb vs
  · extract_lets t
    split
    · exact ⟨rfl, rfl, rfl, rfl⟩
    · split
      · exact State.intrOver_keeps t
      · split <;> exact ⟨rfl, rfl, rfl, rfl⟩

/-- Out of start steps 1 to 5 the sample of VS shows after the sixteenth sub-beat, and leaves the beat and the measurement (R70). -/
theorem State.vsSample_keeps {s : State} (hb : s.booting = false) (vs : Nat) (r : Bool) :
    (s.vsSample vs r).beat = s.beat ∧ (s.vsSample vs r).imp = s.imp ∧ (s.vsSample vs r).meas = s.meas ∧
      (s.vsSample vs r).pwr.vs = if s.beat.sub = 16 then vs else s.pwr.vs := by
  unfold State.vsSample
  extract_lets n t
  have ht : t.booting = false := hb
  rw [ht]
  rw [if_neg Bool.false_ne_true]
  split
  · exact State.intrSample_keeps ht vs r
  · exact ⟨rfl, rfl, rfl, rfl⟩

/-- A good sample without an interruption is counted alone (R70). -/
theorem State.vsSample_good {s : State} (hb : s.booting = false) (hintr : s.pwr.intr = none) {vs : Nat} (hvs : 13000 ≤ vs) (r : Bool) :
    s.vsSample vs r = { s with pwr := { s.pwr with
      vs := if s.beat.sub = 16 then vs else s.pwr.vs, vsOk := incSat 16 s.pwr.vsOk, vsGood := decide (16 ≤ incSat 16 s.pwr.vsOk) } } := by
  unfold State.vsSample
  rw [if_pos hvs]
  extract_lets n t
  have ht : t.booting = false := hb
  have hi : t.pwr.intr = none := hintr
  rw [ht, if_neg Bool.false_ne_true]
  split
  · rw [State.intrSample, hi]
    exact if_pos (by omega)
  · rfl

/-- Where nothing rides through an interruption a sample is counted alone (R502). -/
theorem State.vsSample_idle {s : State} (hb : s.booting = false) (hr : s.rides = false) (vs : Nat) (r : Bool) :
    s.vsSample vs r = { s with pwr := { s.pwr with
      vs := if s.beat.sub = 16 then vs else s.pwr.vs
      vsOk := if 13000 ≤ vs then incSat 16 s.pwr.vsOk else 0
      vsGood := decide (16 ≤ if 13000 ≤ vs then incSat 16 s.pwr.vsOk else 0) } } := by
  unfold State.vsSample
  extract_lets n t
  have ht : t.booting = false := hb
  have hrt : t.rides = false := hr
  rw [ht, hrt]
  rfl

theorem State.evalOn_booting {s : State} (h : s.evalOn = true) : s.booting = false := by
  unfold State.booting
  split
  · next k hk =>
    simp only [State.evalOn, State.beatsOn, hk, Bool.and_eq_true, decide_eq_true_eq] at h
    simp only [decide_eq_false_iff_not]
    omega
  · rfl

/-! The accumulators (R99, R151) -/

/-- A sample that does not saturate is added whole: the count and its fraction together take it (R151). -/
theorem accum_whole {q f x : Int} (hq : q.natAbs < 2 ^ 62) (hx : x.natAbs < 2 ^ 62) (hf : 0 ≤ f) (hf16 : f < 16) :
    16 * (accum (q, f) x).1 + (accum (q, f) x).2 = 16 * q + f + x ∧ 0 ≤ (accum (q, f) x).2 ∧ (accum (q, f) x).2 < 16 := by
  have hsat : sat (q + (f + x) / 16) 64 = q + (f + x) / 16 := by
    rw [sat, clamp, if_neg (by omega), if_neg (by omega)]
  simp only [accum, floorDiv, hsat]
  omega

theorem State.saturated_steady (s : State) : Steady s s.saturated := by
  have h : Steady s (s.raise 8 0) := (Quiet.raise 8 0 s).steady
  exact h.trans ⟨rfl, rfl, rfl, rfl⟩

/-- A charge step takes the samples into the accumulators; of the rest a saturation marks the beat void (R99, R151). -/
theorem State.charge_keeps (k : Int) (i1 i2 : Option Raw) (s : State) :
    (s.charge k i1 i2).beat.steady = s.beat.steady ∧ (s.charge k i1 i2).imp = s.imp ∧ (s.charge k i1 i2).pwr = s.pwr ∧
      (s.charge k i1 i2).meas.qA = (s.accumulateA k i1 i2).meas.qA := by
  have hb (t : State) : Steady t (t.accumulateB k i1 i2) := by
    unfold State.accumulateB
    extract_lets x
    split
    · exact ⟨rfl, rfl, rfl, rfl⟩
    · exact .refl t
  have ha : (s.accumulateA k i1 i2).beat = s.beat ∧ (s.accumulateA k i1 i2).imp = s.imp ∧ (s.accumulateA k i1 i2).pwr = s.pwr := by
    unfold State.accumulateA State.dataA
    extract_lets x
    split <;> exact ⟨rfl, rfl, rfl⟩
  have hsum : Steady (s.accumulateA k i1 i2) (s.charge k i1 i2) := by
    unfold State.charge onlyIf
    split
    · exact (hb _).trans (State.saturated_steady _)
    · exact hb _
  obtain ⟨hbeat, himp, hpwr⟩ := ha
  exact ⟨hsum.beat.trans (congrArg _ hbeat), hsum.imp.trans himp, hsum.pwr.trans hpwr, hsum.qA⟩

/-- The accumulator of a channel that is populated and whole takes the sample that was delivered (R151). -/
theorem State.accumulateA_qA {s : State} {c : Nat} {q f : Int} {x : Raw} {i1 i2 : Option Raw} (hw : s.works .a = true) (hc : c < 2)
    (hpop : s.curPop c = true) (hfail : s.meas.failCur.contains c = false) (hqA : s.meas.qA[c]? = some (q, f))
    (hx : s.curSample .a c (if c = 0 then i1 else i2) = some x) :
    (s.accumulateA 1 i1 i2).meas.qA[c]? = some (accum (q, f) x.x) := by
  unfold State.accumulateA State.dataA
  extract_lets l
  rw [if_pos hw]
  have hl : l[c]?.getD none = some x := by
    rcases Nat.lt_succ_iff_lt_or_eq.1 hc with h | rfl
    · obtain rfl := Nat.lt_one_iff.1 h
      exact hx
    · exact hx
  have hnot : c ∉ s.meas.failCur := by simpa using hfail
  simp [State.accumCh, hc, hpop, hl, hqA, hnot]

/-! A sub-beat (R82) -/

/-- What stands at the boundary of a beat whose boundary work is done is nothing: a step of the beat acts at once (log entry 8). -/
theorem State.inBeat_now {s : State} (hon : s.evalOn = true) (hb : s.beat.bStage = 1) (f : State → State) : s.inBeat f = f s := by
  have hsettle : s.settle = s := by simp [State.settle, State.atBoundary, hb]
  rw [State.inBeat, hsettle, State.doIf, if_pos hon]

/-- The state after the samples of sub-beat j have been accumulated (R82, R151). -/
def State.subBeatCharged (s : State) (j : Nat) (o : SubBeatIn) : State :=
  if (s.subBeatTaken j o).chg.slow then s.subBeatTaken j o else (s.subBeatTaken j o).charge 1 o.i1 o.i2

theorem State.subBeatCharged_keeps (s : State) (j : Nat) (o : SubBeatIn) :
    (s.subBeatCharged j o).beat.steady = s.beat.steady ∧ (s.subBeatCharged j o).imp = s.imp ∧ (s.subBeatCharged j o).pwr = s.pwr := by
  have h := (Quiet.subBeatTaken s j o).steady
  unfold State.subBeatCharged
  split
  · exact ⟨h.beat, h.imp, h.pwr⟩
  · obtain ⟨hbeat, himp, hpwr, -⟩ := (s.subBeatTaken j o).charge_keeps 1 o.i1 o.i2
    exact ⟨hbeat.trans h.beat, himp.trans h.imp, hpwr.trans h.pwr⟩

/-- The end of a sub-beat in its records: the count, the interval of the impedance stream, the marks of lost samples (R82, R227). -/
def State.subBeatCounted (v : State) (j : Nat) (o : SubBeatIn) : State :=
  { v with
    safe := v.safe.sense o
    imp := { v.imp with cur := v.imp.cur ++ [v.interval o] }
    meas := { v.meas with lostCur := [], lostCell := [] }
    beat := { v.beat with sub := j + 1 } }

/-- After the count: the persistent latches, the switch currents and the frames that are offered (R82). -/
def State.subBeatEnded (w : State) (j : Nat) (o : SubBeatIn) : State :=
  (((w.keepPersistents.switchSubBeat o.ib j).canOffer .can1).canOffer .can2)

theorem Steady.subBeatEnded (w : State) (j : Nat) (o : SubBeatIn) : Steady w (w.subBeatEnded j o) := by
  have hkeep : Steady w w.keepPersistents := .setSafe w _
  have hswitch (u : State) : Steady u (u.switchSubBeat o.ib j) := ⟨rfl, rfl, rfl, rfl⟩
  exact ((hkeep.trans (hswitch _)).trans (.canOffer .can1 _)).trans (.canOffer .can2 _)

theorem State.subBeatOf_eq (s : State) (j : Nat) (o : SubBeatIn) :
    s.subBeatOf j o = ((((s.subBeatCharged j o).fastPath .a j o).fastPath .b j o).subBeatCounted j o).subBeatEnded j o := by
  unfold State.subBeatOf State.subBeatCharged State.subBeatTaken
  extract_lets t u v w
  rfl

/-- A sub-beat counts, joins its interval to the impedance stream and accumulates; the power and the other counts of the beat stay
(R82). -/
theorem State.subBeatOf_keeps (s : State) (j : Nat) (o : SubBeatIn) :
    (s.subBeatOf j o).beat.steady = { s.beat.steady with sub := j + 1 } ∧
    (s.subBeatOf j o).imp.cur.length = s.imp.cur.length + 1 ∧ (s.subBeatOf j o).pwr = s.pwr ∧
    (s.subBeatOf j o).meas.qA = (s.subBeatCharged j o).meas.qA := by
  obtain ⟨hbeat, himp, hpwr⟩ := s.subBeatCharged_keeps j o
  have hfast : Steady (s.subBeatCharged j o) (((s.subBeatCharged j o).fastPath .a j o).fastPath .b j o) :=
    (Steady.fastPath .a j o _).trans (.fastPath .b j o _)
  rw [State.subBeatOf_eq]
  generalize ((s.subBeatCharged j o).fastPath .a j o).fastPath .b j o = v at hfast ⊢
  have hcount : (v.subBeatCounted j o).beat.steady = { v.beat.steady with sub := j + 1 } ∧
      (v.subBeatCounted j o).imp.cur = v.imp.cur ++ [v.interval o] ∧ (v.subBeatCounted j o).pwr = v.pwr ∧
      (v.subBeatCounted j o).meas.qA = v.meas.qA := ⟨rfl, rfl, rfl, rfl⟩
  have hend := Steady.subBeatEnded (v.subBeatCounted j o) j o
  obtain ⟨cbeat, cimp, cpwr, cqA⟩ := hcount
  refine ⟨?_, ?_, ?_, ?_⟩
  · rw [hend.beat, cbeat, hfast.beat, hbeat]
  · rw [hend.imp, cimp, hfast.imp, himp, List.length_append, List.length_singleton]
  · rw [hend.pwr, cpwr, hfast.pwr, hpwr]
  · rw [hend.qA, cqA, hfast.qA]

theorem exec_subBeat_eq (o : SubBeatIn) (s : State) : exec (.subBeat o) s = .next ((if s.evalOn && decide (s.beat.sub < 16) then
    s.inBeat fun t => t.subBeatReady.subBeatOf t.beat.sub o else s).vsSample o.vs o.reserve) := rfl

/-- The state after a sub-beat (R70, R82). -/
theorem exec_subBeat {s : State} (hon : s.evalOn = true) (hsub : s.beat.sub < 16) (hb : s.beat.bStage = 1) (o : SubBeatIn) :
    exec (.subBeat o) s = .next ((s.subBeatReady.subBeatOf s.beat.sub o).vsSample o.vs o.reserve) := by
  rw [exec_subBeat_eq, if_pos (by simp [hon, hsub]), State.inBeat_now hon hb]

/-- What a sub-beat leaves, the supervisor's sample included. -/
theorem State.subBeat_keeps {s t : State} {o : SubBeatIn} (hon : s.evalOn = true)
    (ht : t = (s.subBeatReady.subBeatOf s.beat.sub o).vsSample o.vs o.reserve) :
    t.beat.steady = { s.beat.steady with sub := s.beat.sub + 1 } ∧ t.imp.cur.length = s.imp.cur.length + 1 ∧
    t.pwr.vs = (if s.beat.sub = 15 then o.vs else s.pwr.vs) ∧ t.meas.qA = (s.subBeatReady.subBeatCharged s.beat.sub o).meas.qA := by
  have hready := (Quiet.subBeatReady s).steady
  obtain ⟨hbeat, himp, hpwr, hqA⟩ := s.subBeatReady.subBeatOf_keeps s.beat.sub o
  have hboot : (s.subBeatReady.subBeatOf s.beat.sub o).booting = false := by
    have : (s.subBeatReady.subBeatOf s.beat.sub o).booting = s.booting := by
      unfold State.booting
      rw [hpwr, hready.pwr]
    rw [this]
    exact State.evalOn_booting hon
  have hsub : (s.subBeatReady.subBeatOf s.beat.sub o).beat.steady.sub = s.beat.sub + 1 := congrArg BeatS.sub hbeat
  change (s.subBeatReady.subBeatOf s.beat.sub o).beat.sub = s.beat.sub + 1 at hsub
  obtain ⟨vbeat, vimp, vmeas, vvs⟩ := State.vsSample_keeps hboot o.vs o.reserve
  rw [← ht] at vbeat vimp vmeas vvs
  refine ⟨?_, ?_, ?_, ?_⟩
  · rw [vbeat, hbeat, hready.beat]
  · rw [vimp, himp, hready.imp]
  · rw [vvs, hsub, hpwr, hready.pwr]
    simp
  · rw [vmeas, hqA]

/-- The accumulator of a current channel takes the sample of the sub-beat without loss (R151). -/
theorem State.subBeatCharged_qA {s : State} {o : SubBeatIn} {c : Nat} {q f : Int} {x : Raw} (j : Nat) (hw : s.works .a = true)
    (hslow : s.chg.slow = false) (hc : c < 2) (hpop : s.curPop c = true) (hfail : s.meas.failCur.contains c = false)
    (hqA : s.meas.qA[c]? = some (q, f)) (hx : s.curSample .a c (if c = 0 then o.i1 else o.i2) = some x) :
    (s.subBeatReady.subBeatCharged j o).meas.qA[c]? = some (accum (q, f) x.x) := by
  have h : Quiet s (s.subBeatReady.subBeatTaken j o) := (Quiet.subBeatReady s).trans (Quiet.subBeatTaken _ j o)
  unfold State.subBeatCharged
  generalize s.subBeatReady.subBeatTaken j o = u at h
  have huw : u.works .a = true := by
    rw [← hw, State.works, State.works, h.runs, State.debugHalted, State.debugHalted, h.core]
  have hupop : u.curPop c = true := by
    rw [← hpop, State.curPop, State.curPop, State.on, State.on, h.img]
  have hulink : u.linkUp 0 .a = s.linkUp 0 .a := by
    simp only [State.linkUp, State.segHeld, h.blk]
  have hux : u.curSample .a c (if c = 0 then o.i1 else o.i2) = some x := by
    rw [← hx, State.curSample, State.curSample, hulink, h.meas]
  rw [h.chg, hslow, if_neg Bool.false_ne_true, (u.charge_keeps 1 o.i1 o.i2).2.2.2]
  exact State.accumulateA_qA huw hc hupop (by rw [h.meas]; exact hfail) (by rw [h.meas]; exact hqA) hux

/-! Windows (R89, R92) -/

theorem exec_windowClose (w : Fin 4) (o : WindowIn) (s : State) : exec (.windowClose w o) s = .next
    (let t := if s.edgeWaits w then s.fallBack (usTicks (s.winOfs w) + 1) else s
     if t.winOpen w then (((t.segPush (t.winWords w) .a).segPush (t.winWords w) .b).closeWindow w o).gateEnd w else t) := rfl

/-- What a raise of FS70 or FS74 while a window closes leaves alone. -/
structure WinRest (s t : State) : Prop where
  beat : t.beat = s.beat
  bal : t.bal = s.bal
  integ : t.integ = s.integ
  chg : t.chg = s.chg
  cha : t.cha = s.cha
  chb : t.chb = s.chb
  safe : t.safe = s.safe
  img : t.img = s.img
  blk : t.flt.blk = s.flt.blk
  srcs : t.flt.src.length = s.flt.src.length

theorem WinRest.refl (s : State) : WinRest s s := ⟨rfl, rfl, rfl, rfl, rfl, rfl, rfl, rfl, rfl, rfl⟩

theorem WinRest.trans {s t u : State} (h : WinRest s t) (g : WinRest t u) : WinRest s u :=
  ⟨g.beat.trans h.beat, g.bal.trans h.bal, g.integ.trans h.integ, g.chg.trans h.chg, g.cha.trans h.cha, g.chb.trans h.chb,
    g.safe.trans h.safe, g.img.trans h.img, g.blk.trans h.blk, g.srcs.trans h.srcs⟩

theorem WinRest.raise (n : Nat) (d : Word) (s : State) : WinRest s (s.raise n d) :=
  ⟨by simp, by simp, by simp, by simp, by simp, by simp, by simp, State.raise_img n d s, State.raiseAt_blk .., by simp⟩

theorem WinRest.raiseTransient (n : Nat) (d : Word) (s : State) : WinRest s (s.raiseTransient n d) :=
  ⟨by simp, by simp, by simp, by simp, by simp, by simp, by simp, State.raiseAt_img .., State.raiseAt_blk .., by simp⟩

theorem WinRest.runAll {α : Type} {f : α → State → State} (hf : ∀ x s, WinRest s (f x s) ∧ (f x s).meas = s.meas)
    (l : List α) (s : State) : WinRest s (runAll f l s) ∧ (runAll f l s).meas = s.meas := by
  induction l generalizing s with
  | nil => exact ⟨.refl s, rfl⟩
  | cons x l ih =>
    obtain ⟨hrest, hmeas⟩ := hf x s
    obtain ⟨irest, imeas⟩ := ih (f x s)
    exact ⟨hrest.trans irest, imeas.trans hmeas⟩

theorem WinRest.segPush (n : Nat) (c : Ch) (s : State) : WinRest s (s.segPush n c) := by
  unfold State.segPush
  split
  · exact .refl s
  · extract_lets come full m t
    have ht : WinRest s t := ⟨rfl, rfl, rfl, rfl, rfl, rfl, rfl, rfl, rfl, rfl⟩
    split
    · exact ht
    · exact ht.trans (.raise ..)

section Reads
variable {s u : State} (h : WinRest s u)
include h

/-! What the pools read of the state (R92, R200, R205) -/

theorem WinRest.nat (p : Param) (i : Nat) : u.nat p i = s.nat p i := by
  rw [State.nat, State.nat, h.img]

theorem WinRest.on (p : Param) (i : Nat) : u.on p i = s.on p i := by
  rw [State.on, State.on, h.img]

theorem WinRest.winHas (w g : Nat) : u.winHas w g = s.winHas w g := by
  rw [State.winHas, State.winHas, h.nat]

theorem WinRest.cellsTaken : u.cellsTaken = s.cellsTaken := by
  have hsbn : u.sbn = s.sbn := by
    unfold State.sbn
    rw [h.beat]
  rw [State.cellsTaken, State.cellsTaken, State.takenAt, State.takenAt, State.passRuns, State.passRuns, hsbn, h.chg, h.integ]

theorem WinRest.winLate (w : Nat) : u.winLate w = s.winLate w := by
  rw [State.winLate, State.winLate, State.winOfs, State.winOfs, State.winSpan, State.winSpan, State.winLen, State.winLen, h.nat, h.nat]

theorem WinRest.frozen : u.frozen = s.frozen := by
  rw [State.frozen, State.frozen, h.beat]

theorem WinRest.winOpen (w : Nat) : u.winOpen w = s.winOpen w := by
  simp only [State.winOpen, State.winEn, h.on, h.beat]

theorem WinRest.corrIb (ib : List Int) (n : Nat) : u.corrIb ib n = s.corrIb ib n := by
  have hc : u.corrects n = s.corrects n := by
    simp only [State.corrects, State.cellPop, State.continuous, State.rwReady, h.on, h.bal]
  rw [State.corrIb, State.corrIb, hc]

theorem WinRest.linkUp (g : Nat) (c : Ch) : u.linkUp g c = s.linkUp g c := by
  simp only [State.linkUp, State.segHeld, h.blk]

end Reads

theorem addPools_getElem? {l : List Pool} {i : Nat} {p : Pool} (hp : l[i]? = some p) (rs : List (Option WinRaw)) (ib ibc : Nat → Int)
    (ok : Nat → Bool) : (addPools l rs ib ibc ok)[i]? = some (if ok i then p.add (rs[i]?.getD none) (ib i) (ibc i) else p) := by
  rw [addPools, indexed_map_getElem?, hp]
  rfl

/-- The pools after a window: each group that it holds and that arrives adds its samples (R92). -/
theorem State.pooled_cell (s : State) (w : Nat) (o : WindowIn) (P : Pools) (chk : Bool) {i : Nat} {p : Pool} (hp : P.cell[i]? = some p) :
    (s.pooled w o P chk).cell[i]? = some
      (if s.winHas w 0 = true ∧ s.cellsTaken = true ∧ s.dropped (i / 24) .a w = false then
        p.add (o.cells[i]?.getD none) (o.ib[i]?.getD 0) (s.corrIb o.ib (i + 1)) else p) := by
  simp [State.pooled, addPools_getElem? hp, and_assoc]

theorem State.pooled_cur (s : State) (w : Nat) (o : WindowIn) (P : Pools) (chk : Bool) {c : Nat} {p : Pool} (hp : P.cur[c]? = some p) :
    (s.pooled w o P chk).cur[c]? = some
      (if s.winHas w 1 = true ∧ s.chg.slow = false ∧ s.curPop c = true ∧ s.dropped 0 .a w = false then
        p.add (o.cur[c]?.getD none) 0 0 else p) := by
  simp [State.pooled, addPools_getElem? hp, and_assoc]

theorem State.pooled_hvB (s : State) (w : Nat) (o : WindowIn) (P : Pools) (chk : Bool) {c : Nat} {p : Pool} (hp : P.hvB[c]? = some p) :
    (s.pooled w o P chk).hvB[c]? = some
      (if s.winHas w 2 = true ∧ s.hvPop c = true ∧ s.dropped 0 .b w = false then p.add (o.hv[c]?.getD none) 0 0 else p) := by
  simp [State.pooled, addPools_getElem? hp, and_assoc]

/-- The last of several raises latches the source (R365). -/
theorem runAll_raise_latch {n : Nat} {f : Nat → Word} {l : List Nat} (hl : l ≠ []) {s : State} (hn : n < s.flt.src.length) :
    ((runAll (fun x t => State.raise n (f x) t) l s).fs n).latch = true := by
  obtain ⟨l', x, rfl⟩ := List.eq_nil_or_concat l |>.resolve_left hl
  have hsrc : (runAll (fun x t => State.raise n (f x) t) l' s).flt.src.length = s.flt.src.length :=
    (WinRest.runAll (fun x t => ⟨.raise n (f x) t, by simp⟩) l' s).1.srcs
  have hlast : runAll (fun x t => State.raise n (f x) t) (l'.concat x) s =
      (runAll (fun x t => State.raise n (f x) t) l' s).raise n (f x) := by
    simp [runAll]
  rw [hlast]
  exact (State.raise_fs (by rw [hsrc]; exact hn) _).1

/-- A window that stands open is taken: its words pass the FIFOs, its samples enter the pools, the gate opens (R26, R92, R199). -/
def State.windowDone (s : State) (w : Nat) (o : WindowIn) : State :=
  (((s.segPush (s.winWords w) .a).segPush (s.winWords w) .b).closeWindow w o).gateEnd w

theorem State.gateEnd_bal (w : Nat) (s : State) : (s.gateEnd w).bal = { s.bal with gate := s.bal.gate.set w false } := rfl

theorem State.windowDone_eq {s : State} {w : Nat} (hopen : s.winOpen w = true) (o : WindowIn) :
    ∃ u, WinRest s u ∧ u.meas = { s.meas with xsA := u.meas.xsA, xsB := u.meas.xsB } ∧
      ∃ l, s.windowDone w o = (runAll (fun n t => State.raise 74 (nword n) t) (if s.chkWithWindow w then s.checkFailures o else [])
        (runAll (fun n t => State.raiseTransient 74 (nword n) t) l (u.windowClose w o))).gateEnd w := by
  have hu : WinRest s ((s.segPush (s.winWords w) .a).segPush (s.winWords w) .b) := (WinRest.segPush _ .a s).trans (.segPush _ .b _)
  have hmeas := ((Quiet.segPush (s.winWords w) .a s).trans (.segPush (s.winWords w) .b _)).meas
  rw [State.windowDone]
  generalize (s.segPush (s.winWords w) .a).segPush (s.winWords w) .b = u at hu hmeas ⊢
  have hchk : u.chkWithWindow w = s.chkWithWindow w := by
    rw [State.chkWithWindow, State.chkWithWindow, hu.winHas, hu.cellsTaken, hmeas]
  have hfail : u.checkFailures o = s.checkFailures o := by
    have hcnt : u.meas.chkCnt = s.meas.chkCnt := by rw [hmeas]
    have hbad : u.meas.failChk = s.meas.failChk := by rw [hmeas]
    have hpop : u.cellPop = s.cellPop := funext fun n => by rw [State.cellPop, State.cellPop, hu.on]
    rw [State.checkFailures, State.checkFailures, hcnt, hbad, hpop]
  refine ⟨u, hu, hmeas, if s.chkWithWindow w then u.checkRetries o else [], ?_⟩
  rw [State.closeWindow, if_pos (hu.winOpen w ▸ hopen), hchk, hfail]

/-- The state after a window has closed (R31, R92, R199, R205). -/
theorem State.windowDone_spec {s : State} {w : Nat} {x : WinS} (hopen : s.winOpen w = true) (hx : s.beat.wins[w]? = some x) (o : WindowIn)
    {t : State} (ht : t = s.windowDone w o) :
    t.beat = { s.beat with wins := s.beat.wins.set w { x with closed := true } } ∧
    t.bal = { s.bal with gate := s.bal.gate.set w false } ∧ t.meas.shown = s.meas.shown ∧
    (s.winLate w = false → s.frozen = true → t.meas.pool = s.meas.pool ∧ t.meas.poolNext = s.meas.poolNext) ∧
    (s.winLate w = true → s.frozen = false → t.meas.pool = s.meas.pool) ∧
    (s.winLate w = false → s.frozen = false → t.meas.poolNext = s.meas.poolNext ∧
      (∀ (i : Nat) p, s.meas.pool.cell[i]? = some p → t.meas.pool.cell[i]? = some
        (if s.winHas w 0 = true ∧ s.cellsTaken = true ∧ s.dropped (i / 24) .a w = false then
          p.add (o.cells[i]?.getD none) (o.ib[i]?.getD 0) (s.corrIb o.ib (i + 1)) else p)) ∧
      (∀ (c : Nat) p, s.meas.pool.cur[c]? = some p → t.meas.pool.cur[c]? = some
        (if s.winHas w 1 = true ∧ s.chg.slow = false ∧ s.curPop c = true ∧ s.dropped 0 .a w = false then
          p.add (o.cur[c]?.getD none) 0 0 else p)) ∧
      (∀ (c : Nat) p, s.meas.pool.hvB[c]? = some p → t.meas.pool.hvB[c]? = some
        (if s.winHas w 2 = true ∧ s.hvPop c = true ∧ s.dropped 0 .b w = false then p.add (o.hv[c]?.getD none) 0 0 else p))) ∧
    (s.chkWithWindow w = true → s.checkFailures o ≠ [] → s.srcWhole → (t.fs 74).latch = true) ∧
    t.cha = s.cha ∧ t.chb = s.chb ∧ t.safe = s.safe := by
  obtain ⟨u, hu, hum, l, hdone⟩ := State.windowDone_eq hopen o
  obtain ⟨hr, hrm⟩ := WinRest.runAll (fun n t => ⟨.raiseTransient 74 (nword n) t, by simp⟩) l (u.windowClose w o)
  obtain ⟨hf, hfm⟩ := WinRest.runAll (fun n t => ⟨.raise 74 (nword n) t, by simp⟩)
    (if s.chkWithWindow w then s.checkFailures o else [])
    (runAll (fun n t => State.raiseTransient 74 (nword n) t) l (u.windowClose w o))
  have hall := hr.trans hf
  have hmeas : t.meas = (u.windowClose w o).meas := by
    rw [ht, hdone]
    exact hfm.trans hrm
  have hdropped (g : Nat) (c : Ch) : u.dropped g c w = s.dropped g c w := by
    rw [State.dropped, State.dropped, hu.linkUp, hum]
  have hpool : t.meas.pool = (if u.winLate w && !u.frozen || !u.winLate w && u.frozen then u.meas.pool
      else u.pooled w o u.meas.pool (u.chkWithWindow w)) := by
    rw [hmeas]
    rfl
  have hnext : t.meas.poolNext = (if u.winLate w && !u.frozen then u.pooled w o u.meas.poolNext (u.chkWithWindow w)
      else u.meas.poolNext) := by
    rw [hmeas]
    rfl
  have hupool : u.meas.pool = s.meas.pool := by rw [hum]
  have hunext : u.meas.poolNext = s.meas.poolNext := by rw [hum]
  rw [hu.winLate, hu.frozen, hupool] at hpool
  rw [hu.winLate, hu.frozen, hunext] at hnext
  refine ⟨?_, ?_, ?_, fun hlate hfroz => ?_, fun hlate hfroz => ?_, fun hlate hfroz => ?_, fun hchk hne hsrc => ?_, ?_, ?_, ?_⟩
  · rw [ht, hdone]
    refine hall.beat.trans ?_
    show ({ u.beat with wins := u.beat.wins.modify w fun x => { x with closed := true } } : BeatS) = _
    rw [hu.beat, modify_eq_set hx]
  · rw [ht, hdone]
    rw [State.gateEnd_bal, hall.bal]
    show ({ u.bal with gate := u.bal.gate.set w false } : BalS) = _
    rw [hu.bal]
  · rw [hmeas]
    show u.meas.shown = _
    rw [hum]
  · rw [hpool, hnext, hlate, hfroz]
    exact ⟨rfl, rfl⟩
  · rw [hpool, hlate, hfroz]
    rfl
  · rw [hlate, hfroz] at hpool hnext
    rw [hpool, hnext]
    refine ⟨rfl, fun i p hp => ?_, fun c p hp => ?_, fun c p hp => ?_⟩
    · exact (State.pooled_cell u w o _ _ hp).trans (by rw [hu.winHas, hu.cellsTaken, hdropped, hu.corrIb])
    · exact (State.pooled_cur u w o _ _ hp).trans (by rw [hu.winHas, hu.chg, State.curPop, hu.on, hdropped]; rfl)
    · exact (State.pooled_hvB u w o _ _ hp).trans (by rw [hu.winHas, State.hvPop, hu.on, hdropped]; rfl)
  · rw [ht, hdone, hchk]
    have hsrcs : (runAll (fun n t => State.raiseTransient 74 (nword n) t) l (u.windowClose w o)).flt.src.length = 128 :=
      hr.srcs.trans (hu.srcs.trans hsrc)
    exact runAll_raise_latch hne (by omega)
  · rw [ht, hdone]
    exact hall.cha.trans hu.cha
  · rw [ht, hdone]
    exact hall.chb.trans hu.chb
  · rw [ht, hdone]
    exact hall.safe.trans hu.safe

/-- An edge-mode window that no edge opened stood at OFS (R89). -/
theorem State.fallBack_open {s : State} {w : Nat} {x : WinS} (hw : s.edgeWaits w = true) (hx : s.beat.wins[w]? = some x)
    (hrej : x.rejected = false) (hcl : x.closed = false) :
    (s.fallBack (usTicks (s.winOfs w) + 1)).winOpen w = true ∧
    (s.fallBack (usTicks (s.winOfs w) + 1)).beat.wins[w]? = some
      { x with placed := true, start := usTicks (s.winOfs w), fallback := true } := by
  have hwins : (s.fallBack (usTicks (s.winOfs w) + 1)).beat.wins[w]? = some
      { x with placed := true, start := usTicks (s.winOfs w), fallback := true } := by
    simp only [State.fallBack, State.setBeat_beat]
    rw [indexed_map_getElem?, hx]
    simp [hw]
  have hen : s.winEn w = true := by
    simp only [State.edgeWaits, Bool.and_eq_true] at hw
    exact hw.1.1
  refine ⟨?_, hwins⟩
  rw [State.winOpen, hwins]
  have hen' : (s.fallBack (usTicks (s.winOfs w) + 1)).winEn w = true := hen
  simp [hen', hrej, hcl]

/-! The evaluation (R31, R96) -/

theorem exec_evaluation (a b : Nat) (s : State) : exec (.evaluation a b) s = .next (s.evaluate a b) := rfl

theorem State.evalFrom_work {k : Nat} {s : State} (h : s.beat.eStage ≤ k) :
    (s.evalFrom k).beat.work = { s.beat.work with eStage := k } :=
  State.evalTo_work (s := s.at 850000) h

/-- An evaluation runs every stage once and notes when each channel completed (R31, R96). -/
theorem State.evaluation_spec {s t : State} {a b : Nat} (he : s.beat.eStage ≤ 37) (ha : s.debugHalted .a = false)
    (hb : s.debugHalted .b = false) (ht : t = s.evaluation a b) :
    t.beat.eStage = 37 ∧ t.beat.doneA = some (a + ceilDiv s.beat.haltA 1000) ∧ t.beat.doneB = some (b + ceilDiv s.beat.haltB 1000) ∧
    t.beat.num = s.beat.num ∧ t.beat.sub = s.beat.sub ∧ s.beat.worst ≤ t.beat.worst := by
  unfold State.evaluation at ht
  extract_lets u v at ht
  have hda : s.doneUs .a a = a + ceilDiv s.beat.haltA 1000 := by
    rw [State.doneUs, ha]
    rfl
  have hdb : s.doneUs .b b = b + ceilDiv s.beat.haltB 1000 := by
    rw [State.doneUs, hb]
    rfl
  have hv : v.beat.work = { u.beat.work with eStage := 37 } := by
    have hall := State.evalFrom_work (s := u) (k := evalStages) he
    simp only [v, State.tally_beat]
    exact hall
  have hu : u.beat.work = { s.beat.work with
      doneA := some (a + ceilDiv s.beat.haltA 1000), doneB := some (b + ceilDiv s.beat.haltB 1000) } := by
    have hset : u.beat = { s.beat with doneA := some (s.doneUs .a a), doneB := some (s.doneUs .b b) } := rfl
    rw [hset, hda, hdb]
    rfl
  rw [hu] at hv
  clear_value v
  obtain ⟨m, hm, hle⟩ : ∃ m, t.beat.work = { v.beat.work with worst := m } ∧ v.beat.work.worst ≤ m := by
    subst ht
    exact ⟨_, rfl, Nat.le_max_left ..⟩
  rw [hv] at hm hle
  have hfield {α : Type} (f : BeatS → α) : f t.beat.work = f _ := congrArg f hm
  exact ⟨hfield BeatS.eStage, hfield BeatS.doneA, hfield BeatS.doneB, hfield BeatS.num, hfield BeatS.sub,
    hle.trans (hfield BeatS.worst).ge⟩

end Sys2Proof.Machine

namespace Sys2Proof.Proofs
open Sys2Proof.Machine

/-- Settles O7: what each step of a sub-beat leaves alone, what a window adds to each pool, and the stages of an evaluation by induction
over how many have run. -/
theorem beatWork : Obligations.BeatWork := by
  refine ⟨?_, ?_, ?_, ?_, ?_, ?_, ?_, ?_, ?_, ?_, ?_⟩
  · intro s o hon hsub hb
    refine ⟨_, exec_subBeat hon hsub hb o, ?_⟩
    obtain ⟨hbeat, himp, hvs, -⟩ := State.subBeat_keeps (s := s) (o := o) hon rfl
    generalize (s.subBeatReady.subBeatOf s.beat.sub o).vsSample o.vs o.reserve = t at *
    have hfield {α : Type} (f : BeatS → α) : f t.beat.steady = f _ := congrArg f hbeat
    exact ⟨hfield BeatS.sub, hfield BeatS.num, himp, (hfield BeatS.bStage).trans hb, hfield BeatS.eStage, hvs⟩
  · intro s o c q f x hon hsub hb hw hslow hc hpop hfail hqA hx hq hxs hf hf16
    obtain ⟨hsum, hnonneg, hlt⟩ := accum_whole hq hxs hf hf16
    refine ⟨_, _, _, exec_subBeat hon hsub hb o, ?_, hsum, hnonneg, hlt⟩
    obtain ⟨-, -, -, hqA'⟩ := State.subBeat_keeps (s := s) (o := o) hon rfl
    rw [hqA']
    exact State.subBeatCharged_qA s.beat.sub hw hslow hc hpop hfail hqA hx
  · intro s o hon hsub hintr hvs
    have hexec : exec (.subBeat o) s = .next (s.vsSample o.vs o.reserve) := by
      rw [exec_subBeat_eq, if_neg (by simp [hsub])]
    rw [hexec, State.vsSample_good (State.evalOn_booting hon) hintr hvs, if_pos hsub]
  · intro s o hst hsub
    have hexec : exec (.subBeat o) s = .next (s.vsSample o.vs o.reserve) := by
      have hoff : s.evalOn = false := by
        rcases hst with h | h | h | h <;> simp [State.evalOn, State.beatsOn, h]
      rw [exec_subBeat_eq, if_neg (by simp [hoff])]
    have hboot : s.booting = false := by
      rcases hst with h | h | h | h <;> simp [State.booting, h]
    have hrides : s.rides = false := by
      rcases hst with h | h | h | h <;> simp [State.rides, h]
    rw [hexec, State.vsSample_idle hboot hrides, if_neg (show ¬ s.beat.sub = 16 by omega)]
  · intro s w o x hedge hopen hx
    have hexec : exec (.windowClose w o) s = .next (s.windowDone w o) := by
      rw [exec_windowClose, hedge]
      exact congrArg Host.Outcome.next (if_pos hopen)
    exact ⟨_, hexec, State.windowDone_spec hopen hx o rfl⟩
  · intro p r ib ibc
    exact ⟨rfl, rfl, rfl, rfl⟩
  · intro s w o x hedge hx hrej hcl
    obtain ⟨hopen, hwins⟩ := State.fallBack_open hedge hx hrej hcl
    have hexec : exec (.windowClose w o) s = .next ((s.fallBack (usTicks (s.winOfs w) + 1)).windowDone w o) := by
      rw [exec_windowClose, hedge]
      exact congrArg Host.Outcome.next (if_pos hopen)
    refine ⟨_, hexec, ?_⟩
    obtain ⟨hbeat, -⟩ := State.windowDone_spec hopen hwins o rfl
    rw [hbeat]
    obtain ⟨hlt, -⟩ := List.getElem?_eq_some_iff.1 hwins
    exact List.getElem?_set_self hlt
  · intro s w o hedge hopen
    rw [exec_windowClose, hedge]
    exact congrArg Host.Outcome.next (if_neg (by rw [if_neg Bool.false_ne_true, hopen]; exact Bool.false_ne_true))
  · intro s a b hon hdone hwait hb he hha hhb
    have hexec : exec (.evaluation a b) s = .next (s.evaluation a b) := by
      rw [exec_evaluation, State.evaluate, if_neg (by simp [hon, hdone, hwait]),
        if_neg (by simp [State.someHalted, hha, hhb]), State.inBeat_now hon hb]
    exact ⟨_, hexec, State.evaluation_spec he hha hhb rfl⟩
  · intro s a b hon hdone hwait hb hhalt
    rw [exec_evaluation, State.evaluate, if_neg (by simp [hon, hdone, hwait]),
      if_pos (by simpa [State.someHalted] using hhalt), State.inBeat_now hon hb]
    rfl
  · intro s a b u h
    rw [exec_evaluation, State.evaluate, if_pos]
    rcases h with h | h | h <;> simp [h]

end Sys2Proof.Proofs
end

section
/-! PROOFS. The sequencers' operations: what an operation of one channel and the drive of the outputs leave alone (R310, R311, R315). -/

namespace Sys2Proof.Machine

/-- What an operation of one channel's sequencer may change: the sequencer, RESULT, PROT_PCT and the recorder's intake (R308, R310). -/
def State.seqStep (ch : Ch) (q : Seq) (r p : Nat) (l : LogS) (s : State) : State :=
  { s.setSeq ch fun _ => q with safe := { s.safe with result := r, pct := p }, log := l }

@[simp] theorem State.seqStep_runs (ch c : Ch) (q : Seq) (r p : Nat) (l : LogS) (s : State) : (s.seqStep ch q r p l).runs c = s.runs c := by
  cases ch <;> cases c <;> rfl

@[simp] theorem State.seqStep_reports (ch c : Ch) (q : Seq) (r p : Nat) (l : LogS) (s : State) :
    (s.seqStep ch q r p l).reports c = s.reports c := by
  rw [State.reports, State.seqStep_runs, ← State.reports]

@[simp] theorem State.seqStep_chan (ch : Ch) (q : Seq) (r p : Nat) (l : LogS) (s : State) :
    (s.seqStep ch q r p l).chan ch = { s.chan ch with seq := q } := by
  cases ch <;> rfl

theorem State.seqStep_setRole (ch : Ch) (q x : Seq) (r p : Nat) (l : LogS) (s : State) (role : Nat) (v : Bool) :
    (s.seqStep ch q r p l).setRole role v x = s.setRole role v x := rfl

theorem State.seqStep_seqStep (ch : Ch) (q q' : Seq) (r r' p p' : Nat) (l l' : LogS) (s : State) :
    (s.seqStep ch q r p l).seqStep ch q' r' p' l' = s.seqStep ch q' r' p' l' := by
  cases ch <;> rfl

theorem State.setSeq_eq_seqStep (ch : Ch) (f : Seq → Seq) (s : State) :
    s.setSeq ch f = s.seqStep ch (f (s.chan ch).seq) s.safe.result s.safe.pct s.log := by
  cases ch <;> rfl

theorem State.eq_seqStep (ch : Ch) (s : State) : s = s.seqStep ch (s.chan ch).seq s.safe.result s.safe.pct s.log := by
  cases ch <;> rfl

/-- The record of an attempt leaves the sequencer and RESULT (R308). -/
theorem State.attemptEnd_seqStep (ch : Ch) (s : State) :
    ∃ p l, s.attemptEnd ch = s.seqStep ch (s.chan ch).seq s.safe.result p l := by
  unfold State.attemptEnd State.attempt
  extract_lets q
  split
  · split
    · cases ch <;> exact ⟨_, _, rfl⟩
    · exact ⟨_, _, s.eq_seqStep ch⟩
  · exact ⟨_, _, s.eq_seqStep ch⟩

/-- RESULT is that of the channel that reports (R310, R318). -/
theorem State.seqResult_seqStep (ch : Ch) (r : Nat) (left entered : Ctl) (s : State) :
    ∃ l, s.seqResult ch r left entered =
      s.seqStep ch (s.chan ch).seq (if s.reports ch then r else s.safe.result) s.safe.pct l := by
  unfold State.seqResult
  split
  · cases ch <;> exact ⟨_, rfl⟩
  · exact ⟨_, s.eq_seqStep ch⟩

/-- The sequencer that an open leaves in Opening: POS and PRE open at once in Precharging; Run-down ends in Safe (R303, R311). -/
def State.openingSeq (s : State) (ch : Ch) (toSafe : Bool) : Seq :=
  let q := (s.chan ch).seq
  ((s.enterOpening ch (toSafe || q.state == .rundown) (q.state != .precharging) false).chan ch).seq

/-- Which of an open's outputs are commanded follows from the image alone: the record of the attempt before it makes no difference. -/
theorem State.seqStep_enterOpening (ch : Ch) (r p : Nat) (l : LogS) (toSafe wait : Bool) (s : State) :
    (s.seqStep ch (s.chan ch).seq r p l).enterOpening ch toSafe wait false =
      s.seqStep ch ((s.enterOpening ch toSafe wait false).chan ch).seq r p l := by
  simp only [State.enterOpening, State.seqStep_setRole]
  cases ch <;> rfl

/-- An open of a string that is closing, closed or in Run-down: Opening, with the RESULT of the state left (R303, R310, R311). -/
theorem State.openNow_live {ch : Ch} {s : State} (h : (s.chan ch).seq.state.live = true) (toSafe : Bool) :
    ∃ p l, s.openNow ch toSafe = s.seqStep ch (s.openingSeq ch toSafe)
      (if s.reports ch then leaveResult (s.chan ch).seq.state else s.safe.result) p l := by
  obtain ⟨p, l, hend⟩ := s.attemptEnd_seqStep ch
  have enter (left : Ctl) (r : Nat) (p : Nat) (l : LogS) (ts wait : Bool) :
      ∃ l', (((s.seqStep ch (s.chan ch).seq s.safe.result p l).enterOpening ch ts wait false).seqResult ch r left .opening) =
        s.seqStep ch ((s.enterOpening ch ts wait false).chan ch).seq (if s.reports ch then r else s.safe.result) p l' := by
    rw [State.seqStep_enterOpening]
    obtain ⟨l', hl'⟩ := State.seqResult_seqStep ch r left .opening
      (s.seqStep ch ((s.enterOpening ch ts wait false).chan ch).seq s.safe.result p l)
    rw [hl', State.seqStep_seqStep, State.seqStep_chan, State.seqStep_reports]
    exact ⟨l', rfl⟩
  unfold State.openNow State.openingSeq
  extract_lets q
  cases hq : q.state with
  | precharging =>
    obtain ⟨l', hl'⟩ := enter .precharging 2 p l toSafe false
    rw [hend, show (toSafe || Ctl.precharging == .rundown) = toSafe from Bool.or_false _]
    exact ⟨p, l', hl'⟩
  | closed =>
    obtain ⟨l', hl'⟩ := enter .closed 3 s.safe.pct s.log toSafe true
    rw [← s.eq_seqStep ch] at hl'
    rw [show (toSafe || Ctl.closed == .rundown) = toSafe from Bool.or_false _]
    exact ⟨_, l', hl'⟩
  | rundown =>
    obtain ⟨l', hl'⟩ := enter .rundown 3 s.safe.pct s.log true true
    rw [← s.eq_seqStep ch] at hl'
    rw [show (toSafe || Ctl.rundown == .rundown) = true from Bool.or_true _]
    exact ⟨_, l', hl'⟩
  | parked => simp [q, hq, Ctl.live] at h
  | opening => simp [q, hq, Ctl.live] at h
  | safe => simp [q, hq, Ctl.live] at h

/-- Any open acts on its channel's sequencer alone; the channel that does not report leaves RESULT (R318). -/
theorem State.openNow_seqStep (ch : Ch) (toSafe : Bool) (s : State) :
    ∃ q r p l, s.openNow ch toSafe = s.seqStep ch q r p l ∧ (s.reports ch = false → r = s.safe.result) := by
  by_cases h : (s.chan ch).seq.state.live = true
  · obtain ⟨p, l, hopen⟩ := State.openNow_live h toSafe
    exact ⟨_, _, p, l, hopen, fun hr => by simp [hr]⟩
  · unfold State.openNow
    extract_lets q
    cases hq : q.state with
    | opening => exact ⟨_, _, _, _, State.setSeq_eq_seqStep .., fun _ => rfl⟩
    | parked => exact ⟨_, _, _, _, s.eq_seqStep ch, fun _ => rfl⟩
    | safe => exact ⟨_, _, _, _, s.eq_seqStep ch, fun _ => rfl⟩
    | precharging => simp [q, hq, Ctl.live] at h
    | closed => simp [q, hq, Ctl.live] at h
    | rundown => simp [q, hq, Ctl.live] at h

/-- A pulse under way that meets the commands changes the record of the pulses alone (R336). -/
theorem State.pulseMeets_eq (s : State) : ∃ tp, s.pulseMeets = { s with safe := { s.safe with tp := tp } } := by
  unfold State.pulseMeets
  split
  · exact ⟨s.safe.tp, rfl⟩
  · extract_lets closed was
    split
    · exact ⟨_, rfl⟩
    · split
      · exact ⟨_, rfl⟩
      · split
        · exact ⟨_, rfl⟩
        · exact ⟨s.safe.tp, rfl⟩

/-- The drive of the outputs changes the outputs, the pulses and which commands the drivers follow (R94, R96, R315, R336). -/
theorem State.drive_eq (s : State) : ∃ a b out tp, s.drive = { s with
    cha := { s.cha with seq := { s.cha.seq with app := a } }
    chb := { s.chb with seq := { s.chb.seq with app := b } }
    safe := { s.safe with out := out, tp := tp } } := by
  unfold State.drive
  split
  · exact ⟨s.cha.seq.app, s.chb.seq.app, s.safe.out, s.safe.tp, rfl⟩
  · obtain ⟨tp, h⟩ := s.pulseMeets_eq
    rw [h]
    exact ⟨_, _, _, _, rfl⟩

end Sys2Proof.Machine
end

section
/-! PROOFS. PROT_CLOSE, PROT_OPEN, SAFE_ACKNOWLEDGE (R74, R303-R306, R310, R311). -/

namespace Sys2Proof.Machine

/-- A boundary row whose operation is due runs it while the boundary lasts (R305). -/
theorem State.boundaryRow_due {s : State} {due : State → Bool} (hb : s.beat.bStage = 0) (h : due s = true) (op : State → State) :
    s.boundaryRow due op = op s := by
  simp [State.boundaryRow, State.atBoundary, hb, h]

/-- A boundary row whose operation is not due does nothing. -/
theorem State.boundaryRow_idle {s : State} {due : State → Bool} (h : due s = false) (op : State → State) :
    s.boundaryRow due op = s := by
  simp [State.boundaryRow, h]

section
variable {s : State} {src : ReqSrc}

theorem exec_protClose_due (hb : s.beat.bStage = 0) (hreq : s.safe.req = some ⟨.close, src⟩) :
    exec .protClose s = .next s.closeOp :=
  congrArg Host.Outcome.next (State.boundaryRow_due hb (by simp [State.closeDue, hreq]) _)

theorem exec_protOpen_due (hb : s.beat.bStage = 0) (hreq : s.safe.req = some ⟨.openReq, src⟩) :
    exec .protOpen s = .next s.openOp :=
  congrArg Host.Outcome.next (State.boundaryRow_due hb (by simp [State.openDue, hreq]) _)

theorem exec_safeAcknowledge_due (hb : s.beat.bStage = 0) (hreq : s.safe.req = some ⟨.ack, src⟩) :
    exec .safeAcknowledge s = .next s.ackOp :=
  congrArg Host.Outcome.next (State.boundaryRow_due hb (by simp [State.ackDue, hreq]) _)

/-! Close requests (R74, R306) -/

/-- A close request is taken; with VK below 16.0 V any of them raises FS48 (R74, R306). -/
def State.closeTaken (src : ReqSrc) (s : State) : State :=
  let t := { s with safe := { s.safe with req := none, lastSrc := src.code } }
  if s.pwr.vk < 16000 then t.raise 48 0 else t

theorem State.closeTaken_supplied (h : 16000 ≤ s.pwr.vk) :
    s.closeTaken src = { s with safe := { s.safe with req := none, lastSrc := src.code } } :=
  if_neg (Nat.not_lt.2 h)

theorem State.closeTaken_low (h : s.pwr.vk < 16000) :
    s.closeTaken src = State.raise 48 0 { s with safe := { s.safe with req := none, lastSrc := src.code } } :=
  if_pos h

/-- In Precharging a close request is ignored (R306). -/
theorem State.closeOp_ignored (hreq : s.safe.req = some ⟨.close, src⟩) (h : s.pre.ctlA = .precharging ∨ s.pre.ctlB = .precharging) :
    s.closeOp = s.closeTaken src := by
  simp only [State.closeOp, hreq, h, if_true]
  rfl

/-- A refused close request shows its cause and writes its entry (R306). -/
theorem State.closeOp_refused (hreq : s.safe.req = some ⟨.close, src⟩) (ha : s.pre.ctlA ≠ .precharging)
    (hb : s.pre.ctlB ≠ .precharging) {k : Nat} (hk : s.closeCause src = some k) :
    s.closeOp = State.event .control 0x500 [nword k, nword src.code]
      { s.closeTaken src with safe := { (s.closeTaken src).safe with refuse := k } } := by
  simp only [State.closeOp, hreq, ha, hb, hk, or_self, if_false]
  rfl

/-- An accepted close request starts the pre-charge in both channels (R306, R307). -/
theorem State.closeOp_accepted (hreq : s.safe.req = some ⟨.close, src⟩) (ha : s.pre.ctlA ≠ .precharging)
    (hb : s.pre.ctlB ≠ .precharging) (hk : s.closeCause src = none) :
    s.closeOp = ((s.closeTaken src).setSeq .a Seq.startClose).setSeq .b Seq.startClose := by
  simp only [State.closeOp, hreq, ha, hb, hk, or_self, if_false]
  rfl

/-- No close request is accepted with VK below 16.0 V (R306 cause 5). -/
theorem State.supplied_of_closeCause (h : s.closeCause src = none) : 16000 ≤ s.pwr.vk := by
  refine Nat.not_lt.1 fun hvk => ?_
  simp only [State.closeCause, hvk, if_true] at h
  split_ifs at h

/-! Open requests (R305, R310, R311) -/

/-- An open with target Parked on a channel that runs. -/
def State.openIf (ch : Ch) (s : State) : State := if s.runs ch then s.openNow ch false else s

theorem State.openIf_seqStep (ch : Ch) (s : State) :
    ∃ q r p l, s.openIf ch = s.seqStep ch q r p l ∧ (s.reports ch = false → r = s.safe.result) := by
  unfold State.openIf
  split
  · exact s.openNow_seqStep ch false
  · exact ⟨_, _, _, _, s.eq_seqStep ch, fun _ => rfl⟩

theorem State.openIf_live {ch : Ch} (hr : s.runs ch = true) (h : (s.chan ch).seq.state.live = true) :
    ∃ p l, s.openIf ch = s.seqStep ch (s.openingSeq ch false)
      (if s.reports ch then leaveResult (s.chan ch).seq.state else s.safe.result) p l := by
  rw [State.openIf, if_pos hr]
  exact State.openNow_live h false

/-- Only one channel reports (R318, R366). -/
theorem State.reports_other {ch : Ch} (h : s.reports ch = true) : s.reports ch.other = false := by
  unfold State.reports at h ⊢
  cases ch <;> cases hr : s.runs .a <;> simp_all [Ch.other]

/-- What the opens of both channels leave alone. -/
theorem State.openBoth_frame (s : State) : ∃ a b r p l, (s.openIf .a).openIf .b =
    (s.seqStep .a a s.safe.result s.safe.pct s.log).seqStep .b b r p l := by
  obtain ⟨a, r, p, l, ha, -⟩ := s.openIf_seqStep .a
  obtain ⟨b, r', p', l', hb, -⟩ := (s.openIf .a).openIf_seqStep .b
  exact ⟨a, b, r', p', l', by rw [hb, ha]; rfl⟩

/-- Where an open applies to both channels, a live one enters Opening with its RESULT, whatever the other does (R310). -/
theorem State.openBoth_live {ch : Ch} (hr : s.runs ch = true) (h : (s.chan ch).seq.state.live = true) :
    (((s.openIf .a).openIf .b).chan ch).seq = s.openingSeq ch false ∧
      (s.reports ch = true → ((s.openIf .a).openIf .b).safe.result = leaveResult (s.chan ch).seq.state) := by
  cases ch with
  | a =>
    obtain ⟨p, l, ha⟩ := State.openIf_live hr h
    obtain ⟨q, r, p', l', hb, hkeep⟩ := (s.openIf .a).openIf_seqStep .b
    rw [hb, ha]
    refine ⟨rfl, fun hrep => ?_⟩
    have hother : (s.openIf .a).reports .b = false := by rw [ha, State.seqStep_reports]; exact State.reports_other hrep
    refine (hkeep hother).trans ?_
    rw [ha, hrep]
    rfl
  | b =>
    obtain ⟨q, r, p, l, ha, -⟩ := s.openIf_seqStep .a
    have hr' : (s.openIf .a).runs .b = true := by rw [ha, State.seqStep_runs, hr]
    have h' : ((s.openIf .a).chan .b).seq.state.live = true := by rw [ha]; exact h
    obtain ⟨p', l', hb⟩ := State.openIf_live hr' h'
    rw [hb, ha, State.seqStep_reports]
    refine ⟨rfl, fun hrep => ?_⟩
    rw [hrep]
    rfl

/-- An open request applies to both channels (R302, R305). -/
theorem State.openWanted_request (h : s.safe.req = some ⟨.openReq, src⟩) (ch : Ch) : s.openWanted ch = true := by
  simp [State.openWanted, h]

/-- An open request opens both channels that run, and the outputs follow (R305, R315). -/
theorem State.openOp_request (hreq : s.safe.req = some ⟨.openReq, src⟩) (hloss : s.pre.loss = false) :
    s.openOp = State.drive { (s.openIf .a).openIf .b with safe := { ((s.openIf .a).openIf .b).safe with
      lastSrc := src.code, req := none } } := by
  obtain ⟨q, r, p, l, ha, -⟩ := s.openIf_seqStep .a
  obtain ⟨q', r', p', l', hb, -⟩ := (s.openIf .a).openIf_seqStep .b
  have hreqA : (s.openIf .a).safe.req = some ⟨.openReq, src⟩ := by rw [ha]; exact hreq
  have hreqB : ((s.openIf .a).openIf .b).safe.req = some ⟨.openReq, src⟩ := by rw [hb]; exact hreqA
  have hA : (if s.runs .a && s.openWanted .a then s.openNow .a false else s) = s.openIf .a := by
    rw [State.openWanted_request hreq, Bool.and_true]; rfl
  have hB : (if s.runs .b && s.openWanted .b then (s.openIf .a).openNow .b false else s.openIf .a) = (s.openIf .a).openIf .b := by
    rw [State.openWanted_request hreq, Bool.and_true, show s.runs .b = (s.openIf .a).runs .b by rw [ha, State.seqStep_runs]]
    rfl
  simp only [State.openOp, State.outranked, hloss, Bool.false_eq_true, if_false, hA, hB, hreqB, hreq, if_true]
  rfl

/-- A live channel that runs enters Opening at an open request (R305, R310, R311). -/
theorem State.openOp_live {ch : Ch} (hreq : s.safe.req = some ⟨.openReq, src⟩) (hloss : s.pre.loss = false)
    (hr : s.runs ch = true) (h : (s.chan ch).seq.state.live = true) :
    (∃ app, (s.openOp.chan ch).seq = { s.openingSeq ch false with app := app }) ∧ s.openOp.safe.lastSrc = src.code ∧
      (s.reports ch = true → s.openOp.safe.result = leaveResult (s.chan ch).seq.state) ∧ s.openOp.safe.req = none ∧
      s.openOp.beat = s.beat ∧ s.openOp.cfg = s.cfg ∧ s.openOp.flt = s.flt ∧ s.openOp.meas = s.meas ∧ s.openOp.ring = s.ring := by
  obtain ⟨hseq, hres⟩ := State.openBoth_live hr h
  obtain ⟨a, b, r, p, l, hframe⟩ := s.openBoth_frame
  rw [State.openOp_request hreq hloss]
  obtain ⟨appA, appB, out, tp, hdrive⟩ := State.drive_eq { (s.openIf .a).openIf .b with
    safe := { ((s.openIf .a).openIf .b).safe with lastSrc := src.code, req := none } }
  rw [hdrive]
  refine ⟨?_, rfl, hres, rfl, ?_⟩
  · rw [← hseq]
    cases ch with
    | a => exact ⟨appA, rfl⟩
    | b => exact ⟨appB, rfl⟩
  · rw [hframe]
    exact ⟨rfl, rfl, rfl, rfl, rfl⟩

/-- From Closed and Run-down POS and PRE wait for the current; Run-down ends in Safe (R303, R311). -/
theorem State.openingSeq_waits {ch : Ch} (h : (s.chan ch).seq.state = .closed ∨ (s.chan ch).seq.state = .rundown) :
    (s.openingSeq ch false).state = .opening ∧ (s.openingSeq ch false).toSafe = ((s.chan ch).seq.state == .rundown) ∧
      (s.openingSeq ch false).o = 0 ∧ (s.openingSeq ch false).posOpen = false ∧
      (s.openingSeq ch false).cmd = (s.chan ch).seq.cmd := by
  have hwait : ((s.chan ch).seq.state != .precharging) = true := by rcases h with h | h <;> rw [h] <;> rfl
  unfold State.openingSeq
  extract_lets q
  rw [show (q.state != .precharging) = true from hwait, State.enterOpening, State.setSeq, State.setChan_chan]
  exact ⟨rfl, rfl, rfl, rfl, rfl⟩

/-- A command to one role reaches the outputs of that role alone (R307, R311). -/
theorem State.setRole_cmd (role : Nat) (v : Bool) (q : Seq) : s.roleSet role v q.cmd (s.setRole role v q).cmd := by
  intro i
  rw [State.setRole, indexed_map_getElem?]
  split <;> simp

/-- A pre-charge is aborted with PRE and POS open at once and target Parked (R310, R311). -/
theorem State.openingSeq_aborts {ch : Ch} (h : (s.chan ch).seq.state = .precharging) :
    (s.openingSeq ch false).state = .opening ∧ (s.openingSeq ch false).toSafe = false ∧ (s.openingSeq ch false).posOpen = true ∧
      (s.openingSeq ch false).cmd = (s.setRole 2 false (s.setRole 3 false (s.chan ch).seq)).cmd := by
  unfold State.openingSeq
  extract_lets q
  rw [show q.state = .precharging from h, State.enterOpening, State.setSeq, State.setChan_chan]
  exact ⟨rfl, rfl, rfl, rfl⟩

/-- Opening PRE and POS opens the outputs of those two roles and no other (R311). -/
theorem State.openPrePos_cmd (q : Seq) (i : Nat) : (s.setRole 2 false (s.setRole 3 false q)).cmd[i]? =
    if s.outRole (i + 1) = 2 ∨ s.outRole (i + 1) = 3 then q.cmd[i]?.map fun _ => false else q.cmd[i]? := by
  rw [State.setRole_cmd 2 false (s.setRole 3 false q) i, State.setRole_cmd 3 false q i]
  by_cases h2 : s.outRole (i + 1) = 2
  · simp [h2]
  · simp [h2]

/-! Acknowledgements (R304) -/

/-- What an acknowledgement must not find (R304). -/
theorem State.ackOk_iff (s : State) : s.ackOk = true ↔ (s.cha.shownCond ||| s.chb.shownCond) &&& tripMask = 0 ∧
    s.cha.out.safeReq = false ∧ s.chb.out.safeReq = false ∧ s.cha.hitLast = false ∧ s.chb.hitLast = false := by
  simp [State.ackOk, and_assoc]

/-- A channel that leaves Safe, with its fast condition cleared (R304). -/
def ChanS.acknowledged (c : ChanS) : ChanS :=
  { c with fast := false, seq := if c.seq.state = .safe then { c.seq with state := .parked } else c.seq }

/-- In Safe an acknowledgement from the host or the ring is accepted when nothing holds (R304). -/
theorem State.ackOp_accepted (hreq : s.safe.req = some ⟨.ack, src⟩) (hsafe : s.cha.seq.state = .safe)
    (hsrc : src = .host ∨ src = .ring) (hok : s.ackOk = true) : s.ackOp = { s with
      cha := s.cha.acknowledged, chb := s.chb.acknowledged
      safe := { s.safe with req := none, lastSrc := src.code, latched := false } } := by
  have hfrom : (src == .host || src == .ring) = true := by simpa using hsrc
  simp only [State.ackOp, hreq, hsafe, hfrom, hok, bne_self_eq_false, Bool.false_and, Bool.not_true, Bool.or_self,
    Bool.false_eq_true, if_false]
  rfl

/-- In Safe any other acknowledgement is refused with cause 6 (R304). -/
theorem State.ackOp_refused (hreq : s.safe.req = some ⟨.ack, src⟩) (hsafe : s.cha.seq.state = .safe)
    (h : s.ackOk = false ∨ (src ≠ .host ∧ src ≠ .ring)) :
    s.ackOp = { s with safe := { s.safe with req := none, lastSrc := src.code, refuse := 6 } } := by
  have hno : (!(src == .host || src == .ring) || !s.ackOk) = true := by
    rcases h with h | ⟨hh, hr⟩
    · simp [h]
    · simp [hh, hr]
  simp only [State.ackOp, hreq, hsafe, hno, bne_self_eq_false, Bool.false_and, Bool.false_eq_true, if_false, if_true]

end
end Sys2Proof.Machine

namespace Sys2Proof.Proofs
open Sys2Proof.Machine

/-- Settles O18: what the boundary makes of a close request, an open request and an acknowledgement is an equation for each outcome;
an open of one channel is `openingSeq`, whatever the other channel does and however the outputs follow. -/
theorem requests : Obligations.Requests := by
  refine ⟨?accepted, ?refused, ?lowSupply, ?ignored, ?nothing, ?opens, ?aborts, ?outranked, ?leaves, ?stays⟩
  case accepted =>
    intro s src hb hreq ha hpb hcause
    rw [exec_protClose_due hb hreq, State.closeOp_accepted hreq (by simp [ha]) (by simp [hpb]) hcause,
      State.closeTaken_supplied (State.supplied_of_closeCause hcause)]
    rfl
  case refused =>
    intro s src k hb hreq ha hpb hcause hvk hshown hrun
    rw [exec_protClose_due hb hreq, State.closeOp_refused hreq ha hpb hcause, State.closeTaken_supplied hvk]
    simp only [State.event, hshown, hrun, Option.isSome_none, Bool.false_eq_true, if_false, if_true]
    rfl
  case lowSupply =>
    intro s src k hb hreq ha hpb hcause hvk hwhole
    refine ⟨_, exec_protClose_due hb hreq, ?_⟩
    obtain ⟨hlatch, -⟩ := State.raise_fs (s := { s with safe := { s.safe with req := none, lastSrc := src.code } }) (n := 48)
      (by simp only [hwhole]; decide) 0
    rw [State.closeOp_refused hreq ha hpb hcause, State.closeTaken_low hvk]
    simp only [State.event_safe, State.event_cha, State.event_chb, State.event_beat, State.event_meas, State.raise_safe,
      State.raise_cha, State.raise_chb, State.raise_beat, State.raise_meas, true_and, and_true]
    exact hlatch
  case ignored =>
    intro s src hb hreq hvk hpre
    rw [exec_protClose_due hb hreq, State.closeOp_ignored hreq hpre, State.closeTaken_supplied hvk]
  case nothing =>
    intro s h
    exact ⟨congrArg _ (State.boundaryRow_idle (by simp [State.closeDue, h]) _),
      congrArg _ (State.boundaryRow_idle (by simp [State.ackDue, h]) _)⟩
  case opens =>
    intro s src ch hb hreq hloss hr hst
    have hlive : (s.chan ch).seq.state.live = true := by rcases hst with h | h <;> rw [h] <;> rfl
    have hleave : leaveResult (s.chan ch).seq.state = 3 := by rcases hst with h | h <;> rw [h] <;> rfl
    obtain ⟨⟨app, hseq⟩, hsrc, hres, hrest⟩ := State.openOp_live hreq hloss hr hlive
    obtain ⟨hstate, hsafe, ho, hpos, hcmd⟩ := State.openingSeq_waits hst
    refine ⟨_, exec_protOpen_due hb hreq, ?_⟩
    rw [hseq]
    exact ⟨hstate, hsafe, ho, hpos, hcmd, hsrc, fun hrep => (hres hrep).trans hleave, hrest⟩
  case aborts =>
    intro s src ch hb hreq hloss hr hst
    have hlive : (s.chan ch).seq.state.live = true := by rw [hst]; rfl
    obtain ⟨⟨app, hseq⟩, -, hres, hrest⟩ := State.openOp_live hreq hloss hr hlive
    obtain ⟨hstate, hsafe, hpos, hcmd⟩ := State.openingSeq_aborts hst
    refine ⟨_, exec_protOpen_due hb hreq, ?_⟩
    rw [hseq]
    refine ⟨hstate, hsafe, hpos, fun i hi => ?_, fun i h2 h3 => ?_, fun hrep => by rw [hres hrep, hst]; rfl, hrest⟩
    · rw [hcmd, State.openPrePos_cmd, if_pos hi]
    · rw [hcmd, State.openPrePos_cmd, if_neg (by simp [h2, h3])]
  case outranked =>
    intro s src hb hreq hloss
    rw [exec_protOpen_due hb hreq]
    simp [State.openOp, State.outranked, hloss, hreq]
  case leaves =>
    intro s src hb hreq hsrc hcond hsa hsb hha hhb hA hB
    rw [exec_safeAcknowledge_due hb hreq, State.ackOp_accepted hreq hA hsrc (s.ackOk_iff.2 ⟨hcond, hsa, hsb, hha, hhb⟩),
      ChanS.acknowledged, ChanS.acknowledged, if_pos hA, if_pos hB]
  case stays =>
    intro s src hb hreq hA h
    rw [exec_safeAcknowledge_due hb hreq, State.ackOp_refused hreq hA]
    by_cases hok : s.ackOk = true
    · obtain ⟨hcond, hsa, hsb, hha, hhb⟩ := s.ackOk_iff.1 hok
      exact .inr (by simpa [hcond, hsa, hsb, hha, hhb] using h)
    · exact .inl (by simpa using hok)

end Sys2Proof.Proofs
end

section
/-! PROOFS. HOLD_LAPSE, PULLIN_END, COIL_OVERCURRENT, COIL_SUPPLY_LOW (R74, R313, R316, R330). -/

namespace Sys2Proof.Machine

/-! What a drive leaves of an output (R315) -/

@[simp] theorem OutS.drive_h (x : OutS) (h l : Option Bool) : (x.drive h l).h = sideAfter x.locked x.h h := by
  unfold OutS.drive
  dsimp only
  split
  · rfl
  · split <;> rfl

@[simp] theorem OutS.drive_l (x : OutS) (h l : Option Bool) : (x.drive h l).l = sideAfter x.locked x.l l := by
  unfold OutS.drive
  dsimp only
  split
  · rfl
  · split <;> rfl

@[simp] theorem OutS.drive_locked (x : OutS) (h l : Option Bool) : (x.drive h l).locked = x.locked := by
  unfold OutS.drive
  dsimp only
  split
  · rfl
  · split <;> rfl

@[simp] theorem OutS.drive_coilFault (x : OutS) (h l : Option Bool) : (x.drive h l).coilFault = x.coilFault := by
  unfold OutS.drive
  dsimp only
  split
  · rfl
  · split <;> rfl

/-- A side that is commanded open is open, whatever it was. -/
@[simp] theorem sideAfter_open (locked was : Bool) : sideAfter locked was (some false) = false := by simp [sideAfter]

section
variable {s : State} {n : Fin 8} {x : OutS}

/-! The hold of an undriven side (R330) -/

theorem exec_holdLapse_due {side : Side} (hb : s.beat.bStage = 0) (h : s.lapseDue (n.val + 1) side = true) :
    exec (.holdLapse n side) s = .next (s.lapse (n.val + 1) side) :=
  congrArg Host.Outcome.next (State.boundaryRow_due (due := fun t => t.lapseDue (n.val + 1) side) hb h _)

/-- The side opens by itself, and its hold counts again from 0 (R330). -/
def OutS.lapsed (side : Side) (x : OutS) : OutS :=
  match side with
  | .h => { x.drive (some false) (some x.l) with lapseH := 0 }
  | .l => { x.drive (some x.h) (some false) with lapseL := 0 }

theorem OutS.lapsed_opens (side : Side) (x : OutS) :
    (side = .h → (x.lapsed side).h = false) ∧ (side = .l → (x.lapsed side).l = false) := by
  cases side <;> simp [OutS.lapsed]

theorem State.lapse_out (n : Nat) (side : Side) (s : State) :
    (s.lapse (n + 1) side).safe.out = s.safe.out.modify n (OutS.lapsed side) := rfl

/-- A lapsed side opens and no other output changes (R330). -/
theorem State.lapse_spec (hx : s.safe.out[n.val]? = some x) (side : Side) :
    (s.lapse (n.val + 1) side).safe.out[n.val]? = some (x.lapsed side) ∧
      ∀ i, i ≠ n.val → (s.lapse (n.val + 1) side).safe.out[i]? = s.safe.out[i]? := by
  rw [State.lapse_out]
  exact ⟨by rw [List.getElem?_modify_eq, hx]; rfl, fun i hi => List.getElem?_modify_ne _ _ (Ne.symm hi)⟩

/-! The end of the pull-in (R316) -/

theorem exec_pullinEnd_due (hb : s.beat.bStage = 0) (hx : s.safe.out[n.val]? = some x) (hp : x.pullDue = true)
    (hc : x.closed = true) (ht : s.nat .T_PULLIN ≤ x.since) : exec (.pullinEnd n) s = .next (s.pullinEnd (n.val + 1)) :=
  congrArg Host.Outcome.next (State.boundaryRow_due (due := fun t => t.pullinDue (n.val + 1)) hb
    (by simp [State.pullinDue, hx, hp, hc, ht]) _)

/-- The economizer holds an output; a coil current too low on a side is a coil fault (R316). -/
def OutS.economized (bad : Bool) (x : OutS) : OutS := { x with pullDue := false, eco := true, coilFault := x.coilFault || bad }

/-- Output n, which was x, passes to the economizer. -/
def State.economize (n : Nat) (x : OutS) (bad : Bool) (s : State) : State :=
  { s with safe := { s.safe with out := s.safe.out.set n (x.economized bad) } }

/-- A channel whose side of output n carries too little fails the closing (R313, R316). -/
def State.coilJudged (ch : Ch) (n : Nat) (low : Bool) (s : State) : State := if low then s.coilFails ch n else s

theorem State.pullinEnd_eq (hx : s.safe.out[n.val]? = some x) : s.pullinEnd (n.val + 1) =
    if (decide (x.coil < 20) || decide (x.coilB < 20)) = true then
      (((s.economize n.val x true).coilJudged .a (n.val + 1) (decide (x.coil < 20))).coilJudged .b (n.val + 1)
        (decide (x.coilB < 20))).raiseCond 73 0
    else s.economize n.val x false := by
  have hout (bad : Bool) : s.safe.out.modify n.val (OutS.economized bad) = s.safe.out.set n.val (x.economized bad) :=
    modify_eq_set hx _
  simp only [State.pullinEnd, Nat.add_sub_cancel, hx, Option.getD_some, OutS.coilOn, State.economize, ← hout]
  split
  · next hbad => rw [hbad]; rfl
  · next hgood => rw [Bool.eq_false_iff.2 hgood]; rfl

/-- A judged channel marks its coil fault; the outputs, the collectors and the other channel stay (R316). -/
theorem State.coilJudged_spec (ch : Ch) (n : Nat) (low : Bool) (s : State) :
    (s.coilJudged ch n low).safe.out = s.safe.out ∧ (s.coilJudged ch n low).flt = s.flt ∧
      (s.coilJudged ch n low).meas = s.meas ∧ (s.coilJudged ch n low).ring = s.ring ∧
      (low = true → ((s.coilJudged ch n low).chan ch).coilFtc = true) ∧
      (s.coilJudged ch n low).chan ch.other = s.chan ch.other := by
  unfold State.coilJudged
  cases low
  · exact ⟨rfl, rfl, rfl, rfl, Bool.noConfusion, rfl⟩
  · obtain ⟨p, l, h⟩ := s.attemptEnd_seqStep ch
    rw [if_pos rfl, State.coilFails, h]
    cases ch <;> exact ⟨rfl, rfl, rfl, rfl, fun _ => rfl, rfl⟩

/-- A coil fault at the end of the pull-in raises FS73 and fails the closing of each channel that sees it (R316). -/
theorem State.pullinEnd_fails (hx : s.safe.out[n.val]? = some x) (hlow : x.coil < 20 ∨ x.coilB < 20) (hwhole : s.srcWhole) :
    (s.pullinEnd (n.val + 1)).safe.out = s.safe.out.set n.val { x with pullDue := false, eco := true, coilFault := true } ∧
      ((s.pullinEnd (n.val + 1)).fs 73).latch = true ∧ (x.coil < 20 → (s.pullinEnd (n.val + 1)).cha.coilFtc = true) ∧
      (x.coilB < 20 → (s.pullinEnd (n.val + 1)).chb.coilFtc = true) ∧ (s.pullinEnd (n.val + 1)).meas = s.meas ∧
      (s.pullinEnd (n.val + 1)).ring = s.ring := by
  obtain ⟨houtA, hfltA, hmeasA, hringA, hftcA, -⟩ :=
    State.coilJudged_spec .a (n.val + 1) (decide (x.coil < 20)) (s.economize n.val x true)
  obtain ⟨houtB, hfltB, hmeasB, hringB, hftcB, hA⟩ := State.coilJudged_spec .b (n.val + 1) (decide (x.coilB < 20))
    ((s.economize n.val x true).coilJudged .a (n.val + 1) (decide (x.coil < 20)))
  have hlen : 73 < (((s.economize n.val x true).coilJudged .a (n.val + 1) (decide (x.coil < 20))).coilJudged .b (n.val + 1)
      (decide (x.coilB < 20))).flt.src.length := by
    rw [hfltB, hfltA, State.economize, hwhole]
    decide
  rw [State.pullinEnd_eq hx, if_pos (by simpa using hlow)]
  simp only [State.raiseCond_safe, State.raiseCond_cha, State.raiseCond_chb, State.raiseCond_meas, State.raiseCond_ring]
  refine ⟨?_, (State.raiseCond_fs hlen 0).1, fun h => ?_, fun h => hftcB (by simpa using h), hmeasB.trans hmeasA,
    hringB.trans hringA⟩
  · rw [houtB, houtA, State.economize, OutS.economized, Bool.or_true]
  · rw [show State.cha _ = _ from hA]
    exact hftcA (by simpa using h)

/-! Coil overcurrent and coil supply (R74, R316) -/

/-- A locked output, with both sides commanded open (R316). -/
def OutS.lockedOpen (x : OutS) : OutS := { x with locked := true, coilFault := true }.drive (some false) (some false)

/-- Output n (0 to 7) locked open. -/
def State.lockOutput (n : Nat) (s : State) : State := { s with safe := { s.safe with out := s.safe.out.modify n OutS.lockedOpen } }

theorem exec_coilOvercurrent_eq (n : Fin 8) (s : State) :
    exec (.coilOvercurrent n) s = .next ((s.lockOutput n.val).raiseCond 73 0) := rfl

theorem OutS.lockedOpen_spec (x : OutS) :
    x.lockedOpen.locked = true ∧ x.lockedOpen.coilFault = true ∧ x.lockedOpen.conducts = false := by
  simp [OutS.lockedOpen, OutS.conducts]

end
end Sys2Proof.Machine

namespace Sys2Proof.Proofs
open Sys2Proof.Machine

/-- Settles O23: each row changes one output by the drive of its sides, and then raises its source. -/
theorem outputRows : Obligations.OutputRows := by
  refine ⟨?lapseH, ?lapseL, ?holds, ?coilFault, ?overcurrent, ?supplyLow, ?supplied⟩
  case lapseH =>
    intro s n x hb hx hh hr h2
    obtain ⟨hself, hrest⟩ := State.lapse_spec hx .h
    refine ⟨_, exec_holdLapse_due hb (by simp [State.lapseDue, hx, hh, hr, h2]), rfl, ?_, hrest⟩
    rw [hself, Option.map_some, (x.lapsed_opens .h).1 rfl]
  case lapseL =>
    intro s n x hb hx hl hr h2
    obtain ⟨hself, hrest⟩ := State.lapse_spec hx .l
    refine ⟨_, exec_holdLapse_due hb (by simp [State.lapseDue, hx, hl, hr, h2]), rfl, ?_, hrest⟩
    rw [hself, Option.map_some, (x.lapsed_opens .l).2 rfl]
  case holds =>
    intro s n x hb hx hp hc ht ha hbb
    rw [exec_pullinEnd_due hb hx hp hc ht, State.pullinEnd_eq hx, if_neg (by simp; omega), State.economize, OutS.economized, Bool.or_false]
  case coilFault =>
    intro s n x hb hx hp hc ht hlow hwhole
    exact ⟨_, exec_pullinEnd_due hb hx hp hc ht, State.pullinEnd_fails hx hlow hwhole⟩
  case overcurrent =>
    intro s n hlen hwhole
    obtain ⟨x, hx⟩ : ∃ x, s.safe.out[n.val]? = some x := ⟨_, List.getElem?_eq_getElem (by omega)⟩
    obtain ⟨hlocked, hfault, hopen⟩ := x.lockedOpen_spec
    obtain ⟨hlatch, hcond⟩ := State.raiseCond_fs (n := 73) (s := s.lockOutput n.val)
      (by rw [State.lockOutput, hwhole]; decide) 0
    refine ⟨_, x.lockedOpen, exec_coilOvercurrent_eq n s, ?_, hlocked, hfault, hopen, fun i hi => ?_, hlatch, hcond, ?_⟩
    · rw [State.raiseCond_safe]
      exact (List.getElem?_modify_eq ..).trans (congrArg _ hx)
    · rw [State.raiseCond_safe]
      exact List.getElem?_modify_ne _ _ (Ne.symm hi)
    · simp [State.lockOutput]
  case supplyLow =>
    intro s hvk hclosed hnot hwhole
    have hdue : s.coilLowDue = true := by
      obtain ⟨x, hmem, hx⟩ := hclosed
      simp only [State.coilLowDue, hnot, Bool.not_false, Bool.and_true, Bool.and_eq_true, decide_eq_true_eq, List.any_eq_true]
      exact ⟨hvk, x, hmem, hx⟩
    obtain ⟨hlatch, -⟩ := State.raise_fs (n := 48) (s := { s with safe := { s.safe with vkLow := true, vkRaised := true } })
      (by simp only [hwhole]; decide) 0
    refine ⟨s.coilLow, congrArg Host.Outcome.next (if_pos hdue), hlatch, ?_⟩
    simp [State.coilLow]
  case supplied =>
    intro s hvk
    exact congrArg Host.Outcome.next (if_neg (by simp [State.coilLowDue, Nat.not_lt.2 hvk]))

end Sys2Proof.Proofs
end

section
/-! PROOFS. The recorder at a reset and at a stop: the calendar, the last record and the events of a raise (R72, R368, R477-R485). -/

namespace Sys2Proof.Machine

/-! The calendar, which the recorder's own work leaves alone -/

/-- From l to m the calendar has not moved. -/
structure LogS.SameCal (l m : LogS) : Prop where
  sec : m.calSec = l.calSec
  frac : m.calFrac = l.calFrac

theorem LogS.SameCal.refl (l : LogS) : LogS.SameCal l l := ⟨rfl, rfl⟩

theorem LogS.SameCal.trans {l m n : LogS} (h : LogS.SameCal l m) (g : LogS.SameCal m n) : LogS.SameCal l n :=
  ⟨g.sec.trans h.sec, g.frac.trans h.frac⟩

theorem LogS.SameCal.foldl {α : Type} {f : LogS → α → LogS} (hf : ∀ l x, LogS.SameCal l (f l x)) (xs : List α) (l : LogS) :
    LogS.SameCal l (xs.foldl f l) :=
  List.foldlRecOn xs f (.refl l) fun m hm x _ => hm.trans (hf m x)

theorem LogS.intakeOne_cal (win : Nat) (b : Word) (code : Nat) (p : List Word) (l : LogS) :
    LogS.SameCal l (l.intakeOne win b code p) := by
  unfold LogS.intakeOne
  split <;> exact ⟨rfl, rfl⟩

theorem LogS.append_cal (win : Nat) (b : Word) (l : LogS) : LogS.SameCal l (l.append win b) := by
  obtain ⟨hs, hf⟩ := LogS.SameCal.foldl (fun l (e : Ev) => LogS.intakeOne_cal win b e.code (pad4 e.p) l) l.ordered l
  exact ⟨hs, hf⟩

theorem LogS.writeEnt_cal (l : LogS) (e : QEnt) : LogS.SameCal l (l.writeEnt e) := by
  unfold LogS.writeEnt
  split <;> exact ⟨rfl, rfl⟩

theorem LogS.marker_cal (l : LogS) : LogS.SameCal l l.marker := by
  unfold LogS.marker
  split
  · split <;> exact ⟨rfl, rfl⟩
  · exact .refl l

theorem LogS.flush_cal (l : LogS) : LogS.SameCal l l.flush := by
  unfold LogS.flush
  extract_lets l0 l1 l2 l3
  have h1 : LogS.SameCal l0 l1 := .foldl LogS.writeEnt_cal l.queue l0
  obtain ⟨hsec, hfrac⟩ := h1.trans l1.marker_cal
  obtain ⟨hsec', hfrac'⟩ := LogS.SameCal.foldl LogS.writeEnt_cal l2.queue l3
  exact ⟨hsec'.trans hsec, hfrac'.trans hfrac⟩

/-- The flush before a reset changes the recorder alone, and leaves its calendar (R485, R504). -/
theorem State.flushLog_eq (s : State) : ∃ l, s.flushLog = { s with log := l } ∧ LogS.SameCal s.log l ∧
    (s.runs .a = true → l = (s.log.append s.repWin s.beat.num).flush) := by
  unfold State.flushLog
  split
  · exact ⟨_, rfl, (LogS.append_cal _ _ _).trans (LogS.flush_cal _), fun _ => rfl⟩
  · exact ⟨s.log, rfl, .refl _, fun h => absurd h ‹_›⟩

/-! The last record (R72, R477) -/

/-- A slot that has been written reads what was written (R477). -/
theorem storeGet_storePut (k : Nat) (r : LogRec) (l : List (Nat × LogRec)) : storeGet k (storePut k r l) = some r := by
  induction l with
  | nil => simp [storePut, storeGet]
  | cons x l ih =>
    obtain ⟨j, y⟩ := x
    rw [storePut]
    split
    · have hne : (j == k) = false := by simp; omega
      simpa [storeGet, hne] using ih
    · split <;> simp [storeGet]

/-- A record written outside the queue is the newest one (R72, R477). -/
theorem LogS.writeNew_newest (l : LogS) (code : Nat) (p : List Word) (rep : Nat) (sec : Word) (frac : BitVec 16) (beat : Word) :
    (storeGet ((l.writeNew code p rep sec frac beat).newest.toNat % 131072) (l.writeNew code p rep sec frac beat).store).map
      (fun x => (x.code, x.p)) = some (code, pad4 p) := by
  rw [LogS.writeNew, show 131072 = logSlots from rfl, storeGet_storePut]
  rfl

/-- A record written outside the queue changes the recorder alone, and leaves its calendar. -/
theorem State.lastRecord_eq (code : Nat) (p : List Word) (s : State) :
    ∃ l, s.lastRecord code p = { s with log := l } ∧ LogS.SameCal s.log l ∧ (s.runs .a = true →
      (storeGet (l.newest.toNat % 131072) l.store).map (fun x => (x.code, x.p)) = some (code, pad4 p)) := by
  unfold State.lastRecord
  split
  · exact ⟨_, rfl, ⟨rfl, rfl⟩, fun _ => LogS.writeNew_newest ..⟩
  · exact ⟨s.log, rfl, .refl _, fun h => absurd h ‹_›⟩

/-! A raise and the recorder (R368) -/

theorem State.event_cal (p : Plane) (code : Nat) (ps : List Word) (s : State) : LogS.SameCal s.log (s.event p code ps).log := by
  rw [State.event_log]
  split
  · exact .refl _
  · split <;> exact ⟨rfl, rfl⟩

theorem State.raiseAt_cal (k : RaiseKind) (one : Bool) (n : Nat) (d b : Word) (s : State) :
    LogS.SameCal s.log (s.raiseAt k one n d b).log := by
  have hentry (u : State) (j : Nat) : LogS.SameCal u.log (u.fsEntry n j d b).log := State.event_cal ..
  unfold State.raiseAt
  extract_lets t _ _ _ _ onset merged _ _ _ _ s1 s2 s3 s4
  rw [State.react_log, State.openReport_log]
  have h1 : LogS.SameCal s.log s1.log := by
    rw [show s1.log = s.log from State.w1cNow_log ..]
    exact .refl _
  have h2 : LogS.SameCal s1.log s2.log := by
    simp only [s2]
    split
    · exact .refl _
    · exact hentry ..
  have h3 : LogS.SameCal s2.log s3.log := by
    simp only [s3]
    split
    · exact .refl _
    · exact hentry ..
  exact (h1.trans h2).trans h3

/-- A raise only appends to the intake (R368). -/
theorem State.raiseAt_intake_append (k : RaiseKind) (one : Bool) (n : Nat) (d b : Word) (s : State) :
    ∃ l, (s.raiseAt k one n d b).log.intake = s.log.intake ++ l := by
  cases h : s.flt.hopen
  · obtain ⟨u, -, hlog, -, -, l, hl⟩ := State.raiseAt_enters h k one n d b
    obtain ⟨m, hm⟩ := State.fsEntry_intake_append n k.code d b u
    exact ⟨m ++ l, by rw [hl, hm, hlog, List.append_assoc]⟩
  · exact ⟨[], by rw [State.raiseAt_log_merged h, List.append_nil]⟩

end Sys2Proof.Machine
end

section
/-! PROOFS. SUPPLY_GOOD, INTERRUPTION_BEGIN, INTERRUPTION_END, POWER_FAIL_STOP and the resets (R70-R72, R485, R497-R507). -/

namespace Sys2Proof.Machine

/-! What a reset leaves (R492, R504) -/

/-- Outputs that have lost their commands do not conduct. -/
theorem allOpen_map_ops (l : List OutS) : (l.map fun x => ({ ops := x.ops } : OutS)).all (fun o => !o.conducts) = true := by
  simp [OutS.conducts]

theorem State.kept_allOpen (s : State) : s.kept.safe.out.all (fun o => !o.conducts) = true := allOpen_map_ops _

theorem State.toOff_allOpen (s : State) : s.toOff.safe.out.all (fun o => !o.conducts) = true := allOpen_map_ops _

section
variable {s : State} {vs : Nat}

/-! Supply (R497, R498) -/

theorem exec_supplyGood_low (h : vs < 13000) : exec (.supplyGood vs) s = .next s :=
  congrArg Host.Outcome.next (if_pos h)

/-- Supply is good; what the module makes of it depends on its state (R498). -/
def State.supplied (s : State) : State := s.setPwr fun p => { p with vsGood := true, vsOk := 16 }

theorem exec_supplyGood_off (h : 13000 ≤ vs) (hoff : s.pwr.state = .off) :
    exec (.supplyGood vs) s = .next (s.supplied.startAt 1 1) := by
  show execSupplyGood vs s = _
  rw [execSupplyGood, if_neg (Nat.not_lt.2 h), hoff]
  rfl

/-- A latched wake starts the module once supply is good (R497). -/
theorem exec_supplyGood_wakes (h : 13000 ≤ vs) (hlow : s.pwr.state = .listen ∨ s.pwr.state = .dormant) (hw : s.pwr.wakeLatch ≠ 0) :
    exec (.supplyGood vs) s = .next (s.supplied.wakeStart s.pwr.wakeLatch) := by
  show execSupplyGood vs s = _
  rw [execSupplyGood, if_neg (Nat.not_lt.2 h)]
  rcases hlow with hl | hl <;> rw [hl] <;> exact congrArg Host.Outcome.next (if_pos (by simpa using hw))

theorem exec_supplyGood_else (h : 13000 ≤ vs) (hoff : s.pwr.state ≠ .off)
    (hw : s.pwr.state = .listen ∨ s.pwr.state = .dormant → s.pwr.wakeLatch = 0) :
    exec (.supplyGood vs) s = .next s.supplied := by
  show execSupplyGood vs s = _
  rw [execSupplyGood, if_neg (Nat.not_lt.2 h)]
  cases hst : s.pwr.state with
  | off => exact absurd hst hoff
  | listen => exact congrArg Host.Outcome.next (if_neg (by simp [hw (.inl hst)]))
  | dormant => exact congrArg Host.Outcome.next (if_neg (by simp [hw (.inr hst)]))
  | active => rfl
  | idle => rfl
  | held => rfl
  | start k => rfl

/-! Interruptions (R70-R72, R502) -/

theorem exec_interruptionBegin_eq (vs : Nat) (s : State) : exec (.interruptionBegin vs) s = .next (s.intrBegin vs) := rfl

theorem State.rides_iff (s : State) :
    s.rides = true ↔ s.pwr.state = .active ∨ s.pwr.state = .idle ∨ ∃ k, s.pwr.state = .start k ∧ 6 ≤ k := by
  unfold State.rides
  cases s.pwr.state <;> simp

theorem State.booting_iff (s : State) : s.booting = true ↔ ∃ k, s.pwr.state = .start k ∧ k ≤ 5 := by
  unfold State.booting
  cases s.pwr.state <;> simp

/-- What rides an interruption through is not in its first start steps. -/
theorem State.booting_of_rides (h : s.rides = true) : s.booting = false := by
  refine Bool.eq_false_iff.2 fun hb => ?_
  obtain ⟨k, hk, hk5⟩ := s.booting_iff.1 hb
  rcases s.rides_iff.1 h with ha | hi | ⟨j, hj, hj6⟩
  · simp [ha] at hk
  · simp [hi] at hk
  · rw [hj] at hk
    injection hk with hk
    omega

theorem State.intrBegin_rides (hvs : vs < 12000) (h : s.rides = true) (hintr : s.pwr.intr = none) (hstop : s.pwr.stopping = false) :
    s.intrBegin vs = s.setPwr fun p => { p with intr := some (vs, s.beat.num, s.beat.sub), vsOk := 0, vsGood := false } := by
  rw [State.intrBegin, if_neg (Nat.not_le.2 hvs), if_neg (by simp [State.booting_of_rides h]), if_pos (by simp [h, hintr, hstop])]

theorem State.intrBegin_boots (hvs : vs < 12000) (h : s.booting = true) : s.intrBegin vs = s.toOff := by
  rw [State.intrBegin, if_neg (Nat.not_le.2 hvs), if_pos h]

theorem State.intrBegin_idle (h : 12000 ≤ vs ∨ (s.booting = false ∧ (s.rides && s.pwr.intr.isNone && !s.pwr.stopping) = false)) :
    s.intrBegin vs = s := by
  unfold State.intrBegin
  rcases h with h | ⟨hb, hr⟩
  · rw [if_pos h]
  · simp only [hb, hr, Bool.false_eq_true, if_false, ite_self]

theorem exec_interruptionEnd_good (hvs : 13000 ≤ vs) (hstop : s.pwr.stopping = false) :
    exec (.interruptionEnd vs) s = .next s.intrOver :=
  congrArg Host.Outcome.next (if_pos ⟨hvs, by simp [hstop]⟩)

theorem exec_interruptionEnd_idle (h : vs < 13000 ∨ s.pwr.stopping = true ∨ s.pwr.intr = none) :
    exec (.interruptionEnd vs) s = .next s := by
  by_cases hgood : 13000 ≤ vs ∧ (!s.pwr.stopping) = true
  · obtain ⟨hvs, hstop⟩ := hgood
    have hnone : s.pwr.intr = none := by
      rcases h with h | h | h
      · omega
      · simp [h] at hstop
      · exact h
    rw [exec_interruptionEnd_good hvs (by simpa using hstop), State.intrOver, hnone]
  · exact congrArg Host.Outcome.next (if_neg hgood)

/-- The entry of an interruption that has been ridden through (R71). -/
def State.intrEntry (low : Nat) (b : Word) (j : Nat) (s : State) : State :=
  (s.setPwr fun p => { p with intr := none }).event .management 0x101 [nword (s.intrLen b j), nword low]

theorem State.intrOver_some {low : Nat} {b : Word} {j : Nat} (h : s.pwr.intr = some (low, b, j)) :
    s.intrOver = (s.intrEntry low b j).raise 66 0 := by
  rw [State.intrOver, h]
  rfl

/-- The entry stands before what the raise adds (R71, R368). -/
theorem State.intrOver_intake {low : Nat} {b : Word} {j : Nat} (h : s.pwr.intr = some (low, b, j)) (hshown : s.fltShown = none)
    (hrun : s.beat.running = true) : ∃ l, s.intrOver.log.intake =
      s.log.intake ++ ⟨.management, 0x101, [nword (s.intrLen b j), nword low]⟩ :: l := by
  obtain ⟨l, hl⟩ := State.raiseAt_intake_append .lasting true 66 0 (s.intrEntry low b j).evBeat (s.intrEntry low b j)
  refine ⟨l, ?_⟩
  rw [State.intrOver_some h, State.raise, hl]
  simp [State.intrEntry, hshown, hrun]

/-! The power-fail stop (R72) -/

/-- The stop's record names the interruption under way, or the supply of now (R72). -/
def State.failRecord (s : State) : Nat × Word :=
  match s.pwr.intr with
  | some (low, b, _) => (low, b)
  | none => (s.pwr.vs, s.beat.num)

/-- The state whose recorder and charge the stop saves: FS66 raised and the cycle count stored (R72, R272). -/
def State.failing (s : State) : State := onlyIf s.accounting State.cycStore (s.raise 66 0)

/-- The stop up to Off: the queue and the last record written, the charge and the calendar saved (R72). -/
def State.saved (s : State) : State :=
  let t := s.failing.flushLog.lastRecord 0x102 [nword s.failRecord.1, s.failRecord.2]
  { t with
    meas := { t.meas with qSaved := t.meas.qA }
    log := { t.log with savedSec := t.log.calSec, savedFrac := t.log.calFrac } }

theorem State.powerFailStop_eq (s : State) : s.powerFailStop = s.saved.toOff := rfl

/-- What FS66 and the store of the cycle count leave alone. -/
theorem State.failing_keeps (s : State) : s.failing.meas = s.meas ∧ s.failing.cfg.bank0 = s.cfg.bank0 ∧
    s.failing.cfg.bank1 = s.cfg.bank1 ∧ s.failing.ring.role = s.ring.role ∧ s.failing.pending = s.pending ∧
    LogS.SameCal s.log s.failing.log ∧ s.failing.runs .a = s.runs .a := by
  obtain ⟨r, hcfg⟩ := State.raiseAt_cfg .lasting true 66 0 s.evBeat s
  have hbank0 : (s.raise 66 0).cfg.bank0 = s.cfg.bank0 := by rw [State.raise, hcfg]
  have hbank1 : (s.raise 66 0).cfg.bank1 = s.cfg.bank1 := by rw [State.raise, hcfg]
  have hcal : LogS.SameCal s.log (s.raise 66 0).log := State.raiseAt_cal ..
  have hruns : (s.raise 66 0).runs .a = s.runs .a := (Quiet.raise 66 0 s).runs .a
  unfold State.failing onlyIf
  split <;> exact ⟨State.raise_meas .., hbank0, hbank1, congrArg RingS.role (State.raise_ring ..), State.raise_pending .., hcal, hruns⟩

/-- What the stop saves, and its last record (R72). -/
theorem State.saved_spec (s : State) : ∃ l : LogS, s.saved = { s.failing with
      meas := { s.meas with qSaved := s.meas.qA }
      log := { l with savedSec := s.log.calSec, savedFrac := s.log.calFrac } } ∧
    (s.runs .a = true → (storeGet (l.newest.toNat % 131072) l.store).map (fun x => (x.code, x.p)) =
      some (0x102, pad4 [nword s.failRecord.1, s.failRecord.2])) := by
  obtain ⟨hmeas, -, -, -, -, hcal, hruns⟩ := s.failing_keeps
  obtain ⟨l, hflush, hcal', -⟩ := s.failing.flushLog_eq
  obtain ⟨m, hlast, hcal'', hrec⟩ := s.failing.flushLog.lastRecord_eq 0x102 [nword s.failRecord.1, s.failRecord.2]
  have hlog : s.failing.flushLog.log = l := by rw [hflush]
  rw [hlog] at hcal''
  obtain ⟨hsec, hfrac⟩ := (hcal.trans hcal').trans hcal''
  refine ⟨m, ?_, fun hr => hrec ?_⟩
  · rw [State.saved, hlast]
    dsimp only
    rw [hflush, hsec, hfrac, ← hmeas]
  · rw [hflush]
    exact hruns.trans hr

theorem exec_powerFailStop_due {r : Bool} (h : s.pwr.stopping = true ∨ (s.pwr.intr.isSome = true ∧ r = true)) :
    exec (.powerFailStop r) s = .next s.powerFailStop :=
  congrArg Host.Outcome.next (if_pos (by simpa using h))

theorem exec_powerFailStop_idle {r : Bool} (hstop : s.pwr.stopping = false) (h : s.pwr.intr = none ∨ r = false) :
    exec (.powerFailStop r) s = .next s :=
  congrArg Host.Outcome.next (if_neg (by rcases h with h | h <;> simp [hstop, h]))

/-! nRST (R505-R507) -/

theorem State.nrstBlocked_iff (s : State) : s.nrstBlocked = true ↔
    s.pwr.nrstIgn = true ∨ s.pwr.stopping = true ∨ s.pwr.state = .off ∨ s.pwr.state = .dormant := by
  simp [State.nrstBlocked, or_assoc]

/-- nRST is sampled. -/
theorem State.nrstBlocked_false (hoff : s.pwr.state ≠ .off) (hdor : s.pwr.state ≠ .dormant) (hign : s.pwr.nrstIgn = false)
    (hstop : s.pwr.stopping = false) : s.nrstBlocked = false := by
  simp [State.nrstBlocked, hoff, hdor, hign, hstop]

theorem exec_nrstAssert_blocked {us : Nat} (h : s.nrstBlocked = true) : exec (.nrstAssert us) s = .next (s.setPwr fun p =>
    { p with nrstLow := s.pwr.state != .off && s.pwr.state != .dormant && decide (2 ≤ us) }) :=
  congrArg Host.Outcome.next (if_pos h)

theorem exec_nrstAssert_long {us : Nat} (h : s.nrstBlocked = false) (hus : 10 ≤ us) :
    exec (.nrstAssert us) s = .next s.nrstReset := by
  show execNrstAssert us s = _
  rw [execNrstAssert, if_neg (by simp [h]), if_neg (by omega), if_pos hus]

theorem exec_nrstAssert_glitch {us : Nat} (h : s.nrstBlocked = false) (hus : us < 2) : exec (.nrstAssert us) s = .next s := by
  show execNrstAssert us s = _
  rw [execNrstAssert, if_neg (by simp [h]), if_pos hus]

/-- Between 2 and 10 µs a free value decides (R505). -/
theorem exec_nrstAssert_short {us : Nat} (h : s.nrstBlocked = false) (h2 : 2 ≤ us) (h10 : us < 10) :
    exec (.nrstAssert us) s = .next (if Config.nrstShort s.pwr.shorts then
      (s.setPwr fun p => { p with shorts := p.shorts + 1 }).nrstReset else s.setPwr fun p => { p with shorts := p.shorts + 1 }) := by
  show execNrstAssert us s = _
  rw [execNrstAssert, if_neg (by simp [h]), if_neg (by omega), if_neg (by omega)]

/-- A reset by nRST holds what survives, with the queue written where the recorder runs (R485, R504, R505). -/
theorem State.nrstReset_eq (s : State) : ∃ l, s.nrstReset = ({ s with log := l } : State).kept.setPwr (fun p =>
      { p with state := .held, nrstLow := true }) ∧
    (s.runs .a = true → s.pwr.state ≠ .listen → l = (s.log.append s.repWin s.beat.num).flush) := by
  unfold State.nrstReset
  split
  · exact ⟨s.log, rfl, fun _ h => absurd ‹_› h⟩
  · obtain ⟨l, hl, -, hflush⟩ := s.flushLog_eq
    exact ⟨l, by rw [hl], fun hr _ => hflush hr⟩

theorem exec_nrstRelease_eq (s : State) : exec .nrstRelease s = .next
    (if s.pwr.state = .held then (s.setPwr fun p => { p with nrstLow := false }).startAt 2 2
      else s.setPwr fun p => { p with nrstLow := false }) := rfl

theorem exec_nrstStuck_eq (s : State) : exec .nrstStuck s = .next
    (if s.pwr.state = .held ∧ s.pwr.nrstLow then State.startAt 2 3 (s.setPwr fun p => { p with nrstIgn := true }) else s) := rfl

theorem exec_nrstIgnClear_eq (s : State) : exec .nrstIgnClear s = .next
    (if s.pwr.nrstIgn then State.endCond 65 (s.setPwr fun p => { p with nrstIgn := false, nrstLow := false }) else s) := rfl

/-! Module reset (R373, R503, R504) -/

/-- A reset by MODRST is counted among the collectors and nowhere else (R373). -/
theorem State.countedReset_eq (cause : Nat) (s : State) : ∃ f,
    onlyIf (cause == 4 || cause == 5) State.countReset s = { s with flt := f } ∧
    f.rstCnt = if cause = 4 ∨ cause = 5 then incSat 255 s.flt.rstCnt else s.flt.rstCnt := by
  unfold onlyIf
  by_cases h : cause = 4 ∨ cause = 5
  · exact ⟨_, by rw [if_pos (by simpa using h)]; rfl, by rw [if_pos h]⟩
  · exact ⟨s.flt, by rw [if_neg (by simpa using h)], by rw [if_neg h]⟩

/-- A module reset keeps what survives of the state, its queue written and its resets counted (R485, R504). -/
theorem State.moduleReset_eq (cause : Nat) (s : State) : ∃ l f,
    s.moduleReset cause = ({ s with log := l, flt := f } : State).kept.startAt 2 cause ∧ LogS.SameCal s.log l ∧
    (s.runs .a = true → l = (s.log.append s.repWin s.beat.num).flush) ∧
    f.rstCnt = if cause = 4 ∨ cause = 5 then incSat 255 s.flt.rstCnt else s.flt.rstCnt := by
  obtain ⟨l, hl, hcal, hflush⟩ := s.flushLog_eq
  obtain ⟨f, hf, hcnt⟩ := State.countedReset_eq cause { s with log := l }
  exact ⟨l, f, by rw [State.moduleReset, hl, hf], hcal, hflush, hcnt⟩

theorem exec_moduleReset_due {c : Nat} (hdue : s.cfg.resetDue = some c) (hrun : s.beat.running = true) :
    exec .moduleReset s = .next (s.moduleReset c) := by
  show execModuleReset s = _
  rw [execModuleReset, if_pos (by simp [State.resetDue, hdue, hrun]), hdue]
  rfl

theorem exec_moduleReset_idle (h : s.cfg.resetDue = none ∨ s.beat.running = false) : exec .moduleReset s = .next s :=
  congrArg Host.Outcome.next (if_neg (by rcases h with h | h <;> simp [State.resetDue, h]))

end
end Sys2Proof.Machine

namespace Sys2Proof.Proofs
open Sys2Proof.Machine

/-- Settles O59: each command is an equation for its case; a stop and every reset are `toOff` or `kept` of a state whose recorder has
been written, so that what survives can be read off. The length of an interruption and the nRST that a decided stop ignores are the
model's choice (log entry 44). -/
theorem supplyAndResets : Obligations.SupplyAndResets := by
  refine ⟨?fromOff, ?fromWake, ?good, fun _ _ h => exec_supplyGood_low h, ?begins, ?boots, ?ignored, ?ends,
    fun _ _ h => exec_interruptionEnd_idle h, ?stops, fun _ _ hstop h => exec_powerFailStop_idle hstop h, ?long, ?glitch, ?short,
    ?blocked, ?release, ?released, ?stuck, ?notStuck, ?ignClear, ?ignHigh, ?resets, fun _ h => exec_moduleReset_idle h⟩
  case fromOff =>
    intro s vs hoff hvs
    rw [exec_supplyGood_off hvs hoff]
    rfl
  case fromWake =>
    intro s vs hlow hvs hw
    rw [exec_supplyGood_wakes hvs hlow hw]
    rfl
  case good =>
    intro s vs hvs hoff hw
    rw [exec_supplyGood_else hvs hoff hw]
    rfl
  case begins =>
    intro s vs k hvs hst hintr hstop
    have hrides : s.rides = true := s.rides_iff.2 (hst.imp_right (Or.imp_right fun h => ⟨k, h⟩))
    rw [exec_interruptionBegin_eq, State.intrBegin_rides hvs hrides hintr hstop]
    rfl
  case boots =>
    intro s vs k hvs hst hk
    refine ⟨_, exec_interruptionBegin_eq vs s, ?_⟩
    rw [State.intrBegin_boots hvs (s.booting_iff.2 ⟨k, hst, hk⟩)]
    exact ⟨rfl, s.toOff_allOpen, rfl, rfl, rfl, rfl, rfl, rfl⟩
  case ignored =>
    intro s vs h
    rw [exec_interruptionBegin_eq, State.intrBegin_idle]
    rcases h with h | h | h | h | h | ⟨h, hno⟩
    · exact .inl h
    iterate 4 exact .inr ⟨by simp [State.booting, h], by simp [State.rides, h]⟩
    · refine .inr ⟨by rcases h with h | h <;> simp [State.booting, h], ?_⟩
      rcases hno with hi | hs
      · simp [Option.isNone_eq_false_iff.2 hi]
      · simp [hs]
  case ends =>
    intro s vs low j b hvs hstop hintr hwhole
    refine ⟨_, exec_interruptionEnd_good hvs hstop, ?_⟩
    have hintake := State.intrOver_intake hintr
    obtain ⟨hlatch, -⟩ := State.raise_fs (s := s.intrEntry low b j) (n := 66)
      (by rw [State.intrEntry, State.event_flt, State.setPwr_flt, hwhole]; decide) 0
    rw [State.intrOver_some hintr] at hintake ⊢
    simp only [State.raise_pwr, State.raise_beat, State.raise_cha, State.raise_chb, State.raise_safe, State.raise_meas]
    exact ⟨rfl, hlatch, hintake, rfl, rfl, rfl, rfl, rfl⟩
  case stops =>
    intro s r h
    refine ⟨_, exec_powerFailStop_due h, ?_⟩
    obtain ⟨-, hbank0, hbank1, hrole, hpend, -, -⟩ := s.failing_keeps
    obtain ⟨l, hsaved, hrec⟩ := s.saved_spec
    rw [State.powerFailStop_eq, hsaved]
    refine ⟨rfl, State.toOff_allOpen _, rfl, rfl, rfl, rfl, rfl, hbank0, hbank1, hrole, ?_, hpend⟩
    intro low b j hr hintr
    have hfail : s.failRecord = (low, b) := by rw [State.failRecord, hintr]
    rw [hfail] at hrec
    exact hrec hr
  case long =>
    intro s us hoff hdor hign hstop hus
    obtain ⟨l, heq, hflush⟩ := s.nrstReset_eq
    refine ⟨_, exec_nrstAssert_long (State.nrstBlocked_false hoff hdor hign hstop) hus, ?_⟩
    rw [heq]
    exact ⟨rfl, rfl, State.kept_allOpen _, rfl, rfl, rfl, rfl, rfl, fun hr hl => (congrArg LogS.store (hflush hr hl) :), rfl⟩
  case glitch =>
    intro s us hoff hdor hign hstop hus
    exact exec_nrstAssert_glitch (State.nrstBlocked_false hoff hdor hign hstop) hus
  case short =>
    intro s us hoff hdor hign hstop h2 h10
    refine ⟨_, exec_nrstAssert_short (State.nrstBlocked_false hoff hdor hign hstop) h2 h10, ?_⟩
    split
    · exact .inl ⟨rfl, rfl⟩
    · exact .inr rfl
  case blocked =>
    intro s us h
    rw [exec_nrstAssert_blocked (s.nrstBlocked_iff.2 h)]
    rfl
  case release =>
    intro s h
    rw [exec_nrstRelease_eq, if_pos h]
    rfl
  case released =>
    intro s h
    rw [exec_nrstRelease_eq, if_neg h]
    rfl
  case stuck =>
    intro s h hlow
    rw [exec_nrstStuck_eq, if_pos ⟨h, hlow⟩]
    rfl
  case notStuck =>
    intro s h
    rw [exec_nrstStuck_eq, if_neg (by rcases h with h | h <;> simp [h])]
  case ignClear =>
    intro s h
    refine ⟨_, by rw [exec_nrstIgnClear_eq, if_pos h], rfl, ?_, rfl⟩
    rw [State.endCond_fs]
  case ignHigh =>
    intro s h
    rw [exec_nrstIgnClear_eq, if_neg (by simp [h])]
  case resets =>
    intro s c hdue hrun
    obtain ⟨l, f, heq, ⟨hsec, hfrac⟩, hflush, hcnt⟩ := s.moduleReset_eq c
    refine ⟨_, exec_moduleReset_due hdue hrun, ?_⟩
    rw [heq]
    exact ⟨rfl, rfl, rfl, rfl, rfl, rfl, rfl, rfl, rfl, rfl, rfl, rfl, rfl, rfl, State.kept_allOpen _, rfl, rfl, rfl, rfl, rfl,
      hsec, hfrac, rfl, fun hr => (congrArg LogS.store (hflush hr) :), rfl, rfl, rfl, rfl, rfl, hcnt, rfl, rfl, rfl, rfl, rfl, rfl, rfl⟩

end Sys2Proof.Proofs
end

section
/-! PROOFS. The state right after reset. -/

namespace Sys2Proof.Proofs
open Sys2Proof.Machine

/-- Settles O2: each value is read off `State.reset`; that an empty bank is canonical is `reset_banks_wf`. -/
theorem resetState : Obligations.ResetState := by
  obtain ⟨hbank0, hbank1⟩ := reset_banks_wf
  have hopen : State.reset.allOpen = true := rfl
  have hsources : State.reset.flt.src.all (fun x => !x.latch && !x.sevl && !x.pres) = true := rfl
  exact ⟨rfl, rfl, rfl, rfl, rfl, rfl, hopen, rfl, rfl, hsources, rfl, rfl, ⟨hbank0, hbank1, rfl⟩, rfl, rfl, rfl, rfl, rfl, rfl, rfl⟩

end Sys2Proof.Proofs
end

section
/-! PROOFS. SYNC_RISING_EDGE and SYNC_FALLING_EDGE (R85, R89, R108). -/

namespace Sys2Proof.Machine

/-! Rising edges: references (R85) -/

theorem exec_syncRisingEdge (ofs interval : Nat) (dev : Int) (s : State) :
    exec (.syncRisingEdge ofs interval dev) s = .next (s.risingEdge ofs interval dev) := rfl

theorem intervalOk_iff (interval : Nat) : intervalOk interval = true ↔ 196000 ≤ interval ∧ interval ≤ 204000 :=
  decide_eq_true_iff

/-- A rising edge counts as a reference: its interval lies in the window of R85, and a Locked unit finds it within 5,000 cycles of the
predicted instant. -/
def State.edgeValid (interval : Nat) (dev : Int) (s : State) : Bool :=
  intervalOk interval && (s.beat.lock != .locked || decide (dev.natAbs ≤ 5000))

theorem State.edgeValid_iff (interval : Nat) (dev : Int) (s : State) :
    s.edgeValid interval dev = true ↔
      (196000 ≤ interval ∧ interval ≤ 204000) ∧ (s.beat.lock ≠ .locked ∨ dev.natAbs ≤ 5000) := by
  simp [State.edgeValid, intervalOk_iff]

/-- A unit that follows SYNC takes a rising edge as a reference (R85). -/
theorem State.risingEdge_followed {s : State} (hown : s.ownBeat = true) (hsrc : s.beat.srcSel = 1) (hrise : s.beat.riseBeat = true)
    (ofs interval : Nat) (dev : Int) :
    s.risingEdge ofs interval dev = { s with beat :=
      ({ s.beat with lastEdge := ofs % 65536 } : BeatS).reference (s.edgeValid interval dev) interval } := by
  simp [State.risingEdge, State.edgeValid, hown, hsrc, hrise]

/-- Any other unit only shows the edge (R85, R108). -/
theorem State.risingEdge_shown {s : State} (h : s.ownBeat = false ∨ s.beat.srcSel ≠ 1 ∨ s.beat.riseBeat = false)
    (ofs interval : Nat) (dev : Int) :
    s.risingEdge ofs interval dev = { s with beat := { s.beat with lastEdge := ofs % 65536 } } := by
  have hnot : (s.ownBeat && s.beat.srcSel == 1 && s.beat.riseBeat) = false := by
    rw [Bool.eq_false_iff]
    simpa [or_iff_not_imp_left] using h
  rw [State.risingEdge, hnot]
  rfl

/-! Falling edges: the windows of edge mode (R89) -/

theorem exec_syncFallingEdge (ofs : Nat) (s : State) : exec (.syncFallingEdge ofs) s = .next (s.fallingEdge ofs) := rfl

/-- Once an instant has come, an edge-mode window whose OFS lies before it stands at OFS, marked fallback (R89). -/
theorem State.fallBack_wins (before : Nat) (s : State) (w : Nat) :
    (s.fallBack before).beat.wins[w]? = s.beat.wins[w]?.map fun x =>
      if s.edgeWaits w && decide (usTicks (s.winOfs w) < before) then
        { x with placed := true, start := usTicks (s.winOfs w), fallback := true }
      else x := by
  simp only [State.fallBack, State.setBeat_beat]
  exact indexed_map_getElem? ..

/-- The windows that wait on after an instant are those whose OFS has not come before it (R89). -/
theorem State.fallBack_edgeWaits {before w : Nat} {s : State} (hw : w < s.beat.wins.length) :
    (s.fallBack before).edgeWaits w = (s.edgeWaits w && decide (before ≤ usTicks (s.winOfs w))) := by
  have hdef (t : State) : t.edgeWaits w = (t.winEn w && t.winMode w == 2 && !(t.beat.wins[w]?.getD {}).placed) := rfl
  have hcfg : (s.fallBack before).winEn w = s.winEn w ∧ (s.fallBack before).winMode w = s.winMode w := ⟨rfl, rfl⟩
  rw [hdef, State.fallBack_wins, List.getElem?_eq_getElem hw, hcfg.1, hcfg.2]
  by_cases hwait : s.edgeWaits w = true
  · have hkeep := hwait
    rw [hdef, List.getElem?_eq_getElem hw] at hkeep
    by_cases hb : usTicks (s.winOfs w) < before
    · simp [hwait, hb]
    · simpa [hwait, hb, Nat.le_of_not_lt hb] using hkeep
  · rw [Bool.not_eq_true] at hwait
    have hkeep := hwait
    rw [hdef, List.getElem?_eq_getElem hw] at hkeep
    simpa [hwait] using hkeep

/-- An instant before every waiting window's OFS moves none of them. -/
theorem State.fallBack_early {before : Nat} {s : State}
    (h : ∀ v < s.beat.wins.length, s.edgeWaits v = true → before ≤ usTicks (s.winOfs v)) : s.fallBack before = s := by
  have hwins : (s.fallBack before).beat.wins = s.beat.wins := by
    refine List.ext_getElem? fun w => ?_
    rw [State.fallBack_wins]
    by_cases hw : w < s.beat.wins.length
    · have hnot : (s.edgeWaits w && decide (usTicks (s.winOfs w) < before)) = false := by
        simpa using h w hw
      simp [hnot]
    · simp [List.getElem?_eq_none (Nat.le_of_not_lt hw)]
  calc s.fallBack before = { s with beat := { s.beat with wins := (s.fallBack before).beat.wins } } := rfl
    _ = s := by rw [hwins]

/-- An edge that opens nothing is counted in EXTRA (R89). -/
def State.edgeExtra (s : State) : State := s.setBeat fun b => { b with extra := incSat 255 b.extra }

/-- An edge opens window w at a place (R89). -/
def State.edgeOpens (w st : Nat) (s : State) : State :=
  s.setBeat fun b => { b with wins := b.wins.modify w fun x => { x with placed := true, start := st } }

/-- What an edge does with the first window that waits, after every window whose OFS has passed stands at OFS (R89). -/
theorem State.fallingEdge_on {s : State} (h : s.beat.fallWin = true) (ofs : Nat) :
    s.fallingEdge ofs = (match (List.range 4).find? (s.fallBack (100 * ofs)).edgeWaits with
      | none => (s.fallBack (100 * ofs)).edgeExtra
      | some w => if (s.fallBack (100 * ofs)).edgeMeets w (100 * ofs + 300) then (s.fallBack (100 * ofs)).edgeExtra
          else (s.fallBack (100 * ofs)).edgeOpens w (100 * ofs + 300)) := by
  rw [State.fallingEdge, h]
  rfl

theorem State.fallingEdge_off {s : State} (h : s.beat.fallWin = false) (ofs : Nat) : s.fallingEdge ofs = s := by
  simp [State.fallingEdge, h]

/-- An edge changes windows and EXTRA alone. -/
theorem State.fallingEdge_frame (ofs : Nat) (s : State) :
    s.fallingEdge ofs =
      { s with beat := { s.beat with wins := (s.fallingEdge ofs).beat.wins, extra := (s.fallingEdge ofs).beat.extra } } := by
  cases h : s.beat.fallWin
  · rw [State.fallingEdge_off h]
  · rw [State.fallingEdge_on h]
    split
    · rfl
    · split <;> rfl

/-- A window that does not wait when the edge comes is not the one that it opens. -/
theorem State.fallingEdge_wins {s : State} (h : s.beat.fallWin = true) {ofs w : Nat}
    (hw : (s.fallBack (100 * ofs)).edgeWaits w = false) :
    (s.fallingEdge ofs).beat.wins[w]? = (s.fallBack (100 * ofs)).beat.wins[w]? := by
  rw [State.fallingEdge_on h]
  split
  · rfl
  · next v hv =>
    have hne : v ≠ w := fun e => by simp [← e, List.find?_some hv] at hw
    split
    · rfl
    · exact List.getElem?_modify_ne _ _ hne

/-- An edge that finds no waiting window is counted (R89). -/
theorem State.fallingEdge_none {s : State} (h : s.beat.fallWin = true) {ofs : Nat}
    (hnone : ∀ v < 4, (s.fallBack (100 * ofs)).edgeWaits v = false) :
    s.fallingEdge ofs = (s.fallBack (100 * ofs)).edgeExtra := by
  have hfind : (List.range 4).find? (s.fallBack (100 * ofs)).edgeWaits = none := by
    simpa [List.find?_eq_none] using hnone
  rw [State.fallingEdge_on h, hfind]

/-- An edge opens the first waiting window, unless onto another one (R89). -/
theorem State.fallingEdge_first {s : State} (h : s.beat.fallWin = true) {ofs w : Nat} (hw : w < 4)
    (hwait : (s.fallBack (100 * ofs)).edgeWaits w = true) (hfirst : ∀ v < w, (s.fallBack (100 * ofs)).edgeWaits v = false) :
    s.fallingEdge ofs = if (s.fallBack (100 * ofs)).edgeMeets w (100 * ofs + 300) then (s.fallBack (100 * ofs)).edgeExtra
      else (s.fallBack (100 * ofs)).edgeOpens w (100 * ofs + 300) := by
  have hfind : (List.range 4).find? (s.fallBack (100 * ofs)).edgeWaits = some w :=
    List.find?_range_eq_some.2 ⟨hwait, List.mem_range.2 hw, fun v hv => by simp [hfirst v hv]⟩
  rw [State.fallingEdge_on h, hfind]

end Sys2Proof.Machine

namespace Sys2Proof.Proofs
open Sys2Proof.Machine

/-- Settles O8: a rising edge is a reference or only shown; a falling edge meets the windows as `State.fallBack` leaves them at its
instant, and the first of them that still waits decides what it does. -/
theorem syncEdges : Obligations.SyncEdges := by
  refine ⟨?valid, ?invalid, ?shown, ?passed, ?opens, ?extra, ?off⟩
  case valid =>
    intro s ofs interval dev hown hsrc hrise hdev hlow hhigh
    rw [exec_syncRisingEdge, State.risingEdge_followed hown hsrc hrise,
      (State.edgeValid_iff interval dev s).2 ⟨⟨hlow, hhigh⟩, hdev⟩]
    rfl
  case invalid =>
    intro s ofs interval dev hown hsrc hrise hbad
    have hnot : s.edgeValid interval dev = false := by
      rw [Bool.eq_false_iff, ne_eq, State.edgeValid_iff]
      rintro ⟨⟨hlow, hhigh⟩, hdev⟩
      rcases hbad with hbad | hbad | ⟨hlock, hbad⟩
      · omega
      · omega
      · exact hdev.elim (fun h => h hlock) (fun h => by omega)
    rw [exec_syncRisingEdge, State.risingEdge_followed hown hsrc hrise, hnot]
    rfl
  case shown =>
    intro s ofs interval dev h
    rw [exec_syncRisingEdge, State.risingEdge_shown h]
  case passed =>
    intro s ofs w x hfall _ hx hwait hpast
    have hdone : (s.fallBack (100 * ofs)).edgeWaits w = false := by
      rw [State.fallBack_edgeWaits (List.getElem?_eq_some_iff.1 hx).1]
      simp [hpast]
    refine ⟨_, exec_syncFallingEdge ofs s, ?_, State.fallingEdge_frame ofs s⟩
    rw [State.fallingEdge_wins hfall hdone, State.fallBack_wins, hx]
    simp [hwait, hpast]
  case opens =>
    intro s ofs w hfall hlen hnext hw hwait hfirst
    have hsame : s.fallBack (100 * ofs) = s := State.fallBack_early (by rw [hlen]; exact hnext)
    rw [exec_syncFallingEdge, State.fallingEdge_first hfall hw (by rw [hsame]; exact hwait) (by rw [hsame]; exact hfirst), hsame]
    split <;> rfl
  case extra =>
    intro s ofs hfall hlen hpast
    have hnone : ∀ v < 4, (s.fallBack (100 * ofs)).edgeWaits v = false := fun v hv => by
      rw [State.fallBack_edgeWaits (by omega)]
      simpa using hpast v hv
    refine ⟨_, exec_syncFallingEdge ofs s, ?_, State.fallingEdge_frame ofs s⟩
    rw [State.fallingEdge_none hfall hnone]
    rfl
  case off =>
    intro s ofs h
    rw [exec_syncFallingEdge, State.fallingEdge_off h]

end Sys2Proof.Proofs
end

section
/-! PROOFS. The length of a beat (R84, R85). -/

namespace Sys2Proof.Machine

theorem clamp_mem {lo hi : Int} (h : lo ≤ hi) (x : Int) : lo ≤ clamp lo hi x ∧ clamp lo hi x ≤ hi := by
  rw [clamp]
  split
  · omega
  · split <;> omega

/-- A commanded length lies between 980 and 1,020 µs (R84). -/
theorem lengthClamp_mem (x : Int) : 196000 ≤ lengthClamp x ∧ lengthClamp x ≤ 204000 := by
  have hmem := clamp_mem (show (196000 : Int) ≤ 204000 by omega) x
  rw [lengthClamp]
  omega

/-- The clamp takes a length no farther from one that lies within its bounds. -/
theorem lengthClamp_near {n d : Nat} {x : Int} (hlow : 196000 ≤ n) (hhigh : n ≤ 204000) (hx : (x - n).natAbs ≤ d) :
    lengthClamp x ≤ n + d ∧ n ≤ lengthClamp x + d := by
  rw [lengthClamp, clamp]
  split
  · omega
  · split <;> omega

/-- In Free the length returns to 1,000 µs by 2 µs a beat (R85). -/
theorem BeatS.nextLength_free {b : BeatS} (h : b.lock = .free) :
    b.nextLength = lengthClamp
      (if b.length < 200000 then min 200000 ((b.length : Int) + 400) else max 200000 ((b.length : Int) - 400)) := by
  rw [BeatS.nextLength, h]

/-- In Acquiring it is the mean of the intervals, corrected and clamped (R85). -/
theorem BeatS.nextLength_acquiring {b : BeatS} (h : b.lock = .acquiring) (hi : b.intervals ≠ []) :
    ∃ x, b.nextLength = lengthClamp x := by
  have hne : b.intervals.isEmpty = false := by simpa using hi
  exact ⟨_, by rw [BeatS.nextLength, h]; simp only [hne, Bool.false_eq_true, if_false]; rfl⟩

/-- In Locked it is the latest interval, corrected by at most 1 µs (R85). -/
theorem BeatS.nextLength_locked {b : BeatS} (h : b.lock = .locked) (hr : b.refLast = true) {i : Nat} (hi : b.intervals.head? = some i) :
    b.nextLength = lengthClamp (i - clamp (-200) 200 (clkA b.phaseErr)) := by
  rw [BeatS.nextLength, h]
  simp [hr, hi]

/-- Without a reference a beat is as long as the one before it (R85). -/
theorem BeatS.nextLength_held {b : BeatS} (h : b.lock = .holdover ∨ (b.lock = .locked ∧ b.refLast = false)) :
    b.nextLength = b.length := by
  rcases h with h | ⟨h, hr⟩
  · rw [BeatS.nextLength, h]
  · rw [BeatS.nextLength, h]
    simp [hr]

/-- In Free a length within the bounds moves by at most 400 cycles, and ends at 200,000 (R85). -/
theorem BeatS.nextLength_free_near {b : BeatS} (h : b.lock = .free) (hlow : 196000 ≤ b.length) (hhigh : b.length ≤ 204000) :
    b.nextLength ≤ b.length + 400 ∧ b.length ≤ b.nextLength + 400 ∧
    (199600 ≤ b.length → b.length ≤ 200400 → b.nextLength = 200000) := by
  rw [BeatS.nextLength_free h]
  obtain ⟨hup, hdown⟩ := lengthClamp_near (d := 400) hlow hhigh
    (x := if b.length < 200000 then min 200000 ((b.length : Int) + 400) else max 200000 ((b.length : Int) - 400))
    (by split <;> omega)
  refine ⟨hup, hdown, fun h1 h2 => ?_⟩
  have hmid : (if b.length < 200000 then min 200000 ((b.length : Int) + 400) else max 200000 ((b.length : Int) - 400)) = 200000 := by
    split <;> omega
  rw [hmid]
  rfl

/-- In Locked the length follows the latest interval to within 200 cycles (R85). -/
theorem BeatS.nextLength_locked_near {b : BeatS} (h : b.lock = .locked) (hr : b.refLast = true) {i : Nat}
    (hi : b.intervals.head? = some i) (hlow : 196000 ≤ i) (hhigh : i ≤ 204000) :
    b.nextLength ≤ i + 200 ∧ i ≤ b.nextLength + 200 := by
  have hcorr := clamp_mem (show (-200 : Int) ≤ 200 by omega) (clkA b.phaseErr)
  rw [BeatS.nextLength_locked h hr hi]
  exact lengthClamp_near hlow hhigh (by omega)

/-- A state entered at a boundary gives the length of the beat that begins there; within a beat the length stays (R85). -/
theorem State.relength_eq (s : State) : s.relength =
    { s with beat := { s.beat with length := if s.beat.bStage = 0 then s.beat.nextLength else s.beat.length } } := by
  by_cases h : s.beat.bStage = 0 <;> simp [State.relength, State.atBoundary, State.setBeat, h]

end Sys2Proof.Machine
end

section
/-! PROOFS. The lock, source writes, resynchronization and overruns (R33, R81, R83, R85, R86, R96, R226). -/

namespace Sys2Proof.Machine

/-! Acquiring (R85) -/

theorem exec_enterAcquiring (s : State) : exec .enterAcquiring s = .next (if s.acquireDue = true then s.acquire else s) := rfl

theorem State.acquireDue_iff (s : State) : s.acquireDue = true ↔
    s.beat.lock = .free ∧ (s.beat.srcSel ≠ 0 ∨ s.ownBeat = false) ∧ s.beat.validRefs = 4 := by
  simp [State.acquireDue, and_assoc]

/-! Locked (R81, R85) -/

theorem exec_enterLocked (s : State) : exec .enterLocked s = .next (if s.lockDue = true then s.lockOn else s) := rfl

theorem State.lockDue_iff (s : State) : s.lockDue = true ↔ (s.beat.lock = .acquiring ∧ 8 ≤ s.beat.phaseOk) ∨
    (s.beat.lock = .holdover ∧ (s.beat.refSeen = true ∨ s.beat.refLast = true)) := by
  simp [State.lockDue]

/-- A unit of its own beat, or one that has been marked or has heard no Master, keeps its string beat number (R81). -/
theorem State.lockOn_keeps {s : State} (h : s.ownBeat = true ∨ s.beat.sbMarked = true ∨ s.beat.sbnSeen = none) :
    s.lockOn = (s.setBeat fun b => { b with lock := .locked, holdBeats := 0 }).relength := by
  have htake : (!s.ownBeat && !s.beat.sbMarked && s.beat.sbnSeen.isSome) = false := by
    rcases h with h | h | h <;> simp [h]
  simp [State.lockOn, htake]

/-- At its first lock to the marker a unit takes the Master's string beat number (R81). -/
theorem State.lockOn_takes {s : State} {x : Word} (hown : s.ownBeat = false) (hmark : s.beat.sbMarked = false)
    (hseen : s.beat.sbnSeen = some x) :
    s.lockOn = (s.setBeat fun b =>
      { b with lock := .locked, holdBeats := 0, sbMarked := true, sbOfs := some (x - b.num) }).relength := by
  simp [State.lockOn, State.setBeat, hown, hmark, hseen]

/-! Holdover and Free (R85, R86) -/

theorem exec_enterHoldover (s : State) : exec .enterHoldover s = .next (if s.holdoverDue = true then s.holdover else s) := rfl

theorem State.holdoverDue_iff (s : State) : s.holdoverDue = true ↔
    s.beat.lock = .locked ∧ s.beat.refLast = false ∧ s.beat.refSeen = false ∧ s.beat.bStage = 0 := by
  simp [State.holdoverDue, State.atBoundary, and_assoc]

theorem exec_beatSourceLost (s : State) : exec .beatSourceLost s = .next (if s.sourceLostDue = true then s.sourceLost else s) := rfl

theorem State.sourceLostDue_iff (s : State) : s.sourceLostDue = true ↔
    s.beat.lock = .holdover ∧ s.beat.refSeen = false ∧ s.beat.holdover.toNat ≤ s.beat.holdBeats ∧ s.beat.bStage = 0 := by
  simp [State.sourceLostDue, State.atBoundary, and_assoc]

/-- The beat of a unit that has lost its source (R86). -/
def BeatS.freed (b : BeatS) : BeatS :=
  { b with lock := .free, validRefs := 0, holdBeats := 0
           length := BeatS.nextLength { b with lock := .free, validRefs := 0, holdBeats := 0 } }

/-- The loss of the source enters Free, writes its entry and raises FS15 (R86). -/
theorem State.sourceLost_eq {s : State} (h : s.beat.bStage = 0) :
    s.sourceLost = ((s.setBeat BeatS.freed).event .control 0x700 [nword s.beat.srcSel.toNat, nword s.beat.holdBeats]).raise 15 0 := by
  rw [State.sourceLost, State.relength_eq]
  simp [State.setBeat, BeatS.freed, h]

/-- An event of a running beat enters the intake (R35). -/
theorem State.event_intake {s : State} (hshown : s.fltShown = none) (hrun : s.beat.running = true) (p : Plane) (code : Nat)
    (ps : List Word) : (s.event p code ps).log.intake = s.log.intake ++ [⟨p, code, ps⟩] := by
  simp [hshown, hrun]

/-! Source writes (R33, R83) -/

theorem exec_srcSelWrite (p : Path) (v : BitVec 2) (s : State) : exec (.srcSelWrite p v) s = .next (s.srcSelWrite p v) := rfl

/-! Resynchronization (R81, R226) -/

theorem exec_sbOfsResync (s : State) : exec .sbOfsResync s = .next (if s.resyncDue = true then s.resync else s) := rfl

theorem State.resyncDue_iff (s : State) : s.resyncDue = true ↔
    3 ≤ s.beat.sbnDiff ∧ s.beat.sbnSeen.isSome = true ∧ s.ownBeat = false ∧ s.beat.bStage = 0 := by
  simp [State.resyncDue, State.atBoundary, and_assoc]

/-- A resynchronization takes the Master's beat number, discards the impedance blocks and records both numbers (R81). -/
theorem State.resync_eq {s : State} {x : Word} (h : s.beat.sbnSeen = some x) :
    s.resync = ({ s.setBeat fun b => { b with sbOfs := some (x - b.num), sbnDiff := 0 } with imp := s.imp.discard } : State).event
      .control 0x702 [s.sbn, x, nword s.ring.master.toNat] := by
  rw [State.resync, h]

/-- No impedance block survives (R226). -/
theorem ImpS.discard_beats (i : ImpS) : ∀ y ∈ i.discard.slots, y.beats = none := by
  simp [ImpS.discard]

/-! Overruns (R96) -/

theorem exec_beatOverrun (ch : Ch) (s : State) :
    exec (.beatOverrun ch) s = .next (if s.overrunDue ch = true then s.overrunOp ch else s) := rfl

/-- The completion of a channel's evaluation in the beat, in µs. -/
def State.doneOf (s : State) : Ch → Option Nat
  | .a => s.beat.doneA
  | .b => s.beat.doneB

theorem State.overrun_iff (s : State) (ch : Ch) : s.overrun ch = true ↔ s.runs ch = true ∧ ∃ us, s.doneOf ch = some us ∧ 980 < us := by
  cases ch <;> simp [State.overrun, State.doneOf, Option.any_eq_true]

theorem State.overrunDue_iff (s : State) (ch : Ch) : s.overrunDue ch = true ↔
    s.overrun ch = true ∧ (s.fs (overrunFs ch)).till ≠ some (s.beat.num + 1) := by
  simp [State.overrunDue, State.fs]

/-- The beat of a channel that has overrun (R96). -/
def BeatS.overran (b : BeatS) : BeatS :=
  { b with
    offNs := max b.offNs 980000, detVoid := true, ovr := true, ovrThis := true
    ovrCnt := if b.ovrThis = true then b.ovrCnt else incSat 65535 b.ovrCnt }

/-- An overrun marks the beat, counts once a beat in the performance counters, and raises its source (R96, R513). -/
theorem State.overrunOp_eq (s : State) (ch : Ch) : ∃ y, s.overrunOp ch =
    ({ s with beat := s.beat.overran, sys := y } : State).raise (overrunFs ch) 0 := by
  by_cases h : s.beat.ovrThis = true
  · exact ⟨s.sys, by rw [State.overrunOp, if_pos h]; rfl⟩
  · exact ⟨s.sys.tally 4 1, by rw [State.overrunOp, if_neg h]; rfl⟩

theorem overrunFs_lt (ch : Ch) : overrunFs ch < 128 := by cases ch <;> decide

end Sys2Proof.Machine

namespace Sys2Proof.Proofs
open Sys2Proof.Machine

/-- Settles O9: each command acts exactly when its own condition holds, and each state of the lock has its equation for the length of
the next beat. -/
theorem beatSource : Obligations.BeatSource := by
  refine ⟨?acquires, ?notAcquires, ?locks, ?notLocks, ?holds, ?notHolds, ?loses, ?notLoses, ?lengthFree, ?lengthHeld, ?lengthLocked,
    ?lengthAcquiring, ?rejected, ?staged, ?resyncs, ?notResyncs, ?overruns, ?notOverruns⟩
  case acquires =>
    intro s hlock hsrc hrefs
    rw [exec_enterAcquiring, if_pos (s.acquireDue_iff.2 ⟨hlock, hsrc, hrefs⟩), State.acquire, State.relength_eq]
    rfl
  case notAcquires =>
    intro s h
    rw [exec_enterAcquiring, if_neg]
    rw [s.acquireDue_iff]
    rintro ⟨hlock, hsrc, hrefs⟩
    rcases h with h | h | ⟨h0, hown⟩
    · exact h hlock
    · exact h hrefs
    · simp [h0, hown] at hsrc
  case locks =>
    intro s hdue
    refine ⟨fun hkeep => ?_, fun x hown hmark hseen => ?_⟩
    · rw [exec_enterLocked, if_pos (s.lockDue_iff.2 hdue), State.lockOn_keeps hkeep, State.relength_eq]
      rfl
    · rw [exec_enterLocked, if_pos (s.lockDue_iff.2 hdue), State.lockOn_takes hown hmark hseen, State.relength_eq]
      rfl
  case notLocks =>
    intro s h
    rw [exec_enterLocked, if_neg]
    rw [s.lockDue_iff]
    rcases h with h | h | ⟨h, hphase⟩ | ⟨h, hseen, hlast⟩
    · simp [h]
    · simp [h]
    · simp [h, hphase]
    · simp [h, hseen, hlast]
  case holds =>
    intro s hlock hlast hseen hb
    have hlen : BeatS.nextLength { s.beat with lock := .holdover, holdBeats := 0 } = s.beat.length := BeatS.nextLength_held (.inl rfl)
    rw [exec_enterHoldover, if_pos (s.holdoverDue_iff.2 ⟨hlock, hlast, hseen, hb⟩), State.holdover, State.relength_eq]
    simp only [State.setBeat, hlen, ite_self]
  case notHolds =>
    intro s h
    rw [exec_enterHoldover, if_neg]
    rw [s.holdoverDue_iff]
    rintro ⟨hlock, hlast, hseen, -⟩
    simp [hlock, hlast, hseen] at h
  case loses =>
    intro s hlock hseen hbeats hb
    refine ⟨s.sourceLost, by rw [exec_beatSourceLost, if_pos (s.sourceLostDue_iff.2 ⟨hlock, hseen, hbeats, hb⟩)], ?_⟩
    rw [State.sourceLost_eq hb]
    refine ⟨State.raise_beat .., ?_, ?_, State.raise_meas .., State.raise_cha .., State.raise_chb .., State.raise_safe ..,
      State.raise_ring ..⟩
    · intro hwhole
      exact (State.raise_fs (by rw [State.event_flt, State.setBeat_flt, hwhole]; omega) _).1
    · intro hshown hrun
      obtain ⟨l, hl⟩ := State.raiseAt_intake_append .lasting true 15 0 _ _
      exact ⟨l, by rw [State.raise, hl, State.event_intake (s := s.setBeat BeatS.freed) hshown hrun, List.append_assoc]; rfl⟩
  case notLoses =>
    intro s h
    rw [exec_beatSourceLost, if_neg]
    rw [s.sourceLostDue_iff]
    rintro ⟨hlock, hseen, hbeats, -⟩
    rcases h with h | h | h
    · exact h hlock
    · simp [hseen] at h
    · omega
  case lengthFree => exact fun b h hlow hhigh => BeatS.nextLength_free_near h hlow hhigh
  case lengthHeld => exact fun b h => BeatS.nextLength_held h
  case lengthLocked => exact fun b i h hr hi hlow hhigh => BeatS.nextLength_locked_near h hr hi hlow hhigh
  case lengthAcquiring =>
    intro b h hi
    obtain ⟨x, hx⟩ := BeatS.nextLength_acquiring h hi
    rw [hx]
    exact lengthClamp_mem x
  case rejected =>
    intro s p
    rfl
  case staged =>
    intro s p v hv
    rw [exec_srcSelWrite, State.srcSelWrite, if_neg hv]
    rfl
  case resyncs =>
    intro s x hb hown hdiff hseen
    refine ⟨_, by rw [exec_sbOfsResync, if_pos (s.resyncDue_iff.2 ⟨hdiff, by rw [hseen]; rfl, hown, hb⟩), State.resync_eq hseen],
      rfl, ?_, s.imp.discard_beats, fun hshown hrun => ?_, rfl⟩
    · show s.beat.num + (x - s.beat.num) = x
      rw [BitVec.add_comm, BitVec.sub_add_cancel]
    · exact State.event_intake
        (s := { s.setBeat fun b => { b with sbOfs := some (x - b.num), sbnDiff := 0 } with imp := s.imp.discard }) hshown hrun ..
  case notResyncs =>
    intro s h
    rw [exec_sbOfsResync, if_neg]
    rw [s.resyncDue_iff]
    rintro ⟨hdiff, hseen, hown, -⟩
    rcases h with h | h | h
    · omega
    · simp [hown] at h
    · simp [h] at hseen
  case overruns =>
    intro s ch us hruns hdone hus hwhole htill
    have hdone' : s.doneOf ch = some us := by cases ch <;> exact hdone
    have hdue : s.overrunDue ch = true := (s.overrunDue_iff ch).2 ⟨(s.overrun_iff ch).2 ⟨hruns, us, hdone', hus⟩, htill⟩
    obtain ⟨y, hop⟩ := s.overrunOp_eq ch
    have hlatch := (State.raise_fs (s := { s with beat := s.beat.overran, sys := y }) (n := overrunFs ch)
      (by rw [hwhole]; exact overrunFs_lt ch) 0).1
    refine ⟨s.overrunOp ch, by rw [exec_beatOverrun, if_pos hdue], ?_⟩
    rw [hop]
    exact ⟨State.raise_beat .., hlatch, State.raise_meas .., State.raise_cha .., State.raise_chb .., State.raise_safe ..⟩
  case notOverruns =>
    intro s ch h
    rw [exec_beatOverrun, if_neg]
    rw [s.overrunDue_iff, s.overrun_iff]
    rintro ⟨⟨hruns, us, hdone, hus⟩, -⟩
    rcases h with h | h
    · simp [hruns] at h
    · have hle : us ≤ 980 := h us (by cases ch <;> exact hdone)
      omega

end Sys2Proof.Proofs
end

section
/-! PROOFS. The byte store of a bank: what it reads after a store, and that a canonical list is known by what it reads (R124). -/

namespace Sys2Proof.Machine

/-- The addresses of a list rise. -/
def CellsRising (l : List Host.Cell) : Prop := l.Pairwise fun c d => c.1 < d.1

theorem cellsWf_rising {l : List Host.Cell} (h : cellsWf l = true) : CellsRising l := by
  induction l with
  | nil => exact .nil
  | cons c l ih =>
    obtain ⟨-, -, hl, hlt⟩ := (cellsWf_cons c l).1 h
    exact .cons hlt (ih hl)

/-- A store keeps the order, at every address. -/
theorem cellsSet_rising {l : List Host.Cell} (h : CellsRising l) (a : Nat) (v : Byte) : CellsRising (cellsSet a v l) := by
  induction h with
  | nil =>
    rw [cellsSet]
    split_ifs
    · exact .nil
    · exact .cons (by simp) .nil
  | @cons c l hlt hl ih =>
    rw [cellsSet]
    split_ifs with hc he hv hv
    · refine .cons (fun d hd => ?_) ih
      rcases mem_cellsSet hd with hd | hd
      · exact hd ▸ hc
      · exact hlt d hd
    · exact hl
    · exact .cons (fun d hd => he ▸ hlt d hd) hl
    · exact .cons hlt hl
    · refine .cons (List.forall_mem_cons.2 ⟨?_, fun d hd => ?_⟩) (.cons hlt hl)
      · show a < c.1
        omega
      · have := hlt d hd
        show a < d.1
        omega

/-- Below its first address a list reads 0. -/
theorem cellsGet_eq_zero {a : Nat} {l : List Host.Cell} (h : ∀ d ∈ l, a < d.1) : cellsGet a l = 0 := by
  induction l with
  | nil => rfl
  | cons c l ih =>
    obtain ⟨hc, hl⟩ := List.forall_mem_cons.1 h
    rw [cellsGet, if_neg (by omega), ih hl]

/-- A stored byte is read back, and every other address reads as before. -/
theorem cellsGet_cellsSet {l : List Host.Cell} (h : CellsRising l) (a b : Nat) (v : Byte) :
    cellsGet b (cellsSet a v l) = if b = a then v else cellsGet b l := by
  induction h with
  | nil => grind [cellsSet, cellsGet]
  | @cons c l hlt _ ih =>
    have hbefore : ∀ x ≤ c.1, cellsGet x l = 0 := fun x hx => cellsGet_eq_zero fun d hd => lt_of_le_of_lt hx (hlt d hd)
    rw [cellsSet]
    split_ifs <;> grind [cellsGet]

/-- Consecutive bytes are read back, and every other address reads as before. -/
theorem cellsGet_cellsPut {l : List Host.Cell} (h : CellsRising l) (bs : List Byte) (a b : Nat) :
    cellsGet b (cellsPut a bs l) = if a ≤ b ∧ b < a + bs.length then bs[b - a]?.getD 0 else cellsGet b l := by
  induction bs generalizing a l with
  | nil => rw [if_neg (by simp only [List.length_nil]; omega), cellsPut]
  | cons v bs ih =>
    rw [cellsPut, ih (cellsSet_rising h a v), cellsGet_cellsSet h, List.length_cons]
    by_cases hb : b = a
    · subst hb
      rw [if_neg (by omega), if_pos rfl, if_pos (by omega), Nat.sub_self]
      rfl
    · rw [if_neg hb]
      by_cases hin : a + 1 ≤ b ∧ b < a + 1 + bs.length
      · rw [if_pos hin, if_pos (by omega), show b - a = b - (a + 1) + 1 by omega, List.getElem?_cons_succ]
      · rw [if_neg hin, if_neg (by omega)]

/-- What is listed first reads other than 0. -/
theorem cellsGet_head_ne_zero {c : Host.Cell} {l : List Host.Cell} (h : cellsWf (c :: l) = true) : cellsGet c.1 (c :: l) ≠ 0 := by
  rw [cellsGet, if_pos rfl]
  exact ((cellsWf_cons c l).1 h).2.1

/-- A canonical list is known by what it reads. -/
theorem cellsWf_ext {l m : List Host.Cell} (hl : cellsWf l = true) (hm : cellsWf m = true)
    (h : ∀ a, cellsGet a l = cellsGet a m) : l = m := by
  induction l generalizing m with
  | nil =>
    cases m with
    | nil => rfl
    | cons d m => exact absurd (h d.1).symm (cellsGet_head_ne_zero hm)
  | cons c l ih =>
    cases m with
    | nil => exact absurd (h c.1) (cellsGet_head_ne_zero hl)
    | cons d m =>
      obtain ⟨-, -, hl', hlt⟩ := (cellsWf_cons c l).1 hl
      obtain ⟨-, -, hm', hmt⟩ := (cellsWf_cons d m).1 hm
      have hfirst {e : Host.Cell} {k : List Host.Cell} {x : Nat} (hk : ∀ y ∈ k, e.1 < y.1) (hx : cellsGet x (e :: k) ≠ 0) :
          e.1 ≤ x := by
        by_contra hlow
        exact hx (cellsGet_eq_zero (List.forall_mem_cons.2 ⟨by omega, fun y hy => by have := hk y hy; omega⟩))
      have haddr : c.1 = d.1 := by
        refine Nat.le_antisymm (hfirst hlt ?_) (hfirst hmt ?_)
        · rw [h]
          exact cellsGet_head_ne_zero hm
        · rw [← h]
          exact cellsGet_head_ne_zero hl
      have hbyte : c.2 = d.2 := by simpa [cellsGet, haddr] using h c.1
      have hrest : l = m := by
        refine ih hl' hm' fun a => ?_
        by_cases ha : c.1 = a
        · rw [cellsGet_eq_zero fun e he => ha ▸ hlt e he, cellsGet_eq_zero fun e he => ha ▸ haddr ▸ hmt e he]
        · simpa only [cellsGet, if_neg ha, if_neg (haddr ▸ ha : ¬ d.1 = a)] using h a
      rw [Prod.ext haddr hbyte, hrest]

/-- The bytes from an address on read as the store does; beyond the listed bytes it reads 0. -/
theorem cellsDense_getD {n a i : Nat} {l : List Host.Cell} (h : cellsWf l = true) (hlow : ∀ d ∈ l, a ≤ d.1) (hi : i < n) :
    (cellsDense a n l)[i]?.getD 0 = cellsGet (a + i) l := by
  induction n generalizing a i l with
  | zero => omega
  | succ n ih =>
    cases l with
    | nil => rfl
    | cons c l =>
      obtain ⟨-, -, hl, hlt⟩ := (cellsWf_cons c l).1 h
      obtain ⟨hc, -⟩ := List.forall_mem_cons.1 hlow
      by_cases hca : c.1 = a
      · have hrest : ∀ d ∈ l, a + 1 ≤ d.1 := fun d hd => by have := hlt d hd; omega
        cases i with
        | zero => simp [cellsDense, cellsGet, hca]
        | succ i =>
          rw [cellsDense, if_pos hca, List.getElem?_cons_succ, ih hl hrest (by omega), cellsGet, if_neg (by omega),
            Nat.add_right_comm, Nat.add_assoc]
      · have hrest : ∀ d ∈ c :: l, a + 1 ≤ d.1 :=
          List.forall_mem_cons.2 ⟨by omega, fun d hd => by have := hlt d hd; omega⟩
        cases i with
        | zero =>
          rw [cellsDense, if_neg hca, cellsGet_eq_zero fun d hd => by have := hrest d hd; omega]
          rfl
        | succ i =>
          rw [cellsDense, if_neg hca, List.getElem?_cons_succ, ih h hrest (by omega), Nat.add_right_comm, Nat.add_assoc]

/-- The first n bytes of a bank read as the store does. -/
theorem cellsBytes_getElem? {l : List Host.Cell} (h : cellsWf l = true) {n i : Nat} (hi : i < n) :
    (cellsBytes n l)[i]? = some (cellsGet i l) := by
  have hget := cellsDense_getD h (a := 0) (fun _ _ => Nat.zero_le _) hi
  rw [Nat.zero_add] at hget
  simp only [cellsBytes]
  by_cases hd : i < (cellsDense 0 n l).length
  · rw [List.getElem?_append_left hd, ← hget, List.getElem?_eq_getElem hd, Option.getD_some]
  · rw [List.getElem?_append_right (by omega), List.getElem?_replicate, if_pos (by omega), ← hget,
      List.getElem?_eq_none (by omega), Option.getD_none]

end Sys2Proof.Machine

namespace Sys2Proof.Proofs
open Sys2Proof Sys2Proof.Machine

/-- Settles O4: a store is `cellsSet`, whose reading follows the list's order; a canonical list is known by the address and the byte of
its first entry, and the bytes of a bank are read off in its order. -/
theorem bankStore : Obligations.BankStore :=
  ⟨fun _ a b v h => cellsGet_cellsSet (cellsWf_rising h) a b v, fun _ bs a b h _ => cellsGet_cellsPut (cellsWf_rising h) bs a b,
    fun _ _ hl hm h => cellsWf_ext hl hm h, fun _ _ _ h hi => cellsBytes_getElem? h hi⟩

end Sys2Proof.Proofs
end

section
/-! PROOFS. The commit journal, the choice of a bank, and the commands of a write session (R119-R129, R137). -/

namespace Sys2Proof.Machine

/-! Banks -/

@[simp] theorem CfgS.setBank_bank (c : CfgS) (b : Bool) (f : Bank → Bank) : (c.setBank b f).bank b = f (c.bank b) := by
  cases b <;> rfl

@[simp] theorem CfgS.setBank_bank_not (c : CfgS) (b : Bool) (f : Bank → Bank) : (c.setBank b f).bank (!b) = c.bank (!b) := by
  cases b <;> rfl

/-- The bank in one of the states, when the other is in none of them. -/
theorem CfgS.find_eq_some {c : CfgS} {l : List BankState} {b : Bool} (h : (c.bank b).state ∈ l) (hnot : (c.bank (!b)).state ∉ l) :
    c.find l = some b := by
  cases b <;> simp_all [CfgS.find, CfgS.bank]

/-- No bank, when neither is in one of the states. -/
theorem CfgS.find_eq_none {c : CfgS} {l : List BankState} {b : Bool} (h : (c.bank b).state ∉ l) (hnot : (c.bank (!b)).state ∉ l) :
    c.find l = none := by
  cases b <;> simp_all [CfgS.find, CfgS.bank]

/-! The journal (R128) -/

@[simp] theorem CfgS.journal_bank (f : CfgS → CfgS) (c : CfgS) (b : Bool) : (c.journal f).bank b = (f c).bank b := by
  cases b <;> rfl

/-- A word goes to the place that does not hold the governing one, and governs by its higher JSEQ. -/
theorem CfgS.governing_of_write {d : CfgS} {w : JWord} (h : d.jseq < w.seq) :
    ({ d with
        j0 := if d.j1Governs then some w else if d.j0.isNone then some w else d.j0
        j1 := if d.j1Governs || d.j0.isNone then d.j1 else some w } : CfgS).governing = some w := by
  cases h0 : d.j0 with
  | none =>
    cases h1 : d.j1 with
    | none => simp [CfgS.governing, CfgS.j1Governs, h0, h1]
    | some y =>
      have hw : ¬ w.seq < y.seq := by
        simp only [CfgS.jseq, CfgS.governing, CfgS.j1Governs, h0, h1] at h
        exact Nat.not_lt.2 (Nat.le_of_lt h)
      simp [CfgS.governing, CfgS.j1Governs, h0, h1, hw]
  | some x =>
    cases h1 : d.j1 with
    | none => simp_all [CfgS.governing, CfgS.jseq, CfgS.j1Governs]
    | some y =>
      by_cases hxy : x.seq < y.seq
      · have hw : ¬ w.seq < y.seq := by
          simp only [CfgS.jseq, CfgS.governing, CfgS.j1Governs, h0, h1, hxy] at h
          exact Nat.not_lt.2 (Nat.le_of_lt h)
        simp [CfgS.governing, CfgS.j1Governs, h0, h1, hxy, hw]
      · have hw : x.seq < w.seq := by
          simpa [CfgS.jseq, CfgS.governing, CfgS.j1Governs, h0, h1, hxy] using h
        simp [CfgS.governing, CfgS.j1Governs, h0, h1, hxy, hw]

/-- A journal write governs from then on, with the states that it was made for, as long as JSEQ does not wrap. -/
theorem CfgS.journal_governing {f : CfgS → CfgS} {c : CfgS} (h0 : (f c).j0 = c.j0) (h1 : (f c).j1 = c.j1)
    (hseq : c.jseq + 1 < 2 ^ 32) : (c.journal f).governing = some ((c.journal f).jword (c.jseq + 1)) := by
  have hj : (f c).jseq = c.jseq := by
    simp only [CfgS.jseq, CfgS.governing, CfgS.j1Governs, h0, h1]
    rfl
  have hw : (c.journal f).jword (c.jseq + 1) = (f c).jword (((f c).jseq + 1) % 2 ^ 32) := by
    rw [hj, Nat.mod_eq_of_lt hseq]
    rfl
  rw [hw]
  refine CfgS.governing_of_write ?_
  show (f c).jseq < ((f c).jseq + 1) % 2 ^ 32
  rw [hj, Nat.mod_eq_of_lt hseq]
  exact Nat.lt_succ_self _

/-! Commands (R120, R126, R129, R137) -/

/-- A refused command shows itself in LAST_CMD and the refusal in RESULT. -/
theorem State.cfgCommand_of_refusal {s : State} {p : Path} {key : BitVec 8} {r : Nat} (h : s.cfgRefusal p key = some r) (cmd : Nat)
    (check : State → Option Nat) (f : State → State) :
    s.cfgCommand p key cmd check f = { s with cfg := { s.cfg with lastCmd := cmd, result := r } } := by
  have ht : (s.setCfg fun c => { c with lastCmd := cmd }).cfgRefusal p key = some r := h
  simp only [State.cfgCommand, ht]
  rfl

/-- The state in which an accepted command acts: LAST_CMD shows it, RESULT is 0 (R129). -/
def State.cfgTaken (s : State) (cmd : Nat) : State := { s with cfg := { s.cfg with lastCmd := cmd, result := 0 } }

/-- A command that nothing refuses acts. -/
theorem State.cfgCommand_of_accepted {s : State} {p : Path} {cmd : Nat} {check : State → Option Nat} (hfree : s.cfgFree p)
    (h : check (s.setCfg fun c => { c with lastCmd := cmd }) = none) (f : State → State) :
    s.cfgCommand p 0xC3 cmd check f = f (s.cfgTaken cmd) := by
  obtain ⟨hwork, hown⟩ := hfree
  have ht : (s.setCfg fun c => { c with lastCmd := cmd }).cfgRefusal p 0xC3 = none := by
    show s.cfgRefusal p 0xC3 = none
    rw [State.cfgRefusal, if_neg (by decide), if_neg (by simp [hwork]), if_neg]
    rintro ⟨hne, hnot⟩
    simp_all
  simp only [State.cfgCommand, ht, h]
  rfl

/-- Each of the seven commands is a `cfgCommand` with its code. -/
theorem exec_of_mem_cfgCommands {p : Path} {key : BitVec 8} {i : Instr} {n : Nat} (h : (i, n) ∈ cfgCommands p key) :
    ∃ (check : State → Option Nat) (f : State → State), ∀ s, exec i s = .next (s.cfgCommand p key n check f) := by
  simp only [cfgCommands, List.mem_cons, Prod.mk.injEq, List.not_mem_nil, or_false] at h
  rcases h with ⟨rfl, rfl⟩ | ⟨rfl, rfl⟩ | ⟨rfl, rfl⟩ | ⟨rfl, rfl⟩ | ⟨rfl, rfl⟩ | ⟨rfl, rfl⟩ | ⟨rfl, rfl⟩ <;>
    exact ⟨_, _, fun _ => rfl⟩

theorem State.cfgRefusal_key {key : BitVec 8} (h : key ≠ 0xC3) (p : Path) (s : State) : s.cfgRefusal p key = some 1 :=
  if_pos h

theorem State.cfgRefusal_busy {s : State} (h : s.cfg.work ≠ .none) (p : Path) : s.cfgRefusal p 0xC3 = some 4 := by
  rw [State.cfgRefusal, if_neg (by decide), if_pos h]

theorem State.cfgRefusal_owner {s : State} {p : Path} (h : s.cfg.work = .none) (hown : s.cfg.owner ≠ .none)
    (hnot : ownedBy s.cfg.owner p = false) : s.cfgRefusal p 0xC3 = some 5 := by
  rw [State.cfgRefusal, if_neg (by decide), if_neg (by simp [h]), if_pos (by simp [hown, hnot])]

theorem State.crownParked_none {s : State} (h : s.crowns = true) (hp : s.parked = true) : s.crownParked = none := by
  simp [State.crownParked, State.cfgParked, h, hp]

/-- A data word that nothing refuses goes into the bank of the session, and WADDR moves on (R124). -/
theorem State.wdataWrite_of_accepted {s : State} {p : Path} (h : s.wdataRefusal p = none) (d : Word) :
    s.wdataWrite p d = { s with cfg := { s.cfg.setBank s.cfg.workBank fun x =>
        { x with cells := cellsPut s.cfg.waddr (wordBytes d) x.cells } with
      waddr := s.cfg.waddr + 4
      written := if s.cfg.written.contains (s.cfg.waddr / 32) then s.cfg.written else s.cfg.written ++ [s.cfg.waddr / 32] } } := by
  simp only [State.wdataWrite, h]
  rfl

/-- The bank of the session takes the word, and the other bank stays (R124). -/
theorem State.wdataWrite_bank {s : State} {p : Path} (h : s.wdataRefusal p = none) (d : Word) :
    (s.wdataWrite p d).cfg.bank s.cfg.workBank =
      { s.cfg.bank s.cfg.workBank with cells := cellsPut s.cfg.waddr (wordBytes d) (s.cfg.bank s.cfg.workBank).cells } ∧
    (s.wdataWrite p d).cfg.bank (!s.cfg.workBank) = s.cfg.bank (!s.cfg.workBank) := by
  rw [State.wdataWrite_of_accepted h]
  exact ⟨s.cfg.setBank_bank s.cfg.workBank fun x => { x with cells := cellsPut s.cfg.waddr (wordBytes d) x.cells },
    s.cfg.setBank_bank_not s.cfg.workBank fun x => { x with cells := cellsPut s.cfg.waddr (wordBytes d) x.cells }⟩

/-- A refused data word shows in RESULT alone (R124). -/
theorem State.wdataWrite_of_refusal {s : State} {p : Path} {r : Nat} (h : s.wdataRefusal p = some r) (d : Word) :
    s.wdataWrite p d = { s with cfg := { s.cfg with result := r } } := by
  simp only [State.wdataWrite, h]
  rfl

theorem ownedBy_ownerOf (p : Path) : ownedBy (ownerOf p) p = true := by cases p <;> rfl

/-- Beside an image in force OPEN takes the bank that is not active (R119). -/
theorem State.openBank_eq {s : State} {b : Bool} (himg : s.cfg.image.isSome = true) (hact : s.cfg.active = some b) :
    s.openBank = !b := by
  obtain ⟨g, hg⟩ := Option.isSome_iff_exists.1 himg
  simp [State.openBank, hg, hact]

/-- A word lands most significant byte first (R9). -/
theorem wordBytes_getElem? (d : Word) {i : Nat} (hi : i < 4) : (wordBytes d)[i]? = some (BitVec.ofNat 8 (d.toNat / 256 ^ (3 - i))) := by
  have h : i = 0 ∨ i = 1 ∨ i = 2 ∨ i = 3 := by omega
  rcases h with rfl | rfl | rfl | rfl <;> rfl

end Sys2Proof.Machine

namespace Sys2Proof.Proofs
open Sys2Proof Sys2Proof.Machine

/-- Settles O13: a refused command is `cfgCommand_of_refusal`, an accepted one acts on the state `cfgTaken`; OPEN is one journal write,
and a data word is four stores of the bank. -/
theorem configSession : Obligations.ConfigSession := by
  refine ⟨fun s p key c n hc => ?refused, fun s p b hfree hcrowns hparked himg hact hother hrep => ?opened,
    fun s p hfree hcrowns hparked hown hstate hrep => ?verifies, fun s p b hwork hown hstate hnot => ?aborted,
    fun s p d hwork hown hstate haddr hwf => ?written, fun s p d hwork => ?busy⟩
  case refused =>
    obtain ⟨check, f, hexec⟩ := exec_of_mem_cfgCommands hc
    refine ⟨fun hkey => ?_, fun hkey hwork => ?_, fun hkey hwork hown hnot => ?_⟩
    · rw [hexec, State.cfgCommand_of_refusal (State.cfgRefusal_key hkey p s)]
    · subst hkey
      rw [hexec, State.cfgCommand_of_refusal (State.cfgRefusal_busy hwork p)]
    · subst hkey
      rw [hexec, State.cfgCommand_of_refusal (State.cfgRefusal_owner hwork hown hnot)]
  case opened =>
    have hactive : s.cfg.active = some b := CfgS.find_eq_some (by simp [hact]) (by revert hother; cases (s.cfg.bank (!b)).state <;> simp)
    have hopen : s.openBank = !b := State.openBank_eq himg hactive
    have hcheck : State.openRefusal p (s.setCfg fun c => { c with lastCmd := 1 }) = none := by
      show s.openRefusal p = none
      have hfind : s.cfg.find [.trial, .pending, .writing] = none :=
        CfgS.find_eq_none (b := b) (by simp [hact]) (by revert hother; cases (s.cfg.bank (!b)).state <;> simp)
      have hstate : [BankState.empty, .verified, .previous].contains (s.cfg.bank (!b)).state = true := by simpa using hother
      have hrep' : (s.core.rpl.live && s.core.rpl.bank == !b) = false := hrep
      have hnone : s.cfg.image.isNone = false := by simpa using himg
      simp only [State.openRefusal, hopen, hfind, hstate, hrep', hnone]
      simpa using State.crownParked_none hcrowns hparked
    have hopen' : (s.cfgTaken 1).openBank = !b := hopen
    refine ⟨_, congrArg Host.Outcome.next (State.cfgCommand_of_accepted hfree hcheck _), ?_⟩
    simp only [State.openOk, hopen']
    refine ⟨?_, ?_, rfl, ownedBy_ownerOf p, rfl, rfl, rfl, fun hseq => ?_, rfl⟩
    · cases b <;> rfl
    · cases b <;> rfl
    · exact CfgS.journal_governing (f := fun c => c.setBank (!b) fun x => { x with state := .writing }) (c := (s.cfgTaken 1).cfg)
        rfl rfl hseq
  case verifies =>
    have hcheck : State.verifyRefusal (s.setCfg fun c => { c with lastCmd := 2 }) = none := by
      show s.verifyRefusal = none
      rw [State.verifyRefusal, if_neg (by simp [hown, hstate, hrep]), State.crownParked_none hcrowns hparked]
    refine ⟨_, congrArg Host.Outcome.next (State.cfgCommand_of_accepted hfree hcheck _), ?_, ?_⟩
    all_goals
      simp only [State.cfgTask, if_true]
      split <;> rfl
  case aborted =>
    have hfind : s.cfg.find [.writing, .verified] = some b := CfgS.find_eq_some hstate hnot
    have hcheck : State.abortRefusal p (s.setCfg fun c => { c with lastCmd := 6 }) = none := by
      show s.abortRefusal p = none
      rw [State.abortRefusal, hfind, if_neg (by simp), if_pos (by simp [hown])]
    refine ⟨_, congrArg Host.Outcome.next (State.cfgCommand_of_accepted ⟨hwork, .inr hown⟩ hcheck _), ?_⟩
    have hfind' : (s.cfgTaken 6).cfg.find [.writing, .verified] = some b := hfind
    simp only [hfind', Option.getD_some]
    refine ⟨?_, ?_, rfl, rfl, rfl, rfl⟩
    · cases b <;> rfl
    · cases b <;> rfl
  case written =>
    have howner : s.cfg.owner ≠ .none := by
      rintro h
      rw [h] at hown
      cases p <;> exact absurd hown (by decide)
    have hnone : s.wdataRefusal p = none := by
      rw [State.wdataRefusal, if_neg (by simp [hwork]), if_neg (by simp [hown]), if_neg (by simp [howner, hstate]),
        if_neg (by omega)]
    have hput := cellsGet_cellsPut (cellsWf_rising hwf) (wordBytes d) s.cfg.waddr
    rw [wordBytes_length] at hput
    obtain ⟨htakes, hstays⟩ := State.wdataWrite_bank hnone d
    refine ⟨s.wdataWrite p d, rfl, ?_, ?_, fun i hi => ?_, fun a ha => ?_, hstays⟩
    · rw [State.wdataWrite_of_accepted hnone]
    · rw [State.wdataWrite_of_accepted hnone]
    · rw [htakes, hput, if_pos (by omega), Nat.add_sub_cancel_left, wordBytes_getElem? d hi, Option.getD_some]
    · rw [htakes, hput, if_neg (by omega)]
  case busy =>
    exact congrArg Host.Outcome.next (State.wdataWrite_of_refusal (if_pos hwork) d)

end Sys2Proof.Proofs
end

section
/-! PROOFS. The ends of the checks and of the digest, COMMIT and CONFIRM (R125, R126, R129). -/

namespace Sys2Proof.Machine

/-- The checker that the work ran on is free again, and nothing else moves (R126). -/
theorem State.cfgTask_eq (on : Bool) (s : State) : s.cfgTask on = { s with core := (s.cfgTask on).core } := by
  cases on
  · simp only [State.cfgTask, Bool.false_eq_true, if_false]
    split <;> rfl
  · simp only [State.cfgTask, if_true]
    split <;> rfl

/-- The end of a work clears BUSY, frees the checker and reports itself (R126, R464). -/
theorem State.cfgDone_eq (s : State) :
    s.cfgDone = { s with cfg := { s.cfg with work := .none }, host := s.cfgDone.host, core := s.cfgDone.core } := by
  unfold State.cfgDone
  dsimp only
  rw [State.cfgTask_eq]
  rfl

/-- An event of a running beat enters the intake and changes nothing else (R35). -/
theorem State.event_eq {s : State} (hshown : s.fltShown = none) (hrun : s.beat.running = true) (p : Plane) (code : Nat)
    (ps : List Word) : s.event p code ps = { s with log := { s.log with intake := s.log.intake ++ [⟨p, code, ps⟩] } } := by
  simp [State.event, hshown, hrun]

/-- The image that passes is VERIFIED under the key slot that accepts it (R125). -/
theorem State.verifyEnd_of_passed {s : State} {b : Bool} (hb : s.cfg.workBank = b) (hsound : s.bankSound b = true)
    (h : verifyImage (cellsBytes bankSize (s.cfg.bank b).cells) s.cfg.written s.cfg.openVer s.cfg.keys = none) :
    s.verifyEnd = (s.setCfg (CfgS.journal fun c =>
      { c.setBank b fun x =>
          { x with state := .verified
                   slot := acceptSlot c.keys (cellsBytes bankSize (s.cfg.bank b).cells)
                   ver := numAt (cellsBytes bankSize (s.cfg.bank b).cells) 8 4 } with result := 0 })).cfgDone := by
  subst hb
  simp only [State.verifyEnd, h, hsound, if_true, Option.none_or]

/-- The image that fails stays WRITING, with the failed check in CFG_ERR (R125). -/
theorem State.verifyEnd_of_failed {s : State} {b : Bool} {e : CfgErr} (hb : s.cfg.workBank = b)
    (h : verifyImage (cellsBytes bankSize (s.cfg.bank b).cells) s.cfg.written s.cfg.openVer s.cfg.keys = some e) :
    s.verifyEnd = (s.refuseImage e).cfgDone := by
  subst hb
  simp only [State.verifyEnd, h, Option.some_or]

/-- The digest that matches makes the bank PENDING and asks for the reset (R129). -/
theorem State.commitEnd_of_matched {s : State} {b : Bool} (hb : s.cfg.workBank = b) (hstate : (s.cfg.bank b).state = .verified)
    (hsound : s.bankSound b = true) (hdigest : digestOk (cellsBytes bankSize (s.cfg.bank b).cells) = true) :
    s.commitEnd = State.cfgDone ((s.bankTo b .pending).setCfg fun c =>
      { c with result := 0, resetDue := mergeCause c.resetDue 6 }) := by
  subst hb
  simp [State.commitEnd, hstate, hsound, hdigest]

end Sys2Proof.Machine

namespace Sys2Proof.Proofs
open Sys2Proof Sys2Proof.Machine

/-- Settles O14: the end of each work is one of its outcomes followed by `cfgDone`, which clears BUSY; COMMIT and CONFIRM act on the
bank that `find` gives. -/
theorem configCommit : Obligations.ConfigCommit := by
  refine ⟨fun s hwork hsound => ?verified, fun s hwork => congrArg Host.Outcome.next (if_neg hwork),
    fun s p b hfree hcrowns hparked hact hother hrep => ?committed, fun s hwork hstate hsound hdigest => ?digest,
    fun s hwork => congrArg Host.Outcome.next (if_neg hwork), fun s p b hfree himg hrev htrial hother hshown hrun => ?confirmed⟩
  case verified =>
    refine ⟨_, congrArg Host.Outcome.next (if_pos hwork), ?_⟩
    generalize hb : s.cfg.workBank = b at *
    split
    next h =>
      rw [State.verifyEnd_of_passed hb hsound h, State.cfgDone_eq]
      cases b <;> exact ⟨rfl, rfl, rfl, rfl, rfl, rfl⟩
    next e h =>
      rw [State.verifyEnd_of_failed hb h, State.cfgDone_eq]
      exact ⟨rfl, rfl, rfl, rfl, rfl, rfl, rfl, rfl, rfl⟩
  case committed =>
    have hfind : s.cfg.find [.verified] = some (!b) := CfgS.find_eq_some (by simp [hother]) (by simp [hact])
    have hcheck : State.commitRefusal (s.setCfg fun c => { c with lastCmd := 3 }) = none := by
      show s.commitRefusal = none
      have hnone : s.cfg.find [.trial, .pending, .writing] = none := CfgS.find_eq_none (b := b) (by simp [hact]) (by simp [hother])
      rw [State.commitRefusal, hfind, hnone, if_neg (by simp [hrep]), State.crownParked_none hcrowns hparked]
    have hfind' : (s.cfgTaken 3).cfg.find [.verified] = some (!b) := hfind
    refine ⟨_, congrArg Host.Outcome.next (State.cfgCommand_of_accepted hfree hcheck _), ?_⟩
    rw [State.cfgTask_eq]
    refine ⟨?_, rfl⟩
    simp only [State.setCfg, hfind']
    rfl
  case digest =>
    refine ⟨_, congrArg Host.Outcome.next (if_pos hwork), ?_⟩
    generalize hb : s.cfg.workBank = b at *
    rw [State.commitEnd_of_matched hb hstate hsound hdigest, State.cfgDone_eq]
    cases b <;> exact ⟨rfl, rfl, rfl, rfl, rfl, rfl⟩
  case confirmed =>
    have hfind : s.cfg.find [.trial] = some b := CfgS.find_eq_some (by simp [htrial]) (by simpa using hother)
    have hcheck : State.confirmRefusal (s.setCfg fun c => { c with lastCmd := 4 }) = none := by
      show s.confirmRefusal = none
      rw [State.confirmRefusal, hfind, if_neg]
      simp [hrev, Option.isNone_iff_eq_none, Option.isSome_iff_ne_none.1 himg]
    have hfind' : (s.cfgTaken 4).cfg.find [.trial] = some b := hfind
    refine ⟨_, congrArg Host.Outcome.next (State.cfgCommand_of_accepted hfree hcheck _), ?_⟩
    simp only [State.confirmOk, hfind', Option.getD_some]
    rw [State.event_eq (by exact hshown) (by exact hrun)]
    cases b <;> exact ⟨rfl, rfl, rfl, rfl, rfl, rfl⟩

end Sys2Proof.Proofs
end

section

/-! PROOFS. The bytes of the banks and the write address: most operations leave them as they are.

A bank is canonical by its cells alone, so a command that leaves the cells of both banks and the write address as they are keeps
BANKS_CANONICAL. `CfgS.bytes` is that part of the configuration. The rules `…_bytes` below say, for each operation of the model that
does not write a bank, that it leaves this part as it is; they stand in the order of the model's files, each from those of the
operations it calls. The few that do write a bank have a rule of their own further down (`…_banksInv`). -/

namespace Sys2Proof.Machine

open Sys2Proof

/-- What the canonical form and the write address depend on: the bytes of both banks, and the address. -/
def CfgS.bytes (c : CfgS) : List Host.Cell × List Host.Cell × Nat := (c.bank0.cells, c.bank1.cells, c.waddr)

/-! Steps put together -/

@[simp] theorem runAll_bytes {α : Type} {f : α → State → State} (hf : ∀ x s, (f x s).cfg.bytes = s.cfg.bytes) (l : List α)
    (s : State) : (runAll f l s).cfg.bytes = s.cfg.bytes := by
  induction l generalizing s with
  | nil => rfl
  | cons x l ih => exact (ih (f x s)).trans (hf x s)

@[simp] theorem foldl_bytes {α : Type} {f : State → α → State} (hf : ∀ s x, (f s x).cfg.bytes = s.cfg.bytes) (l : List α)
    (s : State) : (l.foldl f s).cfg.bytes = s.cfg.bytes :=
  runAll_bytes (fun x s => hf s x) l s

@[simp] theorem State.doIf_bytes {op : State → State} (h : ∀ s, (op s).cfg.bytes = s.cfg.bytes) (due : State → Bool) (s : State) :
    (s.doIf due op).cfg.bytes = s.cfg.bytes := by
  unfold State.doIf
  split
  · exact h s
  · rfl

@[simp] theorem State.boundaryRow_bytes {op : State → State} (h : ∀ s, (op s).cfg.bytes = s.cfg.bytes) (due : State → Bool)
    (s : State) : (s.boundaryRow due op).cfg.bytes = s.cfg.bytes := by
  unfold State.boundaryRow
  split
  · exact h s
  · rfl

@[simp] theorem State.dataA_bytes {f : State → State} (h : ∀ s, (f s).cfg.bytes = s.cfg.bytes) (s : State) :
    (s.dataA f).cfg.bytes = s.cfg.bytes := by
  unfold State.dataA
  split
  · exact h s
  · rfl

@[simp] theorem State.onA_bytes {f : State → State} (h : ∀ s, (f s).cfg.bytes = s.cfg.bytes) (s : State) :
    (s.onA f).cfg.bytes = s.cfg.bytes := by
  unfold State.onA
  split
  · exact h s
  · rfl

@[simp] theorem onlyIf_bytes {f : State → State} (h : ∀ s, (f s).cfg.bytes = s.cfg.bytes) (c : Bool) (s : State) :
    (onlyIf c f s).cfg.bytes = s.cfg.bytes := by
  unfold onlyIf
  split
  · exact h s
  · rfl

@[simp] theorem State.onBoth_bytes {f : Ch → State → State} (h : ∀ c s, (f c s).cfg.bytes = s.cfg.bytes) (s : State) :
    (s.onBoth f).cfg.bytes = s.cfg.bytes :=
  (h .b _).trans (h .a s)

@[simp] theorem State.onPins_bytes {f : Nat → Nat → State → State} (h : ∀ g j s, (f g j s).cfg.bytes = s.cfg.bytes) (s : State) :
    (s.onPins f).cfg.bytes = s.cfg.bytes :=
  runAll_bytes (fun g => runAll_bytes (h g) _) _ s

@[simp] theorem State.raiseAt_bytes (k : RaiseKind) (one : Bool) (fs : Nat) (d b : Word) (s : State) :
    (s.raiseAt k one fs d b).cfg.bytes = s.cfg.bytes := by
  obtain ⟨r, hr⟩ := State.raiseAt_cfg k one fs d b s
  rw [hr]
  rfl

@[simp] theorem CfgS.journal_bytes (f : CfgS → CfgS) (c : CfgS) : (c.journal f).bytes = (f c).bytes := rfl

/-! The updates of the parts of the state -/

@[simp] theorem State.setChan_bytes (s : State) (c : Ch) (f : ChanS → ChanS) : (s.setChan c f).cfg.bytes = s.cfg.bytes := rfl

@[simp] theorem State.setCan_bytes (s : State) (p : CPort) (f : CanS → CanS) : (s.setCan p f).cfg.bytes = s.cfg.bytes := rfl

@[simp] theorem State.setBeat_bytes (s : State) (f : BeatS → BeatS) : (s.setBeat f).cfg.bytes = s.cfg.bytes := rfl

@[simp] theorem State.at_bytes (ns : Nat) (s : State) : (State.at ns s).cfg.bytes = s.cfg.bytes := rfl

@[simp] theorem State.event_bytes (p : Plane) (code : Nat) (ps : List Word) (s : State) :
    (State.event p code ps s).cfg.bytes = s.cfg.bytes := rfl

@[simp] theorem State.tally_bytes (src n : Nat) (s : State) : (State.tally src n s).cfg.bytes = s.cfg.bytes := rfl

/-! Operands -/

@[simp] theorem State.ownNumbers_bytes (s : State) : s.ownNumbers.cfg.bytes = s.cfg.bytes := rfl

/-! Events, flags and raised faults -/

@[simp] theorem State.report_bytes (type tag : Nat) (w1 w2 w3 : Word) (s : State) :
    (State.report type tag w1 w2 w3 s).cfg.bytes = s.cfg.bytes := rfl

@[simp] theorem State.sevClear_bytes (fs : Nat) (s : State) : (State.sevClear fs s).cfg.bytes = s.cfg.bytes := rfl

@[simp] theorem State.raise_bytes (fs : Nat) (detail : Word) (s : State) : (State.raise fs detail s).cfg.bytes = s.cfg.bytes := by
  simp [State.raise]

@[simp] theorem State.raiseTransient_bytes (fs : Nat) (detail : Word) (s : State) :
    (State.raiseTransient fs detail s).cfg.bytes = s.cfg.bytes := by
  simp [State.raiseTransient]

@[simp] theorem State.raiseCondAs_bytes (kind : RaiseKind) (fs : Nat) (detail : Word) (s : State) :
    (State.raiseCondAs kind fs detail s).cfg.bytes = s.cfg.bytes := by
  simp [State.raiseCondAs]

@[simp] theorem State.raiseCond_bytes (fs : Nat) (detail : Word) (s : State) : (State.raiseCond fs detail s).cfg.bytes = s.cfg.bytes := by
  simp [State.raiseCond]

@[simp] theorem State.endCond_bytes (fs : Nat) (s : State) : (State.endCond fs s).cfg.bytes = s.cfg.bytes := rfl

@[simp] theorem State.follow_bytes (fs : Nat) (detail : Word) (now : Bool) (s : State) :
    (State.follow fs detail now s).cfg.bytes = s.cfg.bytes := by
  unfold State.follow
  dsimp only
  repeat' split
  all_goals simp

@[simp] theorem State.latchClear_bytes (s : State) : s.latchClear.cfg.bytes = s.cfg.bytes := rfl

@[simp] theorem State.closeHandling_bytes (cause : Nat) (s : State) : (State.closeHandling cause s).cfg.bytes = s.cfg.bytes := rfl

@[simp] theorem State.injResult_bytes (flagged : Bool) (s : State) : (State.injResult flagged s).cfg.bytes = s.cfg.bytes := by
  unfold State.injResult
  dsimp only
  repeat' split
  all_goals simp

@[simp] theorem State.injSeen_bytes (ok : Bool) (s : State) : (State.injSeen ok s).cfg.bytes = s.cfg.bytes := rfl

/-! The recorder -/

@[simp] theorem State.trimCalendar_bytes (d : Int) (s : State) : (State.trimCalendar d s).cfg.bytes = s.cfg.bytes := rfl

@[simp] theorem State.setCalendar_bytes (sec : Word) (frac : BitVec 16) (who : Nat) (s : State) :
    (State.setCalendar sec frac who s).cfg.bytes = s.cfg.bytes := rfl

@[simp] theorem State.recorderBoundary_bytes (ended next : Word) (s : State) :
    (State.recorderBoundary ended next s).cfg.bytes = s.cfg.bytes := rfl

@[simp] theorem State.overflowRaise_bytes (hadLoss : Bool) (s : State) : (State.overflowRaise hadLoss s).cfg.bytes = s.cfg.bytes := by
  unfold State.overflowRaise
  split <;> simp

@[simp] theorem State.writeSlot_bytes (s : State) : s.writeSlot.cfg.bytes = s.cfg.bytes := rfl

@[simp] theorem State.logCleared_bytes (s : State) : s.logCleared.cfg.bytes = s.cfg.bytes := rfl

end Sys2Proof.Machine
end

section

/-! PROOFS. The bytes of the banks: measurement and balancing. -/

namespace Sys2Proof.Machine

open Sys2Proof

/-! Measurement -/

@[simp] theorem State.segPush_bytes (words : Nat) (ch : Ch) (s : State) : (State.segPush words ch s).cfg.bytes = s.cfg.bytes := by
  unfold State.segPush
  dsimp only
  repeat' split
  all_goals simp

@[simp] theorem State.accumulateA_bytes (k : Int) (i1 i2 : Option Raw) (s : State) :
    (State.accumulateA k i1 i2 s).cfg.bytes = s.cfg.bytes := by
  simp [State.accumulateA]

@[simp] theorem State.accumulateB_bytes (k : Int) (i1 i2 : Option Raw) (s : State) :
    (State.accumulateB k i1 i2 s).cfg.bytes = s.cfg.bytes := by
  unfold State.accumulateB
  split <;> rfl

@[simp] theorem State.accumulate_bytes (k : Int) (i1 i2 : Option Raw) (s : State) :
    (State.accumulate k i1 i2 s).cfg.bytes = s.cfg.bytes := by
  simp [State.accumulate]

@[simp] theorem State.saturated_bytes (s : State) : s.saturated.cfg.bytes = s.cfg.bytes := by simp [State.saturated]

@[simp] theorem State.charge_bytes (k : Int) (i1 i2 : Option Raw) (s : State) : (State.charge k i1 i2 s).cfg.bytes = s.cfg.bytes := by
  simp [State.charge]

@[simp] theorem State.windowClose_bytes (w : Nat) (o : WindowIn) (s : State) : (State.windowClose w o s).cfg.bytes = s.cfg.bytes := rfl

@[simp] theorem State.closeWindow_bytes (w : Nat) (o : WindowIn) (s : State) : (State.closeWindow w o s).cfg.bytes = s.cfg.bytes := by
  unfold State.closeWindow
  split <;> simp

@[simp] theorem State.freeze_bytes (s : State) : s.freeze.cfg.bytes = s.cfg.bytes := by
  unfold State.freeze
  dsimp only
  split <;> exact State.dataA_bytes (fun _ => by rfl) s

@[simp] theorem State.latchHi_bytes (r : LatchReg) (s : State) : (State.latchHi r s).cfg.bytes = s.cfg.bytes := rfl

@[simp] theorem State.isoCollect_bytes (s : State) : s.isoCollect.cfg.bytes = s.cfg.bytes := rfl

@[simp] theorem State.isoResult_bytes (s : State) : s.isoResult.cfg.bytes = s.cfg.bytes := rfl

@[simp] theorem State.isoStart_bytes (peOpen : Bool) (s : State) : (State.isoStart peOpen s).cfg.bytes = s.cfg.bytes := rfl

@[simp] theorem State.isoPhase_bytes (s : State) : s.isoPhase.cfg.bytes = s.cfg.bytes := rfl

@[simp] theorem State.isoClose_bytes (s : State) : s.isoClose.cfg.bytes = s.cfg.bytes := rfl

@[simp] theorem State.thmConvert_bytes (vals : List (Option (BitVec 16))) (s : State) :
    (State.thmConvert vals s).cfg.bytes = s.cfg.bytes := rfl

@[simp] theorem State.idConvert_bytes (vals : List (Option (BitVec 16))) (s : State) :
    (State.idConvert vals s).cfg.bytes = s.cfg.bytes := by
  unfold State.idConvert
  split <;> rfl

@[simp] theorem State.refConvert_bytes (vals : List (Option (BitVec 16))) (s : State) :
    (State.refConvert vals s).cfg.bytes = s.cfg.bytes := by
  unfold State.refConvert
  dsimp only
  repeat' split
  all_goals simp

@[simp] theorem State.dieRead_bytes (die : List (Option Int)) (s : State) : (State.dieRead die s).cfg.bytes = s.cfg.bytes := by
  unfold State.dieRead
  split <;> rfl

/-! Memories -/

@[simp] theorem State.planeWrite_bytes (ch : Ch) (p : Party) (a : Nat) (s : State) :
    (State.planeWrite ch p a s).cfg.bytes = s.cfg.bytes := by
  unfold State.planeWrite
  split <;> simp

@[simp] theorem State.poison_bytes (m : Mem) (w : Nat) (s : State) : (State.poison m w s).cfg.bytes = s.cfg.bytes := State.raise_bytes ..

/-! Integrity of the measurement -/

@[simp] theorem State.setSeg_bytes (seg : Nat) (f : OwSeg → OwSeg) (s : State) : (State.setSeg seg f s).cfg.bytes = s.cfg.bytes := rfl

@[simp] theorem State.setPin_bytes (seg j : Nat) (f : PinS → PinS) (s : State) : (State.setPin seg j f s).cfg.bytes = s.cfg.bytes := rfl

@[simp] theorem State.startPass_bytes (s : State) : s.startPass.cfg.bytes = s.cfg.bytes := rfl

@[simp] theorem State.startSlot_bytes (seg : Nat) (s : State) : (State.startSlot seg s).cfg.bytes = s.cfg.bytes := rfl

@[simp] theorem State.wireEvent_bytes (what seg j : Nat) (s : State) : (State.wireEvent what seg j s).cfg.bytes = s.cfg.bytes := rfl

@[simp] theorem State.markOpen_bytes (seg j : Nat) (s : State) : (State.markOpen seg j s).cfg.bytes = s.cfg.bytes := by
  unfold State.markOpen
  dsimp only
  split <;> simp

@[simp] theorem State.markIntact_bytes (seg j : Nat) (targeted : Bool) (s : State) :
    (State.markIntact seg j targeted s).cfg.bytes = s.cfg.bytes := rfl

@[simp] theorem State.judged_bytes (seg : Nat) (t : OwSlot) (j : OwJudge) (s : State) :
    (State.judged seg t j s).cfg.bytes = s.cfg.bytes := by
  unfold State.judged
  repeat' split
  all_goals simp

@[simp] theorem State.owEvalSeg_bytes (seg : Nat) (s : State) : (State.owEvalSeg seg s).cfg.bytes = s.cfg.bytes := by
  unfold State.owEvalSeg
  dsimp only
  repeat' split
  all_goals simp

@[simp] theorem State.owEval_bytes (s : State) : s.owEval.cfg.bytes = s.cfg.bytes := by simp [State.owEval]

@[simp] theorem State.formCells_bytes (s : State) : s.formCells.cfg.bytes = s.cfg.bytes := by
  unfold State.formCells
  dsimp only
  split <;> exact State.dataA_bytes (fun _ => by rfl) s

@[simp] theorem State.senseAll_bytes (s : State) : s.senseAll.cfg.bytes = s.cfg.bytes := rfl

@[simp] theorem State.suspect_bytes (seg j : Nat) (s : State) : (State.suspect seg j s).cfg.bytes = s.cfg.bytes := rfl

@[simp] theorem State.checkCompare_bytes (s : State) : s.checkCompare.cfg.bytes = s.cfg.bytes := rfl

@[simp] theorem State.checkFollow_bytes (s : State) : s.checkFollow.cfg.bytes = s.cfg.bytes := by
  refine runAll_bytes (fun g t => ?_) _ s
  split <;> rfl

@[simp] theorem State.wantPin_bytes (seg j : Nat) (s : State) : (State.wantPin seg j s).cfg.bytes = s.cfg.bytes := rfl

@[simp] theorem State.checkDiff_bytes (n : Nat) (s : State) : (State.checkDiff n s).cfg.bytes = s.cfg.bytes := by
  simp [State.checkDiff]

@[simp] theorem State.sumCount_bytes (s : State) : s.sumCount.cfg.bytes = s.cfg.bytes := rfl

@[simp] theorem State.wantEnds_bytes (s : State) : s.wantEnds.cfg.bytes = s.cfg.bytes :=
  runAll_bytes (fun g => runAll_bytes (fun j t => State.wantPin_bytes g j t) _) _ s

@[simp] theorem State.sumChange_bytes (s : State) : s.sumChange.cfg.bytes = s.cfg.bytes := by
  unfold State.sumChange
  split <;> simp

@[simp] theorem State.sumHeard_bytes (u : UAddr) (mis : Bool) (s : State) : (State.sumHeard u mis s).cfg.bytes = s.cfg.bytes := by
  unfold State.sumHeard
  dsimp only
  split <;> simp

@[simp] theorem State.graceExpire_bytes (seg j : Nat) (s : State) : (State.graceExpire seg j s).cfg.bytes = s.cfg.bytes := rfl

@[simp] theorem State.wireClear_bytes (seg j : Nat) (s : State) : (State.wireClear seg j s).cfg.bytes = s.cfg.bytes := by
  unfold State.wireClear
  dsimp only
  split <;> rfl

@[simp] theorem State.owBoundary_bytes (s : State) : s.owBoundary.cfg.bytes = s.cfg.bytes := rfl

/-! Temperatures -/

@[simp] theorem State.thermalGroups_bytes (s : State) : s.thermalGroups.cfg.bytes = s.cfg.bytes := rfl

@[simp] theorem State.groupChange_bytes (g : Nat) (old : GrpS) (s : State) : (State.groupChange g old s).cfg.bytes = s.cfg.bytes := by
  unfold State.groupChange
  dsimp only
  repeat' split
  all_goals simp

@[simp] theorem State.thermalEnd_bytes (s : State) : s.thermalEnd.cfg.bytes = s.cfg.bytes := by
  unfold State.thermalEnd
  dsimp only
  repeat' split
  all_goals simp

@[simp] theorem State.excursion_bytes (s : State) : s.excursion.cfg.bytes = s.cfg.bytes := by
  unfold State.excursion
  repeat' split
  all_goals simp

@[simp] theorem State.thermal_bytes (s : State) : s.thermal.cfg.bytes = s.cfg.bytes := by simp [State.thermal]

@[simp] theorem State.outOfRating_bytes (s : State) : s.outOfRating.cfg.bytes = s.cfg.bytes := by
  unfold State.outOfRating
  split <;> simp

@[simp] theorem State.thermalBoundary_bytes (s : State) : s.thermalBoundary.cfg.bytes = s.cfg.bytes := rfl

/-! Balancing -/

@[simp] theorem State.setSw_bytes (n : Nat) (f : SwS → SwS) (s : State) : (State.setSw n f s).cfg.bytes = s.cfg.bytes := rfl

@[simp] theorem State.switchBoundary_bytes (s : State) : s.switchBoundary.cfg.bytes = s.cfg.bytes := rfl

@[simp] theorem State.swCommands_bytes (s : State) : s.swCommands.cfg.bytes = s.cfg.bytes := rfl

@[simp] theorem State.switchSubBeat_bytes (ib : List Int) (j : Nat) (s : State) : (State.switchSubBeat ib j s).cfg.bytes = s.cfg.bytes :=
  rfl

@[simp] theorem State.overcurrent_bytes (n : Nat) (s : State) : (State.overcurrent n s).cfg.bytes = s.cfg.bytes := by
  unfold State.overcurrent
  dsimp only
  repeat' split
  all_goals simp

@[simp] theorem State.switchFault_bytes (n : Nat) (detail : Word) (s : State) : (State.switchFault n detail s).cfg.bytes = s.cfg.bytes := by
  simp [State.switchFault]

@[simp] theorem State.noCurrent_bytes (n : Nat) (s : State) : (State.noCurrent n s).cfg.bytes = s.cfg.bytes := by
  simp [State.noCurrent]

@[simp] theorem State.conducts_bytes (n : Nat) (s : State) : (State.conducts n s).cfg.bytes = s.cfg.bytes := by
  simp [State.conducts]

@[simp] theorem State.gateEnd_bytes (w : Nat) (s : State) : (State.gateEnd w s).cfg.bytes = s.cfg.bytes := rfl

@[simp] theorem State.gateBoundary_bytes (s : State) : s.gateBoundary.cfg.bytes = s.cfg.bytes := rfl

@[simp] theorem State.balWantAll_bytes (s : State) : s.balWantAll.cfg.bytes = s.cfg.bytes := rfl

@[simp] theorem State.balTimeout_bytes (s : State) : s.balTimeout.cfg.bytes = s.cfg.bytes := rfl

@[simp] theorem State.rwFollow_bytes (s : State) : s.rwFollow.cfg.bytes = s.cfg.bytes := by simp [State.rwFollow]

@[simp] theorem State.calEnd_bytes (state cause : Nat) (s : State) : (State.calEnd state cause s).cfg.bytes = s.cfg.bytes := by
  unfold State.calEnd
  split <;> simp

@[simp] theorem State.calEval_bytes (s : State) : s.calEval.cfg.bytes = s.cfg.bytes := by
  unfold State.calEval
  repeat' split
  all_goals simp

@[simp] theorem State.calBoundary_bytes (s : State) : s.calBoundary.cfg.bytes = s.cfg.bytes := rfl

@[simp] theorem State.runStart_bytes (s : State) : s.runStart.cfg.bytes = s.cfg.bytes := by
  unfold State.runStart
  split <;> rfl

@[simp] theorem State.runStop_bytes (s : State) : s.runStop.cfg.bytes = s.cfg.bytes := rfl

@[simp] theorem State.runBoundary_bytes (s : State) : s.runBoundary.cfg.bytes = s.cfg.bytes := by
  unfold State.runBoundary
  dsimp only
  split <;> rfl

/-! Impedance -/

@[simp] theorem State.impBeat_bytes (s : State) : s.impBeat.cfg.bytes = s.cfg.bytes := rfl

@[simp] theorem State.blockEnd_bytes (k : Nat) (s : State) : (State.blockEnd k s).cfg.bytes = s.cfg.bytes := rfl

@[simp] theorem State.impBoundary_bytes (s : State) : s.impBoundary.cfg.bytes = s.cfg.bytes := rfl

@[simp] theorem State.reqWithdraw_bytes (s : State) : s.reqWithdraw.cfg.bytes = s.cfg.bytes := rfl

@[simp] theorem State.reqStart_bytes (s : State) : s.reqStart.cfg.bytes = s.cfg.bytes := rfl

/-! Charge accounting -/

@[simp] theorem State.addHold_bytes (k n : Nat) (s : State) : (State.addHold k n s).cfg.bytes = s.cfg.bytes := rfl

@[simp] theorem State.accCount_bytes (s : State) : s.accCount.cfg.bytes = s.cfg.bytes := by
  unfold State.accCount
  repeat' split
  all_goals simp

@[simp] theorem State.accCompensate_bytes (s : State) : s.accCompensate.cfg.bytes = s.cfg.bytes := by
  unfold State.accCompensate
  repeat' split
  all_goals simp

@[simp] theorem State.accCounters_bytes (s : State) : s.accCounters.cfg.bytes = s.cfg.bytes := by
  unfold State.accCounters
  split <;> rfl

@[simp] theorem State.setRecord_bytes (s : State) (f : IdRec → IdRec) : (s.setRecord f).cfg.bytes = s.cfg.bytes := rfl

@[simp] theorem State.learnCap_bytes (c : Int) (s : State) : (State.learnCap c s).cfg.bytes = s.cfg.bytes := by
  unfold State.learnCap
  dsimp only
  split <;> rfl

@[simp] theorem State.anchor_bytes (type : Nat) (qc ua : Int) (s : State) : (State.anchor type qc ua s).cfg.bytes = s.cfg.bytes := rfl

@[simp] theorem State.anchorFull_bytes (s : State) : s.anchorFull.cfg.bytes = s.cfg.bytes := by
  unfold State.anchorFull
  split <;> simp

@[simp] theorem State.anchorEmpty_bytes (s : State) : s.anchorEmpty.cfg.bytes = s.cfg.bytes := by
  unfold State.anchorEmpty
  split <;> simp

@[simp] theorem State.anchorVoltage_bytes (s : State) : s.anchorVoltage.cfg.bytes = s.cfg.bytes := rfl

@[simp] theorem State.accConflict_bytes (s : State) : s.accConflict.cfg.bytes = s.cfg.bytes := by
  unfold State.accConflict
  dsimp only
  split <;> simp

@[simp] theorem State.starve_bytes (s : State) : s.starve.cfg.bytes = s.cfg.bytes := by simp [State.starve]

@[simp] theorem State.putCkpt_bytes (k : Nat) (c : Word → Ckpt) (s : State) : (State.putCkpt k c s).cfg.bytes = s.cfg.bytes := rfl

@[simp] theorem State.checkpoint_bytes (s : State) : s.checkpoint.cfg.bytes = s.cfg.bytes := by
  unfold State.checkpoint
  split <;> rfl

@[simp] theorem State.accFinish_bytes (s : State) : s.accFinish.cfg.bytes = s.cfg.bytes := by
  unfold State.accFinish
  split <;> simp

@[simp] theorem State.cycStore_bytes (s : State) : s.cycStore.cfg.bytes = s.cfg.bytes := rfl

@[simp] theorem State.cadence_bytes (s : State) : s.cadence.cfg.bytes = s.cfg.bytes := by
  unfold State.cadence
  split <;> rfl

@[simp] theorem State.cadenceChange_bytes (s : State) : s.cadenceChange.cfg.bytes = s.cfg.bytes := by
  unfold State.cadenceChange
  split <;> rfl

@[simp] theorem State.swapCount_bytes (s : State) : s.swapCount.cfg.bytes = s.cfg.bytes := by
  unfold State.swapCount
  split <;> rfl

@[simp] theorem State.swap_bytes (s : State) : s.swap.cfg.bytes = s.cfg.bytes := by
  unfold State.swap
  split <;> simp

@[simp] theorem State.selectRecord_bytes (s : State) : s.selectRecord.cfg.bytes = s.cfg.bytes := by simp [State.selectRecord]

@[simp] theorem State.accRestart_bytes (s : State) : s.accRestart.cfg.bytes = s.cfg.bytes := by
  unfold State.accRestart
  dsimp only
  split <;> rfl

@[simp] theorem State.accTakeover_bytes (s : State) : s.accTakeover.cfg.bytes = s.cfg.bytes := by
  unfold State.accTakeover
  split <;> rfl

end Sys2Proof.Machine
end

section

/-! PROOFS. The bytes of the banks: protection and the channels. -/

namespace Sys2Proof.Machine

open Sys2Proof

/-! Protection levels -/

@[simp] theorem State.levels_bytes (ch : Ch) (s : State) : (State.levels ch s).cfg.bytes = s.cfg.bytes := by
  unfold State.levels
  split <;> rfl

@[simp] theorem State.protectionLevels_bytes (s : State) : s.protectionLevels.cfg.bytes = s.cfg.bytes := by
  simp [State.protectionLevels]

@[simp] theorem State.i2tStep_bytes (ch : Ch) (s : State) : (State.i2tStep ch s).cfg.bytes = s.cfg.bytes := by
  unfold State.i2tStep
  repeat' split
  all_goals simp

@[simp] theorem State.conditions_bytes (ch : Ch) (s : State) : (State.conditions ch s).cfg.bytes = s.cfg.bytes := by
  unfold State.conditions
  split <;> rfl

@[simp] theorem State.latchCond_bytes (s : State) : s.latchCond.cfg.bytes = s.cfg.bytes := rfl

@[simp] theorem State.conditionStage_bytes (s : State) : s.conditionStage.cfg.bytes = s.cfg.bytes := by
  simp [State.conditionStage]

@[simp] theorem State.wordMissing_bytes (pos : BitVec 8) (ch : Ch) (s : State) : (State.wordMissing pos ch s).cfg.bytes = s.cfg.bytes :=
  rfl

@[simp] theorem State.wordsMissing_bytes (s : State) : s.wordsMissing.cfg.bytes = s.cfg.bytes := rfl

/-! Escapement -/

@[simp] theorem State.escapement_bytes (ch : Ch) (s : State) : (State.escapement ch s).cfg.bytes = s.cfg.bytes := by
  unfold State.escapement
  split <;> rfl

@[simp] theorem State.keepPersistents_bytes (s : State) : s.keepPersistents.cfg.bytes = s.cfg.bytes := rfl

@[simp] theorem State.escapementEnd_bytes (s : State) : s.escapementEnd.cfg.bytes = s.cfg.bytes := rfl

@[simp] theorem State.fastBlocks_bytes (ch : Ch) (j : Nat) (s : State) : (State.fastBlocks ch j s).cfg.bytes = s.cfg.bytes := by
  unfold State.fastBlocks
  split <;> rfl

@[simp] theorem State.escapementReset_bytes (s : State) : s.escapementReset.cfg.bytes = s.cfg.bytes := rfl

/-! The sequencers of the contactors -/

@[simp] theorem State.setSeq_bytes (s : State) (ch : Ch) (f : Seq → Seq) : (s.setSeq ch f).cfg.bytes = s.cfg.bytes := rfl

@[simp] theorem State.seqResult_bytes (ch : Ch) (r : Nat) (left entered : Ctl) (s : State) :
    (State.seqResult ch r left entered s).cfg.bytes = s.cfg.bytes := by
  unfold State.seqResult
  split <;> rfl

@[simp] theorem State.driveSet_bytes (f : Nat → Bool) (s : State) : (State.driveSet f s).cfg.bytes = s.cfg.bytes := rfl

@[simp] theorem State.pulseMeets_bytes (s : State) : s.pulseMeets.cfg.bytes = s.cfg.bytes := by
  unfold State.pulseMeets
  dsimp only
  repeat' split
  all_goals simp

@[simp] theorem State.drive_bytes (s0 : State) : s0.drive.cfg.bytes = s0.cfg.bytes := by
  unfold State.drive
  split <;> simp

@[simp] theorem State.enterOpening_bytes (ch : Ch) (toSafe wait all : Bool) (s : State) :
    (State.enterOpening ch toSafe wait all s).cfg.bytes = s.cfg.bytes := rfl

@[simp] theorem State.attempt_bytes (ch : Ch) (s : State) : (State.attempt ch s).cfg.bytes = s.cfg.bytes := by
  unfold State.attempt
  split <;> rfl

@[simp] theorem State.attemptEnd_bytes (ch : Ch) (s : State) : (State.attemptEnd ch s).cfg.bytes = s.cfg.bytes := by
  unfold State.attemptEnd
  dsimp only
  split <;> simp

@[simp] theorem State.openNow_bytes (ch : Ch) (toSafe : Bool) (s : State) : (State.openNow ch toSafe s).cfg.bytes = s.cfg.bytes := by
  unfold State.openNow
  dsimp only
  split <;> simp

@[simp] theorem State.safeReqStep_bytes (ch : Ch) (s : State) : (State.safeReqStep ch s).cfg.bytes = s.cfg.bytes := by
  unfold State.safeReqStep
  split <;> simp

@[simp] theorem State.escSource_bytes (ch : Ch) (s : State) : (State.escSource ch s).cfg.bytes = s.cfg.bytes := by
  unfold State.escSource
  dsimp only
  split <;> rfl

@[simp] theorem State.lossStep_bytes (ch : Ch) (s : State) : (State.lossStep ch s).cfg.bytes = s.cfg.bytes := by
  unfold State.lossStep
  dsimp only
  repeat' split
  all_goals simp

@[simp] theorem State.mutualLoss_bytes (s : State) : s.mutualLoss.cfg.bytes = s.cfg.bytes := by simp [State.mutualLoss]

@[simp] theorem State.openOp_bytes (s : State) : s.openOp.cfg.bytes = s.cfg.bytes := by
  unfold State.openOp
  repeat' split
  all_goals simp

@[simp] theorem State.closeOp_bytes (s : State) : s.closeOp.cfg.bytes = s.cfg.bytes := by
  unfold State.closeOp
  repeat' split
  all_goals simp

@[simp] theorem State.ackOp_bytes (s : State) : s.ackOp.cfg.bytes = s.cfg.bytes := by
  unfold State.ackOp
  repeat' split
  all_goals simp

@[simp] theorem State.timedOutStep_bytes (ch : Ch) (s : State) : (State.timedOutStep ch s).cfg.bytes = s.cfg.bytes := by
  unfold State.timedOutStep
  split <;> rfl

@[simp] theorem State.failStep_bytes (ch : Ch) (s : State) : (State.failStep ch s).cfg.bytes = s.cfg.bytes := by
  unfold State.failStep
  dsimp only
  split <;> simp

@[simp] theorem State.freeStep_bytes (ch : Ch) (s : State) : (State.freeStep ch s).cfg.bytes = s.cfg.bytes := rfl

@[simp] theorem State.unreqStep_bytes (ch : Ch) (s : State) : (State.unreqStep ch s).cfg.bytes = s.cfg.bytes := by
  unfold State.unreqStep
  dsimp only
  split <;> simp

@[simp] theorem State.weldedStep_bytes (ch : Ch) (s : State) : (State.weldedStep ch s).cfg.bytes = s.cfg.bytes := by
  unfold State.weldedStep
  dsimp only
  repeat' split
  all_goals simp

@[simp] theorem State.negStep_bytes (ch : Ch) (s : State) : (State.negStep ch s).cfg.bytes = s.cfg.bytes := rfl

@[simp] theorem State.safeTripStep_bytes (ch : Ch) (s : State) : (State.safeTripStep ch s).cfg.bytes = s.cfg.bytes := by
  unfold State.safeTripStep
  repeat' split
  all_goals simp

@[simp] theorem State.roleFour_bytes (ch : Ch) (s : State) : (State.roleFour ch s).cfg.bytes = s.cfg.bytes := rfl

@[simp] theorem State.seqBoundary_bytes (ch : Ch) (s : State) : (State.seqBoundary ch s).cfg.bytes = s.cfg.bytes := by
  unfold State.seqBoundary
  split <;> simp

@[simp] theorem State.preClose_bytes (ch : Ch) (s : State) : (State.preClose ch s).cfg.bytes = s.cfg.bytes := rfl

@[simp] theorem State.commit_bytes (ch : Ch) (s : State) : (State.commit ch s).cfg.bytes = s.cfg.bytes := by
  unfold State.commit
  split <;> simp

@[simp] theorem State.preOpen_bytes (ch : Ch) (s : State) : (State.preOpen ch s).cfg.bytes = s.cfg.bytes := rfl

@[simp] theorem State.coolEnd_bytes (ch : Ch) (s : State) : (State.coolEnd ch s).cfg.bytes = s.cfg.bytes := rfl

@[simp] theorem State.curfree_bytes (ch : Ch) (s : State) : (State.curfree ch s).cfg.bytes = s.cfg.bytes := rfl

@[simp] theorem State.negOpen_bytes (ch : Ch) (s : State) : (State.negOpen ch s).cfg.bytes = s.cfg.bytes := rfl

@[simp] theorem State.rdWarn_bytes (ch : Ch) (s : State) : (State.rdWarn ch s).cfg.bytes = s.cfg.bytes := rfl

@[simp] theorem State.rdExpire_bytes (ch : Ch) (s : State) : (State.rdExpire ch s).cfg.bytes = s.cfg.bytes := by
  simp [State.rdExpire]

@[simp] theorem State.clearOneOffs_bytes (ch : Ch) (s : State) : (State.clearOneOffs ch s).cfg.bytes = s.cfg.bytes := by
  unfold State.clearOneOffs
  split <;> rfl

@[simp] theorem State.preCheck_bytes (ch : Ch) (s : State) : (State.preCheck ch s).cfg.bytes = s.cfg.bytes := by
  unfold State.preCheck
  split <;> simp

@[simp] theorem State.posCheck_bytes (ch : Ch) (s : State) : (State.posCheck ch s).cfg.bytes = s.cfg.bytes := rfl

@[simp] theorem State.ftcChecks_bytes (s : State) : s.ftcChecks.cfg.bytes = s.cfg.bytes := by
  unfold State.ftcChecks
  dsimp only
  repeat' split
  all_goals simp

@[simp] theorem State.criterion_bytes (ch : Ch) (s : State) : (State.criterion ch s).cfg.bytes = s.cfg.bytes := by
  unfold State.criterion
  dsimp only
  repeat' split
  all_goals simp

@[simp] theorem State.pcTimeout_bytes (ch : Ch) (s : State) : (State.pcTimeout ch s).cfg.bytes = s.cfg.bytes := by
  simp [State.pcTimeout]

@[simp] theorem State.pcTimeouts_bytes (s : State) : s.pcTimeouts.cfg.bytes = s.cfg.bytes := by
  unfold State.pcTimeouts
  dsimp only
  repeat' split
  all_goals simp

@[simp] theorem State.currentFree_bytes (ch : Ch) (s : State) : (State.currentFree ch s).cfg.bytes = s.cfg.bytes := by
  unfold State.currentFree
  dsimp only
  split <;> rfl

@[simp] theorem State.weldPass_bytes (ch : Ch) (s : State) : (State.weldPass ch s).cfg.bytes = s.cfg.bytes := by
  unfold State.weldPass
  dsimp only
  repeat' split
  all_goals simp

@[simp] theorem State.weldTimeout_bytes (ch : Ch) (s : State) : (State.weldTimeout ch s).cfg.bytes = s.cfg.bytes := rfl

@[simp] theorem State.weldTimeouts_bytes (s : State) : s.weldTimeouts.cfg.bytes = s.cfg.bytes := by
  unfold State.weldTimeouts
  dsimp only
  repeat' split
  all_goals simp

@[simp] theorem State.mirrorCheck_bytes (ch : Ch) (s : State) : (State.mirrorCheck ch s).cfg.bytes = s.cfg.bytes := by
  unfold State.mirrorCheck
  dsimp only
  repeat' split
  all_goals simp

@[simp] theorem State.unrequested_bytes (s : State) : s.unrequested.cfg.bytes = s.cfg.bytes := by
  unfold State.unrequested
  dsimp only
  repeat' split
  all_goals simp

@[simp] theorem State.outBoundary_bytes (s : State) : s.outBoundary.cfg.bytes = s.cfg.bytes := rfl

@[simp] theorem State.lapse_bytes (n : Nat) (side : Side) (s : State) : (State.lapse n side s).cfg.bytes = s.cfg.bytes := rfl

@[simp] theorem State.coilFails_bytes (ch : Ch) (n : Nat) (s : State) : (State.coilFails ch n s).cfg.bytes = s.cfg.bytes := by
  simp [State.coilFails]

@[simp] theorem State.pullinEnd_bytes (n : Nat) (s : State) : (State.pullinEnd n s).cfg.bytes = s.cfg.bytes := by
  unfold State.pullinEnd
  dsimp only
  repeat' split
  all_goals simp

@[simp] theorem State.fastOpen_bytes (ch : Ch) (is : List Nat) (s : State) : (State.fastOpen ch is s).cfg.bytes = s.cfg.bytes := rfl

@[simp] theorem State.fastTrip_bytes (ch : Ch) (s : State) : (State.fastTrip ch s).cfg.bytes = s.cfg.bytes := by
  simp [State.fastTrip]

@[simp] theorem State.instantTrip_bytes (ch : Ch) (i1 i2 : Option Raw) (s : State) :
    (State.instantTrip ch i1 i2 s).cfg.bytes = s.cfg.bytes := by
  unfold State.instantTrip
  dsimp only
  repeat' split
  all_goals simp

@[simp] theorem State.fastOutputs_bytes (ch : Ch) (was : EscOut) (s : State) : (State.fastOutputs ch was s).cfg.bytes = s.cfg.bytes := by
  unfold State.fastOutputs
  dsimp only
  repeat' split
  all_goals simp

/-! The channels -/

@[simp] theorem State.coilLow_bytes (s : State) : s.coilLow.cfg.bytes = s.cfg.bytes := by simp [State.coilLow]

@[simp] theorem State.vkBoundary_bytes (vk : Nat) (s : State) : (State.vkBoundary vk s).cfg.bytes = s.cfg.bytes := rfl

@[simp] theorem State.takeInputs_bytes (j : Nat) (inA inB : BitVec 8) (s : State) :
    (State.takeInputs j inA inB s).cfg.bytes = s.cfg.bytes := rfl

@[simp] theorem State.inputChange_bytes (i : Nat) (ch : Ch) (s : State) : (State.inputChange i ch s).cfg.bytes = s.cfg.bytes := rfl

@[simp] theorem State.inputChanges_bytes (s : State) : s.inputChanges.cfg.bytes = s.cfg.bytes := by
  refine runAll_bytes (fun i t => ?_) _ s
  dsimp only
  split <;> split <;> rfl

@[simp] theorem State.debounceAll_bytes (s : State) : s.debounceAll.cfg.bytes = s.cfg.bytes := rfl

@[simp] theorem State.discCounts_bytes (s : State) : s.discCounts.cfg.bytes = s.cfg.bytes := rfl

@[simp] theorem State.discClear_bytes (s : State) : s.discClear.cfg.bytes = s.cfg.bytes := by
  unfold State.discClear
  dsimp only
  split <;> rfl

@[simp] theorem State.discrepancy_bytes (i : Nat) (s : State) : (State.discrepancy i s).cfg.bytes = s.cfg.bytes := by
  simp [State.discrepancy]

@[simp] theorem State.discrepancies_bytes (s : State) : s.discrepancies.cfg.bytes = s.cfg.bytes := by
  refine runAll_bytes (fun i t => ?_) _ s
  split <;> simp

@[simp] theorem State.testContact_bytes (g c : Ch) (read : Nat → Bool) (i : Nat) (s : State) :
    (State.testContact g c read i s).cfg.bytes = s.cfg.bytes := by
  unfold State.testContact
  dsimp only
  repeat' split
  all_goals simp

@[simp] theorem State.inputTest_bytes (g : Ch) (levels : BitVec 8) (s : State) : (State.inputTest g levels s).cfg.bytes = s.cfg.bytes := by
  simp [State.inputTest]

@[simp] theorem State.gapSettle_bytes (s : State) : s.gapSettle.cfg.bytes = s.cfg.bytes := by
  unfold State.gapSettle
  repeat' split
  all_goals simp

@[simp] theorem State.startPulse_bytes (s : State) : s.startPulse.cfg.bytes = s.cfg.bytes := rfl

@[simp] theorem State.judgePulse_bytes (p : Pulse) (ok : Bool) (s : State) : (State.judgePulse p ok s).cfg.bytes = s.cfg.bytes := by
  unfold State.judgePulse
  repeat' split
  all_goals simp

@[simp] theorem State.endPulse_bytes (during : List (Level × Level)) (coil : Nat) (restored : Bool) (s : State) :
    (State.endPulse during coil restored s).cfg.bytes = s.cfg.bytes := by
  unfold State.endPulse
  repeat' split
  all_goals simp

@[simp] theorem State.compare_bytes (a b : XRec) (byA byB : Bool) (s : State) : (State.compare a b byA byB s).cfg.bytes = s.cfg.bytes := by
  unfold State.compare
  extract_lets diff blks inv skip cntA cntB beyA beyB reached any counts shows blk x y z t u kind
  have hu : u.cfg.bytes = s.cfg.bytes := by
    simp only [u]
    split <;> rfl
  split
  · exact (State.raiseCondAs_bytes ..).trans hu
  · split
    · exact (State.raiseAt_bytes ..).trans hu
    · split <;> exact hu

@[simp] theorem State.countMissing_bytes (s : State) (c : Ch) (other : Option XRec) : (s.countMissing c other).cfg.bytes = s.cfg.bytes := by
  unfold State.countMissing
  split <;> rfl

@[simp] theorem State.crossCompare_bytes (recA recB : Bool) (s : State) : (State.crossCompare recA recB s).cfg.bytes = s.cfg.bytes := by
  unfold State.crossCompare
  extract_lets t byA byB
  have ht : t.cfg.bytes = s.cfg.bytes := by simp [t]
  split
  · split
    · exact (State.compare_bytes ..).trans ht
    · exact ht
  · exact ht

@[simp] theorem State.freezeFlt_bytes (s : State) : s.freezeFlt.cfg.bytes = s.cfg.bytes := rfl

@[simp] theorem State.declareLoss_bytes (c : Ch) (s : State) : (State.declareLoss c s).cfg.bytes = s.cfg.bytes := by
  unfold State.declareLoss
  dsimp only
  repeat' split
  all_goals simp

@[simp] theorem State.setHostLost_bytes (s : State) : s.setHostLost.cfg.bytes = s.cfg.bytes := rfl

@[simp] theorem State.hostBoundary_bytes (s : State) : s.hostBoundary.cfg.bytes = s.cfg.bytes := rfl

/-! Cores, debugger, sweeps and replay -/

@[simp] theorem State.setPair_bytes (s : State) (ch : Ch) (f : PairS → PairS) : (s.setPair ch f).cfg.bytes = s.cfg.bytes := rfl

@[simp] theorem State.coreCause_bytes (k : Nat) (s : State) : (State.coreCause k s).cfg.bytes = s.cfg.bytes := rfl

@[simp] theorem State.mismatch_bytes (ch : Ch) (cls : Nat) (s : State) : (State.mismatch ch cls s).cfg.bytes = s.cfg.bytes := by
  unfold State.mismatch
  split <;> simp

@[simp] theorem State.testFailed_bytes (ch : Ch) (cls inj : Nat) (s : State) : (State.testFailed ch cls inj s).cfg.bytes = s.cfg.bytes := by
  simp [State.testFailed]

@[simp] theorem State.joinTaken_bytes (ch : Ch) (s : State) : (State.joinTaken ch s).cfg.bytes = s.cfg.bytes := rfl

@[simp] theorem State.splitOp_bytes (ch : Ch) (s : State) : (State.splitOp ch s).cfg.bytes = s.cfg.bytes := by
  unfold State.splitOp
  split <;> rfl

@[simp] theorem State.rplStop_bytes (cause : Nat) (s : State) : (State.rplStop cause s).cfg.bytes = s.cfg.bytes := by
  unfold State.rplStop
  split <;> rfl

@[simp] theorem State.sweepStop_bytes (st cause : Nat) (s : State) : (State.sweepStop st cause s).cfg.bytes = s.cfg.bytes := by
  unfold State.sweepStop
  split <;> rfl

@[simp] theorem State.joinOp_bytes (ch : Ch) (s : State) : (State.joinOp ch s).cfg.bytes = s.cfg.bytes := by
  unfold State.joinOp
  repeat' split
  all_goals simp

@[simp] theorem State.joinCopy_bytes (ch : Ch) (missed : Option (Fin 8)) (s : State) :
    (State.joinCopy ch missed s).cfg.bytes = s.cfg.bytes := by
  unfold State.joinCopy
  repeat' split
  all_goals simp

@[simp] theorem State.coreBoundary_bytes (s : State) : s.coreBoundary.cfg.bytes = s.cfg.bytes := rfl

@[simp] theorem State.resumeCore_bytes (s : State) : s.resumeCore.cfg.bytes = s.cfg.bytes := by
  unfold State.resumeCore
  repeat' split
  all_goals simp

@[simp] theorem State.debugEnd_bytes (s : State) : s.debugEnd.cfg.bytes = s.cfg.bytes := by simp [State.debugEnd]

@[simp] theorem State.haltSpans_bytes (s : State) : s.haltSpans.cfg.bytes = s.cfg.bytes := by
  unfold State.haltSpans
  repeat' split
  all_goals simp

@[simp] theorem State.dbgWrite_bytes (t : DbgTarget) (addr value : Word) (drained : Nat) (slot : Party) (s : State) :
    (State.dbgWrite t addr value drained slot s).cfg.bytes = s.cfg.bytes := by
  unfold State.dbgWrite
  dsimp only
  repeat' split
  all_goals simp

@[simp] theorem State.sweepStart_bytes (nf : BitVec 4) (s : State) : (State.sweepStart nf s).cfg.bytes = s.cfg.bytes := by
  unfold State.sweepStart
  split <;> rfl

@[simp] theorem State.sweepBeat_bytes (s : State) : s.sweepBeat.cfg.bytes = s.cfg.bytes := by
  unfold State.sweepBeat
  split <;> rfl

@[simp] theorem State.sweepBlock_bytes (s : State) : s.sweepBlock.cfg.bytes = s.cfg.bytes := by
  unfold State.sweepBlock
  dsimp only
  split <;> rfl

@[simp] theorem State.sweepEnd_bytes (s : State) : s.sweepEnd.cfg.bytes = s.cfg.bytes := by
  unfold State.sweepEnd
  split <;> simp

@[simp] theorem State.rplStart_bytes (bank raw : Bool) (s : State) : (State.rplStart bank raw s).cfg.bytes = s.cfg.bytes := by
  unfold State.rplStart
  dsimp only
  split <;> rfl

@[simp] theorem State.rplRecord_bytes (l : List Byte) (s : State) : (State.rplRecord l s).cfg.bytes = s.cfg.bytes := by
  unfold State.rplRecord
  dsimp only
  repeat' split
  all_goals simp

@[simp] theorem State.rplIn_bytes (data : Word) (s : State) : (State.rplIn data s).cfg.bytes = s.cfg.bytes := by
  unfold State.rplIn
  dsimp only
  repeat' split
  all_goals simp

@[simp] theorem State.rplBeat_bytes (s : State) : s.rplBeat.cfg.bytes = s.cfg.bytes := by
  unfold State.rplBeat
  dsimp only
  split <;> rfl

@[simp] theorem State.rplOutTake_bytes (s : State) : s.rplOutTake.cfg.bytes = s.cfg.bytes := rfl

/-! Faults -/

@[simp] theorem State.expiries_bytes (s : State) : s.expiries.cfg.bytes = s.cfg.bytes := runAll_bytes (fun _ _ => by rfl) _ s

@[simp] theorem State.calSegment_bytes (seg : Nat) (o : CalIn) (s : State) : (State.calSegment seg o s).cfg.bytes = s.cfg.bytes := by
  unfold State.calSegment
  dsimp only
  repeat' split
  all_goals simp

@[simp] theorem State.blkResume_bytes (b : Blk) (cal : CalIn) (s : State) : (State.blkResume b cal s).cfg.bytes = s.cfg.bytes := by
  unfold State.blkResume
  split <;> simp

@[simp] theorem State.blkEnd_bytes (cal : CalIn) (b : Blk) (s : State) : (State.blkEnd cal b s).cfg.bytes = s.cfg.bytes := by
  simp [State.blkEnd]

@[simp] theorem State.blkSettle_bytes (s : State) : s.blkSettle.cfg.bytes = s.cfg.bytes := by simp [State.blkSettle]

@[simp] theorem State.blkBoundary_bytes (s : State) : s.blkBoundary.cfg.bytes = s.cfg.bytes := rfl

@[simp] theorem State.releaseLoop_bytes (s : State) : s.releaseLoop.cfg.bytes = s.cfg.bytes := rfl

@[simp] theorem State.inject_bytes (key : BitVec 8) (full : Bool) (target : Nat) (s : State) :
    (State.inject key full target s).cfg.bytes = s.cfg.bytes := rfl

@[simp] theorem State.injExpire_bytes (i : InjRun) (s : State) : (State.injExpire i s).cfg.bytes = s.cfg.bytes := by
  unfold State.injExpire
  split <;> simp

@[simp] theorem State.injAge_bytes (s : State) : s.injAge.cfg.bytes = s.cfg.bytes := by
  unfold State.injAge
  repeat' split
  all_goals simp

@[simp] theorem State.injBoundary_bytes (s : State) : s.injBoundary.cfg.bytes = s.cfg.bytes := by
  unfold State.injBoundary
  repeat' split
  all_goals simp

@[simp] theorem State.srcBoundary_bytes (s : State) : s.srcBoundary.cfg.bytes = s.cfg.bytes := rfl

end Sys2Proof.Machine
end

section

/-! PROOFS. The bytes of the banks: time, ring and CAN. -/

namespace Sys2Proof.Machine

open Sys2Proof

/-! Limits -/

@[simp] theorem State.limHold_bytes (s : State) : s.limHold.cfg.bytes = s.cfg.bytes := rfl

@[simp] theorem State.health_bytes (s : State) : s.health.cfg.bytes = s.cfg.bytes := by
  unfold State.health
  dsimp only
  repeat' split
  all_goals simp

@[simp] theorem State.publish_bytes (s : State) : s.publish.cfg.bytes = s.cfg.bytes := by
  unfold State.publish
  repeat' split
  all_goals simp

@[simp] theorem State.healthClear_bytes (s : State) : s.healthClear.cfg.bytes = s.cfg.bytes := rfl

@[simp] theorem State.limBoundary_bytes (s : State) : s.limBoundary.cfg.bytes = s.cfg.bytes := rfl

/-! Synchronisation -/

@[simp] theorem State.risingEdge_bytes (ofs interval : Nat) (dev : Int) (s : State) :
    (State.risingEdge ofs interval dev s).cfg.bytes = s.cfg.bytes := rfl

@[simp] theorem State.relength_bytes (s : State) : s.relength.cfg.bytes = s.cfg.bytes := by
  unfold State.relength
  split <;> rfl

@[simp] theorem State.acquire_bytes (s : State) : s.acquire.cfg.bytes = s.cfg.bytes := by simp [State.acquire]

@[simp] theorem State.lockOn_bytes (s : State) : s.lockOn.cfg.bytes = s.cfg.bytes := by simp [State.lockOn]

@[simp] theorem State.holdover_bytes (s : State) : s.holdover.cfg.bytes = s.cfg.bytes := by simp [State.holdover]

@[simp] theorem State.sourceLost_bytes (s : State) : s.sourceLost.cfg.bytes = s.cfg.bytes := by simp [State.sourceLost]

@[simp] theorem State.stage_bytes (path : Path) (addr : Nat) (data : Word) (s : State) :
    (State.stage path addr data s).cfg.bytes = s.cfg.bytes := rfl

@[simp] theorem State.srcSelWrite_bytes (path : Path) (v : BitVec 2) (s : State) :
    (State.srcSelWrite path v s).cfg.bytes = s.cfg.bytes := by
  unfold State.srcSelWrite
  split <;> rfl

@[simp] theorem State.srcSelActive_bytes (v : BitVec 2) (s : State) : (State.srcSelActive v s).cfg.bytes = s.cfg.bytes := rfl

@[simp] theorem State.resync_bytes (s : State) : s.resync.cfg.bytes = s.cfg.bytes := by
  unfold State.resync
  split <;> rfl

@[simp] theorem State.lockEnd_bytes (s : State) : s.lockEnd.cfg.bytes = s.cfg.bytes := rfl

@[simp] theorem State.lockBoundary_bytes (period : Nat) (err : Int) (s : State) :
    (State.lockBoundary period err s).cfg.bytes = s.cfg.bytes := rfl

@[simp] theorem State.windowsBoundary_bytes (s : State) : s.windowsBoundary.cfg.bytes = s.cfg.bytes := rfl

@[simp] theorem State.fallBack_bytes (before : Nat) (s : State) : (State.fallBack before s).cfg.bytes = s.cfg.bytes := rfl

@[simp] theorem State.fallingEdge_bytes (ofs : Nat) (s : State) : (State.fallingEdge ofs s).cfg.bytes = s.cfg.bytes := by
  unfold State.fallingEdge
  dsimp only
  repeat' split
  all_goals simp

@[simp] theorem State.overrunOp_bytes (ch : Ch) (s : State) : (State.overrunOp ch s).cfg.bytes = s.cfg.bytes := by
  unfold State.overrunOp
  split <;> simp

/-! Frames -/

@[simp] theorem State.setRing_bytes (s : State) (f : RingS → RingS) : (s.setRing f).cfg.bytes = s.cfg.bytes := rfl

@[simp] theorem State.sendRaw_bytes (p : RPort) (l : List Byte) (bad : Bool) (s : State) :
    (State.sendRaw p l bad s).cfg.bytes = s.cfg.bytes := by
  unfold State.sendRaw
  split <;> rfl

@[simp] theorem State.aqPush_bytes (p : RPort) (l : List Byte) (s : State) : (s.aqPush p l).1.cfg.bytes = s.cfg.bytes := by
  unfold State.aqPush
  split <;> simp

@[simp] theorem State.sendFrame_bytes (ps : List RPort) (h : RHdr) (body : List Byte) (s : State) :
    (State.sendFrame ps h body s).cfg.bytes = s.cfg.bytes := by
  refine foldl_bytes (fun t p => ?_) _ s
  dsimp only
  split
  · rfl
  · split <;> simp

/-! The string ring -/

@[simp] theorem State.setPort_bytes (p : RPort) (f : PortS → PortS) (s : State) : (State.setPort p f s).cfg.bytes = s.cfg.bytes := rfl

@[simp] theorem State.portComesUp_bytes (p : RPort) (s : State) : (State.portComesUp p s).cfg.bytes = s.cfg.bytes := rfl

@[simp] theorem State.dlAsk_bytes (ps : List RPort) (s : State) : (State.dlAsk ps s).cfg.bytes = s.cfg.bytes := by
  simp [State.dlAsk]

@[simp] theorem State.dlTake_bytes (p : RPort) (l : List Byte) (s : State) : (State.dlTake p l s).cfg.bytes = s.cfg.bytes := by
  unfold State.dlTake
  split <;> simp

@[simp] theorem State.dlBoundary_bytes (s : State) : s.dlBoundary.cfg.bytes = s.cfg.bytes := by
  unfold State.dlBoundary
  split <;> simp

@[simp] theorem State.setUnit_bytes (u : UAddr) (f : UnitS → UnitS) (s : State) : (State.setUnit u f s).cfg.bytes = s.cfg.bytes := rfl

@[simp] theorem State.heardFrom_bytes (h : RHdr) (s : State) : (State.heardFrom h s).cfg.bytes = s.cfg.bytes := rfl

@[simp] theorem State.remoteAnswer_bytes (tag : BitVec 8) (status : Nat) (addr : BitVec 14) (data : Word) (s : State) :
    (State.remoteAnswer tag status addr data s).cfg.bytes = s.cfg.bytes := by
  unfold State.remoteAnswer
  repeat' split
  all_goals simp

@[simp] theorem State.staleHeard_bytes (u : UAddr) (data : Word) (s : State) : (State.staleHeard u data s).cfg.bytes = s.cfg.bytes := rfl

@[simp] theorem State.kfAnswer_bytes (x : KfRelay) (reply : RingReply) (s : State) :
    (State.kfAnswer x reply s).cfg.bytes = s.cfg.bytes := by
  unfold State.kfAnswer
  split <;> rfl

@[simp] theorem State.replyField_bytes (u : UAddr) (l : List Byte) (s : State) : (State.replyField u l s).cfg.bytes = s.cfg.bytes := by
  unfold State.replyField
  dsimp only
  repeat' split
  all_goals simp

@[simp] theorem State.reportSum_bytes (u : UAddr) (s : State) : (State.reportSum u s).cfg.bytes = s.cfg.bytes := by
  unfold State.reportSum
  split <;> simp

@[simp] theorem State.reportTrip_bytes (old : UnitS) (s : State) : (State.reportTrip old s).cfg.bytes = s.cfg.bytes := by
  unfold State.reportTrip
  repeat' split
  all_goals simp

@[simp] theorem State.qbPush_bytes (s : State) : s.qbPush.cfg.bytes = s.cfg.bytes := by
  unfold State.qbPush
  repeat' split
  all_goals simp

@[simp] theorem State.takeReport_bytes (p : RPort) (l : List Byte) (s : State) : (State.takeReport p l s).cfg.bytes = s.cfg.bytes := by
  unfold State.takeReport
  dsimp only
  repeat' split
  all_goals simp

@[simp] theorem State.rxPush_bytes (p : RPort) (l : List Byte) (s : State) : (State.rxPush p l s).cfg.bytes = s.cfg.bytes := by
  unfold State.rxPush
  split <;> simp

@[simp] theorem State.staleReply_bytes (h : RHdr) (s : State) : (State.staleReply h s).cfg.bytes = s.cfg.bytes := rfl

@[simp] theorem State.hearRival_bytes (l : List Byte) (s : State) : (State.hearRival l s).cfg.bytes = s.cfg.bytes := rfl

@[simp] theorem State.deliver_bytes (p : RPort) (l : List Byte) (s : State) : (State.deliver p l s).cfg.bytes = s.cfg.bytes := by
  unfold State.deliver
  dsimp only
  repeat' split
  all_goals simp

@[simp] theorem State.stripOwn_bytes (p : RPort) (l : List Byte) (intact : Bool) (s : State) :
    (State.stripOwn p l intact s).cfg.bytes = s.cfg.bytes := by
  unfold State.stripOwn
  repeat' split
  all_goals simp

@[simp] theorem State.portInjected_bytes (p : RPort) (h : RHdr) (s : State) : (State.portInjected p h s).cfg.bytes = s.cfg.bytes := by
  unfold State.portInjected
  split <;> rfl

@[simp] theorem State.injRecovered_bytes (h : RHdr) (intact : Bool) (s : State) :
    (State.injRecovered h intact s).cfg.bytes = s.cfg.bytes := by
  unfold State.injRecovered
  split <;> simp

@[simp] theorem State.receive_bytes (p : RPort) (l : List Byte) (marked : Bool) (s0 : State) :
    (State.receive p l marked s0).cfg.bytes = s0.cfg.bytes := by
  unfold State.receive
  split
  · rfl
  · extract_lets s good intact hdr t v mine w
    have ht : t.cfg.bytes = s0.cfg.bytes := by
      simp only [t, s]
      split <;> simp
    have hv : v.cfg.bytes = s0.cfg.bytes := by
      simp only [v]
      split <;> simpa using ht
    have hw : w.cfg.bytes = s0.cfg.bytes := by
      simp only [w]
      split
      · exact hv
      · split <;> simpa using hv
    split
    · simpa using ht
    · split
      · exact hw
      · simpa using hw

@[simp] theorem State.markSent_bytes (tags : List (BitVec 8)) (s : State) : (State.markSent tags s).cfg.bytes = s.cfg.bytes := rfl

@[simp] theorem State.mfSend_bytes (more : List RingEnt) (s : State) : (State.mfSend more s).cfg.bytes = s.cfg.bytes := by
  simp [State.mfSend]

@[simp] theorem State.rfResend_bytes (p : RPort) (slot : Nat) (s : State) : (State.rfResend p slot s).cfg.bytes = s.cfg.bytes := by
  unfold State.rfResend
  split <;> simp

@[simp] theorem State.afterSlots_bytes (a : UAddr) (s : State) : (State.afterSlots a s).cfg.bytes = s.cfg.bytes := by
  unfold State.afterSlots
  split <;> rfl

@[simp] theorem State.rfJudge_bytes (a : UAddr) (s0 : State) : (State.rfJudge a s0).cfg.bytes = s0.cfg.bytes := by
  unfold State.rfJudge
  dsimp only
  repeat' split
  all_goals simp

@[simp] theorem State.ringWindow_bytes (s : State) : s.ringWindow.cfg.bytes = s.cfg.bytes := by
  unfold State.ringWindow
  split <;> simp

@[simp] theorem State.enumStart_bytes (s : State) : s.enumStart.cfg.bytes = s.cfg.bytes := by simp [State.enumStart]

@[simp] theorem State.enumResult_bytes (closed : Bool) (found : List Found) (serials : List (UAddr × BitVec 64)) (s : State) :
    (State.enumResult closed found serials s).cfg.bytes = s.cfg.bytes := by
  unfold State.enumResult
  dsimp only
  repeat' split
  all_goals simp

@[simp] theorem State.enumerate_bytes (arcs : List Found) (serials : List (UAddr × BitVec 64)) (s : State) :
    (State.enumerate arcs serials s).cfg.bytes = s.cfg.bytes := by
  unfold State.enumerate
  dsimp only
  repeat' split
  all_goals simp

@[simp] theorem State.erTake_bytes (l : List Byte) (s : State) : (State.erTake l s).cfg.bytes = s.cfg.bytes := by
  simp [State.erTake]

@[simp] theorem State.erTrunk_bytes (l : List Byte) (s : State) : (State.erTrunk l s).cfg.bytes = s.cfg.bytes :=
  foldl_bytes (fun _ _ => by rfl) _ s

@[simp] theorem State.startListen_bytes (s : State) : s.startListen.cfg.bytes = s.cfg.bytes := by
  unfold State.startListen
  split <;> rfl

@[simp] theorem State.takeover_bytes (s : State) : s.takeover.cfg.bytes = s.cfg.bytes := rfl

@[simp] theorem State.activate_bytes (s : State) : s.activate.cfg.bytes = s.cfg.bytes := by
  unfold State.activate
  split <;> simp

@[simp] theorem State.yieldJudge_bytes (s : State) : s.yieldJudge.cfg.bytes = s.cfg.bytes := by
  unfold State.yieldJudge
  split <;> rfl

@[simp] theorem State.yieldNow_bytes (s : State) : s.yieldNow.cfg.bytes = s.cfg.bytes := by
  unfold State.yieldNow
  split <;> rfl

@[simp] theorem State.strChange_bytes (s : State) : s.strChange.cfg.bytes = s.cfg.bytes := by
  unfold State.strChange
  split <;> simp

@[simp] theorem State.ringCounts_bytes (s : State) : s.ringCounts.cfg.bytes = s.cfg.bytes := rfl

@[simp] theorem State.ringBoundary_bytes (s : State) : s.ringBoundary.cfg.bytes = s.cfg.bytes := by
  unfold State.ringBoundary
  extract_lets a b
  have hb : b.cfg.bytes = s.cfg.bytes := by
    show a.cfg.bytes = _
    simp only [a, State.ringCounts_bytes, State.yieldNow_bytes, State.activate_bytes, State.yieldJudge_bytes]
    exact onlyIf_bytes State.takeover_bytes _ s
  simpa using hb

@[simp] theorem State.tfTake_bytes (p : RPort) (l : List Byte) (s : State) : (State.tfTake p l s).cfg.bytes = s.cfg.bytes := by
  unfold State.tfTake
  dsimp only
  split <;> simp

@[simp] theorem State.kfSend_bytes (s : State) : s.kfSend.cfg.bytes = s.cfg.bytes := by simp [State.kfSend]

@[simp] theorem State.trunkJudge_bytes (s : State) : s.trunkJudge.cfg.bytes = s.cfg.bytes := by
  unfold State.trunkJudge
  repeat' split
  all_goals simp

@[simp] theorem State.majorityChange_bytes (s : State) : s.majorityChange.cfg.bytes = s.cfg.bytes := rfl

@[simp] theorem State.coordinate_bytes (s : State) : s.coordinate.cfg.bytes = s.cfg.bytes := rfl

/-! The CAN ports -/

@[simp] theorem State.setObj_bytes (p : CPort) (k : Nat) (f : ObjS → ObjS) (s : State) :
    (State.setObj p k f s).cfg.bytes = s.cfg.bytes := rfl

@[simp] theorem State.acPush_bytes (p : CPort) (s : State) : (State.acPush p s).cfg.bytes = s.cfg.bytes := by
  unfold State.acPush
  split <;> simp

@[simp] theorem State.queueObj_bytes (p : CPort) (k : Nat) (data : List Byte) (s : State) :
    (State.queueObj p k data s).cfg.bytes = s.cfg.bytes := by
  unfold State.queueObj
  split <;> simp

@[simp] theorem State.canCompose_bytes (num : Word) (s : State) : (State.canCompose num s).cfg.bytes = s.cfg.bytes := rfl

@[simp] theorem State.queueDue_bytes (p : CPort) (k : Nat) (s : State) : (State.queueDue p k s).cfg.bytes = s.cfg.bytes := by
  unfold State.queueDue
  split <;> simp

@[simp] theorem State.queueAll_bytes (s : State) : s.queueAll.cfg.bytes = s.cfg.bytes := by simp [State.queueAll]

@[simp] theorem State.objSend_bytes (p : CPort) (k : Nat) (s : State) : (State.objSend p k s).cfg.bytes = s.cfg.bytes := by
  unfold State.objSend
  dsimp only
  split <;> simp

@[simp] theorem State.objCancel_bytes (p : CPort) (k : Nat) (s : State) : (State.objCancel p k s).cfg.bytes = s.cfg.bytes := rfl

@[simp] theorem State.startFrame_bytes (p : CPort) (k : Nat) (s : State) : (State.startFrame p k s).cfg.bytes = s.cfg.bytes := rfl

@[simp] theorem State.canOffer_bytes (p : CPort) (s : State) : (State.canOffer p s).cfg.bytes = s.cfg.bytes := by
  unfold State.canOffer
  repeat' split
  all_goals simp

@[simp] theorem State.canFollow_bytes (p : CPort) (s : State) : (State.canFollow p s).cfg.bytes = s.cfg.bytes := by
  unfold State.canFollow
  dsimp only
  repeat' split
  all_goals simp

@[simp] theorem State.frameEnd_bytes (p : CPort) (k : Nat) (seen : BusEnd) (ofs : BitVec 16) (delay : Nat) (s : State) :
    (State.frameEnd p k seen ofs delay s).cfg.bytes = s.cfg.bytes := by
  unfold State.frameEnd
  dsimp only
  repeat' split
  all_goals simp

@[simp] theorem State.filtered_bytes (p : CPort) (f : CanFrame) (beat : Word) (s : State) :
    (State.filtered p f beat s).cfg.bytes = s.cfg.bytes := rfl

@[simp] theorem State.telPush_bytes (x : TelIn) (c : Ch) (s : State) : (State.telPush x c s).cfg.bytes = s.cfg.bytes := by
  unfold State.telPush
  repeat' split
  all_goals simp

@[simp] theorem State.caPush_bytes (p : CPort) (s : State) : (State.caPush p s).cfg.bytes = s.cfg.bytes := by
  unfold State.caPush
  repeat' split
  all_goals simp

@[simp] theorem State.telArrive_bytes (p : CPort) (k : Nat) (f : CanFrame) (endNs : Nat) (s : State) :
    (State.telArrive p k f endNs s).cfg.bytes = s.cfg.bytes := by
  simp [State.telArrive]

@[simp] theorem State.canReceive_bytes (p : CPort) (f : CanFrame) (endNs : Nat) (s : State) :
    (State.canReceive p f endNs s).cfg.bytes = s.cfg.bytes := by
  unfold State.canReceive
  repeat' split
  all_goals simp

@[simp] theorem State.odata0Read_bytes (p : CPort) (s : State) : (State.odata0Read p s).cfg.bytes = s.cfg.bytes := rfl

@[simp] theorem State.canError_bytes (p : CPort) (tec rxc : Nat) (err : Option (Fin 8 × Bool)) (s : State) :
    (State.canError p tec rxc err s).cfg.bytes = s.cfg.bytes := by
  unfold State.canError
  split <;> simp

@[simp] theorem State.canRejoin_bytes (p : CPort) (s : State) : (State.canRejoin p s).cfg.bytes = s.cfg.bytes := rfl

@[simp] theorem State.canRecover_bytes (p : CPort) (recessive : Bool) (s : State) :
    (State.canRecover p recessive s).cfg.bytes = s.cfg.bytes := by
  unfold State.canRecover
  dsimp only
  repeat' split
  all_goals simp

@[simp] theorem State.refSend_bytes (mark : Nat) (s : State) : (State.refSend mark s).cfg.bytes = s.cfg.bytes := by
  unfold State.refSend
  dsimp only
  repeat' split
  all_goals simp

@[simp] theorem State.refReceive_bytes (f : CanFrame) (interval : Nat) (dev : Int) (s : State) :
    (State.refReceive f interval dev s).cfg.bytes = s.cfg.bytes := by
  unfold State.refReceive
  dsimp only
  repeat' split
  all_goals simp

@[simp] theorem State.ttResume_bytes (s : State) : s.ttResume.cfg.bytes = s.cfg.bytes := by
  unfold State.ttResume
  repeat' split
  all_goals simp

@[simp] theorem State.calReceive_bytes (f : CanFrame) (calSec calFrac : Nat) (s : State) :
    (State.calReceive f calSec calFrac s).cfg.bytes = s.cfg.bytes := by
  unfold State.calReceive
  dsimp only
  repeat' split
  all_goals simp

@[simp] theorem State.canBoundary_bytes (s : State) : s.canBoundary.cfg.bytes = s.cfg.bytes := rfl

@[simp] theorem State.canStart_bytes (s : State) : s.canStart.cfg.bytes = s.cfg.bytes := rfl

@[simp] theorem State.telJudgeIn_bytes (ch : Ch) (n : Nat) (s : State) : (State.telJudgeIn ch n s).cfg.bytes = s.cfg.bytes := by
  unfold State.telJudgeIn
  dsimp only
  repeat' split
  all_goals simp

@[simp] theorem State.telJudged_bytes (n : Nat) (s : State) : (State.telJudged n s).cfg.bytes = s.cfg.bytes := by
  simp [State.telJudged]

@[simp] theorem State.telTimeIn_bytes (ch : Ch) (n : Nat) (s : State) : (State.telTimeIn ch n s).cfg.bytes = s.cfg.bytes := by
  unfold State.telTimeIn
  split <;> rfl

@[simp] theorem State.telTimed_bytes (n : Nat) (s : State) : (State.telTimed n s).cfg.bytes = s.cfg.bytes := by
  simp [State.telTimed]

@[simp] theorem State.telegrams_bytes (s : State) : s.telegrams.cfg.bytes = s.cfg.bytes := by simp [State.telegrams]

@[simp] theorem State.telCheckIn_bytes (n : Nat) (x : TelIn) (ch : Ch) (s : State) :
    (State.telCheckIn n x ch s).cfg.bytes = s.cfg.bytes := by
  unfold State.telCheckIn
  repeat' split
  all_goals simp

@[simp] theorem State.telReceive_bytes (p : CPort) (f : CanFrame) (s : State) : (State.telReceive p f s).cfg.bytes = s.cfg.bytes := by
  unfold State.telReceive
  split <;> simp

@[simp] theorem State.telSend_bytes (n : Nat) (s : State) : (State.telSend n s).cfg.bytes = s.cfg.bytes := by
  simp [State.telSend]

@[simp] theorem State.cmdTake_bytes (n : Nat) (s : State) : (State.cmdTake n s).cfg.bytes = s.cfg.bytes := by
  unfold State.cmdTake
  dsimp only
  split <;> rfl

@[simp] theorem State.cmdAll_bytes (s : State) : s.cmdAll.cfg.bytes = s.cfg.bytes := by simp [State.cmdAll]

end Sys2Proof.Machine
end

section

/-! PROOFS. The bytes of the banks: what the configuration port itself leaves of them, power and history. -/

namespace Sys2Proof.Machine

open Sys2Proof

/-! The configuration port -/

@[simp] theorem State.bankTo_bytes (b : Bool) (st : BankState) (s : State) : (State.bankTo b st s).cfg.bytes = s.cfg.bytes := by
  cases b <;> rfl

@[simp] theorem State.cfgTask_bytes (on : Bool) (s : State) : (State.cfgTask on s).cfg.bytes = s.cfg.bytes := by
  unfold State.cfgTask
  dsimp only
  repeat' split
  all_goals simp

/-- A command of the configuration port shows itself and acts (R129, R137). -/
theorem State.cfgCommand_bytes {f : State → State} (hf : ∀ s, (f s).cfg.bytes = s.cfg.bytes) (p : Path) (key : BitVec 8) (n : Nat)
    (check : State → Option Nat) (s : State) : (s.cfgCommand p key n check f).cfg.bytes = s.cfg.bytes := by
  unfold State.cfgCommand
  dsimp only
  split
  · rfl
  · exact hf _

@[simp] theorem State.openOk_bytes (path : Path) (s : State) : (State.openOk path s).cfg.bytes = s.cfg.bytes :=
  State.bankTo_bytes s.openBank .writing s

@[simp] theorem State.cfgDone_bytes (s : State) : s.cfgDone.cfg.bytes = s.cfg.bytes := by
  rw [State.cfgDone_eq]
  rfl

@[simp] theorem State.refuseImage_bytes (e : CfgErr) (s : State) : (State.refuseImage e s).cfg.bytes = s.cfg.bytes := rfl

@[simp] theorem State.verifyEnd_bytes (s : State) : s.verifyEnd.cfg.bytes = s.cfg.bytes := by
  unfold State.verifyEnd
  dsimp only
  split
  · simp
  · rw [State.cfgDone_bytes]
    cases s.cfg.workBank <;> rfl

@[simp] theorem State.commitEnd_bytes (s : State) : s.commitEnd.cfg.bytes = s.cfg.bytes := by
  unfold State.commitEnd
  extract_lets b
  split
  · simp
  · split
    · exact (State.cfgDone_bytes _).trans (State.bankTo_bytes b .pending s)
    · simp

@[simp] theorem State.confirmOk_bytes (s : State) : s.confirmOk.cfg.bytes = s.cfg.bytes := by
  unfold State.confirmOk
  cases (s.cfg.find [.trial]).getD false <;> rfl

@[simp] theorem State.cfgOther_bytes (path : Path) (key : BitVec 8) (cmd : Nat) (s : State) :
    (State.cfgOther path key cmd s).cfg.bytes = s.cfg.bytes := State.cfgCommand_bytes (fun _ => rfl) path key cmd _ s

@[simp] theorem State.crownBoundary_bytes (mv1 mv2 : Nat) (s : State) : (State.crownBoundary mv1 mv2 s).cfg.bytes = s.cfg.bytes := rfl

@[simp] theorem State.crownAgree_bytes (s : State) : s.crownAgree.cfg.bytes = s.cfg.bytes := rfl

@[simp] theorem State.trialBoundary_bytes (s : State) : s.trialBoundary.cfg.bytes = s.cfg.bytes := by
  unfold State.trialBoundary
  split <;> rfl

@[simp] theorem State.trialCheckpoint_bytes (s : State) : s.trialCheckpoint.cfg.bytes = s.cfg.bytes := by
  simp [State.trialCheckpoint]

@[simp] theorem State.expire_bytes (s : State) : s.expire.cfg.bytes = s.cfg.bytes := rfl

@[simp] theorem State.revertTrial_bytes (why : Nat) (s : State) : (State.revertTrial why s).cfg.bytes = s.cfg.bytes := by
  unfold State.revertTrial
  split
  · rfl
  · next b _ => cases b <;> rfl

@[simp] theorem State.revertWrite_bytes (s : State) : s.revertWrite.cfg.bytes = s.cfg.bytes := by
  unfold State.revertWrite
  split
  · rfl
  · simp
  · split
    · simp
    · cases (s.cfg.find [.previous]).getD false <;> rfl

/-! Power and resets -/

@[simp] theorem State.setPwr_bytes (s : State) (f : PwrS → PwrS) : (s.setPwr f).cfg.bytes = s.cfg.bytes := rfl

@[simp] theorem State.flushLog_bytes (s : State) : s.flushLog.cfg.bytes = s.cfg.bytes := by
  unfold State.flushLog
  split <;> rfl

@[simp] theorem State.lastRecord_bytes (code : Nat) (p : List Word) (s : State) : (State.lastRecord code p s).cfg.bytes = s.cfg.bytes := by
  unfold State.lastRecord
  split <;> rfl

@[simp] theorem State.countReset_bytes (s : State) : s.countReset.cfg.bytes = s.cfg.bytes := rfl

@[simp] theorem State.intrOver_bytes (s : State) : s.intrOver.cfg.bytes = s.cfg.bytes := by
  unfold State.intrOver
  split <;> simp

@[simp] theorem State.wakeStart_bytes (sources : BitVec 7) (s : State) : (State.wakeStart sources s).cfg.bytes = s.cfg.bytes := rfl

@[simp] theorem State.pwrRequest_bytes (dormant keyOk : Bool) (trigger : Nat) (s : State) :
    (State.pwrRequest dormant keyOk trigger s).cfg.bytes = s.cfg.bytes := rfl

@[simp] theorem State.ringSilent_bytes (s : State) : s.ringSilent.cfg.bytes = s.cfg.bytes := rfl

@[simp] theorem State.wake_bytes (sources : BitVec 7) (s : State) : (State.wake sources s).cfg.bytes = s.cfg.bytes := by
  unfold State.wake
  dsimp only
  repeat' split
  all_goals simp

@[simp] theorem State.canWake_bytes (port : CPort) (seen : WakeSeen) (s : State) : (State.canWake port seen s).cfg.bytes = s.cfg.bytes := by
  unfold State.canWake
  dsimp only
  repeat' split
  all_goals simp

@[simp] theorem State.powerBoundary_bytes (s : State) : s.powerBoundary.cfg.bytes = s.cfg.bytes := rfl

@[simp] theorem State.crystalFails_bytes (ch : Ch) (s : State) : (State.crystalFails ch s).cfg.bytes = s.cfg.bytes := by
  unfold State.crystalFails
  split <;> rfl

/-! The history -/

@[simp] theorem State.setSys_bytes (s : State) (f : SysS → SysS) : (s.setSys f).cfg.bytes = s.cfg.bytes := rfl

@[simp] theorem State.setHist_bytes (pos : Nat) (f : HistSlot → HistSlot) (s : State) :
    (State.setHist pos f s).cfg.bytes = s.cfg.bytes := rfl

@[simp] theorem State.restoreEntry_bytes (k : Nat) (w : Word) (s : State) : (State.restoreEntry k w s).cfg.bytes = s.cfg.bytes := rfl

@[simp] theorem State.restoreOpen_bytes (s : State) : s.restoreOpen.cfg.bytes = s.cfg.bytes := rfl

@[simp] theorem State.restoreBegin_bytes (pos : Nat) (s : State) : (State.restoreBegin pos s).cfg.bytes = s.cfg.bytes := by
  unfold State.restoreBegin
  split
  · rfl
  · split
    · exact runAll_bytes (f := fun (x : Nat × Word) t => t.restoreEntry x.1 x.2) (fun x t => State.restoreEntry_bytes x.1 x.2 t) _ _
    · rfl

@[simp] theorem State.restoreBoundary_bytes (s : State) : s.restoreBoundary.cfg.bytes = s.cfg.bytes := by
  unfold State.restoreBoundary
  dsimp only
  repeat' split
  all_goals simp

@[simp] theorem State.restoreSent_bytes (n : Nat) (s : State) : (State.restoreSent n s).cfg.bytes = s.cfg.bytes := by
  unfold State.restoreSent
  dsimp only
  repeat' split
  all_goals simp

@[simp] theorem State.mfSendAll_bytes (s : State) : s.mfSendAll.cfg.bytes = s.cfg.bytes := by simp [State.mfSendAll]

@[simp] theorem State.histRestore_bytes (path : Path) (s : State) : (State.histRestore path s).cfg.bytes = s.cfg.bytes := by
  unfold State.histRestore
  repeat' split
  all_goals simp

@[simp] theorem State.importWord_bytes (w : Nat) (b prev : List Byte) (s : State) :
    (State.importWord w b prev s).cfg.bytes = s.cfg.bytes := by
  unfold State.importWord
  split
  · rfl
  · split
    · rfl
    · exact State.setHist_bytes ..

@[simp] theorem State.importTake_bytes (d : Word) (s : State) : (State.importTake d s).cfg.bytes = s.cfg.bytes := by
  unfold State.importTake
  dsimp only
  repeat' split
  all_goals simp

@[simp] theorem State.restoreTake_bytes (d : Word) (s : State) : (State.restoreTake d s).cfg.bytes = s.cfg.bytes := by
  unfold State.restoreTake
  dsimp only
  repeat' split
  all_goals simp

@[simp] theorem State.winWrite_bytes (d : Word) (s : State) : (State.winWrite d s).cfg.bytes = s.cfg.bytes := by
  unfold State.winWrite
  repeat' split
  all_goals simp

end Sys2Proof.Machine
end

section

/-! PROOFS. The bytes of the banks: registers and the host. -/

namespace Sys2Proof.Machine

open Sys2Proof

/-! Register reads -/

@[simp] theorem outState_next (t s : State) : outState (.next t) s = t := rfl

@[simp] theorem State.afterRead_bytes (path : Path) (a : Nat) (s : State) : (State.afterRead path a s).cfg.bytes = s.cfg.bytes := by
  unfold State.afterRead
  split
  · rfl
  · rfl
  · split
    · split
      all_goals simp only [execOdata0Read, outState_next, State.odata0Read_bytes, State.setCan_cfg]
    · split
      · exact congrArg CfgS.bytes (State.setRing_cfg ..)
      · split
        · exact congrArg CfgS.bytes (State.setSys_cfg ..)
        · split
          all_goals simp only [execHistWinAccess, execLogRd0Read, outState_next, State.latchHi_bytes, State.rplOutTake_bytes,
            State.setRing_cfg, State.setSys_cfg, State.setBeat_cfg, State.setChan_cfg]

/-! Register writes -/

@[simp] theorem execCfgOpen_bytes (p : Path) (k : BitVec 8) (s t : State) :
    (outState (execCfgOpen p k s) t).cfg.bytes = s.cfg.bytes :=
  State.cfgCommand_bytes (State.openOk_bytes p) ..

@[simp] theorem execCfgVerify_bytes (p : Path) (k : BitVec 8) (s t : State) :
    (outState (execCfgVerify p k s) t).cfg.bytes = s.cfg.bytes :=
  State.cfgCommand_bytes (f := fun t => (t.setCfg fun c => { c with work := .verify }).cfgTask true)
    (fun _ => State.cfgTask_bytes true _) ..

@[simp] theorem execCfgCommit_bytes (p : Path) (k : BitVec 8) (s t : State) :
    (outState (execCfgCommit p k s) t).cfg.bytes = s.cfg.bytes :=
  State.cfgCommand_bytes (f := fun t => (t.setCfg fun c =>
    { c with owner := .none, work := .commit, workBank := (c.find [.verified]).getD false }).cfgTask true)
    (fun _ => State.cfgTask_bytes true _) ..

@[simp] theorem execCfgConfirm_bytes (p : Path) (k : BitVec 8) (s t : State) :
    (outState (execCfgConfirm p k s) t).cfg.bytes = s.cfg.bytes :=
  State.cfgCommand_bytes State.confirmOk_bytes ..

@[simp] theorem execCfgRollback_bytes (p : Path) (k : BitVec 8) (s t : State) :
    (outState (execCfgRollback p k s) t).cfg.bytes = s.cfg.bytes :=
  State.cfgCommand_bytes (f := fun t => t.setCfg fun c => { c with rev := .rollback }) (fun _ => rfl) ..

@[simp] theorem execCfgAbort_bytes (p : Path) (k : BitVec 8) (s t : State) :
    (outState (execCfgAbort p k s) t).cfg.bytes = s.cfg.bytes :=
  State.cfgCommand_bytes (f := fun t => (t.bankTo ((t.cfg.find [.writing, .verified]).getD false) .invalid).setCfg fun c =>
    { c with owner := .none }) (fun t => State.bankTo_bytes _ .invalid t) ..

@[simp] theorem execOtpKey_bytes (p : Path) (k : BitVec 8) (s t : State) :
    (outState (execOtpKey p k s) t).cfg.bytes = s.cfg.bytes :=
  State.cfgCommand_bytes (f := fun t => t.setCfg fun c =>
    { c with keys := c.keys ++ [imgKeyHash (cellsBytes bankSize (c.bank ((c.find [.verified]).getD false)).cells)] }) (fun _ => rfl) ..

@[simp] theorem State.writeCfgCmd_bytes (path : Path) (d : Word) (s : State) : (State.writeCfgCmd path d s).cfg.bytes = s.cfg.bytes := by
  unfold State.writeCfgCmd
  dsimp only
  split
  · exact execCfgOpen_bytes ..
  · exact execCfgVerify_bytes ..
  · exact execCfgCommit_bytes ..
  · exact execCfgConfirm_bytes ..
  · exact execCfgRollback_bytes ..
  · exact execCfgAbort_bytes ..
  · exact execOtpKey_bytes ..
  · exact State.cfgOther_bytes ..

@[simp] theorem State.writeProt_bytes (path : Path) (d : Word) (s : State) : (State.writeProt path d s).cfg.bytes = s.cfg.bytes := by
  unfold State.writeProt
  repeat' split
  all_goals simp

@[simp] theorem State.writeBal_bytes (path : Path) (d : Word) (s : State) : (State.writeBal path d s).cfg.bytes = s.cfg.bytes := rfl

@[simp] theorem State.writeOdata_bytes (p : CPort) (j : Nat) (d : Word) (s : State) :
    (State.writeOdata p j d s).cfg.bytes = s.cfg.bytes := by
  unfold State.writeOdata
  dsimp only
  split <;> rfl

@[simp] theorem State.writeCan_bytes (path : Path) (p : CPort) (o : Nat) (d : Word) (s : State) :
    (State.writeCan path p o d s).cfg.bytes = s.cfg.bytes := by
  unfold State.writeCan
  repeat' split
  all_goals simp only [execFifoFlush, execFifoPop, outState_next, State.setCan_cfg, State.writeOdata_bytes]
  split <;> rfl

@[simp] theorem State.writeObj_bytes (p : CPort) (k w : Nat) (d : Word) (s : State) :
    (State.writeObj p k w d s).cfg.bytes = s.cfg.bytes := by
  unfold State.writeObj
  split
  · extract_lets t
    have ht : t.cfg.bytes = s.cfg.bytes := by
      simp only [t, execObjCancel, outState_next]
      repeat' split
      all_goals simp
    split
    · simp only [execObjSend, outState_next]
      split <;> simpa using ht
    · exact ht
  · rfl
  · rfl

@[simp] theorem State.writeRpl_bytes (path : Path) (d : Word) (s : State) : (State.writeRpl path d s).cfg.bytes = s.cfg.bytes := by
  unfold State.writeRpl
  split
  · simp
  · simp [execRplStop]

@[simp] theorem execWireCalStart_bytes (p : Path) (k : BitVec 8) (s t : State) :
    (outState (execWireCalStart p k s) t).cfg.bytes = s.cfg.bytes := rfl

@[simp] theorem execWireCalAbort_bytes (p : Path) (k : BitVec 8) (s t : State) :
    (outState (execWireCalAbort p k s) t).cfg.bytes = s.cfg.bytes := by
  simp only [execWireCalAbort, outState_next]
  split
  · rfl
  · exact State.calEnd_bytes 3 4 s

@[simp] theorem execResetLoopRelease_bytes (p : Path) (k : BitVec 8) (s t : State) :
    (outState (execResetLoopRelease p k s) t).cfg.bytes = s.cfg.bytes := by
  simp only [execResetLoopRelease, outState_next]
  split <;> rfl

@[simp] theorem execHandlingClose_bytes (p : Path) (k : BitVec 8) (s t : State) :
    (outState (execHandlingClose p k s) t).cfg.bytes = s.cfg.bytes := by
  simp only [execHandlingClose, outState_next]
  split <;> rfl

@[simp] theorem execEnum_bytes (p : Path) (k : BitVec 8) (s t : State) : (outState (execEnum p k s) t).cfg.bytes = s.cfg.bytes := by
  simp only [execEnum, outState_next]
  split <;> rfl

@[simp] theorem State.writeHigh_bytes (path : Path) (a : Nat) (d : Word) (s : State) :
    (State.writeHigh path a d s).cfg.bytes = s.cfg.bytes := by
  unfold State.writeHigh
  split
  case h_6 =>
    extract_lets t
    have ht : t.cfg.bytes = s.cfg.bytes := by
      simp only [t]
      split
      · exact execWireCalStart_bytes ..
      · rfl
    split
    · exact (execWireCalAbort_bytes ..).trans ht
    · split <;> exact ht
  case h_14 =>
    extract_lets t
    have ht : t.cfg.bytes = s.cfg.bytes := by
      simp only [t]
      split
      · exact execResetLoopRelease_bytes ..
      · rfl
    split
    · exact (execHandlingClose_bytes ..).trans ht
    · exact ht
  case h_25 => split <;> simp [execLogClear]
  case h_27 => simp [execCalendarSet]
  case h_29 => split <;> simp
  case h_34 => split <;> simp
  all_goals simp

@[simp] theorem State.nextOfsActive_bytes (w ofs : Nat) (s : State) : (State.nextOfsActive w ofs s).cfg.bytes = s.cfg.bytes := by
  unfold State.nextOfsActive
  repeat' split
  all_goals simp

@[simp] theorem State.activateStaged_bytes (x : Staged) (s : State) : (State.activateStaged x s).cfg.bytes = s.cfg.bytes := by
  unfold State.activateStaged
  dsimp only
  repeat' split
  all_goals simp

@[simp] theorem State.activateAll_bytes (s : State) : s.activateAll.cfg.bytes = s.cfg.bytes := by simp [State.activateAll]

/-! The host -/

@[simp] theorem State.answered_bytes (rseq : BitVec 8) (bytes : List Byte) (status : Nat) (data : List Word) (store : Bool) (s : State) :
    (State.answered rseq bytes status data store s).cfg.bytes = s.cfg.bytes := rfl

@[simp] theorem State.crcInjected_bytes (rseq : BitVec 8) (s : State) : (State.crcInjected rseq s).cfg.bytes = s.cfg.bytes := by
  simp [State.crcInjected]

@[simp] theorem State.hostReads_bytes (l : List Nat) (s : State) : (s.hostReads l).2.cfg.bytes = s.cfg.bytes := by
  have h : ∀ (l : List Nat) (x : List Word × State), (l.foldl (fun x a =>
      if x.2.regStatus false a = 1 then
        let r := x.2.regRead .host a
        (x.1 ++ [r.1], r.2)
      else (x.1 ++ [0], x.2)) x).2.cfg.bytes = x.2.cfg.bytes := by
    intro l
    induction l with
    | nil => exact fun _ => rfl
    | cons a l ih =>
      intro x
      rw [List.foldl_cons, ih]
      split
      · exact State.afterRead_bytes ..
      · rfl
  exact h l ([], s)

@[simp] theorem State.burstOn_bytes (s : State) : s.burstOn.cfg.bytes = s.cfg.bytes := by
  unfold State.burstOn
  split
  · simp
  · rfl

@[simp] theorem State.hostCrcFails_bytes (rseq : BitVec 8) (s : State) : (State.hostCrcFails rseq s).cfg.bytes = s.cfg.bytes := by
  simp [State.hostCrcFails]

@[simp] theorem State.hostFraming_bytes (s : State) : s.hostFraming.cfg.bytes = s.cfg.bytes := by simp [State.hostFraming]

@[simp] theorem State.remoteTimeout_bytes (tag : BitVec 8) (s : State) : (State.remoteTimeout tag s).cfg.bytes = s.cfg.bytes := by
  unfold State.remoteTimeout
  repeat' split
  all_goals simp

@[simp] theorem State.remoteTimeouts_bytes (s : State) : s.remoteTimeouts.cfg.bytes = s.cfg.bytes := by
  simp [State.remoteTimeouts]

/-! The relay of the ring -/

@[simp] theorem State.takeMarker_bytes (arrivalNs phaseErr : Int) (l : List Byte) (s : State) :
    (State.takeMarker arrivalNs phaseErr l s).cfg.bytes = s.cfg.bytes := rfl

@[simp] theorem State.takeCadence_bytes (slow : Bool) (decision : Word) (s : State) :
    (State.takeCadence slow decision s).cfg.bytes = s.cfg.bytes := rfl

@[simp] theorem State.takeRecord_bytes (x : Nat) (s : State) : (State.takeRecord x s).cfg.bytes = s.cfg.bytes := by
  unfold State.takeRecord
  split <;> rfl

@[simp] theorem State.takeCopy_bytes (l : List Byte) (s : State) : (State.takeCopy l s).cfg.bytes = s.cfg.bytes := by
  unfold State.takeCopy
  dsimp only
  repeat' split
  all_goals simp

@[simp] theorem State.takeFields_bytes (l : List Byte) (s : State) : (State.takeFields l s).cfg.bytes = s.cfg.bytes := by
  simp [State.takeFields]

@[simp] theorem State.staleNotice_bytes (e : RingEnt) (s : State) : (State.staleNotice e s).cfg.bytes = s.cfg.bytes := by
  simp [State.staleNotice]

@[simp] theorem State.copyDelay_bytes (p : RPort) (l : List Byte) (s : State) : (State.copyDelay p l s).cfg.bytes = s.cfg.bytes := rfl

@[simp] theorem State.kfOwn_bytes (l : List Byte) (s : State) : (State.kfOwn l s).cfg.bytes = s.cfg.bytes := by
  unfold State.kfOwn
  dsimp only
  repeat' split
  all_goals simp

end Sys2Proof.Machine
end

section

/-! PROOFS. The bytes of the banks: the boundary, the evaluation and the start. -/

namespace Sys2Proof.Machine

open Sys2Proof

/-! The boundary's rows -/

@[simp] theorem State.onChans_bytes {op : Ch → State → State} (h : ∀ c s, (op c s).cfg.bytes = s.cfg.bytes)
    (due : State → Ch → Bool) (s : State) : (s.onChans due op).cfg.bytes = s.cfg.bytes := by
  unfold State.onChans
  dsimp only
  split
  · rw [State.drive_bytes]
    split <;> split <;> simp [h]
  · rfl

@[simp] theorem State.settleSeq_bytes (s : State) : s.settleSeq.cfg.bytes = s.cfg.bytes := by
  simp only [State.settleSeq, State.doIf_bytes State.mutualLoss_bytes, State.doIf_bytes State.openOp_bytes,
    State.doIf_bytes State.ackOp_bytes, State.doIf_bytes State.closeOp_bytes, State.onChans_bytes State.commit_bytes,
    State.onChans_bytes State.preClose_bytes, State.onChans_bytes State.preOpen_bytes, State.onChans_bytes State.coolEnd_bytes,
    State.onChans_bytes State.curfree_bytes, State.onChans_bytes State.negOpen_bytes, State.onChans_bytes State.rdWarn_bytes,
    State.onChans_bytes State.rdExpire_bytes]

@[simp] theorem State.settlePins_bytes (s : State) : s.settlePins.cfg.bytes = s.cfg.bytes := by
  have hout (n : Nat) (t : State) : (State.doIf (fun t => t.lapseDue n .l) (State.lapse n .l)
      (State.doIf (fun t => t.lapseDue n .h) (State.lapse n .h)
        (State.doIf (fun t => t.pullinDue n) (State.pullinEnd n) t))).cfg.bytes = t.cfg.bytes := by
    simp only [State.doIf_bytes (State.lapse_bytes n _), State.doIf_bytes (State.pullinEnd_bytes n)]
  simp only [State.settlePins, State.doIf_bytes State.setHostLost_bytes, State.doIf_bytes State.coilLow_bytes, runAll_bytes hout]

@[simp] theorem State.settleFaults_bytes (s : State) : s.settleFaults.cfg.bytes = s.cfg.bytes := by
  simp only [State.settleFaults, State.doIf_bytes (State.closeHandling_bytes 2), State.latchClear_bytes, State.blkSettle_bytes,
    State.expiries_bytes]

@[simp] theorem State.settleSync_bytes (s : State) : s.settleSync.cfg.bytes = s.cfg.bytes := by
  simp only [State.settleSync, State.doIf_bytes State.acquire_bytes, State.doIf_bytes State.lockOn_bytes,
    State.doIf_bytes State.holdover_bytes, State.doIf_bytes State.sourceLost_bytes, State.doIf_bytes State.resync_bytes,
    State.doIf_bytes State.majorityChange_bytes, State.doIf_bytes State.coordinate_bytes, State.strChange_bytes,
    State.startListen_bytes]

@[simp] theorem State.settleCan_bytes (s : State) : s.settleCan.cfg.bytes = s.cfg.bytes := by simp [State.settleCan]

@[simp] theorem State.settleData_bytes (s : State) : s.settleData.cfg.bytes = s.cfg.bytes := by
  have hwire (g : Nat) (t : State) : (runAll (fun j s => State.doIf (fun t => t.wireClearDue g j) (State.wireClear g j) s)
      (List.range 25) t).cfg.bytes = t.cfg.bytes :=
    runAll_bytes (fun j => State.doIf_bytes (State.wireClear_bytes g j) _) _ t
  have hswitch (i : Nat) (t : State) : (State.doIf (fun t => t.conductsDue (i + 1)) (State.conducts (i + 1))
      (State.doIf (fun t => t.noCurrentDue (i + 1)) (State.noCurrent (i + 1)) t)).cfg.bytes = t.cfg.bytes := by
    simp only [State.doIf_bytes (State.conducts_bytes (i + 1)), State.doIf_bytes (State.noCurrent_bytes (i + 1))]
  simp only [State.settleData, State.reqStart_bytes, State.reqWithdraw_bytes, State.doIf_bytes State.runStart_bytes,
    State.doIf_bytes State.runStop_bytes, State.doIf_bytes (State.calEnd_bytes _ _), State.doIf_bytes State.balTimeout_bytes,
    runAll_bytes hswitch, runAll_bytes hwire, runAll_bytes fun g => State.doIf_bytes (State.startSlot_bytes g) _,
    State.doIf_bytes State.startPass_bytes, State.doIf_bytes State.cadenceChange_bytes, State.doIf_bytes State.isoPhase_bytes,
    State.doIf_bytes State.isoResult_bytes]

@[simp] theorem State.settleCores_bytes (s : State) : s.settleCores.cfg.bytes = s.cfg.bytes := by simp [State.settleCores]

@[simp] theorem State.settlePower_bytes (s : State) : s.settlePower.cfg.bytes = s.cfg.bytes := by
  have hreq (dormant key : Bool) (k : Nat) (due : State → Bool) (t : State) :
      (t.doIf due (State.pwrRequest dormant key k)).cfg.bytes = t.cfg.bytes :=
    State.doIf_bytes (State.pwrRequest_bytes dormant key k) due t
  have hdue (dormant : Bool) (due : State → Bool) (t : State) :
      (t.doIf due fun t => t.pwrRequest dormant (t.pwr.req.any (·.2)) 1).cfg.bytes = t.cfg.bytes :=
    State.doIf_bytes (fun t => State.pwrRequest_bytes dormant _ 1 t) due t
  simp only [State.settlePower, State.setPwr_bytes, State.doIf_bytes State.ringSilent_bytes, hreq, hdue, State.remoteTimeouts_bytes]

/-! The evaluation -/

@[simp] theorem State.strMinStep_bytes (s : State) : s.strMinStep.cfg.bytes = s.cfg.bytes := by
  unfold State.strMinStep
  repeat' split
  all_goals simp

@[simp] theorem State.checkStage_bytes (s : State) : s.checkStage.cfg.bytes = s.cfg.bytes := by simp [State.checkStage]

@[simp] theorem State.blockStage_bytes (k : Nat) (s : State) : (State.blockStage k s).cfg.bytes = s.cfg.bytes :=
  State.doIf_bytes (State.blockEnd_bytes k) _ s

@[simp] theorem State.mirrorOut_bytes (n : Nat) (ch : Ch) (s : State) : (State.mirrorOut n ch s).cfg.bytes = s.cfg.bytes := by
  unfold State.mirrorOut
  dsimp only
  repeat' split
  all_goals simp

@[simp] theorem State.postRec_bytes (ch : Ch) (s : State) : (State.postRec ch s).cfg.bytes = s.cfg.bytes := by
  unfold State.postRec
  split <;> rfl

@[simp] theorem State.stageLow_bytes (i : Nat) (s : State) : (State.stageLow i s).cfg.bytes = s.cfg.bytes := by
  unfold State.stageLow
  split
  case h_1 => exact (State.dataA_bytes (fun t => by simp) _).trans (State.isoClose_bytes s)
  case h_2 => exact State.dataA_bytes (fun t => (State.sweepBlock_bytes _).trans (runAll_bytes State.blockStage_bytes _ t)) s
  case h_3 =>
    rw [State.dataA_bytes (fun t => by simp)]
    simp only [State.sumCount_bytes, State.checkFollow_bytes, State.checkCompare_bytes, State.isoCollect_bytes, State.formCells_bytes,
      State.dataA_bytes State.owEval_bytes, State.freeze_bytes]
  case h_4 => exact State.checkStage_bytes s
  case h_5 => exact State.doIf_bytes State.sumChange_bytes _ s
  case h_6 => exact State.dataA_bytes (State.onPins_bytes fun g j => State.doIf_bytes (State.suspect_bytes g j) _) s
  case h_7 => exact State.onPins_bytes (fun g j => State.doIf_bytes (State.graceExpire_bytes g j) _) s
  case h_8 => exact State.onA_bytes (State.doIf_bytes State.thermal_bytes _) s
  case h_9 => exact State.onA_bytes (State.doIf_bytes State.outOfRating_bytes _) s
  case h_10 => exact State.onA_bytes State.swapCount_bytes s
  case h_11 => exact State.onA_bytes (State.doIf_bytes State.swap_bytes _) s
  case h_12 => exact State.onA_bytes (State.doIf_bytes State.selectRecord_bytes _) s
  case h_13 => exact State.onA_bytes (fun t => by simp) s
  case h_14 => exact State.onA_bytes (State.doIf_bytes State.anchorEmpty_bytes _) s
  case h_15 => exact State.onA_bytes (State.doIf_bytes State.anchorFull_bytes _) s
  case h_16 => exact State.onA_bytes (State.doIf_bytes State.anchorVoltage_bytes _) s
  case h_17 => exact State.onA_bytes State.accConflict_bytes s
  case h_18 => exact State.onA_bytes (State.doIf_bytes State.starve_bytes _) s
  case h_19 => exact State.onA_bytes State.accFinish_bytes s
  case h_20 => rfl

@[simp] theorem State.stageHigh_bytes (i : Nat) (s : State) : (State.stageHigh i s).cfg.bytes = s.cfg.bytes := by
  unfold State.stageHigh
  split
  · exact State.onA_bytes (State.doIf_bytes State.cycStore_bytes _) s
  · exact (State.debounceAll_bytes _).trans (State.onA_bytes (fun t => by simp) s)
  · simp
  · simp
  · exact runAll_bytes State.telJudged_bytes _ s
  · exact State.telegrams_bytes s
  · rw [State.escapementEnd_bytes, State.onBoth_bytes State.escapement_bytes, State.onA_bytes State.trunkJudge_bytes]
  · exact State.onBoth_bytes State.clearOneOffs_bytes s
  · exact State.doIf_bytes State.ftcChecks_bytes _ s
  · exact State.onBoth_bytes State.criterion_bytes s
  · exact State.pcTimeouts_bytes s
  · rw [State.onBoth_bytes State.weldPass_bytes, State.onBoth_bytes State.currentFree_bytes]
  · exact State.weldTimeouts_bytes s
  · exact State.onBoth_bytes State.mirrorCheck_bytes s
  · simp
  · exact State.publish_bytes s
  · exact State.onA_bytes (State.doIf_bytes State.healthClear_bytes _) s
  · rw [State.cmdAll_bytes, State.onBoth_bytes State.postRec_bytes]
  · rfl

@[simp] theorem State.evalStage_bytes (i : Nat) (s : State) : (State.evalStage i s).cfg.bytes = s.cfg.bytes := by
  unfold State.evalStage
  repeat' split
  all_goals simp

@[simp] theorem State.evalTo_bytes (k : Nat) (s : State) : (State.evalTo k s).cfg.bytes = s.cfg.bytes := by simp [State.evalTo]

@[simp] theorem State.evalFrom_bytes (k : Nat) (s : State) : (State.evalFrom k s).cfg.bytes = s.cfg.bytes := by
  simp [State.evalFrom]

@[simp] theorem State.evaluation_bytes (usA usB : Nat) (s : State) : (State.evaluation usA usB s).cfg.bytes = s.cfg.bytes := by
  simp [State.evaluation]

@[simp] theorem State.evalOwed_bytes (s : State) : s.evalOwed.cfg.bytes = s.cfg.bytes := by
  unfold State.evalOwed
  split <;> simp

@[simp] theorem State.debugHalt_bytes (halt : Bool) (s : State) : (State.debugHalt halt s).cfg.bytes = s.cfg.bytes := by
  unfold State.debugHalt
  split <;> simp

/-! The start -/

@[simp] theorem State.startFault_bytes (c : Bool) (fs : Nat) (detail : Word) (s : State) :
    (State.startFault c fs detail s).cfg.bytes = s.cfg.bytes := by
  unfold State.startFault
  split <;> rfl

@[simp] theorem State.dieHeld_bytes (c : Bool) (ch : Ch) (s : State) : (State.dieHeld c ch s).cfg.bytes = s.cfg.bytes := by
  unfold State.dieHeld
  repeat' split
  all_goals simp

@[simp] theorem State.startBoot_bytes (bad : BitVec 2) (s : State) : (State.startBoot bad s).cfg.bytes = s.cfg.bytes := by
  simp [State.startBoot]

@[simp] theorem State.startTest_bytes (ch : Ch) (fail : Option (Nat × Nat)) (s : State) :
    (State.startTest ch fail s).cfg.bytes = s.cfg.bytes := by
  unfold State.startTest
  split <;> rfl

@[simp] theorem State.startMemory_bytes (bad : BitVec 3) (s : State) : (State.startMemory bad s).cfg.bytes = s.cfg.bytes := by
  unfold State.startMemory
  dsimp only
  split <;> simp

@[simp] theorem State.loadJournal_bytes (s : State) : s.loadJournal.cfg.bytes = s.cfg.bytes := by
  unfold State.loadJournal CfgS.fromJournal
  dsimp only [State.setCfg]
  split <;> rfl

@[simp] theorem State.startSwap_bytes (s : State) : s.startSwap.cfg.bytes = s.cfg.bytes := by
  unfold State.startSwap
  split
  · rfl
  · next b _ => cases b <;> rfl

@[simp] theorem State.activation_bytes (b : Bool) (s : State) : (State.activation b s).cfg.bytes = s.cfg.bytes := by
  unfold State.activation
  dsimp only
  split <;> rfl

@[simp] theorem State.imageRegs_bytes (s : State) : s.imageRegs.cfg.bytes = s.cfg.bytes := rfl

@[simp] theorem State.logRestart_bytes (s : State) : s.logRestart.cfg.bytes = s.cfg.bytes := by
  unfold State.logRestart
  dsimp only
  repeat' split
  all_goals simp

@[simp] theorem State.loneMaster_bytes (s : State) : s.loneMaster.cfg.bytes = s.cfg.bytes := by
  unfold State.loneMaster
  split <;> rfl

@[simp] theorem State.startRecords_bytes (s : State) : s.startRecords.cfg.bytes = s.cfg.bytes := runAll_bytes (fun _ _ => by rfl) _ _

@[simp] theorem State.calibrate_bytes (cell chk cur hv : List (Int × Int)) (s : State) :
    (State.calibrate cell chk cur hv s).cfg.bytes = s.cfg.bytes := by
  refine runAll_bytes (fun g t => ?_) _ _
  split <;> simp

@[simp] theorem State.stepOn_bytes (k : Nat) (s : State) : (State.stepOn k s).cfg.bytes = s.cfg.bytes := rfl

@[simp] theorem State.startEnd_bytes (ms : Nat) (s : State) : (State.startEnd ms s).cfg.bytes = s.cfg.bytes := rfl

@[simp] theorem State.startBoundary_bytes (s : State) : s.startBoundary.cfg.bytes = s.cfg.bytes := by
  unfold State.startBoundary
  split <;> rfl

/-! The end of a beat -/

@[simp] theorem State.fastPath_bytes (ch : Ch) (j : Nat) (o : SubBeatIn) (s : State) :
    (State.fastPath ch j o s).cfg.bytes = s.cfg.bytes := by
  simp [State.fastPath]

@[simp] theorem State.subBeatOf_bytes (j : Nat) (o : SubBeatIn) (s : State) : (State.subBeatOf j o s).cfg.bytes = s.cfg.bytes := by
  unfold State.subBeatOf
  dsimp only
  split <;> simp

@[simp] theorem State.subBeatReady_bytes (s : State) : s.subBeatReady.cfg.bytes = s.cfg.bytes := by
  unfold State.subBeatReady
  dsimp only
  split <;> simp

@[simp] theorem State.compareNow_bytes (s : State) : s.compareNow.cfg.bytes = s.cfg.bytes := by simp [State.compareNow]

@[simp] theorem State.slowSample_bytes (x1 x2 : Option Raw) (s : State) : (State.slowSample x1 x2 s).cfg.bytes = s.cfg.bytes := by
  unfold State.slowSample
  split <;> simp

@[simp] theorem State.chargeBoundary_bytes (s0 : State) : s0.chargeBoundary.cfg.bytes = s0.cfg.bytes := by
  simp [State.chargeBoundary]

@[simp] theorem State.ofsNext_bytes (s : State) : s.ofsNext.cfg.bytes = s.cfg.bytes := by
  unfold State.ofsNext
  split <;> rfl

@[simp] theorem State.endBeat_bytes (o : BoundaryIn) (s : State) : (State.endBeat o s).cfg.bytes = s.cfg.bytes := by
  unfold State.endBeat
  extract_lets r t had u
  have hu : u.cfg.bytes = s.cfg.bytes := (State.recorderBoundary_bytes ..).trans (State.canCompose_bytes (s.beat.num + 1) s)
  rw [State.overflowRaise_bytes, State.lockEnd_bytes, State.setBeat_cfg, State.chargeBoundary_bytes,
    State.dataA_bytes State.impBoundary_bytes, State.slowSample_bytes, hu]

@[simp] theorem State.activateBeat_bytes (s : State) : s.activateBeat.cfg.bytes = s.cfg.bytes := by simp [State.activateBeat]

@[simp] theorem State.sourcesBeat_bytes (o : BoundaryIn) (s : State) : (State.sourcesBeat o s).cfg.bytes = s.cfg.bytes := by
  simp [State.sourcesBeat]

@[simp] theorem State.dataBeat_bytes (s : State) : s.dataBeat.cfg.bytes = s.cfg.bytes := by simp [State.dataBeat]

@[simp] theorem State.controlBeat_bytes (s : State) : s.controlBeat.cfg.bytes = s.cfg.bytes := by simp [State.controlBeat]

@[simp] theorem State.firstBeat_bytes (o : BoundaryIn) (s : State) : (State.firstBeat o s).cfg.bytes = s.cfg.bytes := by
  simp [State.firstBeat]

end Sys2Proof.Machine
end

section

/-! PROOFS. What keeps the banks canonical and the write address on a whole word (R109, R124, R135). -/

namespace Sys2Proof.Machine

open Sys2Proof

/-! From equal bytes to the invariant -/

theorem State.banksInv_of_bytes {s t : State} (h : t.cfg.bytes = s.cfg.bytes) (hs : s.banksInv) : t.banksInv := by
  simp only [CfgS.bytes, Prod.mk.injEq] at h
  obtain ⟨h0, h1, hw⟩ := h
  simpa only [State.banksInv, Bank.wf, h0, h1, hw] using hs

theorem runAll_banksInv {α : Type} {f : α → State → State} (hf : ∀ x s, s.banksInv → (f x s).banksInv) (l : List α) {s : State}
    (hs : s.banksInv) : (runAll f l s).banksInv := by
  induction l generalizing s with
  | nil => exact hs
  | cons x l ih => exact ih (hf x s hs)

theorem State.doIf_banksInv {op : State → State} (h : ∀ s, s.banksInv → (op s).banksInv) (due : State → Bool) {s : State}
    (hs : s.banksInv) : (s.doIf due op).banksInv := by
  unfold State.doIf
  split
  · exact h s hs
  · exact hs

theorem onlyIf_banksInv {f : State → State} (h : ∀ s, s.banksInv → (f s).banksInv) (c : Bool) {s : State} (hs : s.banksInv) :
    (onlyIf c f s).banksInv := by
  unfold onlyIf
  split
  · exact h s hs
  · exact hs

/-! The writers of the banks (R122, R124, R135) -/

/-- A change of one bank that keeps it canonical. -/
theorem State.banksInv_setBank {s t : State} {b : Bool} {f : Bank → Bank} (hf : ∀ x : Bank, x.wf = true → (f x).wf = true)
    (ht : t.cfg.bytes = (s.cfg.setBank b f).bytes) (hs : s.banksInv) : t.banksInv := by
  obtain ⟨h0, h1, hw⟩ := hs
  refine State.banksInv_of_bytes (s := { s with cfg := s.cfg.setBank b f }) ht ?_
  cases b
  · exact ⟨hf _ h0, h1, hw⟩
  · exact ⟨h0, hf _ h1, hw⟩

/-- An aligned word fits below the bank's size (R124). -/
theorem State.wdataWrite_banksInv (p : Path) (d : Word) {s : State} (hs : s.banksInv) : (s.wdataWrite p d).banksInv := by
  obtain ⟨h0, h1, hw⟩ := hs
  cases hr : s.wdataRefusal p with
  | some r =>
    rw [State.wdataWrite_of_refusal hr]
    exact ⟨h0, h1, hw⟩
  | none =>
    have hroom : s.cfg.waddr < bankSize := by
      by_contra hge
      rw [State.wdataRefusal] at hr
      split_ifs at hr
      omega
    have hfit : s.cfg.waddr + (wordBytes d).length ≤ bankSize := by
      rw [wordBytes_length]
      unfold bankSize at *
      omega
    have hnext : (s.cfg.waddr + 4) % 4 = 0 := by omega
    rw [State.wdataWrite_of_accepted hr]
    cases hb : s.cfg.workBank
    · exact ⟨cellsPut_wf hfit h0, h1, hnext⟩
    · exact ⟨h0, cellsPut_wf hfit h1, hnext⟩

theorem State.crownOpened_banksInv {s : State} (hs : s.banksInv) : s.crownOpened.banksInv := by
  unfold State.crownOpened
  extract_lets t b u
  have ht : t.banksInv := by
    simp only [t]
    split
    · exact State.banksInv_of_bytes (State.debugEnd_bytes s) hs
    · exact hs
  split
  · exact ht
  · refine State.banksInv_setBank (b := b) (f := fun x => { x with state := .invalid, cells := cellsClearBelow 32 x.cells })
      (fun x hx => cellsClearBelow_wf hx) ?_ ht
    exact State.cfgTask_bytes false u

theorem State.crownChange_banksInv (second : Bool) {s : State} (hs : s.banksInv) : (s.crownChange second).banksInv := by
  unfold State.crownChange
  extract_lets t
  split
  · exact hs
  · exact State.crownOpened_banksInv (s := t) hs

theorem State.crownDiffer_banksInv {s : State} (hs : s.banksInv) : s.crownDiffer.banksInv :=
  State.crownOpened_banksInv (State.banksInv_of_bytes (State.raiseCond_bytes 13 0 s) hs)

theorem State.eraseStart_banksInv {s : State} (hs : s.banksInv) : s.eraseStart.banksInv := by
  unfold State.eraseStart
  split
  · exact hs
  · next b _ =>
    exact State.banksInv_setBank (b := b) (f := fun x => { x with cells := cellsClearBelow 32 x.cells })
      (fun x hx => cellsClearBelow_wf hx) rfl hs

theorem State.eraseEnd_banksInv {s : State} (hs : s.banksInv) : s.eraseEnd.banksInv :=
  State.banksInv_setBank (b := s.cfg.workBank) (f := fun x => { x with cells := [], state := .empty, slot := none, ver := 0 })
    (fun _ _ => rfl) rfl hs

/-! Resets and stops (R72, R496, R504, R505) -/

/-- A reset keeps the banks and puts the write address to 0. -/
theorem State.kept_banksInv {s : State} (hs : s.banksInv) : s.kept.banksInv := ⟨hs.1, hs.2.1, rfl⟩

theorem State.toOff_banksInv {s : State} (hs : s.banksInv) : s.toOff.banksInv := State.kept_banksInv hs

theorem State.flushLog_banksInv {s : State} (hs : s.banksInv) : s.flushLog.banksInv :=
  State.banksInv_of_bytes (State.flushLog_bytes s) hs

theorem State.moduleReset_banksInv (cause : Nat) {s : State} (hs : s.banksInv) : (s.moduleReset cause).banksInv :=
  State.kept_banksInv (State.banksInv_of_bytes (onlyIf_bytes State.countReset_bytes _ _) (State.flushLog_banksInv hs))

theorem State.revertReset_banksInv {s : State} (hs : s.banksInv) : s.revertReset.banksInv :=
  State.moduleReset_banksInv 7 (State.banksInv_of_bytes (State.revertWrite_bytes s) hs)

theorem State.nrstReset_banksInv {s : State} (hs : s.banksInv) : s.nrstReset.banksInv := by
  refine State.kept_banksInv ?_
  split
  · exact hs
  · exact State.flushLog_banksInv hs

theorem State.powerFailStop_banksInv {s : State} (hs : s.banksInv) : s.powerFailStop.banksInv := by
  unfold State.powerFailStop
  split
  extract_lets t
  refine State.toOff_banksInv (State.banksInv_of_bytes (s := s) ?_ hs)
  show t.cfg.bytes = _
  simp only [t, State.lastRecord_bytes, State.flushLog_bytes, onlyIf_bytes State.cycStore_bytes, State.raise_bytes]

theorem State.enterLow_banksInv {s : State} (hs : s.banksInv) : s.enterLow.banksInv := by
  unfold State.enterLow
  split
  · exact hs
  · next dormant trigger _ =>
    extract_lets t k x y v
    have ht : t.banksInv := State.banksInv_of_bytes ((State.lastRecord_bytes ..).trans (State.flushLog_bytes s)) hs
    have hv : v.banksInv := by
      refine State.banksInv_of_bytes (s := k) ?_ (State.kept_banksInv ht)
      simp only [v]
      split <;> rfl
    split
    · exact State.banksInv_of_bytes (State.wakeStart_bytes ..) hv
    · exact hv

theorem State.intrBegin_banksInv (vs : Nat) {s : State} (hs : s.banksInv) : (s.intrBegin vs).banksInv := by
  unfold State.intrBegin
  split
  · exact hs
  · split
    · exact State.toOff_banksInv hs
    · split
      · exact hs
      · exact hs

theorem State.intrSample_banksInv (vs : Nat) (reserve : Bool) {s : State} (hs : s.banksInv) : (s.intrSample vs reserve).banksInv := by
  unfold State.intrSample
  split
  · exact State.intrBegin_banksInv vs hs
  · extract_lets t
    have ht : t.banksInv := hs
    split
    · exact ht
    · split
      · exact State.banksInv_of_bytes (State.intrOver_bytes t) ht
      · split
        · exact ht
        · exact ht

theorem State.vsSample_banksInv (vs : Nat) (reserve : Bool) {s : State} (hs : s.banksInv) : (s.vsSample vs reserve).banksInv := by
  unfold State.vsSample
  extract_lets n t
  have ht : t.banksInv := hs
  split
  · exact State.intrBegin_banksInv vs ht
  · split
    · exact State.intrSample_banksInv vs reserve ht
    · exact ht

/-! What a boundary owes, and the evaluation (R31, R305) -/

theorem State.settleCfg_banksInv {s : State} (hs : s.banksInv) : s.settleCfg.banksInv := by
  refine State.banksInv_of_bytes (s := (((s.doIf (fun t => t.crownDue false) (State.crownChange false)).doIf
    (fun t => t.crownDue true) (State.crownChange true)).doIf State.crownDiffDue State.crownDiffer)) ?_ ?_
  · simp only [State.settleCfg, State.doIf_bytes State.expire_bytes, State.doIf_bytes State.trialCheckpoint_bytes,
      State.doIf_bytes State.crownAgree_bytes]
  · exact State.doIf_banksInv (fun _ => State.crownDiffer_banksInv) _ (State.doIf_banksInv (fun _ => State.crownChange_banksInv true) _
      (State.doIf_banksInv (fun _ => State.crownChange_banksInv false) _ hs))

theorem State.settle_banksInv {s : State} (hs : s.banksInv) : s.settle.banksInv := by
  unfold State.settle
  split
  · exact hs
  · extract_lets t
    have hbefore : s.settleSeq.settlePins.settleFaults.settleSync.banksInv := by
      refine State.banksInv_of_bytes ?_ hs
      simp only [State.settleSync_bytes, State.settleFaults_bytes, State.settlePins_bytes, State.settleSeq_bytes]
    have ht : t.banksInv := by
      refine State.banksInv_of_bytes ?_ (State.settleCfg_banksInv hbefore)
      simp only [t, State.settlePower_bytes, State.settleCores_bytes, State.settleCan_bytes, State.settleData_bytes]
    refine State.doIf_banksInv (fun _ => State.revertReset_banksInv) _ (State.banksInv_of_bytes ?_ ht)
    simp only [State.burstOn_bytes, State.setBeat_cfg, State.swCommands_bytes]

theorem State.inBeat_banksInv {f : State → State} (hf : ∀ s, s.banksInv → (f s).banksInv) {s : State} (hs : s.banksInv) :
    (s.inBeat f).banksInv :=
  State.doIf_banksInv hf _ (State.settle_banksInv hs)

/-- Work within a beat that leaves the bytes alone: what the boundary owes comes first. -/
theorem State.inBeat_banksInv_of_bytes {f : State → State} (hf : ∀ s, (f s).cfg.bytes = s.cfg.bytes) {s : State} (hs : s.banksInv) :
    (s.inBeat f).banksInv :=
  State.inBeat_banksInv (fun t => State.banksInv_of_bytes (hf t)) hs

theorem State.evalThrough_banksInv (k : Nat) {s : State} (hs : s.banksInv) : (s.evalThrough k).banksInv := by
  unfold State.evalThrough
  split
  · exact State.inBeat_banksInv_of_bytes (State.evalFrom_bytes (k + 1)) hs
  · exact hs

theorem State.evalItem_banksInv (k : Nat) (due : State → Bool) {op : State → State} (h : ∀ s, (op s).cfg.bytes = s.cfg.bytes)
    {s : State} (hs : s.banksInv) : (s.evalItem k due op).banksInv := by
  unfold State.evalItem
  split
  · exact hs
  · exact State.inBeat_banksInv_of_bytes (fun t => (State.doIf_bytes h due _).trans (State.evalFrom_bytes k t)) hs

theorem State.evaluate_banksInv (usA usB : Nat) {s : State} (hs : s.banksInv) : (s.evaluate usA usB).banksInv := by
  unfold State.evaluate
  split
  · exact hs
  · split
    · exact State.inBeat_banksInv_of_bytes (fun _ => by rfl) hs
    · exact State.inBeat_banksInv_of_bytes (State.evaluation_bytes usA usB) hs

/-! The boundary (R12, R80, R305) -/

theorem State.finishBeat_banksInv {s : State} (hs : s.banksInv) : s.finishBeat.banksInv := by
  unfold State.finishBeat
  extract_lets t u
  have heval : (s.evalOwed.evalThrough (evalStages - 1)).banksInv :=
    State.evalThrough_banksInv _ (State.banksInv_of_bytes (State.evalOwed_bytes s) hs)
  refine State.banksInv_of_bytes ?_ heval
  simp only [State.doIf_bytes State.rplBeat_bytes, State.logCleared_bytes, u, State.doIf_bytes State.writeSlot_bytes,
    State.onBoth_bytes fun c => State.doIf_bytes (State.declareLoss_bytes c) _, State.doIf_bytes State.compareNow_bytes, t,
    State.onBoth_bytes fun c => State.doIf_bytes (State.overrunOp_bytes c) _, State.haltSpans_bytes]

theorem State.managementBeat_banksInv (o : BoundaryIn) {s : State} (hs : s.banksInv) : (s.managementBeat o).banksInv := by
  refine State.eraseStart_banksInv (State.banksInv_of_bytes ?_ hs)
  simp only [State.trialBoundary_bytes, State.crownBoundary_bytes, State.startBoundary_bytes, State.hostBoundary_bytes,
    State.powerBoundary_bytes, State.coreBoundary_bytes]

theorem State.nextBeat_banksInv (o : BoundaryIn) {s : State} (hs : s.banksInv) : (s.nextBeat o).banksInv := by
  refine State.banksInv_of_bytes (State.controlBeat_bytes _) (State.managementBeat_banksInv o (State.banksInv_of_bytes ?_ hs))
  simp only [State.dataBeat_bytes, State.sourcesBeat_bytes, State.activateBeat_bytes, State.endBeat_bytes]

theorem State.boundary_banksInv (o : BoundaryIn) {s : State} (hs : s.banksInv) : (s.boundary o).banksInv := by
  unfold State.boundary
  split
  · exact State.enterLow_banksInv hs
  · split
    · exact State.moduleReset_banksInv _ hs
    · exact State.nextBeat_banksInv o hs

theorem State.beatBoundary_banksInv (o : BoundaryIn) {s : State} (hs : s.banksInv) : (s.beatBoundary o).banksInv := by
  unfold State.beatBoundary
  split
  · exact State.powerFailStop_banksInv hs
  · split
    · exact hs
    · split
      · exact State.banksInv_of_bytes (State.firstBeat_bytes o s) hs
      · exact State.inBeat_banksInv (fun _ ht => State.boundary_banksInv o (State.finishBeat_banksInv ht)) hs

/-! The start (R499-R502) -/

theorem State.chooseBank_bytes (s : State) : s.chooseBank.1.cfg.bytes = s.cfg.bytes := by
  unfold State.chooseBank
  extract_lets last
  have hlast (t : State) (failed : Bool) : (last t failed).1.cfg.bytes = t.cfg.bytes := by
    simp only [last]
    split
    · rfl
    · split
      · rfl
      · exact State.bankTo_bytes _ .invalid t
  split
  · split
    · rfl
    · exact (hlast _ true).trans (State.revertTrial_bytes 4 s)
  · exact hlast s _

theorem State.loadImage_bytes (s : State) : s.loadImage.1.cfg.bytes = s.cfg.bytes := by
  unfold State.loadImage
  extract_lets j rv
  have hrv : rv.cfg.bytes = s.cfg.bytes := by
    simp only [rv]
    split
    · exact (State.revertTrial_bytes 2 j).trans (State.loadJournal_bytes s)
    · exact State.loadJournal_bytes s
  have hchosen := (State.chooseBank_bytes rv.startSwap).trans ((State.startSwap_bytes rv).trans hrv)
  generalize rv.startSwap.chooseBank = x at hchosen
  obtain ⟨t, bank, failed⟩ := x
  dsimp only
  split
  · exact (State.activation_bytes ..).trans hchosen
  · exact hchosen

theorem State.startLoad_banksInv (copiesEqual : Bool) {s : State} (hs : s.banksInv) : (s.startLoad copiesEqual).banksInv := by
  unfold State.startLoad
  split
  next t failed hx =>
  have hload : t.cfg.bytes = s.cfg.bytes := by rw [← State.loadImage_bytes s, hx]
  extract_lets none_ a b c d x y e
  have hc : c.cfg.bytes = s.cfg.bytes := by
    have hb : b.cfg.bytes = s.cfg.bytes := by
      simp only [b, runAll_bytes fun (f : Nat × Word) x => State.raiseCond_bytes f.1 f.2 x, a, State.loneMaster_bytes,
        State.startRecords_bytes, State.logRestart_bytes]
      exact (State.imageRegs_bytes t).trans hload
    simp only [c]
    split
    · split
      · exact (State.raiseCond_bytes ..).trans hb
      · exact (State.raise_bytes ..).trans hb
    · exact hb
  have he : e.banksInv := State.banksInv_of_bytes ((onlyIf_bytes (State.raiseCond_bytes 65 0) _ c).trans hc) hs
  refine State.banksInv_of_bytes (State.canStart_bytes _) (onlyIf_banksInv (fun _ => State.eraseStart_banksInv) _ ?_)
  refine State.banksInv_of_bytes ?_ he
  simp only [State.rwFollow_bytes, State.escapementReset_bytes, State.accRestart_bytes]

theorem State.startStep_banksInv (o : StartIn) {s : State} (hs : s.banksInv) : (s.startStep o).banksInv := by
  unfold State.startStep
  split
  case h_5 => exact State.banksInv_of_bytes (State.stepOn_bytes 5 _) (State.startLoad_banksInv _ hs)
  case h_7 =>
    split
    · exact hs
    · refine State.banksInv_of_bytes ?_ hs
      rw [State.stepOn_bytes, onlyIf_bytes (State.raiseCond_bytes 28 0)]
  all_goals
    refine State.banksInv_of_bytes ?_ hs
    simp

/-! Register writes and the host port (R13, R124, R465-R474) -/

theorem execHistImport_bytes (p : Path) (k : BitVec 8) (s t : State) :
    (outState (execHistImport p k s) t).cfg.bytes = s.cfg.bytes := by
  simp only [execHistImport, outState_next]
  split <;> rfl

theorem execHistRestore_bytes (p : Path) (k : BitVec 8) (s t : State) :
    (outState (execHistRestore p k s) t).cfg.bytes = s.cfg.bytes := by
  simp only [execHistRestore, outState_next]
  split
  · exact State.histRestore_bytes p s
  · rfl

/-- A write of WADDR takes a whole word's address (R124). -/
theorem State.writeLow_banksInv (p : Path) (a : Nat) (d : Word) {s : State} (hs : s.banksInv) : (s.writeLow p a d).banksInv := by
  unfold State.writeLow
  split
  case h_6 => exact State.banksInv_of_bytes (State.winWrite_bytes d s) hs
  case h_7 =>
    refine State.banksInv_of_bytes ?_ hs
    extract_lets t
    have ht : t.cfg.bytes = s.cfg.bytes := by
      simp only [t]
      split
      · exact execHistImport_bytes ..
      · rfl
    split
    · exact (execHistRestore_bytes ..).trans ht
    · exact ht
  case h_8 => exact State.banksInv_of_bytes (State.srcSelWrite_bytes ..) hs
  case h_16 => exact State.banksInv_of_bytes (State.writeRpl_bytes p d s) hs
  case h_17 => exact State.banksInv_of_bytes (State.rplIn_bytes d s) hs
  case h_18 => exact State.banksInv_of_bytes (State.writeCfgCmd_bytes p d s) hs
  case h_19 =>
    obtain ⟨h0, h1, hw⟩ := hs
    simp only [State.setCfg]
    split
    · exact ⟨h0, h1, hw⟩
    · exact ⟨h0, h1, Nat.mul_mod_left _ 4⟩
  case h_20 => exact State.wdataWrite_banksInv p d hs
  all_goals exact hs

theorem State.regWrite_banksInv (p : Path) (a : Nat) (d : Word) {s : State} (hs : s.banksInv) : (s.regWrite p a d).banksInv := by
  unfold State.regWrite
  split
  · exact hs
  · split
    · exact State.banksInv_of_bytes (State.writeObj_bytes ..) hs
    · split
      · exact State.banksInv_of_bytes (State.writeCan_bytes ..) hs
      · split
        · exact hs
        · split
          · exact hs
          · split
            · exact State.writeLow_banksInv p a d hs
            · exact State.banksInv_of_bytes (State.writeHigh_bytes ..) hs

/-- What a host transaction carries out keeps the invariant, and so does the port with the reply (R465). -/
theorem State.transact_banksInv {run : Nat → State → Nat × List Word × State} (hrun : ∀ k s, s.banksInv → (run k s).2.2.banksInv)
    (rseq : BitVec 8) (bytes : List Byte) (exempt mine : Bool) (n : Nat) {s : State} (hs : s.banksInv) :
    (s.transact rseq bytes exempt mine n run).banksInv := by
  unfold State.transact
  split
  · exact hs
  · split
    · exact State.banksInv_of_bytes (State.crcInjected_bytes rseq s) hs
    · extract_lets x u t y k o st
      have ht : t.banksInv := by
        simp only [t]
        split
        · exact hs
        · exact hs
      split
      · exact ht
      · exact State.banksInv_of_bytes (State.answered_bytes ..) (hrun k t ht)

theorem localRead_banksInv (l : List Nat) (k : Nat) (s : State) (hs : s.banksInv) : (localRead l k s).2.2.banksInv :=
  State.banksInv_of_bytes (State.hostReads_bytes _ s) hs

theorem localBurst_banksInv (l parts : List Nat) (k : Nat) (s : State) (hs : s.banksInv) : (localBurst l parts k s).2.2.banksInv := by
  refine State.banksInv_of_bytes ?_ hs
  simp only [localBurst]
  split
  · exact State.hostReads_bytes _ s
  · exact State.hostReads_bytes _ s

theorem State.hostWrites_banksInv (ws : List (Nat × Word)) {s : State} (hs : s.banksInv) : (s.hostWrites ws).banksInv := by
  refine runAll_banksInv (f := fun x t => if t.regStatus true x.1 = 1 then t.regWrite .host x.1 x.2 else t) (fun x t ht => ?_) ws hs
  split
  · exact State.regWrite_banksInv .host x.1 x.2 ht
  · exact ht

theorem localWrite_banksInv (ws : List (Nat × Word)) (k : Nat) (s : State) (hs : s.banksInv) : (localWrite ws k s).2.2.banksInv :=
  State.hostWrites_banksInv _ hs

theorem relayRun_banksInv (u : UAddr) (write : Bool) (a : BitVec 14) (d : Word) (k : Nat) (s : State) (hs : s.banksInv) :
    (relayRun u write a d k s).2.2.banksInv := by
  unfold relayRun State.relayRequest
  repeat' split
  all_goals exact hs

theorem State.hostRead_banksInv (rseq unit : BitVec 8) (a : BitVec 14) {s : State} (hs : s.banksInv) :
    (s.hostRead rseq unit a).banksInv := by
  refine State.transact_banksInv (fun k t ht => ?_) _ _ _ _ _ hs
  split
  · exact localRead_banksInv _ k t ht
  · exact relayRun_banksInv _ _ _ _ k t ht

theorem State.hostWrite_banksInv (rseq unit : BitVec 8) (a : BitVec 14) (d : Word) {s : State} (hs : s.banksInv) :
    (s.hostWrite rseq unit a d).banksInv := by
  refine State.transact_banksInv (fun k t ht => ?_) _ _ _ _ _ hs
  split
  · exact localWrite_banksInv _ k t ht
  · exact relayRun_banksInv _ _ _ _ k t ht

theorem State.hostBurstRead_banksInv (rseq unit : BitVec 8) (a : BitVec 14) (fix : Bool) (n : Nat) (parts : List Nat) {s : State}
    (hs : s.banksInv) : (s.hostBurstRead rseq unit a fix n parts).banksInv := by
  refine State.transact_banksInv (fun k t ht => ?_) _ _ _ _ _ hs
  split
  · cases burstAddrs fix a.toNat n with
    | some l => exact localBurst_banksInv l parts k t ht
    | none => exact ht
  · exact ht

theorem State.hostBurstWrite_banksInv (rseq unit : BitVec 8) (a : BitVec 14) (fix : Bool) (words : List Word) {s : State}
    (hs : s.banksInv) : (s.hostBurstWrite rseq unit a fix words).banksInv := by
  refine State.transact_banksInv (fun k t ht => ?_) _ _ _ _ _ hs
  split
  · cases burstAddrs fix a.toNat words.length with
    | some l => exact localWrite_banksInv _ k t ht
    | none => exact ht
  · exact ht

theorem State.hostFrame_banksInv (l : List Byte) {s : State} (hs : s.banksInv) : (s.hostFrame l).banksInv := by
  unfold State.hostFrame
  split
  · exact hs
  · split
    · exact State.banksInv_of_bytes (State.hostFraming_bytes s) hs
    · split
      · unfold State.hostOp
        dsimp only
        split
        · exact State.hostRead_banksInv _ _ _ hs
        · exact State.hostWrite_banksInv _ _ _ _ hs
        · exact State.hostBurstRead_banksInv _ _ _ _ _ _ hs
        · exact State.hostBurstWrite_banksInv _ _ _ _ _ hs
      · exact State.banksInv_of_bytes (State.hostCrcFails_bytes _ s) hs

/-! Register writes over the ring (R409, R426) -/

theorem State.ringAccess_banksInv (e : RingEnt) {s : State} (hs : s.banksInv) : (s.ringAccess e).2.banksInv := by
  unfold State.ringAccess
  dsimp only
  split
  · exact hs
  · split
    · exact State.regWrite_banksInv .ring _ _ hs
    · exact State.banksInv_of_bytes (State.afterRead_bytes ..) hs

theorem State.ownEntry_banksInv (e : RingEnt) {s : State} (hs : s.banksInv) : (s.ownEntry e).2.banksInv := by
  unfold State.ownEntry
  split
  · exact State.ringAccess_banksInv e hs
  · exact hs

theorem State.mfEntry_banksInv (e : RingEnt) (s : State) (hs : s.banksInv) : (s.mfEntry e).banksInv := by
  unfold State.mfEntry
  split
  · exact hs
  · split
    · exact State.banksInv_of_bytes (State.staleNotice_bytes e s) hs
    · split
      · exact State.ownEntry_banksInv e hs
      · exact hs

theorem State.kfEntry_banksInv (e : RingEnt) (s : State) (hs : s.banksInv) : (s.kfEntry e).banksInv := by
  unfold State.kfEntry
  split
  · exact hs
  · split
    · exact State.ownEntry_banksInv e hs
    · exact hs

theorem State.mfTake_banksInv (ns err : Int) (p : RPort) (l : List Byte) {s : State} (hs : s.banksInv) :
    (s.mfTake ns err p l).banksInv := by
  unfold State.mfTake
  extract_lets t
  split
  · exact hs
  · refine runAll_banksInv State.mfEntry_banksInv _ (State.banksInv_of_bytes (s := t) ?_ hs)
    simp only [State.takeFields_bytes, State.takeMarker_bytes]

theorem State.kfTake_banksInv (l : List Byte) {s : State} (hs : s.banksInv) : (s.kfTake l).banksInv := by
  unfold State.kfTake
  split
  · exact hs
  · extract_lets t u
    have hu : u.banksInv := State.banksInv_of_bytes (State.kfOwn_bytes l t) hs
    split
    · exact hs
    · split
      · exact runAll_banksInv State.kfEntry_banksInv _ hu
      · exact hu

end Sys2Proof.Machine
end

section

/-! PROOFS. Every command keeps the banks canonical. -/

namespace Sys2Proof.Machine

open Sys2Proof

/-! What a command answers -/

/-- The command answers a state, and its banks are canonical and its write address aligned if they were (R109, R124, R135). -/
def State.KeepsBanks (s : State) (o : Host.Outcome State Fault Refusal) : Prop := ∃ t, o = .next t ∧ (s.banksInv → t.banksInv)

namespace State.KeepsBanks

variable {s t : State}

theorem inv (h : s.banksInv → t.banksInv) : s.KeepsBanks (.next t) := ⟨t, rfl, h⟩

theorem same (h : t.cfg.bytes = s.cfg.bytes) : s.KeepsBanks (.next t) := inv (State.banksInv_of_bytes h)

/-- A row of the table that acts when it is due. -/
theorem dueInv {c : Prop} [Decidable c] (h : s.banksInv → t.banksInv) : s.KeepsBanks (.next (if c then t else s)) := by
  split
  · exact inv h
  · exact inv id

theorem due {c : Prop} [Decidable c] (h : t.cfg.bytes = s.cfg.bytes) : s.KeepsBanks (.next (if c then t else s)) :=
  dueInv (State.banksInv_of_bytes h)

/-- A row of a boundary (R305). -/
theorem row {due : State → Bool} {op : State → State} (h : ∀ s, (op s).cfg.bytes = s.cfg.bytes) :
    s.KeepsBanks (.next (s.boundaryRow due op)) :=
  same (State.boundaryRow_bytes h due s)

/-- A stage of the evaluation (R31). -/
theorem stage (k : Nat) : s.KeepsBanks (.next (s.evalThrough k)) := inv (State.evalThrough_banksInv k)

/-- An item of a stage (R31). -/
theorem item {k : Nat} {due : State → Bool} {op : State → State} (h : ∀ s, (op s).cfg.bytes = s.cfg.bytes) :
    s.KeepsBanks (.next (s.evalItem k due op)) :=
  inv (State.evalItem_banksInv k due h)

end State.KeepsBanks

/-! Commands whose meaning is more than one operation -/

theorem execSubBeat_keepsBanks (o : SubBeatIn) (s : State) : s.KeepsBanks (execSubBeat o s) := by
  refine .inv fun hs => State.vsSample_banksInv o.vs o.reserve ?_
  split
  · exact State.inBeat_banksInv_of_bytes (fun t => (State.subBeatOf_bytes ..).trans (State.subBeatReady_bytes t)) hs
  · exact hs

theorem execWindowClose_keepsBanks (w : Fin 4) (o : WindowIn) (s : State) : s.KeepsBanks (execWindowClose w o s) := by
  refine .same ?_
  have ht : (if s.edgeWaits w.val then s.fallBack (usTicks (s.winOfs w.val) + 1) else s).cfg.bytes = s.cfg.bytes := by
    split
    · exact State.fallBack_bytes ..
    · rfl
  generalize (if s.edgeWaits w.val then s.fallBack (usTicks (s.winOfs w.val) + 1) else s) = t at ht
  split
  · simpa using ht
  · exact ht

theorem execBankErase_keepsBanks (b : Bool) (s : State) : s.KeepsBanks (execBankErase b s) := by
  refine .inv fun hs => ?_
  have ht : (if s.cfg.work = .none ∧ s.eraseDue = some b then s.eraseStart else s).banksInv := by
    split
    · exact State.eraseStart_banksInv hs
    · exact hs
  generalize (if s.cfg.work = .none ∧ s.eraseDue = some b then s.eraseStart else s) = t at ht
  split
  · exact State.eraseEnd_banksInv ht
  · exact hs

theorem execThermistorConversion_keepsBanks (vals : List (Option (BitVec 16))) (retried : BitVec 4) (die : List (Option Int))
    (s : State) : s.KeepsBanks (execThermistorConversion vals retried die s) := by
  refine .same ?_
  rw [runAll_bytes fun n => State.raiseTransient_bytes 30 (nword n), runAll_bytes fun n => State.raise_bytes 30 (nword n)]
  repeat' split
  all_goals simp

theorem execInsulationCycleStart_keepsBanks (ohm : Nat) (s : State) : s.KeepsBanks (execInsulationCycleStart ohm s) := by
  refine .same ?_
  have ht : (if s.isoResultDue then s.isoResult else s).cfg.bytes = s.cfg.bytes := by
    split <;> simp
  generalize (if s.isoResultDue then s.isoResult else s) = t at ht
  dsimp only
  repeat' split
  all_goals simpa using ht

theorem execLinkRetry_keepsBanks (g : Fin 4) (c : Ch) (item : LinkItem) (ok : Bool) (s : State) :
    s.KeepsBanks (execLinkRetry g c item ok s) := by
  unfold execLinkRetry
  dsimp only
  repeat' split
  all_goals exact .same (by simp)

theorem execMemoryReadRetry_keepsBanks (m : Mem) (w : Nat) (ok : Bool) (s : State) : s.KeepsBanks (execMemoryReadRetry m w ok s) := by
  unfold execMemoryReadRetry
  repeat' split
  all_goals exact .same (by simp)

theorem execNrstAssert_keepsBanks (lowUs : Nat) (s : State) : s.KeepsBanks (execNrstAssert lowUs s) := by
  refine .inv fun hs => ?_
  split
  · exact State.banksInv_of_bytes rfl hs
  split
  · exact hs
  split
  · exact State.nrstReset_banksInv hs
  have ht : (s.setPwr fun p => { p with shorts := p.shorts + 1 }).banksInv := State.banksInv_of_bytes rfl hs
  split
  · exact State.nrstReset_banksInv ht
  · exact ht

theorem execSupplyGood_keepsBanks (vs : Nat) (s : State) : s.KeepsBanks (execSupplyGood vs s) := by
  unfold execSupplyGood
  refine .same ?_
  repeat' split
  all_goals rfl

/-- The frame that a command takes from the receive FIFO leaves the rest as it is (R400). -/
theorem State.rxPop_bytes {s t : State} {type : Nat} {f : RxFrame} (h : s.rxPop type = some (f, t)) : t.cfg.bytes = s.cfg.bytes := by
  unfold State.rxPop at h
  split at h
  · exact absurd h (by simp)
  · simp only [Option.some.injEq, Prod.mk.injEq] at h
    obtain ⟨-, rfl⟩ := h
    rfl

/-- A command that takes the next frame of its type (R400). -/
theorem State.KeepsBanks.frame {s : State} {type : Nat} {take : RxFrame → State → State}
    (h : ∀ f t, t.banksInv → (take f t).banksInv) :
    s.KeepsBanks (.next (match s.rxPop type with | none => s | some (f, t) => take f t)) := by
  refine .inv fun hs => ?_
  split
  · exact hs
  · next f t hx => exact h f t (State.banksInv_of_bytes (State.rxPop_bytes hx) hs)

theorem execErReceive_keepsBanks (s : State) : s.KeepsBanks (execErReceive s) := by
  refine .frame fun f t => ?_
  split
  · split
    · exact State.banksInv_of_bytes (State.erTrunk_bytes ..)
    · exact id
  · split
    · exact id
    · exact State.banksInv_of_bytes (State.erTake_bytes ..)

/-- The response of the boundary (R409). -/
theorem State.rfSend_bytes (s v : State) : (s.rfSend v).cfg.bytes = s.cfg.bytes := by
  simp [State.rfSend]

/-- Every command of the table keeps the banks canonical. -/
theorem exec_keepsBanks (i : Instr) (s : State) : s.KeepsBanks (exec i s) := by
  cases i with
  | beatBoundary o => exact .inv (State.beatBoundary_banksInv _)
  | subBeat o => exact execSubBeat_keepsBanks o s
  | windowClose w o => exact execWindowClose_keepsBanks w o s
  | balancingGate w => exact .same rfl
  | evaluation usA usB => exact .inv (State.evaluate_banksInv _ _)
  | beatOverrun ch => exact .due (State.overrunOp_bytes ..)
  | crossComparison recA recB => exact .due (State.crossCompare_bytes ..)
  | syncRisingEdge ofs interval dev => exact .same (State.risingEdge_bytes ..)
  | syncFallingEdge ofs => exact .same (State.fallingEdge_bytes ..)
  | enterAcquiring => exact .due (State.acquire_bytes ..)
  | enterLocked => exact .due (State.lockOn_bytes ..)
  | enterHoldover => exact .due (State.holdover_bytes ..)
  | beatSourceLost => exact .due (State.sourceLost_bytes ..)
  | srcSelWrite path v => exact .same (State.srcSelWrite_bytes ..)
  | sbOfsResync => exact .due (State.resync_bytes ..)
  | rplStart path bank rawCell => exact .same (State.rplStart_bytes ..)
  | rplStop path => exact .same (State.rplStop_bytes 3 s)
  | replayRecord bytes => exact .same (State.rplRecord_bytes ..)
  | replayBeat => exact .due (State.rplBeat_bytes ..)
  | rplOutRead path => exact .same (State.rplOutTake_bytes ..)
  | cfgOpen path key => exact .same (execCfgOpen_bytes path key s s)
  | cfgVerify path key => exact .same (execCfgVerify_bytes path key s s)
  | verifyComplete => exact .due (State.verifyEnd_bytes ..)
  | cfgCommit path key => exact .same (execCfgCommit_bytes path key s s)
  | commitDigestComplete => exact .due (State.commitEnd_bytes ..)
  | cfgConfirm path key => exact .same (execCfgConfirm_bytes path key s s)
  | cfgRollback path key => exact .same (execCfgRollback_bytes path key s s)
  | cfgAbort path key => exact .same (execCfgAbort_bytes path key s s)
  | otpKey path key => exact .same (execOtpKey_bytes path key s s)
  | cfgWdataWrite path data => exact .inv (State.wdataWrite_banksInv _ _)
  | crownSwitchChange second => exact .dueInv (State.crownChange_banksInv _)
  | crownDisagreement => exact .dueInv State.crownDiffer_banksInv
  | trialCheckpoint => exact .due (State.trialCheckpoint_bytes ..)
  | trialExpiry => exact .due (State.expire_bytes ..)
  | revertReset => exact .dueInv State.revertReset_banksInv
  | bankErase bank => exact execBankErase_keepsBanks bank s
  | thermistorConversion vals retried die => exact execThermistorConversion_keepsBanks vals retried die s
  | insulationCycleStart peOhm => exact execInsulationCycleStart_keepsBanks peOhm s
  | insulationPhaseChange => exact .due (State.isoPhase_bytes ..)
  | referenceSwitchClose => exact .same (State.isoClose_bytes _)
  | insulationResult => exact .due (State.isoResult_bytes ..)
  | measSnap path on => exact .same rfl
  | loReadLatch path r => exact .same (State.latchHi_bytes ..)
  | openWirePass => exact .due (State.startPass_bytes ..)
  | openWireSlot seg => exact .due (State.startSlot_bytes ..)
  | openWireSuspect seg pin => exact .item (State.suspect_bytes _ _)
  | targetedSlot seg => exact .due (State.startSlot_bytes ..)
  | openWireGraceExpiry seg pin => exact .item (State.graceExpire_bytes _ _)
  | openWireClear seg pin => exact .due (State.wireClear_bytes ..)
  | checkDisagreement cell => exact .item (State.checkDiff_bytes _)
  | sumMismatch => exact .stage _
  | linkRetry seg ch item ok => exact execLinkRetry_keepsBanks seg ch item ok s
  | memoryReadRetry mem word ok => exact execMemoryReadRetry_keepsBanks mem word ok s
  | scrub mem symbols => exact .same rfl
  | balTimeout => exact .due (State.balTimeout_bytes ..)
  | switchOvercurrent cell => exact .same (State.overcurrent_bytes ..)
  | switchNoCurrent cell => exact .due (State.noCurrent_bytes ..)
  | switchConductsOff cell => exact .due (State.conducts_bytes ..)
  | wireCalStart path key => exact .same rfl
  | wireCalAbort path key => exact .same (execWireCalAbort_bytes path key s s)
  | wireCalComplete => exact .due (State.calEnd_bytes ..)
  | excitationRunStart => exact .due (State.runStart_bytes ..)
  | excitationToggle => exact .same rfl
  | excitationRunStop => exact .due (State.runStop_bytes ..)
  | impedanceBlockEnd slot => exact .item (State.blockEnd_bytes _)
  | currentRequest => exact .same ((State.reqStart_bytes _).trans (State.reqWithdraw_bytes s))
  | sweepStart path nf => exact .same (State.sweepStart_bytes ..)
  | sweepEnd => exact .due (State.sweepEnd_bytes ..)
  | fullAnchor => exact .stage _
  | emptyAnchor => exact .stage _
  | voltageAnchor => exact .stage _
  | anchorStarvation => exact .stage _
  | healthWarningClear => exact .stage _
  | cadenceChange => exact .due (State.cadenceChange_bytes ..)
  | cycleCountStore => exact .stage _
  | swapDetected => exact .stage _
  | recordSelect => exact .stage _
  | protClose => exact .row (State.closeOp_bytes)
  | protOpen => exact .row (State.openOp_bytes)
  | safeAcknowledge => exact .row (State.ackOp_bytes)
  | cmdTelegram tel => exact .due (State.cmdTake_bytes ..)
  | protectionLevelChange => exact .stage _
  | preClose => exact .row (State.onChans_bytes State.preClose_bytes _)
  | commitPoint => exact .row (State.onChans_bytes State.commit_bytes _)
  | preOpen => exact .row (State.onChans_bytes State.preOpen_bytes _)
  | failureToCloseCheck => exact .stage _
  | prechargeTimeout => exact .stage _
  | prechargeCoolEnd => exact .row (State.onChans_bytes State.coolEnd_bytes _)
  | curfreeTimeout => exact .row (State.onChans_bytes State.curfree_bytes _)
  | negOpen => exact .row (State.onChans_bytes State.negOpen_bytes _)
  | weldTimeout => exact .stage _
  | mirrorCheck out => exact .item (State.onBoth_bytes (State.mirrorOut_bytes _))
  | unrequestedOpening => exact .stage _
  | coilOvercurrent out => exact .same (State.raiseCond_bytes ..)
  | pullinEnd out => exact .row (State.pullinEnd_bytes _)
  | coilSupplyLow => exact .due (State.coilLow_bytes ..)
  | inputChange inp ch => exact .item (State.inputChange_bytes _ _)
  | monitorWordMissing pos ch => exact .same (State.wordMissing_bytes ..)
  | channelLoss declarer => exact .due (State.declareLoss_bytes ..)
  | mutualLoss => exact .row (State.mutualLoss_bytes)
  | holdLapse out side => exact .row (State.lapse_bytes _ _)
  | rundownWarning => exact .row (State.onChans_bytes State.rdWarn_bytes _)
  | rundownExpiry => exact .row (State.onChans_bytes State.rdExpire_bytes _)
  | testPulse => exact .due (State.startPulse_bytes _)
  | testPulseEnd during coilMax restored => exact .same (State.endPulse_bytes ..)
  | inputTestGap ch levels => exact .due (State.inputTest_bytes ..)
  | inputDiscrepancy inp => exact .item (State.discrepancy_bytes _)
  | hostLost => exact .due (State.setHostLost_bytes ..)
  | safeTelegramSend tel => exact .same (State.telSend_bytes ..)
  | safeTelegramReceive port f => exact .same (State.telReceive_bytes ..)
  | pairJudgement tel => exact .item (State.telJudged_bytes _)
  | telegramLost tel => exact .item (State.telTimed_bytes _)
  | lockstepMismatch ch cls => exact .due (State.mismatch_bytes ..)
  | coreSplit ch => exact .row (State.splitOp_bytes _)
  | coreJoin ch => exact .row (State.joinOp_bytes _)
  | joinCopy ch flagged missed => exact .due (State.joinCopy_bytes ..)
  | debugSessionOpen ch => exact .same rfl
  | debuggerWrite target addr value met => exact .same (State.dbgWrite_bytes ..)
  | debugHalt edge => exact .due (State.debugHalt_bytes ..)
  | faultRaise fs transient detail ofsNs => exact .due (by split <;> simp)
  | severityExpiry fs => exact .due (State.sevClear_bytes ..)
  | blockResetEnd blk cal => exact .due (State.blkEnd_bytes ..)
  | handlingClose path key => exact .due (State.closeHandling_bytes ..)
  | handlingTimeout => exact .due (State.closeHandling_bytes ..)
  | resetLoopRelease path key => exact .due (State.releaseLoop_bytes ..)
  | latchClear => exact .same (State.latchClear_bytes ..)
  | fltInj path key full target => exact .same (State.inject_bytes ..)
  | injectionResult flagged => exact .same (State.injResult_bytes ..)
  | thermalEvaluation => exact .stage _
  | excursionOutOfRating => exact .stage _
  | portUp p => exact .due (State.portComesUp_bytes ..)
  | portDown p fail => exact .same rfl
  | delayExchange p sentNs backNs => exact .same rfl
  | ringFrameReceive p bytes markedBad => exact .same (State.receive_bytes ..)
  | mfSend => exact .due (State.mfSendAll_bytes ..)
  | mfReceive arrivalNs phaseErr => exact .frame fun f _ => State.mfTake_banksInv _ _ f.port f.bytes
  | cfSend => exact .due (State.sendFrame_bytes ..)
  | cfReceive => exact .frame fun f t => State.banksInv_of_bytes (by split <;> rfl)
  | rfSend => exact .due (State.rfSend_bytes ..)
  | rfJudgement unit => exact .same (State.rfJudge_bytes ..)
  | rrReceive => exact .frame fun f t => State.banksInv_of_bytes (State.rfResend_bytes ..)
  | enum path key => exact .due rfl
  | enumeration arcN arcS serials => exact .due (State.enumerate_bytes ..)
  | erReceive => exact execErReceive_keepsBanks s
  | masterStartListen => exact .same (State.startListen_bytes ..)
  | standbyTakeover => exact .due (State.takeover_bytes _)
  | masterYield => exact .same (State.yieldJudge_bytes ..)
  | ringStateChange => exact .same (State.strChange_bytes ..)
  | ringSilence => exact .due (State.ringSilent_bytes ..)
  | tfSend => exact .due (State.sendFrame_bytes ..)
  | tfReceive => exact .frame fun f t => State.banksInv_of_bytes (State.tfTake_bytes ..)
  | kfSend => exact .due (State.kfSend_bytes ..)
  | kfReceive => exact .frame fun f _ => State.kfTake_banksInv f.bytes
  | majorityChange => exact .due (State.majorityChange_bytes ..)
  | coordinatorTakeover => exact .due (State.coordinate_bytes ..)
  | canPeriodicQueue port k => exact .same (State.queueDue_bytes ..)
  | objSend port k key => exact .due (State.objSend_bytes ..)
  | objCancel port k key => exact .due (State.objCancel_bytes ..)
  | canFrameEnd port k how ofs loopDelay => exact .same (State.frameEnd_bytes ..)
  | canFrameReceive port f endNs => exact .same (State.canReceive_bytes ..)
  | fifoPop path port second => exact .same rfl
  | fifoFlush path port key f0 f1 => exact .due rfl
  | odata0Read path port => exact .same (State.odata0Read_bytes ..)
  | canErrorState port tec rec err => exact .same (State.canError_bytes ..)
  | busOffRecovery port recessive => exact .same (State.canRecover_bytes ..)
  | canWake port pattern bad frame => exact .same (foldl_bytes (fun t x => State.canWake_bytes _ x t) _ s)
  | referenceSend us cycles => exact .same (State.refSend_bytes ..)
  | referenceReceive f interval dev => exact .same (State.refReceive_bytes ..)
  | ttMasterResume => exact .due (State.ttResume_bytes ..)
  | calReceive f calSec calFrac => exact .same (State.calReceive_bytes ..)
  | hostRead rseq unit addr => exact .inv (State.hostRead_banksInv _ _ _)
  | hostWrite rseq unit addr data => exact .inv (State.hostWrite_banksInv _ _ _ _)
  | hostBurstRead rseq unit addr fix burst => exact .inv (State.hostBurstRead_banksInv _ _ _ _ _ _)
  | hostBurstWrite rseq unit addr fix words => exact .inv (State.hostBurstWrite_banksInv _ _ _ _ _)
  | hostCrcError bytes => exact .inv (State.hostFrame_banksInv _)
  | hostFramingError => exact .same (by split <;> simp)
  | hostPop path seq => exact .same rfl
  | remoteAnswer tag status addr data => exact .same (by rw [State.remoteAnswer_bytes]; repeat' split <;> simp)
  | remoteTimeout tag => exact .same (State.remoteTimeout_bytes ..)
  | recorderWriteSlot => exact .due (State.writeSlot_bytes ..)
  | logClear path key => exact .same rfl
  | logClearComplete => exact .same (State.logCleared_bytes ..)
  | logRd0Read path => exact .same rfl
  | calendarSet path frac => exact .same (State.setCalendar_bytes ..)
  | supplyGood vs => exact execSupplyGood_keepsBanks vs s
  | interruptionBegin vs => exact .inv (State.intrBegin_banksInv _)
  | interruptionEnd vs => exact .due (State.intrOver_bytes ..)
  | powerFailStop reserve => exact .dueInv State.powerFailStop_banksInv
  | nrstAssert lowUs => exact execNrstAssert_keepsBanks lowUs s
  | nrstRelease => exact .same (by split <;> rfl)
  | nrstStuck => exact .due rfl
  | nrstIgnClear => exact .due rfl
  | pwrListen => exact .due (State.pwrRequest_bytes ..)
  | pwrDormant => exact .due (State.pwrRequest_bytes ..)
  | listenTimeout => exact .due (State.pwrRequest_bytes ..)
  | dormantTimeout => exact .due rfl
  | listenVsLow vs => exact .due rfl
  | dormantStackLow vstkMv => exact .dueInv State.toOff_banksInv
  | wake sources => exact .same (State.wake_bytes ..)
  | startSequence o => exact .inv (State.startStep_banksInv _)
  | startStepEnd ms => exact .due (State.startEnd_bytes ..)
  | moduleReset => exact .dueInv (State.moduleReset_banksInv _)
  | pmcSelWrite path idx src => exact .same (State.stage_bytes ..)
  | pmcSnap path on => exact .same rfl
  | histCopy unit words => exact .due (runAll_bytes (fun _ _ => by split <;> rfl) _ s)
  | histRestore path key => exact .due (State.histRestore_bytes ..)
  | histImport path key => exact .due rfl
  | histWinAccess path wr => exact .same (by split <;> simp)
  | registerWrite path addr data => exact .inv (State.regWrite_banksInv _ _ _)
  | crownAgreement => exact .due (State.crownAgree_bytes ..)
  | crystalFailure ch => exact .same (State.crystalFails_bytes ..)

/-- A command that leaves every bank's bytes and the write address alone, or that keeps them so, ends in canonical banks. -/
theorem State.KeepsBanks.next {s t : State} {o : Host.Outcome State Fault Refusal} (h : s.KeepsBanks o) (hs : s.banksInv)
    (ht : o = .next t) : t.banksInv := by
  obtain ⟨u, rfl, hu⟩ := h
  exact Host.Outcome.next.inj ht ▸ hu hs

end Sys2Proof.Machine

namespace Sys2Proof.Proofs

open Sys2Proof Sys2Proof.Machine

/-- Settles O3: each command answers a state whose banks are canonical. -/
theorem banksCanonical : Obligations.BanksCanonical := by
  unfold Obligations.BanksCanonical
  intro s t hs ht
  unfold step at ht
  split at ht
  · exact Host.Outcome.next.inj ht ▸ hs
  · next c rest _ => exact (exec_keepsBanks c { s with pending := rest }).next hs ht

end Sys2Proof.Proofs
end

section
/-! PROOFS. How fault status clears: SEVERITY_EXPIRY, LATCH_CLEAR (R367, R369). -/

namespace Sys2Proof.Machine

/-- The W1C writes leave presence, severity and the counted events alone, and clear SEVL only where SEVP is 0 (R367). -/
theorem FsSrc.w1c_severity (latch sevl : Bool) (x : FsSrc) :
    (x.w1c latch sevl false).sevl = (x.sevl && !(sevl && !x.sevp)) ∧ (x.w1c latch sevl false).pres = x.pres ∧
    (x.w1c latch sevl false).sevp = x.sevp ∧ (x.w1c latch sevl false).ev = x.ev := by
  have hlatch (y : FsSrc) : y.clearLatch.sevl = y.sevl ∧ y.clearLatch.pres = y.pres ∧ y.clearLatch.sevp = y.sevp ∧
      y.clearLatch.ev = y.ev := by
    unfold FsSrc.clearLatch
    split <;> exact ⟨rfl, rfl, rfl, rfl⟩
  have hsevl : (x.w1cSevl sevl false).sevl = (x.sevl && !(sevl && !x.sevp)) ∧ (x.w1cSevl sevl false).pres = x.pres ∧
      (x.w1cSevl sevl false).sevp = x.sevp ∧ (x.w1cSevl sevl false).ev = x.ev := by
    cases sevl
    · simp [FsSrc.w1cSevl]
    · cases hp : x.sevp <;> simp [FsSrc.w1cSevl, FsSrc.clearSevl, FsSrc.pres, hp]
  cases latch
  · exact hsevl
  · obtain ⟨lsevl, lpres, lsevp, lev⟩ := hlatch (x.w1cSevl sevl false)
    obtain ⟨vsevl, vpres, vsevp, vev⟩ := hsevl
    exact ⟨lsevl.trans vsevl, lpres.trans vpres, lsevp.trans vsevp, lev.trans vev⟩

/-- Changes at a list of positions, where a second change at a position adds nothing. -/
theorem runAll_modify_getElem? {α : Type} {f : α → α} (hf : ∀ x, f (f x) = f x) (is : List Nat) (l : List α) (k : Nat) :
    (runAll (fun i l => l.modify i f) is l)[k]? = if k ∈ is then l[k]?.map f else l[k]? := by
  induction is generalizing l with
  | nil => rfl
  | cons i is ih =>
    rw [show runAll (fun i l => l.modify i f) (i :: is) l = runAll (fun i l => l.modify i f) is (l.modify i f) from rfl, ih]
    by_cases hk : i = k
    · subst hk
      have hcomp : f ∘ f = f := funext hf
      by_cases hi : i ∈ is <;> simp [hi, hcomp]
    · simp [hk, Ne.symm hk]

theorem FsSrc.clearLatch_clearLatch (x : FsSrc) : x.clearLatch.clearLatch = x.clearLatch := by
  cases h : x.pres
  · simp [FsSrc.clearLatch, h]
  · simp [FsSrc.clearLatch, h]

theorem FsSrc.clearSevl_clearSevl (x : FsSrc) : x.clearSevl.clearSevl = x.clearSevl := by
  cases h : x.sevp
  · simp [FsSrc.clearSevl, h]
  · simp [FsSrc.clearSevl, h]

/-- The writes of LATCH and SEVL reach different bits, so their order does not matter. -/
theorem FsSrc.clearSevl_clearLatch (x : FsSrc) : x.clearLatch.clearSevl = x.clearSevl.clearLatch := by
  by_cases hs : x.sevp = true
  · have hsevp : x.clearLatch.sevp = true := by
      unfold FsSrc.clearLatch
      split <;> exact hs
    rw [FsSrc.clearSevl, if_pos hsevp, FsSrc.clearSevl, if_pos hs]
  · have hpres : FsSrc.pres { x with sevl := false } = x.pres := rfl
    have hclear : x.clearSevl = { x with sevl := false } := if_neg hs
    rw [hclear, FsSrc.clearLatch, FsSrc.clearLatch, hpres]
    by_cases hp : x.pres = true
    · rw [if_pos hp, if_pos hp, hclear]
    · rw [if_neg hp, if_neg hp, FsSrc.clearSevl, if_neg hs]

/-- The staged writes do to each source what they would do before a raise (R14, R367). -/
theorem State.latchClear_fs (s : State) (k : Nat) :
    s.latchClear.fs k = (s.fs k).w1c (s.flt.w1cLatch.contains k) (s.flt.w1cSevl.contains k) false := by
  simp only [State.latchClear, State.fs, runAll_modify_getElem? FsSrc.clearLatch_clearLatch,
    runAll_modify_getElem? FsSrc.clearSevl_clearSevl]
  cases s.flt.src[k]? with
  | none =>
    simp only [Option.map_none, ite_self, Option.getD_none]
    exact (FsSrc.w1c_empty ..).symm
  | some x =>
    by_cases hl : k ∈ s.flt.w1cLatch <;> by_cases hv : k ∈ s.flt.w1cSevl <;>
      simp [hl, hv, FsSrc.w1c, FsSrc.w1cSevl, FsSrc.clearSevl_clearLatch]

theorem State.sevDue_eq (n : Nat) (s : State) :
    s.sevDue n = ((s.fs n).sevp && !severe (s.nat .N n) (s.nat .W n) s.beat.num (s.fs n).ev) := rfl

/-- The end of a severity rewrites its source (R369). -/
theorem State.sevClear_eq {n : Nat} {s : State} (hn : n < s.flt.src.length) :
    s.sevClear n = { s with flt := { s.flt with src := s.flt.src.set n { s.fs n with sevp := false } } } := by
  rw [State.sevClear, modify_eq_set (List.getElem?_eq_getElem hn)]
  simp [State.fs, hn]

theorem exec_severityExpiry (fs : Fin 128) (s : State) :
    exec (.severityExpiry fs) s = .next (if s.sevDue fs = true then s.sevClear fs else s) := rfl

theorem exec_latchClear (s : State) : exec .latchClear s = .next s.latchClear := rfl

end Sys2Proof.Machine
end

section
/-! PROOFS. The end of a block's reset: BLOCK_RESET_END (R142, R372, R440). -/

namespace Sys2Proof.Machine

/-- Beside a segment die, a block leaves its reset when its hold time has passed (R372). -/
theorem blkOver_plain {b : Blk} (hb : ∀ g, b ≠ .segment g) (x : Blk × Nat) : blkOver b x = (x.1 == b && x.2 == 0) := by
  cases b with
  | segment g => exact absurd rfl (hb g)
  | _ => simp [blkOver]

/-- A segment die leaves its reset as soon as its restart of at most 50 beats is done (R372). -/
theorem blkOver_segment (g : Fin 4) (x : Blk × Nat) : blkOver (.segment g) x = (x.1 == .segment g && decide (x.2 < 50)) := by
  have hlast : (x.2 == 0 || decide (x.2 < 50)) = decide (x.2 < 50) := by
    rcases Nat.eq_zero_or_pos x.2 with h | h
    · simp [h]
    · simp [h.ne']
  rw [← hlast]
  rfl

theorem exec_blockResetEnd_over {b : Blk} {n : Nat} {s : State} (hmem : (b, n) ∈ s.flt.blk) (hover : blkOver b (b, n) = true)
    (c : CalIn) : exec (.blockResetEnd b c) s = .next (s.blkEnd c b) := by
  have hends : s.blkEnds b = true := List.any_eq_true.2 ⟨_, hmem, hover⟩
  show Host.Outcome.next (if s.blkEnds b = true then s.blkEnd c b else s) = _
  rw [if_pos hends]

/-- A block that must stay in its reset stays there. -/
theorem exec_blockResetEnd_held {b : Blk} {s : State} (h : ∀ x ∈ s.flt.blk, blkOver b x = false) (c : CalIn) :
    exec (.blockResetEnd b c) s = .next s := by
  have hends : s.blkEnds b = false := List.any_eq_false.2 fun x hx => by simp [h x hx]
  show Host.Outcome.next (if s.blkEnds b = true then s.blkEnd c b else s) = _
  rw [hends]
  rfl

/-- The state in which a block resumes: of the list of blocks in reset its entries are gone. -/
def State.unblocked (b : Blk) (s : State) : State :=
  { s with flt := { s.flt with blk := s.flt.blk.filter fun x => !blkOver b x } }

/-- A CAN controller that leaves its reset integrates anew with its counters at 0 (R440). -/
def CanS.rejoin (c : CanS) : CanS :=
  { c with state := if c.state = .off then .off else .integrating, left := 0, holdRun := false, rxErr := 0, txErr := 0
           obj := c.obj.map ObjS.offBus }

theorem State.blkEnd_can (c : CalIn) (p : CPort) (s : State) :
    s.blkEnd c (.can p) = ((s.unblocked (.can p)).setCan p CanS.rejoin).endCond (canFs p) := rfl

theorem State.blkEnd_segment (c : CalIn) (g : Fin 4) (s : State) :
    s.blkEnd c (.segment g) = (s.unblocked (.segment g)).calSegment g c := rfl

/-- The other blocks resume without more (R372). -/
theorem State.blkEnd_plain {b : Blk} (hc : ∀ p, b ≠ .can p) (hg : ∀ g, b ≠ .segment g) (c : CalIn) (s : State) :
    s.blkEnd c b = s.unblocked b := by
  cases b with
  | can p => exact absurd rfl (hc p)
  | segment g => exact absurd rfl (hg g)
  | _ => rfl

theorem ObjS.offBus_txs (o : ObjS) : o.offBus.txs ≠ .onBus := by
  unfold ObjS.offBus
  split
  · simp
  · exact ‹o.txs ≠ .onBus›

theorem CanS.rejoin_obj {c : CanS} {o : ObjS} (h : o ∈ c.rejoin.obj) : o.txs ≠ .onBus := by
  obtain ⟨u, -, rfl⟩ := List.mem_map.1 h
  exact u.offBus_txs

/-! The calibration of a segment die (R142) -/

/-- Cells of segment g whose converters lie out of limits. -/
def badCells (g : Nat) (o : CalIn) : List Nat := ((calFails o.cell 1000 200).map (· + 1)).filter fun n => segOf n == g
/-- Check converters of segment g out of limits. -/
def badChecks (g : Nat) (o : CalIn) : List Nat := (calFails o.chk 4000 1000).filter fun k => k / 6 == g
/-- Current converters out of limits, all of them on segment 0. -/
def badCurrents (g : Nat) (o : CalIn) : List Nat := if g = 0 then calFails o.cur 2000 2000 else []
/-- HV converters out of limits, all of them on segment 0. -/
def badHvs (g : Nat) (o : CalIn) : List Nat := if g = 0 then calFails o.hv 3000 500 else []

/-- Every converter of segment g lies within its limits. -/
def calGood (g : Nat) (o : CalIn) : Bool :=
  (badCells g o).isEmpty && (badChecks g o).isEmpty && (badCurrents g o).isEmpty && (badHvs g o).isEmpty

/-- Converters that are marked failed stay so, and those found out of limits join them. -/
def joinFailed (l new : List Nat) : List Nat := l ++ new.filter fun n => !l.contains n

/-- The measurement after the calibration of segment g. -/
def MeasS.calibrated (m : MeasS) (g : Nat) (o : CalIn) : MeasS :=
  { m with failCell := joinFailed m.failCell (badCells g o), failChk := joinFailed m.failChk (badChecks g o)
           failCur := joinFailed m.failCur (badCurrents g o), failHv := joinFailed m.failHv (badHvs g o) }

theorem State.calSegment_eq (g : Nat) (o : CalIn) (s : State) :
    s.calSegment g o = (if calGood g o = true then { s with meas := s.meas.calibrated g o }
      else State.raiseCond (24 + g) 0 { s with meas := s.meas.calibrated g o }) := rfl

theorem State.calSegment_meas (g : Nat) (o : CalIn) (s : State) : (s.calSegment g o).meas = s.meas.calibrated g o := by
  rw [State.calSegment_eq]
  split
  · rfl
  · exact State.raiseCond_meas ..

@[simp] theorem State.raiseCond_blk (n : Nat) (d : Word) (s : State) : (s.raiseCond n d).flt.blk = s.flt.blk :=
  State.raiseAt_blk ..

theorem State.calSegment_blk (g : Nat) (o : CalIn) (s : State) : (s.calSegment g o).flt.blk = s.flt.blk := by
  rw [State.calSegment_eq]
  split
  · rfl
  · exact State.raiseCond_blk ..

theorem mem_joinFailed (k : Nat) (l new : List Nat) : k ∈ joinFailed l new ↔ k ∈ l ∨ k ∈ new := by
  by_cases h : k ∈ l <;> simp [joinFailed, h]

theorem joinFailed_nil (l : List Nat) : joinFailed l [] = l := List.append_nil l

theorem mem_badCells (g k : Nat) (o : CalIn) :
    k ∈ badCells g o ↔ 0 < k ∧ segOf k = g ∧ k - 1 ∈ calFails o.cell 1000 200 := by
  simp only [badCells, List.mem_filter, List.mem_map, beq_iff_eq]
  constructor
  · rintro ⟨⟨i, hi, rfl⟩, hseg⟩
    exact ⟨by omega, hseg, hi⟩
  · rintro ⟨hpos, hseg, hmem⟩
    exact ⟨⟨k - 1, hmem, by omega⟩, hseg⟩

theorem mem_badChecks (g k : Nat) (o : CalIn) : k ∈ badChecks g o ↔ k / 6 = g ∧ k ∈ calFails o.chk 4000 1000 := by
  simp [badChecks, and_comm]

theorem mem_badCurrents (g k : Nat) (o : CalIn) : k ∈ badCurrents g o ↔ g = 0 ∧ k ∈ calFails o.cur 2000 2000 := by
  by_cases h : g = 0 <;> simp [badCurrents, h]

theorem mem_badHvs (g k : Nat) (o : CalIn) : k ∈ badHvs g o ↔ g = 0 ∧ k ∈ calFails o.hv 3000 500 := by
  by_cases h : g = 0 <;> simp [badHvs, h]

/-- A converter of the segment that lies out of limits raises the segment's source (R142). -/
theorem State.calSegment_raises {g k : Nat} {o : CalIn} {s : State} (hk : k ∈ badCells g o) (hg : 24 + g < s.flt.src.length) :
    ((s.calSegment g o).fs (24 + g)).cond = true := by
  have hbad : calGood g o = false := by simp [calGood, List.ne_nil_of_mem hk]
  rw [State.calSegment_eq, hbad]
  exact (State.raiseCond_fs (s := { s with meas := s.meas.calibrated g o }) hg 0).2

/-- A calibration within its limits changes nothing. -/
theorem State.calSegment_good {o : CalIn} (hcell : calFails o.cell 1000 200 = []) (hchk : calFails o.chk 4000 1000 = [])
    (hcur : calFails o.cur 2000 2000 = []) (hhv : calFails o.hv 3000 500 = []) (g : Nat) (s : State) : s.calSegment g o = s := by
  have hcells : badCells g o = [] := by simp [badCells, hcell]
  have hchecks : badChecks g o = [] := by simp [badChecks, hchk]
  have hcurrents : badCurrents g o = [] := by simp [badCurrents, hcur]
  have hhvs : badHvs g o = [] := by simp [badHvs, hhv]
  simp [State.calSegment_eq, calGood, MeasS.calibrated, joinFailed_nil, hcells, hchecks, hcurrents, hhvs]

end Sys2Proof.Machine
end

section
/-! PROOFS. The end of a handling sequence: HANDLING_CLOSE, HANDLING_TIMEOUT (R375). -/

namespace Sys2Proof.Machine

/-- The word of entry 0x0380 that carries the lowest and the highest merged source (R375). -/
def mergeWord (l : List Nat) : Word := if l.isEmpty then 0 else place (l.foldl min 127) 8 8 ||| place (l.foldl max 0) 0 8

theorem foldl_min_eq {l : List Nat} {lo : Nat} (hmem : lo ∈ l) (hle : ∀ x ∈ l, lo ≤ x) {a : Nat} (ha : lo ≤ a) :
    l.foldl min a = lo := by
  rw [List.foldl_min, List.min?_eq_some_iff.2 ⟨hmem, hle⟩]
  exact Nat.min_eq_right ha

theorem foldl_max_eq {l : List Nat} {hi : Nat} (hmem : hi ∈ l) (hle : ∀ x ∈ l, x ≤ hi) {a : Nat} (ha : a ≤ hi) :
    l.foldl max a = hi := by
  rw [List.foldl_max, List.max?_eq_some_iff.2 ⟨hmem, hle⟩]
  exact Nat.max_eq_right ha

/-- Two bytes side by side. -/
theorem place_bytes {a b : Nat} (ha : a < 256) (hb : b < 256) : place a 8 8 ||| place b 0 8 = BitVec.ofNat 32 (256 * a + b) := by
  have hor : 256 * a + b = 256 * a ||| b := Nat.two_pow_add_eq_or_of_lt (i := 8) hb a
  apply BitVec.eq_of_toNat_eq
  simp only [place, BitVec.toNat_or, BitVec.toNat_ofNat]
  rw [Nat.mod_eq_of_lt (a := a) (by omega), Nat.mod_eq_of_lt (a := b) (by omega), Nat.mod_eq_of_lt (a := a * 2 ^ 8) (by omega),
    Nat.mod_eq_of_lt (a := b * 2 ^ 0) (by omega), Nat.mod_eq_of_lt (a := 256 * a + b) (by omega), hor]
  simp [Nat.mul_comm]

theorem mergeWord_eq {l : List Nat} {lo hi : Nat} (hlo : lo ∈ l) (hhi : hi ∈ l) (hle : ∀ x ∈ l, lo ≤ x ∧ x ≤ hi) (h : hi < 128) :
    mergeWord l = BitVec.ofNat 32 (256 * lo + hi) := by
  have hlohi : lo ≤ hi := (hle lo hlo).2
  have hne : l.isEmpty = false := by simp [List.ne_nil_of_mem hlo]
  rw [mergeWord, hne, foldl_min_eq hlo (fun x hx => (hle x hx).1) (by omega),
    foldl_max_eq hhi (fun x hx => (hle x hx).2) (Nat.zero_le hi)]
  exact place_bytes (by omega) (by omega)

/-- The end of a handling sequence: its entry, and no merged source left (R375). -/
theorem State.closeHandling_eq (c : Nat) (s : State) :
    s.closeHandling c = { s with
      flt := { s.flt with hopen := false, hmerge := [] }
      log := (s.event .control 0x380 [nword s.flt.hsrc, nword s.flt.hcnt, mergeWord s.flt.hmerge, nword c]).log } := rfl

theorem exec_handlingClose {s : State} (h : s.flt.hopen = true) (p : Path) :
    exec (.handlingClose p 0xC3) s = .next (s.closeHandling 1) := by
  show Host.Outcome.next (if (0xC3 == 0xC3 && s.flt.hopen) = true then s.closeHandling 1 else s) = _
  rw [h]
  rfl

theorem State.holdDue_iff (s : State) :
    s.holdDue = true ↔ s.flt.hopen = true ∧ s.nat .FLT_HOLD ≤ (s.beat.num - s.flt.hlast).toNat := by
  rw [State.holdDue, Bool.and_eq_true, decide_eq_true_iff]

theorem exec_handlingTimeout (s : State) :
    exec .handlingTimeout s = .next (if s.holdDue = true then s.closeHandling 2 else s) := rfl

/-- Without its key, or without an open sequence, a close has no effect (R375). -/
theorem exec_handlingClose_idle {k : BitVec 8} {s : State} (h : k ≠ 0xC3 ∨ s.flt.hopen = false) (p : Path) :
    exec (.handlingClose p k) s = .next s := by
  have hno : ¬ (k == 0xC3 && s.flt.hopen) = true := by
    rw [Bool.and_eq_true, beq_iff_eq]
    rintro ⟨hkey, hopen⟩
    exact h.elim (absurd hkey) (by simp [hopen])
  show Host.Outcome.next (if (k == 0xC3 && s.flt.hopen) = true then s.closeHandling 1 else s) = _
  rw [if_neg hno]

theorem exec_handlingTimeout_due {s : State} (h : s.flt.hopen = true)
    (hhold : s.nat .FLT_HOLD ≤ (s.beat.num - s.flt.hlast).toNat) : exec .handlingTimeout s = .next (s.closeHandling 2) := by
  rw [exec_handlingTimeout, if_pos (s.holdDue_iff.2 ⟨h, hhold⟩)]

theorem exec_handlingTimeout_idle {s : State}
    (h : s.flt.hopen = false ∨ (s.beat.num - s.flt.hlast).toNat < s.nat .FLT_HOLD) : exec .handlingTimeout s = .next s := by
  have hno : ¬ s.holdDue = true := by
    rw [State.holdDue_iff]
    rintro ⟨hopen, hhold⟩
    exact h.elim (by simp [hopen]) (Nat.not_lt.2 hhold)
  rw [exec_handlingTimeout, if_neg hno]

theorem exec_resetLoopRelease (p : Path) (k : BitVec 8) (s : State) :
    exec (.resetLoopRelease p k) s = .next (if (k == 0xC3) = true then s.releaseLoop else s) := rfl

end Sys2Proof.Machine

namespace Sys2Proof.Proofs
open Sys2Proof.Machine

/-- Settles O11: a source's status clears as `FsSrc.w1c` says, a block resumes by its kind (`State.blkEnd_plain`, `State.blkEnd_can`,
`State.blkEnd_segment`), and a handling sequence that ends does so by `State.closeHandling_eq`. -/
theorem faultRelease : Obligations.FaultRelease := by
  refine ⟨fun s fs hwhole hsevp hsev => ?_, fun s fs h => ?_, fun s => ⟨_, exec_latchClear s, fun k => ?_, rfl⟩, fun _ => rfl,
    fun s b c hcan hseg hmem => ?_, fun s p c hmem => ?_, fun s b c h => ?_, fun s g c n hmem hn => ?_,
    fun s p => exec_resetLoopRelease p _ s, fun s p k hk => ?_, fun s p i c hopen hi => ?_,
    fun s p hopen => ⟨_, exec_handlingClose hopen p, rfl, rfl⟩,
    fun s hopen hhold => ⟨_, exec_handlingTimeout_due hopen hhold, rfl, rfl⟩,
    fun s p k h => exec_handlingClose_idle h p, fun s h => exec_handlingTimeout_idle h⟩
  · have hdue : s.sevDue fs = true := by simp [State.sevDue_eq, hsevp, hsev]
    rw [exec_severityExpiry, if_pos hdue, State.sevClear_eq (by rw [hwhole]; exact fs.isLt)]
  · have hdue : s.sevDue fs = false := by rcases h with h | h <;> simp [State.sevDue_eq, h]
    rw [exec_severityExpiry, hdue]
    rfl
  · obtain ⟨hlatch, hev, htrans⟩ := FsSrc.w1c_counts (s.flt.w1cLatch.contains k) (s.flt.w1cSevl.contains k) false (s.fs k)
    obtain ⟨hsevl, hpres, hsevp, hlist⟩ := FsSrc.w1c_severity (s.flt.w1cLatch.contains k) (s.flt.w1cSevl.contains k) (s.fs k)
    rw [State.latchClear_fs]
    exact ⟨hlatch, by simpa using hev, by simpa using htrans, hsevl, hpres, hsevp, hlist⟩
  · rw [exec_blockResetEnd_over hmem (by simp [blkOver]), State.blkEnd_plain hcan hseg]
    simp only [State.unblocked, blkOver_plain hseg]
  · refine ⟨_, exec_blockResetEnd_over hmem (by simp [blkOver]) c, ?_⟩
    rw [State.blkEnd_can]
    refine ⟨?_, by simp [CanS.rejoin]; rfl, by simp [CanS.rejoin], by simp [CanS.rejoin], ?_, fun o ho => ?_, rfl, rfl⟩
    · simp only [← blkOver_plain (b := .can p) (fun g => nofun)]
      rfl
    · exact congrArg FsSrc.cond (State.endCond_fs (canFs p) _)
    · rw [State.endCond_can, State.setCan_can] at ho
      exact CanS.rejoin_obj ho
  · refine exec_blockResetEnd_held (fun x hx => ?_) c
    by_cases hb : x.1 = b
    · obtain ⟨h0, h50⟩ := h x.2 (hb ▸ hx)
      cases b with
      | segment g => simp [blkOver_segment, Nat.not_lt.2 (h50 g rfl)]
      | _ => simp [blkOver, h0]
    · simp [blkOver, hb]
  · refine ⟨_, exec_blockResetEnd_over hmem (by simp [blkOver_segment, hn]) c, ?_⟩
    rw [State.blkEnd_segment, State.calSegment_meas, State.calSegment_blk]
    refine ⟨by simp only [State.unblocked, blkOver_segment], fun k => ?_, fun k => ?_, fun k => ?_, fun k => ?_,
      fun k hwhole hpos hseg hk => ?_, fun hcell hchk hcur hhv => ?_⟩
    · exact (mem_joinFailed ..).trans (or_congr_right (mem_badCells g k c))
    · exact (mem_joinFailed ..).trans (or_congr_right (mem_badChecks g k c))
    · exact (mem_joinFailed ..).trans (or_congr_right (mem_badCurrents g k c))
    · exact (mem_joinFailed ..).trans (or_congr_right (mem_badHvs g k c))
    · refine State.calSegment_raises ((mem_badCells g k c).2 ⟨hpos, hseg, hk⟩) ?_
      show 24 + g.val < s.flt.src.length
      omega
    · rw [← State.calSegment_meas, State.calSegment_good hcell hchk hcur hhv]
      exact ⟨rfl, rfl⟩
  · rw [exec_resetLoopRelease, if_neg (by simpa using hk)]
  · have hclose : exec i s = .next (s.closeHandling c) := by
      rcases hi with ⟨rfl, rfl⟩ | ⟨rfl, rfl, hhold⟩
      · exact exec_handlingClose hopen p
      · exact exec_handlingTimeout_due hopen hhold
    refine ⟨_, hclose, rfl, rfl, fun hshown hrun => ⟨mergeWord s.flt.hmerge, ?_, fun h => by rw [h]; rfl,
      fun lo hi hlo hhi hle h => mergeWord_eq hlo hhi hle h⟩⟩
    rw [State.closeHandling_eq, State.event_eq hshown hrun]
    rfl

end Sys2Proof.Proofs
end

section
/-! PROOFS. The insulation measurement (R158-R163). -/

namespace Sys2Proof.Machine

/-! A condition that is judged: its source is raised where it holds and ends where it does not (R365) -/

/-- The condition of source n holds or not, as judged now. -/
def State.condNow (n : Nat) (d : Word) (now : Bool) (s : State) : State := if now then s.raiseCond n d else s.endCond n

theorem State.condNow_fs {s : State} {n : Nat} (hn : n < s.flt.src.length) (d : Word) (now : Bool) :
    ((s.condNow n d now).fs n).cond = now ∧ (now = true → ((s.condNow n d now).fs n).latch = true) := by
  cases now with
  | false => exact ⟨congrArg FsSrc.cond (State.endCond_fs n s), nofun⟩
  | true =>
    obtain ⟨hlatch, hcond⟩ := State.raiseCond_fs hn d
    exact ⟨hcond, fun _ => hlatch⟩

@[simp] theorem State.condNow_meas (n : Nat) (d : Word) (now : Bool) (s : State) : (s.condNow n d now).meas = s.meas := by
  cases now
  · rfl
  · exact State.raiseCond_meas ..

@[simp] theorem State.condNow_srcLength (n : Nat) (d : Word) (now : Bool) (s : State) :
    (s.condNow n d now).flt.src.length = s.flt.src.length := by
  cases now
  · exact State.endCond_srcLength ..
  · exact State.raiseCond_srcLength ..

/-- The judgement of a condition reaches neither the beat nor a channel nor an output. -/
theorem State.condNow_keeps (n : Nat) (d : Word) (now : Bool) (s : State) : (s.condNow n d now).beat = s.beat ∧
    (s.condNow n d now).cha = s.cha ∧ (s.condNow n d now).chb = s.chb ∧ (s.condNow n d now).safe = s.safe := by
  cases now
  · exact ⟨rfl, rfl, rfl, rfl⟩
  · exact ⟨State.raiseCond_beat .., State.raiseCond_cha .., State.raiseCond_chb .., State.raiseCond_safe ..⟩

/-! The result of a cycle (R159-R162) -/

/-- The insulation registers replaced. -/
def State.setIso (i : IsoS) (s : State) : State := { s with meas := { s.meas with iso := i } }

theorem exec_insulationResult (s : State) :
    exec .insulationResult s = .next (if s.isoResultDue = true then s.isoResult else s) := rfl

theorem State.isoResultDue_iff {s : State} {c : IsoCycle} (hc : s.meas.iso.cycle = some c) :
    s.isoResultDue = true ↔ 2 * s.isoP ≤ (s.beat.num - c.start).toNat := by
  rw [State.isoResultDue, hc, decide_eq_true_iff]

theorem State.isoResultDue_none {s : State} (hc : s.meas.iso.cycle = none) : s.isoResultDue = false := by
  rw [State.isoResultDue, hc]

theorem State.isoResult_eq {s : State} {c : IsoCycle} (hc : s.meas.iso.cycle = some c) :
    s.isoResult = s.setIso (s.meas.iso.afterCycle c (s.nat .ISO_WARN) (s.nat .ISO_TRIP)) := by
  rw [State.isoResult, hc]
  rfl

/-- A cycle that has run its 2P beats gives its result. -/
theorem exec_insulationResult_due {s : State} {c : IsoCycle} (hc : s.meas.iso.cycle = some c)
    (hdue : 2 * s.isoP ≤ (s.beat.num - c.start).toNat) :
    exec .insulationResult s = .next (s.setIso (s.meas.iso.afterCycle c (s.nat .ISO_WARN) (s.nat .ISO_TRIP))) := by
  rw [exec_insulationResult, if_pos ((State.isoResultDue_iff hc).2 hdue), State.isoResult_eq hc]

/-- A cycle without a value leaves its cause and the values as they were (R160). -/
theorem IsoS.afterCycle_cause {c : IsoCycle} {k : Nat} (h : c.outcome = .inl k) (i : IsoS) (warn trip : Nat) :
    i.afterCycle c warn trip =
      { i with valid := false, cause := k, cycle := none, fresh := true, b := i.b.afterCycle c warn trip } := by
  rw [IsoS.afterCycle, h]

/-- A resistance in kΩ as its register holds it (R162). -/
def isoClamp (x : Nat) : Nat := Nat.max 50 (Nat.min 50000 x)

theorem isoClamp_toNat (x : Int) : (isoClamp x.toNat : Int) = max 50 (min 50000 x) := by
  show ((max 50 (min 50000 x.toNat) : Nat) : Int) = _
  omega

/-- A cycle with values gives Rp and Rn with their marks and the thresholds (R162). -/
theorem IsoS.afterCycle_values {c : IsoCycle} {rp rn : Int} (h : c.outcome = .inr (rp, rn)) (i : IsoS) (warn trip : Nat) :
    i.afterCycle c warn trip =
      let kp := (divRnd rp 1000).toNat
      let kn := (divRnd rn 1000).toNat
      { i with
        valid := true, cause := 0, rp := isoClamp kp, rn := isoClamp kn, min := Nat.min (isoClamp kp) (isoClamp kn)
        rpLow := decide (kp < 50), rpHigh := decide (50000 < kp), rnLow := decide (kn < 50), rnHigh := decide (50000 < kn)
        warn := decide (Nat.min (isoClamp kp) (isoClamp kn) < warn), trip := decide (Nat.min (isoClamp kp) (isoClamp kn) < trip)
        cycle := none, fresh := true, b := i.b.afterCycle c warn trip } := by
  rw [IsoS.afterCycle, h]
  rfl

/-- Below and above the range of the registers a natural number compares as the integer it came from. -/
theorem decide_toNat_range (x : Int) : decide (x.toNat < 50) = decide (x < 50) ∧ decide (50000 < x.toNat) = decide (50000 < x) := by
  constructor <;> exact decide_eq_decide.2 (by omega)

/-- The end of a cycle leaves the switches alone. -/
theorem IsoS.afterCycle_switches (i : IsoS) (c : IsoCycle) (warn trip : Nat) :
    (i.afterCycle c warn trip).cycle = none ∧ (i.afterCycle c warn trip).sMinus = i.sMinus := by
  unfold IsoS.afterCycle
  split <;> exact ⟨rfl, rfl⟩

/-! The start of a cycle (R158, R159, R163) -/

/-- The start comes after the result of the cycle that ends there; the PE loop is judged with it (R163). -/
theorem exec_insulationCycleStart (pe : Nat) (s : State) : exec (.insulationCycleStart pe) s = .next
    (let t := if s.isoResultDue = true then s.isoResult else s
     if t.isoStartDue = true then (t.isoStart (decide (1000 < pe))).condNow 31 0 (decide (1000 < pe)) else t) := rfl

/-- Without a cycle one starts at each 2P beats while channel A works (R159). -/
theorem State.isoStartDue_idle {s : State} (hcycle : s.meas.iso.cycle = none) (hon : s.on .ISO_EN = true)
    (hnum : s.beat.num.toNat % (2 * s.isoP) = 0) (hrun : s.beat.running = true) (hworks : s.works .a = true) :
    s.isoStartDue = true := by
  simp [State.isoStartDue, hcycle, hon, hnum, hrun, hworks]

/-! The phases (R158, R159) -/

theorem exec_insulationPhaseChange (s : State) :
    exec .insulationPhaseChange s = .next (if s.isoPhaseDue = true then s.isoPhase else s) := rfl

theorem State.isoPhaseDue_iff {s : State} {c : IsoCycle} (hc : s.meas.iso.cycle = some c) : s.isoPhaseDue = true ↔
    (s.beat.num - c.start).toNat = s.isoP ∧ s.meas.iso.phaseN = false ∧ s.works .a = true := by
  rw [State.isoPhaseDue, hc]
  simp only [Bool.and_eq_true, decide_eq_true_iff, Bool.not_eq_true', and_assoc]

theorem State.isoPhaseDue_none {s : State} (hc : s.meas.iso.cycle = none) : s.isoPhaseDue = false := by
  rw [State.isoPhaseDue, hc]

/-- The switch that waits is closed; none waits any more (R158). -/
def IsoS.switched (i : IsoS) : IsoS :=
  { i with sPlus := i.sPlus || i.closeDue == some true, sMinus := i.sMinus || i.closeDue == some false, closeDue := none }

theorem IsoS.switched_plus {i : IsoS} (h : i.closeDue = some true) : i.switched = { i with sPlus := true, closeDue := none } := by
  simp [IsoS.switched, h]

theorem IsoS.switched_minus {i : IsoS} (h : i.closeDue = some false) : i.switched = { i with sMinus := true, closeDue := none } := by
  simp [IsoS.switched, h]

theorem IsoS.switched_none {i : IsoS} (h : i.closeDue = none) : i.switched = i := by
  obtain ⟨⟩ := i
  obtain rfl : _ = none := h
  simp [IsoS.switched]

/-- The switches move 100 µs after the boundary (R158). -/
theorem exec_referenceSwitchClose (s : State) :
    exec .referenceSwitchClose s = .next ((s.at 100000).setIso s.meas.iso.switched) := rfl

end Sys2Proof.Machine

namespace Sys2Proof.Proofs
open Sys2Proof.Machine

/-- Settles O39: the start follows the result of the cycle that ends there (`exec_insulationCycleStart`), a cycle ends by
`IsoS.afterCycle_cause` or `IsoS.afterCycle_values`, and the switches follow `closeDue`. -/
theorem insulation : Obligations.Insulation := by
  refine ⟨fun s pe i hwhole hon hrun hworks hnum hi => ?_, fun s c hc hnum hphase hworks => ?_, fun s hc => ?_, fun s h => ?_,
    fun s h => ?_, fun s c k hc hdue hout => ?_, fun s c rp rn hc hdue hout => ?_, fun s h => ?_, fun s c hc hdue => ?_⟩
  · obtain ⟨hended, hcycle, hminus⟩ : (if s.isoResultDue = true then s.isoResult else s) = s.setIso i ∧ i.cycle = none ∧
        i.sMinus = s.meas.iso.sMinus := by
      rcases hi with ⟨hc, rfl⟩ | ⟨c, hc, hdue, rfl⟩
      · exact ⟨by rw [State.isoResultDue_none hc]; rfl, hc, rfl⟩
      · rw [if_pos ((State.isoResultDue_iff hc).2 hdue), State.isoResult_eq hc]
        exact ⟨rfl, IsoS.afterCycle_switches ..⟩
    have hstart : (s.setIso i).isoStartDue = true := State.isoStartDue_idle hcycle hon hnum hrun hworks
    refine ⟨_, exec_insulationCycleStart pe s, ?_⟩
    rw [hended]
    dsimp only
    rw [if_pos hstart, State.condNow_meas]
    obtain ⟨hcond, hlatch⟩ := State.condNow_fs (s := (s.setIso i).isoStart (decide (1000 < pe))) (n := 31)
      (by show 31 < s.flt.src.length; omega) 0 (decide (1000 < pe))
    obtain ⟨hbeat, hcha, hchb, hsafe⟩ := ((s.setIso i).isoStart (decide (1000 < pe))).condNow_keeps 31 0 (decide (1000 < pe))
    refine ⟨?_, hcond, fun h => hlatch (decide_eq_true h), hbeat, hcha, hchb, hsafe⟩
    rw [← hminus]
    rfl
  · rw [exec_insulationPhaseChange, if_pos ((State.isoPhaseDue_iff hc).2 ⟨hnum, hphase, hworks⟩)]
    rfl
  · rw [exec_insulationPhaseChange, exec_insulationResult, State.isoPhaseDue_none hc, State.isoResultDue_none hc]
    exact ⟨rfl, rfl⟩
  · rw [exec_referenceSwitchClose, IsoS.switched_minus h]
    rfl
  · rw [exec_referenceSwitchClose, IsoS.switched_plus h]
    rfl
  · rw [exec_insulationResult_due hc hdue, IsoS.afterCycle_cause hout]
    rfl
  · refine ⟨_, exec_insulationResult_due hc hdue, ?_⟩
    rw [IsoS.afterCycle_values hout]
    obtain ⟨hpl, hph⟩ := decide_toNat_range (divRnd rp 1000)
    obtain ⟨hnl, hnh⟩ := decide_toNat_range (divRnd rn 1000)
    exact ⟨rfl, rfl, rfl, isoClamp_toNat _, isoClamp_toNat _, hpl, hph, hnl, hnh, rfl, rfl, rfl, rfl, rfl⟩
  · rw [exec_referenceSwitchClose, IsoS.switched_none h]
    rfl
  · rw [exec_insulationResult, if_neg (mt (State.isoResultDue_iff hc).1 (Nat.not_le.2 hdue))]

end Sys2Proof.Proofs
end

section
/-! PROOFS. The raises of FS30 that follow the conversions of a beat (R168, R204, R541). -/

namespace Sys2Proof.Machine

/-- The W1C writes leave the condition of a source alone (R367). -/
theorem FsSrc.w1c_cond (latch sevl due : Bool) (x : FsSrc) : (x.w1c latch sevl due).cond = x.cond := by
  obtain ⟨p, l, h⟩ := x.w1cSevl_frame sevl due
  rw [FsSrc.w1c, h, FsSrc.clearLatch]
  cases latch
  · rfl
  · simp only [if_true]
    split <;> rfl

/-- A single raise leaves the condition of its source as it was (R365). -/
theorem State.raiseAt_cond {s : State} {n : Nat} (hn : n < s.flt.src.length) (k : RaiseKind) (one : Bool) (d b : Word) :
    ((s.raiseAt k one n d b).fs n).cond = (s.fs n).cond := by
  obtain ⟨y, hsrc, -, -, -, -, -, hcond, -⟩ := State.raiseAt_entry k one n d b s (s.fsIn n) rfl
  have hfs : (s.raiseAt k one n d b).fs n = y := by simp [State.fs, hsrc, hn]
  rw [hfs, hcond, State.fsIn_eq, FsSrc.w1c_cond]

/-- The converters' failures are raised, then the retries that succeeded (R168, R204). -/
def State.ratioRaised (failed retried : List Nat) (s : State) : State :=
  runAll (fun n t => State.raiseTransient 30 (nword n) t) retried (runAll (fun n t => State.raise 30 (nword n) t) failed s)

/-- Raises leave the measurement and the channels alone. -/
theorem State.ratioRaised_rest (failed retried : List Nat) (s : State) :
    WinRest s (s.ratioRaised failed retried) ∧ (s.ratioRaised failed retried).meas = s.meas := by
  obtain ⟨hf, hfm⟩ := WinRest.runAll (fun n t => ⟨.raise 30 (nword n) t, State.raise_meas ..⟩) failed s
  obtain ⟨hr, hrm⟩ := WinRest.runAll (fun n t => ⟨.raiseTransient 30 (nword n) t, State.raiseTransient_meas ..⟩) retried
    (runAll (fun n t => State.raise 30 (nword n) t) failed s)
  exact ⟨hf.trans hr, hrm.trans hfm⟩

@[simp] theorem State.ratioRaised_meas (failed retried : List Nat) (s : State) : (s.ratioRaised failed retried).meas = s.meas :=
  (State.ratioRaised_rest failed retried s).2

/-- Several raises of one source: its condition stays, and it is latched when it was or when one raise has been made. -/
theorem runAll_raises {f : Nat → State → State} {n : Nat}
    (hf : ∀ (x : Nat) (s : State), n < s.flt.src.length → (f x s).flt.src.length = s.flt.src.length ∧
      ((f x s).fs n).latch = true ∧ ((f x s).fs n).cond = (s.fs n).cond)
    (l : List Nat) {s : State} (hn : n < s.flt.src.length) :
    (runAll f l s).flt.src.length = s.flt.src.length ∧ ((runAll f l s).fs n).cond = (s.fs n).cond ∧
    ((s.fs n).latch = true ∨ l ≠ [] → ((runAll f l s).fs n).latch = true) := by
  induction l generalizing s with
  | nil => exact ⟨rfl, rfl, fun h => h.resolve_right fun h => h rfl⟩
  | cons x l ih =>
    obtain ⟨hlen, hlatch, hcond⟩ := hf x s hn
    obtain ⟨ilen, icond, ilatch⟩ := ih (s := f x s) (by rw [hlen]; exact hn)
    exact ⟨ilen.trans hlen, icond.trans hcond, fun _ => ilatch (.inl hlatch)⟩

/-- FS30 after the raises of a beat. -/
theorem State.ratioRaised_fs {s : State} (hs : s.srcWhole) (failed retried : List Nat) :
    ((s.ratioRaised failed retried).fs 30).cond = (s.fs 30).cond ∧
    ((s.fs 30).latch = true ∨ failed ≠ [] → ((s.ratioRaised failed retried).fs 30).latch = true) := by
  obtain ⟨flen, fcond, flatch⟩ := runAll_raises (f := fun n t => State.raise 30 (nword n) t) (n := 30)
    (fun _ _ h => ⟨State.raise_srcLength .., (State.raise_fs h _).1, State.raiseAt_cond h ..⟩) failed (s := s) (by omega)
  obtain ⟨-, rcond, rlatch⟩ := runAll_raises (f := fun n t => State.raiseTransient 30 (nword n) t) (n := 30)
    (fun _ _ h => ⟨State.raiseTransient_srcLength .., (State.raiseTransient_fs h _).1, State.raiseAt_cond h ..⟩) retried
    (s := runAll (fun n t => State.raise 30 (nword n) t) failed s) (by omega)
  exact ⟨rcond.trans fcond, fun h => rlatch (.inl (flatch h))⟩

end Sys2Proof.Machine
end

section
/-! PROOFS. Conversions, the snapshot and the read latches (R165-R169, R173, R174, R205). -/

namespace Sys2Proof.Machine

/-! Readings (R166, R167, R169) -/

theorem thmConv_open {a : Nat} (h : 64888 ≤ a) (t : List (Int × Int)) : thmConv t a = { a := a, opn := true } := by
  rw [thmConv, if_pos h]

theorem thmConv_short {a : Nat} (h : a ≤ 326) (t : List (Int × Int)) : thmConv t a = { a := a, short := true } := by
  rw [thmConv, if_neg (by omega), if_pos h]

/-- Between the two limits a reading is VALID and its temperature lies in the table's range. -/
theorem thmConv_valid {a : Nat} (hlo : 326 < a) (hhi : a < 64888) (t : List (Int × Int)) :
    (thmConv t a).valid = true ∧ -5000 ≤ (thmConv t a).temp ∧ (thmConv t a).temp ≤ 15000 := by
  rw [thmConv, if_neg (by omega), if_neg (by omega)]
  exact ⟨rfl, clamp_mem (by omega) _⟩

/-- A code is decoded exactly where the resistance lies within 3 % of one code's nominal value. -/
theorem idDecode_valid (a : Nat) : (idDecode a).valid = true ↔
    ∃ k : Fin 64, 100 * (divRnd (10000 * a) (65536 - a) - idOhm k).natAbs ≤ 3 * idOhm k := by
  unfold idDecode
  dsimp only
  split
  · next k hk =>
    obtain ⟨hmem, hband⟩ := And.intro (List.mem_of_find?_eq_some hk) (List.find?_some hk)
    exact iff_of_true rfl ⟨⟨k, List.mem_range.1 hmem⟩, of_decide_eq_true hband⟩
  · next hk =>
    refine iff_of_false Bool.false_ne_true ?_
    rintro ⟨k, hband⟩
    exact absurd (decide_eq_true hband) (List.find?_eq_none.1 hk k (List.mem_range.2 k.isLt))

/-! The conversions of a beat (R165) -/

/-- The state after the conversions of the beat, before their failures and retries are raised. -/
def State.ratioConverted (vals : List (Option (BitVec 16))) (die : List (Option Int)) (s : State) : State :=
  let t := (s.at 100000).dieRead die
  if s.beat.num.toNat % 10 < 8 then t.thmConvert vals
  else if s.beat.num.toNat % 10 = 8 then (if s.on .ID_EN then t.idConvert vals else t)
  else t.refConvert vals

theorem exec_thermistorConversion (vals : List (Option (BitVec 16))) (retried : BitVec 4) (die : List (Option Int)) (s : State) :
    exec (.thermistorConversion vals retried die) s = .next
      ((s.ratioConverted vals die).ratioRaised (s.ratioFailures vals) (s.ratioRetries vals retried)) := rfl

theorem State.dieRead_other {s : State} (h : s.beat.num.toNat % 10 ≠ 9) (die : List (Option Int)) : s.dieRead die = s := by
  rw [State.dieRead, if_neg h]

/-- The die temperatures after their reading: a sensor without one keeps its value (R177, R379). -/
def State.dieAfter (die : List (Option Int)) (s : State) : List Int :=
  (indexed s.meas.die).map fun x => (die[x.1]?.getD none).getD x.2

theorem State.dieAfter_get {s : State} {die : List (Option Int)} {i : Nat} {x d : Int} (hx : s.meas.die[i]? = some x)
    (hd : die[i]? = some (some d)) : (s.dieAfter die)[i]? = some d := by
  rw [State.dieAfter, indexed_map_getElem?, hx, Option.map_some, hd]
  rfl

theorem State.ratioConverted_thermistors {s : State} (h : s.beat.num.toNat % 10 < 8) (vals : List (Option (BitVec 16)))
    (die : List (Option Int)) : s.ratioConverted vals die = (s.at 100000).thmConvert vals := by
  rw [State.ratioConverted, State.dieRead_other (by show s.beat.num.toNat % 10 ≠ 9; omega), if_pos h]

theorem State.ratioConverted_id {s : State} (h : s.beat.num.toNat % 10 = 8) (hon : s.on .ID_EN = true)
    (vals : List (Option (BitVec 16))) (die : List (Option Int)) :
    s.ratioConverted vals die = (s.at 100000).idConvert vals := by
  rw [State.ratioConverted, State.dieRead_other (by show s.beat.num.toNat % 10 ≠ 9; omega), if_neg (by omega), if_pos h, if_pos hon]

/-- Only the populated thermistors of the beat's slot are converted. -/
theorem State.mem_thmSlot {s : State} (h : s.beat.num.toNat % 10 < 8) (i : Nat) :
    i + 1 ∈ s.thmSlot ↔ i / 4 = s.beat.num.toNat % 10 ∧ s.thmPop (i + 1) = true := by
  rw [State.thmSlot, if_pos h]
  simp only [List.mem_filter, List.mem_cons, List.not_mem_nil, or_false]
  exact and_congr_left' (by omega)

/-- A thermistor after the beat's conversions. -/
theorem State.thmConvert_get (vals : List (Option (BitVec 16))) (s : State) (i : Nat) :
    (s.thmConvert vals).meas.thm[i]? =
      s.meas.thm[i]?.map fun x => if i + 1 ∈ s.thmSlot then s.thmAfter vals (i + 1) x else x := by
  simp only [State.thmConvert, indexed_map_getElem?, List.contains_iff_mem]

theorem State.thmConvert_get_out {s : State} {i : Nat} (h : i + 1 ∉ s.thmSlot) (vals : List (Option (BitVec 16))) :
    (s.thmConvert vals).meas.thm[i]? = s.meas.thm[i]? := by
  simp [State.thmConvert_get, h]

/-- A conversion that fails leaves its value. -/
theorem State.thmAfter_failed {s : State} {vals : List (Option (BitVec 16))} {i : Nat} (h : vals[i % 4]? = some none) (x : Therm) :
    s.thmAfter vals (i + 1) x = x := by
  simp [State.thmAfter, State.thmVal, h]

theorem State.thmAfter_reading {s : State} {vals : List (Option (BitVec 16))} {i : Nat} {a : BitVec 16} (hup : s.ratioUp = true)
    (h : vals[i % 4]? = some (some a)) (x : Therm) :
    s.thmAfter vals (i + 1) x = thmConv (s.img.points .TAB (s.nat .THM_TAB (i + 1))) a.toNat := by
  simp [State.thmAfter, State.thmVal, hup, h]

/-- A conversion of the beat's slot that fails with its retry is raised (R168). -/
theorem State.ratioFailures_thermistor {s : State} {vals : List (Option (BitVec 16))} {i : Nat} (h : s.beat.num.toNat % 10 < 8)
    (hup : s.ratioUp = true) (hslot : i + 1 ∈ s.thmSlot) (hval : vals[i % 4]? = some none) : s.ratioFailures vals ≠ [] := by
  have hmem : i + 1 ∈ s.ratioFailures vals := by
    simp [State.ratioFailures, hup, h, List.mem_filter, hslot, hval]
  exact List.ne_nil_of_mem hmem

theorem State.idConvert_reading {s : State} (hup : s.ratioUp = true) (a : BitVec 16) (l : List (Option (BitVec 16))) :
    s.idConvert (some a :: l) =
      { s with meas := { s.meas with id := idDecode a.toNat }, chg := { s.chg with idFresh := true } } := by
  simp [State.idConvert, hup]

theorem State.idConvert_failed (s : State) (l : List (Option (BitVec 16))) : s.idConvert (none :: l) = s := by
  simp [State.idConvert]

theorem State.ratioFailures_id {s : State} (h : s.beat.num.toNat % 10 = 8) (hup : s.ratioUp = true) (hon : s.on .ID_EN = true)
    (l : List (Option (BitVec 16))) : s.ratioFailures (none :: l) = [33] := by
  simp [State.ratioFailures, hup, h, hon]

/-- A reading of the reference that is good (R168). -/
def refGood (v : Option (BitVec 16)) : Bool := v.any fun a => decide (32704 ≤ a.toNat ∧ a.toNat ≤ 32832)

/-- The reference's beat has taken its readings. -/
def State.referenced (v : Option (BitVec 16)) (die : List (Option Int)) (s : State) : State :=
  { s.at 100000 with meas := { s.meas with refOk := refGood v, die := s.dieAfter die } }

/-- The reference's beat reads the die temperatures and judges the reference (R168, R177, R541). -/
theorem State.ratioConverted_reference {s : State} (h : s.beat.num.toNat % 10 = 9) (hup : s.ratioUp = true)
    (v : Option (BitVec 16)) (l : List (Option (BitVec 16))) (die : List (Option Int)) :
    s.ratioConverted (v :: l) die = (s.referenced v die).condNow 30 34 (!refGood v) := by
  have hread : (s.at 100000).dieRead die = { s.at 100000 with meas := { s.meas with die := s.dieAfter die } } := if_pos h
  have hdown : (!State.ratioUp { s.at 100000 with meas := { s.meas with die := s.dieAfter die } }) = false := by
    rw [Bool.not_eq_false']
    exact hup
  rw [State.ratioConverted, if_neg (by omega), if_neg (by omega), hread, State.refConvert, hdown]
  show (if refGood v then State.endCond 30 (s.referenced v die) else State.raiseCond 30 34 (s.referenced v die)) = _
  cases refGood v <;> rfl

/-- FS30 is present after the reference's beat exactly when the reference is not good. -/
theorem exec_thermistorConversion_reference {s : State} (h : s.beat.num.toNat % 10 = 9) (hup : s.ratioUp = true) (hs : s.srcWhole)
    (v : Option (BitVec 16)) (l : List (Option (BitVec 16))) (retried : BitVec 4) (die : List (Option Int)) :
    ∃ t, exec (.thermistorConversion (v :: l) retried die) s = .next t ∧ t.meas = (s.referenced v die).meas ∧
      (t.fs 30).cond = (!refGood v) ∧ (refGood v = false → (t.fs 30).latch = true) := by
  refine ⟨_, exec_thermistorConversion .., ?_⟩
  have hlen : (s.referenced v die).flt.src.length = 128 := hs
  obtain ⟨hcond, hlatch⟩ := State.condNow_fs (s := s.referenced v die) (n := 30) (by omega) 34 (!refGood v)
  obtain ⟨rcond, rlatch⟩ := State.ratioRaised_fs (s := (s.referenced v die).condNow 30 34 (!refGood v))
    ((State.condNow_srcLength ..).trans hlen) (s.ratioFailures (v :: l)) (s.ratioRetries (v :: l) retried)
  rw [State.ratioRaised_meas, State.ratioConverted_reference h hup, State.condNow_meas]
  exact ⟨rfl, rcond.trans hcond, fun hbad => rlatch (.inl (hlatch (by simp [hbad])))⟩

/-! The snapshot and the read latches (R173, R174) -/

theorem exec_measSnap (p : Path) (on : Bool) (s : State) : exec (.measSnap p on) s = .next { s with meas := { s.meas with
    snap := if on then (if s.meas.snap.isSome then s.meas.snap else some (s.live, s.thm)) else none } } := rfl

theorem State.visible_live {s : State} (h : s.meas.snap = none) : s.visible = s.live ∧ s.visibleThm = s.thm := by
  simp [State.visible, State.visibleThm, h]

theorem exec_loReadLatch (p : Path) (r : LatchReg) (s : State) : exec (.loReadLatch p r) s = .next (s.latchHi r) := rfl

end Sys2Proof.Machine

namespace Sys2Proof.Proofs
open Sys2Proof.Machine

/-- Settles O40: the conversions by the beat's slot (`State.ratioConverted_thermistors`, `State.ratioConverted_id`,
`exec_thermistorConversion_reference`), with the raises of FS30 after them, which leave the measurement alone. -/
theorem conversionsAndLatches : Obligations.ConversionsAndLatches := by
  refine ⟨fun s vals retried die i hk hup hlen hs hi => ?_, fun s a l retried die hk hup hon => ?_,
    fun s a l retried die hk hup hs => ?_, fun s l retried die hk hup hon hs => ?_, fun s l retried die hk hup hs => ?_,
    fun t a => ⟨fun h => ?_, fun h => ?_, fun hlo hhi => thmConv_valid hlo hhi t⟩, fun a => idDecode_valid a.toNat,
    fun s p h => ⟨_, exec_measSnap p true s, ?_⟩, fun s p h => ?_, fun s p => exec_measSnap p false s, fun s p q hq => ?_, fun s p q hq => ?_,
    fun s p => exec_loReadLatch p _ s, fun s p => exec_loReadLatch p _ s⟩
  · refine ⟨_, exec_thermistorConversion .., ?_⟩
    obtain ⟨hrest, hmeas⟩ := (s.ratioConverted vals die).ratioRaised_rest (s.ratioFailures vals) (s.ratioRetries vals retried)
    obtain ⟨-, hlatch⟩ := State.ratioRaised_fs (s := (s.at 100000).thmConvert vals) hs (s.ratioFailures vals)
      (s.ratioRetries vals retried)
    have hslot : i + 1 ∈ (s.at 100000).thmSlot ↔ i / 4 = s.beat.num.toNat % 10 ∧ s.thmPop (i + 1) = true := s.mem_thmSlot hk i
    have hget := (s.at 100000).thmConvert_get vals i
    rw [hmeas, hrest.cha, hrest.chb, State.ratioConverted_thermistors hk]
    refine ⟨fun hne => State.thmConvert_get_out (fun h => hne (hslot.1 h).1) vals,
      fun hpop => State.thmConvert_get_out (fun h => Bool.false_ne_true (hpop.symm.trans (hslot.1 h).2)) vals,
      fun a hin hpop hval => ?_, fun hin hpop hval => ⟨?_, ?_⟩, rfl, rfl, rfl, rfl⟩
    · obtain ⟨x, hx⟩ : ∃ x, s.meas.thm[i]? = some x := ⟨_, List.getElem?_eq_getElem (by omega)⟩
      rw [hget, State.at_meas, hx, Option.map_some, if_pos (hslot.2 ⟨hin, hpop⟩)]
      exact congrArg some (State.thmAfter_reading (s := s.at 100000) hup hval x)
    · rw [hget]
      simp [State.thmAfter_failed hval]
    · exact hlatch (.inr (State.ratioFailures_thermistor hk hup ((s.mem_thmSlot hk i).2 ⟨hin, hpop⟩) hval))
  · refine ⟨_, exec_thermistorConversion .., ?_⟩
    obtain ⟨hrest, hmeas⟩ := (s.ratioConverted (some a :: l) die).ratioRaised_rest (s.ratioFailures (some a :: l))
      (s.ratioRetries (some a :: l) retried)
    rw [hmeas, hrest.cha, hrest.chb, State.ratioConverted_id hk hon, State.idConvert_reading (s := s.at 100000) hup]
    exact ⟨rfl, rfl, rfl, rfl, rfl⟩
  · obtain ⟨t, hexec, hmeas, hcond, -⟩ := exec_thermistorConversion_reference hk hup hs (some a) l retried die
    exact ⟨t, hexec, by rw [hmeas]; rfl, hcond, by rw [hmeas]; rfl, by rw [hmeas]; rfl,
      fun i x d hx hd => by rw [hmeas]; exact State.dieAfter_get hx hd⟩
  · refine ⟨_, exec_thermistorConversion .., ?_⟩
    rw [State.ratioRaised_meas, State.ratioConverted_id hk hon, State.idConvert_failed]
    obtain ⟨-, hlatch⟩ := State.ratioRaised_fs (s := s.at 100000) hs (s.ratioFailures (none :: l))
      (s.ratioRetries (none :: l) retried)
    exact ⟨hlatch (.inr (by simp [State.ratioFailures_id hk hup hon])), rfl, rfl, rfl⟩
  · obtain ⟨t, hexec, hmeas, hcond, hlatch⟩ := exec_thermistorConversion_reference hk hup hs none l retried die
    exact ⟨t, hexec, hlatch rfl, hcond, by rw [hmeas]; rfl, by rw [hmeas]; rfl, by rw [hmeas]; rfl⟩
  · rw [thmConv_open h]
    exact ⟨rfl, rfl, rfl⟩
  · rw [thmConv_short h]
    exact ⟨rfl, rfl, rfl⟩
  · obtain ⟨hvis, hthm⟩ := State.visible_live h
    rw [hvis, hthm, h]
    exact ⟨rfl, rfl, rfl, rfl⟩
  · rw [exec_measSnap, if_pos rfl, if_pos h]
  · rw [exec_loReadLatch]
    simp [State.latchHi, hq, hi64, sword]
  · rw [exec_loReadLatch]
    simp [State.latchHi, hq, hi64, sword]

end Sys2Proof.Proofs
end

section
/-! PROOFS. Open wires: what a change of one segment and of one pin leaves of the others (R178-R197). -/

namespace Sys2Proof.Machine

/-! Segments -/

theorem State.owSeg_of_get {s : State} {g : Nat} {x : OwSeg} (h : s.integ.seg[g]? = some x) : s.owSeg g = x := by
  rw [State.owSeg, h]
  rfl

/-- Pins are read from the integrity state alone. -/
theorem State.pin_of_integ {s t : State} (h : t.integ = s.integ) (g j : Nat) : t.pin g j = s.pin g j := by
  rw [State.pin, State.pin, State.owSeg, State.owSeg, h]

theorem State.setSeg_owSeg {s : State} {g : Nat} (h : g < s.integ.seg.length) (f : OwSeg → OwSeg) :
    (s.setSeg g f).owSeg g = f (s.owSeg g) := by
  simp [State.owSeg, State.setSeg, h]

theorem State.setSeg_owSeg_ne {g k : Nat} (h : k ≠ g) (f : OwSeg → OwSeg) (s : State) : (s.setSeg g f).owSeg k = s.owSeg k := by
  simp [State.owSeg, State.setSeg, h.symm]

theorem State.setSeg_out {s : State} {g : Nat} (h : s.integ.seg.length ≤ g) (f : OwSeg → OwSeg) : s.setSeg g f = s := by
  rw [State.setSeg, List.modify_eq_self h]

/-! Pins -/

/-- The state holds pin j of segment g. -/
def State.hasPin (s : State) (g j : Nat) : Prop := g < s.integ.seg.length ∧ j < (s.owSeg g).pins.length

theorem State.hasPin_fin {s : State} (hseg : s.integ.seg.length = 4) (g : Fin 4) (hpins : (s.owSeg g).pins.length = 25) {j : Nat}
    (hj : j < 25) : s.hasPin g j :=
  ⟨by omega, by omega⟩

/-- A change of a pin adds none and takes none away. -/
theorem State.setPin_hasPin (g j : Nat) (f : PinS → PinS) (s : State) (a b : Nat) : (s.setPin g j f).hasPin a b ↔ s.hasPin a b := by
  by_cases ha : a = g
  · subst ha
    by_cases hg : a < s.integ.seg.length
    · rw [State.hasPin, State.hasPin, State.setPin, State.setSeg_owSeg hg, State.setSeg, List.length_modify, List.length_modify]
    · rw [State.setPin, State.setSeg_out (Nat.le_of_not_lt hg)]
  · rw [State.hasPin, State.hasPin, State.setPin, State.setSeg_owSeg_ne ha, State.setSeg, List.length_modify]

theorem State.setPin_pin {s : State} {g j : Nat} (h : s.hasPin g j) (f : PinS → PinS) : (s.setPin g j f).pin g j = f (s.pin g j) := by
  obtain ⟨hg, hj⟩ := h
  rw [State.pin, State.setPin, State.setSeg_owSeg hg, State.pin, List.getElem?_modify_eq, List.getElem?_eq_getElem hj]
  rfl

theorem State.setPin_pin_ne {g j a b : Nat} (h : a = g → b ≠ j) (f : PinS → PinS) (s : State) :
    (s.setPin g j f).pin a b = s.pin a b := by
  by_cases ha : a = g
  · subst ha
    by_cases hg : a < s.integ.seg.length
    · rw [State.pin, State.setPin, State.setSeg_owSeg hg, State.pin, List.getElem?_modify_ne _ _ (h rfl).symm]
    · rw [State.setPin, State.setSeg_out (Nat.le_of_not_lt hg)]
  · rw [State.pin, State.setPin, State.setSeg_owSeg_ne ha, State.pin]

/-! Requests for targeted slots (R188-R190) -/

/-- Slots requested on several pins of a segment: those pins want one, nothing else of the pins changes. -/
theorem State.wantPins_pin {s : State} {a b : Nat} (h : s.hasPin a b) (g : Nat) (l : List Nat) :
    (runAll (State.wantPin g) l s).hasPin a b ∧
    (runAll (State.wantPin g) l s).pin a b = { s.pin a b with want := (s.pin a b).want || (a == g && l.contains b) } := by
  induction l generalizing s with
  | nil => exact ⟨h, by simp [runAll]⟩
  | cons j l ih =>
    obtain ⟨hhas, hpin⟩ := ih ((State.setPin_hasPin g j _ s a b).2 h)
    refine ⟨hhas, hpin.trans ?_⟩
    by_cases hab : a = g ∧ b = j
    · obtain ⟨rfl, rfl⟩ := hab
      rw [State.setPin_pin h]
      simp
    · rw [State.setPin_pin_ne fun ha hb => hab ⟨ha, hb⟩]
      have hne : (a == g && b == j) = false := by simpa using hab
      rw [List.contains_cons, Bool.and_or_distrib_left, hne, Bool.false_or]

/-- Slots requested on pins of several segments. -/
theorem State.wantAll_pin {s : State} {a b : Nat} (h : s.hasPin a b) (e : Nat → List Nat) (gs : List Nat) :
    (runAll (fun g t => runAll (State.wantPin g) (e g) t) gs s).pin a b =
      { s.pin a b with want := (s.pin a b).want || (gs.contains a && (e a).contains b) } := by
  induction gs generalizing s with
  | nil => simp [runAll]
  | cons g gs ih =>
    obtain ⟨hhas, hpin⟩ := State.wantPins_pin h g (e g)
    refine (ih hhas).trans ?_
    rw [hpin]
    by_cases ha : a = g
    · subst ha
      cases (e a).contains b <;> simp
    · have hne : (a == g) = false := by simpa using ha
      rw [List.contains_cons, hne, Bool.false_and, Bool.or_false, Bool.false_or]

/-- The end pins of a segment want a slot (R190). -/
theorem State.wantEnds_pin {s : State} (g : Fin 4) (j : Fin 25) (h : s.hasPin g j) :
    s.wantEnds.pin g j = { s.pin g j with
      want := (s.pin g j).want || s.pinKind g j == some .lowest || s.pinKind g j == some .highest } := by
  have hseg : [0, 1, 2, 3].contains g.val = true := by
    clear h
    revert g
    decide
  have hend : (s.endPins g).contains j.val = (s.pinKind g j == some .lowest || s.pinKind g j == some .highest) := by
    rw [Bool.eq_iff_iff, List.contains_iff_mem, State.endPins, List.mem_filter, List.mem_range]
    exact and_iff_right j.isLt
  rw [State.wantEnds, State.wantAll_pin h, hseg, hend, Bool.true_and, Bool.or_assoc]

/-- The open-wire states of the segments replaced. -/
def State.setSegs (l : List OwSeg) (s : State) : State := { s with integ := { s.integ with seg := l } }

/-- Steps that write the segments alone write the segments alone together. -/
theorem runAll_setSegs {α : Type} {f : α → State → State} (hf : ∀ x s, ∃ l, f x s = s.setSegs l) (is : List α) (s : State) :
    ∃ l, runAll f is s = s.setSegs l := by
  induction is generalizing s with
  | nil => exact ⟨s.integ.seg, rfl⟩
  | cons i is ih =>
    obtain ⟨l, hl⟩ := hf i s
    obtain ⟨l', hl'⟩ := ih (f i s)
    exact ⟨l', hl'.trans (by rw [hl]; rfl)⟩

/-- The request for slots on the end pins writes the segments alone. -/
theorem State.wantEnds_setSegs (s : State) : ∃ l, s.wantEnds = s.setSegs l :=
  runAll_setSegs (fun _ t => runAll_setSegs (fun _ _ => ⟨_, rfl⟩) _ t) _ s

end Sys2Proof.Machine
end

section
/-! PROOFS. The integrity checks of an evaluation and the open-wire judgement (R185, R187-R190, R196). -/

namespace Sys2Proof.Machine

/-! Commands at and before their stage (R31; log entry 8) -/

/-- A command that is a whole stage runs that stage, 850 µs on. -/
theorem State.evalThrough_at {s : State} {k : Nat} (h : s.evalAt k) : s.evalThrough k = (s.at 850000).evalStage k := by
  obtain ⟨hon, hb, he⟩ := h
  rw [State.evalThrough, if_pos hon, State.inBeat_now hon hb, State.evalFrom, State.evalTo_succ,
    State.evalTo_done (s := s.at 850000) he.ge]

/-- A command of a stage that has not come lets the evaluation run up to it. -/
theorem State.evalItem_eStage {s : State} {m k : Nat} (h : s.evalAt m) (hm : m ≤ k) (due : State → Bool) {op : State → State}
    (hop : ∀ t, (op t).beat = t.beat) : (s.evalItem k due op).beat.eStage = k := by
  obtain ⟨hon, hb, he⟩ := h
  have hlater : (!s.evalOn || decide (k < s.beat.eStage)) = false := by simp [hon, he, hm]
  rw [State.evalItem, if_neg (by rw [hlater]; exact Bool.false_ne_true), State.inBeat_now hon hb, State.doIf_beat hop]
  exact congrArg BeatS.eStage (State.evalFrom_work (he.le.trans hm))

theorem exec_openWireSuspect (g : Fin 4) (j : Fin 25) (s : State) : exec (.openWireSuspect g j) s =
    .next (s.evalItem 5 (fun t => t.works .a && t.suspectDue g j) (State.suspect g j)) := rfl

theorem exec_openWireGraceExpiry (g : Fin 4) (j : Fin 25) (s : State) : exec (.openWireGraceExpiry g j) s =
    .next (s.evalItem 6 (fun t => t.graceDue g j) (State.graceExpire g j)) := rfl

theorem exec_checkDisagreement (c : Fin 96) (s : State) : exec (.checkDisagreement c) s =
    .next (s.evalItem 3 (fun t => t.checkDue (c.val + 1)) (State.checkDiff (c.val + 1))) := rfl

theorem exec_sumMismatch (s : State) : exec .sumMismatch s = .next (s.evalThrough 4) := rfl

/-- A command of the evaluation at its stage, when it is due. -/
theorem State.evalItem_due {s : State} {k : Nat} (h : s.evalAt k) {due : State → Bool} (hdue : due (s.at 850000) = true)
    (op : State → State) : s.evalItem k due op = op (s.at 850000) := by
  rw [State.evalItem_at h, State.doIf, if_pos hdue]

/-! Grace times (R196) -/

/-- A pin that is open after its grace time makes OW_REACT apply. -/
theorem State.wireExpired_of_pin {s : State} {g j : Nat} (h : s.hasPin g j) (hopn : (s.pin g j).opn = true)
    (hexp : (s.pin g j).expired = true) : s.wireExpired = true := by
  obtain ⟨hg, hj⟩ := h
  have hseg : s.owSeg g = s.integ.seg[g] := State.owSeg_of_get (List.getElem?_eq_getElem hg)
  have hpin : s.pin g j = (s.owSeg g).pins[j] := by
    rw [State.pin, List.getElem?_eq_getElem hj]
    rfl
  refine List.any_eq_true.2 ⟨_, List.getElem_mem hg, List.any_eq_true.2 ⟨(s.owSeg g).pins[j], ?_, ?_⟩⟩
  · rw [← hseg]
    exact List.getElem_mem hj
  · rw [← hpin, hopn, hexp]
    rfl

/-! Check codes (R189) -/

/-- CHK_DIFF set on a cell. -/
def State.markDiff (c : Nat) (s : State) : State :=
  { s with meas := { s.meas with shown := { s.meas.shown with
    cell := s.meas.shown.cell.modify c fun v => { v with chkDiff := true } } } }

/-- The disagreement of cell c + 1, whose pins are c mod 24 and the next one of segment c / 24. -/
theorem State.checkDiff_eq (c : Nat) (s : State) : s.checkDiff (c + 1) =
    (((s.markDiff c).wantPin (c / 24) (c % 24)).wantPin (c / 24) (c % 24 + 1)).raiseCond (32 + c / 24) 0 := by
  have hpos : c + 1 - 24 * (c / 24) = c % 24 + 1 := by omega
  have hdef : s.checkDiff (c + 1) =
      (((s.markDiff c).wantPin (c / 24) (c + 1 - 24 * (c / 24) - 1)).wantPin (c / 24) (c + 1 - 24 * (c / 24))).raiseCond
        (32 + c / 24) 0 := rfl
  rw [hdef, hpos, Nat.add_sub_cancel]

/-- CHK_DIFF and the two requests reach neither a channel nor an output. -/
theorem State.checkDiff_keeps (c : Nat) (s : State) : (s.checkDiff (c + 1)).meas = (s.markDiff c).meas ∧
    (s.checkDiff (c + 1)).cha = s.cha ∧ (s.checkDiff (c + 1)).chb = s.chb ∧ (s.checkDiff (c + 1)).safe = s.safe := by
  rw [State.checkDiff_eq]
  exact ⟨State.raiseCond_meas .., State.raiseCond_cha .., State.raiseCond_chb .., State.raiseCond_safe ..⟩

/-- The cell carries CHK_DIFF, the others are as they were. -/
theorem State.checkDiff_cell {s : State} {c : Nat} (hc : c < s.meas.shown.cell.length) :
    (s.checkDiff (c + 1)).cell (c + 1) = { s.cell (c + 1) with chkDiff := true } ∧
    ∀ k, k ≠ c → (s.checkDiff (c + 1)).meas.shown.cell[k]? = s.meas.shown.cell[k]? := by
  obtain ⟨hmeas, -⟩ := s.checkDiff_keeps c
  rw [State.cell, hmeas]
  exact ⟨by simp [State.markDiff, State.cell, hc], fun k hk => List.getElem?_modify_ne _ _ hk.symm⟩

/-- The two pins of the cell want a slot, the others of the segment are as they were. -/
theorem State.checkDiff_pins {s : State} {c : Nat} (hlow : s.hasPin (c / 24) (c % 24)) (hhigh : s.hasPin (c / 24) (c % 24 + 1)) :
    ((s.checkDiff (c + 1)).pin (c / 24) (c % 24)).want = true ∧ ((s.checkDiff (c + 1)).pin (c / 24) (c % 24 + 1)).want = true ∧
    ∀ k, k ≠ c % 24 → k ≠ c % 24 + 1 → (s.checkDiff (c + 1)).pin (c / 24) k = s.pin (c / 24) k := by
  have hlow' : (s.markDiff c).hasPin (c / 24) (c % 24) := hlow
  have hhigh' : ((s.markDiff c).wantPin (c / 24) (c % 24)).hasPin (c / 24) (c % 24 + 1) := (State.setPin_hasPin ..).2 hhigh
  have hpin (k : Nat) : (s.checkDiff (c + 1)).pin (c / 24) k =
      (((s.markDiff c).wantPin (c / 24) (c % 24)).wantPin (c / 24) (c % 24 + 1)).pin (c / 24) k := by
    rw [State.checkDiff_eq]
    exact State.pin_of_integ (State.raiseCond_integ ..) ..
  refine ⟨?_, ?_, fun k hk hk' => ?_⟩
  · rw [hpin, State.wantPin, State.setPin_pin_ne (by omega), State.wantPin, State.setPin_pin hlow']
  · rw [hpin, State.wantPin, State.setPin_pin hhigh']
  · rw [hpin, State.wantPin, State.setPin_pin_ne (fun _ => hk'), State.wantPin, State.setPin_pin_ne (fun _ => hk)]
    rfl

/-- The source of the cell's segment is raised. -/
theorem State.checkDiff_fs {s : State} {c : Nat} (hc : c < 96) (hs : s.srcWhole) :
    ((s.checkDiff (c + 1)).fs (32 + c / 24)).latch = true ∧ ((s.checkDiff (c + 1)).fs (32 + c / 24)).cond = true := by
  rw [State.checkDiff_eq]
  refine State.raiseCond_fs ?_ 0
  show 32 + c / 24 < s.flt.src.length
  omega

/-! The stack sum (R190) -/

/-- The mismatch after its judgement: it sets or releases when that is due. -/
def SumS.judged (x : SumS) : SumS := if x.due then { x with mis := !x.mis } else x

theorem SumS.due_iff (x : SumS) : x.due = true ↔ (x.overs = 10 ∧ x.mis = false) ∨ (x.withins = 10 ∧ x.mis = true) := by
  simp [SumS.due]

/-- The mismatches of both channels after their judgement. -/
def State.sumsJudged (s : State) : State :=
  { s with integ := { s.integ with sumA := s.integ.sumA.judged, sumB := s.integ.sumB.judged } }

/-- The stage judges both channels; the onset in channel A requests the slots of the end pins. -/
theorem State.sumStage_eq (s : State) : s.doIf State.sumDue State.sumChange =
    if s.integ.sumA.due && !s.integ.sumA.mis then s.sumsJudged.wantEnds else s.sumsJudged := by
  by_cases hdue : s.sumDue = true
  · rw [State.doIf, if_pos hdue]
    rfl
  · obtain ⟨ha, hb⟩ : s.integ.sumA.due = false ∧ s.integ.sumB.due = false := by simpa [State.sumDue] using hdue
    have hsame : s.sumsJudged = s := by simp [State.sumsJudged, SumS.judged, ha, hb]
    rw [State.doIf, if_neg hdue, ha, hsame]
    rfl

/-- The state after the sums have been judged, or the end pins requested with it, at the end of its stage. -/
theorem exec_sumMismatch_at {s : State} (h : s.evalAt 4) : exec .sumMismatch s = .next
    ((if s.integ.sumA.due && !s.integ.sumA.mis then (s.at 850000).sumsJudged.wantEnds else (s.at 850000).sumsJudged).setBeat
      fun b => { b with eStage := 5 }) := by
  have hstage : (s.at 850000).evalStage 4 =
      ((s.at 850000).doIf State.sumDue State.sumChange).setBeat fun b => { b with eStage := 5 } := if_pos h.2.2
  rw [exec_sumMismatch, State.evalThrough_at h, hstage, State.sumStage_eq]
  rfl

/-- The stage leaves all but the segments and the two sums, and counts. -/
theorem exec_sumMismatch_keeps {s : State} (h : s.evalAt 4) : ∃ l, exec .sumMismatch s = .next
    (((s.at 850000).sumsJudged.setSegs l).setBeat fun b => { b with eStage := 5 }) := by
  rw [exec_sumMismatch_at h]
  split
  · obtain ⟨l, hl⟩ := State.wantEnds_setSegs (s.at 850000).sumsJudged
    exact ⟨l, by rw [hl]⟩
  · exact ⟨s.integ.seg, rfl⟩

/-! The judgement of a slot (R185) -/

theorem owJudge_interior (dlo dhi dref : Int) :
    (owJudge .interior dlo dhi dref = .opn ↔ dlo - dref ≤ -7680 ∧ 7680 ≤ dhi - dref) ∧
    (owJudge .interior dlo dhi dref = .intact ↔ -3840 < dlo - dref ∧ dhi - dref < 3840) := by
  simp only [owJudge]
  split
  · next hopn => exact ⟨iff_of_true rfl hopn, iff_of_false nofun (by omega)⟩
  · next hopn =>
    split
    · next hint => exact ⟨iff_of_false nofun hopn, iff_of_true rfl hint⟩
    · next hint => exact ⟨iff_of_false nofun hopn, iff_of_false nofun hint⟩

/-- The end pins of a segment are judged by the shift d of their one cell. -/
theorem owJudge_end (d : Int) :
    ((if d ≤ -7680 then OwJudge.opn else if -3840 < d then .intact else .inconclusive) = .opn ↔ d ≤ -7680) ∧
    ((if d ≤ -7680 then OwJudge.opn else if -3840 < d then .intact else .inconclusive) = .intact ↔ -3840 < d) := by
  split
  · next hopn => exact ⟨iff_of_true rfl hopn, iff_of_false nofun (by omega)⟩
  · next hopn =>
    split
    · next hint => exact ⟨iff_of_false nofun hopn, iff_of_true rfl hint⟩
    · next hint => exact ⟨iff_of_false nofun hopn, iff_of_false nofun hint⟩

end Sys2Proof.Machine

namespace Sys2Proof.Proofs
open Sys2Proof.Machine

/-- Settles O37: a command at its stage makes one change of a pin or of a cell (`State.evalItem_due`), the sums are judged together
(`State.sumStage_eq`), an earlier stage lets the evaluation run (`State.evalItem_eStage`), and the judgement is a case split. -/
theorem integrityChecks : Obligations.IntegrityChecks := by
  refine ⟨fun s g j h hworks hdue hseg hpins => ?_, fun s g j h hopn hexp hgrace hseg hpins => ?_,
    fun s c h hdue hcells hwhole hseg hpins => ?_, fun s h hovers hmis hseg hall => ?_, fun s h => ?_,
    fun s h hwithins hmis hsame => ?_, fun s g j c k h hk => ⟨⟨_, exec_openWireSuspect g j s, ?_⟩,
      ⟨_, exec_openWireGraceExpiry g j s, ?_⟩, ⟨_, exec_checkDisagreement c s, ?_⟩⟩, fun dlo dhi dref => ?_⟩
  · have hhas : (s.at 850000).hasPin g j := State.hasPin_fin hseg g hpins j.isLt
    have hnow : ((s.at 850000).works .a && (s.at 850000).suspectDue g j) = true := Bool.and_eq_true_iff.2 ⟨hworks, hdue⟩
    refine ⟨_, exec_openWireSuspect g j s, ?_⟩
    rw [State.evalItem_due h hnow]
    exact ⟨State.setPin_pin hhas _, fun k hk => State.setPin_pin_ne (fun _ => hk) _ _, rfl, rfl, rfl, rfl⟩
  · have hhas : (s.at 850000).hasPin g j := State.hasPin_fin hseg g hpins j.isLt
    have hnow : (s.at 850000).graceDue g j = true := by
      show ((s.pin g j).opn && !(s.pin g j).expired && decide (1000 * s.nat .OW_GRACE ≤ (s.pin g j).graceBeats)) = true
      rw [hopn, hexp, decide_eq_true hgrace]
      rfl
    have hpin : ((s.at 850000).graceExpire g j).pin g j = { s.pin g j with expired := true } := State.setPin_pin hhas _
    refine ⟨_, exec_openWireGraceExpiry g j s, ?_⟩
    rw [State.evalItem_due h hnow]
    exact ⟨hpin, State.wireExpired_of_pin ((State.setPin_hasPin ..).2 hhas) (by rw [hpin]; exact hopn) (by rw [hpin]),
      fun k hk => State.setPin_pin_ne (fun _ => hk) _ _, rfl, rfl, rfl, rfl⟩
  · refine ⟨_, exec_checkDisagreement c s, ?_⟩
    rw [State.evalItem_due h (due := fun t => t.checkDue (c.val + 1)) hdue]
    have hhas {b : Nat} (hb : b < 25) : (s.at 850000).hasPin (c.val / 24) b := ⟨by
      show c.val / 24 < s.integ.seg.length
      omega, by
      show b < (s.owSeg (c.val / 24)).pins.length
      omega⟩
    obtain ⟨hcell, hothers⟩ := State.checkDiff_cell (s := s.at 850000) (c := c) (by show c.val < s.meas.shown.cell.length; omega)
    obtain ⟨hlow, hhigh, hpin⟩ := State.checkDiff_pins (hhas (b := c.val % 24) (by omega)) (hhas (by omega))
    obtain ⟨hlatch, hcond⟩ := State.checkDiff_fs (s := s.at 850000) c.isLt hwhole
    obtain ⟨-, hcha, hchb, hsafe⟩ := (s.at 850000).checkDiff_keeps c
    have hmod : ((c % 24 + 1 : Fin 96) : Nat) = c.val % 24 + 1 := by
      show (c.val % 24 + 1) % 96 = c.val % 24 + 1
      omega
    exact ⟨hcell, hlow, hhigh, fun k hk hk' => hpin k (fun e => hk (Fin.ext e)) fun e => hk' (Fin.ext (e.trans hmod.symm)),
      hlatch, hcond, hothers, hcha, hchb, hsafe⟩
  · have hdue : s.integ.sumA.due = true := (SumS.due_iff _).2 (.inl ⟨hovers, hmis⟩)
    have honset : (s.integ.sumA.due && !s.integ.sumA.mis) = true := by rw [hdue, hmis]; rfl
    have hhas (g : Fin 4) (j : Fin 25) : (s.at 850000).sumsJudged.hasPin g j := by
      have hg : g.val < s.integ.seg.length := by omega
      refine ⟨hg, ?_⟩
      have hlen : (s.owSeg g).pins.length = 25 := by
        rw [State.owSeg_of_get (List.getElem?_eq_getElem hg)]
        exact beq_iff_eq.1 (List.all_eq_true.1 hall _ (List.getElem_mem hg))
      show j.val < (s.owSeg g).pins.length
      omega
    refine ⟨_, exec_sumMismatch_at h, ?_⟩
    rw [if_pos honset]
    obtain ⟨l, hl⟩ := State.wantEnds_setSegs (s.at 850000).sumsJudged
    refine ⟨?_, rfl, fun g j => ?_, ?_⟩
    · have hmisA : s.integ.sumA.judged.mis = true := by rw [SumS.judged, if_pos hdue, hmis]; rfl
      rw [hl]
      exact hmisA
    · rw [State.pin_of_integ (State.setBeat_integ ..), State.wantEnds_pin g j (hhas g j)]
      rfl
    · rw [hl]
      exact ⟨rfl, rfl, rfl, rfl⟩
  · obtain ⟨l, hl⟩ := exec_sumMismatch_keeps h
    refine ⟨_, hl, rfl, fun ch => ?_, rfl⟩
    simp only [← SumS.due_iff]
    cases ch <;> rfl
  · have hdue : s.integ.sumA.due = true := (SumS.due_iff _).2 (.inr ⟨hwithins, hmis⟩)
    have hjudged : s.integ.sumA.judged = { s.integ.sumA with mis := false } := by rw [SumS.judged, if_pos hdue, hmis]; rfl
    have hno : (s.integ.sumA.due && !s.integ.sumA.mis) = false := by rw [hmis]; exact Bool.and_false _
    have hboth : (s.at 850000).sumsJudged = { s.at 850000 with integ := { s.integ with
        sumA := { s.integ.sumA with mis := false }, sumB := { s.integ.sumB with mis := false } } } := by
      rw [State.sumsJudged, State.at_integ, hsame, hjudged]
    rw [exec_sumMismatch_at h, if_neg (by rw [hno]; exact Bool.false_ne_true), hboth]
    rfl
  · exact State.evalItem_eStage h (by omega) _ (State.suspect_beat g j)
  · exact State.evalItem_eStage h (by omega) _ (State.graceExpire_beat g j)
  · exact State.evalItem_eStage h hk _ (State.checkDiff_beat (c.val + 1))
  · obtain ⟨hopn, hint⟩ := owJudge_interior dlo dhi dref
    obtain ⟨lopn, lint⟩ := owJudge_end (dhi - dref)
    obtain ⟨uopn, uint⟩ := owJudge_end (dlo - dref)
    exact ⟨hopn, hint, lopn, lint, uopn, uint⟩

end Sys2Proof.Proofs
end

section
/-! PROOFS. The balancing timeout, the faults of the switches and the balancing gate (R198, R199, R209, R213). -/

namespace Sys2Proof.Machine

/-! The timeout (R213) -/

theorem exec_balTimeout (s : State) : exec .balTimeout s = .next (if s.balTimeoutDue = true then s.balTimeout else s) := rfl

theorem State.balTimeoutDue_iff (s : State) :
    s.balTimeoutDue = true ↔ s.bal.src = 2 ∧ s.bal.tmo.toNat ≤ s.bal.reqAge ∧ s.bal.reqDone = false := by
  simp [State.balTimeoutDue, and_assoc]

/-- While beats run the recorder's intake takes an event (R35). -/
theorem State.event_running {s : State} (hshown : s.fltShown = none) (hrun : s.beat.running = true) (p : Plane) (code : Nat)
    (ps : List Word) : s.event p code ps = { s with log := { s.log with intake := s.log.intake ++ [⟨p, code, ps⟩] } } := by
  rw [State.event, hshown, hrun]
  rfl

/-! Switches (R209) -/

theorem State.sw_of_get {s : State} {c : Nat} {x : SwS} (h : s.bal.sw[c]? = some x) : s.sw (c + 1) = x := by
  rw [State.sw, Nat.add_sub_cancel, h]
  rfl

/-- The switches replaced. -/
def State.setSwitches (l : List SwS) (s : State) : State := { s with bal := { s.bal with sw := l } }

theorem State.setSw_eq {s : State} {c : Nat} {x : SwS} (h : s.bal.sw[c]? = some x) (f : SwS → SwS) :
    s.setSw (c + 1) f = s.setSwitches (s.bal.sw.set c (f x)) := by
  rw [State.setSw, Nat.add_sub_cancel, modify_eq_set h]
  rfl

theorem exec_switchOvercurrent (c : Fin 96) (s : State) : exec (.switchOvercurrent c) s = .next (s.overcurrent (c.val + 1)) := rfl

theorem exec_switchNoCurrent (c : Fin 96) (s : State) : exec (.switchNoCurrent c) s =
    .next (if s.noCurrentDue (c.val + 1) = true then s.noCurrent (c.val + 1) else s) := rfl

theorem exec_switchConductsOff (c : Fin 96) (s : State) : exec (.switchConductsOff c) s =
    .next (if s.conductsDue (c.val + 1) = true then s.conducts (c.val + 1) else s) := rfl

/-- A switch that is neither cut nor locked is cut for the beat, and locked off and raised in the second consecutive one. -/
theorem State.overcurrent_eq {s : State} {c : Nat} {x : SwS} (h : s.bal.sw[c]? = some x) (hcut : x.cut = false)
    (hlock : x.lock = false) : s.overcurrent (c + 1) =
      if 1 ≤ x.cutRun then
        (s.setSwitches (s.bal.sw.set c { x with cut := true, lock := true, ran := true })).raise (44 + c / 24) 0
      else s.setSwitches (s.bal.sw.set c { x with cut := true, ran := true }) := by
  have hfree : (x.cut || x.lock) = false := by rw [hcut, hlock]; rfl
  unfold State.overcurrent
  dsimp only
  rw [State.sw_of_get h, if_neg (by rw [hfree]; exact Bool.false_ne_true), State.setSw_eq h, State.setSw_eq h]
  rfl

theorem State.noCurrentDue_iff {s : State} {c : Nat} {x : SwS} (h : s.bal.sw[c]? = some x) :
    s.noCurrentDue (c + 1) = true ↔ x.noRun = 4 := by
  rw [State.noCurrentDue, State.sw_of_get h, beq_iff_eq]

theorem State.conductsDue_iff {s : State} {c : Nat} {x : SwS} (h : s.bal.sw[c]? = some x) :
    s.conductsDue (c + 1) = true ↔ x.offRun = 2 := by
  rw [State.conductsDue, State.sw_of_get h, beq_iff_eq]

/-- SWFLT of the segment of cell c + 1 sets and its source is raised. -/
theorem State.switchFault_spec {s t : State} {c : Nat} {d : Word} (hc : c < 96) (hs : s.srcWhole)
    (ht : t = s.switchFault (c + 1) d) : t.bal.swFlt = s.bal.swFlt.set (c / 24) true ∧ t.bal.sw = s.bal.sw ∧
      (t.fs (44 + c / 24)).latch = true ∧ t.meas = s.meas ∧ t.cha = s.cha ∧ t.chb = s.chb := by
  have hdef : t = State.raise (44 + c / 24) d { s with bal := { s.bal with swFlt := s.bal.swFlt.set (c / 24) true } } := ht
  obtain ⟨hlatch, -⟩ := State.raise_fs (s := { s with bal := { s.bal with swFlt := s.bal.swFlt.set (c / 24) true } })
    (n := 44 + c / 24) (by show 44 + c / 24 < s.flt.src.length; omega) d
  rw [hdef, State.raise_bal, State.raise_meas, State.raise_cha, State.raise_chb]
  exact ⟨rfl, rfl, hlatch, rfl, rfl, rfl⟩

/-! The gate (R198, R199) -/

/-- The gate of a window serves this beat while it stands open in it, the next beat otherwise. -/
theorem exec_balancingGate (w : Fin 4) (s : State) : exec (.balancingGate w) s = .next { s with
    bal := if (s.gatesNow w && !(s.bal.gate[w.val]?.getD false)) = true then
        s.bal.gateSet fun v => s.gateMates w v && s.gatesNow v
      else if s.gatesNext w = true then s.bal.gateSetNext fun v => s.gateMates w v && s.gatesNext v
      else s.bal } := rfl

/-- A window that is not taken, or whose gate stands, does not gate this beat. -/
theorem State.gate_stands {s : State} {w : Nat} (h : s.gatesNow w = false ∨ s.bal.gate[w]? = some true) :
    ¬ (s.gatesNow w && !(s.bal.gate[w]?.getD false)) = true := by
  rcases h with h | h <;> simp [h]

theorem State.gatesNow_iff (s : State) (w : Nat) : s.gatesNow w = true ↔ s.winCellChk w = true ∧ s.cellsTaken = true ∧
    (s.beat.wins[w]?.getD {}).rejected = false ∧ (s.beat.wins[w]?.getD {}).closed = false := by
  simp only [State.gatesNow, Bool.and_eq_true, Bool.not_eq_true', and_assoc]

end Sys2Proof.Machine

namespace Sys2Proof.Proofs
open Sys2Proof.Machine

/-- Settles O33: each command asks one question of its switch, its window or the requests' age, and answers with one change of the
balancing state, which a raise leaves alone. -/
theorem balancingFaults : Obligations.BalancingFaults := by
  refine ⟨fun s hsrc htmo hdone hshown hrun => ?_, fun s h => ?_, fun s c x hx hcut hlock hrun => ?_,
    fun s c x hx hcut hlock hrun hs => ?_, fun s c x hx hno hs => ?_, fun s c x hx hoff hs => ?_, fun s c x hx hno hoff => ⟨?_, ?_⟩,
    fun s w hnow hgate => ⟨_, exec_balancingGate w s, ?_⟩, fun s w h hnext => ⟨_, exec_balancingGate w s, ?_⟩, fun s w h hnext => ?_,
    fun s w => s.gatesNow_iff w⟩
  · rw [exec_balTimeout, if_pos ((State.balTimeoutDue_iff s).2 ⟨hsrc, htmo, hdone⟩), State.balTimeout, State.event_running]
    · exact hshown
    · exact hrun
  · rw [exec_balTimeout, if_neg]
    rw [State.balTimeoutDue_iff]
    rintro ⟨hsrc, htmo, hdone⟩
    rcases h with h | h | h
    · exact h hsrc
    · omega
    · exact Bool.false_ne_true (hdone.symm.trans h)
  · rw [exec_switchOvercurrent, State.overcurrent_eq hx hcut hlock, if_neg (by omega)]
    rfl
  · refine ⟨_, exec_switchOvercurrent c s, ?_⟩
    rw [State.overcurrent_eq hx hcut hlock, if_pos hrun]
    obtain ⟨hlatch, -⟩ := State.raise_fs
      (s := s.setSwitches (s.bal.sw.set c { x with cut := true, lock := true, ran := true })) (n := 44 + c.val / 24)
      (by show 44 + c.val / 24 < s.flt.src.length; omega) 0
    exact ⟨State.raise_bal .., hlatch, State.raise_meas .., State.raise_cha .., State.raise_chb .., State.raise_safe ..⟩
  · refine ⟨_, exec_switchNoCurrent c s, ?_⟩
    rw [if_pos ((State.noCurrentDue_iff hx).2 hno), State.noCurrent, State.setSw_eq hx]
    obtain ⟨hflt, hsw, hrest⟩ := State.switchFault_spec (s := s.setSwitches (s.bal.sw.set c { x with noRun := 5 })) c.isLt hs rfl
    exact ⟨hflt, hsw, hrest⟩
  · refine ⟨_, exec_switchConductsOff c s, ?_⟩
    rw [if_pos ((State.conductsDue_iff hx).2 hoff), State.conducts, State.setSw_eq hx]
    obtain ⟨hflt, hsw, hrest⟩ := State.switchFault_spec (s := s.setSwitches (s.bal.sw.set c { x with offRun := 3 })) c.isLt hs rfl
    exact ⟨hflt, hsw, hrest⟩
  · rw [exec_switchNoCurrent, if_neg (mt (State.noCurrentDue_iff hx).1 (by omega))]
  · rw [exec_switchConductsOff, if_neg (mt (State.conductsDue_iff hx).1 (by omega))]
  · rw [if_pos (by rw [hnow, hgate]; rfl)]
    exact ⟨rfl, fun v => indexed_map_getElem? ..⟩
  · rw [if_neg (State.gate_stands h), if_pos hnext]
    exact ⟨rfl, fun v => indexed_map_getElem? ..⟩
  · rw [exec_balancingGate, if_neg (State.gate_stands h), if_neg (by rw [hnext]; exact Bool.false_ne_true)]

end Sys2Proof.Proofs
end

section
/-! PROOFS. A run that starts while the link to its cells is held in reset. -/

namespace Sys2Proof.Machine

/-- An Active module whose excitation is enabled, with one slot in the rotation and every cell fit for it, while the link of segment 0 to
channel A is held in reset. -/
def runBehindLink : State :=
  { pwr.state := .active, beat.running := true, beat.bStage := 1, imp.swEn := true, flt.blk := [(.link 0 .a, 1)],
    cfg.image := some { recs := [⟨.FREQ, 0, [1000]⟩, ⟨.IMP_SRC, 0, [1]⟩, ⟨.EXC_EN, 0, [1]⟩] },
    bal.rw := List.replicate 96 (true, 1000), meas.shown.cell := List.replicate 96 { valid := true } }

/-- The run of group 0 is due, and nothing of R218 stands against it. -/
theorem runBehindLink_due : runBehindLink.imp.swEn = true ∧ runBehindLink.bal.run = none ∧ runBehindLink.bal.stopped = false ∧
    rotationAt runBehindLink.rotation runBehindLink.bal.next = some (0, 0) ∧ runBehindLink.blockStarts 0 = true ∧
    runBehindLink.on .EXC_EN = true ∧ runBehindLink.fullCadence = true ∧ 1 ∈ runBehindLink.excCells 0 ∧
    runBehindLink.bal.cal = none := by
  decide +kernel

theorem exec_excitationRunStart_runBehindLink : exec .excitationRunStart runBehindLink = .next runBehindLink.runStart :=
  congrArg Host.Outcome.next (if_pos (by decide +kernel))

/-- The die of segment 0 keeps the command that it had: the switch of cell 1 stays open (R19; log entry 96). -/
theorem runBehindLink_switch : runBehindLink.runStart.bal.sw[0]? = some ({} : SwS) := by
  decide +kernel

end Sys2Proof.Machine

namespace Sys2Proof.Proofs
open Sys2Proof.Machine

/-- Refutes O35: the clause of EXCITATION_RUN_START has the switches of the run's cells closed after it; while the link that carries the
commands of their segment is held in reset, which does not keep a run from starting, the die keeps the commands that it had (R19; log
entry 96), and an open switch stays open. -/
theorem not_calibrationAndExcitation : ¬ Obligations.CalibrationAndExcitation := by
  rintro ⟨-, -, -, -, -, -, -, -, -, -, -, runStart, -⟩
  obtain ⟨hen, hrun, hstopped, hat, hblock, hon, hcad, hcells, hcal⟩ := runBehindLink_due
  obtain ⟨t, r, hx, -, -, -, hr, -, -, hclosed, -⟩ :=
    runStart runBehindLink (0, 0) hen hrun hstopped hat hblock hon hcad (List.ne_nil_of_mem hcells) hcal
  obtain rfl : runBehindLink.runStart = t := by
    rw [exec_excitationRunStart_runBehindLink] at hx
    exact Host.Outcome.next.inj hx
  obtain ⟨hlevel, -⟩ := hclosed 1 (hr ▸ hcells) {} runBehindLink_switch
  exact absurd hlevel (by decide)

end Sys2Proof.Proofs
end

section
/-! PROOFS. Open-wire passes, slots and clearing (R181, R182, R188, R197). -/

namespace Sys2Proof.Machine

/-! Passes (R181) -/

theorem exec_openWirePass (s : State) : exec .openWirePass s = .next (if s.passDue = true then s.startPass else s) := rfl

/-- A segment with a cell begins its pass, another one stays as it is. -/
theorem State.startPass_get (s : State) (i : Nat) : s.startPass.integ.seg[i]? = s.integ.seg[i]?.map fun x =>
    if s.segUsed i then { x with pass := some 0, again := [], due := some 0, slot := none, pull := none } else x :=
  indexed_map_getElem? ..

/-- A pass begins only at a multiple of OW_PERIOD seconds. -/
theorem State.passDue_period {s : State} (h : s.passDue = true) : s.beat.num.toNat % (s.nat .OW_PERIOD * 1000) = 0 := by
  simp only [State.passDue, State.passAt, Bool.and_eq_true, decide_eq_true_iff] at h
  obtain ⟨⟨⟨⟨-, hnum⟩, -⟩, -⟩, -⟩ := h
  exact hnum

/-! Slots (R182, R186, R188) -/

theorem exec_openWireSlot (g : Fin 4) (s : State) : exec (.openWireSlot g) s =
    .next (if ((s.owSeg g).due.isSome && (s.owSeg g).pass.isSome) = true then s.startSlot g else s) := rfl

theorem exec_targetedSlot (g : Fin 4) (s : State) : exec (.targetedSlot g) s =
    .next (if ((s.owSeg g).due.isSome && (s.owSeg g).pass.isNone) = true then s.startSlot g else s) := rfl

/-- A slot that is due begins by the command of its kind: that of the pass while one runs, the targeted one otherwise. -/
theorem exec_slot_pass {s : State} {g : Fin 4} {x : OwSeg} (hx : s.integ.seg[g.val]? = some x) {j p : Nat}
    (hdue : x.due = some j) (hpass : x.pass = some p) :
    exec (.openWireSlot g) s = .next (s.startSlot g) ∧ exec (.targetedSlot g) s = .next s := by
  rw [exec_openWireSlot, exec_targetedSlot, State.owSeg_of_get hx, hdue, hpass]
  exact ⟨rfl, rfl⟩

theorem exec_slot_targeted {s : State} {g : Fin 4} {x : OwSeg} (hx : s.integ.seg[g.val]? = some x) {j : Nat}
    (hdue : x.due = some j) (hpass : x.pass = none) :
    exec (.targetedSlot g) s = .next (s.startSlot g) ∧ exec (.openWireSlot g) s = .next s := by
  rw [exec_openWireSlot, exec_targetedSlot, State.owSeg_of_get hx, hdue, hpass]
  exact ⟨rfl, rfl⟩

theorem exec_slot_none {s : State} {g : Fin 4} {x : OwSeg} (hx : s.integ.seg[g.val]? = some x) (hdue : x.due = none) :
    exec (.openWireSlot g) s = .next s ∧ exec (.targetedSlot g) s = .next s := by
  rw [exec_openWireSlot, exec_targetedSlot, State.owSeg_of_get hx, hdue]
  exact ⟨rfl, rfl⟩

/-- The slot on pin j repeats an inconclusive one: after the slots of a pass, or without one (R186). -/
def OwSeg.repeats (x : OwSeg) (j : Nat) : Bool := x.again.contains j && (x.pass.isNone || x.pass.any fun p => decide (100 ≤ p))

theorem OwSeg.repeats_inPass {x : OwSeg} {p : Nat} (hpass : x.pass = some p) (hp : p < 100) (j : Nat) : x.repeats j = false := by
  rw [OwSeg.repeats, hpass]
  simp [hp]

theorem OwSeg.repeats_afterPass {x : OwSeg} {j p : Nat} (hpass : x.pass = some p) (hp : 100 ≤ p) (hj : j ∈ x.again) :
    x.repeats j = true := by
  rw [OwSeg.repeats, hpass]
  simp [hp, hj]

theorem OwSeg.repeats_targeted {x : OwSeg} (hpass : x.pass = none) (j : Nat) : x.repeats j = x.again.contains j := by
  rw [OwSeg.repeats, hpass]
  exact Bool.and_true _

/-- What waits to be repeated once the slot on pin j has begun. -/
def OwSeg.leftAgain (x : OwSeg) (j : Nat) : List Nat := if x.repeats j then x.again.erase j else x.again

/-- Without a pass the pin waits no more, whether it did or not. -/
theorem OwSeg.leftAgain_targeted {x : OwSeg} (hpass : x.pass = none) (j : Nat) : x.leftAgain j = x.again.erase j := by
  rw [OwSeg.leftAgain, OwSeg.repeats_targeted hpass]
  split
  · rfl
  · next h => exact (List.erase_of_not_mem fun hj => h (List.contains_iff_mem.2 hj)).symm

theorem State.setSeg_eq {s : State} {g : Nat} {x : OwSeg} (h : s.integ.seg[g]? = some x) (f : OwSeg → OwSeg) :
    s.setSeg g f = s.setSegs (s.integ.seg.set g (f x)) := by
  rw [State.setSeg, modify_eq_set h]
  rfl

/-- The slot that is due begins on a tested pin. -/
theorem State.startSlot_tested {s : State} {g j : Nat} {x : OwSeg} (hx : s.integ.seg[g]? = some x) (hdue : x.due = some j)
    (hkind : (s.pinKind g j).isSome = true) : s.startSlot g = s.setSegs (s.integ.seg.set g { x with
      due := none, again := x.leftAgain j, slot := some { pin := j, targeted := x.pass.isNone, again := x.repeats j } }) := by
  have hnone : (s.pinKind g j).isNone = false := by rw [← Option.not_isSome, hkind]; rfl
  rw [State.startSlot, State.setSeg_eq hx]
  simp only [hdue, hnone]
  rfl

/-- The slot of an untested pin stays empty (R179). -/
theorem State.startSlot_untested {s : State} {g j : Nat} {x : OwSeg} (hx : s.integ.seg[g]? = some x) (hdue : x.due = some j)
    (hkind : s.pinKind g j = none) :
    s.startSlot g = s.setSegs (s.integ.seg.set g { x with due := none, again := x.leftAgain j }) := by
  rw [State.startSlot, State.setSeg_eq hx]
  simp only [hdue, hkind]
  rfl

/-! Clearing (R197) -/

theorem exec_openWireClear (g : Fin 4) (j : Fin 25) (s : State) :
    exec (.openWireClear g j) s = .next (if (s.pin g j).clearDue = true then s.wireClear g j else s) := rfl

/-- A pin without its marking and its grace time. -/
def PinS.cleared (p : PinS) : PinS := { p with opn := false, intactRun := 0, clearDue := false, graceBeats := 0, expired := false }

/-- The pin cleared, with its record; the segment's condition is not judged yet. -/
def State.pinCleared (g j : Nat) (s : State) : State := (s.setPin g j PinS.cleared).wireEvent 2 g j

/-- The segment's condition ends with its last open pin. -/
theorem State.wireClear_eq (g j : Nat) (s : State) : s.wireClear g j =
    if (s.pinCleared g j).segOpen g then s.pinCleared g j else (s.pinCleared g j).endCond (36 + g) := rfl

/-- A pin's end leaves the measurement, the channels, the outputs and the collectors alone, and writes its record. -/
theorem State.pinCleared_keeps {s : State} (hshown : s.fltShown = none) (hrun : s.beat.running = true) (g j : Nat) :
    s.pinCleared g j = { s.setPin g j PinS.cleared with log := { s.log with intake := s.log.intake ++
      [⟨.data, 0x503, [nword 2, nword (g + 1), nword (j + 1), nword (24 * g + j)]⟩] } } :=
  State.event_running (s := s.setPin g j PinS.cleared) hshown hrun ..

/-- Of what a pin's end leaves, the segment's condition changes at most its source. -/
theorem State.wireClear_keeps (g j : Nat) (s : State) : (s.wireClear g j).integ = (s.pinCleared g j).integ ∧
    (s.wireClear g j).log = (s.pinCleared g j).log ∧ (s.wireClear g j).meas = s.meas ∧ (s.wireClear g j).cha = s.cha ∧
    (s.wireClear g j).chb = s.chb ∧ (s.wireClear g j).safe = s.safe := by
  rw [State.wireClear_eq]
  split <;> exact ⟨rfl, rfl, rfl, rfl, rfl, rfl⟩

theorem State.segOpen_of_integ {s t : State} (h : t.integ = s.integ) (g : Nat) : t.segOpen g = s.segOpen g := by
  rw [State.segOpen, State.segOpen, State.owSeg, State.owSeg, h]

/-- The source of the segment ends when no pin of it is open any more, and stays as it was otherwise. -/
theorem State.wireClear_flt (g j : Nat) (s : State) :
    ((s.wireClear g j).segOpen g = false → ((s.wireClear g j).fs (36 + g)).cond = false) ∧
    ((s.wireClear g j).segOpen g = true → (s.wireClear g j).flt = s.flt) := by
  obtain ⟨hinteg, -⟩ := s.wireClear_keeps g j
  rw [State.segOpen_of_integ hinteg, State.wireClear_eq]
  cases (s.pinCleared g j).segOpen g
  · exact ⟨fun _ => congrArg FsSrc.cond (State.endCond_fs (36 + g) _), nofun⟩
  · exact ⟨nofun, fun _ => rfl⟩

end Sys2Proof.Machine

namespace Sys2Proof.Proofs
open Sys2Proof.Machine

/-- Settles O36: a pass begins on every used segment, a due slot by `State.startSlot_tested` or `State.startSlot_untested`, and a pin
clears by `State.wireClear_eq`. -/
theorem openWireSlots : Obligations.OpenWireSlots := by
  refine ⟨fun s hdue => ⟨s.startPass, ?_, rfl, fun i x hx hused => ?_, fun i hused => ?_⟩, fun s hnum => ?_,
    fun s g x j p hx hdue hpass hp hkind => ?_, fun s g x j p hx hdue hpass hp hagain hkind => ?_,
    fun s g x j hx hdue hpass hkind => ?_, fun s g x hx hdue => exec_slot_none hx hdue,
    fun s g x j p hx hdue hpass hp hkind => ?_, fun s g j hdue hseg hpins hshown hrun => ⟨s.wireClear g j, ?_, ?_⟩,
    fun s g j hdue => ?_⟩
  · rw [exec_openWirePass, if_pos hdue]
  · rw [State.startPass_get, hx, Option.map_some, if_pos hused]
  · rw [State.startPass_get]
    simp [hused]
  · rw [exec_openWirePass, if_neg (mt State.passDue_period hnum)]
  · obtain ⟨hslot, htargeted⟩ := exec_slot_pass hx hdue hpass
    refine ⟨?_, htargeted⟩
    rw [hslot, State.startSlot_tested hx hdue hkind, OwSeg.leftAgain, OwSeg.repeats_inPass hpass hp, hpass]
    rfl
  · obtain ⟨hslot, htargeted⟩ := exec_slot_pass hx hdue hpass
    refine ⟨?_, htargeted⟩
    rw [hslot, State.startSlot_tested hx hdue hkind, OwSeg.leftAgain, OwSeg.repeats_afterPass hpass hp hagain, hpass]
    rfl
  · obtain ⟨htargeted, hslot⟩ := exec_slot_targeted hx hdue hpass
    refine ⟨?_, hslot⟩
    rw [htargeted, State.startSlot_tested hx hdue hkind, OwSeg.leftAgain_targeted hpass, OwSeg.repeats_targeted hpass, hpass]
    rfl
  · obtain ⟨hslot, -⟩ := exec_slot_pass hx hdue hpass
    rw [hslot, State.startSlot_untested hx hdue hkind, OwSeg.leftAgain, OwSeg.repeats_inPass hpass hp]
    rfl
  · rw [exec_openWireClear, if_pos hdue]
  · obtain ⟨hinteg, hlog, hrest⟩ := s.wireClear_keeps g j
    obtain ⟨hended, hstays⟩ := s.wireClear_flt g j
    refine ⟨?_, fun k hk => ?_, hended, hstays, ?_, hrest⟩
    · rw [State.pin_of_integ hinteg]
      exact State.setPin_pin (State.hasPin_fin hseg g hpins j.isLt) _
    · rw [State.pin_of_integ hinteg]
      exact State.setPin_pin_ne (fun _ => hk) _ _
    · rw [hlog, State.pinCleared_keeps hshown hrun]
      rfl
  · rw [exec_openWireClear, if_neg (by rw [hdue]; exact Bool.false_ne_true)]

end Sys2Proof.Proofs
end

section
/-! PROOFS. The duty pattern of the balancing switches (R209, R214, R216). -/

namespace Sys2Proof.Machine

/-- The pattern's test on natural numbers is that of R214, the difference (j - n) taken modulo 16 over the integers: 16 n is a multiple of
the modulus, and keeps the natural difference from truncating. -/
theorem dutyPattern_iff (n j d : Nat) : dutyPattern n j d = true ↔ ((j : Int) - n) % 16 < d := by
  rw [dutyPattern, decide_eq_true_iff]
  omega

/-- For a DUTY of at most 16, D on a segment is the smaller of DUTY and the thermal cap of R216. -/
theorem State.dutyOn_eq {s : State} (hduty : s.bal.duty.toNat ≤ 16) (seg : Nat) :
    s.dutyOn seg = min s.bal.duty.toNat (if s.grpEff seg = 2 then s.nat .BAL_THR_DUTY else 16) := by
  rw [State.dutyOn, State.dutyCap, Nat.min_eq_left hduty]
  simp only [beq_iff_eq]

/-- A switch that nothing has opened conducts as it is commanded (R209, R210). -/
theorem State.swPattern_closable {s : State} {n : Nat} (hlock : (s.sw n).lock = false) (hcut : (s.sw n).cut = false) (j : Nat) :
    s.swPattern n j = s.swAsked n j := by
  rw [State.swPattern, hlock, hcut]
  rfl

/-- A locked switch, or one that its die has opened, does not conduct, whatever its command (R209). -/
theorem State.swPattern_opened {s : State} {n : Nat} (hopen : (s.sw n).lock = true ∨ (s.sw n).cut = true) (j : Nat) :
    s.swPattern n j = false := by
  rw [State.swPattern]
  rcases hopen with hlock | hcut
  · rw [hlock, Bool.not_true, Bool.false_and, Bool.false_and]
  · rw [hcut, Bool.not_true, Bool.and_false, Bool.false_and]

/-- The duty command without a level asks for the pattern of R214. -/
theorem State.swAsked_duty {s : State} {n : Nat} (hduty : (s.sw n).duty = true) (hlevel : (s.sw n).level = false) (j : Nat) :
    s.swAsked n j = dutyPattern n j (s.dutyOn (segOf n)) := by
  rw [State.swAsked, hduty, hlevel, Bool.false_or, Bool.true_and]

/-- Without a duty command and without a level a switch is asked for in no sub-beat. -/
theorem State.swAsked_none {s : State} {n : Nat} (hduty : (s.sw n).duty = false) (hlevel : (s.sw n).level = false) (j : Nat) :
    s.swAsked n j = false := by
  rw [State.swAsked, hduty, hlevel, Bool.false_and, Bool.false_or]

/-- A switch that is not asked for does not conduct. -/
theorem State.swPattern_of_not_asked {s : State} {n j : Nat} (hasked : s.swAsked n j = false) : s.swPattern n j = false := by
  rw [State.swPattern, hasked, Bool.and_false]

end Sys2Proof.Machine

namespace Sys2Proof.Proofs
open Sys2Proof.Machine

/-- Settles O34: a closable switch under a duty command follows `dutyPattern_iff` at the D of `State.dutyOn_eq`; an opened switch and one
without a command never conduct. -/
theorem dutyPattern : Obligations.DutyPattern := by
  refine ⟨fun s n j _ _ _ hmax hduty hlevel hlock hcut => ?_, fun s n j hopen => State.swPattern_opened hopen j,
    fun s n j hduty hlevel => State.swPattern_of_not_asked (State.swAsked_none hduty hlevel j)⟩
  rw [State.swPattern_closable hlock hcut, State.swAsked_duty hduty hlevel, dutyPattern_iff, State.dutyOn_eq hmax, segOf]
  push_cast
  rfl

end Sys2Proof.Proofs
end

section
/-! PROOFS. The byte formats of frames and checkpoints (R9, R269, R393, R406). -/

namespace Sys2Proof.Machine

/-! Fields in a row of bytes (R9) -/

/-- A field further on does not see the bytes before it. -/
theorem slice_skip {a : List Byte} {o : Nat} (h : a.length ≤ o) (l : List Byte) (n : Nat) :
    slice o n (a ++ l) = slice (o - a.length) n l := by
  rw [slice, slice, List.drop_append, List.drop_eq_nil_of_le h, List.nil_append]

theorem numAt_skip {a : List Byte} {o : Nat} (h : a.length ≤ o) (l : List Byte) (n : Nat) :
    numAt (a ++ l) o n = numAt l (o - a.length) n :=
  congrArg numOf (slice_skip h l n)

theorem snumAt_skip {a : List Byte} {o : Nat} (h : a.length ≤ o) (l : List Byte) (n : Nat) :
    snumAt (a ++ l) o n = snumAt l (o - a.length) n :=
  congrArg snumOf (slice_skip h l n)

/-- A number reads back, cut to the width of its field. -/
theorem numAt_bytesOf (n x : Nat) (l : List Byte) : numAt (bytesOf n x ++ l) 0 n = x % 256 ^ n :=
  (numAt_append (a := []) rfl (bytesOf_length n x) l).trans (numOf_bytesOf n x)

theorem numAt_wordBytes (w : Word) (l : List Byte) : numAt (wordBytes w ++ l) 0 4 = w.toNat :=
  (numAt_bytesOf 4 w.toNat l).trans (Nat.mod_eq_of_lt w.isLt)

/-- A signed number that fits its field reads back (R8). -/
theorem snumAt_sbytes {n : Nat} {x : Int} (hlo : -(256 ^ n) ≤ 2 * x) (hhi : 2 * x < 256 ^ n) (l : List Byte) :
    snumAt (sbytes n x ++ l) 0 n = x := by
  have hpos : (0 : Int) < 256 ^ n := by positivity
  have hslice : slice 0 n (sbytes n x ++ l) = sbytes n x := by simp [slice]
  have hcode : ((numOf (sbytes n x) : Nat) : Int) = x % 256 ^ n := by
    have h := Int.emod_nonneg x hpos.ne'
    rw [sbytes, numOf_bytesOf, Int.natCast_mod, Int.toNat_of_nonneg h]
    push_cast
    exact Int.emod_emod_of_dvd x dvd_rfl
  have hhalf : 2 * numOf (sbytes n x) < 256 ^ n ↔ 2 * (x % 256 ^ n) < 256 ^ n := by
    rw [← hcode]
    norm_cast
  rw [snumAt, hslice, snumOf]
  simp only [sbytes_length, hhalf, hcode]
  rcases le_or_gt 0 x with hx | hx
  · rw [Int.emod_eq_of_lt hx (by omega), if_pos hhi]
  · have hwrap : x % 256 ^ n = x + 256 ^ n := by
      rw [← Int.add_emod_right, Int.emod_eq_of_lt (by omega) (by omega)]
    rw [hwrap, if_neg (by omega)]
    omega

/-! Flags in a word (R10) -/

theorem packBits_concat (l : List Bool) (b : Bool) : packBits (l ++ [b]) = packBits l + 2 ^ l.length * b.toNat := by
  have hindex : indexed (l ++ [b]) = indexed l ++ [(l.length, b)] := by
    simp [indexed, List.range_succ, List.zip_append]
  rw [packBits, packBits, positions, positions, hindex]
  cases b <;> simp

theorem packBits_lt (l : List Bool) : packBits l < 2 ^ l.length := by
  induction l using List.reverseRecOn with
  | nil => decide
  | append_singleton l b ih =>
    rw [packBits_concat, List.length_append, List.length_singleton, Nat.pow_succ]
    cases b <;> simp <;> omega

/-- Bit i of the word is flag i. -/
theorem testBit_packBits (l : List Bool) (i : Nat) : (packBits l).testBit i = l[i]?.getD false := by
  induction l using List.reverseRecOn with
  | nil => exact Nat.zero_testBit i
  | append_singleton l b ih =>
    rw [packBits_concat, Nat.add_comm, Nat.testBit_two_pow_mul_add _ (packBits_lt l)]
    split
    · next h => rw [ih, List.getElem?_append_left h]
    · next h =>
      rw [List.getElem?_append_right (by omega), Nat.testBit_bool_toNat]
      cases i - l.length <;> simp

/-! The CRC of a frame (R393) -/

theorem crcBitR_lt {poly crc : Nat} (hp : poly < 2 ^ 32) (hc : crc < 2 ^ 32) : crcBitR poly crc < 2 ^ 32 := by
  rw [crcBitR]
  split
  · exact Nat.xor_lt_two_pow (by omega) hp
  · omega

theorem crcByteR_lt {poly crc : Nat} (hp : poly < 2 ^ 32) (hc : crc < 2 ^ 32) (b : Byte) : crcByteR poly crc b < 2 ^ 32 := by
  have hbits : ∀ (l : List Nat) (c : Nat), c < 2 ^ 32 → l.foldl (fun c _ => crcBitR poly c) c < 2 ^ 32 := by
    intro l
    induction l with
    | nil => exact fun _ h => h
    | cons _ l ih => exact fun _ h => ih _ (crcBitR_lt hp h)
  exact hbits _ _ (Nat.xor_lt_two_pow hc (b.isLt.trans (by decide)))

/-- The CRC fits the four bytes that carry it. -/
theorem crc32_lt (l : List Byte) : crc32 l < 2 ^ 32 := by
  have hbytes : ∀ (l : List Byte) (c : Nat), c < 2 ^ 32 → l.foldl (crcByteR 0xEDB88320) c < 2 ^ 32 := by
    intro l
    induction l with
    | nil => exact fun _ h => h
    | cons b l ih => exact fun _ h => ih _ (crcByteR_lt (by decide) h b)
  exact Nat.xor_lt_two_pow (hbytes l _ (by decide)) (by decide)

theorem frameOk_sealFrame {l : List Byte} (h : 16 ≤ l.length) : frameOk (sealFrame l) = true := by
  have hcrc : numAt (sealFrame l) l.length 4 = crc32 l := by
    rw [sealFrame, ← List.append_nil (bytesOf 4 _), numAt_append rfl (bytesOf_length ..), numOf_bytesOf]
    exact Nat.mod_eq_of_lt (crc32_lt l)
  have hbody : (sealFrame l).take l.length = l := by simp [sealFrame]
  simp [frameOk, hcrc, hbody]
  omega

/-! Header, entry and checkpoint (R269, R393, R406) -/

/-- The number of an address, an epoch or a tag, in a field as wide, gives it back. -/
theorem ofNat_toNat_mod {w m : Nat} (h : 2 ^ w ≤ m) (x : BitVec w) : BitVec.ofNat w (x.toNat % m) = x := by
  rw [Nat.mod_eq_of_lt (x.isLt.trans_le h), BitVec.ofNat_toNat, BitVec.setWidth_eq]

theorem hdrOf_bytes {h : RHdr} (htype : h.type < 256) (hflags : h.flags < 256) (hdst : h.dstRole < 256) (hsrc : h.srcRole < 256)
    (l : List Byte) : hdrOf (h.bytes ++ l) = h := by
  simp (disch := simp) only [hdrOf, RHdr.bytes, List.append_assoc, numAt_skip, bytesOf_length, Nat.reduceSub, numAt_bytesOf,
    numAt_wordBytes]
  simp [nword, Nat.mod_eq_of_lt, ofNat_toNat_mod, *]

theorem entAt_bytes {e : RingEnt} (hrole : e.dstRole < 256) (hop : e.op < 256) (a b : List Byte) :
    entAt (a ++ e.bytes ++ b) a.length = e := by
  simp (disch := simp) only [entAt, RingEnt.bytes, List.append_assoc, numAt_skip, bytesOf_length, Nat.reduceSub, numAt_bytesOf,
    numAt_wordBytes, Nat.add_sub_cancel_left, Nat.sub_self, List.length_cons, List.length_nil]
  simp [nword, Nat.mod_eq_of_lt, ofNat_toNat_mod, *]

/-- The flags of word 1 fit their two bytes. -/
theorem Ckpt.flags_lt (c : Ckpt) : c.flags < 256 ^ 2 := by
  have h := packBits_lt [c.conflict, c.starved, c.unanch, c.learn, c.learnFull]
  have := c.anchType.mod_lt (show 0 < 4 by decide)
  simp only [List.length_cons, List.length_nil] at h
  rw [Ckpt.flags]
  omega

/-- Bits 0 to 4 of word 1 are the flags of R269. -/
theorem Ckpt.testBit_flags (c : Ckpt) {i : Nat} (hi : i < 5) :
    c.flags.testBit i = [c.conflict, c.starved, c.unanch, c.learn, c.learnFull][i]?.getD false := by
  have h := packBits_lt [c.conflict, c.starved, c.unanch, c.learn, c.learnFull]
  rw [← testBit_packBits, Ckpt.flags, Nat.add_comm]
  exact (Nat.testBit_two_pow_mul_add _ h i).trans (if_pos hi)

/-- Bits 5 and 6 of word 1 are the anchor type. -/
theorem Ckpt.flags_anchType {c : Ckpt} (h : c.anchType < 4) : c.flags / 32 % 4 = c.anchType := by
  have := packBits_lt [c.conflict, c.starved, c.unanch, c.learn, c.learnFull]
  simp only [List.length_cons, List.length_nil] at this
  rw [Ckpt.flags]
  omega

theorem Ckpt.frameOk_words (c : Ckpt) : frameOk c.word0 = true ∧ frameOk c.word1 = true :=
  ⟨frameOk_sealFrame (by simp), frameOk_sealFrame (by simp)⟩

/-- The fields of word 0 (R269). -/
theorem Ckpt.word0_fields (c : Ckpt) : numAt c.word0 24 4 = c.seq.toNat ∧
    (-(2 ^ 63) ≤ c.qc → c.qc < 2 ^ 63 → snumAt c.word0 0 8 = c.qc) ∧
    (-(2 ^ 63) ≤ c.uqc → c.uqc < 2 ^ 63 → snumAt c.word0 8 8 = c.uqc) ∧
    (-(2 ^ 63) ≤ c.qref1 → c.qref1 < 2 ^ 63 → snumAt c.word0 16 8 = c.qref1) := by
  simp only [Ckpt.word0, sealFrame, List.append_assoc]
  simp (disch := simp) only [numAt_skip, snumAt_skip, sbytes_length, Nat.reduceSub, numAt_wordBytes]
  exact ⟨trivial, fun hlo hhi => snumAt_sbytes (by omega) (by omega) _, fun hlo hhi => snumAt_sbytes (by omega) (by omega) _,
    fun hlo hhi => snumAt_sbytes (by omega) (by omega) _⟩

/-- The fields of word 1 (R269). -/
theorem Ckpt.word1_fields (c : Ckpt) : numAt c.word1 24 4 = c.seq.toNat ∧
    (-(2 ^ 63) ≤ c.qref2 → c.qref2 < 2 ^ 63 → snumAt c.word1 0 8 = c.qref2) ∧
    (-(2 ^ 31) ≤ c.ua → c.ua < 2 ^ 31 → snumAt c.word1 8 4 = c.ua) ∧
    (c.age < 2 ^ 32 → numAt c.word1 12 4 = c.age) ∧ numAt c.word1 16 4 = c.pbeat.toNat ∧ numAt c.word1 20 2 = c.flags := by
  simp only [Ckpt.word1, sealFrame, List.append_assoc]
  simp (disch := simp) only [numAt_skip, snumAt_skip, sbytes_length, bytesOf_length, wordBytes_length, List.length_cons,
    List.length_nil, Nat.reduceAdd, Nat.reduceSub, numAt_wordBytes, numAt_bytesOf]
  exact ⟨trivial, fun hlo hhi => snumAt_sbytes (by omega) (by omega) _, fun hlo hhi => snumAt_sbytes (by omega) (by omega) _,
    Nat.mod_eq_of_lt, trivial, Nat.mod_eq_of_lt c.flags_lt⟩

end Sys2Proof.Machine

namespace Sys2Proof.Proofs
open Sys2Proof.Machine

/-- Settles O52: `frameOk_sealFrame`, `hdrOf_bytes` and `entAt_bytes` are its first three clauses; the two words of a checkpoint read
back by `Ckpt.word0_fields` and `Ckpt.word1_fields`. -/
theorem wireFormats : Obligations.WireFormats := by
  refine ⟨fun l hl => frameOk_sealFrame hl, fun h l htype hflags hdst hsrc => hdrOf_bytes htype hflags hdst hsrc l,
    fun e a b hrole hop => entAt_bytes hrole hop a b,
    fun c hqc hqc' huqc huqc' hq1 hq1' hq2 hq2' hua hua' hage hanch => ?_⟩
  obtain ⟨hok0, hok1⟩ := c.frameOk_words
  obtain ⟨hseq0, hqcAt, huqcAt, hq1At⟩ := c.word0_fields
  obtain ⟨hseq1, hq2At, huaAt, hageAt, hpbeatAt, hflagsAt⟩ := c.word1_fields
  rw [ckptOf, hok0, hok1, hseq0, hseq1, hqcAt hqc hqc', huqcAt huqc huqc', hq1At hq1 hq1', hq2At hq2 hq2', huaAt hua hua',
    hageAt hage, hpbeatAt, hflagsAt]
  simp [Ckpt.testBit_flags, Ckpt.flags_anchType hanch, nword, -Nat.testBit_zero]

end Sys2Proof.Proofs
end

section
/-! PROOFS. A command that is one step of channel A in the evaluation (R31, R96; log entry 8). -/

namespace Sys2Proof.Machine

/-- The state after stage k of the evaluation when the stage changes nothing: the instant and the stage. -/
def State.stagePassed (k : Nat) (s : State) : State :=
  { s with beat := { s.beat with offNs := max s.beat.offNs 850000, eStage := k + 1 } }

/-- Stage k is a step f of channel A. -/
def stageIsA (k : Nat) (f : State → State) : Prop :=
  ∀ t : State, (if k < 19 then t.stageLow k else t.stageHigh k) = t.onA f

/-- At its stage a command runs the step of channel A. -/
theorem State.evalThrough_onA {s : State} {k : Nat} {f : State → State} (hstage : stageIsA k f) (h : s.evalAt k) :
    s.evalThrough k = ((s.at 850000).onA f).setBeat fun b => { b with eStage := k + 1 } := by
  rw [State.evalThrough_at h, State.evalStage, if_pos (show (s.at 850000).beat.eStage = k from h.2.2), hstage]

/-- While channel A evaluates, an operation that is due is made. -/
theorem State.evalThrough_due {s : State} {k : Nat} {due : State → Bool} {op : State → State}
    (hstage : stageIsA k (State.doIf due op)) (h : s.evalAt k) (ha : s.evals .a = true) (hdue : due (s.at 850000) = true) :
    s.evalThrough k = (op (s.at 850000)).setBeat fun b => { b with eStage := k + 1 } := by
  rw [State.evalThrough_onA hstage h, State.onA, if_pos (show (s.at 850000).evals .a = true from ha), State.doIf, if_pos hdue]

/-- One that is not due leaves everything as it is. -/
theorem State.evalThrough_not_due {s : State} {k : Nat} {due : State → Bool} {op : State → State}
    (hstage : stageIsA k (State.doIf due op)) (h : s.evalAt k) (hdue : due (s.at 850000) = false) :
    s.evalThrough k = s.stagePassed k := by
  have hidle : (s.at 850000).onA (State.doIf due op) = s.at 850000 := by
    simp only [State.onA, State.doIf, hdue, Bool.false_eq_true, if_false, ite_self]
  rw [State.evalThrough_onA hstage h, hidle]
  rfl

end Sys2Proof.Machine
end

section
/-! PROOFS. The anchors (R257-R264). -/

namespace Sys2Proof.Machine

/-- The capacity after a full or empty anchor that measured c, which learns it when `learns` (R264). -/
def State.learntCap (s : State) (learns : Bool) (c : Int) : Int :=
  if learns = true ∧ divRnd s.capNomU 2 ≤ c ∧ c ≤ divRnd (s.capNomU * 6) 5 then
    s.chg.acc.capU + divRnd ((c - s.chg.acc.capU) * s.par .CAP_ALPHA) 256
  else s.chg.acc.capU

theorem State.learntCap_of_not {s : State} {learns : Bool} (h : learns = false) (c : Int) :
    s.learntCap learns c = s.chg.acc.capU :=
  if_neg fun hl => by rw [h] at hl; exact Bool.false_ne_true hl.1

theorem State.learntCap_of_within {s : State} {learns : Bool} {c : Int} (h : learns = true) (hlow : divRnd s.capNomU 2 ≤ c)
    (hhigh : c ≤ divRnd (s.capNomU * 6) 5) :
    s.learntCap learns c = s.chg.acc.capU + divRnd ((c - s.chg.acc.capU) * s.par .CAP_ALPHA) 256 :=
  if_pos ⟨h, hlow, hhigh⟩

/-- The accounting state after an anchor that sets the count to qc and the uncertainty to ua (R260). -/
def Acc.anchoredAt (a : Acc) (type : Nat) (qc ua : Int) : Acc :=
  { a with
    qc := qc, ua := ua, uqc := 0, conflict := false, starved := false, unanch := false, needQc := false, age := 0
    anchType := type
    learn := type != 3, learnFull := type == 1
    taper := if type = 1 then 0 else a.taper
    rest := if type = 3 then 0 else a.rest
    confCnt := if type = 3 then 0 else a.confCnt }

/-- Learning changes the capacity, the record in force, the log and the count of the updates, and no other count. -/
theorem State.learnCap_eq (learns : Bool) (c : Int) (s : State) : ∃ log recs hold,
    onlyIf learns (State.learnCap c) s =
      { s with log := log
               chg := { s.chg with recs := recs, hold := hold, acc := { s.chg.acc with capU := s.learntCap learns c } } } ∧
    ∀ k, k ≠ 3 → hold[k]? = s.chg.hold[k]? := by
  cases learns with
  | false => exact ⟨s.log, s.chg.recs, s.chg.hold, by rw [State.learntCap_of_not rfl]; rfl, fun _ _ => rfl⟩
  | true =>
    by_cases h : divRnd s.capNomU 2 ≤ c ∧ c ≤ divRnd (s.capNomU * 6) 5
    · rw [onlyIf, if_pos rfl, State.learnCap, if_pos h, State.learntCap_of_within rfl h.1 h.2]
      exact ⟨s.log, _, _, rfl, fun k hk => List.getElem?_modify_ne _ _ hk.symm⟩
    · rw [onlyIf, if_pos rfl, State.learnCap, if_neg h, State.learntCap, if_neg fun hl => h hl.2]
      exact ⟨_, s.chg.recs, s.chg.hold, rfl, fun _ _ => rfl⟩

theorem State.learnCap_capU (learns : Bool) (c : Int) (s : State) :
    (onlyIf learns (State.learnCap c) s).chg.acc.capU = s.learntCap learns c := by
  obtain ⟨log, recs, hold, hlearn, -⟩ := State.learnCap_eq learns c s
  rw [hlearn]

/-- s after an anchor that leaves the accounting state acc: the log, the collectors, the records and the counts have moved. -/
def State.afterAnchor (log : LogS) (flt : FltS) (recs : List IdRec) (hold : List Nat) (acc : Acc) (s : State) : State :=
  { s with log := log, flt := flt, chg := { s.chg with recs := recs, hold := hold, anchored := true, acc := acc } }

/-- An anchor that may learn the capacity first (R260, R264). -/
theorem State.anchor_learnCap (learns : Bool) (c : Int) {type : Nat} (htype : type ≠ 0) (qc ua : Int) (s : State) :
    ∃ log flt recs hold, (onlyIf learns (State.learnCap c) s).anchor type qc ua =
      s.afterAnchor log flt recs hold (Acc.anchoredAt { s.chg.acc with capU := s.learntCap learns c } type qc ua) ∧
    hold[3 - type]? = s.chg.hold[3 - type]?.map (· + 1) := by
  obtain ⟨log, recs, hold, hlearn, hother⟩ := State.learnCap_eq learns c s
  rw [hlearn]
  refine ⟨_, _, recs, hold.modify (3 - type) (· + 1), rfl, ?_⟩
  rw [List.getElem?_modify_eq, hother _ (by omega)]
  rfl

/-- A full anchor learns after an empty one, from the count since it (R257, R263, R264). -/
theorem State.anchorFull_eq (s : State) : ∃ log flt recs hold cap,
    cap = s.learntCap (s.chg.acc.learn && !s.chg.acc.learnFull) s.chg.acc.qc ∧
    s.anchorFull = s.afterAnchor log flt recs hold (Acc.anchoredAt { s.chg.acc with capU := cap } 1 cap (s.par .U_FULL)) ∧
    hold[2]? = s.chg.hold[2]?.map (· + 1) := by
  obtain ⟨log, flt, recs, hold, h⟩ := State.anchor_learnCap (s.chg.acc.learn && !s.chg.acc.learnFull) s.chg.acc.qc one_ne_zero
    (s.learntCap (s.chg.acc.learn && !s.chg.acc.learnFull) s.chg.acc.qc) (s.par .U_FULL) s
  refine ⟨log, flt, recs, hold, _, rfl, ?_⟩
  rw [← h.1, ← State.learnCap_capU]
  exact ⟨rfl, h.2⟩

/-- An empty anchor learns after a full one, from what has flowed since it (R258, R263, R264). -/
theorem State.anchorEmpty_eq (s : State) : ∃ log flt recs hold cap,
    cap = s.learntCap (s.chg.acc.learn && s.chg.acc.learnFull) (s.chg.acc.capU - s.chg.acc.qc) ∧
    s.anchorEmpty = s.afterAnchor log flt recs hold (Acc.anchoredAt { s.chg.acc with capU := cap } 2 0 (s.par .U_EMPTY)) ∧
    hold[1]? = s.chg.hold[1]?.map (· + 1) := by
  obtain ⟨log, flt, recs, hold, h⟩ := State.anchor_learnCap (s.chg.acc.learn && s.chg.acc.learnFull)
    (s.chg.acc.capU - s.chg.acc.qc) two_ne_zero 0 (s.par .U_EMPTY) s
  exact ⟨log, flt, recs, hold, _, rfl, h⟩

/-- A voltage anchor learns nothing (R259, R260). -/
theorem State.anchorVoltage_eq (s : State) : ∃ log flt recs hold,
    s.anchorVoltage = s.afterAnchor log flt recs hold
      (s.chg.acc.anchoredAt 3 (divRnd (s.chg.acc.socV * s.chg.acc.capU) 100000) (s.par .U_VA)) ∧
    hold[0]? = s.chg.hold[0]?.map (· + 1) := by
  obtain ⟨log, flt, recs, hold, h⟩ := State.anchor_learnCap false 0 three_ne_zero
    (divRnd (s.chg.acc.socV * s.chg.acc.capU) 100000) (s.par .U_VA) s
  rw [State.learntCap_of_not rfl] at h
  exact ⟨log, flt, recs, hold, h⟩

/-! Their commands (R31, R261, R262) -/

theorem stageIsA_emptyAnchor : stageIsA 13 (State.doIf State.emptyDue State.anchorEmpty) := fun _ => rfl
theorem stageIsA_fullAnchor : stageIsA 14 (State.doIf State.fullDue State.anchorFull) := fun _ => rfl
theorem stageIsA_voltageAnchor : stageIsA 15 (State.doIf State.voltageDue State.anchorVoltage) := fun _ => rfl

theorem exec_emptyAnchor (s : State) : exec .emptyAnchor s = .next (s.evalThrough 13) := rfl
theorem exec_fullAnchor (s : State) : exec .fullAnchor s = .next (s.evalThrough 14) := rfl
theorem exec_voltageAnchor (s : State) : exec .voltageAnchor s = .next (s.evalThrough 15) := rfl

/-- After an anchor of the same beat none is due (R261). -/
theorem State.anchor_not_due {s : State} (h : s.chg.anchored = true) :
    s.emptyDue = false ∧ s.fullDue = false ∧ s.voltageDue = false := by
  simp [State.emptyDue, State.fullDue, State.voltageDue, h]

/-! The counter of the empty anchor (R256, R258) -/

theorem State.accCounters_stopped {s : State} (h : s.countersRun = false) : s.accCounters = s := by
  rw [State.accCounters, h]
  rfl

theorem State.accCounters_empty {s : State} (h : s.countersRun = true) :
    s.accCounters.chg.acc.empty =
      runUp (decide (s.chg.acc.vmin.code ≤ s.par .V_EMPTY)) (beatsOfSec (s.nat .T_EMPTY)) s.chg.acc.empty := by
  rw [State.accCounters, h]
  rfl

end Sys2Proof.Machine

namespace Sys2Proof.Proofs
open Sys2Proof.Machine

/-- Settles O28: an anchor that is due is made at its stage (`State.evalThrough_due`), and what it leaves say `State.anchorFull_eq`,
`State.anchorEmpty_eq` and `State.anchorVoltage_eq`; the counter of the empty anchor is `State.accCounters_empty`. -/
theorem anchors : Obligations.Anchors := by
  refine ⟨fun s hat ha hrun hfirst htaper => ?full, fun s hat ha hrun hfirst hempty => ?empty,
    fun s hat ha hrun hfirst hrest hneed => ?voltage, fun s k c hc hat hanch => ?second, fun s hrun hlow => ?counts,
    fun s hrun hhigh => ?zero, fun s hrun => State.accCounters_stopped hrun⟩
  case full =>
    have hdue : s.fullDue = true := by simp [State.fullDue, hrun, hfirst, htaper]
    obtain ⟨log, flt, recs, hold, cap, hcap, hstate, hhold⟩ := State.anchorFull_eq (s.at 850000)
    refine ⟨_, rfl, ?_⟩
    rw [State.evalThrough_due stageIsA_fullAnchor hat ha hdue, hstate]
    refine ⟨rfl, rfl, rfl, rfl, rfl, rfl, rfl, rfl, rfl, rfl, rfl, rfl, hhold, fun hnot => ?_, fun hl hf hlow hhigh => ?_,
      rfl, rfl, rfl, rfl, rfl, rfl⟩
    · exact hcap.trans (State.learntCap_of_not (by rcases hnot with h | h <;> simp [h]) _)
    · exact hcap.trans (State.learntCap_of_within (by simp [hl, hf]) hlow hhigh)
  case empty =>
    have hdue : s.emptyDue = true := by simp [State.emptyDue, hrun, hfirst, hempty]
    obtain ⟨log, flt, recs, hold, cap, hcap, hstate, hhold⟩ := State.anchorEmpty_eq (s.at 850000)
    refine ⟨_, rfl, ?_⟩
    rw [State.evalThrough_due stageIsA_emptyAnchor hat ha hdue, hstate]
    refine ⟨rfl, rfl, rfl, rfl, rfl, rfl, rfl, rfl, rfl, rfl, rfl, hhold, rfl, fun hnot => ?_, fun hl hf hlow hhigh => ?_,
      rfl, rfl, rfl, rfl, rfl, rfl⟩
    · exact hcap.trans (State.learntCap_of_not (by rcases hnot with h | h <;> simp [h]) _)
    · exact hcap.trans (State.learntCap_of_within (by simp [hl, hf]) hlow hhigh)
  case voltage =>
    have hdue : s.voltageDue = true := by simp [State.voltageDue, hrun, hfirst, hrest, hneed]
    obtain ⟨log, flt, recs, hold, hstate, hhold⟩ := State.anchorVoltage_eq (s.at 850000)
    refine ⟨_, rfl, ?_⟩
    rw [State.evalThrough_due stageIsA_voltageAnchor hat ha hdue, hstate]
    exact ⟨rfl, rfl, rfl, rfl, rfl, rfl, rfl, rfl, rfl, rfl, rfl, rfl, rfl, hhold, rfl, rfl, rfl, rfl, rfl, rfl⟩
  case second =>
    obtain ⟨hempty, hfull, hvoltage⟩ := State.anchor_not_due (s := s.at 850000) hanch
    simp only [List.mem_cons, List.not_mem_nil, or_false, Prod.mk.injEq] at hc
    obtain ⟨rfl, rfl⟩ | ⟨rfl, rfl⟩ | ⟨rfl, rfl⟩ := hc
    · exact congrArg Host.Outcome.next (State.evalThrough_not_due stageIsA_emptyAnchor hat hempty)
    · exact congrArg Host.Outcome.next (State.evalThrough_not_due stageIsA_fullAnchor hat hfull)
    · exact congrArg Host.Outcome.next (State.evalThrough_not_due stageIsA_voltageAnchor hat hvoltage)
  case counts =>
    rw [State.accCounters_empty hrun, decide_eq_true hlow]
    rfl
  case zero =>
    rw [State.accCounters_empty hrun, decide_eq_false (by omega)]
    rfl

end Sys2Proof.Proofs
end

section
/-! PROOFS. Starvation, cycle count, identity records, health and cadence (R266, R267, R272-R276, R293, R493). -/

namespace Sys2Proof.Machine

/-! Commands of one stage -/

theorem stageIsA_swapDetected : stageIsA 10 (State.doIf (fun t => t.swapCause.isSome) State.swap) := fun _ => rfl
theorem stageIsA_recordSelect : stageIsA 11 (State.doIf State.selectDue State.selectRecord) := fun _ => rfl
theorem stageIsA_anchorStarvation : stageIsA 17 (State.doIf State.starveDue State.starve) := fun _ => rfl
theorem stageIsA_cycleCountStore : stageIsA 19 (State.doIf State.cycDue State.cycStore) := fun _ => rfl
theorem stageIsA_healthWarningClear : stageIsA 35 (State.doIf State.healthDue State.healthClear) := fun _ => rfl

/-! Starvation and the cycle count (R266, R272) -/

theorem State.starve_fs {s : State} (hs : s.srcWhole) : (s.starve.fs 54).latch = true ∧ (s.starve.fs 54).cond = true := by
  rw [State.starve]
  refine State.raiseCond_fs ?_ 0
  show 54 < s.flt.src.length
  omega

/-- The record in force takes the cycle count and its remainder (R272). -/
theorem State.cycStore_eq {s : State} {r : Nat} {x : IdRec} (hforce : s.chg.inForce = some r) (hrec : s.chg.recs[r]? = some x) :
    s.cycStore = { s with chg := { s.chg with
      cycEval := 0, recs := s.chg.recs.set r { x with cyc := s.chg.acc.cyc, cycRem := s.chg.acc.cycRem } } } := by
  have hset (f : IdRec → IdRec) : s.chg.recs.modify r f = s.chg.recs.set r (f x) := by
    simp [List.modify_eq_set_getElem?, hrec]
  rw [State.cycStore, State.setRecord, hforce]
  simp only [hset, hforce]

/-! Swap (R273) -/

theorem State.checkpoint_eq (s : State) : ∃ mem sys recs,
    s.checkpoint = { s with mem := mem, sys := sys, chg := { s.chg with recs := recs } } := by
  rw [State.checkpoint]
  split
  · exact ⟨_, _, _, rfl⟩
  · exact ⟨s.mem, _, s.chg.recs, rfl⟩

/-- A swap takes a last checkpoint, records itself and suspends counting. -/
theorem State.swap_of_cause {s : State} {c : Nat} (h : s.swapCause = some c) : ∃ mem sys log recs,
    s.swap = { s with mem := mem, sys := sys, log := log
                      chg := { s.chg with recs := recs, swapPend := true, idDiff := 0, openBeats := 0, okConv := 0 } } := by
  obtain ⟨mem, sys, recs, hck⟩ := s.checkpoint_eq
  rw [State.swap, h, hck]
  exact ⟨mem, sys, _, recs, rfl⟩

theorem State.swapCause_of_few {s : State} (hid : s.chg.idDiff < 3) (hopen : s.chg.openBeats < 2000) : s.swapCause = none := by
  simp [State.swapCause, hid.not_ge, hopen.not_ge]

/-! The record that is selected (R274) -/

/-- Without an ID input record 0 is taken. -/
theorem State.selectCase_noId {s : State} (h : s.idHere = false) : s.selectCase = (4, 0) := by
  rw [State.selectCase, h]
  rfl

/-- The first record of a kind, in the order of their numbers. -/
theorem State.find?_records {s : State} {p : Nat × IdRec → Bool} {k : Nat} (hk : k < 8) (hp : p (k, s.recAt k) = true)
    (hbefore : ∀ j < k, p (j, s.recAt j) = false) :
    ((List.range 8).map fun k => (k, s.recAt k)).find? p = some (k, s.recAt k) := by
  have hfirst : (List.range 8).find? (p ∘ fun k => (k, s.recAt k)) = some k :=
    List.find?_range_eq_some.2 ⟨hp, List.mem_range.2 hk, fun j hj => by simp [hbefore j hj]⟩
  rw [List.find?_map, hfirst]
  rfl

/-- The lowest record with the code. -/
theorem State.selectCase_code {s : State} {k : Nat} (h : s.idHere = true) (hk : k < 8) (hused : (s.recAt k).used = true)
    (hcode : (s.recAt k).code = s.chg.idCode) (hbefore : ∀ j < k, (s.recAt j).used = false ∨ (s.recAt j).code ≠ s.chg.idCode) :
    s.selectCase = (1, k) := by
  have hfind := State.find?_records (s := s) (p := fun r => r.2.used && r.2.code == s.chg.idCode) hk (by simp [hused, hcode])
    fun j hj => by rcases hbefore j hj with hb | hb <;> simp [hb]
  simp only [State.selectCase, h, hfind]
  rfl

/-- Without one, the lowest empty record. -/
theorem State.selectCase_empty {s : State} {k : Nat} (h : s.idHere = true) (hk : k < 8)
    (hnone : ∀ j < 8, (s.recAt j).used = false ∨ (s.recAt j).code ≠ s.chg.idCode) (hempty : (s.recAt k).used = false)
    (hbefore : ∀ j < k, (s.recAt j).used = true) : s.selectCase = (2, k) := by
  have hnoCode : ((List.range 8).map fun k => (k, s.recAt k)).find? (fun r => r.2.used && r.2.code == s.chg.idCode) = none := by
    simp only [List.find?_eq_none, List.mem_map, List.mem_range]
    rintro _ ⟨j, hj, rfl⟩
    rcases hnone j hj with hb | hb <;> simp [hb]
  have hfind := State.find?_records (s := s) (p := fun r => !r.2.used) hk (by simp [hempty]) fun j hj => by simp [hbefore j hj]
  simp only [State.selectCase, h, hnoCode, hfind]
  rfl

/-- The record that case k of the selection puts in force at place i (R274, R275). -/
def State.takenRec (s : State) (k i : Nat) : IdRec :=
  if k == 2 || k == 3 || !(s.recAt i).used then s.newRecord (if k = 4 then 255 else s.chg.idCode)
  else { s.restored (s.recAt i) with useSeq := s.nextUse }

/-- The accounting state that it gives, counting from the current published values. -/
def State.takenAcc (s : State) (k i : Nat) : Acc := (s.accOf (s.takenRec k i) (s.par .U_SWAP) (k == 1)).refer s.chg.pub

/-- The charge accounting after the selection. -/
def State.chgTaken (s : State) (k i : Nat) : ChgS :=
  { s.chg with
    recs := s.chg.recs.set i (s.takenRec k i), inForce := some i, swapPend := false, okConv := 0, idDiff := 0, openBeats := 0
    acc := s.takenAcc k i, recNew := true, cov := [] }

/-- What an operation keeps it keeps where it is made under a condition. -/
theorem onlyIf_keeps {α : Type} {g : State → α} {f : State → State} (h : ∀ s, g (f s) = g s) (c : Bool) (s : State) :
    g (onlyIf c f s) = g s := by
  cases c
  · rfl
  · exact h s

/-- Whatever no raise touches, the selection changes as its record says. -/
theorem State.selectRecord_field {α : Type} {g : State → α} (hraise : ∀ n s, g (State.raiseCond n 0 s) = g s) {s : State}
    {k i : Nat} (hcase : s.selectCase = (k, i)) :
    ∃ log flt, g s.selectRecord = g { s with log := log, flt := flt, chg := s.chgTaken k i } := by
  rw [State.selectRecord, hcase]
  exact ⟨_, _, (onlyIf_keeps (hraise 54) _ _).trans (onlyIf_keeps (hraise 53) _ _)⟩

/-- At its stage a selection that is due is made. -/
theorem exec_recordSelect_due {s : State} (h : s.evalAt 11) (ha : s.evals .a = true) (hdue : s.selectDue = true) {k i : Nat}
    (hcase : s.selectCase = (k, i)) : ∃ t, exec .recordSelect s = .next t ∧ t.chg.acc = s.takenAcc k i ∧
      t.chg.inForce = some i ∧ t.chg.swapPend = false ∧ t.chg.okConv = 0 ∧ t.beat.eStage = 12 ∧ t.meas = s.meas ∧
      t.cha = s.cha ∧ t.chb = s.chb := by
  have hcase' : (s.at 850000).selectCase = (k, i) := hcase
  obtain ⟨_, _, hchg⟩ := State.selectRecord_field (fun n => State.raiseCond_chg n 0) hcase'
  obtain ⟨_, _, hmeas⟩ := State.selectRecord_field (fun n => State.raiseCond_meas n 0) hcase'
  obtain ⟨_, _, hcha⟩ := State.selectRecord_field (fun n => State.raiseCond_cha n 0) hcase'
  obtain ⟨_, _, hchb⟩ := State.selectRecord_field (fun n => State.raiseCond_chb n 0) hcase'
  exact ⟨_, congrArg Host.Outcome.next (State.evalThrough_due stageIsA_recordSelect h ha hdue), congrArg ChgS.acc hchg,
    congrArg ChgS.inForce hchg, congrArg ChgS.swapPend hchg, congrArg ChgS.okConv hchg, rfl, hmeas, hcha, hchb⟩

/-! What the selected record gives (R274, R275, R277) -/

/-- Counting from the published values moves the references only. -/
theorem Acc.refer_eq (a : Acc) (p : Option Published) : ∃ q1 q2 n, a.refer p = { a with qref1 := q1, qref2 := q2, pbeat := n } := by
  cases p
  · exact ⟨a.qref1, a.qref2, a.pbeat, rfl⟩
  · exact ⟨_, _, _, rfl⟩

/-- A record that no case of its own code selects starts unanchored. -/
theorem State.takenAcc_unanchored {s : State} {k : Nat} (hk : k ≠ 1) (i : Nat) :
    (s.takenAcc k i).ua = 100000 ∧ (s.takenAcc k i).unanch = true ∧ (s.takenAcc k i).needQc = true ∧
      (s.takenAcc k i).capU = (s.takenRec k i).capU := by
  obtain ⟨_, _, _, hrefer⟩ := Acc.refer_eq (s.accOf (s.takenRec k i) (s.par .U_SWAP) (k == 1)) s.chg.pub
  rw [State.takenAcc, hrefer, beq_false_of_ne hk]
  exact ⟨rfl, rfl, rfl, rfl⟩

/-- A record stored at the present LSB1 is restored as it is. -/
theorem State.restored_same {s : State} {r : IdRec} (h : r.lsb1 = s.lsb1) : s.restored r = r := by
  have hconv (x : Int) : s.convert r x = x := by simp [State.convert, h]
  have hlsb : (if s.lsb1 = 0 then r.lsb1 else s.lsb1) = r.lsb1 := by rw [h, ite_self]
  simp only [State.restored, hconv, hlsb, Option.map_id']

/-- The record with the code goes on from its governing checkpoint, with U_SWAP added. -/
theorem State.takenAcc_code {s : State} {k : Nat} {c : Ckpt} (hused : (s.recAt k).used = true) (hlsb : (s.recAt k).lsb1 = s.lsb1)
    (hgov : (s.recAt k).governing = some c) : (s.takenAcc 1 k).qc = c.qc ∧ (s.takenAcc 1 k).uqc = c.uqc ∧
      (s.takenAcc 1 k).capU = (s.recAt k).capU ∧ (s.takenAcc 1 k).cyc = (s.recAt k).cyc ∧
      (s.takenAcc 1 k).ua = c.ua + s.par .U_SWAP ∧ (s.takenAcc 1 k).learn = false := by
  obtain ⟨_, _, _, hrefer⟩ := Acc.refer_eq (s.accOf (s.takenRec 1 k) (s.par .U_SWAP) (1 == 1)) s.chg.pub
  have hrec : s.takenRec 1 k = { s.recAt k with useSeq := s.nextUse } := by
    rw [State.takenRec, hused, State.restored_same hlsb]
    rfl
  have hgov' : IdRec.governing { s.recAt k with useSeq := s.nextUse } = some c := hgov
  rw [State.takenAcc, hrefer, hrec, State.accOf, if_pos (by rfl), hgov']
  exact ⟨rfl, rfl, rfl, rfl, rfl, rfl⟩

/-! Swap, selection, health and cadence at their instants -/

/-- At its stage the swap, where there is one, is made; the accounting state stays (R273). -/
theorem exec_swapDetected_keeps {s : State} (h : s.evalAt 10) (ha : s.evals .a = true) :
    ∃ t, exec .swapDetected s = .next t ∧
      (s.swapCause.isSome = true → t.chg.swapPend = true ∧ t.chg.idDiff = 0 ∧ t.chg.openBeats = 0 ∧ t.chg.okConv = 0) ∧
      t.chg.acc = s.chg.acc ∧ t.beat.eStage = 11 ∧ t.meas = s.meas ∧ t.cha = s.cha ∧ t.chb = s.chb := by
  refine ⟨_, rfl, ?_⟩
  cases hcause : s.swapCause with
  | none =>
    have hdue : (s.at 850000).swapCause.isSome = false := congrArg Option.isSome hcause
    rw [State.evalThrough_not_due stageIsA_swapDetected h hdue]
    exact ⟨fun hsome => absurd hsome Bool.false_ne_true, rfl, rfl, rfl, rfl, rfl⟩
  | some c =>
    have hdue : (s.at 850000).swapCause.isSome = true := congrArg Option.isSome hcause
    obtain ⟨mem, sys, log, recs, hswap⟩ := State.swap_of_cause (s := s.at 850000) hcause
    rw [State.evalThrough_due stageIsA_swapDetected h ha hdue, hswap]
    exact ⟨fun _ => ⟨rfl, rfl, rfl, rfl⟩, rfl, rfl, rfl, rfl, rfl⟩

theorem State.selectDue_iff (s : State) : s.selectDue = true ↔
    s.master = true ∧ (s.chg.inForce = none ∨ s.chg.swapPend = true) ∧ 3 ≤ s.chg.okConv := by
  simp [State.selectDue, and_assoc, or_comm]

/-- With this unit as the current unit its own image says whether there is an ID input (R273). -/
theorem State.idHere_own {s : State} (h : s.currentUnit = true) : s.idHere = s.on .ID_EN := if_pos h

/-- With another one its image does (log entry 71). -/
theorem State.idHere_remote {s : State} (h : s.currentUnit = false) : s.idHere = Config.remoteIdEn s.addr :=
  if_neg (by rw [h]; exact Bool.false_ne_true)

/-- A health warning that is due clears at its stage (R293). -/
theorem exec_healthWarningClear_due {s : State} (h : s.evalAt 35) (ha : s.evals .a = true) (hdue : s.healthDue = true) :
    exec .healthWarningClear s = .next { s.stagePassed 35 with lim := { s.lim with
      sohCWarn := s.lim.sohCWarn && s.lim.sohCOk != 10000
      sohRWarn := s.lim.sohRWarn && s.lim.sohROk != 10000 } } :=
  congrArg Host.Outcome.next (State.evalThrough_due stageIsA_healthWarningClear h ha hdue)

theorem exec_cadenceChange (s : State) :
    exec .cadenceChange s = .next (if s.cadenceDue then s.cadenceChange else s) := rfl

theorem State.cadenceDue_none {s : State} (h : s.chg.slowPend = []) : s.cadenceDue = false := by
  rw [State.cadenceDue, h]
  rfl

/-- A decision is due from the boundary that it names on (R267). -/
theorem State.cadenceDue_cons {s : State} {n : Word} {v : Bool} {l : List (Word × Bool)} (h : s.chg.slowPend = (n, v) :: l) :
    s.cadenceDue = decide ((s.beat.num - n).toNat < 2 ^ 31) := by
  rw [State.cadenceDue, h]
  rfl

/-- In Active and Idle the decision sets the state with the cadence (R267, R493). -/
theorem State.cadenceChange_cons {s : State} {n : Word} {v : Bool} {l : List (Word × Bool)} (h : s.chg.slowPend = (n, v) :: l)
    (hpwr : s.pwr.state = .active ∨ s.pwr.state = .idle) : s.cadenceChange = { s with
      chg := { s.chg with slowPend := l, slow := v }
      pwr := { s.pwr with idleBeats := 0, state := if v then .idle else .active } } := by
  rw [State.cadenceChange, h]
  rcases hpwr with hpwr | hpwr <;> rw [hpwr]

end Sys2Proof.Machine

namespace Sys2Proof.Proofs
open Sys2Proof.Machine

/-- Settles O29: each command runs its stage (`State.evalThrough_due`, `State.evalThrough_not_due`); a swap is
`State.swap_of_cause`, the record that a selection takes is named by `State.selectCase_noId`, `State.selectCase_code` and
`State.selectCase_empty`, and `State.takenAcc_unanchored` and `State.takenAcc_code` say what it gives. -/
theorem accounting : Obligations.Accounting := by
  refine ⟨fun s hat ha hacc hnot hage hwhole => ?starve, fun s r x hat ha hacc hcyc hforce hrec => ?cycles,
    fun s hat ha hacc hcause => ?swap, fun s hat ha hid hopen => ?noSwap, fun s hat ha hm hsel hok hid hcur => ?noId,
    fun s k c hat ha hm hsel hok hid hcur hk hused hcode hbefore hlsb hgov => ?code,
    fun s k hat ha hm hsel hok hid hcur hk hnone hempty hbefore => ?empty, fun s hat ha hm hsel hok hcur => ?remote,
    fun s hat ha hacc hcur hdiff => ?remoteSwap, fun s hat ha hok => ?noSelect, fun s hat ha hr hrok hc => ?healthR,
    fun s hat ha hc hcok hr => ?healthC, fun s n v l hpend hdue hpwr => ?cadence, fun s n v l hpend hlater => ?later,
    fun s hpend => ?noCadence⟩
  case starve =>
    have hdue : s.starveDue = true := by simp [State.starveDue, hacc, hnot, hage]
    refine ⟨_, rfl, ?_⟩
    rw [State.evalThrough_due stageIsA_anchorStarvation hat ha hdue]
    obtain ⟨hlatch, hcond⟩ := State.starve_fs (s := s.at 850000) hwhole
    exact ⟨congrArg ChgS.acc (State.raiseCond_chg ..), hlatch, hcond, rfl, State.raiseCond_meas .., State.raiseCond_cha ..,
      State.raiseCond_chb ..⟩
  case cycles =>
    have hdue : s.cycDue = true := by simp [State.cycDue, hacc, hcyc]
    have hstore := State.cycStore_eq (s := s.at 850000) hforce hrec
    show Host.Outcome.next (s.evalThrough 19) = _
    rw [State.evalThrough_due stageIsA_cycleCountStore hat ha hdue, hstore]
    rfl
  case swap =>
    have hsome : s.swapCause.isSome = true := by
      rcases hcause with ⟨hid, hcur, hdiff⟩ | hopen
      · simp [State.swapCause, hacc, State.idHere_own hcur, hid, hdiff]
      · rw [State.swapCause, hacc, if_pos hopen]
        cases s.idHere && decide (3 ≤ s.chg.idDiff) <;> rfl
    obtain ⟨t, hexec, hswap, hkeeps⟩ := exec_swapDetected_keeps hat ha
    obtain ⟨hpend, hid, hopen, hok⟩ := hswap hsome
    exact ⟨t, hexec, hpend, by simp [State.accounting, hpend], hid, hopen, hok, hkeeps⟩
  case noSwap =>
    have hnone : (s.at 850000).swapCause.isSome = false := congrArg Option.isSome (State.swapCause_of_few hid hopen)
    exact congrArg Host.Outcome.next (State.evalThrough_not_due stageIsA_swapDetected hat hnone)
  case noId =>
    have hcase := State.selectCase_noId ((State.idHere_own hcur).trans hid)
    obtain ⟨t, hexec, hacc, hforce, hpend, hconv, hrest⟩ :=
      exec_recordSelect_due hat ha (s.selectDue_iff.2 ⟨hm, hsel, hok⟩) hcase
    obtain ⟨hua, hunanch, hneed, -⟩ := State.takenAcc_unanchored (s := s) (show 4 ≠ 1 by decide) 0
    rw [← hacc] at hua hunanch hneed
    exact ⟨t, hexec, hforce, hpend, hconv, hua, hunanch, hneed, hrest⟩
  case code =>
    have hcase := State.selectCase_code ((State.idHere_own hcur).trans hid) hk hused hcode hbefore
    obtain ⟨t, hexec, hacc, hforce, hpend, hconv, hrest⟩ :=
      exec_recordSelect_due hat ha (s.selectDue_iff.2 ⟨hm, hsel, hok⟩) hcase
    obtain ⟨hqc, huqc, hcap, hcyc, hua, hlearn⟩ := State.takenAcc_code hused hlsb hgov
    rw [← hacc] at hqc huqc hcap hcyc hua hlearn
    exact ⟨t, hexec, hforce, hpend, hconv, hqc, huqc, hcap, hcyc, hua, hlearn, hrest⟩
  case empty =>
    have hcase := State.selectCase_empty ((State.idHere_own hcur).trans hid) hk hnone hempty hbefore
    obtain ⟨t, hexec, hacc, hforce, hpend, -, hrest⟩ :=
      exec_recordSelect_due hat ha (s.selectDue_iff.2 ⟨hm, hsel, hok⟩) hcase
    obtain ⟨hua, hunanch, -, hcap⟩ := State.takenAcc_unanchored (s := s) (show 2 ≠ 1 by decide) k
    rw [← hacc] at hua hunanch hcap
    exact ⟨t, hexec, hforce, hpend, hcap, hua, hunanch, hrest⟩
  case remote =>
    obtain ⟨⟨k, i⟩, hcase⟩ : ∃ c, s.selectCase = c := ⟨_, rfl⟩
    obtain ⟨t, hexec, hacc, hforce, hpend, hconv, hstage, hkeeps⟩ :=
      exec_recordSelect_due hat ha (s.selectDue_iff.2 ⟨hm, hsel, hok⟩) hcase
    refine ⟨t, hexec, hpend, hconv, hstage, fun hid => ?_, fun j hj hid hused hcode hbefore => ?_, hkeeps⟩
    · obtain ⟨rfl, rfl⟩ := Prod.mk.inj (hcase.symm.trans (State.selectCase_noId ((State.idHere_remote hcur).trans hid)))
      obtain ⟨hua, hunanch, -⟩ := State.takenAcc_unanchored (s := s) (show 4 ≠ 1 by decide) 0
      rw [← hacc] at hua hunanch
      exact ⟨hforce, hua, hunanch⟩
    · obtain ⟨rfl, rfl⟩ := Prod.mk.inj (hcase.symm.trans
        (State.selectCase_code ((State.idHere_remote hcur).trans hid) hj hused hcode hbefore))
      exact hforce
  case remoteSwap =>
    obtain ⟨t, hexec, hswap, hkeeps⟩ := exec_swapDetected_keeps hat ha
    refine ⟨t, hexec, fun hid => ?_, hkeeps⟩
    obtain ⟨hpend, hdiff0, -⟩ := hswap (by simp [State.swapCause, hacc, State.idHere_remote hcur, hid, hdiff])
    exact ⟨hpend, hdiff0⟩
  case noSelect =>
    have hnot : (s.at 850000).selectDue = false := by
      rw [Bool.eq_false_iff]
      intro hdue
      obtain ⟨-, -, h⟩ := (State.selectDue_iff _).1 hdue
      exact absurd h hok.not_ge
    exact congrArg Host.Outcome.next (State.evalThrough_not_due stageIsA_recordSelect hat hnot)
  case healthR =>
    rw [exec_healthWarningClear_due hat ha (by simp [State.healthDue, hr, hrok])]
    simp [hc, hrok, State.stagePassed]
  case healthC =>
    rw [exec_healthWarningClear_due hat ha (by simp [State.healthDue, hc, hcok])]
    simp [hr, hcok, State.stagePassed]
  case cadence =>
    rw [exec_cadenceChange, State.cadenceDue_cons hpend, decide_eq_true hdue, if_pos rfl, State.cadenceChange_cons hpend hpwr]
  case later =>
    rw [exec_cadenceChange, State.cadenceDue_cons hpend, decide_eq_false (by omega), if_neg Bool.false_ne_true]
  case noCadence =>
    rw [exec_cadenceChange, State.cadenceDue_none hpend, if_neg Bool.false_ne_true]

end Sys2Proof.Proofs
end

section
/-! PROOFS. The causes of a refused close request (R306, R353). -/

namespace Sys2Proof.Machine

/-- Bar k of R306 stands against a close request: cause k, were the causes before it absent. -/
def State.closeBar (s : State) (src : ReqSrc) : Nat → Bool
  | 1 => s.pre.ctlA != .parked || s.pre.ctlB != .parked || s.starting
  | 2 => s.pre.session
  | 3 => !s.pre.joinedA || !s.pre.joinedB || s.pre.debug || s.splitNow
  | 4 => !s.pre.permitA || !s.pre.permitB || !s.drives || s.ring.addrConflict || s.flt.rloop || s.cfg.image.isNone ||
      !s.cfg.copiesOk || (s.fs 28).cond
  | 5 => decide (s.pwr.vk < 16000)
  | 6 => s.pre.latched
  | 7 => !((s.hv 0).valid && decide (16000 ≤ (s.hv 0).code))
  | 8 => !s.srcEnabled src
  | 9 => s.pre.safeReqA || s.pre.safeReqB || s.pre.openReqA || s.pre.openReqB || s.pre.loss || s.pre.trip || s.inputOpens .a ||
      s.inputOpens .b
  | _ => false

/-- A search in a list, as a chain of conditions. -/
theorem find?_cons_ite {α : Type} (p : α → Bool) (a : α) (l : List α) :
    (a :: l).find? p = if p a then some a else l.find? p := by
  rw [List.find?_cons]
  cases p a <;> rfl

/-- A source has its condition in the list of the sources exactly when it reads so. -/
theorem State.src_cond (s : State) (n : Nat) : s.flt.src[n]?.any (fun (x : FsSrc) => x.cond) = (s.fs n).cond := by
  rw [State.fs]
  cases s.flt.src[n]? <;> rfl

/-- The cause is the number of the first bar (R306). -/
theorem State.closeCause_eq (s : State) (src : ReqSrc) : s.closeCause src = (List.range 10).find? (s.closeBar src) := by
  have hsteps : s.closeCause src =
      if s.closeBar src 1 then some 1 else if s.closeBar src 2 then some 2 else if s.closeBar src 3 then some 3
      else if s.closeBar src 4 then some 4 else if s.closeBar src 5 then some 5 else if s.closeBar src 6 then some 6
      else if s.closeBar src 7 then some 7 else if s.closeBar src 8 then some 8 else if s.closeBar src 9 then some 9
      else none := by
    simp only [State.closeCause, State.closeBar, State.src_cond, decide_eq_true_iff]
  have hrange : List.range 10 = [0, 1, 2, 3, 4, 5, 6, 7, 8, 9] := rfl
  have hzero : s.closeBar src 0 = false := rfl
  rw [hsteps, hrange]
  simp only [find?_cons_ite, hzero, Bool.false_eq_true, if_false, List.find?_nil]

section
variable {s : State} {src : ReqSrc} {k : Nat}

/-- No bar before k stands. -/
def State.closeClear (s : State) (src : ReqSrc) (k : Nat) : Prop := ∀ j < k, s.closeBar src j = false

theorem State.closeClear_one : s.closeClear src 1 := fun _ hj => Nat.lt_one_iff.1 hj ▸ rfl

theorem State.closeClear.succ (h : s.closeClear src k) (hk : s.closeBar src k = false) : s.closeClear src (k + 1) :=
  fun j hj => (Nat.lt_succ_iff_lt_or_eq.1 hj).elim (h j) fun hjk => hjk ▸ hk

/-- The first bar that stands is the cause. -/
theorem State.closeClear.cause (h : s.closeClear src k) (hbar : s.closeBar src k = true) (hk : k < 10 := by decide) :
    s.closeCause src = some k := by
  rw [State.closeCause_eq]
  exact List.find?_range_eq_some.2 ⟨hbar, List.mem_range.2 hk, fun j hj => by simp [h j hj]⟩

theorem State.closeCause_none_iff : s.closeCause src = none ↔ s.closeClear src 10 := by
  rw [State.closeCause_eq, List.find?_eq_none]
  simp only [List.mem_range, Bool.not_eq_true, State.closeClear]

/-- What stands against no accepted request: the conditions of causes 5 to 9 (R306). -/
theorem State.closeClear.facts (h : s.closeClear src 10) : 16000 ≤ s.pwr.vk ∧ s.pre.latched = false ∧ (s.hv 0).valid = true ∧
    16000 ≤ (s.hv 0).code ∧ s.srcEnabled src = true ∧ s.pre.safeReqA = false ∧ s.pre.safeReqB = false ∧
    s.pre.openReqA = false ∧ s.pre.openReqB = false ∧ s.pre.loss = false ∧ s.pre.trip = false := by
  have h5 := h 5 (by decide)
  have h6 := h 6 (by decide)
  have h7 := h 7 (by decide)
  have h8 := h 8 (by decide)
  have h9 := h 9 (by decide)
  simp only [State.closeBar, decide_eq_false_iff_not, Bool.not_eq_false', Bool.and_eq_true, decide_eq_true_iff, not_lt,
    Bool.or_eq_false_iff] at h5 h6 h7 h8 h9
  obtain ⟨hvalid, hcode⟩ := h7
  obtain ⟨⟨⟨⟨⟨⟨⟨hsa, hsb⟩, hoa⟩, hob⟩, hloss⟩, htrip⟩, -⟩, -⟩ := h9
  exact ⟨h5, h6, hvalid, hcode, h8, hsa, hsb, hoa, hob, hloss, htrip⟩

end
end Sys2Proof.Machine

namespace Sys2Proof.Proofs
open Sys2Proof.Machine

/-- Settles O19: the cause is the first bar that stands (`State.closeCause_eq`), so each clause clears the bars before its own. -/
theorem closeCauses : Obligations.CloseCauses := by
  refine fun s src => ⟨fun hparked => State.closeClear_one.cause ?_, fun hA hB hstart => ?_⟩
  · simpa [State.closeBar] using Or.inl hparked
  have clear1 : s.closeClear src 2 := State.closeClear_one.succ (by simp [State.closeBar, hA, hB, hstart])
  refine ⟨clear1.cause, fun hsession => ?_⟩
  have clear2 : s.closeClear src 3 := clear1.succ hsession
  refine ⟨fun hjoined => clear2.cause ?_, fun ⟨r, hr, hsplit⟩ => clear2.cause ?_,
    fun hjA hjB hdebug hreq hpairA hpairB => ?_⟩
  · rcases hjoined with h | h <;> simp [State.closeBar, h]
  · simp [State.closeBar, State.splitNow, hr, hsplit]
  have clear3 : s.closeClear src 4 :=
    clear2.succ (by simp [State.closeBar, State.splitNow, hjA, hjB, hdebug, hreq, hpairA, hpairB])
  refine ⟨fun hpermit => clear3.cause ?_, fun hnone => (State.closeCause_none_iff.1 hnone).facts,
    fun hpA hpB hdrives hconf hloop himage hcopies hfs => ?_⟩
  · rcases hpermit with h | h <;> simp [State.closeBar, h]
  have hpresent : s.cfg.image.isNone = false := by rw [← Option.not_isSome, himage]; rfl
  have clear4 : s.closeClear src 5 :=
    clear3.succ (by simp only [State.closeBar, hpA, hpB, hdrives, hconf, hloop, hpresent, hcopies, hfs]; rfl)
  have clear5 (hvk : 16000 ≤ s.pwr.vk) : s.closeClear src 6 := clear4.succ (decide_eq_false (Nat.not_lt.2 hvk))
  refine ⟨fun hvk => clear4.cause (decide_eq_true hvk), fun hvk hlatch => (clear5 hvk).cause hlatch,
    fun hvk hlatch hhv => ((clear5 hvk).succ hlatch).cause ?_, fun hvk hlatch hvalid hcode => ?_⟩
  · rcases hhv with h | h
    · simp [State.closeBar, h]
    · simp [State.closeBar, h]
  have clear7 : s.closeClear src 8 := ((clear5 hvk).succ hlatch).succ (by simp [State.closeBar, hvalid, hcode])
  refine ⟨fun hoff => clear7.cause (by simp [State.closeBar, hoff]), fun hsrc hbar => ?_,
    fun hsrc htrip hloss hsA hsB hoA hoB hiA hiB => State.closeCause_none_iff.2 ?_⟩
  all_goals have clear8 : s.closeClear src 9 := clear7.succ (by simp [State.closeBar, hsrc])
  · refine clear8.cause ?_
    rcases hbar with h | h | h | h | h | h <;> simp [State.closeBar, h]
  · exact clear8.succ (by simp [State.closeBar, htrip, hloss, hsA, hsB, hoA, hoB, hiA, hiB])

end Sys2Proof.Proofs
end

section
/-! PROOFS. The sequencers' rows of a boundary, each of which works on the channels one after the other (R305, R307-R312, R329, R331). -/

namespace Sys2Proof.Machine

/-! An operation of one channel's sequencer -/

/-- The sequencer of a channel moves; with it may move what both channels share for the outputs, and the log. -/
def State.seqMove (ch : Ch) (q : Seq) (f : SafeS) (l : LogS) (s : State) : State :=
  { s.setSeq ch fun _ => q with safe := f, log := l }

/-- The operation moves the sequencer of its channel to g, and that of channel B whatever channel A's has done. -/
structure SeqOp (op : Ch → State → State) (g : Ch → State → Seq) : Prop where
  moves (ch : Ch) (s : State) : ∃ f l, op ch s = s.seqMove ch (g ch s) f l
  alone (q : Seq) (f : SafeS) (l : LogS) (s : State) : g .b (s.seqMove .a q f l) = g .b s

/-- What the sequencers' rows may change of a state (R305). -/
def State.SeqFrame (s t : State) : Prop := t = { s with cha := t.cha, chb := t.chb, safe := t.safe, log := t.log }

theorem State.SeqFrame.keeps {s t : State} (h : s.SeqFrame t) :
    t.beat = s.beat ∧ t.cfg = s.cfg ∧ t.flt = s.flt ∧ t.meas = s.meas :=
  ⟨(congrArg State.beat h).trans rfl, (congrArg State.cfg h).trans rfl, (congrArg State.flt h).trans rfl,
    (congrArg State.meas h).trans rfl⟩

/-- A row that writes no record. -/
theorem State.SeqFrame.silent {s t : State} (h : s.SeqFrame t) (hlog : t.log = s.log) :
    t = { s with cha := t.cha, chb := t.chb, safe := t.safe } := by
  rw [State.SeqFrame, hlog] at h
  exact h

/-- The drive of the outputs lets the drivers follow, unless the boundary is that after an overrun (R96, R315). -/
theorem State.drive_seq (ch : Ch) (s : State) : ∃ app, (s.drive.chan ch).seq = { (s.chan ch).seq with app := app } ∧
    (s.beat.hold = false → app = (s.chan ch).seq.cmd) := by
  unfold State.drive
  split
  · next h => exact ⟨(s.chan ch).seq.app, rfl, fun hhold => by simp [hhold] at h⟩
  · obtain ⟨tp, h⟩ := s.pulseMeets_eq
    rw [h]
    cases ch <;> exact ⟨_, rfl, fun _ => rfl⟩

theorem State.drive_frame (s : State) : s.SeqFrame s.drive := by
  obtain ⟨a, b, out, tp, h⟩ := s.drive_eq
  rw [h]
  rfl

@[simp] theorem State.drive_log (s : State) : s.drive.log = s.log := by
  obtain ⟨a, b, out, tp, h⟩ := s.drive_eq
  rw [h]

/-- The outputs leave RESULT, CBEAT and the mark of a mutual loss. -/
theorem State.drive_shown (s : State) : s.drive.safe.result = s.safe.result ∧ s.drive.safe.cbeat = s.safe.cbeat ∧
    s.drive.safe.bothLost = s.safe.bothLost := by
  obtain ⟨a, b, out, tp, h⟩ := s.drive_eq
  rw [h]
  exact ⟨rfl, rfl, rfl⟩

theorem State.SeqFrame.trans {s t u : State} (hst : s.SeqFrame t) (htu : t.SeqFrame u) : s.SeqFrame u := by
  rw [State.SeqFrame] at hst htu ⊢
  rw [htu, hst]

section
variable {op : Ch → State → State} {g : Ch → State → Seq}

theorem SeqOp.frame (h : SeqOp op g) (ch : Ch) (s : State) : s.SeqFrame (op ch s) := by
  obtain ⟨f, l, hop⟩ := h.moves ch s
  rw [hop]
  rfl

theorem SeqOp.seq_same (h : SeqOp op g) (ch : Ch) (s : State) : ((op ch s).chan ch).seq = g ch s := by
  obtain ⟨f, l, hop⟩ := h.moves ch s
  rw [hop]
  cases ch <;> rfl

/-- Where the operation is made on channel B after A, B's sequencer moves as it would alone. -/
theorem SeqOp.seq_second (h : SeqOp op g) (s : State) : ((op .b (op .a s)).chan .b).seq = g .b s := by
  obtain ⟨f, l, hop⟩ := h.moves .a s
  rw [h.seq_same, hop, h.alone]

theorem SeqOp.seq_first (h : SeqOp op g) (s : State) : ((op .b s).chan .a).seq = (s.chan .a).seq := by
  obtain ⟨f, l, hop⟩ := h.moves .b s
  rw [hop]
  rfl

/-- Made on both channels, the operation moves each sequencer as it would alone. -/
theorem SeqOp.seq_both (h : SeqOp op g) (ch : Ch) (s : State) : ((op .b (op .a s)).chan ch).seq = g ch s := by
  cases ch with
  | a => rw [h.seq_first, h.seq_same]
  | b => exact h.seq_second s

variable {due : State → Ch → Bool} {ch : Ch} {s : State}

/-- Before the outputs follow, the operation has been made on the channels for which it is due. -/
def State.chansMoved (due : State → Ch → Bool) (op : Ch → State → State) (s : State) : State :=
  let t := if due s .a then op .a s else s
  if due s .b then op .b t else t

theorem State.onChans_due (h : due s ch = true) : s.onChans due op = (s.chansMoved due op).drive := by
  have hany : (due s .a || due s .b) = true := by cases ch <;> simp [h]
  simp only [State.onChans, hany, if_true]
  rfl

theorem SeqOp.chansMoved_frame (h : SeqOp op g) (due : State → Ch → Bool) (s : State) : s.SeqFrame (s.chansMoved due op) := by
  have hsame : s.SeqFrame s := rfl
  have hfirst : s.SeqFrame (if due s .a then op .a s else s) := by
    split
    · exact h.frame .a s
    · exact hsame
  rw [State.chansMoved]
  split
  · exact hfirst.trans (h.frame .b _)
  · exact hfirst

theorem SeqOp.chansMoved_seq (h : SeqOp op g) (hdue : due s ch = true) : ((s.chansMoved due op).chan ch).seq = g ch s := by
  cases ch with
  | a =>
    rw [State.chansMoved, if_pos hdue]
    split
    · exact h.seq_both .a s
    · exact h.seq_same .a s
  | b =>
    rw [State.chansMoved, if_pos hdue]
    split
    · exact h.seq_both .b s
    · exact h.seq_same .b s

/-- A row of a boundary that is due on a channel moves its sequencer, and the outputs follow. -/
theorem SeqOp.row (h : SeqOp op g) (hb : s.beat.bStage = 0) (hdue : due s ch = true) :
    s.boundaryRow (State.either due) (State.onChans due op) = (s.chansMoved due op).drive ∧
    s.SeqFrame (s.chansMoved due op).drive ∧
    ∃ app, ((s.chansMoved due op).drive.chan ch).seq = { g ch s with app := app } ∧ (s.beat.hold = false → app = (g ch s).cmd) := by
  have heither : State.either due s = true := by cases ch <;> simp [State.either, hdue]
  obtain ⟨app, hseq, happ⟩ := (s.chansMoved due op).drive_seq ch
  have hframe := h.chansMoved_frame due s
  obtain ⟨hbeat, -⟩ := hframe.keeps
  rw [h.chansMoved_seq hdue, hbeat] at happ
  rw [h.chansMoved_seq hdue] at hseq
  exact ⟨(State.boundaryRow_due hb heither _).trans (State.onChans_due hdue), hframe.trans (State.drive_frame _), app, hseq, happ⟩

/-- A row whose operation writes no record leaves the log. -/
theorem SeqOp.row_silent (h : SeqOp op g) (hlog : ∀ c t, (op c t).log = t.log) (hb : s.beat.bStage = 0) (hdue : due s ch = true) :
    ∃ t app, s.boundaryRow (State.either due) (State.onChans due op) = t ∧ (t.chan ch).seq = { g ch s with app := app } ∧
      (s.beat.hold = false → app = (g ch s).cmd) ∧ t = { s with cha := t.cha, chb := t.chb, safe := t.safe } := by
  obtain ⟨hrow, hframe, app, hseq, happ⟩ := h.row hb hdue
  refine ⟨_, app, hrow, hseq, happ, hframe.silent ?_⟩
  rw [State.drive_log, State.chansMoved]
  repeat' split
  all_goals simp only [hlog]

end

/-! The steps of the pre-charge (R307, R309, R310) -/

theorem seqOp_preClose : SeqOp State.preClose fun c s =>
    { s.setRole 2 true (s.chan c).seq with step := 2, e := 0, crit := false } :=
  ⟨fun c s => ⟨_, _, State.setSeq_eq_seqStep c _ s⟩, fun _ _ _ _ => rfl⟩

theorem seqOp_preOpen : SeqOp State.preOpen fun c s => { s.setRole 2 false (s.chan c).seq with step := 5 } :=
  ⟨fun c s => ⟨_, _, State.setSeq_eq_seqStep c _ s⟩, fun _ _ _ _ => rfl⟩

theorem seqOp_coolEnd : SeqOp State.coolEnd fun c s => { (s.chan c).seq with step := 1, c := 0, e := 0, cool := 0 } :=
  ⟨fun c s => ⟨_, _, State.setSeq_eq_seqStep c _ s⟩, fun _ _ _ _ => rfl⟩

/-- The sequencer at the commit point (R310). -/
def State.committed (c : Ch) (s : State) : Seq :=
  { s.setRole 3 true (s.chan c).seq with state := .closed, step := 4, m := 0, posCmd := false }

theorem State.commit_eq (ch : Ch) (s : State) : ∃ l, s.commit ch = s.seqMove ch (s.committed ch)
    (if s.reports ch then { s.safe with result := 1, cbeat := s.beat.num } else s.safe) l := by
  have hreports (f : Seq → Seq) : (s.setSeq ch f).reports ch = s.reports ch := by
    rw [State.setSeq_eq_seqStep, State.seqStep_reports]
  unfold State.commit State.seqResult
  simp only [hreports]
  split <;> cases ch <;> exact ⟨_, rfl⟩

theorem seqOp_commit : SeqOp State.commit State.committed :=
  ⟨fun c s => let ⟨l, h⟩ := s.commit_eq c; ⟨_, l, h⟩, fun _ _ _ _ => rfl⟩

@[simp] theorem State.seqMove_reports (ch c : Ch) (q : Seq) (f : SafeS) (l : LogS) (s : State) :
    (s.seqMove ch q f l).reports c = s.reports c := by
  have hruns (d : Ch) : (s.seqMove ch q f l).runs d = s.runs d := by cases ch <;> cases d <;> rfl
  rw [State.reports, hruns, ← State.reports]

/-- A channel that does not report leaves RESULT and CBEAT (R310, R318). -/
theorem State.commit_quiet {ch : Ch} {s : State} (h : s.reports ch = false) : (s.commit ch).safe = s.safe := by
  obtain ⟨l, hcommit⟩ := s.commit_eq ch
  rw [hcommit, h]
  rfl

theorem State.commit_result {ch : Ch} {s : State} (h : s.reports ch = true) :
    (s.commit ch).safe.result = 1 ∧ (s.commit ch).safe.cbeat = s.beat.num := by
  obtain ⟨l, hcommit⟩ := s.commit_eq ch
  rw [hcommit, h]
  exact ⟨rfl, rfl⟩

/-- Where the channel that reports passes its commit point, RESULT and CBEAT are its own, whatever the other one does. -/
theorem State.chansMoved_commit {ch : Ch} {s : State} (hrep : s.reports ch = true) {due : State → Ch → Bool}
    (hdue : due s ch = true) :
    (s.chansMoved due State.commit).safe.result = 1 ∧ (s.chansMoved due State.commit).safe.cbeat = s.beat.num := by
  obtain ⟨l, hA⟩ := s.commit_eq .a
  have hkeeps (c : Ch) : (s.commit .a).reports c = s.reports c := by rw [hA, State.seqMove_reports]
  have hnum : (s.commit .a).beat.num = s.beat.num := by rw [hA]; rfl
  rw [State.chansMoved]
  cases ch with
  | a =>
    rw [if_pos hdue]
    split
    · rw [State.commit_quiet ((hkeeps .b).trans (State.reports_other hrep))]
      exact State.commit_result hrep
    · exact State.commit_result hrep
  | b =>
    rw [if_pos hdue]
    split
    · rw [← hnum]
      exact State.commit_result ((hkeeps .b).trans hrep)
    · exact State.commit_result hrep

/-! The steps of an opening and of a run-down (R311, R312, R329, R331) -/

/-- POS and PRE open (R311). -/
def State.freedSeq (c : Ch) (s : State) : Seq :=
  { s.setRole 2 false (s.setRole 3 false (s.chan c).seq) with posOpen := true, k := 0 }

theorem State.freedSeq_cmd (c : Ch) (s : State) (i : Nat) : (s.freedSeq c).cmd[i]? =
    if s.outRole (i + 1) = 2 ∨ s.outRole (i + 1) = 3 then (s.chan c).seq.cmd[i]?.map fun _ => false else (s.chan c).seq.cmd[i]? :=
  State.openPrePos_cmd (s.chan c).seq i

theorem seqOp_curfree : SeqOp State.curfree State.freedSeq :=
  ⟨fun c s => ⟨_, _, State.setSeq_eq_seqStep c _ s⟩, fun _ _ _ _ => rfl⟩

theorem seqOp_negOpen : SeqOp State.negOpen fun c s => { s.setRole 1 false (s.chan c).seq with w := some 0 } :=
  ⟨fun c s => ⟨_, _, State.setSeq_eq_seqStep c _ s⟩, fun _ _ _ _ => rfl⟩

theorem seqOp_rdWarn : SeqOp State.rdWarn fun c s => { (s.chan c).seq with rdWarned := true } :=
  ⟨fun c s => by cases c <;> exact ⟨s.safe, _, rfl⟩, fun _ _ _ _ => rfl⟩

/-- What an open makes of a channel's sequencer, by its state (R303, R311). -/
def State.openedSeq (s : State) (ch : Ch) (toSafe : Bool) : Seq :=
  if (s.chan ch).seq.state.live then s.openingSeq ch toSafe
  else if (s.chan ch).seq.state = .opening then { (s.chan ch).seq with toSafe := (s.chan ch).seq.toSafe || toSafe }
  else (s.chan ch).seq

theorem State.openNow_moves (ch : Ch) (toSafe : Bool) (s : State) :
    ∃ f l, s.openNow ch toSafe = s.seqMove ch (s.openedSeq ch toSafe) f l := by
  unfold State.openedSeq
  split
  · next hlive =>
    obtain ⟨p, l, hopen⟩ := State.openNow_live hlive toSafe
    exact ⟨_, l, hopen⟩
  · next hlive =>
    by_cases hopening : (s.chan ch).seq.state = .opening
    · rw [if_pos hopening]
      have hopen : s.openNow ch toSafe = s.setSeq ch fun q => { q with toSafe := q.toSafe || toSafe } := by
        simp only [State.openNow, hopening]
      rw [hopen]
      exact ⟨s.safe, s.log, by cases ch <;> rfl⟩
    · have hsame : s.openNow ch toSafe = s := by
        unfold State.openNow
        dsimp only
        split <;> simp_all [Ctl.live]
      rw [if_neg hopening, hsame]
      exact ⟨s.safe, s.log, by cases ch <;> rfl⟩

theorem seqOp_openNow (toSafe : Bool) : SeqOp (fun c => State.openNow c toSafe) fun c s => s.openedSeq c toSafe :=
  ⟨fun c s => s.openNow_moves c toSafe, fun _ _ _ _ => rfl⟩

/-- The sequencer marks the expiry and opens (R331). -/
def State.expiredSeq (c : Ch) (s : State) : Seq := (s.setSeq c fun q => { q with rdExpired := true }).openedSeq c true

theorem seqOp_rdExpire : SeqOp State.rdExpire State.expiredSeq where
  moves c s := by
    obtain ⟨f, l, h⟩ := (s.setSeq c fun q => { q with rdExpired := true }).openNow_moves c true
    refine ⟨f, l, h.trans ?_⟩
    cases c <;> rfl
  alone _ _ _ _ := rfl

/-- An open with target Safe takes every state under way to Opening with that target (R311, R329, R331). -/
theorem State.openedSeq_toSafe {s : State} {ch : Ch} (h : (s.chan ch).seq.state.live = true) :
    (s.openedSeq ch true).state = .opening ∧ (s.openedSeq ch true).toSafe = true := by
  rw [State.openedSeq, if_pos h, State.openingSeq, State.enterOpening, State.setSeq, State.setChan_chan]
  exact ⟨rfl, rfl⟩

theorem State.expiredSeq_of_rundown {s : State} {ch : Ch} (h : (s.chan ch).seq.state = .rundown) :
    (s.expiredSeq ch).state = .opening ∧ (s.expiredSeq ch).toSafe = true := by
  refine State.openedSeq_toSafe ?_
  rw [State.setSeq, State.setChan_chan, h]
  rfl

/-- Each channel is known to have lost the other (R329). -/
def State.markBothLost (s : State) : State := { s with safe := { s.safe with bothLost := true } }

/-- Both channels open, and the outputs follow (R329). -/
theorem State.mutualLoss_spec (s : State) : s.mutualLoss.safe.bothLost = true ∧ s.SeqFrame s.mutualLoss ∧
    ∀ ch, ∃ app, (s.mutualLoss.chan ch).seq = { s.openedSeq ch true with app := app } := by
  have hop := seqOp_openNow true
  have hdef : s.mutualLoss = ((s.openNow .a true).openNow .b true).markBothLost.drive := rfl
  have hframe : s.SeqFrame ((s.openNow .a true).openNow .b true).markBothLost :=
    ((hop.frame .a s).trans (hop.frame .b _)).trans rfl
  obtain ⟨-, -, hlost⟩ := ((s.openNow .a true).openNow .b true).markBothLost.drive_shown
  rw [hdef]
  refine ⟨hlost, hframe.trans (State.drive_frame _), fun ch => ?_⟩
  obtain ⟨app, hseq, -⟩ := ((s.openNow .a true).openNow .b true).markBothLost.drive_seq ch
  refine ⟨app, hseq.trans ?_⟩
  rw [← hop.seq_both ch s]
  cases ch <;> rfl

end Sys2Proof.Machine

namespace Sys2Proof.Proofs
open Sys2Proof.Machine

/-- Settles O20: each step is a row (`SeqOp.row`) whose operation is one equation for the sequencer. -/
theorem prechargeSteps : Obligations.PrechargeSteps := by
  refine ⟨fun s ch hb hrun hst hstep hc hfail => ?_, fun s ch hb hrun hst hpos hwant hrep => ?_,
    fun s ch hb hrun hst hstep hm => ?_, fun s ch hb hrun hst hstep hcool => ?_⟩
  · have hdue : s.preCloseDue ch = true := by simp [State.preCloseDue, hrun, hst, hstep, hc, hfail]
    obtain ⟨t, app, hrow, hseq, happ, hkeeps⟩ := seqOp_preClose.row_silent (fun _ _ => rfl) hb hdue
    refine ⟨_, congrArg Host.Outcome.next hrow, ?_⟩
    rw [hseq]
    exact ⟨rfl, rfl, hst, State.setRole_cmd _ _ _, happ, hkeeps⟩
  · have hdue : s.commitDue ch = true := by simp [State.commitDue, hrun, hst, hpos, hwant]
    obtain ⟨hrow, hframe, app, hseq, -⟩ := seqOp_commit.row hb hdue
    obtain ⟨hres, hcbeat⟩ := State.chansMoved_commit hrep hdue
    obtain ⟨dres, dcbeat, -⟩ := (s.chansMoved State.commitDue State.commit).drive_shown
    refine ⟨_, congrArg Host.Outcome.next hrow, ?_⟩
    rw [hseq]
    exact ⟨rfl, rfl, rfl, State.setRole_cmd _ _ _, dres.trans hres, dcbeat.trans hcbeat, hframe.keeps⟩
  · have hdue : s.preOpenDue ch = true := by simp [State.preOpenDue, hrun, hst, hstep, hm]
    obtain ⟨t, app, hrow, hseq, -, hkeeps⟩ := seqOp_preOpen.row_silent (fun _ _ => rfl) hb hdue
    refine ⟨_, congrArg Host.Outcome.next hrow, ?_⟩
    rw [hseq]
    exact ⟨rfl, hst, State.setRole_cmd _ _ _, hkeeps⟩
  · have hdue : s.coolDue ch = true := by simp [State.coolDue, hrun, hst, hstep, hcool]
    obtain ⟨t, app, hrow, hseq, -, hkeeps⟩ := seqOp_coolEnd.row_silent (fun _ _ => rfl) hb hdue
    refine ⟨_, congrArg Host.Outcome.next hrow, ?_⟩
    rw [hseq]
    exact ⟨rfl, rfl, rfl, rfl, hkeeps⟩

/-- Settles O21: the steps of an opening and of a run-down are rows (`SeqOp.row`); a mutual loss opens both channels
(`State.mutualLoss_spec`). -/
theorem openingSteps : Obligations.OpeningSteps := by
  refine ⟨fun s ch hb hrun hst hpos ho => ?_, fun s ch hb hrun hst hpos hw hk => ?_, fun s ch hb hrun hst hwarned hrd => ?_,
    fun s ch hb hrun hst hrd => ?_, fun s hb hda hdb haa hab hlost hclosed hrundown => ?_⟩
  · have hdue : s.curfreeDue ch = true := by simp [State.curfreeDue, hrun, hst, hpos, ho]
    obtain ⟨t, app, hrow, hseq, -, hkeeps⟩ := seqOp_curfree.row_silent (fun _ _ => rfl) hb hdue
    refine ⟨_, congrArg Host.Outcome.next hrow, ?_⟩
    rw [hseq]
    refine ⟨rfl, rfl, fun i hi => ?_, fun i h2 h3 => ?_, hkeeps⟩
    · show (s.freedSeq ch).cmd[i]? = _
      rw [State.freedSeq_cmd, if_pos hi]
    · show (s.freedSeq ch).cmd[i]? = _
      rw [State.freedSeq_cmd, if_neg (by simp [h2, h3])]
  · have hdue : s.negDue ch = true := by simp [State.negDue, hrun, hst, hpos, hw, hk]
    obtain ⟨t, app, hrow, hseq, -, hkeeps⟩ := seqOp_negOpen.row_silent (fun _ _ => rfl) hb hdue
    refine ⟨_, congrArg Host.Outcome.next hrow, ?_⟩
    rw [hseq]
    exact ⟨rfl, State.setRole_cmd _ _ _, hkeeps⟩
  · have hdue : s.rdWarnDue ch = true := by
      simp only [State.rdWarnDue, hrun, hst, hwarned, decide_eq_true hrd]
      rfl
    obtain ⟨hrow, hframe, app, hseq, -⟩ := seqOp_rdWarn.row hb hdue
    refine ⟨_, congrArg Host.Outcome.next hrow, ?_⟩
    rw [hseq]
    exact ⟨rfl, hst, rfl, hframe⟩
  · have hdue : s.rdExpireDue ch = true := by
      simp only [State.rdExpireDue, hrun, hst, decide_eq_true hrd]
      rfl
    obtain ⟨hrow, hframe, app, hseq, -⟩ := seqOp_rdExpire.row hb hdue
    obtain ⟨hstate, hsafe⟩ := State.expiredSeq_of_rundown hst
    refine ⟨_, congrArg Host.Outcome.next hrow, ?_⟩
    rw [hseq]
    exact ⟨hstate, hsafe, hframe.keeps⟩
  · have hdue : s.mutualDue = true := by simp [State.mutualDue, hda, hdb, haa, hab, hlost]
    obtain ⟨hboth, hframe, hseq⟩ := s.mutualLoss_spec
    obtain ⟨appA, hA⟩ := hseq .a
    obtain ⟨appB, hB⟩ := hseq .b
    obtain ⟨hstA, hsafeA⟩ := State.openedSeq_toSafe (s := s) (ch := .a) (by rw [State.chan, hclosed]; rfl)
    obtain ⟨hstB, hsafeB⟩ := State.openedSeq_toSafe (s := s) (ch := .b) (by rw [State.chan, hrundown]; rfl)
    obtain ⟨hbeat, hcfg, hflt, -⟩ := hframe.keeps
    refine ⟨_, congrArg Host.Outcome.next (State.boundaryRow_due hb hdue _), hboth, ?_, ?_, ?_, ?_, hbeat, hcfg, hflt⟩
    · exact (congrArg Seq.state hA).trans hstA
    · exact (congrArg Seq.toSafe hA).trans hsafeA
    · exact (congrArg Seq.state hB).trans hstB
    · exact (congrArg Seq.toSafe hB).trans hsafeB

end Sys2Proof.Proofs
end

section
/-! PROOFS. The frames of the trunk ring (R298, R420-R423). -/

namespace Sys2Proof.Machine

/-- The oldest frame of its type is taken by a die that runs (R332). -/
def State.rxTaken (f : RxFrame) (s : State) : State := s.setRing fun r => { r with rx := r.rx.erase f }

theorem State.rxPop_eq {s : State} {type : Nat} {f : RxFrame} (h : s.ring.rx.find? (fun f => numAt f.bytes 0 1 == type) = some f)
    (hrun : s.runs .a = true) : s.rxPop type = some (f, s.rxTaken f) := by
  simp only [State.rxPop, hrun, Bool.true_and, h]
  rfl

theorem exec_tfReceive_frame {s : State} {f : RxFrame} (h : s.ring.rx.find? (fun f => numAt f.bytes 0 1 == 16) = some f)
    (hrun : s.runs .a = true) : exec .tfReceive s = .next ((s.rxTaken f).tfTake f.port f.bytes) := by
  show Host.Outcome.next (match s.rxPop 16 with | none => s | some (f, t) => t.tfTake f.port f.bytes) = _
  rw [State.rxPop_eq h hrun]

theorem exec_kfReceive_frame {s : State} {f : RxFrame} (h : s.ring.rx.find? (fun f => numAt f.bytes 0 1 == 17) = some f)
    (hrun : s.runs .a = true) : exec .kfReceive s = .next ((s.rxTaken f).kfTake f.bytes) := by
  show Host.Outcome.next (match s.rxPop 17 with | none => s | some (f, t) => t.kfTake f.bytes) = _
  rw [State.rxPop_eq h hrun]

/-! The table of strings (R420, R422) -/

/-- The entry of string k changes by f; without one, a new one is entered. -/
def enterStr (k : BitVec 8) (f : StrS → StrS) (l : List StrS) : List StrS :=
  if l.any fun x => x.str == k then l.map fun x => if x.str == k then f x else x else l ++ [f { str := k }]

section
variable {k : BitVec 8} {f : StrS → StrS} (hf : ∀ x, (f x).str = x.str) (l : List StrS)
include hf

/-- A change that keeps the string of its entry leaves what a search by string meets. -/
theorem enterStr_match (j : BitVec 8) :
    ((fun x : StrS => x.str == j) ∘ fun x => if x.str == k then f x else x) = fun x => x.str == j := by
  funext x
  simp only [Function.comp]
  split
  · rw [hf]
  · rfl

theorem enterStr_same :
    (enterStr k f l).find? (fun x => x.str == k) = some (f ((l.find? fun x => x.str == k).getD { str := k })) := by
  unfold enterStr
  split
  · next hany =>
    obtain ⟨x, hx⟩ : ∃ x, l.find? (fun x => x.str == k) = some x :=
      Option.isSome_iff_exists.1 (List.find?_isSome.2 (List.any_eq_true.1 hany))
    have hstr : (x.str == k) = true := List.find?_some (p := fun x : StrS => x.str == k) hx
    rw [List.find?_map, enterStr_match hf, hx, Option.map_some, if_pos hstr]
    rfl
  · next hany =>
    have hnone : l.find? (fun x => x.str == k) = none := by simpa using hany
    rw [List.find?_append, hnone]
    simp [hf]

theorem enterStr_other {j : BitVec 8} (hj : j ≠ k) :
    (enterStr k f l).find? (fun x => x.str == j) = l.find? fun x => x.str == j := by
  unfold enterStr
  split
  · rw [List.find?_map, enterStr_match hf]
    cases hx : l.find? fun x => x.str == j with
    | none => rfl
    | some x =>
      have hstr : x.str = j := by simpa using List.find?_some hx
      simp [hstr, hj]
  · rw [List.find?_append]
    simp [hf, hj.symm]

end

/-- The ring's state after a string frame of string k; newer says whether its CEPOCH is the newer one (R422, R425). -/
def RingS.heardString (r : RingS) (k : BitVec 8) (f : StrS → StrS) (newer : Bool) (ce : BitVec 16) : RingS :=
  { r with
    strings := enterStr k f r.strings
    cepoch := if newer then ce else r.cepoch
    coordDrop := r.coordDrop || (newer && r.role == 3)
    csocValid := r.csocValid && !newer }

/-- A string frame without a reply does nothing else (R408). -/
theorem State.tfTake_eq {s : State} {l : List Byte} {k : BitVec 8} (hk : k = BitVec.ofNat 8 (uStr (hdrOf l).src))
    (hother : k.toNat ≠ uStr s.addr) (hreply : numAt (slice 80 8 l) 1 1 = 0) (p : RPort) :
    s.tfTake p l = s.setRing fun r => r.heardString k (strOf p l)
      (epochNewer (BitVec.ofNat 16 (numAt l 76 2)) s.ring.cepoch) (BitVec.ofNat 16 (numAt l 76 2)) := by
  subst hk
  unfold State.tfTake State.replyField
  dsimp only
  rw [if_neg hother, if_pos hreply]
  rfl

/-! Consist frames (R298, R421, R423) -/

/-- What every consist frame of the own CEPOCH says (R421, R423). -/
def State.kfHeard (l : List Byte) (s : State) : State :=
  s.setRing fun r => { r with kfMissed := 0, csoc := numAt l 20 4, csocValid := true, coord := BitVec.ofNat 8 (uStr (hdrOf l).src) }

section
variable {s : State} {l : List Byte}

theorem State.kfTake_stale (h : BitVec.ofNat 16 (numAt l 16 2) ≠ s.ring.cepoch) : s.kfTake l = s := if_pos h

theorem State.kfTake_elsewhere (h : BitVec.ofNat 16 (numAt l 16 2) = s.ring.cepoch) (hfrag : numAt l 18 1 ≠ uStr s.addr / 32) :
    s.kfTake l = s.kfHeard l := by
  rw [State.kfTake, if_neg (not_not.2 h)]
  exact if_pos hfrag

/-- The own fragment gives the weights, the request and, to an active Master, the entries. -/
theorem State.kfTake_own (h : BitVec.ofNat 16 (numAt l 16 2) = s.ring.cepoch) (hfrag : numAt l 18 1 = uStr s.addr / 32) :
    s.kfTake l = if ((s.kfHeard l).kfOwn l).ring.active then runAll State.kfEntry (kfEntries l) ((s.kfHeard l).kfOwn l)
      else (s.kfHeard l).kfOwn l := by
  rw [State.kfTake, if_neg (not_not.2 h)]
  exact if_neg (not_not.2 hfrag)

end

/-- The outputs' common state after the request code c of a consist frame: an active Master whose REQ_SRC enables the ring stages the
request (R298, R421). -/
def State.kfStaged (c : Nat) (s : State) : SafeS :=
  match kfRequest c with
  | some k => if s.ring.active && (s.nat .REQ_SRC).testBit 2 then { s.safe with reqStaged := some ⟨k, .ring⟩ } else s.safe
  | none => s.safe

theorem State.kfStaged_eq (c : Nat) (s : State) : s.kfStaged c =
    if s.ring.active = true ∧ (s.nat .REQ_SRC).testBit 2 = true ∧ c = 1 then { s.safe with reqStaged := some ⟨.close, .ring⟩ }
    else if s.ring.active = true ∧ (s.nat .REQ_SRC).testBit 2 = true ∧ c = 2 then
      { s.safe with reqStaged := some ⟨.openReq, .ring⟩ }
    else s.safe := by
  match c with
  | 0 => simp [State.kfStaged, kfRequest]
  | 1 => simp [State.kfStaged, kfRequest]
  | 2 => simp [State.kfStaged, kfRequest]
  | n + 3 => simp [State.kfStaged, kfRequest]

/-- The request code for string j of a fragment (R421). -/
def fragmentCode (l : List Byte) (j : Nat) : Nat := numAt l (24 + j / 4) 1 / 4 ^ (j % 4) % 4

/-- The ring's state with the weights of string j of a fragment (R421). -/
def RingS.weighed (r : RingS) (l : List Byte) (j : Nat) : RingS :=
  { r with wChg := numAt l (32 + 4 * j) 2, wDis := numAt l (34 + 4 * j) 2 }

/-- The own fragment gives its weights, and its request to an active Master (R298, R421). -/
theorem State.kfOwn_eq (l : List Byte) (s : State) : s.kfOwn l =
    { s with
      ring := s.ring.weighed l (uStr s.addr % 32)
      safe := s.kfStaged (fragmentCode l (uStr s.addr % 32)) } := by
  have hdef : s.kfOwn l =
      match kfRequest (fragmentCode l (uStr s.addr % 32)) with
      | some k =>
        if s.ring.active && (s.nat .REQ_SRC).testBit 2 then
          { s with
            ring := s.ring.weighed l (uStr s.addr % 32), safe := { s.safe with reqStaged := some ⟨k, .ring⟩ } }
        else { s with ring := s.ring.weighed l (uStr s.addr % 32) }
      | none => { s with ring := s.ring.weighed l (uStr s.addr % 32) } := rfl
  rw [hdef, State.kfStaged]
  cases kfRequest (fragmentCode l (uStr s.addr % 32)) with
  | none => rfl
  | some k =>
    dsimp only
    split <;> rfl

/-- An entry for another string does nothing (R421). -/
theorem State.kfEntry_elsewhere {e : RingEnt} {s : State} (h : uStr e.dst ≠ uStr s.addr) : s.kfEntry e = s := if_pos h

theorem State.kfEntries_elsewhere {s : State} {es : List RingEnt} (h : es.all (fun e => uStr e.dst != uStr s.addr) = true) :
    runAll State.kfEntry es s = s := by
  induction es with
  | nil => rfl
  | cons e es ih =>
    rw [List.all_cons, Bool.and_eq_true, bne_iff_ne] at h
    obtain ⟨he, hes⟩ := h
    show runAll State.kfEntry es (s.kfEntry e) = s
    rw [State.kfEntry_elsewhere he, ih hes]

/-- An entry for a unit of the own string is relayed to it (R395, R421). -/
theorem State.kfEntry_relayed {e : RingEnt} {s : State} (hstr : uStr e.dst = uStr s.addr) (hdst : e.dst ≠ s.addr) :
    s.kfEntry e = s.setRing fun r => { r with entries := r.entries ++ [s.resolved e], kfRelays := r.kfRelays ++ [{ ent := e }] } := by
  rw [State.kfEntry, if_neg (not_not.2 hstr), if_neg hdst]

/-- The state with the weights and the request of the own fragment. -/
def State.kfGiven (l : List Byte) (s : State) : State :=
  { s with ring := (s.kfHeard l).ring.weighed l (uStr s.addr % 32), safe := s.kfStaged (fragmentCode l (uStr s.addr % 32)) }

section
variable {s : State} {l : List Byte}

theorem State.kfOwn_heard : (s.kfHeard l).kfOwn l = s.kfGiven l := State.kfOwn_eq l (s.kfHeard l)

/-- Without an entry for this string, or in a Master that is not active, the own fragment gives nothing else. -/
theorem State.kfTake_quiet (h : BitVec.ofNat 16 (numAt l 16 2) = s.ring.cepoch) (hfrag : numAt l 18 1 = uStr s.addr / 32)
    (hidle : ((kfEntries l).all fun e => uStr e.dst != uStr s.addr) = true ∨ s.ring.active = false) :
    s.kfTake l = s.kfGiven l := by
  rw [State.kfTake_own h hfrag, State.kfOwn_heard]
  split
  · next hactive =>
    exact State.kfEntries_elsewhere (s := s.kfGiven l)
      (hidle.resolve_right fun hno => Bool.false_ne_true (hno.symm.trans hactive))
  · rfl

/-- An active Master relays the entry of its fragment that is for a unit of its string. -/
theorem State.kfTake_relayed {e : RingEnt} (h : BitVec.ofNat 16 (numAt l 16 2) = s.ring.cepoch)
    (hfrag : numAt l 18 1 = uStr s.addr / 32) (hactive : s.ring.active = true) (hents : kfEntries l = [e])
    (hstr : uStr e.dst = uStr s.addr) (hdst : e.dst ≠ s.addr) :
    (s.kfTake l).ring.entries = s.ring.entries ++ [s.resolved e] ∧
      (s.kfTake l).ring.kfRelays = s.ring.kfRelays ++ [{ ent := e }] := by
  have hgiven : (s.kfGiven l).ring.active = true := hactive
  rw [State.kfTake_own h hfrag, State.kfOwn_heard, if_pos hgiven, hents]
  have hentry : runAll State.kfEntry [e] (s.kfGiven l) = (s.kfGiven l).kfEntry e := rfl
  rw [hentry, State.kfEntry_relayed (s := s.kfGiven l) hstr hdst]
  exact ⟨rfl, rfl⟩

end

/-- An entry takes role and epoch of its unit from the roster (R395, R412). -/
theorem State.resolved_spec (s : State) (e : RingEnt) : (s.resolved e).dst = e.dst ∧ (s.resolved e).op = e.op ∧
    (s.resolved e).rseq = e.rseq ∧ (s.resolved e).addr = e.addr ∧ (s.resolved e).data = e.data ∧
    ∀ u, s.unit? e.dst = some u → (s.resolved e).dstEpoch = u.epoch ∧
      (s.resolved e).dstRole = u.role.toNat + if u.active then 4 else 0 := by
  refine ⟨rfl, rfl, rfl, rfl, rfl, fun u hu => ?_⟩
  rw [State.resolved, hu]
  exact ⟨rfl, rfl⟩

end Sys2Proof.Machine

namespace Sys2Proof.Proofs
open Sys2Proof.Machine

/-- Settles O49: a string frame is `State.tfTake_eq` over the table of strings; a consist frame is dropped, heard, or heard with the
own fragment (`State.kfTake_own`), whose request is `State.kfOwn_eq` and whose entries go on or stay. -/
theorem trunkFrames : Obligations.TrunkFrames := by
  refine ⟨fun s f k hf hrun hk hother hreply => ⟨_, exec_tfReceive_frame hf hrun, ?_⟩, fun s f hf hrun hepoch => ?_,
    fun s f hf hrun hepoch hfrag => ?_, fun s f c hf hrun hepoch hfrag hidle hc => ⟨_, exec_kfReceive_frame hf hrun, ?_⟩,
    fun s f e hf hrun hepoch hfrag hactive hents hstr hdst => ?_⟩
  · rw [State.tfTake_eq (s := s.rxTaken f) hk hother hreply]
    obtain ⟨newer, hnewer⟩ : ∃ b, epochNewer (BitVec.ofNat 16 (numAt f.bytes 76 2)) s.ring.cepoch = b := ⟨_, rfl⟩
    have hrx : (s.rxTaken f).ring.cepoch = s.ring.cepoch := rfl
    rw [hrx, hnewer]
    refine ⟨enterStr_same (f := strOf f.port f.bytes) (fun _ => rfl) _,
      fun j hj => enterStr_other (f := strOf f.port f.bytes) (fun _ => rfl) _ hj, ?_, ?_, rfl⟩
    · rintro rfl
      refine ⟨rfl, Bool.and_false _, fun hrole => ?_⟩
      show (s.ring.coordDrop || (true && s.ring.role == 3)) = true
      rw [hrole]
      exact Bool.or_true _
    · rintro rfl
      exact ⟨rfl, Bool.and_true _, Bool.or_false _⟩
  · rw [exec_kfReceive_frame hf hrun, State.kfTake_stale (s := s.rxTaken f) hepoch]
    rfl
  · rw [exec_kfReceive_frame hf hrun, State.kfTake_elsewhere (s := s.rxTaken f) hepoch hfrag]
    rfl
  · rw [State.kfTake_quiet (s := s.rxTaken f) hepoch hfrag hidle]
    have hsafe : ((s.rxTaken f).kfGiven f.bytes).safe = s.kfStaged c := by rw [hc]; rfl
    exact ⟨rfl, rfl, rfl, rfl, rfl, hsafe.trans (s.kfStaged_eq c), rfl⟩
  · obtain ⟨hd, hop, hrseq, haddr, hdata, hunit⟩ := (s.rxTaken f).resolved_spec e
    refine ⟨_, (s.rxTaken f).resolved e, exec_kfReceive_frame hf hrun, ?_⟩
    obtain ⟨hentries, hrelays⟩ := State.kfTake_relayed (s := s.rxTaken f) hepoch hfrag hactive hents hstr hdst
    exact ⟨hentries, hd, hop, hrseq, haddr, hdata, hunit, hrelays⟩

end Sys2Proof.Proofs
end

section
/-! PROOFS. What the evaluation judges of the sequencers and the outputs (R307, R309, R312-R314). -/

namespace Sys2Proof.Machine

/-! A judgement of each channel -/

/-- A judgement rewrites its channel's state; with it may move PROT_PCT and the log, where it records an attempt (R308). -/
def State.chanJudged (ch : Ch) (c : ChanS) (p : Nat) (l : LogS) (s : State) : State :=
  { s.setChan ch fun _ => c with safe := { s.safe with pct := p }, log := l }

/-- The judgement f makes g of a channel; that of channel B does not depend on what channel A's has judged, since neither moves what
the other reads: whether a die is alive, and which inputs failed their test. -/
structure Judgement (f : Ch → State → State) (g : Ch → State → ChanS) : Prop where
  judges (ch : Ch) (s : State) : ∃ p l, f ch s = s.chanJudged ch (g ch s) p l
  alone (c : ChanS) (p : Nat) (l : LogS) (s : State) : c.tstBad = s.cha.tstBad → g .b (s.chanJudged .a c p l) = g .b s
  keeps (ch : Ch) (s : State) : (g ch s).tstBad = (s.chan ch).tstBad ∧ (g ch s).alive = (s.chan ch).alive

/-- s with both channels judged. -/
def State.bothJudged (a b : ChanS) (p : Nat) (l : LogS) (s : State) : State :=
  { s with cha := a, chb := b, safe := { s.safe with pct := p }, log := l }

theorem Judgement.both {f : Ch → State → State} {g : Ch → State → ChanS} (h : Judgement f g) (s : State) :
    ∃ p l, s.onBoth f = s.bothJudged (g .a s) (g .b s) p l := by
  obtain ⟨p, l, ha⟩ := h.judges .a s
  obtain ⟨p', l', hb⟩ := h.judges .b (f .a s)
  obtain ⟨hbad, -⟩ := h.keeps .a s
  refine ⟨p', l', ?_⟩
  rw [State.onBoth, hb, ha, h.alone _ _ _ _ hbad]
  rfl

/-- What the judgement of a channel leaves, that of both leaves. -/
theorem State.onBoth_keeps {α : Type} {φ : State → α} {f : Ch → State → State} (h : ∀ ch s, φ (f ch s) = φ s) (s : State) :
    φ (s.onBoth f) = φ s :=
  (h .b _).trans (h .a s)

/-- A judgement that records nothing rewrites the channels alone. -/
theorem Judgement.both_silent {f : Ch → State → State} {g : Ch → State → ChanS} (h : Judgement f g)
    (hf : ∀ ch s, (f ch s).safe = s.safe ∧ (f ch s).log = s.log) (s : State) :
    s.onBoth f = { s with cha := g .a s, chb := g .b s } := by
  obtain ⟨p, l, hboth⟩ := h.both s
  have hsafe := State.onBoth_keeps (φ := State.safe) (fun ch t => (hf ch t).1) s
  have hlog := State.onBoth_keeps (φ := State.log) (fun ch t => (hf ch t).2) s
  rw [hboth] at hsafe hlog ⊢
  have hpct : { s.safe with pct := p } = s.safe := hsafe
  have hl : l = s.log := hlog
  rw [State.bothJudged, hpct, hl]

/-- At its stage the command runs it, 850 µs on (R31). -/
theorem State.evalThrough_high {s : State} {k : Nat} (h : s.evalAt k) (hk : 19 ≤ k) :
    s.evalThrough k = ((s.at 850000).stageHigh k).setBeat fun b => { b with eStage := k + 1 } := by
  have hnext : (s.at 850000).beat.eStage = k := by
    obtain ⟨-, -, hstage⟩ := h
    exact hstage
  rw [State.evalThrough_at h, State.evalStage, if_pos hnext, if_neg (by omega)]

/-- The record of an attempt moves PROT_PCT and the log alone (R308, R318). -/
theorem State.attempt_judged (ch : Ch) (s : State) :
    ∃ l, s.attempt ch = s.chanJudged ch (s.chan ch) (if s.reports ch then (s.chan ch).seq.e else s.safe.pct) l := by
  unfold State.attempt
  split <;> cases ch <;> exact ⟨_, rfl⟩

theorem State.attemptEnd_judged (ch : Ch) (s : State) : ∃ p l, s.attemptEnd ch = s.chanJudged ch (s.chan ch) p l := by
  obtain ⟨p, l, h⟩ := s.attemptEnd_seqStep ch
  refine ⟨p, l, h.trans ?_⟩
  cases ch <;> rfl

theorem State.chanJudged_same (ch : Ch) (s : State) : s = s.chanJudged ch (s.chan ch) s.safe.pct s.log := by
  cases ch <;> rfl

theorem State.chanJudged_setChan (ch : Ch) (c : ChanS) (p : Nat) (l : LogS) (f : ChanS → ChanS) (s : State) :
    (s.chanJudged ch c p l).setChan ch f = s.chanJudged ch (f c) p l := by
  cases ch <;> rfl

theorem State.setChan_judged (ch : Ch) (f : ChanS → ChanS) (s : State) :
    s.setChan ch f = s.chanJudged ch (f (s.chan ch)) s.safe.pct s.log := by
  cases ch <;> rfl

theorem State.chanJudged_reports {ch : Ch} {c : ChanS} {s : State} (h : c.alive = (s.chan ch).alive) (p : Nat) (l : LogS) (d : Ch) :
    (s.chanJudged ch c p l).reports d = s.reports d := by
  have hruns : (s.chanJudged ch c p l).runs .a = s.runs .a := by
    cases ch with
    | a =>
      have halive : ((s.chanJudged .a c p l).chan .a).alive = (s.chan .a).alive := h
      rw [State.runs, State.runs, halive]
      rfl
    | b => rfl
  rw [State.reports, hruns, ← State.reports]

/-- Channel B reads its inputs as before, where A's judgement leaves the tests (R317, R337). -/
theorem State.chanJudged_inputOf {c : ChanS} {s : State} (h : c.tstBad = s.cha.tstBad) (p : Nat) (l : LogS) (n : Nat) :
    (s.chanJudged .a c p l).inputOf .b n = s.inputOf .b n := by
  have hbad : (s.chanJudged .a c p l).cha.tstBad = s.cha.tstBad := h
  rw [State.inputOf, State.inputOf, State.inputBad, State.inputBad, hbad]
  rfl

/-! Failure to close (R307, R313) -/

/-- The checks of R307 in a channel. -/
def State.ftcCheck (ch : Ch) (s : State) : State :=
  if s.preCheckDue ch then s.preCheck ch else if s.posCheckDue ch then s.posCheck ch else s

/-- The channel after its PRE check. -/
def State.preChecked (ch : Ch) (s : State) : ChanS :=
  if s.share ch 2 900 then { s.chan ch with seq := { (s.chan ch).seq with step := 3 } }
  else { s.chan ch with ftc := true, ftcOut := s.outOfRole 2, seq := (s.chan ch).seq.fails 4 }

/-- The channel after its POS check. -/
def State.posChecked (ch : Ch) (s : State) : ChanS :=
  { s.chan ch with
    ftc := (s.chan ch).ftc || !s.share ch 1 (s.par .PC_PCT)
    ftcOut := if !s.share ch 1 (s.par .PC_PCT) then s.outOfRole 3 else (s.chan ch).ftcOut
    seq := { (s.chan ch).seq with step := 0 } }

/-- The channel after the checks of R307. -/
def State.ftcChecked (ch : Ch) (s : State) : ChanS :=
  if s.preCheckDue ch then s.preChecked ch else if s.posCheckDue ch then s.posChecked ch else s.chan ch

theorem State.ftcChecks_eq (s : State) : s.ftcChecks = s.onBoth State.ftcCheck := by
  unfold State.ftcChecks State.onBoth State.ftcCheck
  rfl

theorem State.preCheck_judged (ch : Ch) (s : State) : ∃ p l, s.preCheck ch = s.chanJudged ch (s.preChecked ch) p l := by
  unfold State.preCheck State.preChecked
  split
  · exact ⟨_, _, State.setChan_judged ..⟩
  · obtain ⟨l, hattempt⟩ := s.attempt_judged ch
    rw [hattempt, State.chanJudged_setChan]
    exact ⟨_, l, rfl⟩

theorem State.posCheck_judged (ch : Ch) (s : State) : ∃ p l, s.posCheck ch = s.chanJudged ch (s.posChecked ch) p l := by
  unfold State.posCheck
  exact ⟨_, _, State.setChan_judged ch _ s⟩

theorem judgement_ftcCheck : Judgement State.ftcCheck State.ftcChecked where
  judges ch s := by
    unfold State.ftcCheck State.ftcChecked
    split
    · exact s.preCheck_judged ch
    · split
      · exact s.posCheck_judged ch
      · exact ⟨_, _, s.chanJudged_same ch⟩
  alone _ _ _ _ _ := rfl
  keeps ch s := by
    unfold State.ftcChecked State.preChecked
    repeat' split
    all_goals exact ⟨rfl, rfl⟩

/-! The timeout of the pre-charge (R309) -/

/-- The timeout in a channel. -/
def State.pcTimeoutStep (ch : Ch) (s : State) : State := if s.pcTimeoutDue ch then s.pcTimeout ch else s

/-- The channel after its timeout. -/
def State.timedOutChan (ch : Ch) (s : State) : ChanS :=
  if (s.chan ch).seq.retry < s.nat .PC_RETRY then
    { s.chan ch with seq := { (s.chan ch).seq with timedOut := true, retry := (s.chan ch).seq.retry + 1 } }
  else { s.chan ch with timeout := true, seq := (s.chan ch).seq.fails 6 }

/-- The channel after the judgement of the timeout. -/
def State.pcJudged (ch : Ch) (s : State) : ChanS := if s.pcTimeoutDue ch then s.timedOutChan ch else s.chan ch

theorem State.pcTimeouts_eq (s : State) : s.pcTimeouts = s.onBoth State.pcTimeoutStep := by
  unfold State.pcTimeouts State.onBoth State.pcTimeoutStep
  rfl

theorem State.pcTimeout_judged (ch : Ch) (s : State) : ∃ l, s.pcTimeout ch =
    s.chanJudged ch (s.timedOutChan ch) (if s.reports ch then (s.chan ch).seq.e else s.safe.pct) l := by
  obtain ⟨l, hattempt⟩ := s.attempt_judged ch
  refine ⟨l, ?_⟩
  rw [State.pcTimeout, hattempt, State.chanJudged_setChan]
  rfl

theorem judgement_pcTimeout : Judgement State.pcTimeoutStep State.pcJudged where
  judges ch s := by
    unfold State.pcTimeoutStep State.pcJudged
    split
    · obtain ⟨l, h⟩ := s.pcTimeout_judged ch
      exact ⟨_, l, h⟩
    · exact ⟨_, _, s.chanJudged_same ch⟩
  alone _ _ _ _ _ := rfl
  keeps ch s := by
    unfold State.pcJudged State.timedOutChan
    repeat' split
    all_goals exact ⟨rfl, rfl⟩

theorem State.pcTimeoutStep_pct (ch : Ch) (s : State) : (s.pcTimeoutStep ch).safe.pct =
    if s.pcTimeoutDue ch ∧ s.reports ch then (s.chan ch).seq.e else s.safe.pct := by
  unfold State.pcTimeoutStep
  split
  · next hdue =>
    obtain ⟨l, h⟩ := s.pcTimeout_judged ch
    rw [h]
    simp only [hdue, true_and]
    rfl
  · next hdue => rw [if_neg fun h => hdue h.1]

/-- PROT_PCT is that of the channel that reports (R318). -/
theorem State.pcTimeouts_pct {ch : Ch} {s : State} (hrep : s.reports ch = true) (hdue : s.pcTimeoutDue ch = true) :
    s.pcTimeouts.safe.pct = (s.chan ch).seq.e := by
  obtain ⟨p, l, ha⟩ := judgement_pcTimeout.judges .a s
  have hkeeps (d : Ch) : (s.pcTimeoutStep .a).reports d = s.reports d := by
    rw [ha, State.chanJudged_reports (judgement_pcTimeout.keeps .a s).2]
  have hsame : (s.pcTimeoutStep .a).chan .b = s.chan .b ∧ (s.pcTimeoutStep .a).pcTimeoutDue .b = s.pcTimeoutDue .b := by
    rw [ha]
    exact ⟨rfl, rfl⟩
  obtain ⟨hchan, hdueB⟩ := hsame
  rw [State.pcTimeouts_eq, State.onBoth, State.pcTimeoutStep_pct, hkeeps, hchan, hdueB]
  cases ch with
  | a =>
    have hother : s.reports .b = false := State.reports_other hrep
    rw [if_neg (by simp [hother]), State.pcTimeoutStep_pct, if_pos ⟨hdue, hrep⟩]
  | b => rw [if_pos ⟨hdue, hrep⟩]

/-! The weld check (R312) -/

/-- The weld timeout in a channel. -/
def State.weldStep (ch : Ch) (s : State) : State := if s.weldDue ch then s.weldTimeout ch else s

theorem State.weldTimeouts_eq (s : State) : s.weldTimeouts = s.onBoth State.weldStep := by
  unfold State.weldTimeouts State.onBoth State.weldStep
  rfl

/-- The channel after the judgement of the weld check. -/
def State.weldJudged (ch : Ch) (s : State) : ChanS :=
  if s.weldDue ch then { s.chan ch with weld := true, weldOut := 0, seq := { (s.chan ch).seq with weldDone := true } } else s.chan ch

theorem judgement_weldTimeout : Judgement State.weldStep State.weldJudged where
  judges ch s := by
    unfold State.weldStep State.weldJudged
    split
    · exact ⟨_, _, State.setChan_judged ..⟩
    · exact ⟨_, _, s.chanJudged_same ch⟩
  alone _ _ _ _ _ := rfl
  keeps ch s := by
    unfold State.weldJudged
    split <;> exact ⟨rfl, rfl⟩

theorem State.weldTimeouts_channels (s : State) : s.weldTimeouts = { s with cha := s.weldJudged .a, chb := s.weldJudged .b } := by
  rw [State.weldTimeouts_eq]
  refine judgement_weldTimeout.both_silent (fun ch t => ?_) s
  unfold State.weldStep
  split <;> exact ⟨rfl, rfl⟩

/-! Unrequested opening (R314) -/

/-- The judgement of R314 in a channel. -/
def State.unreqJudge (ch : Ch) (s : State) : State :=
  if s.unreqDue ch then s.setChan ch fun c => { c with unreq := true } else s

/-- The channel after it. -/
def State.unreqJudged (ch : Ch) (s : State) : ChanS := if s.unreqDue ch then { s.chan ch with unreq := true } else s.chan ch

theorem State.unrequested_eq (s : State) : s.unrequested = s.onBoth State.unreqJudge := by
  unfold State.unrequested State.onBoth State.unreqJudge
  rfl

theorem judgement_unrequested : Judgement State.unreqJudge State.unreqJudged where
  judges ch s := by
    unfold State.unreqJudge State.unreqJudged
    split
    · exact ⟨_, _, State.setChan_judged ..⟩
    · exact ⟨_, _, s.chanJudged_same ch⟩
  alone c p l s h := by
    have hclosed (n : Nat) : (s.chanJudged .a c p l).mirrorClosed .b n = s.mirrorClosed .b n := by
      simp only [State.mirrorClosed, State.chanJudged_inputOf h]
      rfl
    have hdue : (s.chanJudged .a c p l).unreqDue .b = s.unreqDue .b := by
      simp only [State.unreqDue, hclosed]
      rfl
    rw [State.unreqJudged, hdue]
    rfl
  keeps ch s := by
    unfold State.unreqJudged
    split <;> exact ⟨rfl, rfl⟩

theorem State.unrequested_channels (s : State) :
    s.unrequested = { s with cha := s.unreqJudged .a, chb := s.unreqJudged .b } := by
  rw [State.unrequested_eq]
  refine judgement_unrequested.both_silent (fun ch t => ?_) s
  unfold State.unreqJudge
  split <;> exact ⟨rfl, rfl⟩

/-! Mirrors (R313) -/

/-- What the mirrors of output n make of a channel: the conditions hold from then on, and a failure to close ends a pre-charge. -/
def State.mirrorsRead (n : Nat) (ch : Ch) (s : State) : ChanS :=
  { s.chan ch with
    mirFtc := (s.chan ch).mirFtc || s.mirrorFtc ch n, mirWeld := (s.chan ch).mirWeld || s.mirrorWeld ch n
    ftcOut := if s.mirrorFtc ch n then n else (s.chan ch).ftcOut
    weldOut := if s.mirrorWeld ch n then n else (s.chan ch).weldOut
    seq := if s.mirrorFtc ch n && (s.chan ch).seq.state == .precharging && !(s.chan ch).seq.fail then (s.chan ch).seq.fails 4
      else (s.chan ch).seq }

/-- The channel after the check of output n's mirrors. -/
def State.mirrored (n : Nat) (ch : Ch) (s : State) : ChanS :=
  if !s.evals ch || !s.drives then s.chan ch else s.mirrorsRead n ch

theorem judgement_mirrorOut (n : Nat) : Judgement (State.mirrorOut n) (State.mirrored n) where
  judges ch s := by
    unfold State.mirrorOut State.mirrored State.mirrorsRead
    split
    · exact ⟨_, _, s.chanJudged_same ch⟩
    · dsimp only
      split
      · obtain ⟨p, l, hend⟩ := s.attemptEnd_judged ch
        rw [hend, State.chanJudged_setChan]
        exact ⟨p, l, rfl⟩
      · exact ⟨_, _, State.setChan_judged ..⟩
  alone c p l s h := by
    have hftc : (s.chanJudged .a c p l).mirrorFtc .b n = s.mirrorFtc .b n := by
      simp only [State.mirrorFtc, State.chanJudged_inputOf h]
      rfl
    have hweld : (s.chanJudged .a c p l).mirrorWeld .b n = s.mirrorWeld .b n := by
      simp only [State.mirrorWeld, State.chanJudged_inputOf h]
      rfl
    rw [State.mirrored, State.mirrored, State.mirrorsRead, hftc, hweld]
    rfl
  keeps ch s := by
    unfold State.mirrored
    split <;> exact ⟨rfl, rfl⟩

/-! The commands at their stages (R31) -/

/-- What a stage that judges both channels leaves: the channels as g has them, the instant and the count of stages. -/
structure JudgedTo (g : Ch → State → ChanS) (k : Nat) (s t : State) : Prop where
  chan (ch : Ch) : t.chan ch = g ch s
  beat : t.beat = { s.beat with offNs := max s.beat.offNs 850000, eStage := k }
  flt : t.flt = s.flt
  meas : t.meas = s.meas
  cfg : t.cfg = s.cfg

section
variable {f : Ch → State → State} {g : Ch → State → ChanS} {k : Nat} {s : State}

theorem Judgement.stage (h : Judgement f g) (hat : s.evalAt k) (hk : 19 ≤ k)
    (hstage : (s.at 850000).stageHigh k = (s.at 850000).onBoth f) (hg : ∀ ch, g ch (s.at 850000) = g ch s) :
    JudgedTo g (k + 1) s (s.evalThrough k) := by
  obtain ⟨p, l, hboth⟩ := h.both (s.at 850000)
  rw [State.evalThrough_high hat hk, hstage, hboth, hg, hg]
  exact ⟨fun ch => by cases ch <;> rfl, rfl, rfl, rfl, rfl⟩

theorem State.evalThrough_ftc (hat : s.evalAt 27) (hdue : s.ftcDue = true) :
    JudgedTo State.ftcChecked 28 s (s.evalThrough 27) := by
  have hstage : (s.at 850000).stageHigh 27 = (s.at 850000).ftcChecks := if_pos hdue
  exact judgement_ftcCheck.stage hat (by decide) (hstage.trans (State.ftcChecks_eq _)) fun _ => rfl

theorem State.evalThrough_pcTimeout (hat : s.evalAt 29) : JudgedTo State.pcJudged 30 s (s.evalThrough 29) :=
  judgement_pcTimeout.stage hat (by decide) (State.pcTimeouts_eq _) fun _ => rfl

/-- PROT_PCT shows the time of the attempt that times out (R309, R318). -/
theorem State.evalThrough_pct (hat : s.evalAt 29) {ch : Ch} (hrep : s.reports ch = true) (hdue : s.pcTimeoutDue ch = true) :
    (s.evalThrough 29).safe.pct = (s.chan ch).seq.e := by
  rw [State.evalThrough_high hat (by decide)]
  exact State.pcTimeouts_pct (s := s.at 850000) hrep hdue

/-- The mirrors of one output are judged while their stage is the next one (R313; log entry 8). -/
theorem exec_mirrorCheck_at (hat : s.evalAt 32) (n : Fin 8) :
    ∃ t, exec (.mirrorCheck n) s = .next t ∧ JudgedTo (State.mirrored (n.val + 1)) s.beat.eStage s t := by
  obtain ⟨p, l, hboth⟩ := (judgement_mirrorOut (n.val + 1)).both (s.at 850000)
  refine ⟨_, congrArg Host.Outcome.next ((State.evalItem_due hat rfl _).trans hboth), fun ch => ?_, rfl, rfl, rfl, rfl⟩
  cases ch <;> rfl

/-- The weld check rewrites the channels alone (R312). -/
theorem exec_weldTimeout_at (hat : s.evalAt 31) : ∃ t, exec .weldTimeout s = .next t ∧ (∀ ch, t.chan ch = s.weldJudged ch) ∧
    t = { s with beat := { s.beat with offNs := max s.beat.offNs 850000, eStage := 32 }, cha := t.cha, chb := t.chb } := by
  have hexec : exec .weldTimeout s = .next ((s.at 850000).weldTimeouts.setBeat fun b => { b with eStage := 32 }) :=
    congrArg Host.Outcome.next (State.evalThrough_high hat (by decide))
  rw [State.weldTimeouts_channels] at hexec
  exact ⟨_, hexec, fun ch => by cases ch <;> rfl, rfl⟩

/-- An unrequested opening rewrites the channels, and PROT_LATCH follows (R314, R318). -/
theorem exec_unrequestedOpening_at (hat : s.evalAt 33) : ∃ t, exec .unrequestedOpening s = .next t ∧
    (∀ ch, t.chan ch = s.unreqJudged ch) ∧
    t = { s with
      beat := { s.beat with offNs := max s.beat.offNs 850000, eStage := 34 }, cha := t.cha, chb := t.chb
      safe := { s.safe with latch := t.safe.latch } } := by
  have hexec : exec .unrequestedOpening s =
      .next ((s.at 850000).unrequested.latchCond.setBeat fun b => { b with eStage := 34 }) :=
    congrArg Host.Outcome.next (State.evalThrough_high hat (by decide))
  rw [State.unrequested_channels] at hexec
  exact ⟨_, hexec, fun ch => by cases ch <;> rfl, rfl⟩

variable {ch : Ch}

/-- A channel that does not evaluate is not judged (R96). -/
theorem State.ftcChecked_idle (h : s.evals ch = false) : s.ftcChecked ch = s.chan ch := by
  simp [State.ftcChecked, State.preCheckDue, State.posCheckDue, h]

theorem State.pcJudged_idle (h : s.evals ch = false) : s.pcJudged ch = s.chan ch := by
  simp [State.pcJudged, State.pcTimeoutDue, h]

theorem State.weldJudged_idle (h : s.evals ch = false) : s.weldJudged ch = s.chan ch := by
  simp [State.weldJudged, State.weldDue, h]

/-- A closed NEG or POS whose coil current has been low in 3 beats has dropped out (R314). -/
theorem State.unreqDue_of_low {n : Fin 8} {x : OutS} (hev : s.evals ch = true)
    (hst : (s.chan ch).seq.state = .closed ∨ (s.chan ch).seq.state = .rundown) (hunreq : (s.chan ch).unreq = false)
    (hx : s.safe.out[n.val]? = some x) (hrole : s.outRole (n.val + 1) = 1 ∨ s.outRole (n.val + 1) = 3)
    (happ : (s.chan ch).seq.app[n.val]? = some true) (hlow : 3 ≤ x.lowOn ch) : s.unreqDue ch = true := by
  have hmem : n.val + 1 ∈ outNums := by
    clear hx hrole happ
    revert n
    decide
  have hmain : s.mainClosed ch (n.val + 1) = true := by simp [State.mainClosed, hrole, happ]
  have hstate : ((s.chan ch).seq.state == .closed || (s.chan ch).seq.state == .rundown) = true := by simpa using hst
  have hany : (outNums.any fun n => s.mainClosed ch n &&
      (decide (s.nat .T_MIRROR ≤ (s.safe.out[n - 1]?.getD {}).mirrorOn ch + 1) && s.mirrorClosed ch n ||
        decide (3 ≤ (s.safe.out[n - 1]?.getD {}).lowOn ch) || decide (s.pwr.vk < 16000))) = true :=
    List.any_eq_true.2 ⟨n.val + 1, hmem, by simp [hmain, hx, hlow]⟩
  simp only [State.unreqDue, hev, hstate, hunreq, hany]
  rfl

/-- A channel that evaluates judges its mirrors while the unit drives contactors (R313). -/
theorem State.mirrored_judging (hev : s.evals ch = true) (hdr : s.drives = true) (n : Nat) :
    s.mirrored n ch = s.mirrorsRead n ch := by
  rw [State.mirrored, hev, hdr]
  rfl

theorem State.mirrored_idle (h : s.evals ch = false) (n : Nat) : s.mirrored n ch = s.chan ch := by
  simp [State.mirrored, h]

end

end Sys2Proof.Machine

namespace Sys2Proof.Proofs
open Sys2Proof.Machine

/-- Settles O27: each judgement is made at its stage on both channels (`Judgement.stage`, `exec_mirrorCheck_at`), and what it makes of
a channel is `State.ftcChecked`, `State.pcJudged`, `State.weldJudged`, `State.unreqJudged` or `State.mirrored`. -/
theorem sequencerJudgements : Obligations.SequencerJudgements := by
  refine ⟨fun s ch hat hev hst hstep he hfail => ⟨s.evalThrough 27, rfl, ?pre⟩,
    fun s ch hat hev hst hm => ⟨s.evalThrough 27, rfl, ?pos⟩,
    fun s ch hat hev hst hstep hfail htmo hpos hcrit he => ⟨s.evalThrough 29, rfl, ?timeout⟩,
    fun s ch w hat hev hw hweld hdone => ?weld, fun s ch n x hat hev hst hunreq hx hrole happ hlow => ?unrequested,
    fun s ch n hat hev hdr hst hftc => ?mirror, fun s ch n hat hev hdr hst hfail hftc => ?mirrorPre,
    fun s ch n hat hev hdr hweld => ?mirrorWeld⟩
  case pre =>
    have hdue : s.preCheckDue ch = true := by simp [State.preCheckDue, hev, hst, hstep, he, hfail]
    have hany : s.ftcDue = true := by cases ch <;> simp [State.ftcDue, hdue]
    have ht := State.evalThrough_ftc hat hany
    have hchan : (s.evalThrough 27).chan ch = s.preChecked ch := by rw [ht.chan, State.ftcChecked, if_pos hdue]
    refine ⟨congrArg BeatS.eStage ht.beat, fun hshare => ?_, fun hshare => ?_, fun hother => ?_, ht.flt, ht.meas, ht.cfg⟩
    · rw [hchan, State.preChecked, if_pos hshare]
    · rw [hchan, State.preChecked, hshare]
      exact ⟨rfl, rfl, rfl, rfl⟩
    · rw [ht.chan, State.ftcChecked_idle hother]
  case pos =>
    have hpre : s.preCheckDue ch = false := by simp [State.preCheckDue, hst]
    have hdue : s.posCheckDue ch = true := by simp [State.posCheckDue, hev, hst, hm]
    have hany : s.ftcDue = true := by cases ch <;> simp [State.ftcDue, hdue]
    have ht := State.evalThrough_ftc hat hany
    have hchan : (s.evalThrough 27).chan ch = s.posChecked ch := by rw [ht.chan, State.ftcChecked, hpre, if_pos hdue]; rfl
    rw [hchan, State.posChecked]
    refine ⟨congrArg BeatS.eStage ht.beat, rfl, rfl, fun hshare => ?_, ht.flt, ht.meas, ht.cfg⟩
    rw [hshare]
    rfl
  case timeout =>
    have hdue : s.pcTimeoutDue ch = true := by simp [State.pcTimeoutDue, hev, hst, hstep, hfail, htmo, hpos, hcrit, he]
    have ht := State.evalThrough_pcTimeout hat
    have hchan : (s.evalThrough 29).chan ch = s.timedOutChan ch := by rw [ht.chan, State.pcJudged, if_pos hdue]
    refine ⟨congrArg BeatS.eStage ht.beat, fun hretry => ?_, fun hretry => ?_, fun hrep => State.evalThrough_pct hat hrep hdue,
      fun hother => ?_, ht.flt, ht.meas⟩
    · rw [hchan, State.timedOutChan, if_pos hretry]
    · rw [hchan, State.timedOutChan, if_neg (by omega)]
      exact ⟨rfl, rfl, rfl⟩
    · rw [ht.chan, State.pcJudged_idle hother]
  case weld =>
    have hdue : s.weldDue ch = true := by simp [State.weldDue, hev, hw, hweld, hdone]
    obtain ⟨t, hexec, hchan, ht⟩ := exec_weldTimeout_at hat
    refine ⟨t, hexec, ?_, fun hother => ?_, ht⟩
    · rw [hchan, State.weldJudged, if_pos hdue]
    · rw [hchan, State.weldJudged_idle hother]
  case unrequested =>
    have hdue := State.unreqDue_of_low hev hst hunreq hx hrole happ hlow
    obtain ⟨t, hexec, hchan, ht⟩ := exec_unrequestedOpening_at hat
    refine ⟨t, hexec, ?_, ?_, ht⟩
    · rw [hchan, State.unreqJudged, if_pos hdue]
    · rw [hchan, State.unreqJudged, if_pos hdue]
  case mirror =>
    obtain ⟨t, hexec, ht⟩ := exec_mirrorCheck_at hat n
    refine ⟨t, hexec, ?_⟩
    have hchan := ht.chan ch
    rw [State.mirrored_judging hev hdr, State.mirrorsRead, hftc] at hchan
    rw [hchan]
    refine ⟨Bool.or_true _, rfl, ?_, fun hother => ?_, ht.flt, ht.beat⟩
    · simp [hst]
    · rw [ht.chan, State.mirrored_idle hother]
  case mirrorPre =>
    obtain ⟨t, hexec, ht⟩ := exec_mirrorCheck_at hat n
    refine ⟨t, hexec, ?_⟩
    have hchan := ht.chan ch
    rw [State.mirrored_judging hev hdr, State.mirrorsRead, hftc] at hchan
    rw [hchan]
    simp only [hst, hfail]
    exact ⟨Bool.or_true _, rfl, rfl, rfl, ht.flt, ht.beat⟩
  case mirrorWeld =>
    obtain ⟨t, hexec, ht⟩ := exec_mirrorCheck_at hat n
    refine ⟨t, hexec, ?_⟩
    have hchan := ht.chan ch
    rw [State.mirrored_judging hev hdr, State.mirrorsRead, hweld] at hchan
    rw [hchan]
    exact ⟨Bool.or_true _, rfl, ht.flt, ht.beat⟩

end Sys2Proof.Proofs
end

section
/-! PROOFS. Test pulses of the outputs and tests of the inputs (R334-R337). -/

namespace Sys2Proof.Machine

/-! The two channels -/

theorem Ch.ne_other (c : Ch) : c ≠ c.other := by
  cases c <;> decide

theorem Ch.eq_other_of_ne {c e : Ch} (h : c ≠ e) : e = c.other := by
  cases c <;> cases e <;> simp_all [Ch.other]

/-! What the test of a gap may change (R337) -/

/-- What the tests of a gap may change of a state: the counts and marks of the contacts, and what a raise writes. -/
def State.GapFrame (s t : State) : Prop := t = { s with
  cha := { s.cha with tstFail := t.cha.tstFail, tstBad := t.cha.tstBad }
  chb := { s.chb with tstFail := t.chb.tstFail, tstBad := t.chb.tstBad }
  safe := { s.safe with gapDone := t.safe.gapDone }
  flt := t.flt, log := t.log, cfg := t.cfg, host := t.host, sys := t.sys }

theorem State.GapFrame.refl (s : State) : s.GapFrame s := rfl

theorem State.GapFrame.trans {s t u : State} (h : s.GapFrame t) (g : t.GapFrame u) : s.GapFrame u := by
  unfold State.GapFrame at g
  rw [h] at g
  exact g

theorem State.GapFrame.raise (n : Nat) (d : Word) (s : State) : s.GapFrame (s.raise n d) := by
  unfold State.GapFrame
  simp only [State.raise_cha, State.raise_chb, State.raise_safe]
  simp only [← State.raise_beat n d s, ← State.raise_mem n d s, ← State.raise_meas n d s, ← State.raise_integ n d s,
    ← State.raise_bal n d s, ← State.raise_imp n d s, ← State.raise_chg n d s, ← State.raise_lim n d s, ← State.raise_cha n d s,
    ← State.raise_chb n d s, ← State.raise_safe n d s, ← State.raise_core n d s, ← State.raise_fltShown n d s,
    ← State.raise_thm n d s, ← State.raise_ring n d s, ← State.raise_can1 n d s, ← State.raise_can2 n d s,
    ← State.raise_pwr n d s, ← State.raise_xtalA n d s, ← State.raise_xtalB n d s, ← State.raise_pre n d s,
    ← State.raise_pending n d s]

theorem State.GapFrame.raw {s t : State} (h : s.GapFrame t) (c : Ch) : (t.chan c).raw = (s.chan c).raw := by
  rw [h]
  cases c <;> rfl

/-- What holds from s to t when tests of a gap have run between them: FS50, once raised, stays latched. -/
structure State.GapMoved (s t : State) : Prop where
  frame : s.GapFrame t
  quiet : Quiet s t
  beyond : ∀ c k, 24 ≤ k → (t.chan c).tstFail[k]? = (s.chan c).tstFail[k]?
  sources : t.flt.src.length = s.flt.src.length
  latched : s.srcWhole → (s.fs 50).latch = true → (t.fs 50).latch = true

theorem State.GapMoved.refl (s : State) : s.GapMoved s := ⟨.refl s, .refl s, fun _ _ _ => rfl, rfl, fun _ h => h⟩

theorem State.GapMoved.trans {s t u : State} (h : s.GapMoved t) (g : t.GapMoved u) : s.GapMoved u :=
  ⟨h.frame.trans g.frame, h.quiet.trans g.quiet, fun c k hk => (g.beyond c k hk).trans (h.beyond c k hk),
    g.sources.trans h.sources, fun hs hl => g.latched (h.sources.trans hs) (h.latched hs hl)⟩

theorem State.GapMoved.inFunc {s t : State} (h : s.GapMoved t) (i : Nat) : t.inFunc i = s.inFunc i :=
  State.nat_of_img h.quiet.img _ _

theorem State.GapMoved.raise (s : State) : s.GapMoved (s.raise 50 0) :=
  ⟨.raise 50 0 s, .raise 50 0 s, fun c k _ => by rw [State.raise_chan], State.raise_srcLength .., fun hs _ =>
    (State.raise_fs (by rw [hs]; decide) 0).1⟩

/-! One contact (R337) -/

/-- What a channel holds of a contact: its failures in a row in the gaps of its own source, of the other source and of both, and
whether it has failed for good. A list that is too short holds no such entry. -/
structure Contact where
  own : Option Nat
  cross : Option Nat
  both : Option Nat
  bad : Option Bool

/-- Contact i of a channel. -/
def ChanS.contact (x : ChanS) (i : Nat) : Contact := ⟨x.tstFail[i]?, x.tstFail[8 + i]?, x.tstFail[16 + i]?, x.tstBad[i]?⟩

/-- Two failures in a row: of one of the gaps, or over both (log entry 54). -/
def Contact.failing (x : Contact) : Bool := [x.own, x.cross, x.both].any fun n => decide (2 ≤ n.getD 0)

/-- A test in the gap of the contact's own source, or in that of the other. -/
def Contact.counted (own fail : Bool) (x : Contact) : Contact :=
  if own then { x with own := x.own.map (failCount fail), both := x.both.map (failCount fail) }
  else { x with cross := x.cross.map (failCount fail), both := x.both.map (failCount fail) }

/-- A contact that fails is marked. -/
def Contact.marked (x : Contact) : Contact := if x.failing then { x with bad := x.bad.map fun _ => true } else x

/-- The counts of a contact after a gap in which it reads read; before says whether it read closed before. In its own source's gap
it must read open; in the other's, one that was closed must read closed. -/
def Contact.gapCounted (own before read : Bool) (x : Contact) : Contact :=
  if own then x.counted true read else if before then x.counted false (!read) else x

theorem Contact.gapCounted_bad (own before read : Bool) (x : Contact) : (x.gapCounted own before read).bad = x.bad := by
  cases own <;> cases before <;> rfl

@[simp] theorem Contact.marked_failing (x : Contact) : x.marked.failing = x.failing := by
  unfold Contact.marked
  split <;> rfl

/-- The mark stands afterwards when it stood before or when a count has reached two. -/
theorem Contact.marked_bad {x : Contact} (h : x.bad ≠ none) : x.marked.bad = some true ↔ x.bad = some true ∨ x.failing = true := by
  obtain ⟨b, hb⟩ := Option.ne_none_iff_exists'.1 h
  unfold Contact.marked
  split
  · next hf => simp [hb, hf]
  · next hf => simp [hf]

theorem Contact.marked_counts (x : Contact) : x.marked.own = x.own ∧ x.marked.cross = x.cross ∧ x.marked.both = x.both := by
  unfold Contact.marked
  split <;> exact ⟨rfl, rfl, rfl⟩

/-- The counts of a channel's contact that may just have been marked. -/
theorem ChanS.fails_of_marked {x : ChanS} {i : Nat} {y : Contact} (h : x.contact i = y.marked) :
    x.tstFail[i]? = y.own ∧ x.tstFail[8 + i]? = y.cross ∧ x.tstFail[16 + i]? = y.both := by
  have hcounts := y.marked_counts
  rw [← h] at hcounts
  exact hcounts

/-- Equal contacts have equal counts. -/
theorem ChanS.fails_of_contact {x y : ChanS} {i k : Nat} (h : x.contact i = y.contact i) (hk : k ∈ [i, 8 + i, 16 + i]) :
    x.tstFail[k]? = y.tstFail[k]? := by
  obtain rfl | rfl | rfl : k = i ∨ k = 8 + i ∨ k = 16 + i := by simpa using hk
  · exact congrArg Contact.own h
  · exact congrArg Contact.cross h
  · exact congrArg Contact.both h

theorem ChanS.contact_failing (x : ChanS) (i : Nat) :
    (x.contact i).failing = true ↔ ∃ k ∈ [i, 8 + i, 16 + i], ∃ n, x.tstFail[k]? = some n ∧ 2 ≤ n := by
  have hcount (o : Option Nat) : 2 ≤ o.getD 0 ↔ ∃ n, o = some n ∧ 2 ≤ n := by cases o <;> simp
  simp [Contact.failing, ChanS.contact, hcount]

theorem ChanS.testBad_eq (x : ChanS) (i : Nat) : x.testBad i = (x.contact i).failing := rfl

/-- A test counts in the gap's own count of the contact and in that of both gaps, and nowhere else. -/
theorem ChanS.tested_fails (x : ChanS) (i : Nat) (own fail : Bool) (k : Nat) : (x.tested i own fail).tstFail[k]? =
    if k = (if own then i else 8 + i) ∨ k = 16 + i then x.tstFail[k]?.map (failCount fail) else x.tstFail[k]? := by
  simp only [ChanS.tested, List.getElem?_modify]
  grind

theorem ChanS.tested_contact (x : ChanS) (i : Nat) (own fail : Bool) :
    (x.tested i own fail).contact i = (x.contact i).counted own fail := by
  cases own <;> simp [ChanS.contact, ChanS.tested, Contact.counted]

theorem ChanS.tested_contact_ne {i j : Nat} (hi : i < 8) (hj : j < 8) (h : j ≠ i) (x : ChanS) (own fail : Bool) :
    (x.tested i own fail).contact j = x.contact j := by
  have hkeep {k : Nat} (hk : k % 8 = j) : (x.tested i own fail).tstFail[k]? = x.tstFail[k]? := by
    rw [ChanS.tested_fails, if_neg (by split <;> omega)]
  simp only [ChanS.contact, hkeep (k := j) (by omega), hkeep (k := 8 + j) (by omega), hkeep (k := 16 + j) (by omega)]
  rfl

theorem ChanS.tested_beyond {i k : Nat} (hi : i < 8) (hk : 24 ≤ k) (x : ChanS) (own fail : Bool) :
    (x.tested i own fail).tstFail[k]? = x.tstFail[k]? := by
  rw [ChanS.tested_fails, if_neg (by split <;> omega)]

/-- The counts of a channel after a gap (`Contact.gapCounted`). -/
def ChanS.gapCounted (i : Nat) (own before read : Bool) (x : ChanS) : ChanS :=
  if own then x.tested i true read else if before then x.tested i false (!read) else x

theorem ChanS.gapCounted_cases (i : Nat) (own before read : Bool) (x : ChanS) :
    x.gapCounted i own before read = x ∨ ∃ o fail, x.gapCounted i own before read = x.tested i o fail := by
  cases own
  · cases before
    · exact .inl rfl
    · exact .inr ⟨_, _, rfl⟩
  · exact .inr ⟨_, _, rfl⟩

theorem ChanS.gapCounted_contact (i : Nat) (own before read : Bool) (x : ChanS) :
    (x.gapCounted i own before read).contact i = (x.contact i).gapCounted own before read := by
  cases own
  · cases before
    · rfl
    · exact x.tested_contact i false (!read)
  · exact x.tested_contact i true read

theorem ChanS.gapCounted_contact_ne {i j : Nat} (hi : i < 8) (hj : j < 8) (h : j ≠ i) (own before read : Bool) (x : ChanS) :
    (x.gapCounted i own before read).contact j = x.contact j := by
  obtain heq | ⟨o, fail, heq⟩ := x.gapCounted_cases i own before read <;> rw [heq]
  exact x.tested_contact_ne hi hj h o fail

/-! The test of one contact in a state -/

/-- The mark of contact i. -/
def ChanS.mark (i : Nat) (x : ChanS) : ChanS := { x with tstBad := x.tstBad.set i true }

/-- A contact that fails is marked, with FS50. -/
def State.contactMarked (c : Ch) (i : Nat) (s : State) : State :=
  if (s.chan c).testBad i && !((s.chan c).tstBad[i]?.getD false) then
    State.raise 50 0 (s.setChan c (ChanS.mark i))
  else s

/-- The counts of contact i of channel c after channel g's gap. -/
def State.contactCounted (g c : Ch) (read : Nat → Bool) (i : Nat) (s : State) : State :=
  s.setChan c (ChanS.gapCounted i (g == c) ((s.chan c).raw.toNat.testBit i) (read i))

theorem State.testContact_idle {c : Ch} {i : Nat} {s : State} (h : s.inFunc i = 0 ∨ s.runs c = false) (g : Ch) (read : Nat → Bool) :
    s.testContact g c read i = s := by
  rw [State.testContact, if_pos (by simpa using h)]

theorem State.testContact_live {c : Ch} {i : Nat} {s : State} (hf : s.inFunc i ≠ 0) (hr : s.runs c = true) (g : Ch)
    (read : Nat → Bool) : s.testContact g c read i = (s.contactCounted g c read i).contactMarked c i := by
  have hcount : s.contactCounted g c read i = if g = c then s.setChan c fun x => x.tested i true (read i)
      else if (s.chan c).raw.toNat.testBit i then s.setChan c fun x => x.tested i false (!read i) else s := by
    unfold State.contactCounted
    by_cases hg : g = c
    · rw [if_pos hg, hg, beq_self_eq_true]
      rfl
    · rw [if_neg hg, beq_false_of_ne hg]
      cases (s.chan c).raw.toNat.testBit i
      · cases c <;> rfl
      · rfl
  rw [State.testContact, if_neg (by simp [hf, hr]), hcount]
  rfl

theorem State.testContact_cases (g c : Ch) (read : Nat → Bool) (i : Nat) (s : State) : s.testContact g c read i = s ∨
    s.testContact g c read i = (s.contactCounted g c read i).contactMarked c i := by
  by_cases hidle : s.inFunc i = 0 ∨ s.runs c = false
  · exact .inl (State.testContact_idle hidle g read)
  · obtain ⟨hf, hr⟩ : s.inFunc i ≠ 0 ∧ s.runs c = true := by simpa using hidle
    exact .inr (State.testContact_live hf hr g read)

/-- Tests have run between s and t that leave contact i of channel c as it was. -/
structure State.KeepsContact (c : Ch) (i : Nat) (s t : State) : Prop where
  moved : s.GapMoved t
  same : (t.chan c).contact i = (s.chan c).contact i

theorem State.KeepsContact.refl (c : Ch) (i : Nat) (s : State) : State.KeepsContact c i s s := ⟨.refl s, rfl⟩

theorem State.KeepsContact.trans {c : Ch} {i : Nat} {s t u : State} (h : State.KeepsContact c i s t)
    (g : State.KeepsContact c i t u) : State.KeepsContact c i s u :=
  ⟨h.moved.trans g.moved, g.same.trans h.same⟩

/-- That the test of the gap has been made is noted; no contact moves. -/
theorem State.KeepsContact.gapDone (c : Ch) (i : Nat) (s : State) :
    State.KeepsContact c i s { s with safe := { s.safe with gapDone := true } } :=
  ⟨⟨rfl, .setSafe s _, fun e _ _ => by cases e <;> rfl, rfl, fun _ h => h⟩, by cases c <;> rfl⟩

theorem State.KeepsContact.runAll {c : Ch} {i : Nat} {f : Nat → State → State} {l : List Nat}
    (hf : ∀ j ∈ l, ∀ s, State.KeepsContact c i s (f j s)) (s : State) : State.KeepsContact c i s (runAll f l s) := by
  induction l generalizing s with
  | nil => exact .refl c i s
  | cons j l ih =>
    exact (hf j List.mem_cons_self s).trans (ih (fun k hk => hf k (List.mem_cons_of_mem j hk)) (f j s))

/-- A change of a channel that moves only its contacts. -/
theorem State.GapMoved.setChan (c : Ch) {f : ChanS → ChanS} (hf : ∀ x, f x = { x with tstFail := (f x).tstFail, tstBad := (f x).tstBad })
    (hb : ∀ x k, 24 ≤ k → (f x).tstFail[k]? = x.tstFail[k]?) (s : State) : s.GapMoved (s.setChan c f) := by
  refine ⟨?_, .setChan s c fun x => by rw [hf x], fun e k hk => ?_, rfl, fun _ h => h⟩
  · cases c
    · exact congrArg (fun x => { s with cha := x }) (hf s.cha)
    · exact congrArg (fun x => { s with chb := x }) (hf s.chb)
  · by_cases h : e = c
    · rw [h, State.setChan_chan, hb _ k hk]
    · rw [State.setChan_chan_ne h]

theorem State.contactCounted_moved {i : Nat} (hi : i < 8) (g c : Ch) (read : Nat → Bool) (s : State) :
    s.GapMoved (s.contactCounted g c read i) := by
  refine .setChan c (fun x => ?_) (fun x k hk => ?_) s <;>
    obtain heq | ⟨o, fail, heq⟩ := x.gapCounted_cases i (g == c) ((s.chan c).raw.toNat.testBit i) (read i) <;> rw [heq]
  · rfl
  · exact x.tested_beyond hi hk o fail

theorem State.contactCounted_contact (g c : Ch) (read : Nat → Bool) (i : Nat) (s : State) :
    ((s.contactCounted g c read i).chan c).contact i =
      ((s.chan c).contact i).gapCounted (g == c) ((s.chan c).raw.toNat.testBit i) (read i) := by
  rw [State.contactCounted, State.setChan_chan, ChanS.gapCounted_contact]

/-- A change of a channel leaves the contacts of the other, and those that it leaves of its own. -/
theorem State.setChan_contact {c e : Ch} {j : Nat} {f : ChanS → ChanS} (hf : e = c → ∀ x, (f x).contact j = x.contact j) (s : State) :
    ((s.setChan c f).chan e).contact j = (s.chan e).contact j := by
  by_cases he : e = c
  · rw [he, State.setChan_chan, hf he]
  · rw [State.setChan_chan_ne he]

theorem State.contactCounted_keeps {c e : Ch} {i j : Nat} (hi : i < 8) (hj : j < 8) (h : e = c → j ≠ i) (g : Ch)
    (read : Nat → Bool) (s : State) : ((s.contactCounted g c read i).chan e).contact j = (s.chan e).contact j :=
  State.setChan_contact (fun he => ChanS.gapCounted_contact_ne hi hj (h he) _ _ _) s

theorem State.contactMarked_moved (c : Ch) (i : Nat) (s : State) : s.GapMoved (s.contactMarked c i) := by
  unfold State.contactMarked
  split
  · refine .trans ?_ (.raise _)
    exact .setChan c (f := ChanS.mark i) (fun _ => rfl) (fun _ _ _ => rfl) s
  · exact .refl s

theorem State.contactMarked_contact (c : Ch) (i : Nat) (s : State) :
    ((s.contactMarked c i).chan c).contact i = ((s.chan c).contact i).marked := by
  unfold State.contactMarked Contact.marked
  rw [ChanS.testBad_eq]
  cases hf : ((s.chan c).contact i).failing
  · rfl
  · rw [Bool.true_and, if_pos rfl]
    split
    · rw [State.raise_chan, State.setChan_chan]
      simp only [ChanS.contact, ChanS.mark, List.getElem?_set_self']
      rfl
    · next h =>
      obtain ⟨b, hb, rfl⟩ : ∃ b, (s.chan c).tstBad[i]? = some b ∧ b = true := by
        cases hb : (s.chan c).tstBad[i]? <;> simp_all
      simp [ChanS.contact, hb]

theorem State.contactMarked_keeps {c e : Ch} {i j : Nat} (h : e = c → j ≠ i) (s : State) :
    ((s.contactMarked c i).chan e).contact j = (s.chan e).contact j := by
  unfold State.contactMarked
  split
  · rw [State.raise_chan, State.setChan_contact fun he x => ?_]
    rw [ChanS.contact, ChanS.mark, List.getElem?_set_ne (h he).symm]
    rfl
  · rfl

/-- A mark that is new comes with FS50. -/
theorem State.contactMarked_latch {c : Ch} {i : Nat} {s : State} (hs : s.srcWhole)
    (h : ((s.contactMarked c i).chan c).tstBad[i]? ≠ (s.chan c).tstBad[i]?) : ((s.contactMarked c i).fs 50).latch = true := by
  revert h
  unfold State.contactMarked
  split
  · exact fun _ => (State.raise_fs (by show 50 < s.flt.src.length; omega) 0).1
  · exact fun h => absurd rfl h

theorem State.testContact_moved {i : Nat} (hi : i < 8) (g c : Ch) (read : Nat → Bool) (s : State) :
    s.GapMoved (s.testContact g c read i) := by
  obtain h | h := s.testContact_cases g c read i <;> rw [h]
  · exact .refl s
  · exact (State.contactCounted_moved hi g c read s).trans (State.contactMarked_moved ..)

/-- The test of a contact leaves the others. -/
theorem State.testContact_keeps {c e : Ch} {i j : Nat} (hi : i < 8) (hj : j < 8) (h : e = c → j ≠ i) (g : Ch) (read : Nat → Bool)
    (s : State) : State.KeepsContact e j s (s.testContact g c read i) := by
  refine ⟨State.testContact_moved hi g c read s, ?_⟩
  obtain heq | heq := s.testContact_cases g c read i <;> rw [heq]
  rw [State.contactMarked_keeps h, State.contactCounted_keeps hi hj h]

/-- The contact after its test. -/
theorem State.testContact_contact {c : Ch} {i : Nat} {s : State} (hf : s.inFunc i ≠ 0) (hr : s.runs c = true) (g : Ch)
    (read : Nat → Bool) : ((s.testContact g c read i).chan c).contact i =
      (((s.chan c).contact i).gapCounted (g == c) ((s.chan c).raw.toNat.testBit i) (read i)).marked := by
  rw [State.testContact_live hf hr, State.contactMarked_contact, State.contactCounted_contact]

/-- A test that changes its contact's mark raises FS50. -/
theorem State.testContact_latch {c : Ch} {i : Nat} {s : State} (hi : i < 8) (hs : s.srcWhole) {g : Ch} {read : Nat → Bool}
    (h : ((s.testContact g c read i).chan c).tstBad[i]? ≠ (s.chan c).tstBad[i]?) :
    ((s.testContact g c read i).fs 50).latch = true := by
  obtain heq | heq := s.testContact_cases g c read i <;> rw [heq] at h ⊢
  · exact absurd rfl h
  · have hbad : ((s.contactCounted g c read i).chan c).tstBad[i]? = (s.chan c).tstBad[i]? :=
      (congrArg Contact.bad (s.contactCounted_contact g c read i)).trans (Contact.gapCounted_bad ..)
    exact State.contactMarked_latch ((State.contactCounted_moved hi g c read s).sources.trans hs) (by rwa [hbad])

/-! A gap (R337) -/

/-- Among the tests of one channel's contacts in a gap, that of contact i is the only one that moves it. -/
theorem State.testContacts_split {i : Nat} (hi : i < 8) (g c : Ch) (read : Nat → Bool) (s : State) :
    ∃ u, State.KeepsContact c i s u ∧ State.KeepsContact c i (u.testContact g c read i)
      (runAll (State.testContact g c read) (List.range 8) s) := by
  obtain ⟨l, r, hlr⟩ := List.append_of_mem (List.mem_range.2 hi)
  have hnodup := List.nodup_range (n := 8)
  rw [hlr, List.nodup_append, List.nodup_cons] at hnodup
  obtain ⟨-, ⟨hr, -⟩, hl⟩ := hnodup
  have hlt (j : Nat) (hj : j ∈ l ∨ j ∈ r) : j < 8 := by
    rw [← List.mem_range, hlr]
    rcases hj with hj | hj <;> simp [hj]
  rw [hlr, runAll, List.foldl_append, List.foldl_cons]
  refine ⟨runAll (State.testContact g c read) l s, .runAll (fun j hj t => ?_) s, .runAll (fun j hj t => ?_) _⟩
  · exact State.testContact_keeps (hlt j (.inl hj)) hi (fun _ => (hl j hj i List.mem_cons_self).symm) g read t
  · exact State.testContact_keeps (hlt j (.inr hj)) hi (fun _ h => hr (h ▸ hj)) g read t

/-- The tests of one channel's contacts leave the other channel's. -/
theorem State.testContacts_keeps {c e : Ch} {i : Nat} (hi : i < 8) (h : e ≠ c) (g : Ch) (read : Nat → Bool) (s : State) :
    State.KeepsContact e i s (runAll (State.testContact g c read) (List.range 8) s) :=
  .runAll (fun _ hj => State.testContact_keeps (List.mem_range.1 hj) hi (fun he => absurd he h) g read) s

/-- What a contact of channel c reads in channel g's gap: the levels of g's own contacts are given, those of the other channel were
taken at the end of the gap's sub-beat. -/
def State.gapReads (s : State) (g : Ch) (levels : BitVec 8) (c : Ch) (i : Nat) : Bool :=
  if g = c then levels.toNat.testBit i else (s.chan c).rawPrev.toNat.testBit i

/-- Each contact of both channels is tested once in a gap. -/
theorem State.inputTest_split {i : Nat} (hi : i < 8) (g c : Ch) (levels : BitVec 8) (s : State) :
    ∃ u, State.KeepsContact c i s u ∧
      State.KeepsContact c i (u.testContact g c (s.gapReads g levels c) i) (s.inputTest g levels) := by
  have hother := Ch.ne_other g
  by_cases h : g = c
  · subst h
    have hreads : s.gapReads g levels g = fun i => levels.toNat.testBit i := funext fun _ => if_pos rfl
    rw [hreads]
    obtain ⟨u, hu, ht⟩ := State.testContacts_split hi g g (fun i => levels.toNat.testBit i) s
    exact ⟨u, hu, ht.trans ((State.testContacts_keeps hi hother g _ _).trans (.gapDone ..))⟩
  · obtain rfl := Ch.eq_other_of_ne h
    have hreads : s.gapReads g levels g.other = fun i => (s.chan g.other).rawPrev.toNat.testBit i := funext fun _ => if_neg h
    rw [hreads]
    obtain ⟨u, hu, ht⟩ := State.testContacts_split hi g g.other (fun i => (s.chan g.other).rawPrev.toNat.testBit i)
      (runAll (State.testContact g g fun i => levels.toNat.testBit i) (List.range 8) s)
    exact ⟨u, (State.testContacts_keeps hi hother.symm g _ s).trans hu, ht.trans (.gapDone ..)⟩

theorem State.inputTest_moved (g : Ch) (levels : BitVec 8) (s : State) : s.GapMoved (s.inputTest g levels) := by
  obtain ⟨u, hu, ht⟩ := State.inputTest_split (i := 0) (by decide) g .a levels s
  exact (hu.moved.trans (State.testContact_moved (by decide) ..)).trans ht.moved

/-- A contact without a function, or of a channel that does not run, is not tested. -/
theorem State.inputTest_idle {c : Ch} {i : Nat} {s : State} (hi : i < 8) (h : s.inFunc i = 0 ∨ s.runs c = false) (g : Ch)
    (levels : BitVec 8) : ((s.inputTest g levels).chan c).contact i = (s.chan c).contact i := by
  obtain ⟨u, hu, ht⟩ := State.inputTest_split hi g c levels s
  have hidle : u.inFunc i = 0 ∨ u.runs c = false := by rwa [hu.moved.inFunc, hu.moved.quiet.runs]
  rw [ht.same, State.testContact_idle hidle, hu.same]

/-- Every other contact is as its test leaves it. -/
theorem State.inputTest_contact {c : Ch} {i : Nat} {s : State} (hi : i < 8) (hf : s.inFunc i ≠ 0) (hr : s.runs c = true) (g : Ch)
    (levels : BitVec 8) : ((s.inputTest g levels).chan c).contact i =
      (((s.chan c).contact i).gapCounted (g == c) ((s.chan c).raw.toNat.testBit i) (s.gapReads g levels c i)).marked := by
  obtain ⟨u, hu, ht⟩ := State.inputTest_split hi g c levels s
  have huf : u.inFunc i ≠ 0 := by rwa [hu.moved.inFunc]
  have hur : u.runs c = true := by rwa [hu.moved.quiet.runs]
  rw [ht.same, State.testContact_contact huf hur, hu.same, hu.moved.frame.raw]

/-- In its own source's gap a contact that reads closed fails (R337). -/
theorem State.inputTest_own {ch : Ch} {i : Nat} {s : State} (hi : i < 8) (hf : s.inFunc i ≠ 0) (hr : s.runs ch = true)
    (v : BitVec 8) :
    ((s.inputTest ch v).chan ch).tstFail[i]? = (s.chan ch).tstFail[i]?.map (failCount (v.toNat.testBit i)) ∧
    ((s.inputTest ch v).chan ch).tstFail[8 + i]? = (s.chan ch).tstFail[8 + i]? ∧
    ((s.inputTest ch v).chan ch).tstFail[16 + i]? = (s.chan ch).tstFail[16 + i]?.map (failCount (v.toNat.testBit i)) := by
  have h := State.inputTest_contact hi hf hr ch v
  rw [beq_self_eq_true, State.gapReads, if_pos rfl, Contact.gapCounted, if_pos rfl] at h
  exact ChanS.fails_of_marked h

/-- Where only input 0 has a function, the gap moves two counts of its own channel. -/
theorem State.inputTest_alone {ch : Ch} {s : State} (hf : s.inFunc 0 ≠ 0) (hr : s.runs ch = true)
    (hrest : ∀ i, 0 < i → i < 8 → s.inFunc i = 0) (v : BitVec 8) {k : Nat} (h0 : k ≠ 0) (h16 : k ≠ 16) :
    ((s.inputTest ch v).chan ch).tstFail[k]? = (s.chan ch).tstFail[k]? := by
  by_cases hbeyond : 24 ≤ k
  · exact (State.inputTest_moved ch v s).beyond ch k hbeyond
  · by_cases h8 : k = 8
    · obtain ⟨-, hcross, -⟩ := State.inputTest_own (i := 0) (by decide) hf hr v
      rw [h8]
      exact hcross
    · have hidle : s.inFunc (k % 8) = 0 := hrest _ (by omega) (by omega)
      refine ChanS.fails_of_contact (State.inputTest_idle (by omega) (.inl hidle) ch v) ?_
      simp only [List.mem_cons, List.not_mem_nil, or_false]
      omega

/-- In the other source's gap a contact that was closed fails where it reads open (R337). -/
theorem State.inputTest_closed {ch c : Ch} (hc : ch ≠ c) {i : Nat} {s : State} (hi : i < 8) (hf : s.inFunc i ≠ 0)
    (hr : s.runs c = true) (hraw : (s.chan c).raw.toNat.testBit i = true) (v : BitVec 8) :
    ((s.inputTest ch v).chan c).tstFail[i]? = (s.chan c).tstFail[i]? ∧
    ((s.inputTest ch v).chan c).tstFail[8 + i]? =
      (s.chan c).tstFail[8 + i]?.map (failCount (!(s.chan c).rawPrev.toNat.testBit i)) ∧
    ((s.inputTest ch v).chan c).tstFail[16 + i]? =
      (s.chan c).tstFail[16 + i]?.map (failCount (!(s.chan c).rawPrev.toNat.testBit i)) := by
  have h := State.inputTest_contact hi hf hr ch v
  rw [beq_false_of_ne hc, State.gapReads, if_neg hc, hraw, Contact.gapCounted, if_neg Bool.false_ne_true, if_pos rfl] at h
  exact ChanS.fails_of_marked h

/-- In the other source's gap a contact that was open is not tested (R337). -/
theorem State.inputTest_open {ch c : Ch} (hc : ch ≠ c) {i : Nat} {s : State} (hi : i < 8) (hf : s.inFunc i ≠ 0)
    (hr : s.runs c = true) (hraw : (s.chan c).raw.toNat.testBit i = false) (v : BitVec 8) {k : Nat} (hk : k ∈ [i, 8 + i, 16 + i]) :
    ((s.inputTest ch v).chan c).tstFail[k]? = (s.chan c).tstFail[k]? := by
  have h := State.inputTest_contact hi hf hr ch v
  rw [beq_false_of_ne hc, hraw, Contact.gapCounted, if_neg Bool.false_ne_true, if_neg Bool.false_ne_true] at h
  obtain ⟨hown, hcross, hboth⟩ := ChanS.fails_of_marked h
  obtain rfl | rfl | rfl : k = i ∨ k = 8 + i ∨ k = 16 + i := by simpa using hk
  · exact hown
  · exact hcross
  · exact hboth

/-- A contact is marked after a gap when it was before or when one of its counts has reached two (R337). -/
theorem State.inputTest_bad {c : Ch} {i : Nat} {s : State} (hi : i < 8) (hf : s.inFunc i ≠ 0) (hr : s.runs c = true)
    (hlen : i < (s.chan c).tstBad.length) (g : Ch) (levels : BitVec 8) :
    ((s.inputTest g levels).chan c).tstBad[i]? = some true ↔ (s.chan c).tstBad[i]? = some true ∨
      ∃ k ∈ [i, 8 + i, 16 + i], ∃ n, ((s.inputTest g levels).chan c).tstFail[k]? = some n ∧ 2 ≤ n := by
  have hbad : (((s.chan c).contact i).gapCounted (g == c) ((s.chan c).raw.toNat.testBit i) (s.gapReads g levels c i)).bad =
      (s.chan c).tstBad[i]? := Contact.gapCounted_bad ..
  have hmark := State.inputTest_contact hi hf hr g levels
  rw [← ChanS.contact_failing, hmark, Contact.marked_failing, ← hbad, ← Contact.marked_bad (by simp [hbad, hlen]), ← hmark]
  rfl

/-- A gap that changes the mark of a contact raises FS50. -/
theorem State.inputTest_latch {c : Ch} {i : Nat} {s : State} (hi : i < 8) (hs : s.srcWhole) {g : Ch} {levels : BitVec 8}
    (h : ((s.inputTest g levels).chan c).tstBad[i]? ≠ (s.chan c).tstBad[i]?) : ((s.inputTest g levels).fs 50).latch = true := by
  obtain ⟨u, hu, ht⟩ := State.inputTest_split hi g c levels s
  have hus : u.srcWhole := hu.moved.sources.trans hs
  have hbefore : (u.chan c).tstBad[i]? = (s.chan c).tstBad[i]? := congrArg Contact.bad hu.same
  have hafter := congrArg Contact.bad ht.same
  refine ht.moved.latched ((State.testContact_moved hi ..).sources.trans hus) (State.testContact_latch hi hus ?_)
  rw [hbefore]
  exact fun heq => h (hafter.trans heq)

/-- Where no input has a function, a gap tests nothing. -/
theorem State.inputTest_unused {s : State} (h : ∀ i < 8, s.inFunc i = 0) (g : Ch) (levels : BitVec 8) :
    s.inputTest g levels = { s with safe := { s.safe with gapDone := true } } := by
  have hpass (c : Ch) (read : Nat → Bool) : runAll (State.testContact g c read) (List.range 8) s = s :=
    List.foldlRecOn (motive := fun t => t = s) _ _ rfl fun t ht j hj => by
      rw [ht]
      exact State.testContact_idle (.inl (h j (List.mem_range.1 hj))) g read
  simp only [State.inputTest, hpass]

theorem State.gapDue_iff (s : State) (ch : Ch) : s.gapDue ch = true ↔
    s.beat.num.toNat % 100 = (if ch = .a then 0 else 50) ∧ s.beat.sub = 5 ∧ s.safe.gapDone = false := by
  cases ch <;> simp [State.gapDue, State.gapBeat, and_assoc]

theorem exec_inputTestGap_due {s : State} {ch : Ch} (h : s.gapDue ch = true) (v : BitVec 8) :
    exec (.inputTestGap ch v) s = .next (s.inputTest ch v) := congrArg Host.Outcome.next (if_pos h)

/-! Test pulses (R334, R335) -/

theorem State.pulseDue_iff (s : State) : s.pulseDue = true ↔
    s.beat.running = true ∧ s.beat.sub = 15 ∧ s.safe.tp.taken = false ∧ s.safe.tp.pulse = none := by
  simp [State.pulseDue, and_assoc]

/-- The pulse of a slot. -/
def State.slotPulse (s : State) (n : Nat) (side : Side) (rep : Bool) : Pulse :=
  { out := n, side := side, on := !s.cmdClosed (n - 1), again := rep }

/-- The pulse of the beat starts where its output may be pulsed. -/
theorem exec_testPulse_starts {s : State} {n : Nat} {side : Side} {rep : Bool} (hdue : s.pulseDue = true)
    (hslot : s.pulseSlot = some (n, side, rep)) (hok : s.pulseOk n = true) :
    exec .testPulse s = .next { s with
      beat := { s.beat with offNs := max s.beat.offNs 937500 }
      safe := { s.safe with tp := { s.safe.tp with
        taken := true, again := none, out := n - 1, kind := !s.cmdClosed (n - 1), side := side == .l
        pulse := some (s.slotPulse n side rep) } } } := by
  have hslot' : (s.at 937500).pulseSlot = some (n, side, rep) := hslot
  have hok' : (s.at 937500).pulseOk n = true := hok
  show Host.Outcome.next (if s.pulseDue then (s.at 937500).startPulse else s) = _
  rw [if_pos hdue, State.startPulse, hslot']
  simp only [hok', if_true]
  rfl

/-- The slot of output n's period, which no repetition takes. -/
theorem State.pulseSlot_of_beat {s : State} {n : Nat} (h1 : 1 ≤ n) (h8 : n ≤ 8) (hrep : s.safe.tp.again = none)
    (hbeat : s.beat.num.toNat % (1000 * s.nat .TP_PER) = 2 * (n - 1)) :
    s.pulseSlot = some (n, if s.beat.num.toNat / (1000 * s.nat .TP_PER) % 2 = 0 then .h else .l, false) := by
  have hfind : outNums.find? (fun m => 2 * (n - 1) == 2 * (m - 1)) = some n := by interval_cases n <;> rfl
  simp only [State.pulseSlot, hrep, State.tpPeriod, beatsOfSec, hbeat, hfind, Option.map_some]
  rfl

theorem State.pulseSlot_of_again {s : State} {p : Pulse} (h : s.safe.tp.again = some p) :
    s.pulseSlot = some (p.out, p.side, true) := by
  rw [State.pulseSlot, h]

/-- An output may be pulsed: it has a role and is neither locked nor in its pull-in, and both channels command and both sides read
the same state (R334). -/
theorem State.pulseOk_of {s : State} {n : Nat} {x : OutS} (hup : s.upAndRunning = true) (hrole : s.outRole n ≠ 0)
    (hx : s.safe.out[n - 1]? = some x) (hlock : x.locked = false) (hpull : x.pullDue = false) (ha : s.runs .a = true)
    (hb : s.runs .b = true) (hsame : s.cha.seq.app[n - 1]?.getD false = s.chb.seq.app[n - 1]?.getD false)
    (hclosed : s.cmdClosed (n - 1) = true → x.rbH = .high ∧ x.rbL = .low)
    (hopen : s.cmdClosed (n - 1) = false → x.rbH ≠ .high ∧ x.rbL ≠ .low) : s.pulseOk n = true := by
  have hreads : x.reads (s.cmdClosed (n - 1)) = true := by
    cases hc : s.cmdClosed (n - 1)
    · simpa [OutS.reads] using hopen hc
    · simpa [OutS.reads] using hclosed hc
  simp [State.pulseOk, State.sameCmd, hup, hrole, hx, hlock, hpull, ha, hb, hsame, hreads]

/-- What a pulse's readbacks must be (R335). -/
theorem Pulse.passes_iff (p : Pulse) (d : List (Level × Level)) (coil : Nat) : p.passes d coil = true ↔
    (p.on = false → (∀ r ∈ d.drop 25, if p.side = .h then r.1 ≠ .high else r.2 ≠ .low) ∧
      ∀ r ∈ d, if p.side = .h then r.2 = .low else r.1 = .high) ∧
    (p.on = true → coil < 50 ∧ ∀ r ∈ d.drop 25, if p.side = .h then r = (.high, .high) else r = (.low, .low)) := by
  obtain ⟨out, side, on, again, absorbed⟩ := p
  cases on <;> cases side <;>
    simp only [Pulse.passes, judgedReads, Bool.and_eq_true, List.all_eq_true, bne_iff_ne, beq_iff_eq, decide_eq_true_eq,
      reduceCtorEq, Prod.ext_iff, if_true, if_false, forall_const, false_imp_iff, true_and, and_comm]

/-- One readback out of its level, or too high a coil current, fails the pulse. -/
theorem Pulse.passes_false {p : Pulse} {d : List (Level × Level)} {coil : Nat} {r : Level × Level}
    (h : p.on = false ∧ (r ∈ d.drop 25 ∧ (if p.side = .h then r.1 = .high else r.2 = .low) ∨
        r ∈ d ∧ (if p.side = .h then r.2 ≠ .low else r.1 ≠ .high)) ∨
      p.on = true ∧ (50 ≤ coil ∨ r ∈ d.drop 25 ∧ (if p.side = .h then r ≠ (.high, .high) else r ≠ (.low, .low)))) :
    p.passes d coil = false := by
  rw [Bool.eq_false_iff, Ne, Pulse.passes_iff]
  rintro ⟨hoff, hon⟩
  rcases h with ⟨hp, ⟨hr, hbad⟩ | ⟨hr, hbad⟩⟩ | ⟨hp, hcoil | ⟨hr, hbad⟩⟩
  · exact (apply_ite Not ..).mpr ((hoff hp).1 r hr) hbad
  · exact (apply_ite Not ..).mpr hbad ((hoff hp).2 r hr)
  · exact absurd (hon hp).1 (Nat.not_lt.2 hcoil)
  · exact (apply_ite Not ..).mpr hbad ((hon hp).2 r hr)

theorem exec_testPulseEnd_judged {s : State} {p : Pulse} (hp : s.safe.tp.pulse = some p) (habs : p.absorbed = false)
    (d : List (Level × Level)) (coil : Nat) (restored : Bool) :
    exec (.testPulseEnd d coil restored) s = .next ((s.tally 33 1).judgePulse p (p.passes d coil && restored)) := by
  show Host.Outcome.next (s.endPulse d coil restored) = _
  simp only [State.endPulse, hp, habs, Bool.false_eq_true, if_false]

end Sys2Proof.Machine

namespace Sys2Proof.Proofs
open Sys2Proof.Machine

/-- Settles O25: a pulse that is due starts in its slot (`exec_testPulse_starts`) and is judged by `Pulse.passes_iff`; a gap tests
each contact of both channels once (`State.inputTest_split`): its counts move by `Contact.gapCounted`, then it may be marked. -/
theorem testPulses : Obligations.TestPulses := by
  refine ⟨fun s n side rep hrun hsub htaken hnone hslot hok => ?starts, fun s hsub => ?early, fun s p d coil hp habs hpass => ?passes,
    fun s p d coil hp habs hfirst => ?unrestored, fun s p d coil hp habs hagain hsrc => ?second, fun s p d coil r hp habs => ?absorbed,
    fun s d coil r hp => ?noPulse, fun s hnum hsub hgap hfunc v => ?unused,
    fun s v hnum hsub hgap hra hfunc hrest hv hrb => ?ownGap, fun s v hsub => ?noGap,
    fun s n x h1 h8 hrun hsub htaken hnone hrep _ hbeat hup hrole hx hlock hpull hra hrb hsame hclosed hopen => ?inSlot,
    fun s p x hrun hsub htaken hnone hrep hup hrole hx hlock hpull hra hrb hsame hclosed hopen => ?repeated,
    fun s p d coil hp habs hoff hon => ?readsPass, fun s p d coil r hp habs hfirst hread => ?readsFail,
    fun s ch v hnum hsub hgap => ?gap⟩
  case starts =>
    exact ⟨_, exec_testPulse_starts ((State.pulseDue_iff s).2 ⟨hrun, hsub, htaken, hnone⟩) hslot hok, rfl, rfl, rfl, rfl, rfl, rfl⟩
  case early =>
    refine congrArg Host.Outcome.next (if_neg fun hdue => ?_)
    obtain ⟨-, hsub15, -⟩ := (State.pulseDue_iff s).1 hdue
    exact hsub hsub15
  case passes =>
    refine ⟨_, exec_testPulseEnd_judged hp habs d coil true, ?_⟩
    rw [hpass]
    exact ⟨rfl, rfl⟩
  case unrestored =>
    refine ⟨_, exec_testPulseEnd_judged hp habs d coil false, ?_⟩
    rw [Bool.and_false, State.judgePulse, hfirst]
    exact ⟨rfl, rfl⟩
  case second =>
    refine ⟨_, exec_testPulseEnd_judged hp habs d coil false, ?_⟩
    rw [Bool.and_false, State.judgePulse, hagain]
    exact ⟨congrArg (fun x => x.tp.pulse) (State.raise_safe ..), (State.raise_fs (by show 49 < s.flt.src.length; omega) 0).1,
      State.raise_cha .., State.raise_chb ..⟩
  case absorbed =>
    show Host.Outcome.next (s.endPulse d coil r) = _
    simp only [State.endPulse, hp, habs, if_true]
  case noPulse =>
    show Host.Outcome.next (s.endPulse d coil r) = _
    simp only [State.endPulse, hp]
  case unused =>
    rw [exec_inputTestGap_due ((State.gapDue_iff s .a).2 ⟨hnum, hsub, hgap⟩), State.inputTest_unused hfunc]
  case ownGap =>
    have hcha (t : State) : t.cha = t.chan .a := rfl
    refine ⟨_, exec_inputTestGap_due ((State.gapDue_iff s .a).2 ⟨hnum, hsub, hgap⟩) v, fun k hk0 hk16 => ?_, ?_, rfl⟩
    · rw [hcha, hcha, State.inputTest_alone hfunc hra hrest v hk0 hk16]
    · rw [hcha, hcha, (State.inputTest_own (by decide) hfunc hra v).1, hv]
      rfl
  case noGap =>
    refine congrArg Host.Outcome.next (if_neg fun hdue => ?_)
    obtain ⟨-, hsub5, -⟩ := (State.gapDue_iff s .a).1 hdue
    exact hsub hsub5
  case inSlot =>
    rw [exec_testPulse_starts ((State.pulseDue_iff s).2 ⟨hrun, hsub, htaken, hnone⟩) (State.pulseSlot_of_beat h1 h8 hrep hbeat)
      (State.pulseOk_of hup hrole hx hlock hpull hra hrb hsame hclosed hopen), State.slotPulse, ← hrep]
    have hside : ((if s.beat.num.toNat / (1000 * s.nat .TP_PER) % 2 = 0 then Side.h else .l) == .l) =
        (s.beat.num.toNat / (1000 * s.nat .TP_PER) % 2 == 1) := by
      rcases Nat.mod_two_eq_zero_or_one (s.beat.num.toNat / (1000 * s.nat .TP_PER)) with h | h <;> rw [h] <;> rfl
    rw [hside]
  case repeated =>
    rw [exec_testPulse_starts ((State.pulseDue_iff s).2 ⟨hrun, hsub, htaken, hnone⟩) (State.pulseSlot_of_again hrep)
      (State.pulseOk_of hup hrole hx hlock hpull hra hrb hsame hclosed hopen), State.slotPulse]
  case readsPass =>
    refine ⟨s.sys.tally 33 1, ?_⟩
    rw [exec_testPulseEnd_judged hp habs, (Pulse.passes_iff p d coil).2 ⟨hoff, hon⟩]
    rfl
  case readsFail =>
    have hfails := Pulse.passes_false hread
    refine ⟨s.sys.tally 33 1, ?_⟩
    rw [exec_testPulseEnd_judged hp habs, hfails, State.judgePulse, hfirst]
    rfl
  case gap =>
    have hfail (b : Bool) : failCount (!b) = fun n => if b = true then 0 else n + 1 := by cases b <;> rfl
    refine ⟨_, exec_inputTestGap_due ((State.gapDue_iff s ch).2 ⟨hnum, hsub, hgap⟩) v,
      fun i hi hf hr => State.inputTest_own hi hf hr v, fun i hi hf hr hraw => ?_,
      fun i hi hf hr hraw k hk => State.inputTest_open (Ch.ne_other ch) hi hf hr hraw v hk, fun c i hi hidle => ?_,
      fun c i hi hf hr hlen => ⟨State.inputTest_bad hi hf hr hlen ch v, fun hs hne => State.inputTest_latch hi hs hne⟩,
      (State.inputTest_moved ch v s).frame⟩
    · rw [← hfail]
      exact State.inputTest_closed (Ch.ne_other ch) hi hf hr hraw v
    · have hsame := State.inputTest_idle hi hidle ch v
      exact ⟨fun k hk => ChanS.fails_of_contact hsame hk, congrArg Contact.bad hsame⟩

end Sys2Proof.Proofs
end

section
/-! PROOFS. The step. -/

namespace Sys2Proof.Proofs
open Sys2Proof Sys2Proof.Machine

/-- Settles O1: the step takes the head of the queue; with an empty queue it idles. -/
theorem stepRunsFront : Obligations.StepRunsFront := by
  refine ⟨fun s c rest => rfl, fun s h => ?_⟩
  unfold step
  rw [h]

end Sys2Proof.Proofs
end

section
/-! PROOFS. HOST_POP (R465). -/

namespace Sys2Proof.Machine

/-- REPSEQ stands in the upper half of the first word of a report (R464). -/
theorem bits_high (w : Word) : bits w 16 16 = w.toNat / 65536 := by
  have := w.isLt
  unfold bits
  omega

/-- HOST_REP0 to HOST_REP3 show the oldest report (R465). -/
theorem State.regWord_rep (s : State) (p : Path) {k : Nat} (hk : k < 4) :
    s.regWord p (0x000C + k) = (s.host.reports.headD []).getD k 0 := by
  obtain rfl | rfl | rfl | rfl : k = 0 ∨ k = 1 ∨ k = 2 ∨ k = 3 := by omega
  all_goals rfl

theorem HostS.pop_oldest {h : HostS} {w : Word} {r : List Word} {l : List (List Word)} (hr : h.reports = (w :: r) :: l) (q : BitVec 16) :
    h.pop q = if w.toNat / 65536 = q.toNat then { h with reports := l } else h := by
  simp only [HostS.pop, hr, List.headD_cons, bits_high]

theorem HostS.pop_empty {h : HostS} (hr : h.reports = []) (q : BitVec 16) : h.pop q = h := by
  simp only [HostS.pop, hr]

end Sys2Proof.Machine

namespace Sys2Proof.Proofs
open Sys2Proof Sys2Proof.Machine

/-- Settles O55: the report registers show the head of the queue, and a pop compares SEQ with the upper half of its first word. -/
theorem oldestReport : Obligations.OldestReport := by
  refine ⟨fun s p r l k w hr hk hw => ?_, fun s p w r l hr => ?_, fun s p w r l q hr hq => ?_, fun s p q hr => ?_⟩
  · rw [State.regWord_rep s p hk, hr, List.headD_cons, List.getD_eq_getElem?_getD, hw]
    rfl
  · show Host.Outcome.next _ = _
    rw [HostS.pop_oldest hr, if_pos]
    have := w.isLt
    simp only [BitVec.toNat_ofNat]
    omega
  · show Host.Outcome.next _ = _
    rw [HostS.pop_oldest hr, if_neg]
    rintro h
    exact hq (by rw [h, BitVec.ofNat_toNat, BitVec.setWidth_eq])
  · show Host.Outcome.next _ = _
    rw [HostS.pop_empty hr]

end Sys2Proof.Proofs
end

section
/-! PROOFS. The CRC-8 of the recorder (R475). -/

namespace Sys2Proof.Machine

/-- A CRC of 8 bits as a register of 8 bits: shift, and the polynomial where a one leaves (R475). -/
def crcShift (c : Byte) : Byte := if c.msb then (c <<< 1) ^^^ 0x07 else c <<< 1

/-- One bit of the CRC is one shift of the register. -/
theorem crcBit_shift (c : Byte) : crcBit 8 0x07 c.toNat = (crcShift c).toNat := by
  revert c
  decide

/-- One byte of the CRC is eight shifts of the register. -/
theorem crcByte_shift (c b : Byte) : crcByte 8 0x07 c.toNat b = (crcShift^[8] (c ^^^ b)).toNat := by
  have hfold (n : Nat) (x : Byte) : (List.range n).foldl (fun c _ => crcBit 8 0x07 c) x.toNat = (crcShift^[n] x).toNat := by
    induction n with
    | zero => rfl
    | succ n ih =>
      rw [List.range_succ, List.foldl_append, ih, Function.iterate_succ_apply']
      exact crcBit_shift _
  rw [crcByte, ← hfold, BitVec.toNat_xor, show b.toNat * 2 ^ (8 - 8) = b.toNat by simp]

/-- The register that a row of bytes leaves. -/
def crcReg (l : List Byte) : Byte := l.foldl (fun c b => crcShift^[8] (c ^^^ b)) 0

theorem crc8_eq (l : List Byte) : crc8 l = (crcReg l).toNat := by
  have hfold (l : List Byte) (c : Byte) :
      l.foldl (crcByte 8 0x07) c.toNat = (l.foldl (fun c b => crcShift^[8] (c ^^^ b)) c).toNat := by
    induction l generalizing c with
    | nil => rfl
    | cons b l ih => rw [List.foldl_cons, List.foldl_cons, crcByte_shift, ih]
  exact hfold l 0

end Sys2Proof.Machine

namespace Sys2Proof.Proofs
open Sys2Proof Sys2Proof.Machine

/-- Settles O41: the CRC of the model is the register of 8 bits, one byte after the other. -/
theorem recorderCrc : Obligations.RecorderCrc := by
  refine ⟨rfl, fun l => ?_, fun l b => ?_, Tests.test_check_codes.1⟩
  · rw [crc8_eq]
    exact (crcReg l).isLt
  · rw [crc8_eq, crc8_eq, BitVec.ofNat_toNat, BitVec.ofNat_toNat, BitVec.setWidth_eq, BitVec.setWidth_eq, crcReg, List.foldl_append]
    rfl

end Sys2Proof.Proofs
end

section
/-! PROOFS. Lockstep, splitting and joining of the core pairs (R348-R359). -/

namespace Sys2Proof.Machine

/-! One pair -/

@[simp] theorem CoreS.setPair_pair (c : CoreS) (ch : Ch) (f : PairS → PairS) : (c.setPair ch f).pair ch = f (c.pair ch) := by
  cases ch <;> rfl

@[simp] theorem CoreS.setPair_pair_other (c : CoreS) (ch : Ch) (f : PairS → PairS) :
    (c.setPair ch f).pair ch.other = c.pair ch.other := by
  cases ch <;> rfl

/-! Lockstep (R348) -/

/-- A mismatch halts its die and latches the class; the supervisor keeps its record (R348, R349). -/
theorem State.mismatch_core (ch : Ch) (cls : Nat) (s : State) : (s.mismatch ch cls).core =
    { s.core.setPair ch (fun p => { p with halted := true, mm := some cls }) with mmRecord := s.core.mmRecord ++ [(ch, cls)] } := by
  cases ch <;> simp [State.mismatch, State.freezeFlt, State.setPair, CoreS.setPair]

/-- A mismatch touches neither the beat, nor measurement, nor what the channels and the outputs hold. -/
theorem State.mismatch_keeps (ch : Ch) (cls : Nat) (s : State) : (s.mismatch ch cls).beat = s.beat ∧
    (s.mismatch ch cls).meas = s.meas ∧ (s.mismatch ch cls).cha = s.cha ∧ (s.mismatch ch cls).chb = s.chb ∧
    (s.mismatch ch cls).safe = s.safe := by
  cases ch <;> simp [State.mismatch, State.freezeFlt]

theorem State.mismatch_latch {s : State} (h : s.srcWhole) (ch : Ch) (cls : Nat) :
    ((s.mismatch ch cls).fs (if ch = .a then 0 else 1)).latch = true := by
  unfold State.mismatch
  refine (State.raise_fs ?_ _).1
  cases ch <;> simp [State.freezeFlt, h]

/-- A die whose pair is halted does not run (R348). -/
theorem State.runs_of_halted {s : State} {ch : Ch} (h : (s.core.pair ch).halted = true) : s.runs ch = false := by
  simp [State.runs, h]

/-! Splitting (R352, R353) -/

section
variable {s : State} {ch : Ch} {r : CoreReq}

theorem State.splitReq_eq (hreq : s.core.req = some r) : s.splitReq ch = if ch = .a then r.splitA else r.splitB := by
  cases ch <;> simp [State.splitReq, hreq]

theorem State.joinReq_eq (hreq : s.core.req = some r) : s.joinReq ch = if ch = .a then r.joinA else r.joinB := by
  cases ch <;> simp [State.joinReq, hreq]

theorem exec_coreSplit_due (hb : s.beat.bStage = 0) (hreq : s.core.req = some r) (hsplit : (if ch = .a then r.splitA else r.splitB) = true) :
    exec (.coreSplit ch) s = .next (s.splitOp ch) :=
  congrArg Host.Outcome.next (State.boundaryRow_due hb ((State.splitReq_eq hreq).trans hsplit) _)

theorem exec_coreJoin_due (hb : s.beat.bStage = 0) (hreq : s.core.req = some r) (hjoin : (if ch = .a then r.joinA else r.joinB) = true) :
    exec (.coreJoin ch) s = .next (s.joinOp ch) :=
  congrArg Host.Outcome.next (State.boundaryRow_due hb ((State.joinReq_eq hreq).trans hjoin) _)

/-- Without a request neither row acts. -/
theorem exec_coreRows_idle (h : s.core.req = none) (ch : Ch) :
    exec (.coreSplit ch) s = .next s ∧ exec (.coreJoin ch) s = .next s :=
  ⟨congrArg Host.Outcome.next (State.boundaryRow_idle (by simp [State.splitReq, h]) _),
    congrArg Host.Outcome.next (State.boundaryRow_idle (by simp [State.joinReq, h]) _)⟩

/-- A refused split sets CAUSE and is judged; the pairs stay (R353, R363). -/
theorem State.splitOp_refused {k : Nat} (h : s.splitCause ch = some k) : (s.splitOp ch).core.cause = k ∧
    (s.splitOp ch).core.pair ch = s.core.pair ch ∧ s.splitOp ch = { s with core := (s.splitOp ch).core } := by
  simp only [State.splitOp, h]
  cases ch <;> exact ⟨rfl, rfl, rfl⟩

/-- An accepted split frees the checker, counts, and drops what the service before has left (R352, R357). -/
theorem State.splitOp_accepted (h : s.splitCause ch = none) :
    (s.splitOp ch).core.pair ch = { s.core.pair ch with pair := .split, task := .none } ∧
    (s.splitOp ch).core.pair ch.other = s.core.pair ch.other ∧ (s.splitOp ch).core.splits = incSat 255 s.core.splits ∧
    (s.splitOp ch).core.rpl.out = [] ∧ s.splitOp ch = { s with core := (s.splitOp ch).core } := by
  simp only [State.splitOp, h]
  cases ch <;> exact ⟨rfl, rfl, rfl, rfl, rfl⟩

theorem State.splitCause_notParked (h : s.pre.ctlA ≠ .parked) (ch : Ch) : s.splitCause ch = some 2 := by
  simp [State.splitCause, h]

theorem State.splitCause_debug (ha : s.pre.ctlA = .parked) (hb : s.pre.ctlB = .parked) (hd : s.pre.debug = true) (ch : Ch) :
    s.splitCause ch = some 3 := by
  simp [State.splitCause, ha, hb, hd]

theorem State.splitCause_none (ha : s.pre.ctlA = .parked) (hb : s.pre.ctlB = .parked) (hd : s.pre.debug = false)
    (hj : (s.core.pair ch).pair = .joined) : s.splitCause ch = none := by
  simp [State.splitCause, ha, hb, hd, hj]

end

/-! CORE_CTRL (R363) -/

/-- A write of CORE_CTRL becomes active: with its key it is the request of the boundary, without it CAUSE is 1 (R363). -/
theorem State.activateStaged_coreCtrl {x : Staged} (h : x.addr = 0x1C00) (s : State) : s.activateStaged x =
    if keyOf x.data = 0xC3 then { s with core := { s.core with req := some (coreReqOf x.data) } }
    else { s with core := { s.core with cause := 1 } } := by
  have ha : x.addr.toNat = 0x1C00 := by rw [h]; rfl
  simp [State.activateStaged, ha]

/-! Joining (R357) -/

/-- A pair that starts to join: no task, its copy due (R357). -/
def PairS.joinStarted (p : PairS) : PairS :=
  { p with pair := .joining, task := .none, defer := 0, copied := false, copyDone := false, copyBad := false }

/-- The service work of the die that a join ends: a replay of the pair, and on CDA a sweep (R357). -/
def State.serviceEnded (ch : Ch) (s : State) : State :=
  let t := if (s.core.pair ch).task = .replay then s.rplStop 3 else s
  if ch = .a then t.sweepStop 3 3 else t

section
variable {s : State} {ch : Ch}

theorem State.joinOp_refused (h : (s.core.pair ch).task = .verification) : (s.joinOp ch).core.cause = 4 ∧
    (s.joinOp ch).core.pair ch = s.core.pair ch ∧ s.joinOp ch = { s with core := (s.joinOp ch).core } := by
  simp only [State.joinOp, State.joinCause, h]
  cases ch <;> exact ⟨rfl, rfl, rfl⟩

/-- A join of a split pair: the service work ends, then the pair starts to join (R357). -/
theorem State.joinOp_split (hp : (s.core.pair ch).pair = .split) (ht : (s.core.pair ch).task ≠ .verification) :
    s.joinOp ch = ((s.serviceEnded ch).setPair ch PairS.joinStarted).joinTaken ch := by
  simp only [State.joinOp, State.joinCause, hp, beq_iff_eq, ht, if_false, bne_self_eq_false, Bool.false_eq_true, reduceCtorEq]
  rfl

/-- What the joining pair starts with is what the end of the service work has left of it. -/
theorem State.joinStarted_core (ch : Ch) (t : State) :
    ((t.setPair ch PairS.joinStarted).joinTaken ch).core.pair ch = (t.core.pair ch).joinStarted ∧
    ((t.setPair ch PairS.joinStarted).joinTaken ch).core.pair ch.other = t.core.pair ch.other ∧
    ((t.setPair ch PairS.joinStarted).joinTaken ch).core.rpl = t.core.rpl ∧
    ((t.setPair ch PairS.joinStarted).joinTaken ch).core.swp = t.core.swp ∧
    (t.setPair ch PairS.joinStarted).joinTaken ch = { t with core := ((t.setPair ch PairS.joinStarted).joinTaken ch).core } := by
  cases ch <;> exact ⟨rfl, rfl, rfl, rfl, rfl⟩

theorem State.sweepStop_idle (h : s.core.swp.state ≠ 1) (st cause : Nat) : s.sweepStop st cause = s := by
  simp [State.sweepStop, h]

/-- A live replay that stops leaves the sweep's state as it is. -/
theorem State.rplStop_swp (cause : Nat) (s : State) : (s.rplStop cause).core.swp = s.core.swp := by
  unfold State.rplStop
  split <;> rfl

/-- A sweep that stops leaves CDB's pair and the replay as they are. -/
theorem State.sweepStop_keeps (st cause : Nat) (s : State) : (s.sweepStop st cause).core.b = s.core.b ∧
    (s.sweepStop st cause).core.rpl = s.core.rpl ∧ (s.sweepStop st cause).core.swp.res = s.core.swp.res := by
  unfold State.sweepStop
  split <;> exact ⟨rfl, rfl, rfl⟩

theorem State.serviceEnded_idle (ht : (s.core.pair ch).task ≠ .replay) (hs : ch = .a → s.core.swp.state ≠ 1) :
    s.serviceEnded ch = s := by
  unfold State.serviceEnded
  rw [if_neg ht]
  cases ch
  · exact State.sweepStop_idle (hs rfl) 3 3
  · rfl

theorem State.serviceEnded_replay (ht : (s.core.pair ch).task = .replay) (hs : s.core.swp.state ≠ 1) :
    s.serviceEnded ch = s.rplStop 3 := by
  unfold State.serviceEnded
  rw [if_pos ht]
  cases ch
  · exact State.sweepStop_idle (by rwa [State.rplStop_swp]) 3 3
  · rfl

theorem State.serviceEnded_sweep (ht : s.core.a.task = .sweep) : s.serviceEnded .a = s.sweepStop 3 3 := by
  simp [State.serviceEnded, CoreS.pair, ht]

/-! The copy (R358, R359) -/

theorem exec_joinCopy_due {us : Nat} (hj : (s.core.pair ch).pair = .joining) (hc : (s.core.pair ch).copied = false)
    (hd : s.doneAt ch = some us) (flagged : Bool) (x : Fin 8) :
    exec (.joinCopy ch flagged x) s = .next (s.joinCopy ch (if flagged then none else some x)) := by
  show Host.Outcome.next (if s.copyDue ch then _ else _) = _
  rw [if_pos (by simp [State.copyDue, hj, hc, hd])]

theorem State.joinCopy_late {us : Nat} (hd : s.doneAt ch = some us) (hus : 959 < us) (m : Option (Fin 8)) : s.joinCopy ch m =
    if 2 < (s.core.pair ch).defer + 1 then State.coreCause 5 (s.setPair ch fun p => { p with pair := .split, defer := 0 })
    else s.setPair ch fun p => { p with defer := p.defer + 1, copied := true } := by
  simp [State.joinCopy, hd, hus]

theorem State.joinCopy_flagged {us : Nat} (hd : s.doneAt ch = some us) (hus : us ≤ 959) :
    s.joinCopy ch none = s.setPair ch fun p => { p with copied := true, copyDone := true } := by
  simp [State.joinCopy, hd, Nat.not_lt.2 hus]

theorem State.joinCopy_missed {us : Nat} (hd : s.doneAt ch = some us) (hus : us ≤ 959) (c : Fin 8) :
    s.joinCopy ch (some c) = State.raiseCond 2 (nword c.val) (s.setPair ch fun p =>
      { p with copied := true, copyBad := true, copyDone := true, testFail := some (c.val, c.val) }) := by
  cases ch <;> simp [State.joinCopy, State.testFailed, hd, Nat.not_lt.2 hus, State.setPair, CoreS.setPair]

end

end Sys2Proof.Machine

namespace Sys2Proof.Proofs
open Sys2Proof Sys2Proof.Machine

/-- Settles O16: each row of the boundary is one judged request, a join first ends the service work of its die, and a copy is flagged,
missed, deferred or given up. -/
theorem corePairs : Obligations.CorePairs := by
  refine ⟨?mismatch, ?notJoined, ?splits, ?notParked, ?debugOpen, ?noKey, ?keyed, ?noRequest, ?joins, ?verification, ?joinsReplay,
    ?joinsSweep, ?copied, ?deferred, ?givenUp, ?missed, ?noCopy⟩
  case mismatch =>
    intro s ch cls hruns hj hwhole
    have hpair : (s.mismatch ch cls.val).core.pair ch = { s.core.pair ch with halted := true, mm := some cls.val } := by
      rw [State.mismatch_core]
      cases ch <;> rfl
    have hother : (s.mismatch ch cls.val).core.pair ch.other = s.core.pair ch.other := by
      rw [State.mismatch_core]
      cases ch <;> rfl
    refine ⟨s.mismatch ch cls.val, ?_, hpair, hother, State.mismatch_latch hwhole ch cls.val,
      State.runs_of_halted (by rw [hpair]), State.mismatch_keeps ch cls.val s⟩
    show Host.Outcome.next (if s.mismatchDue ch then _ else _) = _
    rw [if_pos (by simp [State.mismatchDue, hruns, hj])]
  case notJoined =>
    intro s ch cls hj
    show Host.Outcome.next (if s.mismatchDue ch then _ else _) = _
    rw [if_neg (by simp [State.mismatchDue, hj])]
  case splits =>
    intro s ch r hb hreq hsplit ha hb' hd hj
    exact ⟨_, exec_coreSplit_due hb hreq hsplit, State.splitOp_accepted (State.splitCause_none ha hb' hd hj)⟩
  case notParked =>
    intro s ch r hb hreq hsplit ha
    exact ⟨_, exec_coreSplit_due hb hreq hsplit, State.splitOp_refused (State.splitCause_notParked ha ch)⟩
  case debugOpen =>
    intro s ch r hb hreq hsplit ha hb' hd
    exact ⟨_, exec_coreSplit_due hb hreq hsplit, State.splitOp_refused (State.splitCause_debug ha hb' hd ch)⟩
  case noKey => exact fun s x ha hk => (State.activateStaged_coreCtrl ha s).trans (if_neg hk)
  case keyed =>
    intro s x ha hk
    exact ⟨coreReqOf x.data, (State.activateStaged_coreCtrl ha s).trans (if_pos hk), rfl, rfl, rfl, rfl⟩
  case noRequest => exact fun s ch h => exec_coreRows_idle h ch
  case joins =>
    intro s ch r hb hreq hjoin hp ht hs
    obtain ⟨hpair, hother, -, -, hframe⟩ := State.joinStarted_core ch s
    have hop : s.joinOp ch = (s.setPair ch PairS.joinStarted).joinTaken ch := by
      rw [State.joinOp_split hp (by simp [ht]), State.serviceEnded_idle (by simp [ht]) hs]
    exact ⟨_, (exec_coreJoin_due hb hreq hjoin).trans (congrArg _ hop), hpair, hother, hframe⟩
  case verification =>
    intro s ch r hb hreq hjoin hp ht
    exact ⟨_, exec_coreJoin_due hb hreq hjoin, State.joinOp_refused ht⟩
  case joinsReplay =>
    intro s ch r hb hreq hjoin hp hs hlive hta htb
    have ht : (s.core.pair ch).task = .replay := by
      cases ch
      · exact hta
      · exact htb
    obtain ⟨w, host, hstop, hrpl, ha, hb'⟩ := State.rplStop_eq hlive 3
    have hop : s.joinOp ch = ((s.rplStop 3).setPair ch PairS.joinStarted).joinTaken ch := by
      rw [State.joinOp_split hp (by simp [ht]), State.serviceEnded_replay ht hs]
    rw [hstop] at hop
    obtain ⟨hpair, hother, hrpl', -, hframe⟩ := State.joinStarted_core ch { s with core := w, host := host }
    have hfreed : w.pair ch.other = { s.core.pair ch.other with task := .none } := by
      cases ch
      · exact hb'.trans (by rw [if_pos htb]; rfl)
      · exact ha.trans (by rw [if_pos hta]; rfl)
    refine ⟨_, (exec_coreJoin_due hb hreq hjoin).trans (congrArg _ hop), ?_, ?_, hother.trans hfreed, ?_, ?_, ?_, hframe⟩
    · rw [hpair]; rfl
    · rw [hpair]; rfl
    all_goals rw [hrpl', hrpl]
  case joinsSweep =>
    intro s r hb hreq hjoin hp ht hs
    obtain ⟨w, host, hstop, hswp, ha⟩ := State.sweepStop_eq hs 3 3
    obtain ⟨hb', -, -⟩ := State.sweepStop_keeps 3 3 s
    have hop : s.joinOp .a = ((s.sweepStop 3 3).setPair .a PairS.joinStarted).joinTaken .a := by
      rw [State.joinOp_split (ch := .a) hp (by simp [CoreS.pair, ht]), State.serviceEnded_sweep ht]
    rw [hstop] at hop hb'
    obtain ⟨hpair, hother, -, hswp', hframe⟩ := State.joinStarted_core .a { s with core := w, host := host }
    refine ⟨_, (exec_coreJoin_due (ch := .a) hb hreq hjoin).trans (congrArg _ hop), congrArg PairS.pair hpair, congrArg PairS.task hpair,
      ?_, ?_, ?_, hother.trans hb', hframe⟩
    all_goals rw [hswp', hswp]
  case copied =>
    intro s ch us x hj hc hd hus
    exact (exec_joinCopy_due hj hc hd true x).trans (congrArg _ (State.joinCopy_flagged hd hus))
  case deferred =>
    intro s ch us x hj hc hd hus hn
    refine (exec_joinCopy_due hj hc hd true x).trans (congrArg _ ?_)
    rw [State.joinCopy_late hd hus, if_neg (by omega)]
    rfl
  case givenUp =>
    intro s ch us x hj hc hd hus hn
    refine ⟨_, exec_joinCopy_due hj hc hd true x, ?_⟩
    rw [State.joinCopy_late hd hus, if_pos (by omega)]
    cases ch <;> exact ⟨rfl, rfl, rfl, rfl⟩
  case missed =>
    intro s ch us c hj hc hd hus hwhole
    refine ⟨_, exec_joinCopy_due hj hc hd false c, ?_⟩
    rw [if_neg (by simp), State.joinCopy_missed hd hus]
    refine ⟨?_, (State.raiseCond_fs (by rw [State.setPair_flt, hwhole]; decide) _).1, ?_, ?_, ?_, ?_, ?_⟩
    all_goals simp
  case noCopy =>
    intro s ch b c h
    show Host.Outcome.next (if s.copyDue ch then _ else _) = _
    rw [if_neg]
    rcases h with h | h <;> simp [State.copyDue, h]

end Sys2Proof.Proofs
end

section
/-! PROOFS. The thermal evaluation and the excursions (R379-R388). -/

namespace Sys2Proof.Machine

/-- What a run of steps keeps that each step keeps. -/
theorem runAll_keeps {α β : Type} (p : State → β) {f : α → State → State} (hf : ∀ x s, p (f x s) = p s) (l : List α) (s : State) :
    p (runAll f l s) = p s := by
  induction l generalizing s with
  | nil => rfl
  | cons x l ih => exact (ih (f x s)).trans (hf x s)

/-! One group (R379, R382) -/

theorem levelFlag_above {t l : Int} (h : l ≤ t) (was : Bool) (hys : Int) : levelFlag was t l hys = true := if_pos h

theorem levelFlag_within {t l hys : Int} (h : t < l) (h' : l - hys ≤ t) (was : Bool) : levelFlag was t l hys = was := by
  rw [levelFlag, if_neg (by omega), if_neg (by omega)]

theorem levelFlag_below {t l hys : Int} (h : t < l) (h' : t < l - hys) (was : Bool) : levelFlag was t l hys = false := by
  rw [levelFlag, if_neg (by omega), if_pos h']

theorem State.groupNext_none {s : State} {g : Nat} (h : s.groupTemp g = none) (x : GrpS) :
    s.groupNext g x = { x with noSens := true, state := 2, temp := -32768 } := by
  rw [State.groupNext, h]; rfl

/-- A group with a sensor takes its temperature, the sensor and the state of its three flags. -/
theorem State.groupNext_some {s : State} {g k : Nat} {v : Int} (h : s.groupTemp g = some (k, v)) (x : GrpS) :
    (s.groupNext g x).temp = v ∧ (s.groupNext g x).sens = k ∧
    (s.groupNext g x).state = groupState (levelFlag x.tw v (s.par .TW_g g) (s.par .HYS_g g))
      (levelFlag x.tt v (s.par .TT_g g) (s.par .HYS_g g)) (levelFlag x.ts v (s.par .TS_g g) (s.par .HYS_g g)) := by
  rw [State.groupNext, h]; exact ⟨rfl, rfl, rfl⟩

section

variable {s : State}

/-! The excursion (R387) -/

/-- The parts of the state that the thermal evaluation speaks of. -/
def State.thermalView (s : State) : ThmS × MeasS × ChanS × ChanS × BalS := (s.thm, s.meas, s.cha, s.chb, s.bal)

/-- The thermal values after the excursion's judgement of a reading x. -/
def ThmS.excursionAt (t : ThmS) (x : Int) : ThmS :=
  match t.exc with
  | none => if 8500 < x then { t with exc := some (0, x), excCnt := incSat 65535 t.excCnt, excLen := 0, oorThis := false } else t
  | some (n, hi) =>
    if x ≤ 8200 then { t with exc := none, excLen := n, sinceEnd := some 0 } else { t with exc := some (n, max hi x) }

theorem ThmS.excursionAt_none {t : ThmS} (h : t.exc = none) (x : Int) : t.excursionAt x =
    if 8500 < x then { t with exc := some (0, x), excCnt := incSat 65535 t.excCnt, excLen := 0, oorThis := false } else t := by
  rw [ThmS.excursionAt, h]

theorem ThmS.excursionAt_some {t : ThmS} {n : Nat} {hi : Int} (h : t.exc = some (n, hi)) (x : Int) : t.excursionAt x =
    if x ≤ 8200 then { t with exc := none, excLen := n, sinceEnd := some 0 } else { t with exc := some (n, max hi x) } := by
  rw [ThmS.excursionAt, h]

theorem State.excursion_thm (s : State) : s.excursion.thm = s.thm.excursionAt s.lx := by
  match h : s.thm.exc with
  | none =>
    rw [ThmS.excursionAt_none h, State.excursion, h]
    exact apply_ite State.thm ..
  | some (n, hi) =>
    rw [ThmS.excursionAt_some h, State.excursion, h]
    exact apply_ite State.thm ..

theorem State.excursion_keeps (s : State) : s.excursion.meas = s.meas ∧ s.excursion.cha = s.cha ∧ s.excursion.chb = s.chb ∧
    s.excursion.bal = s.bal := by
  unfold State.excursion
  repeat' split
  all_goals exact ⟨rfl, rfl, rfl, rfl⟩

/-! The evaluation (R383-R386) -/

theorem State.event_thermalView (p : Plane) (code : Nat) (ps : List Word) (s : State) :
    (s.event p code ps).thermalView = s.thermalView := rfl

theorem State.endCond_thermalView (n : Nat) (s : State) : (s.endCond n).thermalView = s.thermalView := rfl

theorem State.raiseCond_thermalView (n : Nat) (d : Word) (s : State) : (s.raiseCond n d).thermalView = s.thermalView := by
  simp [State.thermalView]

/-- A change of a group's state writes its record and its raises: it changes no thermal value. -/
theorem State.groupChange_thermalView (g : Nat) (old : GrpS) (s : State) : (s.groupChange g old).thermalView = s.thermalView := by
  simp only [State.groupChange, apply_ite State.thermalView, State.event_thermalView, State.raiseCond_thermalView, ite_self]

theorem State.thermalEnd_thermalView (s : State) : s.thermalEnd.thermalView = s.thermalView := by
  simp only [State.thermalEnd, apply_ite State.thermalView, State.endCond_thermalView, ite_self]

/-- The thermal evaluation takes the groups' values through the excursion's judgement and keeps what is no thermal value. -/
theorem State.thermal_eq (s : State) : s.thermal.thm = s.thermalGroups.thm.excursionAt s.lx ∧ s.thermal.meas = s.meas ∧
    s.thermal.cha = s.cha ∧ s.thermal.chb = s.chb ∧ s.thermal.bal = s.bal := by
  have hgroups := runAll_keeps State.thermalView (fun (x : Nat × GrpS) t => State.groupChange_thermalView x.1 x.2 t)
    (indexed s.thm.grp) s.thermalGroups
  have hend := State.thermalEnd_thermalView
    (runAll (fun x t => State.groupChange x.1 x.2 t) (indexed s.thm.grp) s.thermalGroups).excursion
  simp only [State.thermalView, Prod.mk.injEq, State.excursion_thm, State.excursion_keeps, State.lx] at hgroups hend
  obtain ⟨hthm, hmeas, hcha, hchb, hbal⟩ := hgroups
  rw [hthm, hmeas, hcha, hchb, hbal] at hend
  exact hend

/-- Each group takes its next state. -/
theorem State.thermalGroups_grp {s : State} {g : Nat} {x : GrpS} (h : s.thm.grp[g]? = some x) :
    s.thermalGroups.thm.grp[g]? = some (s.groupNext g x) := by
  rw [State.thermalGroups, indexed_map_getElem?, h]; rfl

theorem State.thermalGroups_fast (s : State) : s.thermalGroups.thm.fast = true ↔ ∃ g < 6, s.nearLevel g = true := by
  simp [State.thermalGroups]

theorem ThmS.excursionAt_grp (t : ThmS) (x : Int) : (t.excursionAt x).grp = t.grp ∧ (t.excursionAt x).fast = t.fast := by
  unfold ThmS.excursionAt
  split <;> split <;> exact ⟨rfl, rfl⟩

/-- The groups' values do not depend on the instant in the beat. -/
theorem State.thermalGroups_at (ns : Nat) (s : State) : (s.at ns).thermalGroups = s.thermalGroups.at ns := rfl

/-- The thermal evaluation at its stage. -/
theorem exec_thermalEvaluation_due (hat : s.evalAt 7) (ha : s.evals .a = true) (h9 : s.beat.num.toNat % 10 = 9)
    (hdue : s.thm.fast = true ∨ s.beat.num.toNat % 100 = 99) : ∃ t, exec .thermalEvaluation s = .next t ∧ t.beat.eStage = 8 ∧
    t.thm = s.thermalGroups.thm.excursionAt s.lx ∧ t.meas = s.meas ∧ t.cha = s.cha ∧ t.chb = s.chb ∧ t.bal = s.bal := by
  have hd : (s.at 850000).thermalDue = true := by
    simp only [State.thermalDue, Bool.and_eq_true, Bool.or_eq_true]
    exact ⟨decide_eq_true h9, hdue.imp_right fun h => decide_eq_true h⟩
  have hthrough : exec .thermalEvaluation s = .next (s.evalThrough 7) := rfl
  rw [State.evalThrough_due (fun _ => rfl) hat ha hd] at hthrough
  obtain ⟨hthm, hmeas, hcha, hchb, hbal⟩ := (s.at 850000).thermal_eq
  rw [State.thermalGroups_at] at hthm
  refine ⟨_, hthrough, rfl, ?_, ?_, ?_, ?_, ?_⟩
  · rw [State.setBeat_thm, hthm]; rfl
  · rw [State.setBeat_meas, hmeas, State.at_meas]
  · rw [State.setBeat_cha, hcha, State.at_cha]
  · rw [State.setBeat_chb, hchb, State.at_chb]
  · rw [State.setBeat_bal, hbal, State.at_bal]

/-- The second limit of an excursion, or any in an NM96-TA (R388). -/
theorem State.oorCause_isSome {n : Nat} {hi : Int} (hexc : s.thm.exc = some (n, hi)) (hthis : s.thm.oorThis = false)
    (h : s.sys.order = 0 ∨ 600000 < n ∨ ∃ k, s.thm.sinceEnd = some k ∧ k < 3600000) : ∃ c, s.oorCause = some c := by
  by_cases hlong : s.sys.order = 0 ∨ 600000 < n
  · exact ⟨1, by simp [State.oorCause, hexc, hthis, hlong]⟩
  · obtain ⟨k, hk, hk'⟩ := (or_assoc.2 h).resolve_left hlong
    exact ⟨2, by simp [State.oorCause, hexc, hthis, hlong, hk, hk']⟩

/-- An excursion with a cause is out of rating, FS67 present (R365, R388). -/
theorem State.outOfRating_some {c : Nat} (h : s.oorCause = some c) (hwhole : s.srcWhole) :
    s.outOfRating.thm = { s.thm with oor := true, oorThis := true } ∧ (s.outOfRating.fs 67).latch = true ∧
    (s.outOfRating.fs 67).cond = true ∧ s.outOfRating.meas = s.meas ∧ s.outOfRating.cha = s.cha ∧ s.outOfRating.chb = s.chb := by
  rw [State.outOfRating, h]
  refine ⟨by simp, (State.raiseCond_fs ?_ _).1, (State.raiseCond_fs ?_ _).2, by simp, by simp, by simp⟩ <;> simp [hwhole]

theorem State.oorCause_none (h : s.thm.exc = none ∨ s.thm.oorThis = true) : s.oorCause = none := by
  unfold State.oorCause
  split
  · rfl
  · rename_i hexc
    rw [if_pos (h.resolve_left (by simp [hexc]))]

end

end Sys2Proof.Machine

namespace Sys2Proof.Proofs
open Sys2Proof Sys2Proof.Machine

/-- Settles O32: the evaluation's values are the groups' next states and the excursion's judgement of the LX reading; an excursion out of
rating has a cause. -/
theorem thermal : Obligations.Thermal := by
  refine ⟨?starts, ?lasts, fun s g x h => State.groupNext_none h x, ?levels, ?notDue, ?outOfRating, ?notOut⟩
  case starts =>
    intro s hat ha h9 hdue hexc
    obtain ⟨t, hexec, hstage, hthm, hkeeps⟩ := exec_thermalEvaluation_due hat ha h9 hdue
    obtain ⟨hgrp, hfast⟩ := s.thermalGroups.thm.excursionAt_grp s.lx
    refine ⟨t, hexec, hstage, fun g x hx => ?_, ?_, ?_, ?_, hkeeps⟩
    · rw [hthm, hgrp, State.thermalGroups_grp hx]
    · rw [hthm, hfast, State.thermalGroups_fast]
    · rw [hthm, ThmS.excursionAt_none (show s.thermalGroups.thm.exc = none from hexc), ← hexc]
      exact apply_ite ThmS.exc ..
    · rw [hthm, ThmS.excursionAt_none (show s.thermalGroups.thm.exc = none from hexc)]
      exact apply_ite ThmS.excCnt ..
  case lasts =>
    intro s n hi hat ha h9 hdue hexc
    obtain ⟨t, hexec, hstage, hthm, hkeeps⟩ := exec_thermalEvaluation_due hat ha h9 hdue
    rw [ThmS.excursionAt_some (show s.thermalGroups.thm.exc = some (n, hi) from hexc)] at hthm
    refine ⟨t, hexec, hstage, ?_, fun hcool => ?_, hkeeps⟩
    · rw [hthm]; exact apply_ite ThmS.exc ..
    · rw [hthm, if_pos hcool]
  case levels =>
    intro s g k v x hv
    obtain ⟨htemp, hsens, hstate⟩ := State.groupNext_some hv x
    refine ⟨htemp, hsens, fun h => ?_, fun h h' hx => ?_, fun h h' ht => ?_, fun h h' ht ht' hw => ?_, fun h h' ht ht' hw hw' => ?_⟩
    · rw [hstate, levelFlag_above h]; rfl
    · rw [hstate, levelFlag_within (t := v) h h', hx]; rfl
    · rw [hstate, levelFlag_below (t := v) h h', levelFlag_above ht]; rfl
    · rw [hstate, levelFlag_below (t := v) h h', levelFlag_below (t := v) ht ht', levelFlag_above hw]; rfl
    · rw [hstate, levelFlag_below (t := v) h h', levelFlag_below (t := v) ht ht', levelFlag_below (t := v) hw hw']; rfl
  case notDue =>
    intro s hat h
    refine congrArg Host.Outcome.next (State.evalThrough_not_due (due := State.thermalDue) (fun _ => rfl) hat ?_)
    rcases h with h | ⟨hfast, h⟩ <;> simp [State.thermalDue, *]
  case outOfRating =>
    intro s n hi hat ha hexc hthis h hwhole
    obtain ⟨c, hc⟩ := State.oorCause_isSome hexc hthis h
    have hthrough : exec .excursionOutOfRating s = .next (s.evalThrough 8) := rfl
    have hdue : ((s.at 850000).oorCause).isSome = true := congrArg Option.isSome hc
    rw [State.evalThrough_due (fun _ => rfl) hat ha hdue] at hthrough
    obtain ⟨hthm, hlatch, hcond, hmeas, hcha, hchb⟩ := State.outOfRating_some (s := s.at 850000) hc hwhole
    exact ⟨_, hthrough, hthm, hlatch, hcond, rfl, hmeas, hcha, hchb⟩
  case notOut =>
    intro s hat h
    refine congrArg Host.Outcome.next (State.evalThrough_not_due (due := fun t => t.oorCause.isSome) (fun _ => rfl) hat ?_)
    exact congrArg Option.isSome (State.oorCause_none (s := s.at 850000) h)

end Sys2Proof.Proofs
end

section
/-! PROOFS. Ring states, ring silence, majority and the Coordinator (R411, R417, R418, R423-R425). -/

namespace Sys2Proof.Machine

theorem strBad_code (x : StrState) : strBad x.code = decide (x = .lost ∨ x = .opn ∨ x = .split) := by
  cases x <;> decide

/-! Ring state (R417) -/

/-- A ring that closes again, and so is enumerated, was open, split or lost (R411). -/
def RingS.closesAgain (r : RingS) : Bool :=
  r.active && r.strNext == .closed && (r.str == .opn || r.str == .split || r.str == .lost)

theorem RingS.closesAgain_true {r : RingS} (ha : r.active = true) (hc : r.strNext = .closed) (hne : r.strNext ≠ r.str)
    (he : r.str ≠ .enumerating) : r.closesAgain = true := by
  rw [RingS.closesAgain, ha, hc]
  rw [hc] at hne
  match hs : r.str with
  | .opn | .split | .lost => rfl
  | .closed => exact absurd hs.symm hne
  | .enumerating => exact absurd hs he

theorem RingS.closesAgain_false {r : RingS} (h : r.strNext ≠ .closed) : r.closesAgain = false := by
  simp [RingS.closesAgain, h]

section

variable {s : State}

/-- The state that was judged takes effect, and FS59 follows it. -/
theorem State.strChange_moved (h : s.ring.strNext ≠ s.ring.str) : s.strChange =
    ({ s with ring := { s.ring with str := s.ring.strNext, enumDue := s.ring.enumDue || s.ring.closesAgain } }).follow 59 0
      (strBad s.ring.strNext.code && s.multiUnit) := by
  rw [State.strChange, if_neg (by simpa using h)]
  rfl

theorem State.strChange_still (h : s.ring.strNext = s.ring.str) : s.strChange = s := by
  rw [State.strChange, if_pos (by simpa using h)]

/-! Ring silence (R418) -/

/-- The silence of a Monitor is due at its beat count. -/
theorem State.ringSilentDue_true (hrole : s.ring.role = 1) (hup : s.pwr.state = .active ∨ s.pwr.state = .idle)
    (hquiet : s.nat .RING_SILENCE ≤ s.ring.quiet) (hentry : s.pwr.entry = none) : s.ringSilentDue = true := by
  have hrun : s.upAndRunning = true := by
    unfold State.upAndRunning
    rcases hup with h | h <;> rw [h]
  simp [State.ringSilentDue, State.silenceDue, hrole, hrun, hquiet, hentry]

theorem State.ringSilentDue_false (h : s.ring.role ≠ 1 ∨ s.ring.quiet < s.nat .RING_SILENCE) : s.ringSilentDue = false := by
  have hdue : s.silenceDue = false := by
    rcases h with h | h
    · rw [State.silenceDue, beq_false_of_ne h]; rfl
    · rw [State.silenceDue, decide_eq_false (by omega), Bool.and_false]
  rw [State.ringSilentDue, hdue]; rfl

/-- A unit that falls silent blocks every cell (R210, R221). -/
theorem State.cellBlocked_of_fallsSilent (h : s.fallsSilent = true) (n : Nat) : s.cellBlocked n = true := by
  simp [State.cellBlocked, State.segBlocked, h]

/-- A blocked cell's switch is commanded open, once the link carries the command (R210). -/
theorem State.swCommand_blocked {n : Nat} (hlink : s.linkUp (segOf n) .a = true) (hblocked : s.cellBlocked n = true) (x : SwS) :
    s.swCommand n x = { x with duty := false, exc := false, level := false } := by
  simp only [State.swCommand, hlink, hblocked, Bool.not_true, Bool.false_eq_true, if_false, if_true, ite_self]

/-! Majority and Coordinator (R423-R425) -/

theorem State.majorityDue_true (ha : s.ring.active = true) (h : s.ring.majNow ≠ s.ring.majority) : s.majorityDue = true := by
  simp [State.majorityDue, ha, h]

theorem State.majorityDue_false (h : s.ring.majNow = s.ring.majority ∨ s.ring.active = false) : s.majorityDue = false := by
  rcases h with h | h <;> simp [State.majorityDue, h]

end

end Sys2Proof.Machine

namespace Sys2Proof.Proofs
open Sys2Proof Sys2Proof.Machine

/-- Settles O51: a change of the ring state moves two fields of the ring and FS59; a unit on its way into Dormant for silence blocks every
cell. -/
theorem ringStates : Obligations.RingStates := by
  refine ⟨?changes, fun s h => congrArg Host.Outcome.next (State.strChange_still h), ?silent, ?notSilent, ?lost, ?regained,
    ?sameMajority, ?takes, ?takesNot⟩
  case changes =>
    intro s h hwhole
    refine ⟨_, congrArg Host.Outcome.next (State.strChange_moved h), by simp, fun ha hc he => ?_, fun hc => ?_, fun hmulti => ?_,
      by simp, by simp, by simp, by simp⟩
    · simp [RingS.closesAgain_true ha hc h he]
    · simp [RingS.closesAgain_false hc]
    · rw [State.follow_cond (by simp [hwhole]), strBad_code, hmulti, Bool.and_true]
  case silent =>
    intro s hrole hup hquiet hentry
    refine ⟨s.ringSilent, congrArg Host.Outcome.next (if_pos (State.ringSilentDue_true hrole hup hquiet hentry)), rfl, rfl,
      fun x hx => ?_, fun n x hlink => ?_, rfl, rfl⟩
    · obtain ⟨y, -, rfl⟩ := List.mem_map.1 hx
      exact ⟨rfl, rfl, rfl⟩
    · rw [State.swCommand_blocked hlink (State.cellBlocked_of_fallsSilent rfl n)]
      exact ⟨rfl, rfl, rfl⟩
  case notSilent =>
    exact fun s h => congrArg Host.Outcome.next (if_neg (by simp [State.ringSilentDue_false h]))
  case lost =>
    intro s ha hnow hmaj
    refine (congrArg Host.Outcome.next (if_pos (State.majorityDue_true ha (by simp [hnow, hmaj])))).trans ?_
    simp [State.majorityChange, State.setRing, hnow]
  case regained =>
    intro s ha hnow hmaj
    refine (congrArg Host.Outcome.next (if_pos (State.majorityDue_true ha (by simp [hnow, hmaj])))).trans ?_
    simp [State.majorityChange, State.setRing, hnow]
  case sameMajority =>
    exact fun s h => congrArg Host.Outcome.next (if_neg (by simp [State.majorityDue_false h]))
  case takes => exact fun s ha htake => congrArg Host.Outcome.next (if_pos (by simp [ha, htake]))
  case takesNot =>
    intro s h
    refine congrArg Host.Outcome.next (if_neg ?_)
    rcases h with h | h <;> simp [h]

end Sys2Proof.Proofs
end

section
/-! PROOFS. Reception on the CAN ports: receive objects, telegrams, filters and FIFOs (R428, R437, R438, R451). -/

namespace Sys2Proof.Machine

/-! The controller after a frame -/

/-- What the error state leaves of the reception's registers (R439). -/
theorem CanS.followed_fifos (c : CanS) : c.followed.fifo0 = c.fifo0 ∧ c.followed.fifo1 = c.fifo1 ∧ c.followed.ovr0 = c.ovr0 ∧
    c.followed.ovr1 = c.ovr1 ∧ c.followed.noMatch = c.noMatch := by
  unfold CanS.followed
  split
  · exact ⟨rfl, rfl, rfl, rfl, rfl⟩
  · split <;> exact ⟨rfl, rfl, rfl, rfl, rfl⟩

/-- Below the limit of bus-off no object is touched (R439, R440). -/
theorem CanS.followed_obj_of_le {c : CanS} (h : c.txErr ≤ 255) : c.followed.obj = c.obj := by
  have hstate : c.errState ≠ .recovery := by
    rcases c.errState_cases with ⟨htx, -⟩ | ⟨-, -, he⟩ | ⟨-, -, he⟩
    · omega
    · simp [he]
    · simp [he]
  rw [CanS.followed_obj, if_neg fun hr => hstate hr.1]

theorem ObjS.offBus_keeps (o : ObjS) : o.offBus.data = o.data ∧ o.offBus.fresh = o.fresh ∧ o.offBus.cnt = o.cnt := by
  unfold ObjS.offBus
  split <;> exact ⟨rfl, rfl, rfl⟩

/-- An object keeps what it received in every error state. -/
theorem CanS.followed_received {c : CanS} {k : Nat} {o : ObjS} (h : c.obj[k]? = some o) :
    ∃ u, c.followed.obj[k]? = some u ∧ u.data = o.data ∧ u.fresh = o.fresh ∧ u.cnt = o.cnt := by
  rw [CanS.followed_obj]
  split
  · exact ⟨o.offBus, by rw [List.getElem?_map, h]; rfl, o.offBus_keeps⟩
  · exact ⟨o, h, rfl, rfl, rfl⟩

section

variable {s t u v : State} {p : CPort}

theorem State.canFollow_safe (h : s.canLive p = true) : (s.canFollow p).safe = s.safe := by
  rcases State.canFollow_cases h with ⟨-, heq⟩ | ⟨-, -, heq⟩ | ⟨-, -, heq⟩ <;> rw [heq]
  · simp
  · rfl

/-! A frame on its way to the channels (R26, R437) -/

/-- From u to v a frame has reached the channels: of the port only the count of XS_CA has moved, and nothing that the reception goes on
to read. -/
def State.Arrived (p : CPort) (u v : State) : Prop :=
  v.beat = u.beat ∧ v.meas = u.meas ∧ v.safe = u.safe ∧ v.xtalB = u.xtalB ∧ v.flt.blk = u.flt.blk ∧
  (∃ n, v.can p = { u.can p with ca := n }) ∧ ∀ q, q ≠ p → v.can q = u.can q

theorem State.Arrived.refl (p : CPort) (u : State) : u.Arrived p u := ⟨rfl, rfl, rfl, rfl, rfl, ⟨_, rfl⟩, fun _ _ => rfl⟩

theorem State.Arrived.trans (h : State.Arrived p t u) (g : State.Arrived p u v) : t.Arrived p v := by
  obtain ⟨h1, h2, h3, h4, h5, ⟨n, h6⟩, h7⟩ := h
  obtain ⟨g1, g2, g3, g4, g5, ⟨m, g6⟩, g7⟩ := g
  exact ⟨g1.trans h1, g2.trans h2, g3.trans h3, g4.trans h4, g5.trans h5, ⟨m, by rw [g6, h6]⟩, fun q hq => (g7 q hq).trans (h7 q hq)⟩

theorem State.arrived_raise (p : CPort) (n : Nat) (d : Word) (s : State) : s.Arrived p (s.raise n d) :=
  ⟨by simp, by simp, by simp, by simp, State.raiseAt_blk .., ⟨_, State.raise_can ..⟩, fun q _ => State.raise_can ..⟩

theorem State.arrived_setChan (p : CPort) (c : Ch) (f : ChanS → ChanS) (s : State) : s.Arrived p (s.setChan c f) :=
  ⟨rfl, rfl, rfl, rfl, rfl, ⟨_, rfl⟩, fun _ _ => rfl⟩

theorem State.arrived_ca (p : CPort) (f : Nat → Nat) (s : State) : s.Arrived p (s.setCan p fun c => { c with ca := f c.ca }) :=
  ⟨rfl, rfl, rfl, rfl, rfl, ⟨_, State.setCan_can ..⟩, fun _ hq => State.setCan_can_ne hq ..⟩

theorem State.telPush_arrived (p : CPort) (x : TelIn) (c : Ch) (s : State) : s.Arrived p (s.telPush x c) := by
  rcases s.telPush_cases x c with ⟨-, h⟩ | ⟨-, -, h⟩ | ⟨-, -, h⟩ <;> rw [h]
  · exact .refl p s
  · exact State.arrived_setChan ..
  · exact State.arrived_raise ..

theorem State.telArrive_arrived (p : CPort) (k : Nat) (f : CanFrame) (endNs : Nat) (s : State) : s.Arrived p (s.telArrive p k f endNs) :=
  (State.telPush_arrived ..).trans (State.telPush_arrived ..)

/-- A reference or calendar frame reaches no evaluation's telegrams. -/
theorem State.caPush_arrived (p : CPort) (s : State) :
    s.Arrived p (s.caPush p) ∧ (s.caPush p).cha = s.cha ∧ (s.caPush p).chb = s.chb := by
  rcases s.caPush_cases p with ⟨n, h⟩ | h | ⟨n, h⟩ | h <;> rw [h]
  · exact ⟨State.arrived_ca p (fun _ => n) s, rfl, rfl⟩
  · exact ⟨.refl p s, rfl, rfl⟩
  · exact ⟨State.arrived_ca p (· + n) s, rfl, rfl⟩
  · exact ⟨State.arrived_raise .., by simp, by simp⟩

/-- A channel's telegrams with one more. -/
def ChanS.withTel (x : TelIn) (y : ChanS) : ChanS := { y with telIn := y.telIn ++ [x] }

theorem State.telPush_fits {x : TelIn} {c : Ch} (hrun : s.runs c = true) (hfit : s.telFits c x.port = true) :
    s.telPush x c = s.setChan c (ChanS.withTel x) := by
  rw [State.telPush, hrun, hfit]; rfl

/-- A telegram that fits both goes to both channels (R437). -/
theorem State.telPush_both {x : TelIn} (ha : s.runs .a = true) (hfa : s.telFits .a x.port = true) (hb : s.runs .b = true)
    (hfb : s.telFits .b x.port = true) :
    ((s.telPush x .a).telPush x .b).cha = s.cha.withTel x ∧ ((s.telPush x .a).telPush x .b).chb = s.chb.withTel x := by
  have hsecond := State.telPush_fits (s := s.setChan .a (ChanS.withTel x)) (c := .b) hb hfb
  rw [State.telPush_fits ha hfa, hsecond]
  exact ⟨rfl, rfl⟩

/-! The frame received (R437, R438) -/

/-- The error counter after an intact frame (R439). -/
def CanS.counted (c : CanS) : CanS := { c with rxErr := if 127 < c.rxErr then 127 else c.rxErr - 1 }

/-- The state in which an intact frame has been counted. -/
def State.counted (p : CPort) (endNs : Nat) (s : State) : State :=
  ((s.tally (if portIx p = 1 then 12 else 14) 1).at endNs).setCan p CanS.counted

/-- What a frame carries: a remote frame has no data (R428). -/
def carriedFrame (f : CanFrame) : CanFrame := if f.rtr then { f with data := [] } else f

theorem carriedFrame_keeps (f : CanFrame) : (carriedFrame f).data = (if f.rtr then [] else f.data) ∧ (carriedFrame f).ide = f.ide ∧
    (carriedFrame f).id = f.id := by
  unfold carriedFrame
  split <;> exact ⟨rfl, rfl, rfl⟩

/-- What an object holds of the frame it received (R437). -/
def ObjS.received (f : CanFrame) (beat : Word) (o : ObjS) : ObjS :=
  { o with data := (carriedFrame f).data, fresh := true, drop := if o.fresh then incSat 255 o.drop else o.drop, cnt := incSat 65535 o.cnt,
           beat := beat, ofs := f.ofs }

/-- A frame for an object reaches the channels that its contents are for. -/
theorem State.canReceive_obj {f : CanFrame} {k : Nat} (hlive : s.canLive p = true) (hk : s.rxObj p f = some k) (endNs : Nat) :
    s.canReceive p f endNs =
      (let u := (s.counted p endNs).setObj p k (ObjS.received f (s.sofBeat f.ofs endNs))
       if s.objCont p k = 1 then u.telArrive p k (carriedFrame f) endNs
       else if s.objCont p k = 6 ∨ s.objCont p k = 7 then u.caPush p else u).canFollow p := by
  rw [State.canReceive, if_neg (by simp [hlive]), hk]; rfl

/-- A frame for no object goes through the filters. -/
theorem State.canReceive_none {f : CanFrame} (hlive : s.canLive p = true) (hk : s.rxObj p f = none) (endNs : Nat) :
    s.canReceive p f endNs = ((s.counted p endNs).filtered p (carriedFrame f) (s.sofBeat f.ofs endNs)).canFollow p := by
  rw [State.canReceive, if_neg (by simp [hlive]), hk]; rfl

/-- A port is live by its state, its die and its blocks. -/
theorem State.canLive_of (h : s.canLive p = true) (hstate : (t.can p).state = (s.can p).state) (hx : t.xtalB = s.xtalB)
    (hblk : t.flt.blk = s.flt.blk) : t.canLive p = true := by
  rw [State.canLive, hstate, hx, hblk]; exact h

/-- A port stays live when a frame arrives. -/
theorem State.Arrived.canLive (h : State.Arrived p u v) (hlive : u.canLive p = true) : v.canLive p = true := by
  obtain ⟨-, -, -, hx, hblk, ⟨n, hcan⟩, -⟩ := h
  exact State.canLive_of hlive (by rw [hcan]) hx hblk

theorem State.counted_can (p : CPort) (endNs : Nat) (s : State) : (s.counted p endNs).can p = (s.can p).counted := by
  cases p <;> rfl

theorem State.counted_can_ne {q : CPort} (h : q ≠ p) (endNs : Nat) (s : State) : (s.counted p endNs).can q = s.can q := by
  rw [State.counted, State.setCan_can_ne h]
  cases q <;> rfl

/-- The port after a frame has gone to object k, which then holds o. -/
def CanS.tookFrame (k : Nat) (o : ObjS) (c : CanS) : CanS :=
  { c.counted with obj := c.obj.set k o }

/-- The state in which a frame stands in its object. -/
theorem State.counted_setObj {k : Nat} {o : ObjS} (ho : (s.can p).obj[k]? = some o) (endNs : Nat) (f : ObjS → ObjS) :
    ((s.counted p endNs).setObj p k f).can p = (s.can p).tookFrame k (f o) := by
  rw [State.setObj_eq (o := o) (by rw [State.counted_can]; exact ho), State.setCan_can, State.counted_can]
  rfl

/-- What reads neither the ports nor the instant is as before the frame. -/
theorem State.counted_reads (p : CPort) (endNs k : Nat) (f : ObjS → ObjS) (s : State) (c : Ch) :
    ((s.counted p endNs).setObj p k f).runs c = s.runs c ∧
    ((s.counted p endNs).setObj p k f).nat .TEL = s.nat .TEL := by
  cases p <;> exact ⟨rfl, rfl⟩

theorem State.counted_telFits (p : CPort) (endNs k : Nat) (f : ObjS → ObjS) (s : State) (c : Ch) :
    ((s.counted p endNs).setObj p k f).telFits c p = s.telFits c p := by
  cases p <;> cases c <;> rfl

/-- What a frame for an object does on its way: its port takes it, and the channels get what is theirs (R437). -/
theorem State.canReceive_took {f : CanFrame} {k : Nat} (hlive : s.canLive p = true) (hk : s.rxObj p f = some k)
    (endNs : Nat) : ∃ v, s.canReceive p f endNs = v.canFollow p ∧
    State.Arrived p ((s.counted p endNs).setObj p k (ObjS.received f (s.sofBeat f.ofs endNs))) v ∧
    (s.objCont p k ≠ 1 → v.cha = s.cha ∧ v.chb = s.chb) ∧
    (s.objCont p k = 1 → s.runs .a = true → s.telFits .a p = true → s.runs .b = true → s.telFits .b p = true →
      v.cha = s.cha.withTel
        ⟨s.nat .TEL (objIx p k), p, (carriedFrame f).data, if endNs < 840000 then s.beat.num else s.beat.num + 1⟩ ∧
      v.chb = s.chb.withTel
        ⟨s.nat .TEL (objIx p k), p, (carriedFrame f).data, if endNs < 840000 then s.beat.num else s.beat.num + 1⟩) := by
  refine ⟨_, State.canReceive_obj hlive hk endNs, ?_, fun h1 => ?_, fun h1 ha hfa hb hfb => ?_⟩
  · split
    · exact State.telArrive_arrived ..
    · split
      · exact (State.caPush_arrived p _).1
      · exact .refl p _
  · rw [if_neg h1]
    split
    · exact (State.caPush_arrived p _).2
    · exact ⟨rfl, rfl⟩
  · rw [if_pos h1]
    exact State.telPush_both ((State.counted_reads ..).1.trans ha) ((State.counted_telFits ..).trans hfa)
      ((State.counted_reads ..).1.trans hb) ((State.counted_telFits ..).trans hfb)

/-! Filters (R438) -/

/-- A filter judges a frame by its identifier and format, whatever has been counted of it. -/
theorem State.counted_filterHits (p : CPort) (endNs : Nat) (f : CanFrame) (s : State) :
    (s.counted p endNs).filterHits p (carriedFrame f) = s.filterHits p f := by
  obtain ⟨-, hide, hid⟩ := carriedFrame_keeps f
  funext i
  rw [State.filterHits, hide, hid]
  cases p <;> rfl

/-- What the filters make of a frame: the count of unmatched frames, or a FIFO. -/
def State.filteredCan (p : CPort) (f : CanFrame) (beat : Word) (s : State) (c : CanS) : CanS :=
  match (List.range 32).find? (s.filterHits p f) with
  | none => { c with noMatch := incSat 65535 c.noMatch }
  | some i =>
    match s.nat .TARGET (32 * (portIx p - 1) + i) with
    | 1 => c.fifoIn false ⟨carriedFrame f, i, beat, false⟩
    | 2 => c.fifoIn true ⟨carriedFrame f, i, beat, true⟩
    | _ => c

theorem State.counted_filtered (p : CPort) (f : CanFrame) (beat : Word) (endNs : Nat) (s : State) :
    (s.counted p endNs).filtered p (carriedFrame f) beat = (s.counted p endNs).setCan p (s.filteredCan p f beat) := by
  unfold State.filtered State.filteredCan
  rw [State.counted_filterHits]
  cases p <;> rfl

/-- Each filter result leaves the controller's counters and objects. -/
theorem CanS.fifoIn_keeps (c : CanS) (second : Bool) (x : FifoFrame) : (c.fifoIn second x).state = c.state ∧
    (c.fifoIn second x).txErr = c.txErr ∧ (c.fifoIn second x).obj = c.obj ∧ (c.fifoIn second x).noMatch = c.noMatch := by
  unfold CanS.fifoIn
  split
  · split <;> exact ⟨rfl, rfl, rfl, rfl⟩
  · split <;> exact ⟨rfl, rfl, rfl, rfl⟩

theorem State.filteredCan_keeps (p : CPort) (f : CanFrame) (beat : Word) (s : State) (c : CanS) :
    (s.filteredCan p f beat c).state = c.state ∧ (s.filteredCan p f beat c).txErr = c.txErr ∧
    (s.filteredCan p f beat c).obj = c.obj := by
  unfold State.filteredCan
  split
  · exact ⟨rfl, rfl, rfl⟩
  · split
    · exact ⟨(CanS.fifoIn_keeps ..).1, (CanS.fifoIn_keeps ..).2.1, (CanS.fifoIn_keeps ..).2.2.1⟩
    · exact ⟨(CanS.fifoIn_keeps ..).1, (CanS.fifoIn_keeps ..).2.1, (CanS.fifoIn_keeps ..).2.2.1⟩
    · exact ⟨rfl, rfl, rfl⟩

/-- A frame for no object: the port is what the filters make of it. -/
theorem State.canReceive_filtered {f : CanFrame} (hlive : s.canLive p = true) (hk : s.rxObj p f = none) (endNs : Nat) :
    (s.canReceive p f endNs).can p = (s.filteredCan p f (s.sofBeat f.ofs endNs) ((s.counted p endNs).can p)).followed := by
  have hlive' : ((s.counted p endNs).setCan p (s.filteredCan p f (s.sofBeat f.ofs endNs))).canLive p = true := by
    refine State.canLive_of hlive ?_ rfl rfl
    rw [State.setCan_can, (State.filteredCan_keeps ..).1, State.counted_can]
    rfl
  rw [State.canReceive_none hlive hk, State.counted_filtered, (State.canFollow_keeps hlive').1, State.setCan_can]

/-- The reception registers are then what the filters make of them, and the objects stay below the limit of bus-off. -/
theorem State.canReceive_registers {f : CanFrame} (hlive : s.canLive p = true) (hk : s.rxObj p f = none) {endNs : Nat} {c : CanS}
    (hc : s.filteredCan p f (s.sofBeat f.ofs endNs) ((s.counted p endNs).can p) = c) :
    ((s.can p).txErr ≤ 255 → ((s.canReceive p f endNs).can p).obj = (s.can p).obj) ∧
    ((s.canReceive p f endNs).can p).fifo0 = c.fifo0 ∧ ((s.canReceive p f endNs).can p).fifo1 = c.fifo1 ∧
    ((s.canReceive p f endNs).can p).ovr0 = c.ovr0 ∧ ((s.canReceive p f endNs).can p).ovr1 = c.ovr1 ∧
    ((s.canReceive p f endNs).can p).noMatch = c.noMatch := by
  obtain ⟨-, htx, hobj⟩ := State.filteredCan_keeps p f (s.sofBeat f.ofs endNs) s ((s.counted p endNs).can p)
  rw [State.canReceive_filtered hlive hk, hc]
  rw [hc, State.counted_can] at htx hobj
  exact ⟨fun h => (CanS.followed_obj_of_le (htx.trans_le h)).trans hobj, c.followed_fifos⟩

theorem State.filteredCan_none {f : CanFrame} (h : ∀ i < 32, s.filterHits p f i = false) (beat : Word) (c : CanS) :
    s.filteredCan p f beat c = { c with noMatch := incSat 65535 c.noMatch } := by
  rw [State.filteredCan, List.find?_eq_none.2 (by simpa using h)]

/-- The first filter that hits names the target. -/
theorem State.filteredCan_some {f : CanFrame} {i : Nat} (hi : i < 32) (hhit : s.filterHits p f i = true)
    (hfirst : ∀ j < i, s.filterHits p f j = false) (beat : Word) (c : CanS) :
    s.filteredCan p f beat c = match s.nat .TARGET (32 * (portIx p - 1) + i) with
      | 1 => c.fifoIn false ⟨carriedFrame f, i, beat, false⟩
      | 2 => c.fifoIn true ⟨carriedFrame f, i, beat, true⟩
      | _ => c := by
  rw [State.filteredCan, List.find?_range_eq_some.2 ⟨hhit, by simpa using hi, fun j hj => by simp [hfirst j hj]⟩]

/-- A FIFO takes a frame or counts it as dropped; the other one is untouched. -/
theorem CanS.fifoIn_first (c : CanS) (x : FifoFrame) : (c.fifo0.length < 64 → (c.fifoIn false x).fifo0 = c.fifo0 ++ [x]) ∧
    (64 ≤ c.fifo0.length → (c.fifoIn false x).fifo0 = c.fifo0 ∧ (c.fifoIn false x).ovr0 = incSat 255 c.ovr0) ∧
    (c.fifoIn false x).fifo1 = c.fifo1 := by
  by_cases h : c.fifo0.length < 64
  · simp [CanS.fifoIn, h, h.not_ge]
  · simp [CanS.fifoIn, h]

theorem CanS.fifoIn_second (c : CanS) (x : FifoFrame) : (c.fifo1.length < 64 → (c.fifoIn true x).fifo1 = c.fifo1 ++ [x]) ∧
    (64 ≤ c.fifo1.length → (c.fifoIn true x).fifo1 = c.fifo1 ∧ (c.fifoIn true x).ovr1 = incSat 255 c.ovr1) ∧
    (c.fifoIn true x).fifo0 = c.fifo0 := by
  by_cases h : c.fifo1.length < 64
  · simp [CanS.fifoIn, h, h.not_ge]
  · simp [CanS.fifoIn, h]

end

end Sys2Proof.Machine

namespace Sys2Proof.Proofs
open Sys2Proof Sys2Proof.Machine

/-- Settles O43: a frame stands in its object or passes the filters before the port follows its counters. -/
theorem receiveObjects : Obligations.ReceiveObjects := by
  refine ⟨?object, ?unmatched, ?matched, ?dead, fun s pa p => ⟨rfl, rfl⟩, ?flush, ?read⟩
  case object =>
    intro s p f endNs k o hlive hk ho
    obtain ⟨v, hv, harr, hother, htel⟩ := State.canReceive_took hlive hk endNs
    have hlive' : v.canLive p = true := by
      refine harr.canLive (State.canLive_of hlive ?_ rfl rfl)
      rw [State.counted_setObj ho]; rfl
    obtain ⟨hbeat, hmeas, hsafe, -, -, ⟨n, hcan⟩, hcans⟩ := harr
    rw [State.counted_setObj ho] at hcan
    obtain ⟨hfollow, hfollows, hbeat', hcha, hchb, hmeas'⟩ := State.canFollow_keeps hlive'
    have hnext : exec (.canFrameReceive p f endNs) s = .next (v.canFollow p) := congrArg Host.Outcome.next hv
    obtain ⟨hdata, -, -⟩ := carriedFrame_keeps f
    obtain ⟨-, hrx, -⟩ := (v.can p).followed_keeps
    obtain ⟨hf0, hf1, -⟩ := (v.can p).followed_fifos
    have hk' : k < (s.can p).obj.length := (List.getElem?_eq_some_iff.1 ho).1
    have hobj : (v.can p).obj[k]? = some (o.received f (s.sofBeat f.ofs endNs)) := by
      rw [hcan]; exact List.getElem?_set_self hk'
    refine ⟨_, hnext, fun htx => ?_, ?_, ?_, ?_, fun q hq => ?_, hmeas'.trans hmeas, ?_, ?_, hbeat'.trans hbeat, fun h1 => ?_,
      fun h1 ha hfa hb hfb => ?_⟩
    · rw [hfollow, CanS.followed_obj_of_le (by rw [hcan]; exact htx), hcan, ← hdata]
      rfl
    · obtain ⟨u, hu, hudata, hufresh, hucnt⟩ := CanS.followed_received hobj
      rw [hfollow]
      exact ⟨u, hu, hudata.trans hdata, hufresh, hucnt⟩
    · rw [hfollow, hf0, hcan]; rfl
    · rw [hfollow, hf1, hcan]; rfl
    · rw [hfollows q hq, hcans q hq, State.setObj, State.setCan_can_ne hq, State.counted_can_ne hq]
    · rw [State.canFollow_safe hlive']; exact hsafe
    · rw [hfollow, hrx, hcan]; rfl
    · rw [hcha, hchb]; exact hother h1
    · rw [hcha, hchb, ← hdata]; exact htel h1 ha hfa hb hfb
  case unmatched =>
    intro s p f endNs hlive hk hnone
    obtain ⟨hobj, hf0, hf1, -, -, hno⟩ := State.canReceive_registers hlive hk (State.filteredCan_none hnone _ _)
    rw [State.counted_can] at hf0 hf1 hno
    exact ⟨_, rfl, hno, hobj, hf0, hf1⟩
  case matched =>
    intro s p f endNs i hlive hk hi hhit hfirst
    obtain ⟨hobj, hf0, hf1, ho0, ho1, hno⟩ :=
      State.canReceive_registers hlive hk (State.filteredCan_some hi hhit hfirst (s.sofBeat f.ofs endNs) ((s.counted p endNs).can p))
    rw [State.counted_can] at hf0 hf1 ho0 ho1 hno
    refine ⟨_, rfl, ?_, hobj, fun h => ?_, fun h => ?_, fun h => ?_⟩
    · rw [hno]
      split
      · exact (CanS.fifoIn_keeps ..).2.2.2
      · exact (CanS.fifoIn_keeps ..).2.2.2
      · rfl
    · rw [h] at hf0 hf1 ho0
      rw [hf0, hf1, ho0]
      exact CanS.fifoIn_first (s.can p).counted ⟨carriedFrame f, i, s.sofBeat f.ofs endNs, false⟩
    · rw [h] at hf0 hf1 ho1
      rw [hf0, hf1, ho1]
      exact CanS.fifoIn_second (s.can p).counted ⟨carriedFrame f, i, s.sofBeat f.ofs endNs, true⟩
    · rw [h] at hf0 hf1
      exact ⟨hf0, hf1⟩
  case dead => exact fun s p f endNs h => congrArg Host.Outcome.next (if_pos (by simp [h]))
  case flush =>
    intro s pa p key f0 f1
    exact congrArg Host.Outcome.next (by simp)
  case read =>
    intro s pa p o ho
    refine congrArg Host.Outcome.next ((State.setObj_eq ho _).trans (State.setCan_congr ?_))
    rfl

end Sys2Proof.Proofs
end

section
/-! PROOFS. The event recorder: write slots, clearing, captures and the calendar (R474-R488). -/

namespace Sys2Proof.Machine

/-! The store (R477) -/

theorem storeGet_cons (j k : Nat) (r : LogRec) (l : List (Nat × LogRec)) :
    storeGet j ((k, r) :: l) = if k = j then some r else storeGet j l := by
  by_cases h : k = j <;> simp [storeGet, h]

/-- A record that is put into a slot leaves the others. -/
theorem storeGet_storePut_ne {j k : Nat} (h : j ≠ k) (r : LogRec) (l : List (Nat × LogRec)) :
    storeGet j (storePut k r l) = storeGet j l := by
  induction l with
  | nil => rw [storePut, storeGet_cons, if_neg h.symm]
  | cons x l ih =>
    obtain ⟨m, y⟩ := x
    rw [storePut]
    split
    · rw [storeGet_cons, storeGet_cons, ih]
    · split
      · subst m
        rw [storeGet_cons, storeGet_cons, if_neg h.symm, if_neg h.symm]
      · rw [storeGet_cons, if_neg h.symm]

/-- A change of the stored records, slot by slot. -/
theorem storeGet_map (j : Nat) (f : Nat → LogRec → LogRec) (l : List (Nat × LogRec)) :
    storeGet j (l.map fun x => (x.1, f x.1 x.2)) = (storeGet j l).map (f j) := by
  induction l with
  | nil => rfl
  | cons x l ih =>
    obtain ⟨m, y⟩ := x
    rw [List.map_cons, storeGet_cons, storeGet_cons, ih]
    by_cases h : m = j
    · rw [if_pos h, if_pos h, h]; rfl
    · rw [if_neg h, if_neg h]

/-- A new record takes the slot of its number and leaves the others (R477, R478). -/
theorem LogS.writeNew_store (l : LogS) (code : Nat) (p : List Word) (rep : Nat) (sec : Word) (frac : BitVec 16) (beat : Word) :
    storeGet ((l.newest + 1).toNat % 131072) (l.writeNew code p rep sec frac beat).store =
      some { code := code, rep := rep, sec := sec, frac := frac, seq := l.newest + 1, p := pad4 p } ∧
    ∀ k, k ≠ (l.newest + 1).toNat % 131072 → storeGet k (l.writeNew code p rep sec frac beat).store = storeGet k l.store :=
  ⟨storeGet_storePut .., fun _ hk => storeGet_storePut_ne hk ..⟩

/-- A record with n more repeats, in the slot of the number q. -/
def LogRec.repeated (q : Word) (n k : Nat) (r : LogRec) : LogRec :=
  if k = q.toNat % logSlots ∧ r.seq = q then { r with rep := min 65535 (r.rep + n) } else r

/-- Repeats go to the stored record of their number (R482). -/
theorem LogS.writeRepeat_store (l : LogS) (q : Word) (n k : Nat) :
    storeGet k (l.writeRepeat q n).store = (storeGet k l.store).map (LogRec.repeated q n k) := by
  rw [← storeGet_map k (LogRec.repeated q n)]
  refine congrArg (storeGet k) (List.map_congr_left fun x _ => ?_)
  unfold LogRec.repeated
  by_cases h : x.1 = q.toNat % logSlots ∧ x.2.seq = q
  · rw [if_pos (by simpa using h), if_pos h]
  · rw [if_neg (by simpa using h), if_neg h]

/-! Writing the head of the queue (R479, R484) -/

theorem LogS.marker_none {l : LogS} (h : l.lost = none) : l.marker = l := by
  rw [LogS.marker, h]

/-- The marker touches neither the store nor the intake. -/
theorem LogS.marker_keeps (l : LogS) : l.marker.newest = l.newest ∧ l.marker.store = l.store ∧ l.marker.intake = l.intake := by
  unfold LogS.marker
  split
  · split <;> exact ⟨rfl, rfl, rfl⟩
  · exact ⟨rfl, rfl, rfl⟩

theorem LogS.marker_some {l : LogS} {n : Nat} {f g : Word} (h : l.lost = some (n, f, g)) (hroom : l.queue.length < 64) :
    l.marker = { l with
      queue := l.queue ++ [{ kind := .marker, code := 1, p := [nword n, f, g, 0], sec := l.snapSec, frac := l.snapFrac, beat := g }]
      lost := none } := by
  rw [LogS.marker, h]
  exact if_pos hroom

/-- The recorder after a new entry e has been written from the head of the queue, r behind it. -/
def LogS.wrote (l : LogS) (e : QEnt) (r : List QEnt) : LogS :=
  LogS.writeNew { l with queue := r } e.code e.p e.rep e.sec e.frac e.beat

/-- A new entry at the head is written as the next record (R479). -/
theorem LogS.writeHead_new {l : LogS} {e : QEnt} {r : List QEnt} (hq : l.queue = e :: r) (hk : e.kind = .new ∨ e.kind = .marker) :
    l.writeHead = (l.wrote e r).marker := by
  rw [LogS.writeHead, hq]
  rcases hk with hk | hk <;> simp only [LogS.writeEnt, hk, LogS.wrote]

theorem LogS.writeHead_repeat {l : LogS} {e : QEnt} {r : List QEnt} {q : Word} (hq : l.queue = e :: r) (hk : e.kind = .repeatOf q)
    (hl : l.lost = none) : l.writeHead = LogS.writeRepeat { l with queue := r } q e.rep := by
  have hent : LogS.writeEnt { l with queue := r } e = LogS.writeRepeat { l with queue := r } q e.rep := by rw [LogS.writeEnt, hk]
  rw [LogS.writeHead, hq]
  exact (congrArg LogS.marker hent).trans (LogS.marker_none hl)

theorem LogS.writeHead_empty {l : LogS} (hq : l.queue = []) (hl : l.lost = none) : l.writeHead = l := by
  rw [LogS.writeHead, hq]
  exact LogS.marker_none hl

/-! The write slot (R479, R486) -/

section

variable {s : State}

/-- A write slot that is due writes the head of the queue, or its clear takes it; the counts of its source move too. -/
theorem exec_recorderWriteSlot_due (hdue : s.log.slotDue = true) {l : LogS}
    (hl : l = if s.log.clearPtr.isSome then { s.log with slotDue := false }
      else if s.log.clear.isSome then { s.log with slotDue := false, clearPtr := some 0 }
      else { s.log.writeHead with slotDue := false }) :
    ∃ t, exec .recorderWriteSlot s = .next t ∧ t.log = l ∧ t = { s with log := t.log, sys := t.sys } := by
  subst hl
  exact ⟨s.writeSlot, congrArg Host.Outcome.next (if_pos hdue), rfl, rfl⟩

theorem exec_recorderWriteSlot_head (hdue : s.log.slotDue = true) (hc : s.log.clear = none) (hp : s.log.clearPtr = none) {l : LogS}
    (hl : s.log.writeHead = l) :
    ∃ t, exec .recorderWriteSlot s = .next t ∧ t.log = { l with slotDue := false } ∧ t = { s with log := t.log, sys := t.sys } :=
  exec_recorderWriteSlot_due hdue (by rw [hc, hp, hl]; rfl)

/-- No erase that has ended: nothing completes (R486). -/
theorem State.logCleared_not (h : s.log.clear = none ∨ s.log.clearPtr ≠ some 131072) : s.logCleared = s := by
  unfold State.logCleared
  split
  · rename_i p q hp hc
    have hne : p ≠ logSlots := by
      rintro rfl
      exact h.elim (by simp [hc]) (fun hn => hn hp)
    rw [if_neg hne]
  · rfl

/-- An event is in the intake before it is in a record. -/
theorem State.event_keepsRecords (p : Plane) (code : Nat) (ps : List Word) (s : State) :
    (s.event p code ps).log.store = s.log.store ∧ (s.event p code ps).log.queue = s.log.queue := by
  rw [State.event_log]
  split
  · exact ⟨rfl, rfl⟩
  · split <;> exact ⟨rfl, rfl⟩

/-! Records and captures (R474, R475, R488) -/

theorem pad4_length (p : List Word) : (pad4 p).length = 4 := by
  simp [pad4]

/-- The 30 bytes of a record before its CRC (R474). -/
def LogRec.body (r : LogRec) : List Byte :=
  bytesOf 2 r.code ++ bytesOf 2 r.rep ++ wordBytes r.sec ++ bytesOf 2 r.frac.toNat ++ wordBytes r.seq ++ (pad4 r.p).flatMap wordBytes

theorem LogRec.body_length (r : LogRec) : r.body.length = 30 := by
  simp [LogRec.body, pad4_length]

theorem LogRec.bytes_eq (r : LogRec) : r.bytes = r.body ++ [BitVec.ofNat 8 (crc8 r.body), r.mark] := rfl

/-- A record is its 30 bytes, their CRC and its mark. -/
theorem LogRec.bytes_parts (r : LogRec) : r.bytes.length = 32 ∧ r.bytes[31]? = some r.mark ∧
    r.bytes[30]? = some (BitVec.ofNat 8 (crc8 (r.bytes.take 30))) := by
  have hlen := r.body_length
  refine ⟨by simp [LogRec.bytes_eq, hlen], by simp [LogRec.bytes_eq, hlen], ?_⟩
  rw [LogRec.bytes_eq, List.take_left' hlen]
  simp [hlen]

end

end Sys2Proof.Machine

namespace Sys2Proof.Proofs
open Sys2Proof Sys2Proof.Machine

/-- Settles O58: the store after a write is the store before with one slot changed, whether a record is new or repeated. -/
theorem recorder : Obligations.Recorder := by
  refine ⟨?new, ?repeats, ?empty, fun s h => congrArg Host.Outcome.next (if_neg (by simp [h])), ?clearStarts, ?clearWaits, ?clears,
    ?clearsNot, ?completes, ?completesNot, fun s => ⟨rfl, rfl⟩, ?captured, ?unwritten, LogRec.bytes_parts, ?calendar⟩
  case new =>
    intro s e l hdue hq hk hc hp
    obtain ⟨t, hexec, hlog, hframe⟩ := exec_recorderWriteSlot_head hdue hc hp (LogS.writeHead_new hq hk)
    obtain ⟨hget, hother⟩ := LogS.writeNew_store { s.log with queue := l } e.code e.p e.rep e.sec e.frac e.beat
    obtain ⟨hnew, hstore, hin⟩ := (s.log.wrote e l).marker_keeps
    refine ⟨t, hexec, ?_, by rw [hlog], ?_, fun k hk' => ?_, fun hlost => ?_, fun n f g hlost hroom => ?_, ?_, hframe⟩
    · rw [hlog]; exact hnew
    · rw [hlog]; exact (congrArg (storeGet _) hstore).trans hget
    · rw [hlog]; exact (congrArg (storeGet k) hstore).trans (hother k hk')
    · rw [hlog, LogS.marker_none (l := s.log.wrote e l) hlost]; exact ⟨rfl, hlost⟩
    · rw [hlog, LogS.marker_some (l := s.log.wrote e l) hlost hroom]; exact ⟨rfl, rfl⟩
    · rw [hlog]; exact hin
  case repeats =>
    intro s e l q r hdue hq hk hc hp hlost hfind hseq
    obtain ⟨t, hexec, hlog, hframe⟩ := exec_recorderWriteSlot_head hdue hc hp (LogS.writeHead_repeat hq hk hlost)
    have hstore := LogS.writeRepeat_store { s.log with queue := l } q e.rep
    have hget : storeGet (q.toNat % 131072) s.log.store = some r := by rw [storeGet, hfind]; rfl
    refine ⟨t, hexec, by rw [hlog]; rfl, by rw [hlog], by rw [hlog]; rfl, ?_, fun k hk' => ?_, hframe⟩
    · rw [hlog]
      refine (hstore _).trans ?_
      rw [hget, Option.map_some, LogRec.repeated, if_pos ⟨rfl, hseq⟩]
    · rw [hlog]
      refine (hstore k).trans ?_
      have hid : LogRec.repeated q e.rep k = id := by
        funext x
        exact if_neg fun h => hk' h.1
      rw [hid, Option.map_id, id]
  case empty =>
    intro s hdue hq hc hp hlost
    exact exec_recorderWriteSlot_head hdue hc hp (LogS.writeHead_empty hq hlost)
  case clearStarts => exact fun s q hdue hc hp => exec_recorderWriteSlot_due hdue (by rw [hc, hp]; rfl)
  case clearWaits => exact fun s i hdue hp => exec_recorderWriteSlot_due hdue (by rw [hp]; rfl)
  case clears =>
    intro s p hcrowns hparked hc
    exact congrArg Host.Outcome.next (by simp [State.clearOk, hcrowns, hparked, hc])
  case clearsNot =>
    intro s p k h
    have hno : s.clearOk k = false := by
      rcases h with h | h | h | h
      · rw [State.clearOk, beq_false_of_ne h]; rfl
      all_goals simp [State.clearOk, h]
    exact congrArg Host.Outcome.next (by rw [hno]; rfl)
  case completes =>
    intro s q hc hp
    obtain ⟨hget, hother⟩ := s.log.writeNew_store 2 [q] 0 s.log.snapSec s.log.snapFrac s.beat.num
    have hcleared : s.logCleared = { s with log :=
        { s.log.writeNew 2 [q] 0 s.log.snapSec s.log.snapFrac s.beat.num with clear := none, clearPtr := none } } := by
      rw [State.logCleared, hp, hc]; rfl
    exact ⟨_, congrArg Host.Outcome.next hcleared, rfl, rfl, rfl, hget, hother, rfl, rfl⟩
  case completesNot =>
    exact fun s h => congrArg Host.Outcome.next (State.logCleared_not h)
  case captured => exact fun s r h => by rw [LogS.capture, show logSlots = 131072 from rfl, h]
  case unwritten => exact fun s h => by rw [LogS.capture, show logSlots = 131072 from rfl, h]; rfl
  case calendar =>
    intro s p f
    refine ⟨_, rfl, rfl, rfl, rfl, fun hshown hrun => ?_, fun hshown hrun => ?_, ?_, ?_, rfl⟩
    · simp [State.setCalendar, hshown, hrun, nword]
    · simp [State.setCalendar, hshown, hrun, nword]
    · exact (State.event_keepsRecords ..).1
    · exact (State.event_keepsRecords ..).2

end Sys2Proof.Proofs
end

section
/-! PROOFS. Copy, restore and import of the string history (R517-R521). -/

namespace Sys2Proof.Machine

/-! Words of a slot (R517) -/

theorem find?_keyPut (k : Nat) (w : Word) (l : List (Nat × Word)) : (keyPut k w l).find? (fun x => x.1 == k) = some (k, w) := by
  induction l with
  | nil => simp [keyPut]
  | cons x l ih =>
    rw [keyPut]
    split
    · rw [List.find?_cons_of_neg (by simp; omega), ih]
    · split <;> simp

/-- The slot of a unit after word k has been copied into it (R517, R518). -/
def HistSlot.copied (serial : BitVec 64) (addr : UAddr) (record code k : Nat) (w : Word) (h : HistSlot) : HistSlot :=
  { h with
    used := true, serial := serial, addr := addr, record := record, code := code
    seq := if k + 1 = histLen then (h.seq + 1) % 2 ^ 32 else h.seq
    words := if k < 8 then h.words else keyPut k w h.words }

theorem HistSlot.copied_word {k : Nat} (hk : 8 ≤ k) (serial : BitVec 64) (addr : UAddr) (record code : Nat) (w : Word) (h : HistSlot) :
    (h.copied serial addr record code k w).word k = w := by
  have hwords : (h.copied serial addr record code k w).words = keyPut k w h.words := if_neg (by omega)
  have hused : (h.copied serial addr record code k w).used = true := rfl
  rw [HistSlot.word, hused, hwords, if_neg (by simp), if_neg (by omega), find?_keyPut]
  rfl

section

variable {s : State}

/-- A copied word changes the slot of its unit alone. -/
theorem State.copyWord_hist {pos : Nat} {h : HistSlot} (hh : s.sys.hist[pos]? = some h) (k : Nat) (w : Word) :
    ∃ serial code, (s.copyWord pos k w).sys.hist =
      s.sys.hist.set pos (h.copied serial (s.unitAt pos) (s.chg.inForce.getD 0) code k w) := by
  refine ⟨if s.unitAt pos = s.addr then s.sys.serial else ((s.unit? (s.unitAt pos)).map (·.serial)).getD 0,
    (s.record.map (·.code)).getD 255, ?_⟩
  rw [← modify_eq_set hh]
  rfl

/-- Words are copied of a unit of the string while the Master is active and no swap is pending (R518). -/
theorem exec_histCopy_due {u : BitVec 8} (ha : s.ring.active = true) (hpow : s.powered = true)
    (hunit : s.ringOrder.contains (uAddr (uStr s.addr) u.toNat) = true) (hswap : s.chg.swapPend = false) {k : Nat} (hk : k < histLen)
    (w : Word) : exec (.histCopy u [(k, w)]) s =
      .next (s.copyWord u.toNat k (if s.unitAt u.toNat = s.addr then s.ownHist k else w)) := by
  refine (congrArg Host.Outcome.next (if_pos ?_)).trans (congrArg Host.Outcome.next (if_pos hk))
  rw [show s.ringOrder.contains (s.unitAt u.toNat) = true from hunit]
  simp [State.master, ha, hpow, hswap]

theorem exec_histCopy_not {u : BitVec 8} (h : s.chg.swapPend = true ∨ s.ring.active = false ∨
    s.ringOrder.contains (uAddr (uStr s.addr) u.toNat) = false) (l : List (Nat × Word)) : exec (.histCopy u l) s = .next s := by
  refine congrArg Host.Outcome.next (if_neg ?_)
  rcases h with h | h | h
  · simp [h]
  · simp [State.master, h]
  · rw [show s.ringOrder.contains (s.unitAt u.toNat) = false from h]; simp

/-! The record in force (R519) -/

theorem State.setRecord_record (s : State) (f : IdRec → IdRec) : (s.setRecord f).record = s.record.map f := by
  unfold State.setRecord State.record
  cases s.chg.inForce with
  | none => rfl
  | some r => exact List.getElem?_modify_eq ..

/-- What a restored entry leaves: the default table and the code of the record in force, and everything but the records. -/
def State.restoreView (s : State) : Option (List (Int × Int) × Nat) × State :=
  (s.record.map fun r => (r.dflt, r.code), { s with chg := {} })

theorem State.restoreEntry_view (k : Nat) (w : Word) (s : State) : (s.restoreEntry k w).restoreView = s.restoreView := by
  unfold State.restoreView State.restoreEntry
  rw [State.setRecord_record, Option.map_map]
  rfl

/-- Entries restored one after the other leave it too. -/
theorem State.restoreEntries_view (l : List (Nat × Word)) (s : State) :
    (runAll (fun (x : Nat × Word) t => t.restoreEntry x.1 x.2) l s).restoreView = s.restoreView := by
  induction l generalizing s with
  | nil => rfl
  | cons x l ih => exact (ih _).trans (State.restoreEntry_view ..)

/-- The Master's own table is restored at once. -/
theorem State.restoreBegin_own {pos : Nat} {r : IdRec} (hr : s.restorable pos = true) (hown : s.unitAt pos = s.addr)
    (hrec : s.record = some r) : ∃ x, (s.restoreBegin pos).record = some x ∧ x.dflt = s.defaultTable ∧ x.code = r.code ∧
      s.restoreBegin pos = { s with chg := (s.restoreBegin pos).chg } := by
  rw [State.restoreBegin, if_neg (by simp [hr]), if_pos hown]
  have hview := State.restoreEntries_view (s.sys.hist[pos]?.getD {}).words
    (s.setRecord fun r => { r with table := [], dflt := s.defaultTable })
  generalize runAll _ _ _ = t at hview
  obtain ⟨hmap, hrest⟩ := Prod.mk.inj hview
  rw [State.setRecord_record, hrec, Option.map_some, Option.map_some, Option.map_eq_some_iff] at hmap
  obtain ⟨x, hx, hxe⟩ := hmap
  obtain ⟨hdflt, hcode⟩ := Prod.mk.inj hxe
  exact ⟨x, hx, hdflt, hcode, congrArg (fun u : State => { u with chg := t.chg }) hrest⟩

theorem State.restoreBegin_other {pos : Nat} (hr : s.restorable pos = true) (hother : s.unitAt pos ≠ s.addr) :
    s.restoreBegin pos = { s with sys := { s.sys with restore := some (BitVec.ofNat 8 pos), restorePtr := 0 } } := by
  rw [State.restoreBegin, if_neg (by simp [hr]), if_neg hother]
  rfl

theorem State.restoreBegin_not {pos : Nat} (hr : s.restorable pos = false) : s.restoreBegin pos = s := by
  rw [State.restoreBegin, if_pos (by simp [hr])]

/-- A unit that is restored over the ring opens its window in Parked with a record in force. -/
theorem exec_histRestore_ring (s : State) :
    exec (.histRestore .ring 0xC3) s = .next (if s.parked && s.chg.inForce.isSome then s.restoreOpen else s) := rfl

/-! Words written to the window (R519-R521) -/

theorem State.importTake_lapsed (h : s.crowns = false ∨ s.parked = false ∨ s.ring.role.toNat < 2) (d : Word) :
    s.importTake d = { s with sys := { s.sys with importing := false, winBuf := [] } } := by
  have hno : s.importOk = false := by
    rcases h with h | h | h
    · simp [State.importOk, h]
    · simp [State.importOk, h]
    · rw [State.importOk, decide_eq_false (by omega)]; rfl
  rw [State.importTake, if_pos (by simp [hno])]
  rfl

/-- A word of an import changes the records and the slots alone. -/
theorem State.importWord_frame (w : Nat) (b prev : List Byte) (s : State) :
    ∃ chg hist, s.importWord w b prev = { s with chg := chg, sys := { s.sys with hist := hist } } := by
  unfold State.importWord
  split
  · exact ⟨s.chg, s.sys.hist, rfl⟩
  · split
    · exact ⟨_, s.sys.hist, rfl⟩
    · exact ⟨s.chg, _, rfl⟩

/-- Before its last word an import goes on to the next. -/
theorem State.importTake_goes (h : s.importOk = true) (hk : s.sys.histPtr + 1 < 8 * exportLen) (d : Word) :
    (s.importTake d).sys.histPtr = s.sys.histPtr + 1 ∧ (s.importTake d).sys.importing = s.sys.importing ∧
    s.importTake d = { s with sys := (s.importTake d).sys, chg := (s.importTake d).chg } := by
  rw [State.importTake, if_neg (by simp [h])]
  dsimp only
  rw [if_neg (by omega)]
  split
  · obtain ⟨chg, hist, hw⟩ := State.importWord_frame (s.sys.histPtr / 8)
      (((s.sys.winBuf ++ [d]).drop ((s.sys.winBuf ++ [d]).length - 8)).flatMap wordBytes)
      (((s.sys.winBuf ++ [d]).take 8).flatMap wordBytes) s
    rw [hw]
    exact ⟨rfl, rfl, rfl⟩
  · exact ⟨rfl, rfl, rfl⟩

theorem State.restoreTake_lapsed (h : s.parked = false) (d : Word) :
    s.restoreTake d = { s with sys := { s.sys with restoreIn := false } } := by
  rw [State.restoreTake, if_pos (by simp [h])]
  rfl

/-- A word of a restore moves the pointer, and an entry goes into the record's table. -/
theorem State.restoreTake_goes (h : s.parked = true) (d : Word) :
    (s.restoreTake d).sys = { s.sys with
      histPtr := if s.sys.histPtr + 1 = 7688 then 0 else s.sys.histPtr + 1, restoreIn := s.sys.histPtr + 1 != 7688 } ∧
    (s.sys.histPtr < 8 → (s.restoreTake d).chg = s.chg) ∧
    s.restoreTake d = { s with sys := (s.restoreTake d).sys, chg := (s.restoreTake d).chg } := by
  rw [State.restoreTake, if_neg (by simp [h])]
  dsimp only
  by_cases hk : 8 ≤ s.sys.histPtr
  · rw [if_pos hk]
    exact ⟨rfl, fun hlt => absurd hk (by omega), rfl⟩
  · rw [if_neg hk]
    exact ⟨rfl, fun _ => rfl, rfl⟩

theorem State.winWrite_ignored (hi : s.sys.importing = false) (hr : s.sys.restoreIn = false) (d : Word) : s.winWrite d = s := by
  rw [State.winWrite, hi, hr]; rfl

theorem State.winWrite_restore (hi : s.sys.importing = false) (hr : s.sys.restoreIn = true) (d : Word) :
    s.winWrite d = s.restoreTake d := by
  rw [State.winWrite, hi, hr]; rfl

end

end Sys2Proof.Machine

namespace Sys2Proof.Proofs
open Sys2Proof Sys2Proof.Machine

/-- Settles O53: a copy sets one slot, a restore sets the record's table, a window's word goes to the import or the restore under way. -/
theorem stringHistory : Obligations.StringHistory := by
  refine ⟨?copies, fun s u l => ?two, fun s u l h => exec_histCopy_not h l, fun s hr hother => ?restoreOther, ?restoreOwn, ?restoreNot,
    ?ringOpens, ?ringNot, ?noKey, ?imports, ?importsNot, fun s p => rfl, ?ignored, ?restoring, ?importing⟩
  case copies =>
    intro s u k w h ha hpow hunit hswap hk hk' hh
    obtain ⟨serial, code, hhist⟩ := State.copyWord_hist hh k (if s.unitAt u.toNat = s.addr then s.ownHist k else w)
    refine ⟨_, h.copied serial (s.unitAt u.toNat) (s.chg.inForce.getD 0) code k (if s.unitAt u.toNat = s.addr then s.ownHist k else w),
      exec_histCopy_due ha hpow hunit hswap hk' w, ?_, rfl, HistSlot.copied_word hk .., rfl, rfl, fun hlast => if_pos hlast,
      fun hlast => if_neg hlast, fun j hj => ?_, rfl⟩
    · rw [hhist, List.getElem?_set_self (List.getElem?_eq_some_iff.1 hh).1]
    · rw [hhist, List.getElem?_set_ne hj.symm]
  case two =>
    show Host.Outcome.next _ = Host.Outcome.next _
    rw [List.take_take, Nat.min_self]
  case restoreOther => exact congrArg Host.Outcome.next (State.restoreBegin_other hr hother)
  case restoreOwn =>
    intro s r hr hown hrec
    obtain ⟨x, hx⟩ := State.restoreBegin_own hr hown hrec
    exact ⟨_, x, rfl, hx⟩
  case restoreNot => exact fun s hr => congrArg Host.Outcome.next (State.restoreBegin_not hr)
  case ringOpens =>
    intro s r hpark hforce hrec
    refine ⟨s.restoreOpen, (exec_histRestore_ring s).trans (congrArg _ (if_pos (by simp [hpark, hforce]))), rfl, ?_, rfl⟩
    exact (State.setRecord_record ..).trans (by rw [hrec]; rfl)
  case ringNot =>
    intro s h
    refine (exec_histRestore_ring s).trans (congrArg _ (if_neg ?_))
    rcases h with h | h <;> simp [h]
  case noKey => exact fun s p key hkey => congrArg Host.Outcome.next (if_neg (by simpa using hkey))
  case imports =>
    intro s p hrole hcrowns hpark
    exact congrArg Host.Outcome.next (if_pos (by simp [State.importOk, hrole, hcrowns, hpark]))
  case importsNot =>
    intro s p key h
    refine congrArg Host.Outcome.next (if_neg ?_)
    rcases h with h | h | h | h
    · rw [beq_false_of_ne h]; exact Bool.false_ne_true
    · simp [State.importOk, h]
    · simp [State.importOk, h]
    · simp [State.importOk, Nat.not_le.2 h]
  case ignored =>
    intro s p w hi hr
    exact congrArg Host.Outcome.next (State.winWrite_ignored hi hr w)
  case restoring =>
    intro s p w hi hr
    refine ⟨s.restoreTake w, congrArg Host.Outcome.next (State.winWrite_restore hi hr w), fun h => State.restoreTake_lapsed h w, ?_⟩
    cases hpark : s.parked with
    | true =>
      obtain ⟨hsys, hchg, hframe⟩ := State.restoreTake_goes hpark w
      exact ⟨fun _ => hsys, hchg, hframe⟩
    | false =>
      rw [State.restoreTake_lapsed hpark w]
      exact ⟨fun h => absurd h (by simp), fun _ => rfl, rfl⟩
  case importing =>
    intro s p w hi
    refine ⟨s.importTake w, congrArg Host.Outcome.next (if_pos hi), fun h => State.importTake_lapsed h w,
      fun hrole hcrowns hpark hlen => ?_⟩
    obtain ⟨hptr, himp, hframe⟩ := State.importTake_goes (by simp [State.importOk, hrole, hcrowns, hpark]) hlen w
    exact ⟨hptr, himp.trans hi, hframe⟩

end Sys2Proof.Proofs
end

section
/-! PROOFS. Transactions of the host port and requests for another unit (R454-R469, R542). -/

namespace Sys2Proof.Machine

/-! A reply (R454, R456) -/

theorem Reply.sealed_crc (r : Reply) : r.sealed.crc = crc16 r.sealed.bytes := rfl

/-- What a reply says, with its CRC. -/
theorem State.replyNow_fields (s : State) (rseq : BitVec 8) (status : Nat) (data : List Word) :
    (s.replyNow rseq status data).rseq = rseq ∧ (s.replyNow rseq status data).status = status ∧
    (s.replyNow rseq status data).data = data ∧ (s.replyNow rseq status data).crc = crc16 (s.replyNow rseq status data).bytes :=
  ⟨rfl, rfl, rfl, rfl⟩

/-! A transaction (R460, R542) -/

/-- The state in which a request with a right CRC is judged: the burst before it has ended, and a request for the unit counts. -/
def State.heard (mine : Bool) (s : State) : State :=
  if mine then ({ s with host := { s.host with burst := none } }).hostHeard else { s with host := { s.host with burst := none } }

/-- A request that is carried out on t: so many of its accesses as an NMI leaves. -/
def State.carriedOut (rseq : BitVec 8) (bytes : List Byte) (n : Nat) (run : Nat → State → Nat × List Word × State) (t : State) : State :=
  (run (t.nmiHit.getD n) t).2.2.answered rseq bytes (if t.nmiHit.getD n < n then 5 else (run (t.nmiHit.getD n) t).1)
    (run (t.nmiHit.getD n) t).2.1 ((if t.nmiHit.getD n < n then 5 else (run (t.nmiHit.getD n) t).1) != 5)

section

variable {s : State} {rseq : BitVec 8} {bytes : List Byte} {exempt mine : Bool} {n : Nat} {run : Nat → State → Nat × List Word × State}

theorem State.heard_host (mine : Bool) (s : State) :
    (s.heard mine).host = { s.host with burst := none, addressed := s.host.addressed || mine } := by
  cases mine
  · rw [Bool.or_false]; rfl
  · rw [Bool.or_true]; rfl

/-- Before it is carried out a request changes the host's values alone. -/
theorem State.heard_eq (mine : Bool) (s : State) : s.heard mine = { s with host := (s.heard mine).host } := by
  cases mine <;> rfl

theorem State.heard_nmiHit (mine : Bool) (s : State) : (s.heard mine).nmiHit = s.nmiHit := by
  rw [State.heard_eq]; rfl

theorem State.transact_down (hup : s.hostUp = false) :
    s.transact rseq bytes exempt mine n run = { s with host := { s.host with reply := none } } := by
  rw [State.transact, if_pos (by simp [hup])]

theorem State.transact_injected (hup : s.hostUp = true) (hinj : s.injectsHost = true) :
    s.transact rseq bytes exempt mine n run = s.crcInjected rseq := by
  rw [State.transact, if_neg (by simp [hup]), if_pos hinj]

theorem State.transact_judged (hup : s.hostUp = true) (hinj : s.injectsHost = false) :
    s.transact rseq bytes exempt mine n run =
      match (s.heard mine).host.repeated bytes exempt with
      | some r => { s.heard mine with host := { (s.heard mine).host with reply := some ((s.heard mine).replyNow r.rseq 8 r.data) } }
      | none => (s.heard mine).carriedOut rseq bytes n run := by
  rw [State.transact, if_neg (by simp [hup]), if_neg (by simp [hinj])]
  rfl

/-- A request that is no repeat is carried out. -/
theorem State.transact_new (hup : s.hostUp = true) (hinj : s.injectsHost = false)
    (hnew : (s.host.lastReq.any fun l => l.bytes == bytes) = false ∨ exempt = true) :
    s.transact rseq bytes exempt mine n run = (s.heard mine).carriedOut rseq bytes n run := by
  have hrep : (s.heard mine).host.repeated bytes exempt = none := by
    rw [State.heard_host, HostS.repeated]
    rcases hnew with hnew | hnew
    · cases hl : s.host.lastReq with
      | none => rfl
      | some l =>
        rw [hl, Option.any_some] at hnew
        simp [hnew]
    · simp [hnew]
      cases s.host.lastReq <;> rfl
  rw [State.transact_judged hup hinj, hrep]

/-- A repeat is answered from store (R460). -/
theorem State.transact_repeat {r : Reply} (hup : s.hostUp = true) (hinj : s.injectsHost = false)
    (hlast : s.host.lastReq = some ⟨bytes, r⟩) :
    s.transact rseq bytes false mine n run =
      { s.heard mine with host := { (s.heard mine).host with reply := some ((s.heard mine).replyNow r.rseq 8 r.data) } } := by
  have hrep : (s.heard mine).host.repeated bytes false = some r := by
    rw [State.heard_host, HostS.repeated]
    simp [hlast]
  rw [State.transact_judged hup hinj, hrep]

/-- Without an NMI every access of a request is carried out. -/
theorem State.carriedOut_whole {t : State} (hnmi : t.nmiHit = none) : t.carriedOut rseq bytes n run =
    (run n t).2.2.answered rseq bytes (run n t).1 (run n t).2.1 ((run n t).1 != 5) := by
  rw [State.carriedOut, hnmi, Option.getD_none, if_neg (Nat.lt_irrefl n)]

/-- What an answered request leaves: SYS_SEQ, the reply and, but for STATUS 5, the stored request. -/
theorem State.answered_host (rseq : BitVec 8) (bytes : List Byte) (status : Nat) (data : List Word) (store : Bool) (t : State) :
    (t.answered rseq bytes status data store).host = { t.host with
      seqLast := rseq, seqStatus := status, reply := some (t.replyNow rseq status data)
      lastReq := if store then some ⟨bytes, t.replyNow rseq status data⟩ else t.host.lastReq } := rfl

theorem State.answered_eq (rseq : BitVec 8) (bytes : List Byte) (status : Nat) (data : List Word) (store : Bool) (t : State) :
    t.answered rseq bytes status data store = { t with
      host := (t.answered rseq bytes status data store).host, sys := (t.answered rseq bytes status data store).sys
      flt := { t.flt with nmi := none } } := rfl

/-! Requests for another unit (R467, R468) -/

section

variable {v : UAddr} {write tr : Bool} {addr : BitVec 14} {data : Word}

theorem State.relayRequest_noPath (h : s.relayPath v = none) : s.relayRequest v write addr data = (2, noData write, s) := by
  rw [State.relayRequest, h]

theorem State.relayRequest_absent (h : s.relayPath v = some tr) (hp : s.relayPresent v tr = false) :
    s.relayRequest v write addr data = (10, noData write, s) := by
  rw [State.relayRequest, h]
  exact if_pos (by simp [hp])

theorem State.relayRequest_full (h : s.relayPath v = some tr) (hp : s.relayPresent v tr = true) (hfull : 32 ≤ s.host.relays.length) :
    s.relayRequest v write addr data = (5, noData write, s) := by
  rw [State.relayRequest, h]
  exact (if_neg (by simp [hp])).trans (if_pos hfull)

theorem State.relayRequest_queued (h : s.relayPath v = some tr) (hp : s.relayPresent v tr = true) (hroom : s.host.relays.length < 32) :
    s.relayRequest v write addr data = (7, [place s.host.nextTag.toNat 0 8],
      { s.tally 20 1 with host := { s.host with
          nextTag := s.host.nextTag + 1
          relays := s.host.relays ++
            [{ tag := s.host.nextTag, unit := v, write := write, addr := addr, data := data, trunk := tr }] } }) := by
  rw [State.relayRequest, h]
  exact (if_neg (by simp [hp])).trans (if_neg (by omega))

/-- A request for another unit changes the host's values and its count. -/
theorem State.relayRequest_frame (v : UAddr) (write : Bool) (addr : BitVec 14) (data : Word) (s : State) :
    ∃ relays tag sys, (s.relayRequest v write addr data).2.2 =
      { s with host := { s.host with relays := relays, nextTag := tag }, sys := sys } := by
  unfold State.relayRequest
  split
  · exact ⟨_, _, _, rfl⟩
  · split
    · exact ⟨_, _, _, rfl⟩
    · split <;> exact ⟨_, _, _, rfl⟩

end

/-- The state that a request for another unit leaves. -/
def State.relayed (rseq : BitVec 8) (bytes : List Byte) (v : UAddr) (write : Bool) (addr : BitVec 14) (data : Word) (s : State) : State :=
  ((s.heard false).relayRequest v write addr data).2.2.answered rseq bytes ((s.heard false).relayRequest v write addr data).1
    ((s.heard false).relayRequest v write addr data).2.1 (((s.heard false).relayRequest v write addr data).1 != 5)

/-- A request for another unit that no NMI meets is queued or refused (R467, R468, R542). -/
theorem State.transact_relayed {v : UAddr} {write : Bool} {addr : BitVec 14} {data : Word} (hup : s.hostUp = true)
    (hinj : s.injectsHost = false) (hnmi : s.nmiHit = none) (hnew : (s.host.lastReq.any fun l => l.bytes == bytes) = false) :
    s.transact rseq bytes exempt false 1 (relayRun v write addr data) = s.relayed rseq bytes v write addr data := by
  rw [State.transact_new hup hinj (.inl hnew), State.carriedOut_whole ((State.heard_nmiHit ..).trans hnmi)]
  rfl

/-- A relayed request leaves the unit's own values; it is answered by what became of it. -/
theorem State.relayed_fields {v : UAddr} {write : Bool} {addr : BitVec 14} {data : Word} :
    (s.relayed rseq bytes v write addr data).host.addressed = s.host.addressed ∧
    (s.relayed rseq bytes v write addr data).host.seqLast = rseq ∧
    s.relayed rseq bytes v write addr data = { s with
      host := (s.relayed rseq bytes v write addr data).host, sys := (s.relayed rseq bytes v write addr data).sys
      flt := { s.flt with nmi := none } } := by
  obtain ⟨relays, tag, sys, hframe⟩ := State.relayRequest_frame v write addr data (s.heard false)
  rw [State.relayed, hframe]
  exact ⟨rfl, rfl, rfl⟩

/-- The answer to a request that is refused: its STATUS, no data, and nothing queued. -/
theorem State.relayed_refused {v : UAddr} {write : Bool} {addr : BitVec 14} {data : Word} {status : Nat}
    (h : (s.heard false).relayRequest v write addr data = (status, noData write, s.heard false)) :
    (s.relayed rseq bytes v write addr data).host.seqStatus = status ∧
    (s.relayed rseq bytes v write addr data).host.reply.map (·.data) = some (noData write) ∧
    (s.relayed rseq bytes v write addr data).host.relays = s.host.relays := by
  rw [State.relayed, h]
  exact ⟨rfl, rfl, rfl⟩

/-- The answer to a request that is queued: STATUS 7 with its tag. -/
theorem State.relayed_queued {v : UAddr} {write tr : Bool} {addr : BitVec 14} {data : Word} (h : s.relayPath v = some tr)
    (hp : s.relayPresent v tr = true) (hroom : s.host.relays.length < 32) :
    (s.relayed rseq bytes v write addr data).host.seqStatus = 7 ∧
    (s.relayed rseq bytes v write addr data).host.reply.map (·.data) = some [place s.host.nextTag.toNat 0 8] ∧
    (s.relayed rseq bytes v write addr data).host.nextTag = s.host.nextTag + 1 ∧
    (s.relayed rseq bytes v write addr data).host.relays = s.host.relays ++
      [{ tag := s.host.nextTag, unit := v, write := write, addr := addr, data := data, trunk := tr }] := by
  rw [State.relayed, State.relayRequest_queued (s := s.heard false) h hp hroom]
  exact ⟨rfl, rfl, rfl, rfl⟩

/-! Their answers (R468, R469) -/

theorem exec_remoteAnswer_none {tag : BitVec 8} (h : s.relayOf tag = none) (st : BitVec 4) (a : BitVec 14) (d : Word) :
    exec (.remoteAnswer tag st a d) s = .next s := by
  refine congrArg Host.Outcome.next ?_
  rw [h, State.remoteAnswer, h]

/-- A final answer ends the request with its report. -/
theorem State.remoteAnswer_ends {tag : BitVec 8} {r : Relay} {status : Nat} (h : s.relayOf tag = some r)
    (hend : status ≠ 4 ∨ r.resent = true) (a : BitVec 14) (d : Word) :
    s.remoteAnswer tag status a d = { s with
      host := HostS.report { s.host with relays := s.host.relays.filter (fun x => x.tag != tag) } 1 tag.toNat
        (place status 0 4 ||| place r.unit.toNat 16 16) (nword a.toNat) (if status = 1 ∧ !r.write then d else 0) } := by
  rw [State.remoteAnswer, h]
  refine if_neg ?_
  rcases hend with hne | hre
  · simp [hne]
  · simp [hre]

/-- The first stale-role answer sends the request again. -/
theorem State.remoteAnswer_again {tag : BitVec 8} {r : Relay} (h : s.relayOf tag = some r) (hre : r.resent = false) (a : BitVec 14)
    (d : Word) : ∃ ring, s.remoteAnswer tag 4 a d = { s with
      ring := ring, host := { s.host with
        relays := s.host.relays.map fun x => if x.tag == tag then { x with resent := true, sentAt := none } else x } } ∧
      ring.staleRx = s.ring.staleRx := by
  rw [State.remoteAnswer, h]
  exact ⟨_, if_pos (by simp [hre]), rfl⟩

/-- What a stale-role answer counts, and the roster entry that it updates. -/
theorem State.staleHeard_eq (v : UAddr) (d : Word) (s : State) : ∃ ring sys, s.staleHeard v d = { s with ring := ring, sys := sys } ∧
    ring.staleRx = incSat 65535 s.ring.staleRx :=
  ⟨_, _, rfl, rfl⟩

theorem exec_remoteAnswer_final {tag : BitVec 8} {st : BitVec 4} (hst : st ≠ 4) {r : Relay} (h : s.relayOf tag = some r) (a : BitVec 14)
    (d : Word) : exec (.remoteAnswer tag st a d) s = .next (s.remoteAnswer tag st.toNat a d) := by
  show Host.Outcome.next _ = _
  rw [h]
  exact congrArg (fun t : State => Host.Outcome.next (t.remoteAnswer tag st.toNat a d)) (if_neg hst)

theorem exec_remoteAnswer_stale {tag : BitVec 8} {r : Relay} (h : s.relayOf tag = some r) (a : BitVec 14) (d : Word) :
    exec (.remoteAnswer tag 4 a d) s = .next ((s.staleHeard r.unit d).remoteAnswer tag 4 a d) := by
  show Host.Outcome.next _ = _
  rw [h]
  rfl

/-! Their limits (R469) -/

theorem Relay.expired_of_sent {r : Relay} {b : Word} (hb : r.sentAt = some b) (now : Word) :
    r.expired now = decide ((if r.trunk then 11 else 4) ≤ (now - b).toNat) := by
  rw [Relay.expired, hb]

end

end Sys2Proof.Machine

namespace Sys2Proof.Proofs
open Sys2Proof Sys2Proof.Machine

/-- Settles O56: a request for another unit that is carried out is one of four answers, and its own answer one of three reports. -/
theorem remoteRequests : Obligations.RemoteRequests := by
  refine ⟨?reads, ?writes, ?answered, ?staleAgain, ?stale, ?unknown, ?limit⟩
  case reads =>
    intro s rseq u a tr hup hinj hlocal hnmi hnew
    have hexec : exec (.hostRead rseq u a) s =
        .next (s.relayed rseq (reqBytes (reqHeader rseq 0 u a) none []) (s.hostTarget u) false a 0) := by
      refine congrArg Host.Outcome.next ?_
      rw [State.hostRead, hlocal]
      exact State.transact_relayed hup hinj hnmi hnew
    obtain ⟨haddr, hseq, hframe⟩ := State.relayed_fields (s := s) (rseq := rseq) (v := s.hostTarget u) (write := false) (addr := a)
      (data := 0) (bytes := reqBytes (reqHeader rseq 0 u a) none [])
    refine ⟨_, hexec, haddr, hseq, fun h => ?_, fun h hp => ?_, fun h hp hfull => ?_, fun h hp hroom => ?_, hframe⟩
    · exact State.relayed_refused (State.relayRequest_noPath (s := s.heard false) h)
    · obtain ⟨hst, -, hrel⟩ := State.relayed_refused (rseq := rseq) (bytes := reqBytes (reqHeader rseq 0 u a) none [])
        (State.relayRequest_absent (s := s.heard false) (write := false) (addr := a) (data := 0) h hp)
      exact ⟨hst, hrel⟩
    · obtain ⟨hst, -, hrel⟩ := State.relayed_refused (rseq := rseq) (bytes := reqBytes (reqHeader rseq 0 u a) none [])
        (State.relayRequest_full (s := s.heard false) (write := false) (addr := a) (data := 0) h hp hfull)
      exact ⟨hst, hrel⟩
    · exact State.relayed_queued h hp hroom
  case writes =>
    intro s rseq u a d tr hup hinj hlocal hnmi hnew
    have hexec : exec (.hostWrite rseq u a d) s =
        .next (s.relayed rseq (reqBytes (reqHeader rseq 1 u a) none [d]) (s.hostTarget u) true a d) := by
      refine congrArg Host.Outcome.next ?_
      rw [State.hostWrite, hlocal]
      exact State.transact_relayed hup hinj hnmi hnew
    obtain ⟨haddr, hseq, hframe⟩ := State.relayed_fields (s := s) (rseq := rseq) (v := s.hostTarget u) (write := true) (addr := a)
      (data := d) (bytes := reqBytes (reqHeader rseq 1 u a) none [d])
    refine ⟨_, hexec, haddr, hseq, fun h => ?_, fun h hp => ?_, fun h hp hroom => ?_, hframe⟩
    · exact State.relayed_refused (State.relayRequest_noPath (s := s.heard false) h)
    · exact State.relayed_refused (State.relayRequest_absent (s := s.heard false) h hp)
    · obtain ⟨hst, -, -, hrel⟩ := State.relayed_queued (rseq := rseq) (bytes := reqBytes (reqHeader rseq 1 u a) none [d])
        (write := true) (addr := a) (data := d) h hp hroom
      exact ⟨hst, hrel⟩
  case answered =>
    intro s r st a d h hst
    rw [exec_remoteAnswer_final hst h, State.remoteAnswer_ends h (.inl fun h4 => hst (BitVec.eq_of_toNat_eq h4))]
  case staleAgain =>
    intro s r a d h hre
    obtain ⟨ring, sys, hheard, hrx⟩ := State.staleHeard_eq r.unit d s
    have hrel : (s.staleHeard r.unit d).relayOf r.tag = some r := by rw [hheard]; exact h
    refine ⟨_, (exec_remoteAnswer_stale h a d).trans (congrArg _ (State.remoteAnswer_ends hrel (.inr hre) a d)), ?_⟩
    rw [hheard]
    exact ⟨rfl, hrx, rfl⟩
  case stale =>
    intro s r a d h hre
    obtain ⟨ring, sys, hheard, hrx⟩ := State.staleHeard_eq r.unit d s
    have hrel : (s.staleHeard r.unit d).relayOf r.tag = some r := by rw [hheard]; exact h
    obtain ⟨ring', hagain, hrx'⟩ := State.remoteAnswer_again hrel hre a d
    refine ⟨_, (exec_remoteAnswer_stale h a d).trans (congrArg _ hagain), ?_⟩
    rw [hheard] at hrx' ⊢
    exact ⟨rfl, rfl, hrx'.trans hrx, rfl⟩
  case unknown =>
    intro s tag st a d h
    refine ⟨exec_remoteAnswer_none h st a d, congrArg Host.Outcome.next ?_⟩
    rw [State.remoteTimeout, h]
  case limit =>
    intro s r b h hb
    refine ⟨fun hlate => congrArg Host.Outcome.next ?_, fun hearly => congrArg Host.Outcome.next ?_⟩
    · rw [State.remoteTimeout, h]
      exact if_neg (by rw [Relay.expired_of_sent hb, decide_eq_true hlate]; exact Bool.false_ne_true)
    · rw [State.remoteTimeout, h]
      exact if_pos (by rw [Relay.expired_of_sent hb, decide_eq_false (Nat.not_le.2 hearly)]; rfl)

end Sys2Proof.Proofs
end

section
/-! PROOFS. What the host's accesses leave of the port's own marks: the burst read under way and the transaction heard in a beat
(R323, R458, R462). -/

namespace Sys2Proof.Machine

/-- The state with other marks of the host port: the burst read under way, and whether a transaction has been heard in this beat. -/
def State.withMarks (b : Option BurstRead) (c : Bool) (s : State) : State :=
  { s with host := { s.host with burst := b, addressed := c } }

/-- f neither reads nor writes the marks of the host port. -/
structure MarkBlind (f : State → State) : Prop where
  marks : ∀ b c s, f (s.withMarks b c) = (f s).withMarks b c

/-! Blind steps -/

theorem MarkBlind.same : MarkBlind fun s => s := ⟨fun _ _ _ => rfl⟩

theorem MarkBlind.comp {f g : State → State} (hf : MarkBlind f) (hg : MarkBlind g) : MarkBlind fun s => f (g s) :=
  ⟨fun b c s => (congrArg f (hg.marks b c s)).trans (hf.marks b c (g s))⟩

theorem MarkBlind.ite {p : State → Prop} [∀ s, Decidable (p s)] {f g : State → State} (hp : ∀ b c s, p (s.withMarks b c) ↔ p s)
    (hf : MarkBlind f) (hg : MarkBlind g) : MarkBlind fun s => if p s then f s else g s := by
  refine ⟨fun b c s => ?_⟩
  simp only [hp b c s, hf.marks b c s, hg.marks b c s]
  exact (apply_ite (State.withMarks b c) (p s) (f s) (g s)).symm

/-- A choice that is not the state's. -/
theorem MarkBlind.cond {p : Prop} [Decidable p] {f g : State → State} (hf : MarkBlind f) (hg : MarkBlind g) :
    MarkBlind fun s => if p then f s else g s := .ite (p := fun _ => p) (fun _ _ _ => Iff.rfl) hf hg

/-- A step that takes a value which the marks do not change. -/
theorem MarkBlind.at {α : Type} {g : State → α} {f : α → State → State} (hg : ∀ b c s, g (s.withMarks b c) = g s)
    (hf : ∀ x, MarkBlind (f x)) : MarkBlind fun s => f (g s) s := by
  refine ⟨fun b c s => ?_⟩
  simp only [hg b c s]
  exact (hf _).marks b c s

theorem MarkBlind.runAll {α : Type} {f : α → State → State} (hf : ∀ x, MarkBlind (f x)) (l : List α) : MarkBlind (runAll f l) := by
  induction l with
  | nil => exact .same
  | cons x l ih => exact .comp (f := Machine.runAll f l) ih (hf x)

/-! Raises (R365-R374) -/

/-- The source after the W1C writes f of it have acted (R367). -/
def State.w1cActed (fs : Nat) (f : FltS) (t : State) : State :=
  { t with flt := { t.flt with
      src := t.flt.src.modify fs fun x =>
        (fun y : FsSrc => if f.w1cLatch.contains fs then y.clearLatch else y) (if f.w1cSevl.contains fs then x.clearSevl else x)
      w1cLatch := t.flt.w1cLatch.filter (· != fs)
      w1cSevl := t.flt.w1cSevl.filter (· != fs) } }

theorem State.w1cNow_eq (fs : Nat) (s : State) : s.w1cNow fs =
    if s.flt.w1cLatch.contains fs || s.flt.w1cSevl.contains fs then
      State.w1cActed fs s.flt (if s.sevDue fs then s.sevClear fs else s) else s := by
  unfold State.w1cNow
  split
  · unfold State.w1cActed
    split <;> rfl
  · rfl

theorem MarkBlind.w1cNow (fs : Nat) : MarkBlind (State.w1cNow fs) := by
  rw [show State.w1cNow fs = _ from funext (State.w1cNow_eq fs)]
  refine .ite (fun _ _ _ => Iff.rfl) (.at (g := State.flt)
    (f := fun x s => State.w1cActed fs x (if s.sevDue fs then s.sevClear fs else s)) (fun _ _ _ => rfl) fun x => ?_) .same
  exact .comp (f := State.w1cActed fs x) ⟨fun _ _ _ => rfl⟩ (.ite (fun _ _ _ => Iff.rfl) ⟨fun _ _ _ => rfl⟩ .same)

/-- The entries of a raise (R368). -/
def State.raiseEntries (fs code : Nat) (d e : Word) (merged onset : Bool) (s : State) : State :=
  if merged || !onset then (if merged then s else s.fsEntry fs code d e)
  else State.fsEntry fs 2 d e (if merged then s else s.fsEntry fs code d e)

/-- What a raise does once its source has become y: its counts, its entries, its handling, its report and its reactions. -/
def State.raiseTail (fs code : Nat) (d e : Word) (count : Nat) (y : FsSrc) (merged onset : Bool) (k r : Nat) (s : State) : State :=
  let t := State.raiseEntries fs code d e merged onset { s.tally count 1 with flt := { s.flt with src := s.flt.src.set fs y } }
  (State.openReport merged fs k e { t with flt := t.flt.handle fs k e s.beat.num r }).react r fs d merged

theorem State.raiseAt_eq (kind : RaiseKind) (single : Bool) (fs : Nat) (d e : Word) (s0 : State) :
    s0.raiseAt kind single fs d e =
      let s := s0.w1cNow fs
      let tr := kind == .transient
      let x := s.flt.src[fs]?.getD {}
      let counted := !tr || (s.on .TR_EV fs && x.ev.head? != some e)
      let y := x.raised tr single counted (s.lasts reactSafe fs) (s.nat .N fs) e
      let onset := counted && !x.sevp && severe (s.nat .N fs) (s.nat .W fs) e y.ev
      let r := (if counted then s.reactEv fs else 0) ||| (if onset then s.reactSev fs else 0)
      let k := if onset && !(counted && (s.reactEv fs).testBit reactInt) then 2 else kind.code
      State.raiseTail fs kind.code d e (if tr then 35 else 34) (if onset then y.onset else y) s.flt.hopen onset k r s := rfl

theorem MarkBlind.raiseTail (fs code : Nat) (d e : Word) (count : Nat) (y : FsSrc) (merged onset : Bool) (k r : Nat) :
    MarkBlind (State.raiseTail fs code d e count y merged onset k r) := by
  have hreport : MarkBlind (State.openReport merged fs k e) := .ite (fun _ _ _ => Iff.rfl) ⟨fun _ _ _ => rfl⟩ .same
  have hreact : MarkBlind (State.react r fs d merged) := ⟨fun _ _ _ => rfl⟩
  refine ⟨fun b c s => ?_⟩
  refine (congrArg (State.react r fs d merged) ?_).trans (hreact.marks b c _)
  refine (congrArg (State.openReport merged fs k e) ?_).trans (hreport.marks b c _)
  cases merged <;> cases onset <;> rfl

theorem MarkBlind.raiseAt (kind : RaiseKind) (single : Bool) (fs : Nat) (d e : Word) :
    MarkBlind (State.raiseAt kind single fs d e) := by
  refine ⟨fun b c s => ?_⟩
  rw [State.raiseAt_eq, State.raiseAt_eq, (MarkBlind.w1cNow fs).marks]
  exact (MarkBlind.raiseTail ..).marks b c (s.w1cNow fs)

theorem MarkBlind.raise (fs : Nat) (d : Word) : MarkBlind (State.raise fs d) :=
  .at (g := State.evBeat) (f := fun e => State.raiseAt .lasting true fs d e) (fun _ _ _ => rfl) fun _ => .raiseAt ..

/-- The mark of a condition that begins (R365). -/
def State.condBegins (fs : Nat) (t : State) : State :=
  { t with flt := { t.flt with src := t.flt.src.modify fs fun x => { x with cond := true } } }

theorem MarkBlind.raiseCond (fs : Nat) (d : Word) : MarkBlind (State.raiseCond fs d) :=
  .comp (f := State.condBegins fs) ⟨fun _ _ _ => rfl⟩
    (.at (g := State.evBeat) (f := fun e => State.raiseAt .lasting false fs d e) (fun _ _ _ => rfl) fun _ => .raiseAt ..)

theorem MarkBlind.follow {now : State → Bool} (hnow : ∀ b c s, now (s.withMarks b c) = now s) (fs : Nat) (d : Word) :
    MarkBlind fun s => State.follow fs d (now s) s :=
  .at (f := State.follow fs d) hnow fun _ =>
    .ite (fun _ _ _ => Iff.rfl) (.raiseCond ..) (.ite (fun _ _ _ => Iff.rfl) ⟨fun _ _ _ => rfl⟩ .same)

/-! Writes of the CAN blocks (R451, R452) -/

theorem MarkBlind.acPush (p : CPort) : MarkBlind (State.acPush p) := .ite (fun _ _ _ => Iff.rfl) ⟨fun _ _ _ => rfl⟩ (.raise ..)

theorem MarkBlind.queueObj (p : CPort) (k : Nat) (l : List Byte) : MarkBlind (State.queueObj p k l) :=
  .ite (fun _ _ _ => Iff.rfl) (.acPush p) ⟨fun _ _ _ => rfl⟩

theorem MarkBlind.objSend (p : CPort) (k : Nat) : MarkBlind (State.objSend p k) :=
  .ite (fun _ _ _ => Iff.rfl)
    (.at (g := fun s => (s.objAt p k).data) (f := State.queueObj p k) (fun _ _ _ => rfl) fun _ => .queueObj ..) .same

theorem MarkBlind.writeObj (p : CPort) (k w : Nat) (d : Word) : MarkBlind (State.writeObj p k w d) := by
  have hcancel : MarkBlind fun s => outState (execObjCancel p (Fin.ofNat 128 k) (keyOf d) s) s :=
    .ite (fun _ _ _ => Iff.rfl) ⟨fun _ _ _ => rfl⟩ .same
  have hsend : MarkBlind fun s => outState (execObjSend p (Fin.ofNat 128 k) (keyOf d) s) s :=
    .ite (fun _ _ _ => Iff.rfl) (.objSend ..) .same
  unfold State.writeObj
  split
  · exact .comp (f := fun t => if bit d 0 then outState (execObjSend p (Fin.ofNat 128 k) (keyOf d) t) t else t)
      (.ite (fun _ _ _ => Iff.rfl) hsend .same) (.ite (fun _ _ _ => Iff.rfl) hcancel .same)
  · exact ⟨fun _ _ _ => rfl⟩
  · exact .same

theorem MarkBlind.writeCan (path : Path) (p : CPort) (o : Nat) (d : Word) : MarkBlind (State.writeCan path p o d) := by
  have hpop (x : Bool) : MarkBlind fun s => outState (execFifoPop path p x s) s := ⟨fun _ _ _ => rfl⟩
  unfold State.writeCan
  split
  · exact .ite (fun _ _ _ => Iff.rfl) ⟨fun _ _ _ => rfl⟩ .same
  · split
    · exact .ite (fun _ _ _ => Iff.rfl) ⟨fun _ _ _ => rfl⟩ .same
    · exact .comp (f := fun t => if bit d 1 then outState (execFifoPop path p true t) t else t)
        (.ite (fun _ _ _ => Iff.rfl) (hpop true) .same) (.ite (fun _ _ _ => Iff.rfl) (hpop false) .same)
    · exact ⟨fun _ _ _ => rfl⟩
    · exact .same

/-! Writes of the replay (R104, R108) -/

theorem MarkBlind.rplStop (cause : Nat) : MarkBlind (State.rplStop cause) :=
  .ite (fun _ _ _ => Iff.rfl) .same ⟨fun _ _ _ => rfl⟩

theorem MarkBlind.rplRecord (l : List Byte) : MarkBlind (State.rplRecord l) := by
  refine .ite (fun _ _ _ => Iff.rfl) .same (.ite (fun _ _ _ => Iff.rfl) (.rplStop _) (.at (g := fun s => s.core.rpl.state)
    (f := fun x s => match x with
      | .waiting => { s with core := { s.core with rpl :=
          { s.core.rpl with state := .running, stream := [l], expect := rplBeatOf l + 1 } } }
      | _ =>
        if rplBeatOf l = s.core.rpl.expect then
          { s with core := { s.core with rpl :=
            { s.core.rpl with stream := s.core.rpl.stream ++ [l], ready := s.core.rpl.ready ++ [l], expect := s.core.rpl.expect + 1 } } }
        else s.rplStop 2) (fun _ _ _ => rfl) fun x => ?_))
  split
  · exact ⟨fun _ _ _ => rfl⟩
  · exact .ite (fun _ _ _ => Iff.rfl) ⟨fun _ _ _ => rfl⟩ (.rplStop 2)

/-- The bytes of a record that is not yet whole (R104). -/
def State.withInBuf (l : List Byte) (s : State) : State := { s with core := { s.core with rpl := { s.core.rpl with inBuf := l } } }

theorem MarkBlind.rplIn (d : Word) : MarkBlind (State.rplIn d) :=
  .ite (fun _ _ _ => Iff.rfl) .same (.ite (fun _ _ _ => Iff.rfl)
    (.at (g := fun s => s.core.rpl.inBuf ++ wordBytes d) (f := fun l s => State.rplRecord (l.take (rplLength l)) (s.withInBuf []))
      (fun _ _ _ => rfl) fun l => .comp (f := State.rplRecord (l.take (rplLength l))) (.rplRecord _) ⟨fun _ _ _ => rfl⟩)
    ⟨fun _ _ _ => rfl⟩)

/-- The settings of a replay that is not started (R104). -/
def State.rplSet (x y : Bool) (s : State) : State := { s with core := { s.core with rpl := { s.core.rpl with bank := x, rawCell := y } } }

theorem MarkBlind.writeRpl (path : Path) (d : Word) : MarkBlind (State.writeRpl path d) := by
  have hstart : MarkBlind (State.rplStart (bit d 2) (bit d 1)) := .ite (fun _ _ _ => Iff.rfl) ⟨fun _ _ _ => rfl⟩ ⟨fun _ _ _ => rfl⟩
  have hoff : MarkBlind fun s => State.rplSet (bit d 2) (bit d 1)
    { s with core := { s.core with rpl := { s.core.rpl with en := false } } } := ⟨fun _ _ _ => rfl⟩
  exact .ite (fun _ _ _ => Iff.rfl) hstart (.comp (g := State.rplStop 3) hoff (.rplStop 3))

/-! Writes of the configuration (R109-R137) -/

/-- A command of the configuration writes its result, or does its work when it is accepted. -/
theorem MarkBlind.cfgCommand (path : Path) (key : BitVec 8) (cmd : Nat) {check : State → Option Nat} {f : State → State}
    (hcheck : ∀ b c s, check (s.withMarks b c) = check s) (hf : MarkBlind f) : MarkBlind (State.cfgCommand path key cmd check f) := by
  refine .comp (g := fun s => s.setCfg fun x => { x with lastCmd := cmd })
    (f := fun t => match (match t.cfgRefusal path key with
      | some r => some r
      | none => check t) with
      | some r => t.setCfg fun c => { c with result := r }
      | none => f (t.setCfg fun c => { c with result := 0 })) ?_ ⟨fun _ _ _ => rfl⟩
  refine .at (g := fun t => match t.cfgRefusal path key with
      | some r => some r
      | none => check t) (f := fun x t => match x with
      | some r => t.setCfg fun c => { c with result := r }
      | none => f (t.setCfg fun c => { c with result := 0 })) (fun b c s => ?_) fun x => ?_
  · simp only [hcheck b c s]
    rfl
  · split
    · exact ⟨fun _ _ _ => rfl⟩
    · exact .comp hf ⟨fun _ _ _ => rfl⟩

theorem MarkBlind.writeCfgCmd (path : Path) (d : Word) : MarkBlind (State.writeCfgCmd path d) := by
  have htask : MarkBlind (State.cfgTask true) := .ite (fun _ _ _ => Iff.rfl) ⟨fun _ _ _ => rfl⟩ .same
  have hplain {check : State → Option Nat} {f : State → State} (cmd : Nat) (hcheck : ∀ b c s, check (s.withMarks b c) = check s)
      (hf : ∀ b c s, f (s.withMarks b c) = (f s).withMarks b c) : MarkBlind (State.cfgCommand path (keyOf d) cmd check f) :=
    .cfgCommand _ _ _ hcheck ⟨hf⟩
  unfold State.writeCfgCmd
  dsimp only
  split
  · exact hplain (check := State.openRefusal path) (f := State.openOk path) 1 (fun _ _ _ => rfl) fun _ _ _ => rfl
  · exact .cfgCommand (check := State.verifyRefusal) (f := fun t => (t.setCfg fun c => { c with work := .verify }).cfgTask true) _ _ _
      (fun _ _ _ => rfl) (.comp htask ⟨fun _ _ _ => rfl⟩)
  · exact .cfgCommand (check := State.commitRefusal) (f := fun t => (t.setCfg fun c =>
      { c with owner := .none, work := .commit, workBank := (c.find [.verified]).getD false }).cfgTask true) _ _ _
      (fun _ _ _ => rfl) (.comp htask ⟨fun _ _ _ => rfl⟩)
  · exact hplain (check := State.confirmRefusal) (f := State.confirmOk) 4 (fun _ _ _ => rfl) fun _ _ _ => rfl
  · exact hplain (check := State.rollbackRefusal) (f := fun t => t.setCfg fun c => { c with rev := .rollback }) 5 (fun _ _ _ => rfl)
      fun _ _ _ => rfl
  · exact hplain (check := State.abortRefusal path) (f := fun t =>
      (t.bankTo ((t.cfg.find [.writing, .verified]).getD false) .invalid).setCfg fun c => { c with owner := .none }) 6
      (fun _ _ _ => rfl) fun _ _ _ => rfl
  · exact hplain (check := State.otpRefusal) (f := fun t => t.setCfg fun c =>
      { c with keys := c.keys ++ [imgKeyHash (cellsBytes bankSize (c.bank ((c.find [.verified]).getD false)).cells)] }) 7
      (fun _ _ _ => rfl) fun _ _ _ => rfl
  · exact hplain (check := fun _ => some 6) (f := id) _ (fun _ _ _ => rfl) fun _ _ _ => rfl

theorem MarkBlind.wdataWrite (path : Path) (d : Word) : MarkBlind (State.wdataWrite path d) := by
  refine ⟨fun b c s => ?_⟩
  rw [State.wdataWrite, State.wdataWrite, show (s.withMarks b c).wdataRefusal path = s.wdataRefusal path from rfl]
  cases s.wdataRefusal path <;> rfl

/-! Writes of the history (R517-R521) -/

/-- The accounting state at a start from the record x (R271, R276, R277). -/
def State.restartFrom (x : Option (Nat × IdRec)) (s : State) : State :=
  match x with
  | none => State.estStart { s with chg := { s.chg with inForce := none } }
  | some (i, r) =>
    let q := s.restored r
    let a := s.accOf q (s.par .U_RESTART) true
    State.estStart { s with chg := { s.chg with
      inForce := some i, recs := s.chg.recs.set i q, acc := { a with pbeat := 0 - 1 }, cov := [] } }

/-- The record last used (R271). -/
def State.lastUsed (s : State) : Option (Nat × IdRec) :=
  bestBy (fun a b => decide (b.2.useSeq < a.2.useSeq)) (((List.range 8).map fun k => (k, s.recAt k)).filter fun r => r.2.used)

theorem State.accRestart_eq (s : State) : s.accRestart = s.restartFrom s.lastUsed := rfl

theorem State.recAt_withMarks (b : Option BurstRead) (c : Bool) (s : State) (k : Nat) : (s.withMarks b c).recAt k = s.recAt k := by
  have h : (s.withMarks b c).recPoisoned = s.recPoisoned := rfl
  rw [State.recAt, State.recAt, State.sound, State.sound, h]
  rfl

theorem State.lastUsed_withMarks (b : Option BurstRead) (c : Bool) (s : State) : (s.withMarks b c).lastUsed = s.lastUsed := by
  rw [State.lastUsed, State.lastUsed, show (s.withMarks b c).recAt = s.recAt from funext (State.recAt_withMarks b c s)]

theorem MarkBlind.restartFrom (x : Option (Nat × IdRec)) : MarkBlind (State.restartFrom x) := by
  cases x with
  | none => exact ⟨fun _ _ _ => rfl⟩
  | some x => exact ⟨fun _ _ _ => rfl⟩

theorem MarkBlind.accRestart : MarkBlind State.accRestart := by
  refine ⟨fun b c s => ?_⟩
  rw [State.accRestart_eq, State.accRestart_eq, State.lastUsed_withMarks]
  exact (MarkBlind.restartFrom _).marks b c s

theorem MarkBlind.setHist (k : Nat) (f : HistSlot → HistSlot) : MarkBlind (State.setHist k f) := ⟨fun _ _ _ => rfl⟩

theorem MarkBlind.modifyRec (k : Nat) (f : IdRec → IdRec) :
    MarkBlind fun s => { s with chg := { s.chg with recs := s.chg.recs.modify k f } } := ⟨fun _ _ _ => rfl⟩

theorem MarkBlind.importWord (w : Nat) (x y : List Byte) : MarkBlind (State.importWord w x y) := by
  refine ⟨fun b c s => ?_⟩
  rw [State.importWord, State.importWord]
  split
  · rfl
  · split
    · exact (MarkBlind.modifyRec ..).marks b c s
    · exact (MarkBlind.setHist ..).marks b c s

/-- The buffer of an import once l is its words (R520). -/
def State.winFilled (p : Nat) (l : List Word) (s : State) : State :=
  s.setSys fun z => { z with histPtr := p, winBuf := l }

/-- A word of an import at the place p (R520). -/
def State.importStep (d : Word) (y : SysS) (s : State) : State :=
  let cur := (y.winBuf ++ [d]).drop ((y.winBuf ++ [d]).length - 8)
  State.winFilled (y.histPtr + 1) (if y.histPtr % 8 = 7 then cur else y.winBuf ++ [d])
    (if y.histPtr % 8 = 7 then s.importWord (y.histPtr / 8) (cur.flatMap wordBytes) (((y.winBuf ++ [d]).take 8).flatMap wordBytes)
      else s)

theorem MarkBlind.importStep (d : Word) (y : SysS) : MarkBlind (State.importStep d y) :=
  .comp (f := State.winFilled (y.histPtr + 1) _) ⟨fun _ _ _ => rfl⟩
    (.ite (p := fun _ => y.histPtr % 8 = 7) (fun _ _ _ => Iff.rfl) (.importWord ..) .same)

theorem MarkBlind.importTake (d : Word) : MarkBlind (State.importTake d) :=
  .ite (fun _ _ _ => Iff.rfl) ⟨fun _ _ _ => rfl⟩ (.ite (fun _ _ _ => Iff.rfl)
    (.comp .accRestart (.comp (f := fun t => t.setSys fun y => { y with importing := false, winBuf := [], histPtr := 0 })
      ⟨fun _ _ _ => rfl⟩ (.at (g := State.sys) (f := State.importStep d) (fun _ _ _ => rfl) fun _ => .importStep ..)))
    (.at (g := State.sys) (f := State.importStep d) (fun _ _ _ => rfl) fun _ => .importStep ..))

theorem MarkBlind.restoreEntry (k : Nat) (w : Word) : MarkBlind (State.restoreEntry k w) := ⟨fun _ _ _ => rfl⟩

theorem MarkBlind.restoreTake (d : Word) : MarkBlind (State.restoreTake d) :=
  .ite (fun _ _ _ => Iff.rfl) ⟨fun _ _ _ => rfl⟩ (.at (g := fun s => s.sys.histPtr)
    (f := fun k s => (if 8 ≤ k then s.restoreEntry k d else s).setSys fun y =>
      { y with histPtr := if k + 1 = histLen then 0 else k + 1, restoreIn := k + 1 != histLen }) (fun _ _ _ => rfl) fun k =>
    .comp (f := fun t => t.setSys _) ⟨fun _ _ _ => rfl⟩ (.ite (fun _ _ _ => Iff.rfl) (.restoreEntry k d) .same))

theorem MarkBlind.winWrite (d : Word) : MarkBlind (State.winWrite d) :=
  .ite (fun _ _ _ => Iff.rfl) (.importTake d) (.ite (fun _ _ _ => Iff.rfl) (.restoreTake d) .same)

theorem MarkBlind.restoreBegin (pos : Nat) : MarkBlind (State.restoreBegin pos) :=
  .ite (fun _ _ _ => Iff.rfl) .same (.ite (fun _ _ _ => Iff.rfl)
    (.at (g := fun s => (s.sys.hist[pos]?.getD {}).words)
      (f := fun l s => Machine.runAll (fun (x : Nat × Word) t => t.restoreEntry x.1 x.2) l
        (s.setRecord fun r => { r with table := [], dflt := s.defaultTable })) (fun _ _ _ => rfl)
      fun l => .comp (f := Machine.runAll (fun (x : Nat × Word) t => t.restoreEntry x.1 x.2) l) (.runAll (fun _ => .restoreEntry ..) l)
        ⟨fun _ _ _ => rfl⟩) ⟨fun _ _ _ => rfl⟩)

theorem MarkBlind.histRestore (path : Path) : MarkBlind (State.histRestore path) :=
  .ite (fun _ _ _ => Iff.rfl) (.ite (fun _ _ _ => Iff.rfl) ⟨fun _ _ _ => rfl⟩ .same)
    (.at (g := fun s => s.sys.histUnit.toNat % 256) (f := State.restoreBegin) (fun _ _ _ => rfl) fun _ => .restoreBegin _)

theorem MarkBlind.writeHistCmd (path : Path) (d : Word) : MarkBlind fun s =>
    let t := if bit d 1 then outState (execHistImport path (keyOf d) s) s else s
    if bit d 0 then outState (execHistRestore path (keyOf d) t) t else t :=
  .comp (f := fun t => if bit d 0 then outState (execHistRestore path (keyOf d) t) t else t)
    (.ite (fun _ _ _ => Iff.rfl) (.ite (p := fun _ => (keyOf d == 0xC3) = true) (fun _ _ _ => Iff.rfl) (.histRestore path) .same) .same)
    (.ite (fun _ _ _ => Iff.rfl)
      (.ite (p := fun s => (keyOf d == 0xC3 && s.importOk) = true) (fun _ _ _ => Iff.rfl) ⟨fun _ _ _ => rfl⟩ .same) .same)

/-! The other writes -/

theorem MarkBlind.srcSelWrite (path : Path) (v : BitVec 2) : MarkBlind (State.srcSelWrite path v) :=
  .ite (fun _ _ _ => Iff.rfl) ⟨fun _ _ _ => rfl⟩ ⟨fun _ _ _ => rfl⟩

theorem MarkBlind.pop (seq : BitVec 16) : MarkBlind fun s => { s with host := s.host.pop seq } := by
  refine ⟨fun b c s => ?_⟩
  have h : (s.withMarks b c).host.pop seq = { s.host.pop seq with burst := b, addressed := c } := by
    rw [HostS.pop, HostS.pop, show (s.withMarks b c).host.reports = s.host.reports from rfl]
    cases s.host.reports with
    | nil => rfl
    | cons r l =>
      dsimp only
      split <;> rfl
  exact congrArg (fun x => { s with host := x }) h

theorem MarkBlind.writeLow (path : Path) (a : Nat) (d : Word) : MarkBlind (State.writeLow path a d) := by
  unfold State.writeLow
  split
  case h_3 => exact .pop _
  case h_6 => exact .winWrite d
  case h_7 => exact .writeHistCmd path d
  case h_8 => exact .comp (f := State.srcSelWrite path (BitVec.ofNat 2 (bits d 0 2))) (.srcSelWrite ..) ⟨fun _ _ _ => rfl⟩
  case h_16 => exact .writeRpl path d
  case h_17 => exact .rplIn d
  case h_18 => exact .writeCfgCmd path d
  case h_20 => exact .wdataWrite path d
  all_goals exact ⟨fun _ _ _ => rfl⟩

theorem MarkBlind.rwFollow : MarkBlind State.rwFollow :=
  .runAll (fun seg => .follow (now := fun t => !t.rwReady seg) (fun _ _ _ => rfl) (40 + seg) 0) _

/-- The values of the balancing block once a calibration c has ended (R220). -/
def BalS.calEnded (st cause : Nat) (c : WireCal) (x : BalS) : BalS :=
  { x with cal := none, calState := st, calCause := cause, rw := storeRw x.rw c.found }

/-- The calibration's end as the host sees it (R220, R464). -/
def State.calStored (x : BalS) (s : State) : State := State.report 3 0 0x71D x.wireStat 0 { s with bal := x }

theorem MarkBlind.calEnd (st cause : Nat) : MarkBlind (State.calEnd st cause) := by
  refine ⟨fun b c s => ?_⟩
  rw [State.calEnd, State.calEnd, show (s.withMarks b c).bal = s.bal from rfl]
  cases s.bal.cal with
  | none => rfl
  | some x => exact (MarkBlind.comp (g := State.calStored (s.bal.calEnded st cause x)) .rwFollow ⟨fun _ _ _ => rfl⟩).marks b c s

theorem MarkBlind.writeProt (path : Path) (d : Word) : MarkBlind (State.writeProt path d) := by
  unfold State.writeProt
  split
  · exact ⟨fun _ _ _ => rfl⟩
  · split <;> exact ⟨fun _ _ _ => rfl⟩

theorem MarkBlind.writeWireCal (path : Path) (d : Word) : MarkBlind fun s =>
    let t := if bit d 0 then outState (execWireCalStart path (keyOf d) s) s else s
    if bit d 1 then outState (execWireCalAbort path (keyOf d) t) t
    else if keyOf d != 0xC3 then { t with bal := { t.bal with calCause := 1 } } else t := by
  have habort : MarkBlind fun t => outState (execWireCalAbort path (keyOf d) t) t :=
    .ite (p := fun _ => (keyOf d != 0xC3) = true) (fun _ _ _ => Iff.rfl) ⟨fun _ _ _ => rfl⟩ (.calEnd 3 4)
  exact .comp (f := fun t => if bit d 1 then outState (execWireCalAbort path (keyOf d) t) t
      else if keyOf d != 0xC3 then { t with bal := { t.bal with calCause := 1 } } else t)
    (.ite (fun _ _ _ => Iff.rfl) habort (.ite (p := fun _ => (keyOf d != 0xC3) = true) (fun _ _ _ => Iff.rfl) ⟨fun _ _ _ => rfl⟩ .same))
    (.ite (fun _ _ _ => Iff.rfl) ⟨fun _ _ _ => rfl⟩ .same)

theorem MarkBlind.closeHandling (n : Nat) : MarkBlind (State.closeHandling n) := ⟨fun _ _ _ => rfl⟩

theorem MarkBlind.writeHandling (path : Path) (d : Word) : MarkBlind fun s =>
    let t := if bit d 1 then outState (execResetLoopRelease path (keyOf d) s) s else s
    if bit d 0 then outState (execHandlingClose path (keyOf d) t) t else t := by
  have hclose : MarkBlind fun t => outState (execHandlingClose path (keyOf d) t) t :=
    .ite (p := fun t => (keyOf d == 0xC3 && t.flt.hopen) = true) (fun _ _ _ => Iff.rfl) (.closeHandling 1) .same
  have hrelease : MarkBlind fun t => outState (execResetLoopRelease path (keyOf d) t) t :=
    .ite (p := fun _ => (keyOf d == 0xC3) = true) (fun _ _ _ => Iff.rfl) ⟨fun _ _ _ => rfl⟩ .same
  exact .comp (f := fun t => if bit d 0 then outState (execHandlingClose path (keyOf d) t) t else t)
    (.ite (fun _ _ _ => Iff.rfl) hclose .same) (.ite (fun _ _ _ => Iff.rfl) hrelease .same)

theorem MarkBlind.sweepStart (n : BitVec 4) : MarkBlind (State.sweepStart n) := by
  refine ⟨fun b c s => ?_⟩
  rw [State.sweepStart, State.sweepStart, show (s.withMarks b c).sweepOk n = s.sweepOk n from rfl]
  dsimp only
  split <;> rfl

theorem MarkBlind.writeHigh (path : Path) (a : Nat) (d : Word) : MarkBlind (State.writeHigh path a d) := by
  have henum : MarkBlind fun s => outState (execEnum path (keyOf d) s) s :=
    .ite (p := fun s => (keyOf d == 0xC3 && s.ring.active) = true) (fun _ _ _ => Iff.rfl) ⟨fun _ _ _ => rfl⟩ .same
  have hclear : MarkBlind fun s => outState (execLogClear path (keyOf d) s) s := ⟨fun _ _ _ => rfl⟩
  unfold State.writeHigh
  split
  case h_6 => exact .writeWireCal path d
  case h_9 => exact .writeProt path d
  case h_14 => exact .writeHandling path d
  case h_25 => exact .ite (fun _ _ _ => Iff.rfl) hclear .same
  case h_29 => exact .ite (fun _ _ _ => Iff.rfl) henum .same
  case h_34 => exact .ite (fun _ _ _ => Iff.rfl) (.sweepStart _) ⟨fun _ _ _ => rfl⟩
  all_goals exact ⟨fun _ _ _ => rfl⟩

theorem MarkBlind.stage (path : Path) (a : Nat) (d : Word) : MarkBlind (State.stage path a d) := ⟨fun _ _ _ => rfl⟩

theorem MarkBlind.freqSet (k : Nat) (f : BitVec 21) :
    MarkBlind fun s => { s with core := { s.core with swp := { s.core.swp with freqs := s.core.swp.freqs.set k f } } } :=
  ⟨fun _ _ _ => rfl⟩

/-- No register's write reads or writes the marks of the port. -/
theorem MarkBlind.regWrite (path : Path) (a : Nat) (d : Word) : MarkBlind (State.regWrite path a d) := by
  unfold State.regWrite
  split
  · exact .same
  · split
    · exact .writeObj ..
    · split
      · exact .writeCan ..
      · exact .cond (.stage ..) (.cond (.freqSet ..) (.cond (.writeLow ..) (.writeHigh ..)))

/-! Reads -/

theorem MarkBlind.portsSet (k : Nat) (f : PortS → PortS) :
    MarkBlind fun s => s.setRing fun r => { r with ports := r.ports.modify k f } := ⟨fun _ _ _ => rfl⟩

theorem MarkBlind.pmcZero (k : Nat) : MarkBlind fun s => s.setSys fun y => { y with pmc := y.pmc.set k 0 } := ⟨fun _ _ _ => rfl⟩

theorem MarkBlind.afterRead (path : Path) (a : Nat) : MarkBlind (State.afterRead path a) := by
  unfold State.afterRead
  split
  · exact ⟨fun _ _ _ => rfl⟩
  · exact .same
  · split
    · split <;> exact ⟨fun _ _ _ => rfl⟩
    · refine .cond (.portsSet ..) (.cond (.pmcZero _) ?_)
      split <;> exact ⟨fun _ _ _ => rfl⟩

section

variable (b : Option BurstRead) (c : Bool) (s : State)

theorem State.fltView_withMarks : (s.withMarks b c).fltView = s.fltView.withMarks b c := by
  rw [State.fltView, State.fltView, show (s.withMarks b c).fltShown = s.fltShown from rfl]
  cases s.fltShown <;> rfl

theorem State.nfltShown_withMarks : (s.withMarks b c).nfltShown = s.nfltShown := rfl

theorem State.readFlt_withMarks (a : Nat) : (s.withMarks b c).readFlt a = s.readFlt a := by
  have hflt : (s.fltView.withMarks b c).flt = s.fltView.flt := rfl
  have hsafe : (s.fltView.withMarks b c).fsafe = s.fltView.fsafe := rfl
  unfold State.readFlt
  rw [State.fltView_withMarks]
  generalize (a - 0x1008) / 4 = q
  generalize (a - 0x1008) % 4 = w
  by_cases h : 0x1008 ≤ a ∧ a ≤ 0x101F
  · rw [if_pos h, if_pos h, hflt, hsafe]
  · rw [if_neg h, if_neg h]
    rfl

theorem State.regStatus_withMarks (write : Bool) (a : Nat) : (s.withMarks b c).regStatus write a = s.regStatus write a := rfl

/-- What a register shows has nothing of the marks. -/
theorem State.regWord_withMarks (path : Path) (a : Nat) : (s.withMarks b c).regWord path a = s.regWord path a := by
  have hobj : (s.withMarks b c).readObj = s.readObj := rfl
  have hcan : (s.withMarks b c).readCan = s.readCan := rfl
  have hsys : (s.withMarks b c).readSys = s.readSys := rfl
  have hbeat : (s.withMarks b c).readBeat = s.readBeat := rfl
  have hcfg : (s.withMarks b c).readCfg = s.readCfg := rfl
  have hcell : (s.withMarks b c).readCell = s.readCell := rfl
  have hcur : (s.withMarks b c).readCur = s.readCur := rfl
  have hthm : (s.withMarks b c).readThm = s.readThm := rfl
  have hbal : (s.withMarks b c).readBal = s.readBal := rfl
  have himp : (s.withMarks b c).readImp = s.readImp := rfl
  have hest : (s.withMarks b c).readEst = s.readEst := rfl
  have hlim : (s.withMarks b c).readLim = s.readLim := rfl
  have hprot : (s.withMarks b c).readProt = s.readProt := rfl
  have hesc : (s.withMarks b c).readEsc = s.readEsc := rfl
  have hlog : (s.withMarks b c).readLog = s.readLog := rfl
  have hring : (s.withMarks b c).readRing = s.readRing := rfl
  have hpmc : (s.withMarks b c).readPmc = s.readPmc := rfl
  have hcore : (s.withMarks b c).readCore = s.readCore := rfl
  have hpwr : (s.withMarks b c).readPwr = s.readPwr := rfl
  have hflt : (s.withMarks b c).readFlt = s.readFlt := funext (State.readFlt_withMarks b c s)
  rw [State.regWord, State.regWord, hobj, hcan, hsys, hbeat, hcfg, hcell, hcur, hthm, hbal, himp, hest, hlim, hprot, hesc, hlog, hring, hpmc, hcore, hpwr, hflt]

theorem State.burstStatus_withMarks (write : Bool) (l : List Nat) : (s.withMarks b c).burstStatus write l = s.burstStatus write l := rfl

end

/-! Accesses in order (R458, R459) -/

/-- The words read so far, with one more read (R458). -/
def readStep (x : List Word × State) (a : Nat) : List Word × State :=
  if x.2.regStatus false a = 1 then (x.1 ++ [x.2.regWord .host a], x.2.afterRead .host a) else (x.1 ++ [0], x.2)

theorem State.hostReads_eq (l : List Nat) (s : State) : s.hostReads l = l.foldl readStep ([], s) := rfl

theorem readStep_withMarks (b : Option BurstRead) (c : Bool) (x : List Word × State) (a : Nat) :
    readStep (x.1, x.2.withMarks b c) a = ((readStep x a).1, (readStep x a).2.withMarks b c) := by
  rw [readStep, readStep, State.regStatus_withMarks, State.regWord_withMarks, (MarkBlind.afterRead .host a).marks]
  split <;> rfl

theorem foldl_readStep_withMarks (b : Option BurstRead) (c : Bool) (l : List Nat) (x : List Word × State) :
    l.foldl readStep (x.1, x.2.withMarks b c) = ((l.foldl readStep x).1, (l.foldl readStep x).2.withMarks b c) := by
  induction l generalizing x with
  | nil => rfl
  | cons a l ih =>
    rw [List.foldl_cons, List.foldl_cons, readStep_withMarks]
    exact ih (readStep x a)

theorem State.hostReads_withMarks (b : Option BurstRead) (c : Bool) (l : List Nat) (s : State) :
    (s.withMarks b c).hostReads l = ((s.hostReads l).1, (s.hostReads l).2.withMarks b c) :=
  foldl_readStep_withMarks b c l ([], s)

theorem MarkBlind.hostWrites (ws : List (Nat × Word)) : MarkBlind (State.hostWrites ws) := by
  have hstep (x : Nat × Word) : MarkBlind fun t => if t.regStatus true x.1 = 1 then t.regWrite .host x.1 x.2 else t :=
    .ite (fun _ _ _ => Iff.rfl) (.regWrite ..) .same
  refine ⟨fun b c s => ?_⟩
  rw [State.hostWrites, State.hostWrites]
  induction ws generalizing s with
  | nil => rfl
  | cons x ws ih =>
    rw [List.foldl_cons, List.foldl_cons, (hstep x).marks b c s]
    exact ih _

end Sys2Proof.Machine
end

section
/-! PROOFS. The host's reads, writes and bursts, and the frames that are no request (R376, R454-R463, R542). -/

namespace Sys2Proof.Machine

/-! STATUS of an access (R457) -/

/-- The four answers of an address. -/
theorem State.regStatus_range (s : State) (write : Bool) (a : Nat) :
    s.regStatus write a = 1 ∨ (s.regStatus write a = 2 ∧ write = true) ∨ s.regStatus write a = 3 ∨ s.regStatus write a = 5 := by
  unfold State.regStatus
  extract_lets starting
  cases regAt a with
  | none => simp
  | some w =>
    dsimp only
    split_ifs with hro
    · exact .inr (.inl ⟨rfl, ((Bool.and_eq_true ..).mp hro).1⟩)
    · simp
    · simp
    · simp

theorem State.burstStatus_single (s : State) (write : Bool) (a : Nat) : s.burstStatus write [a] = s.regStatus write a := by
  rw [State.burstStatus]
  rcases s.regStatus_range write a with h | ⟨h, -⟩ | h | h <;> simp [h]

/-- A burst that is answered throughout. -/
theorem State.burstStatus_whole {s : State} {write : Bool} {l : List Nat} (h : ∀ a ∈ l, s.regStatus write a = 1) :
    s.burstStatus write l = 1 := by
  rw [State.burstStatus, List.map_eq_replicate_iff.2 h]
  simp

/-- A burst read over a reserved address: no read is refused. -/
theorem State.burstStatus_reserved {s : State} {l : List Nat} (h : ∃ a ∈ l, s.regStatus false a = 3) : s.burstStatus false l = 3 := by
  have htwo : 2 ∉ l.map (s.regStatus false) := by
    rw [List.mem_map]
    rintro ⟨a, -, ha⟩
    rcases s.regStatus_range false a with h | ⟨-, h⟩ | h | h <;> simp_all
  have hthree : 3 ∈ l.map (s.regStatus false) := List.mem_map.2 h
  simp [State.burstStatus, htwo, hthree]

/-- A burst write over a read-only register. -/
theorem State.burstStatus_readOnly {s : State} {write : Bool} {l : List Nat} (h : ∃ a ∈ l, s.regStatus write a = 2) :
    s.burstStatus write l = 2 := by
  have htwo : 2 ∈ l.map (s.regStatus write) := List.mem_map.2 h
  simp [State.burstStatus, htwo]

/-! Reads and writes in order (R458, R459) -/

theorem foldl_readStep_length (l : List Nat) (x : List Word × State) : (l.foldl readStep x).1.length = x.1.length + l.length := by
  induction l generalizing x with
  | nil => rfl
  | cons a l ih =>
    rw [List.foldl_cons, ih, List.length_cons, readStep]
    split <;> simp only [List.length_append, List.length_singleton] <;> omega

theorem State.hostReads_length (l : List Nat) (s : State) : (s.hostReads l).1.length = l.length :=
  (foldl_readStep_length l ([], s)).trans (Nat.zero_add _)

theorem State.hostReads_nil (s : State) : s.hostReads [] = ([], s) := rfl

theorem State.hostReads_answered {s : State} {a : Nat} (h : s.regStatus false a = 1) :
    s.hostReads [a] = ([s.regWord .host a], s.afterRead .host a) := if_pos h

theorem State.hostReads_refused {s : State} {a : Nat} (h : s.regStatus false a ≠ 1) : s.hostReads [a] = ([0], s) := if_neg h

theorem State.hostWrites_answered {s : State} {a : Nat} (h : s.regStatus true a = 1) (d : Word) :
    s.hostWrites [(a, d)] = s.regWrite .host a d := if_pos h

theorem State.hostWrites_refused {s : State} {a : Nat} (h : s.regStatus true a ≠ 1) (d : Word) : s.hostWrites [(a, d)] = s := if_neg h

/-! A request for the unit itself (R460, R462) -/

theorem State.hostHeard_eq (s : State) : s.hostHeard = s.withMarks s.host.burst true := rfl

theorem State.heard_own (s : State) : s.heard true = s.withMarks none true := rfl

theorem State.nmiHit_of_hit {s : State} {n : Nat} (h : s.flt.nmi = some (s.beat.num, n)) (ht : s.beat.offNs ≤ n + 5000) :
    s.nmiHit = Config.nmiDone s.beat.num n := by
  rw [State.nmiHit, h]
  exact if_pos ⟨rfl, by omega⟩

section

variable {s : State} {rseq u : BitVec 8} {a : BitVec 14} {d : Word} {fx : Bool} {n : Nat} {ps : List Nat} {ws : List Word}

theorem exec_hostRead_own (hlocal : s.hostLocal u = true) : exec (.hostRead rseq u a) s =
    .next (s.transact rseq (reqBytes (reqHeader rseq 0 u a) none []) (exemptRead [a.toNat]) true 1 (localRead [a.toNat])) := by
  refine congrArg Host.Outcome.next ?_
  rw [State.hostRead, hlocal, Bool.true_and]
  rfl

theorem exec_hostWrite_own (hlocal : s.hostLocal u = true) : exec (.hostWrite rseq u a d) s =
    .next (s.transact rseq (reqBytes (reqHeader rseq 1 u a) none [d]) false true 1 (localWrite [(a.toNat, d)])) := by
  refine congrArg Host.Outcome.next ?_
  rw [State.hostWrite, hlocal]
  rfl

/-- A local read that is answered (R454, R458). -/
theorem State.localRead_whole (s : State) (a : Nat) :
    localRead [a] 1 s = (s.regStatus false a, (s.hostReads [a]).1, (s.hostReads [a]).2) := by
  rw [localRead, State.burstStatus_single]
  exact congrArg (Prod.mk _) (congrArg (fun l => (l, _)) (List.append_nil _))

theorem State.localWrite_whole (s : State) (a : Nat) (d : Word) :
    localWrite [(a, d)] 1 s = (s.regStatus true a, [], s.hostWrites [(a, d)]) := by
  rw [localWrite, List.map_singleton, State.burstStatus_single]
  rfl

/-- A new request for the unit itself that no NMI meets (R460). -/
theorem State.transact_own {bytes : List Byte} {exempt : Bool} {run : Nat → State → Nat × List Word × State} (hup : s.hostUp = true)
    (hinj : s.injectsHost = false) (hnmi : s.nmiHit = none)
    (hnew : (s.host.lastReq.any fun l => l.bytes == bytes) = false ∨ exempt = true) :
    s.transact rseq bytes exempt true n run =
      (run n (s.withMarks none true)).2.2.answered rseq bytes (run n (s.withMarks none true)).1 (run n (s.withMarks none true)).2.1
        ((run n (s.withMarks none true)).1 != 5) := by
  rw [State.transact_new hup hinj hnew, State.carriedOut_whole ((State.heard_nmiHit ..).trans hnmi)]
  rfl

/-- A read of the unit's own that is answered anew. -/
theorem exec_hostRead_new (hup : s.hostUp = true) (hinj : s.injectsHost = false) (hlocal : s.hostLocal u = true)
    (hnmi : s.nmiHit = none)
    (hnew : (s.host.lastReq.any fun l => l.bytes == reqBytes (reqHeader rseq 0 u a) none []) = false ∨ exemptRead [a.toNat] = true) :
    exec (.hostRead rseq u a) s = .next (((s.hostReads [a.toNat]).2.withMarks none true).answered rseq
      (reqBytes (reqHeader rseq 0 u a) none []) (s.regStatus false a.toNat) (s.hostReads [a.toNat]).1
      (s.regStatus false a.toNat != 5)) := by
  rw [exec_hostRead_own hlocal, State.transact_own hup hinj hnmi hnew, State.localRead_whole, State.hostReads_withMarks,
    State.regStatus_withMarks]

theorem exec_hostWrite_new (hup : s.hostUp = true) (hinj : s.injectsHost = false) (hlocal : s.hostLocal u = true)
    (hnmi : s.nmiHit = none) (hnew : (s.host.lastReq.any fun l => l.bytes == reqBytes (reqHeader rseq 1 u a) none [d]) = false) :
    exec (.hostWrite rseq u a d) s = .next (((s.hostWrites [(a.toNat, d)]).withMarks none true).answered rseq
      (reqBytes (reqHeader rseq 1 u a) none [d]) (s.regStatus true a.toNat) [] (s.regStatus true a.toNat != 5)) := by
  rw [exec_hostWrite_own hlocal, State.transact_own hup hinj hnmi (.inl hnew), State.localWrite_whole,
    (MarkBlind.hostWrites _).marks, State.regStatus_withMarks]

/-! Bursts (R458, R459) -/

/-- The addresses of a burst that goes through (R454, R458). -/
theorem burstAddrs_whole {x n : Nat} (hpos : 1 ≤ n) (hle : n ≤ 256) (hend : fx = true ∨ x + (n - 1) ≤ 0x3FFF) :
    burstAddrs fx x n = some ((List.range n).map fun i => if fx then x else x + i) := by
  refine if_neg ?_
  rcases hend with rfl | hend
  · simp; omega
  · simp [Nat.not_lt.2 hend]; omega

theorem burstAddrs_refused {x n : Nat} (h : n = 0 ∨ 256 < n ∨ (fx = false ∧ 0x3FFF < x + (n - 1))) : burstAddrs fx x n = none := by
  refine if_pos ?_
  rcases h with h | h | ⟨h, hend⟩
  · exact .inl h
  · exact .inr (.inl h)
  · exact .inr (.inr (by simp [h, hend]))

theorem State.transact_refused {bytes : List Byte} {mine : Bool} {data : List Word} (hup : s.hostUp = true)
    (hinj : s.injectsHost = false) (hlast : s.host.lastReq = none) :
    s.transact rseq bytes false mine 0 (refuseWith 2 data) = (s.heard mine).answered rseq bytes 2 data true := by
  rw [State.transact_new hup hinj (.inl (by rw [hlast]; rfl)), State.carriedOut, if_neg (Nat.not_lt_zero _)]
  rfl

/-- The addresses that a burst of the unit's own goes to (R457, R458). -/
def State.ownBurst (u : BitVec 8) (fx : Bool) (x n : Nat) (s : State) : Option (List Nat) :=
  if s.hostLocal u then burstAddrs fx x n else none

theorem State.ownBurst_whole (hlocal : s.hostLocal u = true) {x n : Nat} (hpos : 1 ≤ n) (hle : n ≤ 256)
    (hend : fx = true ∨ x + (n - 1) ≤ 0x3FFF) :
    s.ownBurst u fx x n = some ((List.range n).map fun i => if fx then x else x + i) :=
  (if_pos hlocal).trans (burstAddrs_whole hpos hle hend)

theorem State.ownBurst_refused {x n : Nat}
    (h : s.hostLocal u = false ∨ n = 0 ∨ 256 < n ∨ (fx = false ∧ 0x3FFF < x + (n - 1))) : s.ownBurst u fx x n = none := by
  rcases h with h | h
  · exact if_neg (by simp [h])
  · rw [State.ownBurst, burstAddrs_refused h, ite_self]

theorem exec_hostBurstRead_whole {l : List Nat} (hlocal : s.hostLocal u = true) (hl : s.ownBurst u fx a.toNat n = some l) :
    exec (.hostBurstRead rseq u a fx ⟨n, ps⟩) s =
      .next (s.transact rseq (reqBytes (reqHeader rseq 2 u a) (some (countWord fx n)) []) (exemptRead l) true l.length
        (localBurst l ps)) := by
  have h : exec (.hostBurstRead rseq u a fx ⟨n, ps⟩) s = .next (s.transact rseq
    (reqBytes (reqHeader rseq 2 u a) (some (countWord fx n)) []) ((s.ownBurst u fx a.toNat n).any exemptRead) (s.hostLocal u)
    ((s.ownBurst u fx a.toNat n).getD []).length
    (match s.ownBurst u fx a.toNat n with
      | some l => localBurst l ps
      | none => refuseWith 2 (List.replicate n 0))) := rfl
  rw [h, hl, hlocal]
  rfl

theorem exec_hostBurstRead_refused (hl : s.ownBurst u fx a.toNat n = none) :
    exec (.hostBurstRead rseq u a fx ⟨n, ps⟩) s =
      .next (s.transact rseq (reqBytes (reqHeader rseq 2 u a) (some (countWord fx n)) []) false (s.hostLocal u) 0
        (refuseWith 2 (List.replicate n 0))) := by
  have h : exec (.hostBurstRead rseq u a fx ⟨n, ps⟩) s = .next (s.transact rseq
    (reqBytes (reqHeader rseq 2 u a) (some (countWord fx n)) []) ((s.ownBurst u fx a.toNat n).any exemptRead) (s.hostLocal u)
    ((s.ownBurst u fx a.toNat n).getD []).length
    (match s.ownBurst u fx a.toNat n with
      | some l => localBurst l ps
      | none => refuseWith 2 (List.replicate n 0))) := rfl
  rw [h, hl]
  rfl

theorem exec_hostBurstWrite_whole {l : List Nat} (hlocal : s.hostLocal u = true) (hl : s.ownBurst u fx a.toNat ws.length = some l) :
    exec (.hostBurstWrite rseq u a fx ws) s =
      .next (s.transact rseq (reqBytes (reqHeader rseq 3 u a) (some (countWord fx ws.length)) ws) false true l.length
        (localWrite (l.zip ws))) := by
  have h : exec (.hostBurstWrite rseq u a fx ws) s = .next (s.transact rseq
    (reqBytes (reqHeader rseq 3 u a) (some (countWord fx ws.length)) ws) false (s.hostLocal u)
    ((s.ownBurst u fx a.toNat ws.length).getD []).length
    (match s.ownBurst u fx a.toNat ws.length with
      | some l => localWrite (l.zip ws)
      | none => refuseWith 2 [])) := rfl
  rw [h, hl, hlocal]
  rfl

theorem exec_hostBurstWrite_refused (hl : s.ownBurst u fx a.toNat ws.length = none) :
    exec (.hostBurstWrite rseq u a fx ws) s =
      .next (s.transact rseq (reqBytes (reqHeader rseq 3 u a) (some (countWord fx ws.length)) ws) false (s.hostLocal u) 0
        (refuseWith 2 [])) := by
  have h : exec (.hostBurstWrite rseq u a fx ws) s = .next (s.transact rseq
    (reqBytes (reqHeader rseq 3 u a) (some (countWord fx ws.length)) ws) false (s.hostLocal u)
    ((s.ownBurst u fx a.toNat ws.length).getD []).length
    (match s.ownBurst u fx a.toNat ws.length with
      | some l => localWrite (l.zip ws)
      | none => refuseWith 2 [])) := rfl
  rw [h, hl]
  rfl

/-- A whole burst read reads what falls due before the boundary and keeps the rest (R458). -/
theorem State.localBurst_whole (s : State) (l ps : List Nat) :
    localBurst l ps l.length (s.withMarks none true) = (s.burstStatus false l, (s.hostReads (l.take (ps.headD 0))).1,
      (s.hostReads (l.take (ps.headD 0))).2.withMarks (some ⟨l.drop (ps.headD 0), ps.tail⟩) true) := by
  rw [localBurst]
  dsimp only
  rw [if_pos (Nat.le_refl _), ← List.take_eq_take_min, State.hostReads_withMarks, State.burstStatus_withMarks]
  rfl

theorem State.localWrite_burst {l : List Nat} (hlen : l.length = ws.length) (s : State) :
    localWrite (l.zip ws) l.length (s.withMarks none true) =
      (s.burstStatus true l, [], (s.hostWrites (l.zip ws)).withMarks none true) := by
  have htake : (l.zip ws).take l.length = l.zip ws := List.take_of_length_le (by simp [hlen])
  have hfst : (l.zip ws).map (·.1) = l := List.map_fst_zip hlen.le
  rw [localWrite, htake, hfst, (MarkBlind.hostWrites _).marks, State.burstStatus_withMarks]

/-! What no raise touches of the port (R460, R463) -/

/-- The stored request, SYS_SEQ and the error counts. -/
def State.portKept (s : State) : Option LastReq × BitVec 8 × Nat × Nat :=
  (s.host.lastReq, s.host.seqLast, s.host.errCrc, s.host.errFrame)

theorem State.portKept_iff {s t : State} : t.portKept = s.portKept ↔ t.host.lastReq = s.host.lastReq ∧ t.host.seqLast = s.host.seqLast ∧
    t.host.errCrc = s.host.errCrc ∧ t.host.errFrame = s.host.errFrame := by
  simp only [State.portKept, Prod.mk.injEq]

theorem State.openReport_portKept (was : Bool) (fs k : Nat) (b : Word) (s : State) : (s.openReport was fs k b).portKept = s.portKept := by
  unfold State.openReport
  split <;> rfl

theorem State.raiseEntries_host (fs code : Nat) (d e : Word) (merged onset : Bool) (s : State) :
    (State.raiseEntries fs code d e merged onset s).host = s.host := by
  cases merged <;> cases onset <;> rfl

theorem State.raiseAt_portKept (kind : RaiseKind) (single : Bool) (fs : Nat) (d e : Word) (s : State) :
    (s.raiseAt kind single fs d e).portKept = s.portKept := by
  rw [State.raiseAt_eq]
  dsimp only
  rw [State.raiseTail, State.portKept, State.react_host, ← State.portKept, State.openReport_portKept, State.portKept, State.portKept]
  dsimp only
  rw [State.raiseEntries_host]
  exact congrArg (fun h : HostS => (h.lastReq, h.seqLast, h.errCrc, h.errFrame)) (State.w1cNow_host fs s)

theorem State.injResult_portKept (ok : Bool) (s : State) : (s.injResult ok).portKept = s.portKept ∧ (s.injResult ok).safe = s.safe := by
  cases hrun : s.flt.injRun with
  | none => simp [State.injResult, hrun]
  | some i =>
    cases hok : i.seen.getD ok with
    | true =>
      rw [State.injResult_pass hrun hok]
      split
      · exact ⟨State.raiseAt_portKept .., State.raiseAt_safe ..⟩
      · exact ⟨rfl, rfl⟩
    | false =>
      rw [State.injResult_fail hrun hok]
      exact ⟨State.raiseAt_portKept .., State.raiseAt_safe ..⟩

/-- A frame that is no request latches FS64 and changes neither measurement nor channel (R456). -/
theorem State.badFrame_keeps (hwhole : s.srcWhole) :
    ((s.tally 19 1).raise 64 0).portKept = s.portKept ∧ (((s.tally 19 1).raise 64 0).fs 64).latch = true ∧
    ((s.tally 19 1).raise 64 0).beat = s.beat ∧ ((s.tally 19 1).raise 64 0).cha = s.cha ∧ ((s.tally 19 1).raise 64 0).chb = s.chb ∧
    ((s.tally 19 1).raise 64 0).safe = s.safe ∧ ((s.tally 19 1).raise 64 0).meas = s.meas :=
  ⟨State.raiseAt_portKept .., (State.raise_fs (by rw [show (s.tally 19 1).flt = s.flt from rfl, hwhole]; decide) 0).1,
    State.raise_beat .., State.raise_cha .., State.raise_chb .., State.raise_safe .., State.raise_meas ..⟩

/-! Frames (R454-R456) -/

theorem exec_hostCrcError_fails {l : List Byte} (hup : s.hostUp = true) (h4 : 4 ≤ l.length) (hlen : reqLen l + 2 ≤ l.length)
    (hcrc : reqCrcOk l = false) : exec (.hostCrcError l) s = .next (s.hostCrcFails (BitVec.ofNat 8 (numAt l 0 1))) := by
  refine congrArg Host.Outcome.next ?_
  rw [State.hostFrame, if_neg (by simp [hup]), if_neg (by omega), if_neg (by simp [hcrc])]

theorem exec_hostCrcError_short {l : List Byte} (h : l.length < 4 ∨ l.length < reqLen l + 2) :
    exec (.hostCrcError l) s = exec .hostFramingError s := by
  refine congrArg Host.Outcome.next ?_
  rw [State.hostFrame, if_pos h]

theorem exec_hostCrcError_right {l : List Byte} (hup : s.hostUp = true) (h4 : 4 ≤ l.length) (hlen : reqLen l + 2 ≤ l.length)
    (hcrc : reqCrcOk l = true) : exec (.hostCrcError l) s = .next (s.hostOp l) := by
  refine congrArg Host.Outcome.next ?_
  rw [State.hostFrame, if_neg (by simp [hup]), if_neg (by omega), if_pos hcrc]

theorem exec_hostFrames_down (hup : s.hostUp = false) (l : List Byte) :
    exec (.hostCrcError l) s = .next { s with host := { s.host with reply := none } } ∧
    exec .hostFramingError s = .next { s with host := { s.host with reply := none } } :=
  ⟨congrArg _ (if_pos (by simp [hup])), congrArg _ (if_pos (by simp [hup]))⟩

/-- The first bytes of a request hold RSEQ and OP (R455). -/
theorem reqHeader_bytes {l : List Byte} (h4 : 4 ≤ l.length) : numAt l 0 4 / 2 ^ 24 = numAt l 0 1 ∧ numAt l 0 4 / 2 ^ 22 % 4 = numAt l 1 1 / 64 := by
  match l, h4 with
  | b0 :: b1 :: b2 :: b3 :: r, _ =>
    have h0 := b0.isLt
    have h1 := b1.isLt
    have h2 := b2.isLt
    have h3 := b3.isLt
    simp only [numAt, slice, numOf, List.drop_zero, List.drop_succ_cons, List.cons_append, List.take_succ_cons, List.take_zero,
      List.foldl_cons, List.foldl_nil]
    omega

theorem exec_hostFramingError_up (hup : s.hostUp = true) : exec .hostFramingError s = .next s.hostFraming :=
  congrArg Host.Outcome.next (if_neg (by simp [hup]))

end

end Sys2Proof.Machine

namespace Sys2Proof.Proofs
open Sys2Proof Sys2Proof.Machine

/-- Settles O54: a request is judged once, and what a local access does to the registers is blind to the port's own marks. -/
theorem hostAccess : Obligations.HostAccess := by
  refine ⟨?read, ?write, ?nmi, ?repeatRead, ?repeatWrite, ?down, ?burstRead, ?burstOn, ?length, ?single, ?badRead, ?burstWrite,
    ?twoWrites, ?refusedWrite, ?badWrite, ?burstDown, ?crc, ?short, ?frame, ?framing, ?framingDown, ?injected⟩
  case read =>
    intro s rseq u a hup hinj hlocal hnmi hnew
    have hnew' : (s.host.lastReq.any fun l => l.bytes == reqBytes (reqHeader rseq 0 u a) none []) = false ∨
        exemptRead [a.toNat] = true := hnew.imp_right (by rintro (h | h) <;> rw [h] <;> rfl)
    refine ⟨_, _, exec_hostRead_new hup hinj hlocal hnmi hnew', rfl, rfl, rfl, rfl, rfl, rfl, rfl, fun h => ?_, fun h => ?_⟩
    · rw [State.hostReads_answered h, State.hostHeard_eq, State.regWord_withMarks, (MarkBlind.afterRead ..).marks]
      exact ⟨rfl, rfl⟩
    · rw [State.hostReads_refused h]
      exact ⟨rfl, rfl⟩
  case write =>
    intro s rseq u a d hup hinj hlocal hnmi hnew
    refine ⟨_, _, exec_hostWrite_new hup hinj hlocal hnmi hnew, rfl, rfl, rfl, rfl, rfl, rfl, rfl, rfl, ?_, fun h => ?_, fun h => ?_⟩
    · by_cases h5 : s.regStatus true a.toNat = 5
      · rw [State.hostWrites_refused (by rw [h5]; decide)]
        show (if (s.regStatus true a.toNat != 5) = true then _ else _) = if s.regStatus true a.toNat = 5 then _ else _
        rw [h5]
        rfl
      · exact (if_pos (bne_iff_ne.2 h5)).trans (if_neg h5).symm
    · rw [State.hostWrites_answered h, State.hostHeard_eq, (MarkBlind.regWrite ..).marks]
      rfl
    · rw [State.hostWrites_refused h]
      rfl
  case nmi =>
    intro s rseq u a d n hup hinj hlocal hhit ht hlast
    have hnew (bytes : List Byte) : (s.host.lastReq.any fun l => l.bytes == bytes) = false := by rw [hlast]; rfl
    refine ⟨?_, ?_⟩
    · rw [exec_hostRead_own hlocal, State.transact_new hup hinj (.inl (hnew _)), State.carriedOut, State.heard_nmiHit,
        State.nmiHit_of_hit hhit ht]
      refine ⟨_, rfl, rfl, rfl, fun h0 => ?_⟩
      rw [h0]
      exact ⟨rfl, hlast, rfl⟩
    · rw [exec_hostWrite_own hlocal, State.transact_new hup hinj (.inl (hnew _)), State.carriedOut, State.heard_nmiHit,
        State.nmiHit_of_hit hhit ht]
      refine ⟨_, rfl, rfl, fun h0 => ?_⟩
      rw [h0]
      exact ⟨rfl, hlast, rfl⟩
  case repeatRead =>
    intro s rseq u a r hup hinj hlocal h4 h5 hlast
    have hex : exemptRead [a.toNat] = false := by simp [exemptRead, h4, h5]
    rw [exec_hostRead_own hlocal, hex, State.transact_repeat hup hinj hlast]
    exact ⟨_, _, rfl, rfl, rfl, rfl, rfl, rfl, rfl⟩
  case repeatWrite =>
    intro s rseq u a d r hup hinj hlocal hlast
    rw [exec_hostWrite_own hlocal, State.transact_repeat hup hinj hlast]
    exact ⟨_, _, rfl, rfl, rfl, rfl, rfl, rfl, rfl⟩
  case down =>
    intro s rseq u a d hup
    exact ⟨congrArg _ (State.transact_down hup), congrArg _ (State.transact_down hup)⟩
  case burstRead =>
    intro s rseq u a fx n ps l hup hinj hlocal hnmi hnew hpos hle hend hl
    subst hl
    rw [exec_hostBurstRead_whole hlocal (State.ownBurst_whole hlocal hpos hle hend), State.transact_own hup hinj hnmi (.inl hnew),
      State.localBurst_whole, State.hostHeard_eq, State.hostReads_withMarks]
    refine ⟨_, _, rfl, rfl, rfl, rfl, rfl, rfl, fun h => ?_, fun h => ?_, rfl, rfl, rfl⟩
    · exact State.burstStatus_whole (by simpa using h)
    · exact State.burstStatus_reserved (by simpa using h)
  case burstOn =>
    intro s b r hb hr
    rw [State.burstOn, hb, hr]
    exact ⟨_, rfl, rfl, rfl, rfl, rfl, if_congr List.isEmpty_iff rfl rfl⟩
  case length => exact fun s l => State.hostReads_length l s
  case single =>
    intro s a
    by_cases h : s.regStatus false a = 1
    · rw [State.hostReads_answered h, if_pos h]
    · rw [State.hostReads_refused h, if_neg h]
  case badRead =>
    intro s rseq u a fx n ps hup hinj hlast hbad
    rw [exec_hostBurstRead_refused (State.ownBurst_refused hbad), State.transact_refused hup hinj hlast]
    refine ⟨_, rfl, rfl, rfl, ?_, ?_, ?_⟩
    · rw [State.answered_host, State.heard_host]
    · rw [State.answered_host, State.heard_host]
    · rw [State.answered_eq, State.heard_eq]
  case burstWrite =>
    intro s rseq u a fx ws hup hinj hlocal hnmi hnew hpos hle hend
    rw [exec_hostBurstWrite_whole hlocal (State.ownBurst_whole hlocal hpos hle hend), State.transact_own hup hinj hnmi (.inl hnew),
      State.localWrite_burst (by simp), State.hostHeard_eq, (MarkBlind.hostWrites _).marks]
    refine ⟨_, rfl, rfl, rfl, fun h => ?_, fun h => ?_, rfl⟩
    · exact State.burstStatus_whole (by simpa using h)
    · exact State.burstStatus_readOnly (by simpa using h)
  case twoWrites =>
    intro s a b v w ha hb
    exact (congrArg (State.hostWrites [(b, w)]) (State.hostWrites_answered ha v)).trans (State.hostWrites_answered hb w)
  case refusedWrite => exact fun s a v h => State.hostWrites_refused h v
  case badWrite =>
    intro s rseq u a fx ws hup hinj hlast hbad
    have hbad' : s.hostLocal u = false ∨ ws.length = 0 ∨ 256 < ws.length ∨ (fx = false ∧ 0x3FFF < a.toNat + (ws.length - 1)) :=
      hbad.imp_right (Or.imp_left List.length_eq_zero_iff.2)
    rw [exec_hostBurstWrite_refused (State.ownBurst_refused hbad'), State.transact_refused hup hinj hlast]
    refine ⟨_, rfl, rfl, rfl, ?_⟩
    rw [State.answered_eq, State.heard_eq]
  case burstDown =>
    intro s rseq u a fx n ps ws hup
    exact ⟨congrArg _ (State.transact_down hup), congrArg _ (State.transact_down hup)⟩
  case crc =>
    intro s l hup hwhole h4 hlen hcrc
    obtain ⟨hport, hlatch, hbeat, hcha, hchb, hsafe, hmeas⟩ := State.badFrame_keeps hwhole
    obtain ⟨hlast, hseq, herr, -⟩ := State.portKept_iff.1 hport
    rw [exec_hostCrcError_fails hup h4 hlen hcrc]
    exact ⟨_, _, rfl, rfl, rfl, rfl, rfl, rfl, congrArg (incSat 65535) herr, hseq, hlast, hlatch, hbeat, hcha, hchb, hsafe, hmeas⟩
  case short => exact fun s l h => exec_hostCrcError_short h
  case frame =>
    rintro s l rseq u a h4 hlen hcrc rfl rfl rfl
    obtain ⟨hseq, hop⟩ := reqHeader_bytes h4
    cases hup : s.hostUp with
    | false =>
      rw [(exec_hostFrames_down hup l).1]
      exact ⟨fun _ => (congrArg _ (State.transact_down hup)).symm, fun _ => (congrArg _ (State.transact_down hup)).symm,
        fun _ => (congrArg _ (State.transact_down hup)).symm, fun _ => (congrArg _ (State.transact_down hup)).symm⟩
    | true =>
      rw [exec_hostCrcError_right hup h4 hlen hcrc, ← hseq]
      refine ⟨fun h => ?_, fun h => ?_, fun h => ?_, fun h => ?_⟩
      · rw [State.hostOp, h]
        rfl
      · rw [State.hostOp, h]
        rfl
      · rw [State.hostOp, h]
        rfl
      · have hwords : reqWords l = numAt l 6 2 % 512 := by rw [reqWords, ← hop, h]; rfl
        rw [State.hostOp, h, hwords]
        rfl
  case framing =>
    intro s hup hwhole
    obtain ⟨hport, hlatch, hbeat, hcha, hchb, hsafe, hmeas⟩ := State.badFrame_keeps hwhole
    obtain ⟨-, hseq, -, herr⟩ := State.portKept_iff.1 hport
    rw [exec_hostFramingError_up hup]
    exact ⟨_, rfl, rfl, congrArg (incSat 65535) herr, hseq, hlatch, hbeat, hcha, hchb, hsafe, hmeas⟩
  case framingDown => exact fun s l hup => exec_hostFrames_down hup l
  case injected =>
    intro s rseq u a d hup hinj
    obtain ⟨hport, hsafe⟩ := State.injResult_portKept true s
    obtain ⟨hlast, hseq, herr, -⟩ := State.portKept_iff.1 hport
    obtain ⟨-, -, hbeat, hmeas, hcha, hchb, -⟩ := State.injResult_keeps true s
    refine ⟨_, _, congrArg Host.Outcome.next (State.transact_injected hup hinj), rfl, rfl, rfl, hseq, hlast, rfl, ?_, hbeat, hcha, hchb,
      hsafe, hmeas⟩
    rw [← herr]
    rfl

end Sys2Proof.Proofs
end

section
/-! PROOFS. The low-power states and their wakes (R492-R498). -/

namespace Sys2Proof.Machine

section

variable {s : State} {key d : Bool} {n r : Nat} {x : BitVec 7}

/-! Requests (R495) -/

theorem State.upAndRunning_iff : s.upAndRunning = true ↔ s.pwr.state = .active ∨ s.pwr.state = .idle := by
  unfold State.upAndRunning
  cases s.pwr.state <;> simp

theorem State.pwrDue_of_req {v : BitVec 2} (hup : s.pwr.state = .active ∨ s.pwr.state = .idle) (hreq : s.pwr.req = some (v, key))
    (hv : v.toNat = n) : s.pwrDue n = true := by
  simp [State.pwrDue, State.upAndRunning_iff.2 hup, hreq, hv]

theorem State.pwrDue_none (h : s.pwr.req = none ∨ (s.pwr.state ≠ .active ∧ s.pwr.state ≠ .idle)) (n : Nat) : s.pwrDue n = false := by
  rcases h with h | ⟨h, h'⟩
  · simp [State.pwrDue, h]
  · have hup : s.upAndRunning = false := Bool.eq_false_iff.2 fun hup => (State.upAndRunning_iff.1 hup).elim h h'
    simp [State.pwrDue, hup]

theorem State.pwrRequest_accepted (h : s.pwrRefusal d key = none) (n : Nat) :
    s.pwrRequest d key n = { s with pwr := { s.pwr with req := none, entry := some (s.pwr.entry.getD (d, n)) } } := by
  rw [State.pwrRequest, h]
  rfl

theorem State.pwrRequest_refused (h : s.pwrRefusal d key = some r) (n : Nat) :
    s.pwrRequest d key n = { s with pwr := { s.pwr with req := none, rcause := r, idleBeats := 0 } } := by
  rw [State.pwrRequest, h]
  rfl

theorem exec_pwrListen_due (hup : s.pwr.state = .active ∨ s.pwr.state = .idle) (hreq : s.pwr.req = some (1, key)) :
    exec .pwrListen s = .next (s.pwrRequest false key 1) := by
  refine congrArg Host.Outcome.next ?_
  rw [if_pos (State.pwrDue_of_req (n := 1) hup hreq rfl), hreq]
  rfl

theorem exec_pwrDormant_due (hup : s.pwr.state = .active ∨ s.pwr.state = .idle) (hreq : s.pwr.req = some (2, key)) :
    exec .pwrDormant s = .next (s.pwrRequest true key 1) := by
  refine congrArg Host.Outcome.next ?_
  rw [if_pos (State.pwrDue_of_req (n := 2) hup hreq rfl), hreq]
  rfl

/-- The reasons of a refusal come in their order (R495). -/
theorem State.pwrRefusal_eq (s : State) (d key : Bool) : s.pwrRefusal d key =
    if key = false then some 1
    else if (if s.runs .a then s.pre.ctlA else s.pre.ctlB) ≠ .parked ∧ (if s.runs .a then s.pre.ctlA else s.pre.ctlB) ≠ .safe then some 2
    else if s.pre.busy = true then some 3
    else if s.pre.closeStaged = true then some 4
    else if s.wakeActive d = true then some 5
    else if d = true ∧ ¬((s.hv 0).valid = true ∧ 12800 ≤ (s.hv 0).code) then some 6
    else none := by
  unfold State.pwrRefusal
  dsimp only
  refine if_congr (by simp) rfl (if_congr (by simp) rfl (if_congr Iff.rfl rfl (if_congr Iff.rfl rfl (if_congr Iff.rfl rfl
    (if_congr ?_ rfl rfl)))))
  simp only [Bool.and_eq_true, Bool.not_eq_true', Bool.and_eq_false_iff, decide_eq_false_iff_not, not_and_or, Bool.not_eq_true]

/-! Timeouts and the supply (R494, R496) -/

theorem State.listenDue_iff : s.listenDue = true ↔
    s.pwr.state = .idle ∧ 0 < s.nat .LSN_TMO ∧ 1000 * s.nat .LSN_TMO ≤ s.pwr.idleBeats ∧ s.pwr.entry = none := by
  simp only [State.listenDue, Bool.and_eq_true, beq_iff_eq, decide_eq_true_eq, Option.isNone_iff_eq_none, and_assoc]
  rfl

/-- What a low-power entry leaves when no wake is waiting (R496). -/
theorem State.enterLow_rests {k : Nat} (hentry : s.pwr.entry = some (d, k))
    (hrest : s.pwr.wakeLatch &&& wakeMask d = 0 ∨ s.pwr.vsGood = false) :
    ∃ l, (s.runs .a = true → (storeGet (l.newest.toNat % 131072) l.store).map (fun x => (x.code, x.p)) =
        some (0x104, [nword (if d then 2 else 1), nword k, 0, 0])) ∧
      ∃ t : State, s.enterLow = t ∧ t.pwr.state = (if d then .dormant else .listen) ∧ t.pwr.wakeEn = BitVec.ofNat 7 (s.nat .WAKE_EN) ∧
        t.pwr.dormTmo = s.nat .DORM_TMO ∧ t.safe = ({ s with log := l } : State).kept.safe ∧ t.beat = {} ∧
        t.meas.qA = s.meas.qSaved ∧ t.log = l.kept := by
  obtain ⟨l0, h0, -⟩ := s.flushLog_eq
  obtain ⟨l, hl, -, hlast⟩ := State.lastRecord_eq 0x104 [nword (if d then 2 else 1), nword k] { s with log := l0 }
  refine ⟨l, hlast, _, rfl, ?_⟩
  have hno : ¬((s.pwr.wakeLatch &&& wakeMask d != 0 && s.pwr.vsGood) = true) := by
    rcases hrest with h | h <;> simp [h]
  rw [State.enterLow, hentry]
  dsimp only
  rw [h0, hl]
  cases d
  · rw [if_neg (by exact hno)]
    exact ⟨rfl, rfl, rfl, rfl, rfl, rfl, rfl⟩
  · rw [if_neg (by exact hno)]
    exact ⟨rfl, rfl, rfl, rfl, rfl, rfl, rfl⟩

end

/-! Wakes (R497) -/

section

variable {s : State} {x : BitVec 7} {d : Bool}

theorem State.wake_low (hlow : s.pwr.state = .listen ∨ s.pwr.state = .dormant) : s.wake x =
    if s.wakeSources (s.pwr.state == .dormant) x &&& s.pwr.wakeEn = 0 then s
    else if s.pwr.vsGood then s.wakeStart (s.pwr.wakeLatch ||| s.wakeSources (s.pwr.state == .dormant) x)
    else s.setPwr fun p => { p with wakeLatch := p.wakeLatch ||| s.wakeSources (s.pwr.state == .dormant) x } := by
  unfold State.wake
  rcases hlow with h | h <;> rw [h]

theorem State.wake_up (hl : s.pwr.state ≠ .listen) (hd : s.pwr.state ≠ .dormant) : s.wake x =
    match s.pwr.entry with
    | some (dormant, _) =>
      if s.wakeSources dormant x &&& BitVec.ofNat 7 (s.nat .WAKE_EN) = 0 then s
      else s.setPwr fun p => { p with wakeLatch := p.wakeLatch ||| s.wakeSources dormant x }
    | none => s := by
  unfold State.wake
  split
  · exact absurd ‹_› hl
  · exact absurd ‹_› hd
  · rfl

/-- A state's sources: the CAN ports wake from Listen alone, the alarm only when it is set. -/
theorem State.wakeSources_masked (s : State) (d : Bool) (x : BitVec 7) : s.wakeSources true x &&& 0x60 = 0 ∧
    s.wakeSources false x &&& 2 = 0 ∧ (s.pwr.alarm = 0 → s.wakeSources d x &&& 0x10 = 0) := by
  have hmask (y m z : BitVec 7) (h : m &&& z = 0) : x &&& m &&& y &&& z = 0 := by
    rw [show x &&& m &&& y &&& z = x &&& y &&& (m &&& z) by ac_rfl, h]
    exact BitVec.and_zero
  refine ⟨hmask _ 0x1F 0x60 (by decide), hmask _ 0x7D 2 (by decide), fun h => ?_⟩
  rw [State.wakeSources, if_pos h, BitVec.and_assoc, show (0x6F : BitVec 7) &&& 0x10 = 0 by decide]
  exact BitVec.and_zero

end

end Sys2Proof.Machine
end

section
/-! PROOFS. The start sequence (R55, R134, R142, R351, R487, R499-R501). -/

namespace Sys2Proof.Machine

section

variable {s : State} {o : StartIn}

/-! The steps in their order (R499) -/

theorem exec_startSequence_step1 (h : s.pwr.state = .start 1) : exec (.startSequence o) s = .next (s.stepOn 1) := by
  refine congrArg Host.Outcome.next ?_
  rw [State.startStep, h]
  rfl

theorem exec_startSequence_step2 (h : s.pwr.state = .start 2) : exec (.startSequence o) s = .next ((s.startBoot o.bootFail).stepOn 2) := by
  refine congrArg Host.Outcome.next ?_
  rw [State.startStep, h]
  rfl

/-- Both pairs after the self-test of the start (R351). -/
def State.startTests (o : StartIn) (s : State) : State :=
  (s.startTest .a (testFailure o.missA o.flagA)).startTest .b (testFailure o.missB o.flagB)

theorem exec_startSequence_step3 (h : s.pwr.state = .start 3) : exec (.startSequence o) s =
    .next ((s.startTests o).stepOn 3) := by
  refine congrArg Host.Outcome.next ?_
  rw [State.startStep, h]
  rfl

theorem exec_startSequence_step4 (h : s.pwr.state = .start 4) :
    exec (.startSequence o) s = .next ((s.startMemory o.memFail).stepOn 4) := by
  refine congrArg Host.Outcome.next ?_
  rw [State.startStep, h]
  rfl

theorem exec_startSequence_step5 (h : s.pwr.state = .start 5) :
    exec (.startSequence o) s = .next ((s.startLoad o.copiesEqual).stepOn 5) := by
  refine congrArg Host.Outcome.next ?_
  rw [State.startStep, h]
  rfl

theorem exec_startSequence_step6 (h : s.pwr.state = .start 6) : exec (.startSequence o) s =
    .next ((s.calibrate o.calCell o.calChk o.calCur o.calHv).startPass.stepOn 6) := by
  refine congrArg Host.Outcome.next ?_
  rw [State.startStep, h]
  rfl

theorem exec_startSequence_step7 (h : s.pwr.state = .start 7) : exec (.startSequence o) s =
    .next (if s.passRuns then s else (onlyIf s.misPopulated (State.raiseCond 28 0) s).stepOn 7) := by
  refine congrArg Host.Outcome.next ?_
  rw [State.startStep, h]
  rfl

theorem exec_startSequence_rest (h : s.pwr.state = .start 8 ∨ s.pwr.state = .active ∨ s.pwr.state = .idle ∨ s.pwr.state = .off ∨
    s.pwr.state = .held ∨ s.pwr.state = .listen ∨ s.pwr.state = .dormant) : exec (.startSequence o) s = .next s := by
  refine congrArg Host.Outcome.next ?_
  rw [State.startStep]
  rcases h with h | h
  · rw [h]
    rfl
  · rcases h with h | h | h | h | h | h <;> rw [h]

/-! Faults found before the collectors run (R499, R538) -/

theorem State.startFault_eq (c : Bool) (fs : Nat) (d : Word) (s : State) :
    s.startFault c fs d = { s with pwr := { s.pwr with startFaults := s.pwr.startFaults ++ if c then [(fs, d)] else [] } } := by
  cases c
  · exact (congrArg (fun l => { s with pwr := { s.pwr with startFaults := l } }) (List.append_nil s.pwr.startFaults)).symm
  · rfl

theorem State.dieHeld_a (c : Bool) (s : State) : ∃ shown, s.dieHeld c .a =
    { s with cha := { s.cha with alive := s.cha.alive && !c }, fltShown := shown } ∧ (c = false → shown = s.fltShown) := by
  cases c
  · exact ⟨s.fltShown, by rw [Bool.not_false, Bool.and_true]; rfl, fun _ => rfl⟩
  · exact ⟨_, by rw [Bool.not_true, Bool.and_false]; rfl, fun h => absurd h (by decide)⟩

theorem State.dieHeld_b (c : Bool) (s : State) :
    s.dieHeld c .b = { s with chb := { s.chb with alive := s.chb.alive && !c } } := by
  cases c
  · rw [Bool.not_false, Bool.and_true]; rfl
  · rw [Bool.not_true, Bool.and_false]; rfl

/-- Both dies after a test that holds those that fail. -/
theorem State.diesHeld_eq (a b : Bool) (s : State) : ∃ shown, (s.dieHeld a .a).dieHeld b .b =
    { s with cha := { s.cha with alive := s.cha.alive && !a }, chb := { s.chb with alive := s.chb.alive && !b }, fltShown := shown } ∧
    (a = false → shown = s.fltShown) := by
  obtain ⟨shown, ha, hshown⟩ := s.dieHeld_a a
  exact ⟨shown, by rw [ha, State.dieHeld_b], hshown⟩

/-- A boot failure holds its die (R499). -/
theorem State.startBoot_eq (bad : BitVec 2) (s : State) : ∃ shown, s.startBoot bad = { s with
    cha := { s.cha with alive := s.cha.alive && !bad.toNat.testBit 0 }, chb := { s.chb with alive := s.chb.alive && !bad.toNat.testBit 1 }
    fltShown := shown, pwr := { s.pwr with startFaults := s.pwr.startFaults ++
      (if bad.toNat.testBit 0 then [(0, 0)] else []) ++ (if bad.toNat.testBit 1 then [(1, 0)] else []) } } := by
  obtain ⟨shown, h, -⟩ := ((s.startFault (bad.toNat.testBit 0) 0 0).startFault (bad.toNat.testBit 1) 1 0).diesHeld_eq
    (bad.toNat.testBit 0) (bad.toNat.testBit 1)
  refine ⟨shown, h.trans ?_⟩
  rw [State.startFault_eq, State.startFault_eq]

/-- The state after the memory tests (R499). -/
def State.memTested (bad : BitVec 3) (s : State) : State :=
  ((((s.startFault (bad.toNat.testBit 0) 9 0).startFault (bad.toNat.testBit 1) 10 0).startFault (bad.toNat.testBit 2) 11 0).dieHeld
    (bad.toNat.testBit 0) .a).dieHeld (bad.toNat.testBit 1) .b

theorem State.memTested_eq (bad : BitVec 3) (s : State) : ∃ shown, s.memTested bad = { s with
    cha := { s.cha with alive := s.cha.alive && !bad.toNat.testBit 0 }, chb := { s.chb with alive := s.chb.alive && !bad.toNat.testBit 1 }
    fltShown := shown, pwr := { s.pwr with startFaults := s.pwr.startFaults ++
      (if bad.toNat.testBit 0 then [(9, 0)] else []) ++ (if bad.toNat.testBit 1 then [(10, 0)] else []) ++
      (if bad.toNat.testBit 2 then [(11, 0)] else []) } } ∧ (bad.toNat.testBit 0 = false → shown = s.fltShown) := by
  obtain ⟨shown, h, hshown⟩ := (((s.startFault (bad.toNat.testBit 0) 9 0).startFault (bad.toNat.testBit 1) 10 0).startFault
    (bad.toNat.testBit 2) 11 0).diesHeld_eq (bad.toNat.testBit 0) (bad.toNat.testBit 1)
  refine ⟨shown, h.trans ?_, fun h0 => (hshown h0).trans ?_⟩ <;> rw [State.startFault_eq, State.startFault_eq, State.startFault_eq]

/-- The calendar goes on from its saved time by what has passed since (R487). -/
def LogS.calRestored (l : LogS) : LogS :=
  (LogS.tick { l with calSec := l.savedSec, calFrac := l.savedFrac, calValid := false }
    (65536 * l.calSec.toNat + l.calFrac.toNat))

theorem State.startMemory_eq (bad : BitVec 3) (s : State) : s.startMemory bad =
    if (s.memTested bad).pwr.cause = 1 then
      State.event .management 4 [(s.memTested bad).log.calRestored.calSec] { s.memTested bad with log := (s.memTested bad).log.calRestored.snap }
    else s.memTested bad := rfl

/-- Without a trim the restored calendar is the sum of both times. -/
theorem LogS.calRestored_time {l : LogS} (htrim : l.calTrim = 0) (hacc : l.calTrimAcc = 0)
    (hfit : 65536 * (l.savedSec.toNat + l.calSec.toNat) + l.savedFrac.toNat + l.calFrac.toNat < 65536 * 2 ^ 32) :
    65536 * l.calRestored.calSec.toNat + l.calRestored.calFrac.toNat =
      65536 * (l.savedSec.toNat + l.calSec.toNat) + l.savedFrac.toNat + l.calFrac.toNat := by
  rw [LogS.calRestored, LogS.tick]
  dsimp only
  rw [htrim, hacc, mul_zero, add_zero, show floorDiv 0 1000000 = 0 from rfl, add_zero, Int.toNat_natCast]
  simp only [nword, BitVec.toNat_ofNat]
  omega

/-- After Off the memory step restores the calendar, which is not valid, and tells of it (R487). -/
theorem State.calendarRestored (bad : BitVec 3) (hcause : s.pwr.cause = 1) (htrim : s.log.calTrim = 0) (hacc : s.log.calTrimAcc = 0)
    (hfit : 65536 * (s.log.savedSec.toNat + s.log.calSec.toNat) + s.log.savedFrac.toNat + s.log.calFrac.toNat < 65536 * 2 ^ 32) :
    (s.startMemory bad).log.calValid = false ∧
    65536 * (s.startMemory bad).log.calSec.toNat + (s.startMemory bad).log.calFrac.toNat =
      65536 * (s.log.savedSec.toNat + s.log.calSec.toNat) + s.log.savedFrac.toNat + s.log.calFrac.toNat ∧
    (bad = 0 → s.fltShown = none → s.beat.running = false →
      (s.startMemory bad).log.early = s.log.early ++ [⟨.management, 4, [(s.startMemory bad).log.calSec]⟩]) := by
  obtain ⟨shown, htest, hshown⟩ := s.memTested_eq bad
  have hlog : (s.startMemory bad).log = if shown.isSome then s.log.calRestored.snap
      else if s.beat.running then
        { s.log.calRestored.snap with intake := s.log.calRestored.snap.intake ++ [⟨.management, 4, [s.log.calRestored.calSec]⟩] }
      else { s.log.calRestored.snap with early := s.log.calRestored.snap.early ++ [⟨.management, 4, [s.log.calRestored.calSec]⟩] } := by
    rw [State.startMemory_eq, htest, if_pos hcause]
    exact State.event_log ..
  have htime := LogS.calRestored_time htrim hacc hfit
  refine ⟨?_, ?_, ?_⟩
  · rw [hlog]
    split
    · rfl
    · split <;> rfl
  · rw [hlog, ← htime]
    split
    · rfl
    · split <;> rfl
  · rintro rfl hnone hrun
    have hsome : shown.isSome = false := by rw [hshown (by decide), hnone]; rfl
    rw [hlog, hsome, hrun]
    rfl

/-! The comparator self-test (R351) -/

theorem State.startTest_passed (ch : Ch) (s : State) : s.startTest ch none = s := rfl

theorem State.startTest_failed (ch : Ch) (c i : Nat) (s : State) : s.startTest ch (some (c, i)) = { s with
    core := s.core.setPair ch fun p => { p with pair := .failed, testFail := some (c, i) }
    pwr := { s.pwr with startFaults := s.pwr.startFaults ++ [(2, nword c)] } } := rfl

/-- What the test of a pair leaves: its failure, and the other pair as it was. -/
theorem State.startTest_a (f : Option (Nat × Nat)) (s : State) :
    (s.startTest .a f).core.b = s.core.b ∧ (f = none → (s.startTest .a f).core.a = s.core.a ∧
      (s.startTest .a f).pwr.startFaults = s.pwr.startFaults) ∧
    (∀ c i, f = some (c, i) → (s.startTest .a f).core.a.pair = .failed ∧ (s.startTest .a f).core.a.testFail = some (c, i) ∧
      (2, nword c) ∈ (s.startTest .a f).pwr.startFaults) ∧
    s.startTest .a f = { s with core := (s.startTest .a f).core, pwr := (s.startTest .a f).pwr } := by
  cases f with
  | none => exact ⟨rfl, fun _ => ⟨rfl, rfl⟩, fun _ _ h => absurd h (by simp), rfl⟩
  | some x =>
    refine ⟨rfl, fun h => absurd h (by simp), ?_, rfl⟩
    rintro c i ⟨rfl⟩
    exact ⟨rfl, rfl, List.mem_append_right _ (List.mem_singleton.2 rfl)⟩

theorem State.startTest_b (f : Option (Nat × Nat)) (s : State) :
    (s.startTest .b f).core.a = s.core.a ∧ (f = none → (s.startTest .b f).core.b = s.core.b ∧
      (s.startTest .b f).pwr.startFaults = s.pwr.startFaults) ∧
    (∀ c i, f = some (c, i) → (s.startTest .b f).core.b.pair = .failed ∧ (s.startTest .b f).core.b.testFail = some (c, i) ∧
      (2, nword c) ∈ (s.startTest .b f).pwr.startFaults) ∧
    (∀ x ∈ s.pwr.startFaults, x ∈ (s.startTest .b f).pwr.startFaults) ∧
    s.startTest .b f = { s with core := (s.startTest .b f).core, pwr := (s.startTest .b f).pwr } := by
  cases f with
  | none => exact ⟨rfl, fun _ => ⟨rfl, rfl⟩, fun _ _ h => absurd h (by simp), fun _ h => h, rfl⟩
  | some x =>
    refine ⟨rfl, fun h => absurd h (by simp), ?_, fun _ h => List.mem_append_left _ h, rfl⟩
    rintro c i ⟨rfl⟩
    exact ⟨rfl, rfl, List.mem_append_right _ (List.mem_singleton.2 rfl)⟩

/-- A pair is FAILED by its first missed injection, else by a flag without one, and stays as it was without either. -/
theorem State.startTests_done (o : StartIn) (s : State) :
    ((o.missA = none → o.flagA = none → (s.startTests o).core.a = s.core.a) ∧
      (o.missB = none → o.flagB = none → (s.startTests o).core.b = s.core.b) ∧
      (∀ c i, o.missA = some (c, i) → (s.startTests o).core.a.pair = .failed ∧ (s.startTests o).core.a.testFail = some (c.val, i.val) ∧
        (2, nword c.val) ∈ (s.startTests o).pwr.startFaults) ∧
      (∀ c, o.missA = none → o.flagA = some c → (s.startTests o).core.a.pair = .failed ∧
        ((s.startTests o).core.a.testFail).map (·.1) = some c.val ∧ (2, nword c.val) ∈ (s.startTests o).pwr.startFaults) ∧
      (∀ c i, o.missB = some (c, i) → (s.startTests o).core.b.pair = .failed ∧ (s.startTests o).core.b.testFail = some (c.val, i.val) ∧
        (2, nword c.val) ∈ (s.startTests o).pwr.startFaults) ∧
      (∀ c, o.missB = none → o.flagB = some c → (s.startTests o).core.b.pair = .failed ∧
        ((s.startTests o).core.b.testFail).map (·.1) = some c.val ∧ (2, nword c.val) ∈ (s.startTests o).pwr.startFaults) ∧
      (o.missA = none → o.flagA = none → o.missB = none → o.flagB = none → (s.startTests o).pwr.startFaults = s.pwr.startFaults)) ∧
    s.startTests o = { s with core := (s.startTests o).core, pwr := (s.startTests o).pwr } := by
  obtain ⟨hab, hanone, hafail, -⟩ := State.startTest_a (testFailure o.missA o.flagA) s
  obtain ⟨hba, hbnone, hbfail, hmem, -⟩ := State.startTest_b (testFailure o.missB o.flagB) (s.startTest .a (testFailure o.missA o.flagA))
  refine ⟨⟨fun hm hf => ?_, fun hm hf => ?_, fun c i hm => ?_, fun c hm hf => ?_, fun c i hm => ?_, fun c hm hf => ?_,
    fun hm hf hm' hf' => ?_⟩, ?_⟩
  · exact hba.trans (hanone (by rw [hm, hf]; rfl)).1
  · exact (hbnone (by rw [hm, hf]; rfl)).1.trans hab
  · obtain ⟨hp, ht, hin⟩ := hafail c.val i.val (by rw [hm]; rfl)
    exact ⟨(congrArg PairS.pair hba).trans hp, (congrArg PairS.testFail hba).trans ht, hmem _ hin⟩
  · obtain ⟨hp, ht, hin⟩ := hafail c.val 0 (by rw [hm, hf]; rfl)
    exact ⟨(congrArg PairS.pair hba).trans hp, congrArg (Option.map _) ((congrArg PairS.testFail hba).trans ht), hmem _ hin⟩
  · obtain ⟨hp, ht, hin⟩ := hbfail c.val i.val (by rw [hm]; rfl)
    exact ⟨hp, ht, hin⟩
  · obtain ⟨hp, ht, hin⟩ := hbfail c.val 0 (by rw [hm, hf]; rfl)
    exact ⟨hp, congrArg (Option.map _) ht, hin⟩
  · exact (hbnone (by rw [hm', hf']; rfl)).2.trans (hanone (by rw [hm, hf]; rfl)).2
  · rw [State.startTests]
    cases testFailure o.missA o.flagA <;> cases testFailure o.missB o.flagB <;> rfl

/-! The converters (R142) -/

/-- The measurement after the calibration of the start (R142). -/
def MeasS.startCalibrated (m : MeasS) (o : StartIn) : MeasS :=
  { m with failCell := (calFails o.calCell 1000 200).map (· + 1), failChk := calFails o.calChk 4000 1000
           failCur := calFails o.calCur 2000 2000, failHv := calFails o.calHv 3000 500 }

/-- Segment g has a converter out of limits. -/
def MeasS.segFails (m : MeasS) (g : Nat) : Bool :=
  m.failCell.any (fun n => segOf n == g) || m.failChk.any (fun k => k / 6 == g) ||
    (g == 0 && (!m.failCur.isEmpty || !m.failHv.isEmpty))

/-- The segment's source follows its converters (R142). -/
def State.segJudged (m : MeasS) (g : Nat) (t : State) : State := if m.segFails g then t.raiseCond (24 + g) 0 else t

theorem State.calibrate_eq (o : StartIn) (s : State) : s.calibrate o.calCell o.calChk o.calCur o.calHv =
    runAll (State.segJudged (s.meas.startCalibrated o)) [0, 1, 2, 3] { s with meas := s.meas.startCalibrated o } := rfl

theorem State.segJudged_keeps {β : Type} (p : State → β) (hp : ∀ n d t, p (State.raiseCond n d t) = p t) (m : MeasS) (g : Nat) (t : State) :
    p (t.segJudged m g) = p t := by
  unfold State.segJudged
  split
  · exact hp ..
  · rfl

theorem State.calibrate_keeps {β : Type} (p : State → β) (hp : ∀ n d t, p (State.raiseCond n d t) = p t) (o : StartIn) (s : State) :
    p (s.calibrate o.calCell o.calChk o.calCur o.calHv) = p { s with meas := s.meas.startCalibrated o } := by
  rw [State.calibrate_eq]
  exact runAll_keeps p (State.segJudged_keeps p hp _) _ _

theorem State.segJudged_cond {m : MeasS} {g n : Nat} {t : State} (h : (t.fs n).cond = true) (hn : n < t.flt.src.length) :
    ((t.segJudged m g).fs n).cond = true := by
  unfold State.segJudged
  split
  · by_cases hne : n = 24 + g
    · subst hne
      exact (State.raiseCond_fs hn 0).2
    · rw [State.raiseCond_fs_ne hne]
      exact h
  · exact h

theorem State.segJudged_srcLength (m : MeasS) (g : Nat) (t : State) : (t.segJudged m g).flt.src.length = t.flt.src.length :=
  State.segJudged_keeps (fun t => t.flt.src.length) (fun _ _ _ => State.raiseCond_srcLength ..) m g t

/-- What one segment's source has met the others leave. -/
theorem runAll_segJudged_cond {m : MeasS} {g : Nat} (hg : g < 4) (hbad : m.segFails g = true) (l : List Nat) {t : State}
    (hwhole : t.srcWhole) (h : (t.fs (24 + g)).cond = true ∨ g ∈ l) : ((runAll (State.segJudged m) l t).fs (24 + g)).cond = true := by
  induction l generalizing t with
  | nil => exact h.resolve_right (List.not_mem_nil)
  | cons k l ih =>
    have hlen : 24 + g < t.flt.src.length := by rw [hwhole]; omega
    refine ih ((State.segJudged_srcLength m k t).trans hwhole) ?_
    rcases h with h | h
    · exact .inl (State.segJudged_cond h hlen)
    · rcases List.mem_cons.1 h with rfl | h
      · refine .inl ?_
        have hraise : t.segJudged m g = t.raiseCond (24 + g) 0 := if_pos hbad
        show ((t.segJudged m g).fs (24 + g)).cond = true
        rw [hraise]
        exact (State.raiseCond_fs hlen 0).2
      · exact .inr h

theorem State.calibrate_raises (hwhole : s.srcWhole) {g : Nat} (hg : g < 4) (hbad : (s.meas.startCalibrated o).segFails g = true) :
    ((s.calibrate o.calCell o.calChk o.calCur o.calHv).fs (24 + g)).cond = true := by
  rw [State.calibrate_eq]
  refine runAll_segJudged_cond hg hbad _ hwhole (.inr ?_)
  simp only [List.mem_cons, List.not_mem_nil]
  omega

theorem MeasS.segFails_of_cell {m : MeasS} {n : Nat} (h : n ∈ m.failCell) : m.segFails (segOf n) = true := by
  have hany : m.failCell.any (fun k => segOf k == segOf n) = true := List.any_eq_true.2 ⟨n, h, beq_self_eq_true _⟩
  rw [MeasS.segFails, hany]
  rfl

theorem MeasS.segFails_of_current {m : MeasS} (h : m.failCur ≠ [] ∨ m.failHv ≠ []) : m.segFails 0 = true := by
  have hor : (!m.failCur.isEmpty || !m.failHv.isEmpty) = true := by simpa [Bool.or_eq_true] using h
  rw [MeasS.segFails, hor]
  simp

theorem State.calibrate_good (hcell : o.calCell = []) (hchk : o.calChk = []) (hcur : o.calCur = []) (hhv : o.calHv = []) :
    (s.calibrate o.calCell o.calChk o.calCur o.calHv).flt = s.flt := by
  have hgood (g : Nat) : (s.meas.startCalibrated o).segFails g = false := by
    simp [MeasS.segFails, MeasS.startCalibrated, hcell, hchk, hcur, hhv, calFails, positions, indexed]
  rw [State.calibrate_eq]
  refine runAll_keeps State.flt (fun g t => ?_) _ _
  rw [State.segJudged, hgood]
  rfl

/-- The calibration of the start: its marks, the sources of the segments that fail, and what it leaves. -/
theorem State.calibrate_done (o : StartIn) (hwhole : s.srcWhole) :
    (s.calibrate o.calCell o.calChk o.calCur o.calHv).meas = s.meas.startCalibrated o ∧
    (∀ n, n ∈ (s.calibrate o.calCell o.calChk o.calCur o.calHv).meas.failCell → segOf n < 4 →
      ((s.calibrate o.calCell o.calChk o.calCur o.calHv).fs (24 + segOf n)).cond = true) ∧
    ((s.calibrate o.calCell o.calChk o.calCur o.calHv).meas.failCur ≠ [] ∨
      (s.calibrate o.calCell o.calChk o.calCur o.calHv).meas.failHv ≠ [] →
      ((s.calibrate o.calCell o.calChk o.calCur o.calHv).fs 24).cond = true) ∧
    (o.calCell = [] → o.calChk = [] → o.calCur = [] → o.calHv = [] →
      (s.calibrate o.calCell o.calChk o.calCur o.calHv).flt = s.flt) ∧
    (s.calibrate o.calCell o.calChk o.calCur o.calHv).cha = s.cha ∧ (s.calibrate o.calCell o.calChk o.calCur o.calHv).chb = s.chb ∧
    (s.calibrate o.calCell o.calChk o.calCur o.calHv).safe = s.safe := by
  have hmeas : (s.calibrate o.calCell o.calChk o.calCur o.calHv).meas = s.meas.startCalibrated o :=
    State.calibrate_keeps State.meas (fun _ _ _ => State.raiseCond_meas ..) o s
  refine ⟨hmeas, fun n hn hseg => ?_, fun hbad => ?_, State.calibrate_good,
    State.calibrate_keeps State.cha (fun _ _ _ => State.raiseCond_cha ..) o s,
    State.calibrate_keeps State.chb (fun _ _ _ => State.raiseCond_chb ..) o s,
    State.calibrate_keeps State.safe (fun _ _ _ => State.raiseCond_safe ..) o s⟩
  · rw [hmeas] at hn
    exact State.calibrate_raises hwhole hseg (MeasS.segFails_of_cell hn)
  · rw [hmeas] at hbad
    exact State.calibrate_raises hwhole (g := 0) (by decide) (MeasS.segFails_of_current hbad)

/-! The bank that loads (R134) -/

theorem State.chooseBank_trial {b : Bool} (hb : s.cfg.find [.trial] = some b) (hload : s.bankLoads b = true) :
    s.chooseBank = (s, some b, false) := by
  rw [State.chooseBank, hb]
  exact if_pos hload

theorem State.chooseBank_active {b : Bool} (hnone : s.cfg.find [.trial] = none) (hb : s.cfg.find [.active] = some b) :
    s.chooseBank = if s.bankLoads b then (s, some b, s.cfg.governing.isNone) else (s.bankTo b .invalid, none, true) := by
  rw [State.chooseBank, hnone]
  dsimp only
  rw [hb]

theorem State.bankTo_state (b : Bool) (st : BankState) (s : State) : ((s.bankTo b st).cfg.bank b).state = st := by
  rw [State.bankTo, State.setCfg]
  dsimp only
  rw [CfgS.journal_bank, CfgS.setBank_bank]

/-! What the image load leaves (R499) -/

/-- The beat number, the outputs and the count of starts. -/
def State.startView (s : State) : Word × List OutS × Nat := (s.beat.num, s.safe.out, s.pwr.starts)

theorem State.revertTrial_startView (why : Nat) (s : State) : (s.revertTrial why).startView = s.startView := by
  unfold State.revertTrial
  split <;> rfl

theorem State.startSwap_startView (s : State) : s.startSwap.startView = s.startView := by
  unfold State.startSwap
  split <;> rfl

theorem State.activation_startView (b : Bool) (s : State) : (s.activation b).startView = s.startView := by
  unfold State.activation
  extract_lets k
  split <;> rfl

theorem State.chooseBank_startView (s : State) : s.chooseBank.1.startView = s.startView := by
  unfold State.chooseBank
  extract_lets last
  have hlast (t : State) (failed : Bool) : (last t failed).1.startView = t.startView := by
    simp only [last]
    split
    · rfl
    · split <;> rfl
  split
  · split
    · rfl
    · exact (hlast _ true).trans (State.revertTrial_startView 4 s)
  · exact hlast s _

theorem State.loadImage_startView (s : State) : s.loadImage.1.startView = s.startView := by
  unfold State.loadImage
  extract_lets j rv
  have hrv : rv.startView = s.startView := by
    simp only [rv]
    split
    · exact State.revertTrial_startView 2 j
    · rfl
  have hchosen := (State.chooseBank_startView rv.startSwap).trans ((State.startSwap_startView rv).trans hrv)
  generalize rv.startSwap.chooseBank = x at hchosen
  obtain ⟨t, bank, failed⟩ := x
  dsimp only
  split
  · exact (State.activation_startView ..).trans hchosen
  · exact hchosen

/-- What of the load is there to see: the image, the faults that wait, the counts. -/
def State.loadView (s : State) : (Word × List OutS × Nat) × Option Image × Bool × List (Nat × Word) × Bool :=
  (s.startView, s.cfg.image, s.cfg.copiesOk, s.pwr.startFaults, s.flt.nfltLoad)

theorem State.logRestart_loadView (s : State) : s.logRestart.loadView = s.loadView := by
  unfold State.logRestart
  extract_lets l holds
  split_ifs <;> rfl

theorem State.startRecords_loadView (s : State) : s.startRecords.loadView = s.loadView :=
  runAll_keeps State.loadView (fun _ _ => by rfl) _ _

theorem State.loneMaster_loadView (s : State) : s.loneMaster.loadView = s.loadView := by
  unfold State.loneMaster
  split <;> rfl

theorem FltS.handle_nfltLoad (f : FltS) (n k : Nat) (b now : Word) (r : Nat) : (f.handle n k b now r).nfltLoad = f.nfltLoad := by
  unfold FltS.handle
  split
  · rfl
  · split <;> rfl

theorem State.raiseAt_nfltLoad (k : RaiseKind) (one : Bool) (n : Nat) (d b : Word) (s : State) :
    (s.raiseAt k one n d b).flt.nfltLoad = s.flt.nfltLoad := by
  simp only [State.raiseAt, State.react, State.openReport_flt, FltS.handle_nfltLoad]
  split <;> split <;> simp [State.w1cNow_flt]

theorem State.raiseAt_loadView (k : RaiseKind) (one : Bool) (n : Nat) (d b : Word) (s : State) :
    (s.raiseAt k one n d b).loadView = s.loadView := by
  obtain ⟨r, hcfg⟩ := State.raiseAt_cfg k one n d b s
  simp only [State.loadView, State.startView, State.raiseAt_beat, State.raiseAt_safe, State.raiseAt_pwr, State.raiseAt_nfltLoad, hcfg]

theorem State.raiseCond_loadView (n : Nat) (d : Word) (s : State) : (s.raiseCond n d).loadView = s.loadView :=
  State.raiseAt_loadView .lasting false n d s.evBeat s

theorem State.raise_loadView (n : Nat) (d : Word) (s : State) : (s.raise n d).loadView = s.loadView := State.raiseAt_loadView ..

theorem State.follow_loadView (n : Nat) (d : Word) (now : Bool) (s : State) : (s.follow n d now).loadView = s.loadView := by
  unfold State.follow
  extract_lets was
  split
  · exact State.raiseCond_loadView ..
  · split <;> rfl

theorem State.rwFollow_loadView (s : State) : s.rwFollow.loadView = s.loadView :=
  runAll_keeps State.loadView (fun _ _ => State.follow_loadView ..) _ _

theorem State.eraseStart_loadView (s : State) : s.eraseStart.loadView = s.loadView := by
  unfold State.eraseStart
  split <;> rfl

theorem State.accRestart_loadView (s : State) : s.accRestart.loadView = s.loadView := by
  unfold State.accRestart
  extract_lets used
  split <;> rfl

theorem State.onlyIf_loadView {f : State → State} (hf : ∀ s, (f s).loadView = s.loadView) (c : Bool) (s : State) :
    (onlyIf c f s).loadView = s.loadView := by
  cases c
  · rfl
  · exact hf s

/-- The registers, the recorder and the ring as the image gives them (R16, R480). -/
def State.startTables (copies : Bool) (t : State) : State :=
  (t.imageRegs.setCfg fun c => { c with copiesOk := copies }).logRestart.startRecords.loneMaster

/-- The faults that the start has found are raised (R134, R499). -/
def State.startRaised (failed bare : Bool) (a : State) : State :=
  let b := runAll (fun (f : Nat × Word) x => x.raiseCond f.1 f.2) a.pwr.startFaults a
  let c := if failed then (if bare then b.raiseCond 12 0 else b.raise 12 0) else b
  onlyIf c.pwr.nrstIgn (State.raiseCond 65 0) c

/-- The start is counted, and the collectors have taken over (R499). -/
def State.startCounted (failed : Bool) (d : State) : State :=
  { d with
    flt := { d.flt with nfltLoad := failed }
    pwr := { d.pwr with startFaults := [], starts := incSat 65535 d.pwr.starts } }

/-- Accounting, escapement, sources and ports begin (R499). -/
def State.startUnits (erase : Bool) (e : State) : State :=
  (onlyIf erase State.eraseStart (e.accRestart.escapementReset.rwFollow)).canStart

theorem State.startTables_loadView (copies : Bool) (t : State) :
    (t.startTables copies).loadView = (t.startView, t.cfg.image, copies, t.pwr.startFaults, t.flt.nfltLoad) := by
  rw [State.startTables, State.loneMaster_loadView, State.startRecords_loadView, State.logRestart_loadView]
  rfl

theorem State.startRaised_loadView (failed bare : Bool) (a : State) : (a.startRaised failed bare).loadView = a.loadView := by
  have hb : (runAll (fun (f : Nat × Word) (x : State) => x.raiseCond f.1 f.2) a.pwr.startFaults a).loadView = a.loadView :=
    runAll_keeps State.loadView (fun _ _ => State.raiseCond_loadView ..) _ _
  unfold State.startRaised
  extract_lets b c
  refine (State.onlyIf_loadView (State.raiseCond_loadView 65 0) _ c).trans ?_
  simp only [c]
  split
  · split
    · exact (State.raiseCond_loadView ..).trans hb
    · exact (State.raise_loadView ..).trans hb
  · exact hb

theorem State.startUnits_loadView (erase : Bool) (e : State) : (e.startUnits erase).loadView = e.loadView := by
  have h : (onlyIf erase State.eraseStart (e.accRestart.escapementReset.rwFollow)).loadView = e.loadView := by
    rw [State.onlyIf_loadView State.eraseStart_loadView, State.rwFollow_loadView]
    exact State.accRestart_loadView e
  exact h

theorem State.startLoad_eq (copies : Bool) (s : State) : s.startLoad copies =
    (((s.loadImage.1.startTables copies).startRaised s.loadImage.2 s.loadImage.1.cfg.image.isNone).startCounted s.loadImage.2).startUnits
      s.loadImage.1.cfg.image.isNone := by
  unfold State.startLoad
  generalize s.loadImage = x
  obtain ⟨t, failed⟩ := x
  rfl

/-- What step 5 leaves of the load. -/
theorem State.startLoad_loadView (copies : Bool) (s : State) : (s.startLoad copies).loadView =
    ((s.beat.num, s.safe.out, incSat 65535 s.pwr.starts), s.loadImage.1.cfg.image, copies, [], s.loadImage.2) := by
  have hraised : ((s.loadImage.1.startTables copies).startRaised s.loadImage.2 s.loadImage.1.cfg.image.isNone).loadView =
      (s.startView, s.loadImage.1.cfg.image, copies, s.loadImage.1.pwr.startFaults, s.loadImage.1.flt.nfltLoad) := by
    rw [State.startRaised_loadView, State.startTables_loadView, State.loadImage_startView]
  rw [State.startLoad_eq, State.startUnits_loadView]
  generalize (s.loadImage.1.startTables copies).startRaised s.loadImage.2 s.loadImage.1.cfg.image.isNone = d at hraised
  simp only [State.loadView, State.startView, Prod.mk.injEq] at hraised
  obtain ⟨⟨hnum, hout, hstarts⟩, himage, hcopies, -, -⟩ := hraised
  simp only [State.loadView, State.startView, State.startCounted, hnum, hout, hstarts, himage, hcopies]

/-! The end of the start (R501) -/

theorem State.startDone_iff (h : s.pwr.state = .start 8) : s.startDone = true ↔ (s.cfg.image = none ∨
    (s.ring.active = true ∧ s.ring.enumDue = false) ∨ (s.ring.active = false ∧ s.ring.listed = true) ∨
    (if s.on .START = true ∧ 2 ≤ s.ring.role.toNat then 100 else 40) ≤ s.pwr.startBeats) := by
  simp [State.startDone, h, or_assoc]

end

end Sys2Proof.Machine

namespace Sys2Proof.Proofs
open Sys2Proof Sys2Proof.Machine

/-- Settles O60: the entries and the wakes by the reasons that refuse them, the start step by step. -/
theorem lowPower : Obligations.LowPower := by
  refine ⟨?listen, ?dormant, ?noRequest, ?refusal, ?timeout, ?noTimeout, ?enter, ?dormTimeout, ?noDormTimeout, ?vsLow, ?vsHigh,
    ?stackLow, ?stackHigh, ?wake, ?noWake, ?wakeLatched, ?wakeIgnored, ?sources, ?step1, ?step2, ?step3, ?step4, ?step4Off, ?step5,
    ?trial, ?active, ?step6, ?step7Runs, ?step7, ?step7Bad, ?noStep, ?ends, ?notYet, ?endDue⟩
  case listen =>
    intro s key hup hreq
    rw [exec_pwrListen_due hup hreq]
    exact ⟨fun h => congrArg _ (State.pwrRequest_accepted h 1), fun r h => congrArg _ (State.pwrRequest_refused h 1)⟩
  case dormant =>
    intro s key hup hreq
    rw [exec_pwrDormant_due hup hreq]
    exact ⟨fun h => congrArg _ (State.pwrRequest_accepted h 1), fun r h => congrArg _ (State.pwrRequest_refused h 1)⟩
  case noRequest =>
    intro s h
    exact ⟨congrArg _ (if_neg (by rw [State.pwrDue_none h]; decide)), congrArg _ (if_neg (by rw [State.pwrDue_none h]; decide))⟩
  case refusal =>
    intro s d c
    refine ⟨by rw [State.pwrRefusal_eq, if_pos rfl], ?_⟩
    rintro rfl
    generalize hc : (if s.runs .a = true then s.pre.ctlA else s.pre.ctlB) = c
    refine ⟨fun hp hs => ?_, fun hps => ?_⟩
    · rw [State.pwrRefusal_eq, if_neg (by decide), hc, if_pos ⟨hp, hs⟩]
    · have hctl : ¬(c ≠ .parked ∧ c ≠ .safe) := by tauto
      refine ⟨fun hb => ?_, fun hb hcl => ?_, fun hb hcl hw => ?_, fun hb hcl hw => ⟨?_, ?_⟩⟩
      · rw [State.pwrRefusal_eq, if_neg (by decide), hc, if_neg hctl, if_pos hb]
      · rw [State.pwrRefusal_eq, if_neg (by decide), hc, if_neg hctl, if_neg (by simp [hb]), if_pos hcl]
      · rw [State.pwrRefusal_eq, if_neg (by decide), hc, if_neg hctl, if_neg (by simp [hb]), if_neg (by simp [hcl]), if_pos hw]
      · rintro rfl
        rw [State.pwrRefusal_eq, if_neg (by decide), hc, if_neg hctl, if_neg (by simp [hb]), if_neg (by simp [hcl]),
          if_neg (by simp [hw]), if_neg (by simp)]
      · rintro rfl
        rw [State.pwrRefusal_eq, if_neg (by decide), hc, if_neg hctl, if_neg (by simp [hb]), if_neg (by simp [hcl]),
          if_neg (by simp [hw])]
        by_cases hv : (s.hv 0).valid = true ∧ 12800 ≤ (s.hv 0).code
        · rw [if_neg (by simp [hv]), if_pos hv]
        · rw [if_pos ⟨rfl, hv⟩, if_neg hv]
  case timeout =>
    intro s hidle hon hage hentry
    rw [show exec .listenTimeout s = .next (if s.listenDue then s.pwrRequest false true 2 else s) from rfl,
      if_pos (State.listenDue_iff.2 ⟨hidle, hon, hage, hentry⟩)]
    refine ⟨fun h => congrArg _ ?_, fun r h => congrArg _ (State.pwrRequest_refused h 2)⟩
    rw [State.pwrRequest_accepted h, hentry]
    rfl
  case noTimeout =>
    intro s h
    refine congrArg _ (if_neg fun hdue => ?_)
    obtain ⟨hidle, hon, hage, -⟩ := State.listenDue_iff.1 hdue
    rcases h with h | h | h
    · exact h hidle
    · omega
    · omega
  case enter =>
    intro s d k hentry hrest
    obtain ⟨l, hlast, t, ht, hstate, hen, htmo, hsafe, hbeat, hq, hlog⟩ := State.enterLow_rests hentry hrest
    rw [ht]
    refine ⟨hstate, hen, htmo, ?_, by rw [hbeat], hq, by rw [hlog]; rfl, fun hruns => ?_⟩
    · rw [hsafe]
      exact State.kept_allOpen _
    · rw [hlog]
      cases d <;> exact hlast hruns
  case dormTimeout => exact fun s hl ht => congrArg _ (if_pos ⟨hl, ht⟩)
  case noDormTimeout => exact fun s h => congrArg _ (if_neg (by tauto))
  case vsLow => exact fun s vs hl hvs => congrArg _ (if_pos ⟨hl, hvs⟩)
  case vsHigh =>
    intro s vs h
    refine congrArg _ (if_neg fun hlow => ?_)
    rcases h with h | h
    · exact h hlow.1
    · exact absurd hlow.2 (Nat.not_lt.2 h)
  case stackLow =>
    intro s mv hd hmv
    exact ⟨s.toOff, congrArg Host.Outcome.next (if_pos ⟨hd, hmv⟩), rfl, rfl, rfl, rfl, rfl, rfl⟩
  case stackHigh =>
    intro s mv h
    refine congrArg _ (if_neg fun hlow => ?_)
    rcases h with h | h
    · exact h hlow.1
    · exact absurd hlow.2 (Nat.not_lt.2 h)
  case wake =>
    intro s x hlow hx
    refine congrArg Host.Outcome.next ?_
    rw [State.wake_low hlow, if_neg hx]
    cases hg : s.pwr.vsGood <;> rfl
  case noWake =>
    intro s x hlow hx
    refine congrArg Host.Outcome.next ?_
    rw [State.wake_low hlow, if_pos hx]
  case wakeLatched =>
    intro s x d k hl hd hentry hx
    refine congrArg Host.Outcome.next ?_
    rw [State.wake_up hl hd, hentry]
    exact if_neg hx
  case wakeIgnored =>
    intro s x hl hd hentry
    refine congrArg Host.Outcome.next ?_
    rw [State.wake_up hl hd, hentry]
  case sources => exact fun s x d => State.wakeSources_masked s d x
  case step1 =>
    intro s o h
    rw [exec_startSequence_step1 h]
    rfl
  case step2 =>
    intro s o h
    obtain ⟨shown, hboot⟩ := s.startBoot_eq o.bootFail
    rw [exec_startSequence_step2 h, hboot]
    exact ⟨_, rfl, rfl, rfl, rfl, rfl, rfl, rfl⟩
  case step3 =>
    intro s o h
    rw [exec_startSequence_step3 h]
    obtain ⟨hpairs, hframe⟩ := s.startTests_done o
    obtain ⟨ha, hb, hma, hfa, hmb, hfb, hnone⟩ := hpairs
    generalize s.startTests o = c at *
    exact ⟨_, rfl, rfl, ha, hb, hma, hfa, hmb, hfb, hnone, by rw [hframe]; rfl⟩
  case step4 =>
    intro s o h hcause
    obtain ⟨shown, htest, -⟩ := s.memTested_eq o.memFail
    rw [exec_startSequence_step4 h, State.startMemory_eq, htest, if_neg hcause]
    exact ⟨_, rfl, rfl, rfl, rfl, rfl, rfl⟩
  case step4Off =>
    intro s o h hcause htrim hacc hfit
    obtain ⟨hvalid, htime, hearly⟩ := State.calendarRestored o.memFail hcause htrim hacc hfit
    rw [exec_startSequence_step4 h]
    generalize s.startMemory o.memFail = c at *
    exact ⟨_, rfl, rfl, hvalid, htime, hearly⟩
  case step5 =>
    intro s o h
    have hload := State.startLoad_loadView o.copiesEqual s
    rw [exec_startSequence_step5 h]
    generalize s.startLoad o.copiesEqual = c at hload
    simp only [State.loadView, State.startView, Prod.mk.injEq] at hload
    obtain ⟨⟨hnum, hout, hstarts⟩, himage, hcopies, hfaults, hload⟩ := hload
    exact ⟨_, rfl, rfl, hstarts, hfaults, hcopies, himage, hload, hnum, hout⟩
  case trial =>
    intro s b hb hload
    exact State.chooseBank_trial hb hload
  case active =>
    intro s b hnone hb
    rw [State.chooseBank_active hnone hb]
    refine ⟨fun h => if_pos h, fun h => ?_⟩
    rw [h]
    exact ⟨rfl, State.bankTo_state ..⟩
  case step6 =>
    intro s o h hwhole
    obtain ⟨hmeas, hcells, hsg0, hgood, hcha, hchb, hsafe⟩ := State.calibrate_done o hwhole
    rw [exec_startSequence_step6 h]
    generalize s.calibrate o.calCell o.calChk o.calCur o.calHv = c at *
    exact ⟨_, rfl, rfl, congrArg MeasS.failCell hmeas, congrArg MeasS.failChk hmeas, congrArg MeasS.failCur hmeas,
      congrArg MeasS.failHv hmeas, hcells, hsg0, hgood, hcha, hchb, hsafe⟩
  case step7Runs =>
    intro s o h hruns
    rw [exec_startSequence_step7 h, if_pos hruns]
  case step7 =>
    intro s o h hruns hpop
    rw [exec_startSequence_step7 h, if_neg (by simp [hruns]), hpop]
    rfl
  case step7Bad =>
    intro s o h hruns hpop hwhole
    rw [exec_startSequence_step7 h, if_neg (by simp [hruns]), hpop]
    exact ⟨_, rfl, rfl, (State.raiseCond_fs (by rw [hwhole]; decide) 0).2, State.raiseCond_meas .., State.raiseCond_safe ..⟩
  case noStep => exact fun s o h => exec_startSequence_rest h
  case ends =>
    intro s ms h
    exact ⟨s.startEnd ms, congrArg Host.Outcome.next (if_pos h), rfl, rfl, rfl, rfl, rfl⟩
  case notYet => exact fun s ms h => congrArg _ (if_neg (by simp [h]))
  case endDue => exact fun s h => State.startDone_iff h

end Sys2Proof.Proofs
end

section
/-! PROOFS. The queue: steps put together, raises and the recorder.

Nothing in the model but the step takes a command from the queue. The rules `…_pending` say it of each operation, in the order of the
model's files, each from those of the operations it calls; `exec_keepsQueue` below puts them together. -/

namespace Sys2Proof.Machine

open Sys2Proof

/-! Steps put together -/

@[simp] theorem runAll_pending {α : Type} {f : α → State → State} (hf : ∀ x s, (f x s).pending = s.pending) (l : List α)
    (s : State) : (runAll f l s).pending = s.pending := by
  induction l generalizing s with
  | nil => rfl
  | cons x l ih => exact (ih (f x s)).trans (hf x s)

@[simp] theorem foldl_pending {α : Type} {f : State → α → State} (hf : ∀ s x, (f s x).pending = s.pending) (l : List α)
    (s : State) : (l.foldl f s).pending = s.pending :=
  runAll_pending (fun x s => hf s x) l s

@[simp] theorem State.doIf_pending {op : State → State} (h : ∀ s, (op s).pending = s.pending) (due : State → Bool) (s : State) :
    (s.doIf due op).pending = s.pending := by
  unfold State.doIf
  split
  · exact h s
  · rfl

@[simp] theorem State.boundaryRow_pending {op : State → State} (h : ∀ s, (op s).pending = s.pending) (due : State → Bool)
    (s : State) : (s.boundaryRow due op).pending = s.pending := by
  unfold State.boundaryRow
  split
  · exact h s
  · rfl

@[simp] theorem State.dataA_pending {f : State → State} (h : ∀ s, (f s).pending = s.pending) (s : State) :
    (s.dataA f).pending = s.pending := by
  unfold State.dataA
  split
  · exact h s
  · rfl

@[simp] theorem State.onA_pending {f : State → State} (h : ∀ s, (f s).pending = s.pending) (s : State) :
    (s.onA f).pending = s.pending := by
  unfold State.onA
  split
  · exact h s
  · rfl

@[simp] theorem onlyIf_pending {f : State → State} (h : ∀ s, (f s).pending = s.pending) (c : Bool) (s : State) :
    (onlyIf c f s).pending = s.pending := by
  unfold onlyIf
  split
  · exact h s
  · rfl

@[simp] theorem State.onBoth_pending {f : Ch → State → State} (h : ∀ c s, (f c s).pending = s.pending) (s : State) :
    (s.onBoth f).pending = s.pending :=
  (h .b _).trans (h .a s)

@[simp] theorem State.onPins_pending {f : Nat → Nat → State → State} (h : ∀ g j s, (f g j s).pending = s.pending) (s : State) :
    (s.onPins f).pending = s.pending :=
  runAll_pending (fun g => runAll_pending (h g) _) _ s

/-! Operands -/

@[simp] theorem State.ownNumbers_pending (s : State) : s.ownNumbers.pending = s.pending := rfl

/-! Events, flags and raised faults -/

@[simp] theorem State.raiseCondAs_pending (kind : RaiseKind) (fs : Nat) (detail : Word) (s : State) :
    (State.raiseCondAs kind fs detail s).pending = s.pending := by
  simp [State.raiseCondAs]

@[simp] theorem State.latchClear_pending (s : State) : s.latchClear.pending = s.pending := rfl

@[simp] theorem State.closeHandling_pending (cause : Nat) (s : State) : (State.closeHandling cause s).pending = s.pending := rfl

@[simp] theorem State.injResult_pending (flagged : Bool) (s : State) : (State.injResult flagged s).pending = s.pending := by
  unfold State.injResult
  dsimp only
  repeat' split
  all_goals simp

@[simp] theorem State.injSeen_pending (ok : Bool) (s : State) : (State.injSeen ok s).pending = s.pending := rfl

/-! The recorder -/

@[simp] theorem State.trimCalendar_pending (d : Int) (s : State) : (State.trimCalendar d s).pending = s.pending := rfl

@[simp] theorem State.setCalendar_pending (sec : Word) (frac : BitVec 16) (who : Nat) (s : State) :
    (State.setCalendar sec frac who s).pending = s.pending := rfl

@[simp] theorem State.recorderBoundary_pending (ended next : Word) (s : State) :
    (State.recorderBoundary ended next s).pending = s.pending := by
  simp only [State.recorderBoundary, State.tally_pending]

@[simp] theorem State.overflowRaise_pending (hadLoss : Bool) (s : State) : (State.overflowRaise hadLoss s).pending = s.pending := by
  unfold State.overflowRaise
  split <;> simp

@[simp] theorem State.writeSlot_pending (s : State) : s.writeSlot.pending = s.pending := by
  simp only [State.writeSlot, State.tally_pending]

@[simp] theorem State.logCleared_pending (s : State) : s.logCleared.pending = s.pending := rfl

end Sys2Proof.Machine
end

section
/-! PROOFS. The queue: measurement and balancing. -/

namespace Sys2Proof.Machine

open Sys2Proof

/-! Measurement -/

@[simp] theorem State.segPush_pending (words : Nat) (ch : Ch) (s : State) : (State.segPush words ch s).pending = s.pending := by
  unfold State.segPush
  dsimp only
  repeat' split
  all_goals simp

@[simp] theorem State.accumulateA_pending (k : Int) (i1 i2 : Option Raw) (s : State) :
    (State.accumulateA k i1 i2 s).pending = s.pending := by
  simp [State.accumulateA]

@[simp] theorem State.accumulateB_pending (k : Int) (i1 i2 : Option Raw) (s : State) :
    (State.accumulateB k i1 i2 s).pending = s.pending := by
  unfold State.accumulateB
  split <;> rfl

@[simp] theorem State.accumulate_pending (k : Int) (i1 i2 : Option Raw) (s : State) :
    (State.accumulate k i1 i2 s).pending = s.pending := by
  simp [State.accumulate]

@[simp] theorem State.saturated_pending (s : State) : s.saturated.pending = s.pending := by simp [State.saturated]

@[simp] theorem State.charge_pending (k : Int) (i1 i2 : Option Raw) (s : State) : (State.charge k i1 i2 s).pending = s.pending := by
  simp [State.charge]

@[simp] theorem State.windowClose_pending (w : Nat) (o : WindowIn) (s : State) : (State.windowClose w o s).pending = s.pending := rfl

@[simp] theorem State.closeWindow_pending (w : Nat) (o : WindowIn) (s : State) : (State.closeWindow w o s).pending = s.pending := by
  unfold State.closeWindow
  split <;> simp

@[simp] theorem State.freeze_pending (s : State) : s.freeze.pending = s.pending := by
  unfold State.freeze
  dsimp only
  split <;> exact State.dataA_pending (fun _ => by rfl) s

@[simp] theorem State.latchHi_pending (r : LatchReg) (s : State) : (State.latchHi r s).pending = s.pending := rfl

@[simp] theorem State.isoCollect_pending (s : State) : s.isoCollect.pending = s.pending := rfl

@[simp] theorem State.isoResult_pending (s : State) : s.isoResult.pending = s.pending := rfl

@[simp] theorem State.isoStart_pending (peOpen : Bool) (s : State) : (State.isoStart peOpen s).pending = s.pending := rfl

@[simp] theorem State.isoPhase_pending (s : State) : s.isoPhase.pending = s.pending := rfl

@[simp] theorem State.isoClose_pending (s : State) : s.isoClose.pending = s.pending := rfl

@[simp] theorem State.thmConvert_pending (vals : List (Option (BitVec 16))) (s : State) :
    (State.thmConvert vals s).pending = s.pending := rfl

@[simp] theorem State.idConvert_pending (vals : List (Option (BitVec 16))) (s : State) :
    (State.idConvert vals s).pending = s.pending := by
  unfold State.idConvert
  split <;> rfl

@[simp] theorem State.refConvert_pending (vals : List (Option (BitVec 16))) (s : State) :
    (State.refConvert vals s).pending = s.pending := by
  unfold State.refConvert
  dsimp only
  repeat' split
  all_goals simp

@[simp] theorem State.dieRead_pending (die : List (Option Int)) (s : State) : (State.dieRead die s).pending = s.pending := by
  unfold State.dieRead
  split <;> rfl

/-! Memories -/

@[simp] theorem State.planeWrite_pending (ch : Ch) (p : Party) (a : Nat) (s : State) :
    (State.planeWrite ch p a s).pending = s.pending := by
  unfold State.planeWrite
  split <;> simp

@[simp] theorem State.poison_pending (m : Mem) (w : Nat) (s : State) : (State.poison m w s).pending = s.pending := State.raise_pending ..

/-! Integrity of the measurement -/

@[simp] theorem State.setSeg_pending (seg : Nat) (f : OwSeg → OwSeg) (s : State) : (State.setSeg seg f s).pending = s.pending := rfl

@[simp] theorem State.setPin_pending (seg j : Nat) (f : PinS → PinS) (s : State) : (State.setPin seg j f s).pending = s.pending := rfl

@[simp] theorem State.startPass_pending (s : State) : s.startPass.pending = s.pending := rfl

@[simp] theorem State.startSlot_pending (seg : Nat) (s : State) : (State.startSlot seg s).pending = s.pending := rfl

@[simp] theorem State.wireEvent_pending (what seg j : Nat) (s : State) : (State.wireEvent what seg j s).pending = s.pending := rfl

@[simp] theorem State.markOpen_pending (seg j : Nat) (s : State) : (State.markOpen seg j s).pending = s.pending := by
  unfold State.markOpen
  dsimp only
  split <;> simp

@[simp] theorem State.markIntact_pending (seg j : Nat) (targeted : Bool) (s : State) :
    (State.markIntact seg j targeted s).pending = s.pending := rfl

@[simp] theorem State.judged_pending (seg : Nat) (t : OwSlot) (j : OwJudge) (s : State) :
    (State.judged seg t j s).pending = s.pending := by
  unfold State.judged
  repeat' split
  all_goals simp

@[simp] theorem State.owEvalSeg_pending (seg : Nat) (s : State) : (State.owEvalSeg seg s).pending = s.pending := by
  unfold State.owEvalSeg
  dsimp only
  repeat' split
  all_goals simp

@[simp] theorem State.owEval_pending (s : State) : s.owEval.pending = s.pending := by simp [State.owEval]

@[simp] theorem State.formCells_pending (s : State) : s.formCells.pending = s.pending := by
  unfold State.formCells
  dsimp only
  split <;> exact State.dataA_pending (fun _ => by rfl) s

@[simp] theorem State.senseAll_pending (s : State) : s.senseAll.pending = s.pending := rfl

@[simp] theorem State.suspect_pending (seg j : Nat) (s : State) : (State.suspect seg j s).pending = s.pending := rfl

@[simp] theorem State.checkCompare_pending (s : State) : s.checkCompare.pending = s.pending := rfl

@[simp] theorem State.checkFollow_pending (s : State) : s.checkFollow.pending = s.pending := by
  refine runAll_pending (fun g t => ?_) _ s
  split <;> rfl

@[simp] theorem State.wantPin_pending (seg j : Nat) (s : State) : (State.wantPin seg j s).pending = s.pending := rfl

@[simp] theorem State.checkDiff_pending (n : Nat) (s : State) : (State.checkDiff n s).pending = s.pending := by
  simp [State.checkDiff]

@[simp] theorem State.sumCount_pending (s : State) : s.sumCount.pending = s.pending := rfl

@[simp] theorem State.wantEnds_pending (s : State) : s.wantEnds.pending = s.pending :=
  runAll_pending (fun g => runAll_pending (fun j t => State.wantPin_pending g j t) _) _ s

@[simp] theorem State.sumChange_pending (s : State) : s.sumChange.pending = s.pending := by
  unfold State.sumChange
  split <;> simp

@[simp] theorem State.sumHeard_pending (u : UAddr) (mis : Bool) (s : State) : (State.sumHeard u mis s).pending = s.pending := by
  unfold State.sumHeard
  dsimp only
  split <;> simp

@[simp] theorem State.graceExpire_pending (seg j : Nat) (s : State) : (State.graceExpire seg j s).pending = s.pending := rfl

@[simp] theorem State.wireClear_pending (seg j : Nat) (s : State) : (State.wireClear seg j s).pending = s.pending := by
  unfold State.wireClear
  dsimp only
  split <;> rfl

@[simp] theorem State.owBoundary_pending (s : State) : s.owBoundary.pending = s.pending := rfl

/-! Temperatures -/

@[simp] theorem State.thermalGroups_pending (s : State) : s.thermalGroups.pending = s.pending := rfl

@[simp] theorem State.groupChange_pending (g : Nat) (old : GrpS) (s : State) : (State.groupChange g old s).pending = s.pending := by
  unfold State.groupChange
  dsimp only
  repeat' split
  all_goals simp

@[simp] theorem State.thermalEnd_pending (s : State) : s.thermalEnd.pending = s.pending := by
  unfold State.thermalEnd
  dsimp only
  repeat' split
  all_goals simp

@[simp] theorem State.excursion_pending (s : State) : s.excursion.pending = s.pending := by
  unfold State.excursion
  repeat' split
  all_goals simp

@[simp] theorem State.thermal_pending (s : State) : s.thermal.pending = s.pending := by simp [State.thermal]

@[simp] theorem State.outOfRating_pending (s : State) : s.outOfRating.pending = s.pending := by
  unfold State.outOfRating
  split <;> simp

@[simp] theorem State.thermalBoundary_pending (s : State) : s.thermalBoundary.pending = s.pending := rfl

/-! Balancing -/

@[simp] theorem State.setSw_pending (n : Nat) (f : SwS → SwS) (s : State) : (State.setSw n f s).pending = s.pending := rfl

@[simp] theorem State.switchBoundary_pending (s : State) : s.switchBoundary.pending = s.pending := rfl

@[simp] theorem State.swCommands_pending (s : State) : s.swCommands.pending = s.pending := rfl

@[simp] theorem State.switchSubBeat_pending (ib : List Int) (j : Nat) (s : State) : (State.switchSubBeat ib j s).pending = s.pending :=
  rfl

@[simp] theorem State.overcurrent_pending (n : Nat) (s : State) : (State.overcurrent n s).pending = s.pending := by
  unfold State.overcurrent
  dsimp only
  repeat' split
  all_goals simp

@[simp] theorem State.switchFault_pending (n : Nat) (detail : Word) (s : State) : (State.switchFault n detail s).pending = s.pending := by
  simp [State.switchFault]

@[simp] theorem State.noCurrent_pending (n : Nat) (s : State) : (State.noCurrent n s).pending = s.pending := by
  simp [State.noCurrent]

@[simp] theorem State.conducts_pending (n : Nat) (s : State) : (State.conducts n s).pending = s.pending := by
  simp [State.conducts]

@[simp] theorem State.gateEnd_pending (w : Nat) (s : State) : (State.gateEnd w s).pending = s.pending := rfl

@[simp] theorem State.gateBoundary_pending (s : State) : s.gateBoundary.pending = s.pending := rfl

@[simp] theorem State.balWantAll_pending (s : State) : s.balWantAll.pending = s.pending := rfl

@[simp] theorem State.balTimeout_pending (s : State) : s.balTimeout.pending = s.pending := rfl

@[simp] theorem State.rwFollow_pending (s : State) : s.rwFollow.pending = s.pending := by simp [State.rwFollow]

@[simp] theorem State.calEnd_pending (state cause : Nat) (s : State) : (State.calEnd state cause s).pending = s.pending := by
  unfold State.calEnd
  split <;> simp

@[simp] theorem State.calEval_pending (s : State) : s.calEval.pending = s.pending := by
  unfold State.calEval
  repeat' split
  all_goals simp

@[simp] theorem State.calBoundary_pending (s : State) : s.calBoundary.pending = s.pending := rfl

@[simp] theorem State.runStart_pending (s : State) : s.runStart.pending = s.pending := by
  unfold State.runStart
  split <;> rfl

@[simp] theorem State.runStop_pending (s : State) : s.runStop.pending = s.pending := rfl

@[simp] theorem State.runBoundary_pending (s : State) : s.runBoundary.pending = s.pending := by
  unfold State.runBoundary
  dsimp only
  split <;> rfl

/-! Impedance -/

@[simp] theorem State.impBeat_pending (s : State) : s.impBeat.pending = s.pending := rfl

@[simp] theorem State.blockEnd_pending (k : Nat) (s : State) : (State.blockEnd k s).pending = s.pending := rfl

@[simp] theorem State.impBoundary_pending (s : State) : s.impBoundary.pending = s.pending := rfl

@[simp] theorem State.reqWithdraw_pending (s : State) : s.reqWithdraw.pending = s.pending := rfl

@[simp] theorem State.reqStart_pending (s : State) : s.reqStart.pending = s.pending := rfl

/-! Charge accounting -/

@[simp] theorem State.addHold_pending (k n : Nat) (s : State) : (State.addHold k n s).pending = s.pending := rfl

@[simp] theorem State.accCount_pending (s : State) : s.accCount.pending = s.pending := by
  unfold State.accCount
  repeat' split
  all_goals simp

@[simp] theorem State.accCompensate_pending (s : State) : s.accCompensate.pending = s.pending := by
  unfold State.accCompensate
  repeat' split
  all_goals simp

@[simp] theorem State.accCounters_pending (s : State) : s.accCounters.pending = s.pending := by
  unfold State.accCounters
  split <;> rfl

@[simp] theorem State.setRecord_pending (s : State) (f : IdRec → IdRec) : (s.setRecord f).pending = s.pending := rfl

@[simp] theorem State.learnCap_pending (c : Int) (s : State) : (State.learnCap c s).pending = s.pending := by
  unfold State.learnCap
  dsimp only
  split <;> rfl

@[simp] theorem State.anchor_pending (type : Nat) (qc ua : Int) (s : State) : (State.anchor type qc ua s).pending = s.pending := rfl

@[simp] theorem State.anchorFull_pending (s : State) : s.anchorFull.pending = s.pending := by
  unfold State.anchorFull
  split <;> simp

@[simp] theorem State.anchorEmpty_pending (s : State) : s.anchorEmpty.pending = s.pending := by
  unfold State.anchorEmpty
  split <;> simp

@[simp] theorem State.anchorVoltage_pending (s : State) : s.anchorVoltage.pending = s.pending := rfl

@[simp] theorem State.accConflict_pending (s : State) : s.accConflict.pending = s.pending := by
  unfold State.accConflict
  dsimp only
  split <;> simp

@[simp] theorem State.starve_pending (s : State) : s.starve.pending = s.pending := by simp [State.starve]

@[simp] theorem State.putCkpt_pending (k : Nat) (c : Word → Ckpt) (s : State) : (State.putCkpt k c s).pending = s.pending := rfl

@[simp] theorem State.checkpoint_pending (s : State) : s.checkpoint.pending = s.pending := by
  unfold State.checkpoint
  split <;> rfl

@[simp] theorem State.accFinish_pending (s : State) : s.accFinish.pending = s.pending := by
  unfold State.accFinish
  split <;> simp

@[simp] theorem State.cycStore_pending (s : State) : s.cycStore.pending = s.pending := rfl

@[simp] theorem State.cadence_pending (s : State) : s.cadence.pending = s.pending := by
  unfold State.cadence
  split <;> rfl

@[simp] theorem State.cadenceChange_pending (s : State) : s.cadenceChange.pending = s.pending := by
  unfold State.cadenceChange
  split <;> rfl

@[simp] theorem State.swapCount_pending (s : State) : s.swapCount.pending = s.pending := by
  unfold State.swapCount
  split <;> rfl

@[simp] theorem State.swap_pending (s : State) : s.swap.pending = s.pending := by
  unfold State.swap
  split <;> simp

@[simp] theorem State.selectRecord_pending (s : State) : s.selectRecord.pending = s.pending := by simp [State.selectRecord]

@[simp] theorem State.accRestart_pending (s : State) : s.accRestart.pending = s.pending := by
  unfold State.accRestart
  dsimp only
  split <;> rfl

@[simp] theorem State.accTakeover_pending (s : State) : s.accTakeover.pending = s.pending := by
  unfold State.accTakeover
  split <;> rfl

end Sys2Proof.Machine
end

section
/-! PROOFS. The queue: protection and the channels. -/

namespace Sys2Proof.Machine

open Sys2Proof

/-! Protection levels -/

@[simp] theorem State.levels_pending (ch : Ch) (s : State) : (State.levels ch s).pending = s.pending := by
  unfold State.levels
  split <;> rfl

@[simp] theorem State.protectionLevels_pending (s : State) : s.protectionLevels.pending = s.pending := by
  simp [State.protectionLevels]

@[simp] theorem State.i2tStep_pending (ch : Ch) (s : State) : (State.i2tStep ch s).pending = s.pending := by
  unfold State.i2tStep
  repeat' split
  all_goals simp

@[simp] theorem State.conditions_pending (ch : Ch) (s : State) : (State.conditions ch s).pending = s.pending := by
  unfold State.conditions
  split <;> rfl

@[simp] theorem State.latchCond_pending (s : State) : s.latchCond.pending = s.pending := rfl

@[simp] theorem State.conditionStage_pending (s : State) : s.conditionStage.pending = s.pending := by
  simp [State.conditionStage]

@[simp] theorem State.wordMissing_pending (pos : BitVec 8) (ch : Ch) (s : State) : (State.wordMissing pos ch s).pending = s.pending :=
  rfl

@[simp] theorem State.wordsMissing_pending (s : State) : s.wordsMissing.pending = s.pending := rfl

/-! Escapement -/

@[simp] theorem State.escapement_pending (ch : Ch) (s : State) : (State.escapement ch s).pending = s.pending := by
  unfold State.escapement
  split <;> rfl

@[simp] theorem State.keepPersistents_pending (s : State) : s.keepPersistents.pending = s.pending := rfl

@[simp] theorem State.escapementEnd_pending (s : State) : s.escapementEnd.pending = s.pending := rfl

@[simp] theorem State.fastBlocks_pending (ch : Ch) (j : Nat) (s : State) : (State.fastBlocks ch j s).pending = s.pending := by
  unfold State.fastBlocks
  split <;> rfl

@[simp] theorem State.escapementReset_pending (s : State) : s.escapementReset.pending = s.pending := rfl

/-! The sequencers of the contactors -/

@[simp] theorem State.setSeq_pending (s : State) (ch : Ch) (f : Seq → Seq) : (s.setSeq ch f).pending = s.pending := rfl

@[simp] theorem State.seqResult_pending (ch : Ch) (r : Nat) (left entered : Ctl) (s : State) :
    (State.seqResult ch r left entered s).pending = s.pending := by
  unfold State.seqResult
  split <;> rfl

@[simp] theorem State.driveSet_pending (f : Nat → Bool) (s : State) : (State.driveSet f s).pending = s.pending := rfl

@[simp] theorem State.pulseMeets_pending (s : State) : s.pulseMeets.pending = s.pending := by
  unfold State.pulseMeets
  dsimp only
  repeat' split
  all_goals simp

@[simp] theorem State.drive_pending (s0 : State) : s0.drive.pending = s0.pending := by
  unfold State.drive
  split <;> simp

@[simp] theorem State.enterOpening_pending (ch : Ch) (toSafe wait all : Bool) (s : State) :
    (State.enterOpening ch toSafe wait all s).pending = s.pending := rfl

@[simp] theorem State.attempt_pending (ch : Ch) (s : State) : (State.attempt ch s).pending = s.pending := by
  unfold State.attempt
  split <;> rfl

@[simp] theorem State.attemptEnd_pending (ch : Ch) (s : State) : (State.attemptEnd ch s).pending = s.pending := by
  unfold State.attemptEnd
  dsimp only
  split <;> simp

@[simp] theorem State.openNow_pending (ch : Ch) (toSafe : Bool) (s : State) : (State.openNow ch toSafe s).pending = s.pending := by
  unfold State.openNow
  dsimp only
  split <;> simp

@[simp] theorem State.safeReqStep_pending (ch : Ch) (s : State) : (State.safeReqStep ch s).pending = s.pending := by
  unfold State.safeReqStep
  split <;> simp

@[simp] theorem State.escSource_pending (ch : Ch) (s : State) : (State.escSource ch s).pending = s.pending := by
  unfold State.escSource
  dsimp only
  split <;> rfl

@[simp] theorem State.lossStep_pending (ch : Ch) (s : State) : (State.lossStep ch s).pending = s.pending := by
  unfold State.lossStep
  dsimp only
  repeat' split
  all_goals simp

@[simp] theorem State.mutualLoss_pending (s : State) : s.mutualLoss.pending = s.pending := by simp [State.mutualLoss]

@[simp] theorem State.openOp_pending (s : State) : s.openOp.pending = s.pending := by
  unfold State.openOp
  repeat' split
  all_goals simp

@[simp] theorem State.closeOp_pending (s : State) : s.closeOp.pending = s.pending := by
  unfold State.closeOp
  repeat' split
  all_goals simp

@[simp] theorem State.ackOp_pending (s : State) : s.ackOp.pending = s.pending := by
  unfold State.ackOp
  repeat' split
  all_goals simp

@[simp] theorem State.timedOutStep_pending (ch : Ch) (s : State) : (State.timedOutStep ch s).pending = s.pending := by
  unfold State.timedOutStep
  split <;> rfl

@[simp] theorem State.failStep_pending (ch : Ch) (s : State) : (State.failStep ch s).pending = s.pending := by
  unfold State.failStep
  dsimp only
  split <;> simp

@[simp] theorem State.freeStep_pending (ch : Ch) (s : State) : (State.freeStep ch s).pending = s.pending := rfl

@[simp] theorem State.unreqStep_pending (ch : Ch) (s : State) : (State.unreqStep ch s).pending = s.pending := by
  unfold State.unreqStep
  dsimp only
  split <;> simp

@[simp] theorem State.weldedStep_pending (ch : Ch) (s : State) : (State.weldedStep ch s).pending = s.pending := by
  unfold State.weldedStep
  dsimp only
  repeat' split
  all_goals simp

@[simp] theorem State.negStep_pending (ch : Ch) (s : State) : (State.negStep ch s).pending = s.pending := rfl

@[simp] theorem State.safeTripStep_pending (ch : Ch) (s : State) : (State.safeTripStep ch s).pending = s.pending := by
  unfold State.safeTripStep
  repeat' split
  all_goals simp

@[simp] theorem State.roleFour_pending (ch : Ch) (s : State) : (State.roleFour ch s).pending = s.pending := rfl

@[simp] theorem State.seqBoundary_pending (ch : Ch) (s : State) : (State.seqBoundary ch s).pending = s.pending := by
  unfold State.seqBoundary
  split <;> simp

@[simp] theorem State.preClose_pending (ch : Ch) (s : State) : (State.preClose ch s).pending = s.pending := rfl

@[simp] theorem State.commit_pending (ch : Ch) (s : State) : (State.commit ch s).pending = s.pending := by
  unfold State.commit
  split <;> simp

@[simp] theorem State.preOpen_pending (ch : Ch) (s : State) : (State.preOpen ch s).pending = s.pending := rfl

@[simp] theorem State.coolEnd_pending (ch : Ch) (s : State) : (State.coolEnd ch s).pending = s.pending := rfl

@[simp] theorem State.curfree_pending (ch : Ch) (s : State) : (State.curfree ch s).pending = s.pending := rfl

@[simp] theorem State.negOpen_pending (ch : Ch) (s : State) : (State.negOpen ch s).pending = s.pending := rfl

@[simp] theorem State.rdWarn_pending (ch : Ch) (s : State) : (State.rdWarn ch s).pending = s.pending := rfl

@[simp] theorem State.rdExpire_pending (ch : Ch) (s : State) : (State.rdExpire ch s).pending = s.pending := by
  simp [State.rdExpire]

@[simp] theorem State.clearOneOffs_pending (ch : Ch) (s : State) : (State.clearOneOffs ch s).pending = s.pending := by
  unfold State.clearOneOffs
  split <;> rfl

@[simp] theorem State.preCheck_pending (ch : Ch) (s : State) : (State.preCheck ch s).pending = s.pending := by
  unfold State.preCheck
  split <;> simp

@[simp] theorem State.posCheck_pending (ch : Ch) (s : State) : (State.posCheck ch s).pending = s.pending := rfl

@[simp] theorem State.ftcChecks_pending (s : State) : s.ftcChecks.pending = s.pending := by
  unfold State.ftcChecks
  dsimp only
  repeat' split
  all_goals simp

@[simp] theorem State.criterion_pending (ch : Ch) (s : State) : (State.criterion ch s).pending = s.pending := by
  unfold State.criterion
  dsimp only
  repeat' split
  all_goals simp

@[simp] theorem State.pcTimeout_pending (ch : Ch) (s : State) : (State.pcTimeout ch s).pending = s.pending := by
  simp [State.pcTimeout]

@[simp] theorem State.pcTimeouts_pending (s : State) : s.pcTimeouts.pending = s.pending := by
  unfold State.pcTimeouts
  dsimp only
  repeat' split
  all_goals simp

@[simp] theorem State.currentFree_pending (ch : Ch) (s : State) : (State.currentFree ch s).pending = s.pending := by
  unfold State.currentFree
  dsimp only
  split <;> rfl

@[simp] theorem State.weldPass_pending (ch : Ch) (s : State) : (State.weldPass ch s).pending = s.pending := by
  unfold State.weldPass
  dsimp only
  repeat' split
  all_goals simp

@[simp] theorem State.weldTimeout_pending (ch : Ch) (s : State) : (State.weldTimeout ch s).pending = s.pending := rfl

@[simp] theorem State.weldTimeouts_pending (s : State) : s.weldTimeouts.pending = s.pending := by
  unfold State.weldTimeouts
  dsimp only
  repeat' split
  all_goals simp

@[simp] theorem State.mirrorCheck_pending (ch : Ch) (s : State) : (State.mirrorCheck ch s).pending = s.pending := by
  unfold State.mirrorCheck
  dsimp only
  repeat' split
  all_goals simp

@[simp] theorem State.unrequested_pending (s : State) : s.unrequested.pending = s.pending := by
  unfold State.unrequested
  dsimp only
  repeat' split
  all_goals simp

@[simp] theorem State.outBoundary_pending (s : State) : s.outBoundary.pending = s.pending := rfl

@[simp] theorem State.lapse_pending (n : Nat) (side : Side) (s : State) : (State.lapse n side s).pending = s.pending := rfl

@[simp] theorem State.coilFails_pending (ch : Ch) (n : Nat) (s : State) : (State.coilFails ch n s).pending = s.pending := by
  simp [State.coilFails]

@[simp] theorem State.pullinEnd_pending (n : Nat) (s : State) : (State.pullinEnd n s).pending = s.pending := by
  unfold State.pullinEnd
  dsimp only
  repeat' split
  all_goals simp

@[simp] theorem State.fastOpen_pending (ch : Ch) (is : List Nat) (s : State) : (State.fastOpen ch is s).pending = s.pending := rfl

@[simp] theorem State.fastTrip_pending (ch : Ch) (s : State) : (State.fastTrip ch s).pending = s.pending := by
  simp [State.fastTrip]

@[simp] theorem State.instantTrip_pending (ch : Ch) (i1 i2 : Option Raw) (s : State) :
    (State.instantTrip ch i1 i2 s).pending = s.pending := by
  unfold State.instantTrip
  dsimp only
  repeat' split
  all_goals simp

@[simp] theorem State.fastOutputs_pending (ch : Ch) (was : EscOut) (s : State) : (State.fastOutputs ch was s).pending = s.pending := by
  unfold State.fastOutputs
  dsimp only
  repeat' split
  all_goals simp

/-! The channels -/

@[simp] theorem State.coilLow_pending (s : State) : s.coilLow.pending = s.pending := by simp [State.coilLow]

@[simp] theorem State.vkBoundary_pending (vk : Nat) (s : State) : (State.vkBoundary vk s).pending = s.pending := rfl

@[simp] theorem State.takeInputs_pending (j : Nat) (inA inB : BitVec 8) (s : State) :
    (State.takeInputs j inA inB s).pending = s.pending := rfl

@[simp] theorem State.inputChange_pending (i : Nat) (ch : Ch) (s : State) : (State.inputChange i ch s).pending = s.pending := rfl

@[simp] theorem State.inputChanges_pending (s : State) : s.inputChanges.pending = s.pending := by
  refine runAll_pending (fun i t => ?_) _ s
  dsimp only
  split <;> split <;> rfl

@[simp] theorem State.debounceAll_pending (s : State) : s.debounceAll.pending = s.pending := rfl

@[simp] theorem State.discCounts_pending (s : State) : s.discCounts.pending = s.pending := rfl

@[simp] theorem State.discClear_pending (s : State) : s.discClear.pending = s.pending := by
  unfold State.discClear
  dsimp only
  split <;> rfl

@[simp] theorem State.discrepancy_pending (i : Nat) (s : State) : (State.discrepancy i s).pending = s.pending := by
  simp [State.discrepancy]

@[simp] theorem State.discrepancies_pending (s : State) : s.discrepancies.pending = s.pending := by
  refine runAll_pending (fun i t => ?_) _ s
  split <;> simp

@[simp] theorem State.testContact_pending (g c : Ch) (read : Nat → Bool) (i : Nat) (s : State) :
    (State.testContact g c read i s).pending = s.pending := by
  unfold State.testContact
  dsimp only
  repeat' split
  all_goals simp

@[simp] theorem State.inputTest_pending (g : Ch) (levels : BitVec 8) (s : State) : (State.inputTest g levels s).pending = s.pending := by
  simp [State.inputTest]

@[simp] theorem State.gapSettle_pending (s : State) : s.gapSettle.pending = s.pending := by
  unfold State.gapSettle
  repeat' split
  all_goals simp

@[simp] theorem State.startPulse_pending (s : State) : s.startPulse.pending = s.pending := rfl

@[simp] theorem State.judgePulse_pending (p : Pulse) (ok : Bool) (s : State) : (State.judgePulse p ok s).pending = s.pending := by
  unfold State.judgePulse
  repeat' split
  all_goals simp

@[simp] theorem State.endPulse_pending (during : List (Level × Level)) (coil : Nat) (restored : Bool) (s : State) :
    (State.endPulse during coil restored s).pending = s.pending := by
  unfold State.endPulse
  repeat' split
  all_goals simp

@[simp] theorem State.compare_pending (a b : XRec) (byA byB : Bool) (s : State) : (State.compare a b byA byB s).pending = s.pending := by
  unfold State.compare
  extract_lets diff blks inv skip cntA cntB beyA beyB reached any counts shows blk x y z t u kind
  have hu : u.pending = s.pending := by
    simp only [u]
    split <;> rfl
  split
  · exact (State.raiseCondAs_pending ..).trans hu
  · split
    · exact (State.raiseAt_pending ..).trans hu
    · split <;> exact hu

@[simp] theorem State.countMissing_pending (s : State) (c : Ch) (other : Option XRec) : (s.countMissing c other).pending = s.pending := by
  unfold State.countMissing
  split <;> rfl

@[simp] theorem State.crossCompare_pending (recA recB : Bool) (s : State) : (State.crossCompare recA recB s).pending = s.pending := by
  unfold State.crossCompare
  dsimp only
  repeat' split
  all_goals simp

@[simp] theorem State.freezeFlt_pending (s : State) : s.freezeFlt.pending = s.pending := rfl

@[simp] theorem State.declareLoss_pending (c : Ch) (s : State) : (State.declareLoss c s).pending = s.pending := by
  unfold State.declareLoss
  dsimp only
  repeat' split
  all_goals simp

@[simp] theorem State.setHostLost_pending (s : State) : s.setHostLost.pending = s.pending := rfl

@[simp] theorem State.hostBoundary_pending (s : State) : s.hostBoundary.pending = s.pending := rfl

/-! Cores, debugger, sweeps and replay -/

@[simp] theorem State.coreCause_pending (k : Nat) (s : State) : (State.coreCause k s).pending = s.pending := rfl

@[simp] theorem State.mismatch_pending (ch : Ch) (cls : Nat) (s : State) : (State.mismatch ch cls s).pending = s.pending := by
  unfold State.mismatch
  split <;> simp

@[simp] theorem State.testFailed_pending (ch : Ch) (cls inj : Nat) (s : State) : (State.testFailed ch cls inj s).pending = s.pending := by
  simp [State.testFailed]

@[simp] theorem State.joinTaken_pending (ch : Ch) (s : State) : (State.joinTaken ch s).pending = s.pending := rfl

@[simp] theorem State.splitOp_pending (ch : Ch) (s : State) : (State.splitOp ch s).pending = s.pending := by
  unfold State.splitOp
  split <;> rfl

@[simp] theorem State.rplStop_pending (cause : Nat) (s : State) : (State.rplStop cause s).pending = s.pending := by
  unfold State.rplStop
  split <;> rfl

@[simp] theorem State.sweepStop_pending (st cause : Nat) (s : State) : (State.sweepStop st cause s).pending = s.pending := by
  unfold State.sweepStop
  split <;> rfl

@[simp] theorem State.joinOp_pending (ch : Ch) (s : State) : (State.joinOp ch s).pending = s.pending := by
  unfold State.joinOp
  repeat' split
  all_goals simp

@[simp] theorem State.joinCopy_pending (ch : Ch) (missed : Option (Fin 8)) (s : State) :
    (State.joinCopy ch missed s).pending = s.pending := by
  unfold State.joinCopy
  repeat' split
  all_goals simp

@[simp] theorem State.coreBoundary_pending (s : State) : s.coreBoundary.pending = s.pending := rfl

@[simp] theorem State.resumeCore_pending (s : State) : s.resumeCore.pending = s.pending := by
  unfold State.resumeCore
  repeat' split
  all_goals simp

@[simp] theorem State.debugEnd_pending (s : State) : s.debugEnd.pending = s.pending := by simp [State.debugEnd]

@[simp] theorem State.haltSpans_pending (s : State) : s.haltSpans.pending = s.pending := by
  unfold State.haltSpans
  repeat' split
  all_goals simp

@[simp] theorem State.dbgWrite_pending (t : DbgTarget) (addr value : Word) (drained : Nat) (slot : Party) (s : State) :
    (State.dbgWrite t addr value drained slot s).pending = s.pending := by
  unfold State.dbgWrite
  dsimp only
  repeat' split
  all_goals simp

@[simp] theorem State.sweepStart_pending (nf : BitVec 4) (s : State) : (State.sweepStart nf s).pending = s.pending := by
  unfold State.sweepStart
  split <;> rfl

@[simp] theorem State.sweepBeat_pending (s : State) : s.sweepBeat.pending = s.pending := by
  unfold State.sweepBeat
  split <;> rfl

@[simp] theorem State.sweepBlock_pending (s : State) : s.sweepBlock.pending = s.pending := by
  unfold State.sweepBlock
  dsimp only
  split <;> rfl

@[simp] theorem State.sweepEnd_pending (s : State) : s.sweepEnd.pending = s.pending := by
  unfold State.sweepEnd
  split <;> simp

@[simp] theorem State.rplStart_pending (bank raw : Bool) (s : State) : (State.rplStart bank raw s).pending = s.pending := by
  unfold State.rplStart
  dsimp only
  split <;> rfl

@[simp] theorem State.rplRecord_pending (l : List Byte) (s : State) : (State.rplRecord l s).pending = s.pending := by
  unfold State.rplRecord
  dsimp only
  repeat' split
  all_goals simp

@[simp] theorem State.rplIn_pending (data : Word) (s : State) : (State.rplIn data s).pending = s.pending := by
  unfold State.rplIn
  dsimp only
  repeat' split
  all_goals simp

@[simp] theorem State.rplBeat_pending (s : State) : s.rplBeat.pending = s.pending := by
  unfold State.rplBeat
  dsimp only
  split <;> rfl

@[simp] theorem State.rplOutTake_pending (s : State) : s.rplOutTake.pending = s.pending := rfl

/-! Faults -/

@[simp] theorem State.expiries_pending (s : State) : s.expiries.pending = s.pending := runAll_pending (fun _ _ => by rfl) _ s

@[simp] theorem State.calSegment_pending (seg : Nat) (o : CalIn) (s : State) : (State.calSegment seg o s).pending = s.pending := by
  unfold State.calSegment
  dsimp only
  repeat' split
  all_goals simp

@[simp] theorem State.blkResume_pending (b : Blk) (cal : CalIn) (s : State) : (State.blkResume b cal s).pending = s.pending := by
  unfold State.blkResume
  split <;> simp

@[simp] theorem State.blkEnd_pending (cal : CalIn) (b : Blk) (s : State) : (State.blkEnd cal b s).pending = s.pending := by
  simp [State.blkEnd]

@[simp] theorem State.blkSettle_pending (s : State) : s.blkSettle.pending = s.pending := by simp [State.blkSettle]

@[simp] theorem State.blkBoundary_pending (s : State) : s.blkBoundary.pending = s.pending := rfl

@[simp] theorem State.releaseLoop_pending (s : State) : s.releaseLoop.pending = s.pending := rfl

@[simp] theorem State.inject_pending (key : BitVec 8) (full : Bool) (target : Nat) (s : State) :
    (State.inject key full target s).pending = s.pending := rfl

@[simp] theorem State.injExpire_pending (i : InjRun) (s : State) : (State.injExpire i s).pending = s.pending := by
  unfold State.injExpire
  split <;> simp

@[simp] theorem State.injAge_pending (s : State) : s.injAge.pending = s.pending := by
  unfold State.injAge
  repeat' split
  all_goals simp

@[simp] theorem State.injBoundary_pending (s : State) : s.injBoundary.pending = s.pending := by
  unfold State.injBoundary
  repeat' split
  all_goals simp

@[simp] theorem State.srcBoundary_pending (s : State) : s.srcBoundary.pending = s.pending := rfl

end Sys2Proof.Machine
end

section
/-! PROOFS. The queue: time, ring and CAN. -/

namespace Sys2Proof.Machine

open Sys2Proof

/-! Limits -/

@[simp] theorem State.limHold_pending (s : State) : s.limHold.pending = s.pending := rfl

@[simp] theorem State.health_pending (s : State) : s.health.pending = s.pending := by
  unfold State.health
  dsimp only
  repeat' split
  all_goals simp

@[simp] theorem State.publish_pending (s : State) : s.publish.pending = s.pending := by
  unfold State.publish
  repeat' split
  all_goals simp

@[simp] theorem State.healthClear_pending (s : State) : s.healthClear.pending = s.pending := rfl

@[simp] theorem State.limBoundary_pending (s : State) : s.limBoundary.pending = s.pending := rfl

/-! Synchronisation -/

@[simp] theorem State.risingEdge_pending (ofs interval : Nat) (dev : Int) (s : State) :
    (State.risingEdge ofs interval dev s).pending = s.pending := rfl

@[simp] theorem State.relength_pending (s : State) : s.relength.pending = s.pending := by
  unfold State.relength
  split <;> rfl

@[simp] theorem State.acquire_pending (s : State) : s.acquire.pending = s.pending := by simp [State.acquire]

@[simp] theorem State.lockOn_pending (s : State) : s.lockOn.pending = s.pending := by simp [State.lockOn]

@[simp] theorem State.holdover_pending (s : State) : s.holdover.pending = s.pending := by simp [State.holdover]

@[simp] theorem State.sourceLost_pending (s : State) : s.sourceLost.pending = s.pending := by simp [State.sourceLost]

@[simp] theorem State.srcSelWrite_pending (path : Path) (v : BitVec 2) (s : State) :
    (State.srcSelWrite path v s).pending = s.pending := by
  unfold State.srcSelWrite
  split <;> rfl

@[simp] theorem State.srcSelActive_pending (v : BitVec 2) (s : State) : (State.srcSelActive v s).pending = s.pending := rfl

@[simp] theorem State.resync_pending (s : State) : s.resync.pending = s.pending := by
  unfold State.resync
  split <;> rfl

@[simp] theorem State.lockEnd_pending (s : State) : s.lockEnd.pending = s.pending := rfl

@[simp] theorem State.lockBoundary_pending (period : Nat) (err : Int) (s : State) :
    (State.lockBoundary period err s).pending = s.pending := rfl

@[simp] theorem State.windowsBoundary_pending (s : State) : s.windowsBoundary.pending = s.pending := rfl

@[simp] theorem State.fallBack_pending (before : Nat) (s : State) : (State.fallBack before s).pending = s.pending := rfl

@[simp] theorem State.fallingEdge_pending (ofs : Nat) (s : State) : (State.fallingEdge ofs s).pending = s.pending := by
  unfold State.fallingEdge
  dsimp only
  repeat' split
  all_goals simp

@[simp] theorem State.overrunOp_pending (ch : Ch) (s : State) : (State.overrunOp ch s).pending = s.pending := by
  unfold State.overrunOp
  split <;> simp

/-! Frames -/

@[simp] theorem State.sendRaw_pending (p : RPort) (l : List Byte) (bad : Bool) (s : State) :
    (State.sendRaw p l bad s).pending = s.pending := by
  unfold State.sendRaw
  split <;> rfl

@[simp] theorem State.aqPush_pending (p : RPort) (l : List Byte) (s : State) : (s.aqPush p l).1.pending = s.pending := by
  unfold State.aqPush
  split <;> simp

@[simp] theorem State.sendFrame_pending (ps : List RPort) (h : RHdr) (body : List Byte) (s : State) :
    (State.sendFrame ps h body s).pending = s.pending := by
  refine foldl_pending (fun t p => ?_) _ s
  dsimp only
  split
  · rfl
  · split <;> simp

/-! The string ring -/

@[simp] theorem State.setPort_pending (p : RPort) (f : PortS → PortS) (s : State) : (State.setPort p f s).pending = s.pending := rfl

@[simp] theorem State.portComesUp_pending (p : RPort) (s : State) : (State.portComesUp p s).pending = s.pending := rfl

@[simp] theorem State.dlAsk_pending (ps : List RPort) (s : State) : (State.dlAsk ps s).pending = s.pending := by
  simp [State.dlAsk]

@[simp] theorem State.dlTake_pending (p : RPort) (l : List Byte) (s : State) : (State.dlTake p l s).pending = s.pending := by
  unfold State.dlTake
  split <;> simp

@[simp] theorem State.dlBoundary_pending (s : State) : s.dlBoundary.pending = s.pending := by
  unfold State.dlBoundary
  split <;> simp

@[simp] theorem State.setUnit_pending (u : UAddr) (f : UnitS → UnitS) (s : State) : (State.setUnit u f s).pending = s.pending := rfl

@[simp] theorem State.heardFrom_pending (h : RHdr) (s : State) : (State.heardFrom h s).pending = s.pending := rfl

@[simp] theorem State.remoteAnswer_pending (tag : BitVec 8) (status : Nat) (addr : BitVec 14) (data : Word) (s : State) :
    (State.remoteAnswer tag status addr data s).pending = s.pending := by
  unfold State.remoteAnswer
  repeat' split
  all_goals simp

@[simp] theorem State.staleHeard_pending (u : UAddr) (data : Word) (s : State) : (State.staleHeard u data s).pending = s.pending := rfl

@[simp] theorem State.kfAnswer_pending (x : KfRelay) (reply : RingReply) (s : State) :
    (State.kfAnswer x reply s).pending = s.pending := by
  unfold State.kfAnswer
  split <;> rfl

@[simp] theorem State.replyField_pending (u : UAddr) (l : List Byte) (s : State) : (State.replyField u l s).pending = s.pending := by
  unfold State.replyField
  dsimp only
  repeat' split
  all_goals simp

@[simp] theorem State.reportSum_pending (u : UAddr) (s : State) : (State.reportSum u s).pending = s.pending := by
  unfold State.reportSum
  split <;> simp

@[simp] theorem State.reportTrip_pending (old : UnitS) (s : State) : (State.reportTrip old s).pending = s.pending := by
  unfold State.reportTrip
  repeat' split
  all_goals simp

@[simp] theorem State.qbPush_pending (s : State) : s.qbPush.pending = s.pending := by
  unfold State.qbPush
  repeat' split
  all_goals simp

@[simp] theorem State.takeReport_pending (p : RPort) (l : List Byte) (s : State) : (State.takeReport p l s).pending = s.pending := by
  unfold State.takeReport
  dsimp only
  repeat' split
  all_goals simp

@[simp] theorem State.rxPush_pending (p : RPort) (l : List Byte) (s : State) : (State.rxPush p l s).pending = s.pending := by
  unfold State.rxPush
  split <;> simp

@[simp] theorem State.staleReply_pending (h : RHdr) (s : State) : (State.staleReply h s).pending = s.pending := rfl

@[simp] theorem State.hearRival_pending (l : List Byte) (s : State) : (State.hearRival l s).pending = s.pending := rfl

@[simp] theorem State.deliver_pending (p : RPort) (l : List Byte) (s : State) : (State.deliver p l s).pending = s.pending := by
  unfold State.deliver
  dsimp only
  repeat' split
  all_goals simp

@[simp] theorem State.stripOwn_pending (p : RPort) (l : List Byte) (intact : Bool) (s : State) :
    (State.stripOwn p l intact s).pending = s.pending := by
  unfold State.stripOwn
  repeat' split
  all_goals simp

@[simp] theorem State.portInjected_pending (p : RPort) (h : RHdr) (s : State) : (State.portInjected p h s).pending = s.pending := by
  unfold State.portInjected
  split <;> rfl

@[simp] theorem State.injRecovered_pending (h : RHdr) (intact : Bool) (s : State) :
    (State.injRecovered h intact s).pending = s.pending := by
  unfold State.injRecovered
  split <;> simp

@[simp] theorem State.receive_pending (p : RPort) (l : List Byte) (marked : Bool) (s0 : State) :
    (State.receive p l marked s0).pending = s0.pending := by
  unfold State.receive
  split
  · rfl
  · extract_lets s good intact hdr t v mine w
    have ht : t.pending = s0.pending := by
      simp only [t, s]
      split <;> simp
    have hv : v.pending = s0.pending := by
      simp only [v]
      split <;> simpa using ht
    have hw : w.pending = s0.pending := by
      simp only [w]
      split
      · exact hv
      · split <;> simpa using hv
    split
    · simpa using ht
    · split
      · exact hw
      · simpa using hw

@[simp] theorem State.markSent_pending (tags : List (BitVec 8)) (s : State) : (State.markSent tags s).pending = s.pending := rfl

@[simp] theorem State.mfSend_pending (more : List RingEnt) (s : State) : (State.mfSend more s).pending = s.pending := by
  simp [State.mfSend]

@[simp] theorem State.rfResend_pending (p : RPort) (slot : Nat) (s : State) : (State.rfResend p slot s).pending = s.pending := by
  unfold State.rfResend
  split <;> simp

@[simp] theorem State.afterSlots_pending (a : UAddr) (s : State) : (State.afterSlots a s).pending = s.pending := by
  unfold State.afterSlots
  split <;> rfl

@[simp] theorem State.rfJudge_pending (a : UAddr) (s0 : State) : (State.rfJudge a s0).pending = s0.pending := by
  unfold State.rfJudge
  dsimp only
  repeat' split
  all_goals simp

@[simp] theorem State.ringWindow_pending (s : State) : s.ringWindow.pending = s.pending := by
  unfold State.ringWindow
  split <;> simp

@[simp] theorem State.enumStart_pending (s : State) : s.enumStart.pending = s.pending := by simp [State.enumStart]

@[simp] theorem State.enumResult_pending (closed : Bool) (found : List Found) (serials : List (UAddr × BitVec 64)) (s : State) :
    (State.enumResult closed found serials s).pending = s.pending := by
  unfold State.enumResult
  dsimp only
  repeat' split
  all_goals simp

@[simp] theorem State.enumerate_pending (arcs : List Found) (serials : List (UAddr × BitVec 64)) (s : State) :
    (State.enumerate arcs serials s).pending = s.pending := by
  unfold State.enumerate
  dsimp only
  repeat' split
  all_goals simp

@[simp] theorem State.erTake_pending (l : List Byte) (s : State) : (State.erTake l s).pending = s.pending := by
  simp [State.erTake]

@[simp] theorem State.erTrunk_pending (l : List Byte) (s : State) : (State.erTrunk l s).pending = s.pending :=
  foldl_pending (fun _ _ => by rfl) _ s

@[simp] theorem State.startListen_pending (s : State) : s.startListen.pending = s.pending := by
  unfold State.startListen
  split <;> rfl

@[simp] theorem State.takeover_pending (s : State) : s.takeover.pending = s.pending := rfl

@[simp] theorem State.activate_pending (s : State) : s.activate.pending = s.pending := by
  unfold State.activate
  split <;> simp

@[simp] theorem State.yieldJudge_pending (s : State) : s.yieldJudge.pending = s.pending := by
  unfold State.yieldJudge
  split <;> rfl

@[simp] theorem State.yieldNow_pending (s : State) : s.yieldNow.pending = s.pending := by
  unfold State.yieldNow
  split <;> rfl

@[simp] theorem State.strChange_pending (s : State) : s.strChange.pending = s.pending := by
  unfold State.strChange
  split <;> simp

@[simp] theorem State.ringCounts_pending (s : State) : s.ringCounts.pending = s.pending := rfl

@[simp] theorem State.ringBoundary_pending (s : State) : s.ringBoundary.pending = s.pending := by
  unfold State.ringBoundary
  extract_lets a b
  have hb : b.pending = s.pending := by
    show a.pending = _
    simp only [a, State.ringCounts_pending, State.yieldNow_pending, State.activate_pending, State.yieldJudge_pending]
    exact onlyIf_pending State.takeover_pending _ s
  simpa using hb

@[simp] theorem State.tfTake_pending (p : RPort) (l : List Byte) (s : State) : (State.tfTake p l s).pending = s.pending := by
  unfold State.tfTake
  dsimp only
  split <;> simp

@[simp] theorem State.kfSend_pending (s : State) : s.kfSend.pending = s.pending := by simp [State.kfSend]

@[simp] theorem State.trunkJudge_pending (s : State) : s.trunkJudge.pending = s.pending := by
  unfold State.trunkJudge
  repeat' split
  all_goals simp

@[simp] theorem State.majorityChange_pending (s : State) : s.majorityChange.pending = s.pending := rfl

@[simp] theorem State.coordinate_pending (s : State) : s.coordinate.pending = s.pending := rfl

/-! The CAN ports -/

@[simp] theorem State.setObj_pending (p : CPort) (k : Nat) (f : ObjS → ObjS) (s : State) :
    (State.setObj p k f s).pending = s.pending := rfl

@[simp] theorem State.acPush_pending (p : CPort) (s : State) : (State.acPush p s).pending = s.pending := by
  unfold State.acPush
  split <;> simp

@[simp] theorem State.queueObj_pending (p : CPort) (k : Nat) (data : List Byte) (s : State) :
    (State.queueObj p k data s).pending = s.pending := by
  unfold State.queueObj
  split <;> simp

@[simp] theorem State.canCompose_pending (num : Word) (s : State) : (State.canCompose num s).pending = s.pending := by
  rw [State.canCompose]

@[simp] theorem State.queueDue_pending (p : CPort) (k : Nat) (s : State) : (State.queueDue p k s).pending = s.pending := by
  unfold State.queueDue
  split <;> simp

@[simp] theorem State.queueAll_pending (s : State) : s.queueAll.pending = s.pending := by simp [State.queueAll]

@[simp] theorem State.objSend_pending (p : CPort) (k : Nat) (s : State) : (State.objSend p k s).pending = s.pending := by
  unfold State.objSend
  dsimp only
  split <;> simp

@[simp] theorem State.objCancel_pending (p : CPort) (k : Nat) (s : State) : (State.objCancel p k s).pending = s.pending := rfl

@[simp] theorem State.startFrame_pending (p : CPort) (k : Nat) (s : State) : (State.startFrame p k s).pending = s.pending := rfl

@[simp] theorem State.canOffer_pending (p : CPort) (s : State) : (State.canOffer p s).pending = s.pending := by
  unfold State.canOffer
  repeat' split
  all_goals simp

@[simp] theorem State.canFollow_pending (p : CPort) (s : State) : (State.canFollow p s).pending = s.pending := by
  unfold State.canFollow
  dsimp only
  repeat' split
  all_goals simp

@[simp] theorem State.frameEnd_pending (p : CPort) (k : Nat) (seen : BusEnd) (ofs : BitVec 16) (delay : Nat) (s : State) :
    (State.frameEnd p k seen ofs delay s).pending = s.pending := by
  unfold State.frameEnd
  dsimp only
  repeat' split
  all_goals simp

@[simp] theorem State.filtered_pending (p : CPort) (f : CanFrame) (beat : Word) (s : State) :
    (State.filtered p f beat s).pending = s.pending := rfl

@[simp] theorem State.telPush_pending (x : TelIn) (c : Ch) (s : State) : (State.telPush x c s).pending = s.pending := by
  unfold State.telPush
  repeat' split
  all_goals simp

@[simp] theorem State.caPush_pending (p : CPort) (s : State) : (State.caPush p s).pending = s.pending := by
  unfold State.caPush
  repeat' split
  all_goals simp

@[simp] theorem State.telArrive_pending (p : CPort) (k : Nat) (f : CanFrame) (endNs : Nat) (s : State) :
    (State.telArrive p k f endNs s).pending = s.pending := by
  simp [State.telArrive]

@[simp] theorem State.canReceive_pending (p : CPort) (f : CanFrame) (endNs : Nat) (s : State) :
    (State.canReceive p f endNs s).pending = s.pending := by
  unfold State.canReceive
  repeat' split
  all_goals simp

@[simp] theorem State.odata0Read_pending (p : CPort) (s : State) : (State.odata0Read p s).pending = s.pending := rfl

@[simp] theorem State.canError_pending (p : CPort) (tec rxc : Nat) (err : Option (Fin 8 × Bool)) (s : State) :
    (State.canError p tec rxc err s).pending = s.pending := by
  unfold State.canError
  split <;> simp

@[simp] theorem State.canRejoin_pending (p : CPort) (s : State) : (State.canRejoin p s).pending = s.pending := rfl

@[simp] theorem State.canRecover_pending (p : CPort) (recessive : Bool) (s : State) :
    (State.canRecover p recessive s).pending = s.pending := by
  unfold State.canRecover
  dsimp only
  repeat' split
  all_goals simp

@[simp] theorem State.refSend_pending (mark : Nat) (s : State) : (State.refSend mark s).pending = s.pending := by
  unfold State.refSend
  dsimp only
  repeat' split
  all_goals simp

@[simp] theorem State.refReceive_pending (f : CanFrame) (interval : Nat) (dev : Int) (s : State) :
    (State.refReceive f interval dev s).pending = s.pending := by
  unfold State.refReceive
  dsimp only
  repeat' split
  all_goals simp

@[simp] theorem State.ttResume_pending (s : State) : s.ttResume.pending = s.pending := by
  unfold State.ttResume
  repeat' split
  all_goals simp

@[simp] theorem State.calReceive_pending (f : CanFrame) (calSec calFrac : Nat) (s : State) :
    (State.calReceive f calSec calFrac s).pending = s.pending := by
  unfold State.calReceive
  dsimp only
  repeat' split
  all_goals simp

@[simp] theorem State.canBoundary_pending (s : State) : s.canBoundary.pending = s.pending := rfl

@[simp] theorem State.canStart_pending (s : State) : s.canStart.pending = s.pending := rfl

@[simp] theorem State.telJudgeIn_pending (ch : Ch) (n : Nat) (s : State) : (State.telJudgeIn ch n s).pending = s.pending := by
  unfold State.telJudgeIn
  dsimp only
  repeat' split
  all_goals simp

@[simp] theorem State.telJudged_pending (n : Nat) (s : State) : (State.telJudged n s).pending = s.pending := by
  simp [State.telJudged]

@[simp] theorem State.telTimeIn_pending (ch : Ch) (n : Nat) (s : State) : (State.telTimeIn ch n s).pending = s.pending := by
  unfold State.telTimeIn
  split <;> rfl

@[simp] theorem State.telTimed_pending (n : Nat) (s : State) : (State.telTimed n s).pending = s.pending := by
  simp [State.telTimed]

@[simp] theorem State.telegrams_pending (s : State) : s.telegrams.pending = s.pending := by simp [State.telegrams]

@[simp] theorem State.telCheckIn_pending (n : Nat) (x : TelIn) (ch : Ch) (s : State) :
    (State.telCheckIn n x ch s).pending = s.pending := by
  unfold State.telCheckIn
  repeat' split
  all_goals simp

@[simp] theorem State.telReceive_pending (p : CPort) (f : CanFrame) (s : State) : (State.telReceive p f s).pending = s.pending := by
  unfold State.telReceive
  split <;> simp

@[simp] theorem State.telSend_pending (n : Nat) (s : State) : (State.telSend n s).pending = s.pending := by
  simp [State.telSend]

@[simp] theorem State.cmdTake_pending (n : Nat) (s : State) : (State.cmdTake n s).pending = s.pending := by
  unfold State.cmdTake
  dsimp only
  split <;> rfl

@[simp] theorem State.cmdAll_pending (s : State) : s.cmdAll.pending = s.pending := by simp [State.cmdAll]

end Sys2Proof.Machine
end

section
/-! PROOFS. The queue: the configuration port, power and history. -/

namespace Sys2Proof.Machine

open Sys2Proof

/-! The configuration port -/

@[simp] theorem State.bankTo_pending (b : Bool) (st : BankState) (s : State) : (State.bankTo b st s).pending = s.pending := by
  cases b <;> rfl

@[simp] theorem State.cfgTask_pending (on : Bool) (s : State) : (State.cfgTask on s).pending = s.pending := by
  unfold State.cfgTask
  dsimp only
  repeat' split
  all_goals simp

/-- A command of the configuration port shows itself and acts (R129, R137). -/
theorem State.cfgCommand_pending {f : State → State} (hf : ∀ s, (f s).pending = s.pending) (p : Path) (key : BitVec 8) (n : Nat)
    (check : State → Option Nat) (s : State) : (s.cfgCommand p key n check f).pending = s.pending := by
  unfold State.cfgCommand
  dsimp only
  split
  · rfl
  · exact hf _

@[simp] theorem State.openOk_pending (path : Path) (s : State) : (State.openOk path s).pending = s.pending :=
  State.bankTo_pending s.openBank .writing s

@[simp] theorem State.cfgDone_pending (s : State) : s.cfgDone.pending = s.pending := by
  rw [State.cfgDone_eq]

@[simp] theorem State.refuseImage_pending (e : CfgErr) (s : State) : (State.refuseImage e s).pending = s.pending := rfl

@[simp] theorem State.verifyEnd_pending (s : State) : s.verifyEnd.pending = s.pending := by
  unfold State.verifyEnd
  dsimp only
  repeat' split
  all_goals simp

@[simp] theorem State.commitEnd_pending (s : State) : s.commitEnd.pending = s.pending := by
  unfold State.commitEnd
  dsimp only
  repeat' split
  all_goals simp

@[simp] theorem State.confirmOk_pending (s : State) : s.confirmOk.pending = s.pending := rfl

@[simp] theorem State.cfgOther_pending (path : Path) (key : BitVec 8) (cmd : Nat) (s : State) :
    (State.cfgOther path key cmd s).pending = s.pending := State.cfgCommand_pending (fun _ => rfl) path key cmd _ s

@[simp] theorem State.crownBoundary_pending (mv1 mv2 : Nat) (s : State) : (State.crownBoundary mv1 mv2 s).pending = s.pending := rfl

@[simp] theorem State.crownAgree_pending (s : State) : s.crownAgree.pending = s.pending := rfl

@[simp] theorem State.trialBoundary_pending (s : State) : s.trialBoundary.pending = s.pending := by
  unfold State.trialBoundary
  split <;> rfl

@[simp] theorem State.trialCheckpoint_pending (s : State) : s.trialCheckpoint.pending = s.pending := by
  simp [State.trialCheckpoint]

@[simp] theorem State.expire_pending (s : State) : s.expire.pending = s.pending := rfl

@[simp] theorem State.revertTrial_pending (why : Nat) (s : State) : (State.revertTrial why s).pending = s.pending := by
  unfold State.revertTrial
  split <;> rfl

@[simp] theorem State.revertWrite_pending (s : State) : s.revertWrite.pending = s.pending := by
  unfold State.revertWrite
  repeat' split
  all_goals simp

/-! Power and resets -/

@[simp] theorem State.flushLog_pending (s : State) : s.flushLog.pending = s.pending := by
  unfold State.flushLog
  split <;> rfl

@[simp] theorem State.lastRecord_pending (code : Nat) (p : List Word) (s : State) : (State.lastRecord code p s).pending = s.pending := by
  unfold State.lastRecord
  split <;> rfl

@[simp] theorem State.countReset_pending (s : State) : s.countReset.pending = s.pending := rfl

@[simp] theorem State.intrOver_pending (s : State) : s.intrOver.pending = s.pending := by
  unfold State.intrOver
  split <;> simp

@[simp] theorem State.wakeStart_pending (sources : BitVec 7) (s : State) : (State.wakeStart sources s).pending = s.pending := rfl

@[simp] theorem State.pwrRequest_pending (dormant keyOk : Bool) (trigger : Nat) (s : State) :
    (State.pwrRequest dormant keyOk trigger s).pending = s.pending := rfl

@[simp] theorem State.ringSilent_pending (s : State) : s.ringSilent.pending = s.pending := rfl

@[simp] theorem State.wake_pending (sources : BitVec 7) (s : State) : (State.wake sources s).pending = s.pending := by
  unfold State.wake
  dsimp only
  repeat' split
  all_goals simp

@[simp] theorem State.canWake_pending (port : CPort) (seen : WakeSeen) (s : State) : (State.canWake port seen s).pending = s.pending := by
  unfold State.canWake
  dsimp only
  repeat' split
  all_goals simp

@[simp] theorem State.powerBoundary_pending (s : State) : s.powerBoundary.pending = s.pending := rfl

@[simp] theorem State.crystalFails_pending (ch : Ch) (s : State) : (State.crystalFails ch s).pending = s.pending := by
  unfold State.crystalFails
  split <;> rfl

/-! The history -/

@[simp] theorem State.setHist_pending (pos : Nat) (f : HistSlot → HistSlot) (s : State) :
    (State.setHist pos f s).pending = s.pending := rfl

@[simp] theorem State.restoreEntry_pending (k : Nat) (w : Word) (s : State) : (State.restoreEntry k w s).pending = s.pending := rfl

@[simp] theorem State.restoreOpen_pending (s : State) : s.restoreOpen.pending = s.pending := rfl

@[simp] theorem State.restoreBegin_pending (pos : Nat) (s : State) : (State.restoreBegin pos s).pending = s.pending := by
  unfold State.restoreBegin
  split
  · rfl
  · split
    · exact runAll_pending (f := fun (x : Nat × Word) t => t.restoreEntry x.1 x.2) (fun x t => State.restoreEntry_pending x.1 x.2 t) _ _
    · rfl

@[simp] theorem State.restoreBoundary_pending (s : State) : s.restoreBoundary.pending = s.pending := by
  unfold State.restoreBoundary
  dsimp only
  repeat' split
  all_goals simp

@[simp] theorem State.restoreSent_pending (n : Nat) (s : State) : (State.restoreSent n s).pending = s.pending := by
  unfold State.restoreSent
  dsimp only
  repeat' split
  all_goals simp

@[simp] theorem State.mfSendAll_pending (s : State) : s.mfSendAll.pending = s.pending := by simp [State.mfSendAll]

@[simp] theorem State.histRestore_pending (path : Path) (s : State) : (State.histRestore path s).pending = s.pending := by
  unfold State.histRestore
  repeat' split
  all_goals simp

@[simp] theorem State.importWord_pending (w : Nat) (b prev : List Byte) (s : State) :
    (State.importWord w b prev s).pending = s.pending := by
  unfold State.importWord
  split
  · rfl
  · split
    · rfl
    · exact State.setHist_pending ..

@[simp] theorem State.importTake_pending (d : Word) (s : State) : (State.importTake d s).pending = s.pending := by
  unfold State.importTake
  dsimp only
  repeat' split
  all_goals simp

@[simp] theorem State.restoreTake_pending (d : Word) (s : State) : (State.restoreTake d s).pending = s.pending := by
  unfold State.restoreTake
  dsimp only
  repeat' split
  all_goals simp

@[simp] theorem State.winWrite_pending (d : Word) (s : State) : (State.winWrite d s).pending = s.pending := by
  unfold State.winWrite
  repeat' split
  all_goals simp

end Sys2Proof.Machine
end

section
/-! PROOFS. The queue: registers and the host. -/

namespace Sys2Proof.Machine

open Sys2Proof

/-! Register reads -/

@[simp] theorem State.afterRead_pending (path : Path) (a : Nat) (s : State) : (State.afterRead path a s).pending = s.pending := by
  unfold State.afterRead
  split
  · rfl
  · rfl
  · split
    · split
      all_goals simp only [execOdata0Read, outState_next, State.odata0Read_pending, State.setCan_pending]
    · split
      · exact State.setRing_pending ..
      · split
        · exact State.setSys_pending ..
        · split
          all_goals simp only [execHistWinAccess, execLogRd0Read, outState_next, State.latchHi_pending, State.rplOutTake_pending,
            State.setRing_pending, State.setSys_pending, State.setBeat_pending, State.setChan_pending]

/-! Register writes -/

@[simp] theorem execCfgOpen_pending (p : Path) (k : BitVec 8) (s t : State) :
    (outState (execCfgOpen p k s) t).pending = s.pending :=
  State.cfgCommand_pending (State.openOk_pending p) ..

@[simp] theorem execCfgVerify_pending (p : Path) (k : BitVec 8) (s t : State) :
    (outState (execCfgVerify p k s) t).pending = s.pending :=
  State.cfgCommand_pending (f := fun t => (t.setCfg fun c => { c with work := .verify }).cfgTask true)
    (fun _ => State.cfgTask_pending true _) ..

@[simp] theorem execCfgCommit_pending (p : Path) (k : BitVec 8) (s t : State) :
    (outState (execCfgCommit p k s) t).pending = s.pending :=
  State.cfgCommand_pending (f := fun t => (t.setCfg fun c =>
    { c with owner := .none, work := .commit, workBank := (c.find [.verified]).getD false }).cfgTask true)
    (fun _ => State.cfgTask_pending true _) ..

@[simp] theorem execCfgConfirm_pending (p : Path) (k : BitVec 8) (s t : State) :
    (outState (execCfgConfirm p k s) t).pending = s.pending :=
  State.cfgCommand_pending State.confirmOk_pending ..

@[simp] theorem execCfgRollback_pending (p : Path) (k : BitVec 8) (s t : State) :
    (outState (execCfgRollback p k s) t).pending = s.pending :=
  State.cfgCommand_pending (f := fun t => t.setCfg fun c => { c with rev := .rollback }) (fun _ => rfl) ..

@[simp] theorem execCfgAbort_pending (p : Path) (k : BitVec 8) (s t : State) :
    (outState (execCfgAbort p k s) t).pending = s.pending :=
  State.cfgCommand_pending (f := fun t => (t.bankTo ((t.cfg.find [.writing, .verified]).getD false) .invalid).setCfg fun c =>
    { c with owner := .none }) (fun t => State.bankTo_pending ((t.cfg.find [.writing, .verified]).getD false) .invalid t) ..

@[simp] theorem execOtpKey_pending (p : Path) (k : BitVec 8) (s t : State) :
    (outState (execOtpKey p k s) t).pending = s.pending :=
  State.cfgCommand_pending (f := fun t => t.setCfg fun c =>
    { c with keys := c.keys ++ [imgKeyHash (cellsBytes bankSize (c.bank ((c.find [.verified]).getD false)).cells)] }) (fun _ => rfl) ..

@[simp] theorem State.writeCfgCmd_pending (path : Path) (d : Word) (s : State) : (State.writeCfgCmd path d s).pending = s.pending := by
  unfold State.writeCfgCmd
  split <;> simp

@[simp] theorem State.writeProt_pending (path : Path) (d : Word) (s : State) : (State.writeProt path d s).pending = s.pending := by
  unfold State.writeProt
  repeat' split
  all_goals simp

@[simp] theorem State.writeBal_pending (path : Path) (d : Word) (s : State) : (State.writeBal path d s).pending = s.pending := rfl

@[simp] theorem State.writeOdata_pending (p : CPort) (j : Nat) (d : Word) (s : State) :
    (State.writeOdata p j d s).pending = s.pending := by
  unfold State.writeOdata
  dsimp only
  split <;> rfl

@[simp] theorem State.writeCan_pending (path : Path) (p : CPort) (o : Nat) (d : Word) (s : State) :
    (State.writeCan path p o d s).pending = s.pending := by
  unfold State.writeCan
  repeat' split
  all_goals simp only [execFifoFlush, execFifoPop, outState_next, State.setCan_pending, State.writeOdata_pending]
  split <;> rfl

@[simp] theorem State.writeObj_pending (p : CPort) (k w : Nat) (d : Word) (s : State) :
    (State.writeObj p k w d s).pending = s.pending := by
  unfold State.writeObj
  split
  · extract_lets t
    have ht : t.pending = s.pending := by
      simp only [t, execObjCancel, outState_next]
      repeat' split
      all_goals simp
    split
    · simp only [execObjSend, outState_next]
      split <;> simpa using ht
    · exact ht
  · rfl
  · rfl

@[simp] theorem State.writeRpl_pending (path : Path) (d : Word) (s : State) : (State.writeRpl path d s).pending = s.pending := by
  unfold State.writeRpl
  split
  · simp
  · simp [execRplStop]

@[simp] theorem execWireCalStart_pending (p : Path) (k : BitVec 8) (s t : State) :
    (outState (execWireCalStart p k s) t).pending = s.pending := rfl

@[simp] theorem execWireCalAbort_pending (p : Path) (k : BitVec 8) (s t : State) :
    (outState (execWireCalAbort p k s) t).pending = s.pending := by
  unfold execWireCalAbort
  split <;> simp

@[simp] theorem execResetLoopRelease_pending (p : Path) (k : BitVec 8) (s t : State) :
    (outState (execResetLoopRelease p k s) t).pending = s.pending := by
  simp only [execResetLoopRelease, outState_next]
  split <;> rfl

@[simp] theorem execHandlingClose_pending (p : Path) (k : BitVec 8) (s t : State) :
    (outState (execHandlingClose p k s) t).pending = s.pending := by
  simp only [execHandlingClose, outState_next]
  split <;> rfl

@[simp] theorem execEnum_pending (p : Path) (k : BitVec 8) (s t : State) : (outState (execEnum p k s) t).pending = s.pending := by
  simp only [execEnum, outState_next]
  split <;> rfl

@[simp] theorem State.writeHigh_pending (path : Path) (a : Nat) (d : Word) (s : State) :
    (State.writeHigh path a d s).pending = s.pending := by
  unfold State.writeHigh
  split
  case h_6 =>
    extract_lets t
    have ht : t.pending = s.pending := by
      simp only [t]
      split
      · exact execWireCalStart_pending ..
      · rfl
    split
    · exact (execWireCalAbort_pending ..).trans ht
    · split <;> exact ht
  case h_14 =>
    extract_lets t
    have ht : t.pending = s.pending := by
      simp only [t]
      split
      · exact execResetLoopRelease_pending ..
      · rfl
    split
    · exact (execHandlingClose_pending ..).trans ht
    · exact ht
  case h_25 => split <;> simp [execLogClear]
  case h_27 => simp [execCalendarSet]
  case h_29 => split <;> simp
  case h_34 => split <;> simp
  all_goals simp

@[simp] theorem State.nextOfsActive_pending (w ofs : Nat) (s : State) : (State.nextOfsActive w ofs s).pending = s.pending := by
  unfold State.nextOfsActive
  repeat' split
  all_goals simp

@[simp] theorem State.activateStaged_pending (x : Staged) (s : State) : (State.activateStaged x s).pending = s.pending := by
  unfold State.activateStaged
  dsimp only
  repeat' split
  all_goals simp

@[simp] theorem State.activateAll_pending (s : State) : s.activateAll.pending = s.pending := by simp [State.activateAll]

/-! The host -/

@[simp] theorem State.answered_pending (rseq : BitVec 8) (bytes : List Byte) (status : Nat) (data : List Word) (store : Bool) (s : State) :
    (State.answered rseq bytes status data store s).pending = s.pending := rfl

@[simp] theorem State.crcInjected_pending (rseq : BitVec 8) (s : State) : (State.crcInjected rseq s).pending = s.pending := by
  simp [State.crcInjected]

@[simp] theorem State.hostReads_pending (l : List Nat) (s : State) : (s.hostReads l).2.pending = s.pending := by
  have h : ∀ (l : List Nat) (x : List Word × State), (l.foldl (fun x a =>
      if x.2.regStatus false a = 1 then
        let r := x.2.regRead .host a
        (x.1 ++ [r.1], r.2)
      else (x.1 ++ [0], x.2)) x).2.pending = x.2.pending := by
    intro l
    induction l with
    | nil => exact fun _ => rfl
    | cons a l ih =>
      intro x
      rw [List.foldl_cons, ih]
      split
      · exact State.afterRead_pending ..
      · rfl
  exact h l ([], s)

@[simp] theorem State.burstOn_pending (s : State) : s.burstOn.pending = s.pending := by
  unfold State.burstOn
  split <;> simp

@[simp] theorem State.hostCrcFails_pending (rseq : BitVec 8) (s : State) : (State.hostCrcFails rseq s).pending = s.pending := by
  simp [State.hostCrcFails]

@[simp] theorem State.hostFraming_pending (s : State) : s.hostFraming.pending = s.pending := by simp [State.hostFraming]

@[simp] theorem State.remoteTimeout_pending (tag : BitVec 8) (s : State) : (State.remoteTimeout tag s).pending = s.pending := by
  unfold State.remoteTimeout
  repeat' split
  all_goals simp

@[simp] theorem State.remoteTimeouts_pending (s : State) : s.remoteTimeouts.pending = s.pending := by
  simp [State.remoteTimeouts]

/-! The relay of the ring -/

@[simp] theorem State.takeMarker_pending (arrivalNs phaseErr : Int) (l : List Byte) (s : State) :
    (State.takeMarker arrivalNs phaseErr l s).pending = s.pending := rfl

@[simp] theorem State.takeCadence_pending (slow : Bool) (decision : Word) (s : State) :
    (State.takeCadence slow decision s).pending = s.pending := rfl

@[simp] theorem State.takeRecord_pending (x : Nat) (s : State) : (State.takeRecord x s).pending = s.pending := by
  unfold State.takeRecord
  split <;> rfl

@[simp] theorem State.takeCopy_pending (l : List Byte) (s : State) : (State.takeCopy l s).pending = s.pending := by
  unfold State.takeCopy
  dsimp only
  repeat' split
  all_goals simp

@[simp] theorem State.takeFields_pending (l : List Byte) (s : State) : (State.takeFields l s).pending = s.pending := by
  simp [State.takeFields]

@[simp] theorem State.staleNotice_pending (e : RingEnt) (s : State) : (State.staleNotice e s).pending = s.pending := by
  simp [State.staleNotice]

@[simp] theorem State.copyDelay_pending (p : RPort) (l : List Byte) (s : State) : (State.copyDelay p l s).pending = s.pending := rfl

@[simp] theorem State.kfOwn_pending (l : List Byte) (s : State) : (State.kfOwn l s).pending = s.pending := by
  unfold State.kfOwn
  dsimp only
  repeat' split
  all_goals simp

end Sys2Proof.Machine
end

section
/-! PROOFS. The queue: the boundary, the evaluation and the start. -/

namespace Sys2Proof.Machine

open Sys2Proof

/-! The boundary's rows -/

@[simp] theorem State.onChans_pending {op : Ch → State → State} (h : ∀ c s, (op c s).pending = s.pending)
    (due : State → Ch → Bool) (s : State) : (s.onChans due op).pending = s.pending := by
  unfold State.onChans
  dsimp only
  split
  · rw [State.drive_pending]
    split <;> split <;> simp [h]
  · rfl

@[simp] theorem State.settleSeq_pending (s : State) : s.settleSeq.pending = s.pending := by
  simp only [State.settleSeq, State.doIf_pending State.mutualLoss_pending, State.doIf_pending State.openOp_pending,
    State.doIf_pending State.ackOp_pending, State.doIf_pending State.closeOp_pending, State.onChans_pending State.commit_pending,
    State.onChans_pending State.preClose_pending, State.onChans_pending State.preOpen_pending, State.onChans_pending State.coolEnd_pending,
    State.onChans_pending State.curfree_pending, State.onChans_pending State.negOpen_pending, State.onChans_pending State.rdWarn_pending,
    State.onChans_pending State.rdExpire_pending]

@[simp] theorem State.settlePins_pending (s : State) : s.settlePins.pending = s.pending := by
  have hout (n : Nat) (t : State) : (State.doIf (fun t => t.lapseDue n .l) (State.lapse n .l)
      (State.doIf (fun t => t.lapseDue n .h) (State.lapse n .h)
        (State.doIf (fun t => t.pullinDue n) (State.pullinEnd n) t))).pending = t.pending := by
    simp only [State.doIf_pending (State.lapse_pending n _), State.doIf_pending (State.pullinEnd_pending n)]
  simp only [State.settlePins, State.doIf_pending State.setHostLost_pending, State.doIf_pending State.coilLow_pending, runAll_pending hout]

@[simp] theorem State.settleFaults_pending (s : State) : s.settleFaults.pending = s.pending := by
  simp only [State.settleFaults, State.doIf_pending (State.closeHandling_pending 2), State.latchClear_pending, State.blkSettle_pending,
    State.expiries_pending]

@[simp] theorem State.settleSync_pending (s : State) : s.settleSync.pending = s.pending := by
  simp only [State.settleSync, State.doIf_pending State.acquire_pending, State.doIf_pending State.lockOn_pending,
    State.doIf_pending State.holdover_pending, State.doIf_pending State.sourceLost_pending, State.doIf_pending State.resync_pending,
    State.doIf_pending State.majorityChange_pending, State.doIf_pending State.coordinate_pending, State.strChange_pending,
    State.startListen_pending]

@[simp] theorem State.settleCan_pending (s : State) : s.settleCan.pending = s.pending := by simp [State.settleCan]

@[simp] theorem State.settleData_pending (s : State) : s.settleData.pending = s.pending := by
  have hwire (g : Nat) (t : State) : (runAll (fun j s => State.doIf (fun t => t.wireClearDue g j) (State.wireClear g j) s)
      (List.range 25) t).pending = t.pending :=
    runAll_pending (fun j => State.doIf_pending (State.wireClear_pending g j) _) _ t
  have hswitch (i : Nat) (t : State) : (State.doIf (fun t => t.conductsDue (i + 1)) (State.conducts (i + 1))
      (State.doIf (fun t => t.noCurrentDue (i + 1)) (State.noCurrent (i + 1)) t)).pending = t.pending := by
    simp only [State.doIf_pending (State.conducts_pending (i + 1)), State.doIf_pending (State.noCurrent_pending (i + 1))]
  simp only [State.settleData, State.reqStart_pending, State.reqWithdraw_pending, State.doIf_pending State.runStart_pending,
    State.doIf_pending State.runStop_pending, State.doIf_pending (State.calEnd_pending _ _), State.doIf_pending State.balTimeout_pending,
    runAll_pending hswitch, runAll_pending hwire, runAll_pending fun g => State.doIf_pending (State.startSlot_pending g) _,
    State.doIf_pending State.startPass_pending, State.doIf_pending State.cadenceChange_pending, State.doIf_pending State.isoPhase_pending,
    State.doIf_pending State.isoResult_pending]

@[simp] theorem State.settleCores_pending (s : State) : s.settleCores.pending = s.pending := by simp [State.settleCores]

@[simp] theorem State.settlePower_pending (s : State) : s.settlePower.pending = s.pending := by
  have hreq (dormant key : Bool) (k : Nat) (due : State → Bool) (t : State) :
      (t.doIf due (State.pwrRequest dormant key k)).pending = t.pending :=
    State.doIf_pending (State.pwrRequest_pending dormant key k) due t
  have hdue (dormant : Bool) (due : State → Bool) (t : State) :
      (t.doIf due fun t => t.pwrRequest dormant (t.pwr.req.any (·.2)) 1).pending = t.pending :=
    State.doIf_pending (fun t => State.pwrRequest_pending dormant _ 1 t) due t
  simp only [State.settlePower, State.setPwr_pending, State.doIf_pending State.ringSilent_pending, hreq, hdue, State.remoteTimeouts_pending]

/-! The evaluation -/

@[simp] theorem State.strMinStep_pending (s : State) : s.strMinStep.pending = s.pending := by
  unfold State.strMinStep
  repeat' split
  all_goals simp

@[simp] theorem State.checkStage_pending (s : State) : s.checkStage.pending = s.pending := by simp [State.checkStage]

@[simp] theorem State.blockStage_pending (k : Nat) (s : State) : (State.blockStage k s).pending = s.pending :=
  State.doIf_pending (State.blockEnd_pending k) _ s

@[simp] theorem State.mirrorOut_pending (n : Nat) (ch : Ch) (s : State) : (State.mirrorOut n ch s).pending = s.pending := by
  unfold State.mirrorOut
  dsimp only
  repeat' split
  all_goals simp

@[simp] theorem State.postRec_pending (ch : Ch) (s : State) : (State.postRec ch s).pending = s.pending := by
  unfold State.postRec
  split <;> rfl

@[simp] theorem State.stageLow_pending (i : Nat) (s : State) : (State.stageLow i s).pending = s.pending := by
  unfold State.stageLow
  split
  case h_1 => exact (State.dataA_pending (fun t => by simp) _).trans (State.isoClose_pending s)
  case h_2 => exact State.dataA_pending (fun t => (State.sweepBlock_pending _).trans (runAll_pending State.blockStage_pending _ t)) s
  case h_3 =>
    rw [State.dataA_pending (fun t => by simp)]
    simp only [State.sumCount_pending, State.checkFollow_pending, State.checkCompare_pending, State.isoCollect_pending, State.formCells_pending,
      State.dataA_pending State.owEval_pending, State.freeze_pending]
  case h_4 => exact State.checkStage_pending s
  case h_5 => exact State.doIf_pending State.sumChange_pending _ s
  case h_6 => exact State.dataA_pending (State.onPins_pending fun g j => State.doIf_pending (State.suspect_pending g j) _) s
  case h_7 => exact State.onPins_pending (fun g j => State.doIf_pending (State.graceExpire_pending g j) _) s
  case h_8 => exact State.onA_pending (State.doIf_pending State.thermal_pending _) s
  case h_9 => exact State.onA_pending (State.doIf_pending State.outOfRating_pending _) s
  case h_10 => exact State.onA_pending State.swapCount_pending s
  case h_11 => exact State.onA_pending (State.doIf_pending State.swap_pending _) s
  case h_12 => exact State.onA_pending (State.doIf_pending State.selectRecord_pending _) s
  case h_13 => exact State.onA_pending (fun t => by simp) s
  case h_14 => exact State.onA_pending (State.doIf_pending State.anchorEmpty_pending _) s
  case h_15 => exact State.onA_pending (State.doIf_pending State.anchorFull_pending _) s
  case h_16 => exact State.onA_pending (State.doIf_pending State.anchorVoltage_pending _) s
  case h_17 => exact State.onA_pending State.accConflict_pending s
  case h_18 => exact State.onA_pending (State.doIf_pending State.starve_pending _) s
  case h_19 => exact State.onA_pending State.accFinish_pending s
  case h_20 => rfl

@[simp] theorem State.stageHigh_pending (i : Nat) (s : State) : (State.stageHigh i s).pending = s.pending := by
  unfold State.stageHigh
  split
  · exact State.onA_pending (State.doIf_pending State.cycStore_pending _) s
  · exact (State.debounceAll_pending _).trans (State.onA_pending (fun t => by simp) s)
  · simp
  · simp
  · exact runAll_pending State.telJudged_pending _ s
  · exact State.telegrams_pending s
  · rw [State.escapementEnd_pending, State.onBoth_pending State.escapement_pending, State.onA_pending State.trunkJudge_pending]
  · exact State.onBoth_pending State.clearOneOffs_pending s
  · exact State.doIf_pending State.ftcChecks_pending _ s
  · exact State.onBoth_pending State.criterion_pending s
  · exact State.pcTimeouts_pending s
  · rw [State.onBoth_pending State.weldPass_pending, State.onBoth_pending State.currentFree_pending]
  · exact State.weldTimeouts_pending s
  · exact State.onBoth_pending State.mirrorCheck_pending s
  · simp
  · exact State.publish_pending s
  · exact State.onA_pending (State.doIf_pending State.healthClear_pending _) s
  · rw [State.cmdAll_pending, State.onBoth_pending State.postRec_pending]
  · rfl

@[simp] theorem State.evalStage_pending (i : Nat) (s : State) : (State.evalStage i s).pending = s.pending := by
  unfold State.evalStage
  repeat' split
  all_goals simp

@[simp] theorem State.evalTo_pending (k : Nat) (s : State) : (State.evalTo k s).pending = s.pending := by simp [State.evalTo]

@[simp] theorem State.evalFrom_pending (k : Nat) (s : State) : (State.evalFrom k s).pending = s.pending := by
  simp [State.evalFrom]

@[simp] theorem State.evaluation_pending (usA usB : Nat) (s : State) : (State.evaluation usA usB s).pending = s.pending := by
  simp [State.evaluation]

@[simp] theorem State.evalOwed_pending (s : State) : s.evalOwed.pending = s.pending := by
  unfold State.evalOwed
  split <;> simp

@[simp] theorem State.debugHalt_pending (halt : Bool) (s : State) : (State.debugHalt halt s).pending = s.pending := by
  unfold State.debugHalt
  split <;> simp

/-! The start -/

@[simp] theorem State.startFault_pending (c : Bool) (fs : Nat) (detail : Word) (s : State) :
    (State.startFault c fs detail s).pending = s.pending := by
  unfold State.startFault
  split <;> rfl

@[simp] theorem State.dieHeld_pending (c : Bool) (ch : Ch) (s : State) : (State.dieHeld c ch s).pending = s.pending := by
  unfold State.dieHeld
  repeat' split
  all_goals simp

@[simp] theorem State.startBoot_pending (bad : BitVec 2) (s : State) : (State.startBoot bad s).pending = s.pending := by
  simp [State.startBoot]

@[simp] theorem State.startTest_pending (ch : Ch) (fail : Option (Nat × Nat)) (s : State) :
    (State.startTest ch fail s).pending = s.pending := by
  unfold State.startTest
  split <;> rfl

@[simp] theorem State.startMemory_pending (bad : BitVec 3) (s : State) : (State.startMemory bad s).pending = s.pending := by
  unfold State.startMemory
  dsimp only
  split <;> simp

@[simp] theorem State.loadJournal_pending (s : State) : s.loadJournal.pending = s.pending := by
  rfl

@[simp] theorem State.startSwap_pending (s : State) : s.startSwap.pending = s.pending := by
  unfold State.startSwap
  split <;> rfl

@[simp] theorem State.activation_pending (b : Bool) (s : State) : (State.activation b s).pending = s.pending := by
  unfold State.activation
  dsimp only
  split <;> rfl

@[simp] theorem State.imageRegs_pending (s : State) : s.imageRegs.pending = s.pending := rfl

@[simp] theorem State.logRestart_pending (s : State) : s.logRestart.pending = s.pending := by
  unfold State.logRestart
  dsimp only
  repeat' split
  all_goals simp

@[simp] theorem State.loneMaster_pending (s : State) : s.loneMaster.pending = s.pending := by
  unfold State.loneMaster
  split <;> rfl

@[simp] theorem State.startRecords_pending (s : State) : s.startRecords.pending = s.pending := runAll_pending (fun _ _ => by rfl) _ _

@[simp] theorem State.calibrate_pending (cell chk cur hv : List (Int × Int)) (s : State) :
    (State.calibrate cell chk cur hv s).pending = s.pending := by
  refine runAll_pending (fun g t => ?_) _ _
  split <;> simp

@[simp] theorem State.stepOn_pending (k : Nat) (s : State) : (State.stepOn k s).pending = s.pending := rfl

@[simp] theorem State.startEnd_pending (ms : Nat) (s : State) : (State.startEnd ms s).pending = s.pending := rfl

@[simp] theorem State.startBoundary_pending (s : State) : s.startBoundary.pending = s.pending := by
  unfold State.startBoundary
  split <;> rfl

/-! The end of a beat -/

@[simp] theorem State.fastPath_pending (ch : Ch) (j : Nat) (o : SubBeatIn) (s : State) :
    (State.fastPath ch j o s).pending = s.pending := by
  simp [State.fastPath]

@[simp] theorem State.subBeatOf_pending (j : Nat) (o : SubBeatIn) (s : State) : (State.subBeatOf j o s).pending = s.pending := by
  unfold State.subBeatOf
  dsimp only
  split <;> simp

@[simp] theorem State.subBeatReady_pending (s : State) : s.subBeatReady.pending = s.pending := by
  unfold State.subBeatReady
  dsimp only
  split <;> simp

@[simp] theorem State.compareNow_pending (s : State) : s.compareNow.pending = s.pending := by simp [State.compareNow]

@[simp] theorem State.slowSample_pending (x1 x2 : Option Raw) (s : State) : (State.slowSample x1 x2 s).pending = s.pending := by
  unfold State.slowSample
  split <;> simp

@[simp] theorem State.chargeBoundary_pending (s0 : State) : s0.chargeBoundary.pending = s0.pending := by
  simp [State.chargeBoundary]

@[simp] theorem State.ofsNext_pending (s : State) : s.ofsNext.pending = s.pending := by
  unfold State.ofsNext
  split <;> rfl

@[simp] theorem State.endBeat_pending (o : BoundaryIn) (s : State) : (State.endBeat o s).pending = s.pending := by
  unfold State.endBeat
  extract_lets r t had u
  have hu : u.pending = s.pending := (State.recorderBoundary_pending ..).trans (State.canCompose_pending (s.beat.num + 1) s)
  rw [State.overflowRaise_pending, State.lockEnd_pending, State.setBeat_pending, State.chargeBoundary_pending,
    State.dataA_pending State.impBoundary_pending, State.slowSample_pending, hu]

@[simp] theorem State.activateBeat_pending (s : State) : s.activateBeat.pending = s.pending := by simp [State.activateBeat]

@[simp] theorem State.sourcesBeat_pending (o : BoundaryIn) (s : State) : (State.sourcesBeat o s).pending = s.pending := by
  simp [State.sourcesBeat]

@[simp] theorem State.dataBeat_pending (s : State) : s.dataBeat.pending = s.pending := by simp [State.dataBeat]

@[simp] theorem State.controlBeat_pending (s : State) : s.controlBeat.pending = s.pending := by simp [State.controlBeat]

@[simp] theorem State.firstBeat_pending (o : BoundaryIn) (s : State) : (State.firstBeat o s).pending = s.pending := by
  simp [State.firstBeat]

end Sys2Proof.Machine
end

section
/-! PROOFS. The queue: the boundary, the start, the register writes and the host's accesses as wholes. -/

namespace Sys2Proof.Machine

/-! The banks, the resets and the stops -/

@[simp] theorem State.wdataWrite_pending (p : Path) (d : Word) (s : State) : (s.wdataWrite p d).pending = s.pending := by
  unfold State.wdataWrite
  split <;> rfl

@[simp] theorem State.crownOpened_pending (s : State) : s.crownOpened.pending = s.pending := by
  unfold State.crownOpened
  extract_lets t b u
  have ht : t.pending = s.pending := by
    simp only [t]
    split
    · exact State.debugEnd_pending s
    · rfl
  split
  · exact ht
  · exact (State.cfgTask_pending false u).trans ht

@[simp] theorem State.crownChange_pending (second : Bool) (s : State) : (s.crownChange second).pending = s.pending := by
  unfold State.crownChange
  extract_lets t
  split
  · rfl
  · exact State.crownOpened_pending t

@[simp] theorem State.crownDiffer_pending (s : State) : s.crownDiffer.pending = s.pending :=
  (State.crownOpened_pending _).trans (State.raiseCond_pending 13 0 s)

@[simp] theorem State.eraseStart_pending (s : State) : s.eraseStart.pending = s.pending := by
  unfold State.eraseStart
  split <;> rfl

@[simp] theorem State.eraseEnd_pending (s : State) : s.eraseEnd.pending = s.pending := rfl

@[simp] theorem State.kept_pending (s : State) : s.kept.pending = s.pending := rfl

@[simp] theorem State.toOff_pending (s : State) : s.toOff.pending = s.pending := rfl

@[simp] theorem State.moduleReset_pending (cause : Nat) (s : State) : (s.moduleReset cause).pending = s.pending :=
  (onlyIf_pending State.countReset_pending _ _).trans (State.flushLog_pending s)

@[simp] theorem State.revertReset_pending (s : State) : s.revertReset.pending = s.pending := by
  simp [State.revertReset]

@[simp] theorem State.nrstReset_pending (s : State) : s.nrstReset.pending = s.pending := by
  unfold State.nrstReset
  extract_lets t
  have ht : t.pending = s.pending := by
    simp only [t]
    split <;> simp
  exact ht

@[simp] theorem State.powerFailStop_pending (s : State) : s.powerFailStop.pending = s.pending := by
  unfold State.powerFailStop
  split
  extract_lets t
  show t.pending = _
  simp only [t, State.lastRecord_pending, State.flushLog_pending, onlyIf_pending State.cycStore_pending, State.raise_pending]

@[simp] theorem State.enterLow_pending (s : State) : s.enterLow.pending = s.pending := by
  unfold State.enterLow
  split
  · rfl
  · next dormant trigger _ =>
    extract_lets t k x y v
    have ht : t.pending = s.pending := (State.lastRecord_pending ..).trans (State.flushLog_pending s)
    have hv : v.pending = s.pending := by
      refine Eq.trans ?_ ht
      simp only [v]
      split <;> rfl
    split
    · exact (State.wakeStart_pending ..).trans hv
    · exact hv

@[simp] theorem State.intrBegin_pending (vs : Nat) (s : State) : (s.intrBegin vs).pending = s.pending := by
  unfold State.intrBegin
  split
  · rfl
  · split
    · rfl
    · split <;> rfl

@[simp] theorem State.intrSample_pending (vs : Nat) (reserve : Bool) (s : State) : (s.intrSample vs reserve).pending = s.pending := by
  unfold State.intrSample
  split
  · exact State.intrBegin_pending vs s
  · extract_lets t
    split
    · rfl
    · split
      · exact State.intrOver_pending t
      · split <;> rfl

@[simp] theorem State.vsSample_pending (vs : Nat) (reserve : Bool) (s : State) : (s.vsSample vs reserve).pending = s.pending := by
  unfold State.vsSample
  extract_lets n t
  split
  · exact State.intrBegin_pending vs t
  · split
    · exact State.intrSample_pending vs reserve t
    · rfl

/-! What a boundary owes, and the evaluation -/

@[simp] theorem State.settleCfg_pending (s : State) : s.settleCfg.pending = s.pending := by
  simp only [State.settleCfg, State.doIf_pending State.expire_pending, State.doIf_pending State.trialCheckpoint_pending,
    State.doIf_pending State.crownAgree_pending, State.doIf_pending State.crownDiffer_pending,
    State.doIf_pending (State.crownChange_pending _)]

@[simp] theorem State.settle_pending (s : State) : s.settle.pending = s.pending := by
  unfold State.settle
  split
  · rfl
  · extract_lets t
    rw [State.doIf_pending State.revertReset_pending]
    simp only [State.burstOn_pending, State.setBeat_pending, State.swCommands_pending, t, State.settlePower_pending,
      State.settleCores_pending, State.settleCan_pending, State.settleData_pending, State.settleCfg_pending,
      State.settleSync_pending, State.settleFaults_pending, State.settlePins_pending, State.settleSeq_pending]

theorem State.inBeat_pending {f : State → State} (hf : ∀ s, (f s).pending = s.pending) (s : State) : (s.inBeat f).pending = s.pending :=
  (State.doIf_pending hf _ _).trans (State.settle_pending s)

@[simp] theorem State.evalThrough_pending (k : Nat) (s : State) : (s.evalThrough k).pending = s.pending := by
  unfold State.evalThrough
  split
  · exact State.inBeat_pending (State.evalFrom_pending (k + 1)) s
  · rfl

theorem State.evalItem_pending (k : Nat) (due : State → Bool) {op : State → State} (h : ∀ s, (op s).pending = s.pending) (s : State) :
    (s.evalItem k due op).pending = s.pending := by
  unfold State.evalItem
  split
  · rfl
  · exact State.inBeat_pending (fun t => (State.doIf_pending h due _).trans (State.evalFrom_pending k t)) s

@[simp] theorem State.evaluate_pending (usA usB : Nat) (s : State) : (s.evaluate usA usB).pending = s.pending := by
  unfold State.evaluate
  split
  · rfl
  · split
    · exact State.inBeat_pending (fun _ => by rfl) s
    · exact State.inBeat_pending (State.evaluation_pending usA usB) s

/-! The boundary -/

@[simp] theorem State.finishBeat_pending (s : State) : s.finishBeat.pending = s.pending := by
  unfold State.finishBeat
  extract_lets t u
  have heval : (s.evalOwed.evalThrough (evalStages - 1)).pending = s.pending :=
    (State.evalThrough_pending ..).trans (State.evalOwed_pending s)
  refine Eq.trans ?_ heval
  simp only [State.doIf_pending State.rplBeat_pending, State.logCleared_pending, u, State.doIf_pending State.writeSlot_pending,
    State.onBoth_pending fun c => State.doIf_pending (State.declareLoss_pending c) _, State.doIf_pending State.compareNow_pending, t,
    State.onBoth_pending fun c => State.doIf_pending (State.overrunOp_pending c) _, State.haltSpans_pending]

@[simp] theorem State.managementBeat_pending (o : BoundaryIn) (s : State) : (s.managementBeat o).pending = s.pending := by
  simp [State.managementBeat]

@[simp] theorem State.nextBeat_pending (o : BoundaryIn) (s : State) : (s.nextBeat o).pending = s.pending := by
  simp [State.nextBeat]

@[simp] theorem State.boundary_pending (o : BoundaryIn) (s : State) : (s.boundary o).pending = s.pending := by
  unfold State.boundary
  split
  · exact State.enterLow_pending s
  · split
    · exact State.moduleReset_pending _ s
    · exact State.nextBeat_pending o s

@[simp] theorem State.beatBoundary_pending (o : BoundaryIn) (s : State) : (s.beatBoundary o).pending = s.pending := by
  unfold State.beatBoundary
  split
  · exact State.powerFailStop_pending s
  · split
    · rfl
    · split
      · exact State.firstBeat_pending o s
      · exact State.inBeat_pending (fun t => (State.boundary_pending o _).trans (State.finishBeat_pending t)) s

/-! The start -/

@[simp] theorem State.chooseBank_pending (s : State) : s.chooseBank.1.pending = s.pending := by
  unfold State.chooseBank
  extract_lets last
  have hlast (t : State) (failed : Bool) : (last t failed).1.pending = t.pending := by
    simp only [last]
    split
    · rfl
    · split <;> rfl
  split
  · split
    · rfl
    · exact (hlast _ true).trans (State.revertTrial_pending 4 s)
  · exact hlast s _

@[simp] theorem State.loadImage_pending (s : State) : s.loadImage.1.pending = s.pending := by
  unfold State.loadImage
  extract_lets j rv
  have hrv : rv.pending = s.pending := by
    simp only [rv]
    split
    · exact State.revertTrial_pending 2 j
    · rfl
  have hchosen := (State.chooseBank_pending rv.startSwap).trans ((State.startSwap_pending rv).trans hrv)
  generalize rv.startSwap.chooseBank = x at hchosen
  obtain ⟨t, bank, failed⟩ := x
  dsimp only
  split
  · exact (State.activation_pending ..).trans hchosen
  · exact hchosen

theorem State.startRaised_pending (failed bare : Bool) (a : State) : (a.startRaised failed bare).pending = a.pending := by
  have hb : (runAll (fun (f : Nat × Word) (x : State) => x.raiseCond f.1 f.2) a.pwr.startFaults a).pending = a.pending :=
    runAll_pending (f := fun (f : Nat × Word) (x : State) => x.raiseCond f.1 f.2) (fun f x => State.raiseCond_pending f.1 f.2 x) _ _
  unfold State.startRaised
  extract_lets b c
  refine (onlyIf_pending (State.raiseCond_pending 65 0) _ c).trans ?_
  simp only [c]
  split
  · split
    · exact (State.raiseCond_pending ..).trans hb
    · exact (State.raise_pending ..).trans hb
  · exact hb

@[simp] theorem State.startLoad_pending (copies : Bool) (s : State) : (s.startLoad copies).pending = s.pending := by
  have hraised (t : State) (failed bare : Bool) : ((t.startTables copies).startRaised failed bare).pending = t.pending := by
    rw [State.startRaised_pending]
    simp [State.startTables]
  have hcounted (failed : Bool) (d : State) : (d.startCounted failed).pending = d.pending := rfl
  rw [State.startLoad_eq, State.startUnits, State.canStart_pending, onlyIf_pending State.eraseStart_pending, State.rwFollow_pending,
    State.escapementReset_pending, State.accRestart_pending, hcounted, hraised, State.loadImage_pending]

@[simp] theorem State.startStep_pending (o : StartIn) (s : State) : (s.startStep o).pending = s.pending := by
  unfold State.startStep
  split
  case h_7 =>
    split
    · rfl
    · rw [State.stepOn_pending, onlyIf_pending (State.raiseCond_pending 28 0)]
  all_goals simp

/-! Register writes and the host port -/

theorem execHistImport_pending (p : Path) (k : BitVec 8) (s t : State) :
    (outState (execHistImport p k s) t).pending = s.pending := by
  simp only [execHistImport, outState_next]
  split <;> rfl

theorem execHistRestore_pending (p : Path) (k : BitVec 8) (s t : State) :
    (outState (execHistRestore p k s) t).pending = s.pending := by
  simp only [execHistRestore, outState_next]
  split
  · exact State.histRestore_pending p s
  · rfl

@[simp] theorem State.writeLow_pending (p : Path) (a : Nat) (d : Word) (s : State) : (s.writeLow p a d).pending = s.pending := by
  unfold State.writeLow
  split
  case h_6 => exact State.winWrite_pending d s
  case h_7 =>
    extract_lets t
    have ht : t.pending = s.pending := by
      simp only [t]
      split
      · exact execHistImport_pending ..
      · rfl
    split
    · exact (execHistRestore_pending ..).trans ht
    · exact ht
  case h_8 => exact State.srcSelWrite_pending ..
  case h_16 => exact State.writeRpl_pending p d s
  case h_17 => exact State.rplIn_pending d s
  case h_18 => exact State.writeCfgCmd_pending p d s
  case h_20 => exact State.wdataWrite_pending p d s
  all_goals rfl

@[simp] theorem State.regWrite_pending (p : Path) (a : Nat) (d : Word) (s : State) : (s.regWrite p a d).pending = s.pending := by
  unfold State.regWrite
  split
  · rfl
  · split
    · exact State.writeObj_pending ..
    · split
      · exact State.writeCan_pending ..
      · split
        · rfl
        · split
          · rfl
          · split
            · exact State.writeLow_pending p a d s
            · exact State.writeHigh_pending ..

theorem State.transact_pending {run : Nat → State → Nat × List Word × State} (hrun : ∀ k s, (run k s).2.2.pending = s.pending)
    (rseq : BitVec 8) (bytes : List Byte) (exempt mine : Bool) (n : Nat) (s : State) :
    (s.transact rseq bytes exempt mine n run).pending = s.pending := by
  have hheard : (s.heard mine).pending = s.pending := by cases mine <;> rfl
  cases hup : s.hostUp with
  | false => rw [State.transact_down hup]
  | true =>
    cases hinj : s.injectsHost with
    | true => rw [State.transact_injected hup hinj, State.crcInjected_pending]
    | false =>
      rw [State.transact_judged hup hinj]
      split
      · exact hheard
      · exact (hrun _ _).trans hheard

theorem localRead_pending (l : List Nat) (k : Nat) (s : State) : (localRead l k s).2.2.pending = s.pending :=
  State.hostReads_pending _ s

theorem localBurst_pending (l parts : List Nat) (k : Nat) (s : State) : (localBurst l parts k s).2.2.pending = s.pending := by
  simp only [localBurst]
  split <;> exact State.hostReads_pending _ s

theorem State.hostWrites_pending (ws : List (Nat × Word)) (s : State) : (s.hostWrites ws).pending = s.pending := by
  refine foldl_pending (fun t x => ?_) ws s
  split
  · exact State.regWrite_pending .host x.1 x.2 t
  · rfl

theorem localWrite_pending (ws : List (Nat × Word)) (k : Nat) (s : State) : (localWrite ws k s).2.2.pending = s.pending :=
  State.hostWrites_pending _ s

theorem relayRun_pending (u : UAddr) (write : Bool) (a : BitVec 14) (d : Word) (k : Nat) (s : State) :
    (relayRun u write a d k s).2.2.pending = s.pending := by
  unfold relayRun
  split
  · rfl
  · obtain ⟨relays, tag, sys, h⟩ := State.relayRequest_frame u write a d s
    rw [h]

@[simp] theorem State.hostRead_pending (rseq unit : BitVec 8) (a : BitVec 14) (s : State) :
    (s.hostRead rseq unit a).pending = s.pending := by
  refine State.transact_pending (fun k t => ?_) _ _ _ _ _ s
  split
  · exact localRead_pending _ k t
  · exact relayRun_pending _ _ _ _ k t

@[simp] theorem State.hostWrite_pending (rseq unit : BitVec 8) (a : BitVec 14) (d : Word) (s : State) :
    (s.hostWrite rseq unit a d).pending = s.pending := by
  refine State.transact_pending (fun k t => ?_) _ _ _ _ _ s
  split
  · exact localWrite_pending _ k t
  · exact relayRun_pending _ _ _ _ k t

@[simp] theorem State.hostBurstRead_pending (rseq unit : BitVec 8) (a : BitVec 14) (fix : Bool) (n : Nat) (parts : List Nat) (s : State) :
    (s.hostBurstRead rseq unit a fix n parts).pending = s.pending := by
  refine State.transact_pending (fun k t => ?_) _ _ _ _ _ s
  split
  · cases burstAddrs fix a.toNat n with
    | some l => exact localBurst_pending l parts k t
    | none => rfl
  · rfl

@[simp] theorem State.hostBurstWrite_pending (rseq unit : BitVec 8) (a : BitVec 14) (fix : Bool) (words : List Word) (s : State) :
    (s.hostBurstWrite rseq unit a fix words).pending = s.pending := by
  refine State.transact_pending (fun k t => ?_) _ _ _ _ _ s
  split
  · cases burstAddrs fix a.toNat words.length with
    | some l => exact localWrite_pending _ k t
    | none => rfl
  · rfl

@[simp] theorem State.hostFrame_pending (l : List Byte) (s : State) : (s.hostFrame l).pending = s.pending := by
  unfold State.hostFrame
  split
  · rfl
  · split
    · exact State.hostFraming_pending s
    · split
      · unfold State.hostOp
        dsimp only
        split <;> simp
      · exact State.hostCrcFails_pending _ s

/-! Register accesses over the ring -/

theorem State.ringAccess_pending (e : RingEnt) (s : State) : (s.ringAccess e).2.pending = s.pending := by
  unfold State.ringAccess
  dsimp only
  split
  · rfl
  · split
    · exact State.regWrite_pending .ring _ _ s
    · exact State.afterRead_pending ..

theorem State.ownEntry_pending (e : RingEnt) (s : State) : (s.ownEntry e).2.pending = s.pending := by
  unfold State.ownEntry
  split
  · exact State.ringAccess_pending e s
  · rfl

theorem State.mfEntry_pending (e : RingEnt) (s : State) : (s.mfEntry e).pending = s.pending := by
  unfold State.mfEntry
  split
  · rfl
  · split
    · exact State.staleNotice_pending e s
    · split
      · exact State.ownEntry_pending e s
      · rfl

theorem State.kfEntry_pending (e : RingEnt) (s : State) : (s.kfEntry e).pending = s.pending := by
  unfold State.kfEntry
  split
  · rfl
  · split
    · exact State.ownEntry_pending e s
    · rfl

theorem State.mfTake_pending (ns err : Int) (p : RPort) (l : List Byte) (s : State) : (s.mfTake ns err p l).pending = s.pending := by
  unfold State.mfTake
  extract_lets t
  split
  · rfl
  · refine (runAll_pending State.mfEntry_pending _ _).trans ?_
    simp only [State.takeFields_pending, State.takeMarker_pending]
    rfl

theorem State.kfTake_pending (l : List Byte) (s : State) : (s.kfTake l).pending = s.pending := by
  unfold State.kfTake
  split
  · rfl
  · extract_lets t u
    have hu : u.pending = s.pending := State.kfOwn_pending l t
    split
    · rfl
    · split
      · exact (runAll_pending State.kfEntry_pending _ _).trans hu
      · exact hu

end Sys2Proof.Machine
end

section
/-! PROOFS. Every command has a next state and leaves the queue alone. -/

namespace Sys2Proof.Machine

/-- The command answers a state with the queue that it was given. -/
def State.KeepsQueue (s : State) (o : Host.Outcome State Fault Refusal) : Prop := ∃ t, o = .next t ∧ t.pending = s.pending

namespace State.KeepsQueue

variable {s t : State}

theorem same (h : t.pending = s.pending) : s.KeepsQueue (.next t) := ⟨t, rfl, h⟩

/-- A row of the table that acts when it is due. -/
theorem due {c : Prop} [Decidable c] (h : t.pending = s.pending) : s.KeepsQueue (.next (if c then t else s)) := by
  split
  · exact same h
  · exact same rfl

/-- A row of a boundary (R305). -/
theorem row {due : State → Bool} {op : State → State} (h : ∀ s, (op s).pending = s.pending) :
    s.KeepsQueue (.next (s.boundaryRow due op)) :=
  same (State.boundaryRow_pending h due s)

/-- A stage of the evaluation (R31). -/
theorem stage (k : Nat) : s.KeepsQueue (.next (s.evalThrough k)) := same (State.evalThrough_pending k s)

/-- An item of a stage (R31). -/
theorem item {k : Nat} {due : State → Bool} {op : State → State} (h : ∀ s, (op s).pending = s.pending) :
    s.KeepsQueue (.next (s.evalItem k due op)) :=
  same (State.evalItem_pending k due h s)

end State.KeepsQueue

/-! Commands whose meaning is more than one operation -/

theorem execSubBeat_keepsQueue (o : SubBeatIn) (s : State) : s.KeepsQueue (execSubBeat o s) := by
  refine .same ((State.vsSample_pending o.vs o.reserve _).trans ?_)
  split
  · exact State.inBeat_pending (fun t => (State.subBeatOf_pending ..).trans (State.subBeatReady_pending t)) s
  · rfl

theorem execWindowClose_keepsQueue (w : Fin 4) (o : WindowIn) (s : State) : s.KeepsQueue (execWindowClose w o s) := by
  refine .same ?_
  have ht : (if s.edgeWaits w.val then s.fallBack (usTicks (s.winOfs w.val) + 1) else s).pending = s.pending := by
    split
    · exact State.fallBack_pending ..
    · rfl
  generalize (if s.edgeWaits w.val then s.fallBack (usTicks (s.winOfs w.val) + 1) else s) = t at ht
  split
  · simpa using ht
  · exact ht

theorem execBankErase_keepsQueue (b : Bool) (s : State) : s.KeepsQueue (execBankErase b s) := by
  refine .same ?_
  repeat' split
  all_goals simp

theorem execThermistorConversion_keepsQueue (vals : List (Option (BitVec 16))) (retried : BitVec 4) (die : List (Option Int))
    (s : State) : s.KeepsQueue (execThermistorConversion vals retried die s) := by
  refine .same ?_
  rw [runAll_pending fun n => State.raiseTransient_pending 30 (nword n), runAll_pending fun n => State.raise_pending 30 (nword n)]
  repeat' split
  all_goals simp

theorem execInsulationCycleStart_keepsQueue (ohm : Nat) (s : State) : s.KeepsQueue (execInsulationCycleStart ohm s) := by
  refine .same ?_
  have ht : (if s.isoResultDue then s.isoResult else s).pending = s.pending := by
    split <;> simp
  generalize (if s.isoResultDue then s.isoResult else s) = t at ht
  dsimp only
  repeat' split
  all_goals simpa using ht

theorem execLinkRetry_keepsQueue (g : Fin 4) (c : Ch) (item : LinkItem) (ok : Bool) (s : State) :
    s.KeepsQueue (execLinkRetry g c item ok s) := by
  unfold execLinkRetry
  dsimp only
  repeat' split
  all_goals exact .same (by simp)

theorem execMemoryReadRetry_keepsQueue (m : Mem) (w : Nat) (ok : Bool) (s : State) : s.KeepsQueue (execMemoryReadRetry m w ok s) := by
  unfold execMemoryReadRetry
  repeat' split
  all_goals exact .same (by simp)

theorem execNrstAssert_keepsQueue (lowUs : Nat) (s : State) : s.KeepsQueue (execNrstAssert lowUs s) := by
  refine .same ?_
  repeat' split
  all_goals simp

theorem execSupplyGood_keepsQueue (vs : Nat) (s : State) : s.KeepsQueue (execSupplyGood vs s) := by
  refine .same ?_
  repeat' split
  all_goals rfl

/-- The frame that a command takes from the receive FIFO leaves the rest as it is (R400). -/
theorem State.rxPop_pending {s t : State} {type : Nat} {f : RxFrame} (h : s.rxPop type = some (f, t)) : t.pending = s.pending := by
  unfold State.rxPop at h
  split at h
  · exact absurd h (by simp)
  · simp only [Option.some.injEq, Prod.mk.injEq] at h
    obtain ⟨-, rfl⟩ := h
    rfl

/-- A command that takes the next frame of its type (R400). -/
theorem State.KeepsQueue.frame {s : State} {type : Nat} {take : RxFrame → State → State} (h : ∀ f t, (take f t).pending = t.pending) :
    s.KeepsQueue (.next (match s.rxPop type with | none => s | some (f, t) => take f t)) := by
  refine .same ?_
  split
  · rfl
  · next f t hx => exact (h f t).trans (State.rxPop_pending hx)

theorem execErReceive_keepsQueue (s : State) : s.KeepsQueue (execErReceive s) := by
  refine .frame fun f t => ?_
  repeat' split
  all_goals simp

/-- The response of the boundary (R409). -/
theorem State.rfSend_pending (s v : State) : (s.rfSend v).pending = s.pending := by
  simp [State.rfSend]

/-- Every command of the table leaves the queue alone. -/
theorem exec_keepsQueue (i : Instr) (s : State) : s.KeepsQueue (exec i s) := by
  cases i with
  | beatBoundary o => exact .same (State.beatBoundary_pending ..)
  | subBeat o => exact execSubBeat_keepsQueue o s
  | windowClose w o => exact execWindowClose_keepsQueue w o s
  | balancingGate w => exact .same rfl
  | evaluation usA usB => exact .same (State.evaluate_pending ..)
  | beatOverrun ch => exact .due (State.overrunOp_pending ..)
  | crossComparison recA recB => exact .due (State.crossCompare_pending ..)
  | syncRisingEdge ofs interval dev => exact .same (State.risingEdge_pending ..)
  | syncFallingEdge ofs => exact .same (State.fallingEdge_pending ..)
  | enterAcquiring => exact .due (State.acquire_pending ..)
  | enterLocked => exact .due (State.lockOn_pending ..)
  | enterHoldover => exact .due (State.holdover_pending ..)
  | beatSourceLost => exact .due (State.sourceLost_pending ..)
  | srcSelWrite path v => exact .same (State.srcSelWrite_pending ..)
  | sbOfsResync => exact .due (State.resync_pending ..)
  | rplStart path bank rawCell => exact .same (State.rplStart_pending ..)
  | rplStop path => exact .same (State.rplStop_pending 3 s)
  | replayRecord bytes => exact .same (State.rplRecord_pending ..)
  | replayBeat => exact .due (State.rplBeat_pending ..)
  | rplOutRead path => exact .same (State.rplOutTake_pending ..)
  | cfgOpen path key => exact .same (execCfgOpen_pending path key s s)
  | cfgVerify path key => exact .same (execCfgVerify_pending path key s s)
  | verifyComplete => exact .due (State.verifyEnd_pending ..)
  | cfgCommit path key => exact .same (execCfgCommit_pending path key s s)
  | commitDigestComplete => exact .due (State.commitEnd_pending ..)
  | cfgConfirm path key => exact .same (execCfgConfirm_pending path key s s)
  | cfgRollback path key => exact .same (execCfgRollback_pending path key s s)
  | cfgAbort path key => exact .same (execCfgAbort_pending path key s s)
  | otpKey path key => exact .same (execOtpKey_pending path key s s)
  | cfgWdataWrite path data => exact .same (State.wdataWrite_pending ..)
  | crownSwitchChange second => exact .due (State.crownChange_pending ..)
  | crownDisagreement => exact .due (State.crownDiffer_pending ..)
  | trialCheckpoint => exact .due (State.trialCheckpoint_pending ..)
  | trialExpiry => exact .due (State.expire_pending ..)
  | revertReset => exact .due (State.revertReset_pending ..)
  | bankErase bank => exact execBankErase_keepsQueue bank s
  | thermistorConversion vals retried die => exact execThermistorConversion_keepsQueue vals retried die s
  | insulationCycleStart peOhm => exact execInsulationCycleStart_keepsQueue peOhm s
  | insulationPhaseChange => exact .due (State.isoPhase_pending ..)
  | referenceSwitchClose => exact .same (State.isoClose_pending _)
  | insulationResult => exact .due (State.isoResult_pending ..)
  | measSnap path on => exact .same rfl
  | loReadLatch path r => exact .same (State.latchHi_pending ..)
  | openWirePass => exact .due (State.startPass_pending ..)
  | openWireSlot seg => exact .due (State.startSlot_pending ..)
  | openWireSuspect seg pin => exact .item (State.suspect_pending _ _)
  | targetedSlot seg => exact .due (State.startSlot_pending ..)
  | openWireGraceExpiry seg pin => exact .item (State.graceExpire_pending _ _)
  | openWireClear seg pin => exact .due (State.wireClear_pending ..)
  | checkDisagreement cell => exact .item (State.checkDiff_pending _)
  | sumMismatch => exact .stage _
  | linkRetry seg ch item ok => exact execLinkRetry_keepsQueue seg ch item ok s
  | memoryReadRetry mem word ok => exact execMemoryReadRetry_keepsQueue mem word ok s
  | scrub mem symbols => exact .same rfl
  | balTimeout => exact .due (State.balTimeout_pending ..)
  | switchOvercurrent cell => exact .same (State.overcurrent_pending ..)
  | switchNoCurrent cell => exact .due (State.noCurrent_pending ..)
  | switchConductsOff cell => exact .due (State.conducts_pending ..)
  | wireCalStart path key => exact .same rfl
  | wireCalAbort path key => exact .same (execWireCalAbort_pending path key s s)
  | wireCalComplete => exact .due (State.calEnd_pending ..)
  | excitationRunStart => exact .due (State.runStart_pending ..)
  | excitationToggle => exact .same rfl
  | excitationRunStop => exact .due (State.runStop_pending ..)
  | impedanceBlockEnd slot => exact .item (State.blockEnd_pending _)
  | currentRequest => exact .same ((State.reqStart_pending _).trans (State.reqWithdraw_pending s))
  | sweepStart path nf => exact .same (State.sweepStart_pending ..)
  | sweepEnd => exact .due (State.sweepEnd_pending ..)
  | fullAnchor => exact .stage _
  | emptyAnchor => exact .stage _
  | voltageAnchor => exact .stage _
  | anchorStarvation => exact .stage _
  | healthWarningClear => exact .stage _
  | cadenceChange => exact .due (State.cadenceChange_pending ..)
  | cycleCountStore => exact .stage _
  | swapDetected => exact .stage _
  | recordSelect => exact .stage _
  | protClose => exact .row (State.closeOp_pending)
  | protOpen => exact .row (State.openOp_pending)
  | safeAcknowledge => exact .row (State.ackOp_pending)
  | cmdTelegram tel => exact .due (State.cmdTake_pending ..)
  | protectionLevelChange => exact .stage _
  | preClose => exact .row (State.onChans_pending State.preClose_pending _)
  | commitPoint => exact .row (State.onChans_pending State.commit_pending _)
  | preOpen => exact .row (State.onChans_pending State.preOpen_pending _)
  | failureToCloseCheck => exact .stage _
  | prechargeTimeout => exact .stage _
  | prechargeCoolEnd => exact .row (State.onChans_pending State.coolEnd_pending _)
  | curfreeTimeout => exact .row (State.onChans_pending State.curfree_pending _)
  | negOpen => exact .row (State.onChans_pending State.negOpen_pending _)
  | weldTimeout => exact .stage _
  | mirrorCheck out => exact .item (State.onBoth_pending (State.mirrorOut_pending _))
  | unrequestedOpening => exact .stage _
  | coilOvercurrent out => exact .same (State.raiseCond_pending ..)
  | pullinEnd out => exact .row (State.pullinEnd_pending _)
  | coilSupplyLow => exact .due (State.coilLow_pending ..)
  | inputChange inp ch => exact .item (State.inputChange_pending _ _)
  | monitorWordMissing pos ch => exact .same (State.wordMissing_pending ..)
  | channelLoss declarer => exact .due (State.declareLoss_pending ..)
  | mutualLoss => exact .row (State.mutualLoss_pending)
  | holdLapse out side => exact .row (State.lapse_pending _ _)
  | rundownWarning => exact .row (State.onChans_pending State.rdWarn_pending _)
  | rundownExpiry => exact .row (State.onChans_pending State.rdExpire_pending _)
  | testPulse => exact .due (State.startPulse_pending _)
  | testPulseEnd during coilMax restored => exact .same (State.endPulse_pending ..)
  | inputTestGap ch levels => exact .due (State.inputTest_pending ..)
  | inputDiscrepancy inp => exact .item (State.discrepancy_pending _)
  | hostLost => exact .due (State.setHostLost_pending ..)
  | safeTelegramSend tel => exact .same (State.telSend_pending ..)
  | safeTelegramReceive port f => exact .same (State.telReceive_pending ..)
  | pairJudgement tel => exact .item (State.telJudged_pending _)
  | telegramLost tel => exact .item (State.telTimed_pending _)
  | lockstepMismatch ch cls => exact .due (State.mismatch_pending ..)
  | coreSplit ch => exact .row (State.splitOp_pending _)
  | coreJoin ch => exact .row (State.joinOp_pending _)
  | joinCopy ch flagged missed => exact .due (State.joinCopy_pending ..)
  | debugSessionOpen ch => exact .same rfl
  | debuggerWrite target addr value met => exact .same (State.dbgWrite_pending ..)
  | debugHalt edge => exact .due (State.debugHalt_pending ..)
  | faultRaise fs transient detail ofsNs => exact .due (by split <;> simp)
  | severityExpiry fs => exact .due (State.sevClear_pending ..)
  | blockResetEnd blk cal => exact .due (State.blkEnd_pending ..)
  | handlingClose path key => exact .due (State.closeHandling_pending ..)
  | handlingTimeout => exact .due (State.closeHandling_pending ..)
  | resetLoopRelease path key => exact .due (State.releaseLoop_pending ..)
  | latchClear => exact .same (State.latchClear_pending ..)
  | fltInj path key full target => exact .same (State.inject_pending ..)
  | injectionResult flagged => exact .same (State.injResult_pending ..)
  | thermalEvaluation => exact .stage _
  | excursionOutOfRating => exact .stage _
  | portUp p => exact .due (State.portComesUp_pending ..)
  | portDown p fail => exact .same rfl
  | delayExchange p sentNs backNs => exact .same rfl
  | ringFrameReceive p bytes markedBad => exact .same (State.receive_pending ..)
  | mfSend => exact .due (State.mfSendAll_pending ..)
  | mfReceive arrivalNs phaseErr => exact .frame fun f _ => State.mfTake_pending _ _ f.port f.bytes _
  | cfSend => exact .due (State.sendFrame_pending ..)
  | cfReceive => exact .frame fun f t => (by split <;> rfl)
  | rfSend => exact .due (State.rfSend_pending ..)
  | rfJudgement unit => exact .same (State.rfJudge_pending ..)
  | rrReceive => exact .frame fun f t => (State.rfResend_pending ..)
  | enum path key => exact .due rfl
  | enumeration arcN arcS serials => exact .due (State.enumerate_pending ..)
  | erReceive => exact execErReceive_keepsQueue s
  | masterStartListen => exact .same (State.startListen_pending ..)
  | standbyTakeover => exact .due (State.takeover_pending _)
  | masterYield => exact .same (State.yieldJudge_pending ..)
  | ringStateChange => exact .same (State.strChange_pending ..)
  | ringSilence => exact .due (State.ringSilent_pending ..)
  | tfSend => exact .due (State.sendFrame_pending ..)
  | tfReceive => exact .frame fun f t => (State.tfTake_pending ..)
  | kfSend => exact .due (State.kfSend_pending ..)
  | kfReceive => exact .frame fun f _ => State.kfTake_pending f.bytes _
  | majorityChange => exact .due (State.majorityChange_pending ..)
  | coordinatorTakeover => exact .due (State.coordinate_pending ..)
  | canPeriodicQueue port k => exact .same (State.queueDue_pending ..)
  | objSend port k key => exact .due (State.objSend_pending ..)
  | objCancel port k key => exact .due (State.objCancel_pending ..)
  | canFrameEnd port k how ofs loopDelay => exact .same (State.frameEnd_pending ..)
  | canFrameReceive port f endNs => exact .same (State.canReceive_pending ..)
  | fifoPop path port second => exact .same rfl
  | fifoFlush path port key f0 f1 => exact .due rfl
  | odata0Read path port => exact .same (State.odata0Read_pending ..)
  | canErrorState port tec rec err => exact .same (State.canError_pending ..)
  | busOffRecovery port recessive => exact .same (State.canRecover_pending ..)
  | canWake port pattern bad frame => exact .same (foldl_pending (fun t x => State.canWake_pending _ x t) _ s)
  | referenceSend us cycles => exact .same (State.refSend_pending ..)
  | referenceReceive f interval dev => exact .same (State.refReceive_pending ..)
  | ttMasterResume => exact .due (State.ttResume_pending ..)
  | calReceive f calSec calFrac => exact .same (State.calReceive_pending ..)
  | hostRead rseq unit addr => exact .same (State.hostRead_pending ..)
  | hostWrite rseq unit addr data => exact .same (State.hostWrite_pending ..)
  | hostBurstRead rseq unit addr fix burst => exact .same (State.hostBurstRead_pending ..)
  | hostBurstWrite rseq unit addr fix words => exact .same (State.hostBurstWrite_pending ..)
  | hostCrcError bytes => exact .same (State.hostFrame_pending ..)
  | hostFramingError => exact .same (by split <;> simp)
  | hostPop path seq => exact .same rfl
  | remoteAnswer tag status addr data => exact .same (by rw [State.remoteAnswer_pending]; repeat' split <;> simp)
  | remoteTimeout tag => exact .same (State.remoteTimeout_pending ..)
  | recorderWriteSlot => exact .due (State.writeSlot_pending ..)
  | logClear path key => exact .same rfl
  | logClearComplete => exact .same (State.logCleared_pending ..)
  | logRd0Read path => exact .same rfl
  | calendarSet path frac => exact .same (State.setCalendar_pending ..)
  | supplyGood vs => exact execSupplyGood_keepsQueue vs s
  | interruptionBegin vs => exact .same (State.intrBegin_pending ..)
  | interruptionEnd vs => exact .due (State.intrOver_pending ..)
  | powerFailStop reserve => exact .due (State.powerFailStop_pending ..)
  | nrstAssert lowUs => exact execNrstAssert_keepsQueue lowUs s
  | nrstRelease => exact .same (by split <;> rfl)
  | nrstStuck => exact .due rfl
  | nrstIgnClear => exact .due rfl
  | pwrListen => exact .due (State.pwrRequest_pending ..)
  | pwrDormant => exact .due (State.pwrRequest_pending ..)
  | listenTimeout => exact .due (State.pwrRequest_pending ..)
  | dormantTimeout => exact .due rfl
  | listenVsLow vs => exact .due rfl
  | dormantStackLow vstkMv => exact .due (State.toOff_pending ..)
  | wake sources => exact .same (State.wake_pending ..)
  | startSequence o => exact .same (State.startStep_pending ..)
  | startStepEnd ms => exact .due (State.startEnd_pending ..)
  | moduleReset => exact .due (State.moduleReset_pending ..)
  | pmcSelWrite path idx src => exact .same (State.stage_pending ..)
  | pmcSnap path on => exact .same rfl
  | histCopy unit words => exact .due (runAll_pending (fun _ _ => by split <;> rfl) _ s)
  | histRestore path key => exact .due (State.histRestore_pending ..)
  | histImport path key => exact .due rfl
  | histWinAccess path wr => exact .same (by split <;> simp)
  | registerWrite path addr data => exact .same (State.regWrite_pending ..)
  | crownAgreement => exact .due (State.crownAgree_pending ..)
  | crystalFailure ch => exact .same (State.crystalFails_pending ..)

end Sys2Proof.Machine

namespace Sys2Proof.Proofs
open Sys2Proof Sys2Proof.Machine

/-- Settles O5: no operation that a command is made of touches the queue. -/
theorem queueUntouched : Obligations.QueueUntouched := exec_keepsQueue

end Sys2Proof.Proofs
end
